-- ==== Sys2Proof/Word.lean ====
section
/-!
DEFINITION. The words of the GL1640: bytes and the fixed widths that the manual numbers (R6, R7, R9, R256).
-/

namespace Sys2Proof

/-- One byte of a frame, a record or a memory. -/
abbrev Byte := BitVec 8

/-- A byte string in address order (R10: its multi-byte fields are little-endian). -/
abbrev Bytes := List (BitVec 8)

/-- A TIME32: the low 32 bits of network time in nanoseconds (R9). -/
abbrev Time32 := BitVec 32

/-- An object's address: index times 256 plus sub-index (R255). -/
abbrev Key := Nat

end Sys2Proof
end

