-- ==== Sys2Proof/Syntax.lean ====
section
/-!
DEFINITION. The commands of the GL1640: one constructor per row of spec/opcode_table.json.
A row that a host writes carries the port p it comes from (R260: 0, 1 HSP; 2, 3 ETH; 4, 5 CAN; 6 DBG); an event row
carries what the world outside the device supplies.
-/

namespace Sys2Proof

/-- A port of R260: 0 HSP0, 1 HSP1, 2 ETH0, 3 ETH1, 4 CAN0, 5 CAN1, 6 DBG. -/
abbrev Port := Fin 7

/-- A resolver channel CHn. -/
abbrev ChId := Fin 16

/-- An exciter EXCe. -/
abbrev ExcId := Fin 4

/-- A fault source id (R199). -/
abbrev SrcId := Fin 1152

/-- One of the four input pins of a channel (R50). -/
inductive Pin where
  | sinP | sinN | cosP | cosN
  deriving DecidableEq, Repr

/-- The static trims, gains and the phase of a channel (R51, R54, R75). -/
inductive TrimObj where
  | gainSin | gainCos | ofsSin | ofsCos | fgainSin | fgainCos | quad | beta
  deriving DecidableEq, Repr

/-- The four loop coefficients (R78). -/
inductive Coef where
  | kp | ki | klag | kacc
  deriving DecidableEq, Repr

/-- An object whose write is a bank change (R82, R83): mantissa or shift of a coefficient of bank A (false) or
B (true), or a full scale. -/
inductive BankObj where
  | mant (bankB : Bool) (c : Coef)
  | shift (bankB : Bool) (c : Coef)
  | velFs
  | accFs
  deriving DecidableEq, Repr

/-- A snapshot setting whose change returns the source to IDLE (R160). -/
inductive SnapObj where
  | mode | edge | time | period
  deriving DecidableEq, Repr

/-- A configuration field of a fault source (R225). -/
inductive FltField where
  | cls | reaction | route | autoClear
  deriving DecidableEq, Repr

/-- The activities of the maintenance scheduler (R317). -/
inductive Activity where
  | probe | cal | test
  | beadCommit | store | fwBlock | logCompact
  deriving DecidableEq, Repr

/-- The scheduler's seventeen domains (R317). -/
inductive Domain where
  | chan (n : ChId)
  | mram
  deriving DecidableEq, Repr

/-- Why the management core restarts (R315, 7000h.03). -/
inductive RestartReason where
  | cold | watchdog | lockstep | liveSwap | revert
  deriving DecidableEq, Repr

/-- What drives the device into SAFE-HOLD (R337). -/
inductive HoldCause where
  | command (p : Port)
  | tempLimit
  | retired
  deriving DecidableEq, Repr

/-- Why a device reset is accepted (R351, R352). -/
inductive ResetCause where
  | rstN | vcore | vdd18
  deriving DecidableEq, Repr

/-- The code of a discarded HSP frame (R285). -/
inductive HspErr where
  | hdrCrc | payloadCrc | length | opcode | busy | truncated
  deriving DecidableEq, Repr

/-- Why the MAC discards a received frame: its EtherType or a PAUSE frame, a bad FCS, an overrun of the receive buffer
(R290, R310, R311). -/
inductive DropCause where
  | filtered | fcs | overrun
  deriving DecidableEq, Repr

/-- A frame that an Ethernet port discards. -/
structure EthDrop where
  port : Fin 2
  cause : DropCause
  deriving DecidableEq, Repr

/-- The addresses at the head of a received Ethernet frame (R290). -/
structure EthHead where
  dst : BitVec 48
  src : BitVec 48
  deriving DecidableEq, Repr

/-- One pass of the TAP through a data register: the instruction and the bits shifted in (R289). -/
structure TapPass where
  ir : Byte
  bits : Bytes
  deriving DecidableEq, Repr

/-- A head frame offered to a medium, and whether it wins the arbitration of a CAN bus (R296). -/
structure Offer where
  net : Fin 4
  wins : Bool
  deriving DecidableEq, Repr

/-- A command of the block. -/
inductive Instr where
  -- sampling and excitation
  | sampleProcess (ch : ChId) (xs xc : BitVec 16)
  | senseEstimate (e : ExcId) (x : BitVec 16)
  | zeroCrossing (e : ExcId) (half : Bool)
  | foldbackChange (e : ExcId) (vexcMv : Nat)
  | excOcShutdown (e : ExcId)
  | excRestart (p : Port) (e : ExcId)
  | excEnableWrite (p : Port) (e : ExcId) (v : Int)
  | excModeWrite (p : Port) (e : ExcId) (v : Int)
  | excFreqWrite (p : Port) (e : ExcId) (v : Int)
  | excAmplWrite (p : Port) (e : ExcId) (v : Int)
  | chExcSelWrite (p : Port) (ch : ChId) (v : Int)
  | staticTrimWrite (p : Port) (ch : ChId) (o : TrimObj) (v : Int)
  | trimBoundaryApply (ch : ChId)
  | hatbandTrip (ch : ChId) (pin : Pin) (above : Bool)
  | hatbandRelease (ch : ChId) (pin : Pin) (above : Bool)
  | glvOverload (g : Fin 8)
  | glvModeWrite (p : Port) (g : Fin 8) (v : Int)
  | probePeriodDue (ch : ChId)
  | chProbeStart (p : Port) (ch : ChId)
  | probeRun (ch : ChId)
  | probeComplete (ch : ChId) (stepS baseS toneS stepC baseC toneC : Int)
  | chRrefLearn (p : Port) (ch : ChId)
  -- the lane
  | betaMeasRefresh (ch : ChId)
  | chBetaLearn (p : Port) (ch : ChId)
  | chDesign (p : Port) (ch : ChId) (bankB : Bool)
  | bankCoeffWrite (p : Port) (ch : ChId) (o : BankObj) (v : Int)
  | chBankSwap (p : Port) (ch : ChId)
  | chBankSelWrite (p : Port) (ch : ChId) (v : Int)
  | chBankSwapAt (p : Port) (ch : ChId) (t : Time32)
  | chBankSwapCancel (p : Port) (ch : ChId)
  | timedSwapDue (ch : ChId)
  | bankSwapApply (ch : ChId)
  | chInjStart (p : Port) (ch : ChId)
  | injTestBegin (ch : ChId)
  | chInjStop (p : Port) (ch : ChId)
  | injDurationEnd (ch : ChId)
  | capArm (p : Port)
  | capStop (p : Port)
  -- channel states
  | chEnableWrite (p : Port) (ch : ChId) (v : Int)
  | settleSeed (ch : ChId)
  | warmSettleResume (ch : ChId)
  | settleComplete (ch : ChId)
  | chSettleTmo (ch : ChId)
  | coastExit (ch : ChId)
  | chCoastExpired (ch : ChId)
  | autoRecover (ch : ChId)
  | chRecover (p : Port) (ch : ChId)
  | chHome (p : Port) (ch : ChId)
  -- calibration
  | calStart (p : Port) (ch : ChId)
  | calCancel (p : Port) (ch : ChId)
  | calTriggerEval (ch : ChId)
  | calGrant (ch : ChId)
  | calWindowOpen (ch : ChId)
  | calWindowClose (ch : ChId)
  | calWindowTimeout (ch : ChId)
  | calResume (ch : ChId)
  | calTimeout (ch : ChId)
  | calEvaluate (ch : ChId)
  | rowApply (ch : ChId)
  | rowCopyComplete (ch : ChId)
  | beadCommit (failedAttempts : Fin 4)
  | btCommitNow (p : Port)
  | beadScrub (corrected uncorrectable : List (Fin 131072))
  | btRowLoad (p : Port)
  | btRowClear (p : Port)
  | setClear (p : Port) (ch : ChId) (set : Fin 8)
  -- snapshots and streams
  | syncEdge (pin : Fin 2) (rising : Bool)
  | snapTimeLatch
  | snapArm (p : Port) (src : Fin 3)
  | snapConfigWrite (p : Port) (src : Fin 3) (o : SnapObj) (v : Int)
  | pfEnableWrite (p : Port) (f : Fin 8) (v : Int)
  | positionFrameLaunch (f : Fin 8)
  -- emulators and switches
  | emuEnableWrite (p : Port) (n : Fin 16) (v : Int)
  | emuFirstValid (n : Fin 16)
  | emuSrcWrite (p : Port) (n : Fin 16) (kind : Bool) (v : Int)
  | emuTallyRelease (n : Fin 16)
  | emuSafeExit (n : Fin 16)
  | pswEnableWrite (p : Port) (n : Fin 16) (v : Int)
  | pswSrcWrite (p : Port) (n : Fin 16) (v : Int)
  -- Tally inputs
  | talSample (n : Fin 16) (a b z : Bool)
  | talEnableWrite (p : Port) (n : Fin 16) (v : Int)
  | talLimitsWrite (p : Port) (n : Fin 16) (lo hi : Int)
  | talPreset (p : Port) (n : Fin 16)
  | talIdxPresetArm (p : Port) (n : Fin 16)
  | talResume (p : Port) (n : Fin 16)
  | talSpeedTimeout (n : Fin 16)
  -- fault collection
  | faultRaise (id : SrcId)
  | faultConditionGone (id : SrcId)
  | railError (id : SrcId)
  | fltClear (p : Port) (id : SrcId)
  | fcClearAll (p : Port)
  | faultAutoClear (id : SrcId)
  | fltConfigWrite (p : Port) (id : SrcId) (o : FltField) (v : Int)
  | fltForce (p : Port) (id : SrcId) (v : Int)
  | fltCntReset (p : Port) (id : SrcId)
  | fcReinit (p : Port)
  | fcFloorRearm (p : Port)
  | fcSelftest (pass : Bool)
  | mgmtWdog
  | mgmtLockstep
  | mgmtRestart (r : RestartReason)
  | mgmtRestartDone
  -- redundancy
  | redModeWrite (p : Port) (v : Int)
  | lnkUp (k : Fin 2)
  | lnkDown (k : Fin 2)
  | recordLatchSend
  | lineTestPulse
  | recordReceive (k : Fin 2) (bytes : Bytes)
  | partnerLost (q : Fin 2)
  | releaseReceive (k : Fin 2) (seat : Fin 4)
  | clmInHigh (q : Fin 2)
  | partnerClaimed (q : Fin 2)
  | clmInFall (q : Fin 2)
  | okinChange (q : Fin 2) (level : Bool)
  | claimAttemptStart
  | guardComplete
  | arbitrateWindowEnd
  | claimAssert
  | backoffEnd
  | claimRelease
  | redClaim (p : Port)
  | redRelease (p : Port)
  | redNoActive
  | handoverDrop (q : Fin 16)
  | redCycleWrite (p : Port) (first : Bool) (v : Int)
  -- dictionary, fences, device states
  | registerWrite (p : Port) (index : BitVec 16) (sub : Byte) (data : Bytes)
  | rwfWrite (p : Port) (index : BitVec 16) (sub : Byte) (data : Bytes)
  | diagCountWrite (p : Port) (v : Int)
  | fenceLocal (p : Port) (v : BitVec 32)
  | fenceGlobal (p : Port) (v : BitVec 32)
  | fenceAt (p : Port) (v : BitVec 64)
  | groupVisible (p : Port)
  | timedGroupDue
  | portHeartbeat (p : Port) (q : Port)
  | heartbeatExpiry (q : Port)
  | grpDiscard (p : Port) (q : Port)
  | grpTimedCancel (p : Port) (q : Port)
  | goRun (p : Port)
  | goService (p : Port)
  | goConfig (p : Port)
  | leaveSafe (p : Port)
  | bootComplete
  | devStore (p : Port) (v : BitVec 32)
  | storeRun (genChanges : Fin 5) (readBackOk : Bool)
  | restoreDefaults (p : Port) (v : BitVec 32)
  | restoreStored (p : Port) (v : BitVec 32)
  -- ports
  | hspRead (h : Fin 2) (tag : Byte) (index : BitVec 16) (sub : Byte)
  | hspWrite (h : Fin 2) (tag : Byte) (index : BitVec 16) (sub : Byte) (data : Bytes)
  | hspPoll (h : Fin 2)
  | hspFrameError (h : Fin 2) (code : HspErr)
  | floor (h : Fin 2)
  | dbgFloorCapture
  | dbgDictUpdate (pass : TapPass)
  | dictDatagram (k : Fin 2) (head : EthHead) (srcIp : BitVec 32) (srcUdp : BitVec 16) (payload : Bytes)
  | arpRequest (k : Fin 2) (targetIp : BitVec 32) (head : EthHead) (srcIp : BitVec 32)
  | icmpEcho (k : Fin 2) (dstIp : BitVec 32) (head : EthHead) (srcIp : BitVec 32) (body : Bytes)
  | ptpFrameReceive (k : Fin 2) (dst src : BitVec 48) (rest : Bytes)
  | ethFrameDiscard (drop : EthDrop)
  | sdoRequest (c : Fin 2) (frame : Bytes)
  | sdoSegmentTimeout (c : Fin 2)
  | canRecover (p : Port) (c : Fin 2)
  | canBusoffRecovered (c : Fin 2)
  | tqStageData (p : Port) (q : Fin 16) (data : Bytes)
  | tqPush (p : Port) (q : Fin 16) (desc : Bytes)
  | tqFlush (p : Port) (q : Fin 16)
  | tqFrameLaunch (offer : Offer)
  | tqFrameComplete (q : Fin 16) (tec rec : Nat)
  | rxrRelease (p : Port) (k : Fin 2) (v : Int)
  -- network time
  | timeIncWrite (p : Port) (v : Int)
  | timeStep (p : Port) (v : Int)
  | timeSlewWrite (p : Port) (v : Int)
  | timeSlewDone
  | timeWrap
  | timeRef80Write (p : Port) (v : Int)
  | nrefRefresh
  -- management
  | sensorRefresh (die : Vector Int 4) (railMv : Vector Nat 5) (pllLock : Bool) (floorDev : Int)
  | schedRequest (d : Domain) (a : Activity) (commanded : Bool)
  | schedActivityEnd (d : Domain)
  | schedOverrun
  | logAppend
  | logCompact (p : Port)
  | logCompactionDue
  | updBegin (p : Port) (v : Int)
  | updData (p : Port) (data : Bytes)
  | updVerify (p : Port)
  | updActivate (p : Port)
  | updQuietPoint
  | updQuietTimeout
  | updConfirm (p : Port) (burnOk : Bool)
  | updTrialTimeout (burnOk : Bool)
  | updAbort (p : Port)
  | lcAdvance (p : Port) (v : BitVec 32)
  | authChallenge (p : Port) (q : Port)
  | authResponse (p : Port) (q : Port) (data : Bytes)
  | authLogout (p : Port) (q : Port)
  | authLockExpiry (q : Port)
  | keyWrite (p : Port) (integrator : Bool) (data : Bytes)
  | dbgLevelWrite (p : Port) (v : Int)
  | pwrRun (p : Port)
  | pwrQuiet (p : Port)
  | pwrSafeHold (c : HoldCause)
  | pwrOff (p : Port) (v : BitVec 32)
  -- reset and supplies
  | vioPor
  | deviceReset (c : ResetCause)
  | resetRelease (strap : BitVec 2) (clksel : Bool) (floorTestOk : Bool)
  | pllLock
  | analogueHold
  | exciterHold
  | tapReset
  | analogueRestart
  | exciterHoldRelease
  | vioPorRelease
  | dictServiceReady
  | copperTempValidityLoss (ch : ChId)
  | ethLinkChange (k : Fin 2) (speed : Fin 4)
  | canBusError (c : Fin 2) (tec rec : Nat)
  | runControlHalt
  | runControlResume
  deriving DecidableEq, Repr

end Sys2Proof
end

