-- ==== Sys2Proof/Decode.lean ====
section
/-!
DEFINITION. The command that a word spells by the table's bits: no row of spec/opcode_table.json gives bits, so no word
spells a command (log entry 5).
-/

namespace Sys2Proof

/-- No row gives bits. -/
def decodeTableWord (_nbits _w : Nat) : Option Instr := none

end Sys2Proof
end

