-- ==== Sys2Proof/Config.lean ====
section
/-!
DEFINITION. What the manual leaves open: the free values and the constants of one part. None has a body, so no proof
can lean on a value (log entries 7, 8, 9 and 11).
-/

namespace Sys2Proof.Config

/-- The deviation of the lane's sine at a 32-bit phase, before it is bounded to 2^-17 (R73; log entry 8). -/
opaque trigDeviation : Nat → Int

/-- The nonce drawn at the k-th use of the on-chip random generator (R331; log entry 7). -/
opaque nonceByte : Nat → Nat → BitVec 8

/-- The deviation of the FLOOROSC period count from its nominal value, before it is bounded to 3 % (R350; log entry 7). -/
opaque floorDeviation : Nat → Int

/-- A CLK_FLOOR that raises at an edge count means that FLOOROSC has no edges, not that it is off frequency: R213 gives
the source both causes (log entry 68). -/
opaque floorAbsent : Nat → Bool

/-- SERIAL (1018h.04): a constant of the part (R279). -/
opaque serial : BitVec 32

/-- HW_VERSION (1009h): eight ASCII bytes of the silicon revision (R279), byte by byte. -/
opaque hwVersion : Nat → BitVec 8

/-- REVISION (1018h.03): silicon and firmware revision (R279). -/
opaque revision : BitVec 32

/-- The hexadecimal digit v of the IDCODE (R358). -/
opaque siliconRevision : BitVec 4

/-- The firmware version of the bank the part is made with, 16 ASCII bytes (R323). -/
opaque factoryFirmware : Nat → BitVec 8

/-- The Vendor key set in OTP at manufacture (R332). -/
opaque vendorKey : Nat → BitVec 8

/-- The Caerolind public key in the boot ROM, affine coordinates on P-256 (R323). -/
opaque publicKeyX : Nat
opaque publicKeyY : Nat

/-- The factory-trimmed probe current I_p of a channel's input, in pA (R64; nominally 100 µA ± 10 %, R359). -/
opaque probeCurrent : Nat → Bool → Int

/-- A mean that a rule asks for over no sample at all, or a quotient by zero that no rule rules out
(log entry 9): which rule, and its numerator. -/
opaque emptyQuotient : Nat → Int → Int

/-- The k-th value that the manual leaves unstated: the egress stamp of a frame that never left (R298; log entry 7). -/
opaque unstated : Nat → Nat

/-- The buffer of the record that leaves at an edge holds an uncorrectable error (R244; log entry 88). -/
opaque recordBufferError : Nat → Bool

/-- What a boundary-scan cell captures at a ball whose level the model does not hold (R358; log entry 58). -/
opaque cellBit : Nat → Nat → Bool

end Sys2Proof.Config
end

