-- ==== Sys2Proof/Machine/Arith.lean ====
section
/-!
DEFINITION. Exact arithmetic before rounding, the limiters of R76 and R79, square roots, sine and cosine of a phase,
the arctangent, the exponential of R81, and the check sums of R164 and R284.
-/

namespace Sys2Proof.Machine

/-- `x` limited to `[lo, hi]`. -/
def clampI (lo hi x : Int) : Int := if x < lo then lo else if hi < x then hi else x

/-- A quotient rounded to nearest, half away from zero (log entry 9); a zero divisor gives a free value. -/
def divRound (n d : Int) : Int :=
  if d = 0 then Config.emptyQuotient 0 n
  else
    let s : Int := if (n < 0) = (d < 0) then 1 else -1
    s * Int.ofNat ((2 * n.natAbs + d.natAbs) / (2 * d.natAbs))

/-- `x * 2^e` rounded to nearest for a negative `e` (R76). -/
def scale2 (x : Int) (e : Int) : Int :=
  if 0 ≤ e then x * 2 ^ e.toNat else divRound x (2 ^ (-e).toNat)

/-- `sat15`: the Q15 range (R76). -/
def sat15 (x : Int) : Int := clampI (-(2 ^ 15)) (2 ^ 15 - 1) x

/-- `sat39`: the I40 range (R76, R79). -/
def sat39 (x : Int) : Int := clampI (-(2 ^ 39)) (2 ^ 39 - 1) x

/-- The sign as −1, 0 or 1. -/
def signI (x : Int) : Int := if x < 0 then -1 else if 0 < x then 1 else 0

/-- `x` as the signed value of its low `w` bits. -/
def wrapS (w : Nat) (x : Int) : Int := (BitVec.ofInt w x).toInt

/-- A count that saturates at its width (R116 and the other saturating counters). -/
def satInc (w : Nat) (x : Int) : Int := if x + 1 < 2 ^ w then x + 1 else 2 ^ w - 1

/-- A saturating count after `k` events. -/
def satAdd (w : Nat) (x k : Int) : Int := clampI 0 (2 ^ w - 1) (x + k)

/-- Fuel-bounded Newton steps towards the integer square root. -/
def isqrtStep : Nat → Nat → Nat → Nat
  | 0, _, x => x
  | k + 1, n, x =>
    let y := (x + n / x) / 2
    if y < x then isqrtStep k n y else x

/-- The integer square root, rounded down. -/
def isqrt (n : Nat) : Nat := if n = 0 then 0 else isqrtStep (n.log2 + 2) n (2 ^ (n.log2 / 2 + 1))

/-- The square root rounded to nearest. -/
def sqrtRound (n : Nat) : Nat :=
  let r := isqrt n
  if r * r + r < n then r + 1 else r

/-- π as a fraction of 10^60. -/
def piNum : Int := 3141592653589793238462643383279502884197169399375105820974944
/-- The denominator of `piNum`. -/
def piDen : Int := 10 ^ 60

/-- One turn holds 2^32 phases; a sine is scaled by 2^31. -/
def trigOne : Int := 2 ^ 31

/-- The fixed-point scale of the trigonometric series. -/
def seriesOne : Int := 2 ^ 60

/-- The series of the sine at `x` (scale `seriesOne`): `n` further terms after `term`, of order `k`. -/
def sinSeries : Nat → Int → Int → Int → Int → Int
  | 0, _, _, _, acc => acc
  | n + 1, x2, k, term, acc =>
    let t := -(term * x2 / seriesOne) / ((k + 1) * (k + 2))
    sinSeries n x2 (k + 2) t (acc + t)

/-- The sine of a first-quadrant phase `q` (0 to 2^30 for 0 to a quarter turn), scale `trigOne`. -/
def sinQuadrant (q : Nat) : Int :=
  let x : Int := (Int.ofNat q * 2 * piNum * seriesOne) / (piDen * 2 ^ 32)
  divRound (sinSeries 14 (x * x / seriesOne) 1 x x) (2 ^ 29)

/-- The sine of a 32-bit phase, rounded to nearest at scale `trigOne`. -/
def sinExact (p : BitVec 32) : Int :=
  let n := p.toNat
  let q := n % 2 ^ 30
  match n / 2 ^ 30 with
  | 0 => sinQuadrant q
  | 1 => sinQuadrant (2 ^ 30 - q)
  | 2 => -(sinQuadrant q)
  | _ => -(sinQuadrant (2 ^ 30 - q))

/-- The lane's sine: the exact sine with a free deviation of at most 2^-17 (R73; log entry 8). -/
def laneSin (p : BitVec 32) : Int :=
  sinExact p + clampI (-(2 ^ 14 - 1)) (2 ^ 14 - 1) (Config.trigDeviation p.toNat)

/-- The lane's cosine: the sine a quarter turn ahead. -/
def laneCos (p : BitVec 32) : Int := laneSin (p + BitVec.ofNat 32 (2 ^ 30))

/-- The exact cosine. -/
def cosExact (p : BitVec 32) : Int := sinExact (p + BitVec.ofNat 32 (2 ^ 30))

/-- A signed phase sense: negative when the phase `p` lies clockwise of the vector (`y`, `x`). -/
def crossAt (y x : Int) (p : BitVec 32) : Int := y * cosExact p - x * sinExact p

/-- Binary search of the phase of the vector (`y`, `x`) within half a turn above `base`. -/
def atanSearch : Nat → Int → Int → BitVec 32 → BitVec 32
  | 0, _, _, base => base
  | k + 1, y, x, base =>
    let mid := base + BitVec.ofNat 32 (2 ^ k)
    atanSearch k y x (if 0 ≤ crossAt y x mid then mid else base)

/-- `atan2(y, x)` as a 32-bit phase; the zero vector gives a free value (log entry 9). -/
def atan2Phase (y x : Int) : BitVec 32 :=
  if y = 0 ∧ x = 0 then BitVec.ofInt 32 (Config.emptyQuotient 1 0)
  else if 0 ≤ y ∧ ¬ (y = 0 ∧ x < 0) then atanSearch 31 y x 0
  else atanSearch 31 (-y) (-x) 0 + BitVec.ofNat 32 (2 ^ 31)

/-- The series of `exp(-x) - 1 + x - …`: `1 - exp(-x)` for a small positive `x` at scale `s`. -/
def expSeries : Nat → Int → Int → Int → Int → Int → Int
  | 0, _, _, _, _, acc => acc
  | n + 1, s, x, k, term, acc =>
    let t := -(term * x / s) / (k + 1)
    expSeries n s x (k + 1) t (acc + t)

/-- The scale of the coefficients of R81 before rounding. -/
def coefOne : Int := 10 ^ 45

/-- `1 - exp(-x)` at scale `coefOne`. -/
def oneMinusExp (x : Int) : Int := expSeries 24 coefOne x 1 x x

/-- One bit of a reflected CRC-32 (R164). -/
def crc32Bit : Nat → BitVec 32 → BitVec 32
  | 0, c => c
  | k + 1, c => crc32Bit k (if c.getLsbD 0 then (c >>> 1) ^^^ 0xEDB88320#32 else c >>> 1)

/-- The CRC-32 register after the bytes. -/
def crc32Reg (c : BitVec 32) (bs : Bytes) : BitVec 32 :=
  bs.foldl (fun c b => crc32Bit 8 (c ^^^ b.zeroExtend 32)) c

/-- The CRC-32 of IEEE 802.3 (R164). -/
def crc32 (bs : Bytes) : BitVec 32 := crc32Reg 0xFFFFFFFF#32 bs ^^^ 0xFFFFFFFF#32

/-- A linear map of a 32-bit register over GF(2): the images of its bits, the lowest first. -/
abbrev BitMap := List (BitVec 32)

/-- The map applied. -/
def BitMap.app (m : BitMap) (c : BitVec 32) : BitVec 32 :=
  (m.zipIdx.foldl (fun a x => if c.getLsbD x.2 then a ^^^ x.1 else a) 0#32)

/-- The register's move over one zero byte. -/
def zeroByte : BitMap := (List.range 32).map fun i => crc32Bit 8 (BitVec.ofNat 32 (2 ^ i))

/-- The register after `n` zero bytes, by the binary digits of `n`. -/
def crcZeros : Nat → BitMap → Nat → BitVec 32 → BitVec 32
  | 0, _, _, c => c
  | k + 1, m, n, c =>
    if n = 0 then c else crcZeros k (m.map (m.app ·)) (n / 2) (if n % 2 = 1 then m.app c else c)

/-- The register after the listed bytes of a sparse memory from address `a` to `len`, unlisted bytes being zero. -/
def crcRuns (len : Nat) : List (Nat × BitVec 8) → Nat → BitVec 32 → BitVec 32
  | [], a, c => crcZeros 32 zeroByte (len - a) c
  | (k, b) :: m, a, c => crcRuns len m (k + 1) (crc32Reg (crcZeros 32 zeroByte (k - a) c) [b])

/-- `crc32` of the first `len` bytes of a sparse memory, without listing its zeros. -/
def crcSparse (len : Nat) (m : List (Nat × BitVec 8)) : BitVec 32 := crcRuns len m 0 0xFFFFFFFF#32 ^^^ 0xFFFFFFFF#32

/-- One bit of the CRC8 of R284: polynomial 2Fh, not reflected. -/
def crc8Bit : Nat → BitVec 8 → BitVec 8
  | 0, c => c
  | k + 1, c => crc8Bit k (if c.getLsbD 7 then (c <<< 1) ^^^ 0x2F#8 else c <<< 1)

/-- The header check of an HSP frame: initial value FFh, final XOR FFh (R284). -/
def crc8 (bs : Bytes) : BitVec 8 := bs.foldl (fun c b => crc8Bit 8 (c ^^^ b)) 0xFF#8 ^^^ 0xFF#8

/-- One bit of the CRC-16 of R284: polynomial 1021h, not reflected. -/
def crc16Bit : Nat → BitVec 16 → BitVec 16
  | 0, c => c
  | k + 1, c => crc16Bit k (if c.getLsbD 15 then (c <<< 1) ^^^ 0x1021#16 else c <<< 1)

/-- The payload check of an HSP frame: initial value FFFFh, no final XOR (R284). -/
def crc16 (bs : Bytes) : BitVec 16 :=
  bs.foldl (fun c b => crc16Bit 8 (c ^^^ (BitVec.zeroExtend 16 b) <<< (8 : Nat))) 0xFFFF#16

/-- A number as `n` little-endian bytes (R10). -/
def leBytes : Nat → Nat → Bytes
  | 0, _ => []
  | n + 1, x => BitVec.ofNat 8 x :: leBytes n (x / 256)

/-- A signed number as `n` little-endian two's-complement bytes. -/
def leInt (n : Nat) (x : Int) : Bytes := leBytes n (BitVec.ofInt (8 * n) x).toNat

/-- The number that little-endian bytes spell. -/
def leNat : Bytes → Nat
  | [] => 0
  | b :: bs => b.toNat + 256 * leNat bs

/-- A number as `n` bytes, high byte first (R284, R309). -/
def beBytes (n x : Nat) : Bytes := (leBytes n x).reverse

/-- The number that bytes in network order spell. -/
def beNat (bs : Bytes) : Nat := leNat bs.reverse

/-- `n` bytes of a string from offset `o`. -/
def sliceB (o n : Nat) (bs : Bytes) : Bytes := (bs.drop o).take n

/-- A byte string cut or zero-padded to `n` bytes. -/
def padTo (n : Nat) (bs : Bytes) : Bytes := bs.take n ++ List.replicate (n - bs.length) 0#8

/-- `bs` with the bytes `x` in place from offset `o`. -/
def putB (o : Nat) (x bs : Bytes) : Bytes := bs.take o ++ x ++ bs.drop (o + x.length)

/-- Bit `i` of a number. -/
def bitN (x i : Nat) : Bool := x / 2 ^ i % 2 = 1

/-- A Bool as 0 or 1. -/
def b2n (b : Bool) : Nat := if b then 1 else 0

/-- A Bool as 0 or 1. -/
def b2i (b : Bool) : Int := if b then 1 else 0

/-- The modular comparison of R84: `c` has reached or passed `t` by less than 2^31. -/
def reached (c t : Time32) : Bool := (c - t).toNat < 2 ^ 31

end Sys2Proof.Machine
end

