-- ==== Sys2Proof/Machine/Regs.lean ====
section
/-!
DEFINITION. The object dictionary of R255 to R262: every object's address, type, access code, least role, value range
and reserved bits, a name for each, and the defaults. A repeated block is given for its unit 0; the strides are those of R262.
-/

namespace Sys2Proof.Machine

/-- The types of R256. -/
inductive Ty where
  | bool | u8 | u16 | u32 | u64 | i8 | i16 | i32 | i64 | angle24 | pos40 | time80 | cmd
  | domain (len : Nat)
  deriving DecidableEq, Repr

/-- The access codes of R258; a CMD object has code WO and type `cmd`. -/
inductive Acc where
  | ro | rw | wo | rwf | rws
  deriving DecidableEq, Repr

/-- The session roles of R259, in rising order. -/
inductive Role where
  | observer | operator | integrator | vendor
  deriving DecidableEq, Repr

/-- A role's number (R280). -/
def Role.num : Role → Nat
  | .observer => 0 | .operator => 1 | .integrator => 2 | .vendor => 3

/-- `a` may do what `b` may do (R259). -/
def Role.atLeast (a b : Role) : Bool := b.num ≤ a.num

/-- One object of the dictionary, of unit 0 in a repeated block. -/
structure Obj where
  index : Nat
  sub : Nat
  ty : Ty
  acc : Acc
  role : Role
  /-- The lowest and highest value, where the manual gives a range. -/
  range : Option (Int × Int)
  /-- The bits that are not reserved, where some are (R11). -/
  mask : Option Nat
  deriving DecidableEq, Repr

namespace Reg

/-- 1000h.00 DEV_TYPE (R279). -/
def DEV_TYPE : Key := 0x100000
/-- 1001h.00 ERROR_REG (R279). -/
def ERROR_REG : Key := 0x100100
/-- 1002h.00 DEV_STATUS (R279). -/
def DEV_STATUS : Key := 0x100200
/-- 1003h.00 DIAG_COUNT (R279). -/
def DIAG_COUNT : Key := 0x100300
/-- 1003h.01 DIAG_REC0 (R279). -/
def DIAG_REC0 : Key := 0x100301
/-- 1003h.02 DIAG_REC1 (R279). -/
def DIAG_REC1 : Key := 0x100302
/-- 1003h.03 DIAG_REC2 (R279). -/
def DIAG_REC2 : Key := 0x100303
/-- 1003h.04 DIAG_REC3 (R279). -/
def DIAG_REC3 : Key := 0x100304
/-- 1003h.05 DIAG_REC4 (R279). -/
def DIAG_REC4 : Key := 0x100305
/-- 1003h.06 DIAG_REC5 (R279). -/
def DIAG_REC5 : Key := 0x100306
/-- 1003h.07 DIAG_REC6 (R279). -/
def DIAG_REC6 : Key := 0x100307
/-- 1003h.08 DIAG_REC7 (R279). -/
def DIAG_REC7 : Key := 0x100308
/-- 1003h.09 DIAG_REC8 (R279). -/
def DIAG_REC8 : Key := 0x100309
/-- 1003h.0A DIAG_REC9 (R279). -/
def DIAG_REC9 : Key := 0x10030A
/-- 1003h.0B DIAG_REC10 (R279). -/
def DIAG_REC10 : Key := 0x10030B
/-- 1003h.0C DIAG_REC11 (R279). -/
def DIAG_REC11 : Key := 0x10030C
/-- 1003h.0D DIAG_REC12 (R279). -/
def DIAG_REC12 : Key := 0x10030D
/-- 1003h.0E DIAG_REC13 (R279). -/
def DIAG_REC13 : Key := 0x10030E
/-- 1003h.0F DIAG_REC14 (R279). -/
def DIAG_REC14 : Key := 0x10030F
/-- 1003h.10 DIAG_REC15 (R279). -/
def DIAG_REC15 : Key := 0x100310
/-- 1008h.00 DEV_NAME (R279). -/
def DEV_NAME : Key := 0x100800
/-- 1009h.00 HW_VERSION (R279). -/
def HW_VERSION : Key := 0x100900
/-- 100Ah.00 FW_VERSION (R279). -/
def FW_VERSION : Key := 0x100A00
/-- 1010h.01 DEV_STORE (R279). -/
def DEV_STORE : Key := 0x101001
/-- 1011h.01 RESTORE_DEFAULTS (R279). -/
def RESTORE_DEFAULTS : Key := 0x101101
/-- 1011h.02 RESTORE_STORED (R279). -/
def RESTORE_STORED : Key := 0x101102
/-- 1018h.01 VENDOR_ID (R279). -/
def VENDOR_ID : Key := 0x101801
/-- 1018h.02 PRODUCT_CODE (R279). -/
def PRODUCT_CODE : Key := 0x101802
/-- 1018h.03 REVISION (R279). -/
def REVISION : Key := 0x101803
/-- 1018h.04 SERIAL (R279). -/
def SERIAL : Key := 0x101804
/-- 1020h.01 DEV_STATE (R279). -/
def DEV_STATE : Key := 0x102001
/-- 1020h.02 DEV_DEGRADED (R279). -/
def DEV_DEGRADED : Key := 0x102002
/-- 1020h.03 DEV_STATE_REASON (R279). -/
def DEV_STATE_REASON : Key := 0x102003
/-- 1020h.04 DEV_STATE_TIME (R279). -/
def DEV_STATE_TIME : Key := 0x102004
/-- 1020h.05 DEV_AUTORUN (R279). -/
def DEV_AUTORUN : Key := 0x102005
/-- 1020h.06 CFG_GEN (R279). -/
def CFG_GEN : Key := 0x102006
/-- 1020h.07 DEV_REFUSE_CNT (R279). -/
def DEV_REFUSE_CNT : Key := 0x102007
/-- 1020h.08 STORE_STATE (R279). -/
def STORE_STATE : Key := 0x102008
/-- 1020h.09 STORE_GEN (R279). -/
def STORE_GEN : Key := 0x102009
/-- 1020h.0A STORE_SOURCE (R279). -/
def STORE_SOURCE : Key := 0x10200A
/-- 1020h.0B STORE_DETAIL (R279). -/
def STORE_DETAIL : Key := 0x10200B
/-- 1100h.01 FENCE_LOCAL (R280). -/
def FENCE_LOCAL : Key := 0x110001
/-- 1101h.01 FENCE_GLOBAL (R280). -/
def FENCE_GLOBAL : Key := 0x110101
/-- 1102h.01 FENCE_AT (R280). -/
def FENCE_AT : Key := 0x110201
/-- 1103h.01 DEV_STATE_CMD (R280). -/
def DEV_STATE_CMD : Key := 0x110301
/-- 1104h.01 PEND_TOTAL (R280). -/
def PEND_TOTAL : Key := 0x110401
/-- 1104h.02 PEND_WIN_INDEX (R280). -/
def PEND_WIN_INDEX : Key := 0x110402
/-- 1104h.03 PEND_WIN_DATA (R280). -/
def PEND_WIN_DATA : Key := 0x110403
/-- 1104h.04 TIMED_COUNT (R280). -/
def TIMED_COUNT : Key := 0x110404
/-- 1105h.01 TIMED_GROUP0 (R280). -/
def TIMED_GROUP0 : Key := 0x110501
/-- 1105h.02 TIMED_GROUP1 (R280). -/
def TIMED_GROUP1 : Key := 0x110502
/-- 1105h.03 TIMED_GROUP2 (R280). -/
def TIMED_GROUP2 : Key := 0x110503
/-- 1105h.04 TIMED_GROUP3 (R280). -/
def TIMED_GROUP3 : Key := 0x110504
/-- 1105h.05 TIMED_GROUP4 (R280). -/
def TIMED_GROUP4 : Key := 0x110505
/-- 1105h.06 TIMED_GROUP5 (R280). -/
def TIMED_GROUP5 : Key := 0x110506
/-- 1105h.07 TIMED_GROUP6 (R280). -/
def TIMED_GROUP6 : Key := 0x110507
/-- 1105h.08 TIMED_GROUP7 (R280). -/
def TIMED_GROUP7 : Key := 0x110508
/-- 1105h.09 TIMED_GROUP8 (R280). -/
def TIMED_GROUP8 : Key := 0x110509
/-- 1105h.0A TIMED_GROUP9 (R280). -/
def TIMED_GROUP9 : Key := 0x11050A
/-- 1105h.0B TIMED_GROUP10 (R280). -/
def TIMED_GROUP10 : Key := 0x11050B
/-- 1105h.0C TIMED_GROUP11 (R280). -/
def TIMED_GROUP11 : Key := 0x11050C
/-- 1105h.0D TIMED_GROUP12 (R280). -/
def TIMED_GROUP12 : Key := 0x11050D
/-- 1105h.0E TIMED_GROUP13 (R280). -/
def TIMED_GROUP13 : Key := 0x11050E
/-- 1105h.0F TIMED_GROUP14 (R280). -/
def TIMED_GROUP14 : Key := 0x11050F
/-- 1105h.10 TIMED_GROUP15 (R280). -/
def TIMED_GROUP15 : Key := 0x110510
/-- 1110h.01 PORT_HB_TMO of unit `n` (R280). -/
def PORT_HB_TMO (n : Nat) : Key := 0x111001 + 0x100 * n
/-- 1110h.02 PORT_HEARTBEAT of unit `n` (R280). -/
def PORT_HEARTBEAT (n : Nat) : Key := 0x111002 + 0x100 * n
/-- 1110h.03 PORT_HB_STATE of unit `n` (R280). -/
def PORT_HB_STATE (n : Nat) : Key := 0x111003 + 0x100 * n
/-- 1110h.04 GRP_OPEN_ENTRIES of unit `n` (R280). -/
def GRP_OPEN_ENTRIES (n : Nat) : Key := 0x111004 + 0x100 * n
/-- 1110h.05 GRP_LAST_TAG of unit `n` (R280). -/
def GRP_LAST_TAG (n : Nat) : Key := 0x111005 + 0x100 * n
/-- 1110h.06 GRP_LAST_RESULT of unit `n` (R280). -/
def GRP_LAST_RESULT (n : Nat) : Key := 0x111006 + 0x100 * n
/-- 1110h.07 GRP_FAIL_OBJ of unit `n` (R280). -/
def GRP_FAIL_OBJ (n : Nat) : Key := 0x111007 + 0x100 * n
/-- 1110h.08 GRP_DISCARD of unit `n` (R280). -/
def GRP_DISCARD (n : Nat) : Key := 0x111008 + 0x100 * n
/-- 1110h.09 GRP_TIMED_CANCEL of unit `n` (R280). -/
def GRP_TIMED_CANCEL (n : Nat) : Key := 0x111009 + 0x100 * n
/-- 1110h.0A GRP_DISCARD_CNT of unit `n` (R280). -/
def GRP_DISCARD_CNT (n : Nat) : Key := 0x11100A + 0x100 * n
/-- 1110h.0B PORT_ROLE of unit `n` (R280). -/
def PORT_ROLE (n : Nat) : Key := 0x11100B + 0x100 * n
/-- 1110h.0C GRP_TAG_RESULT of unit `n` (R280). -/
def GRP_TAG_RESULT (n : Nat) : Key := 0x11100C + 0x100 * n
/-- 1200h.01 ETH_ENABLE of unit `n` (R311). -/
def ETH_ENABLE (n : Nat) : Key := 0x120001 + 0x100 * n
/-- 1200h.02 ETH_MAC of unit `n` (R311). -/
def ETH_MAC (n : Nat) : Key := 0x120002 + 0x100 * n
/-- 1200h.03 ETH_IP of unit `n` (R311). -/
def ETH_IP (n : Nat) : Key := 0x120003 + 0x100 * n
/-- 1200h.04 ETH_SPEED of unit `n` (R311). -/
def ETH_SPEED (n : Nat) : Key := 0x120004 + 0x100 * n
/-- 1200h.05 ETH_RGMII_DLY of unit `n` (R311). -/
def ETH_RGMII_DLY (n : Nat) : Key := 0x120005 + 0x100 * n
/-- 1200h.06 DGR_PEER_IP of unit `n` (R311). -/
def DGR_PEER_IP (n : Nat) : Key := 0x120006 + 0x100 * n
/-- 1200h.07 DGR_PEER_UDP of unit `n` (R311). -/
def DGR_PEER_UDP (n : Nat) : Key := 0x120007 + 0x100 * n
/-- 1200h.08 ETH_LINK of unit `n` (R311). -/
def ETH_LINK (n : Nat) : Key := 0x120008 + 0x100 * n
/-- 1200h.09 ETH_RX_CNT of unit `n` (R311). -/
def ETH_RX_CNT (n : Nat) : Key := 0x120009 + 0x100 * n
/-- 1200h.0A ETH_RX_ERR_CNT of unit `n` (R311). -/
def ETH_RX_ERR_CNT (n : Nat) : Key := 0x12000A + 0x100 * n
/-- 1200h.0B ETH_RX_DROP_CNT of unit `n` (R311). -/
def ETH_RX_DROP_CNT (n : Nat) : Key := 0x12000B + 0x100 * n
/-- 1200h.0C DGR_FOREIGN_CNT of unit `n` (R311). -/
def DGR_FOREIGN_CNT (n : Nat) : Key := 0x12000C + 0x100 * n
/-- 1200h.0D DGR_DROP_CNT of unit `n` (R311). -/
def DGR_DROP_CNT (n : Nat) : Key := 0x12000D + 0x100 * n
/-- 1210h.01 CAN_ENABLE of unit `n` (R311). -/
def CAN_ENABLE (n : Nat) : Key := 0x121001 + 0x100 * n
/-- 1210h.02 CAN_NODE_ID of unit `n` (R311). -/
def CAN_NODE_ID (n : Nat) : Key := 0x121002 + 0x100 * n
/-- 1210h.03 CAN_NOM_RATE of unit `n` (R311). -/
def CAN_NOM_RATE (n : Nat) : Key := 0x121003 + 0x100 * n
/-- 1210h.04 CAN_NOM_SP of unit `n` (R311). -/
def CAN_NOM_SP (n : Nat) : Key := 0x121004 + 0x100 * n
/-- 1210h.05 CAN_DATA_RATE of unit `n` (R311). -/
def CAN_DATA_RATE (n : Nat) : Key := 0x121005 + 0x100 * n
/-- 1210h.06 CAN_DATA_SP of unit `n` (R311). -/
def CAN_DATA_SP (n : Nat) : Key := 0x121006 + 0x100 * n
/-- 1210h.07 CAN_BOFF_AUTO of unit `n` (R311). -/
def CAN_BOFF_AUTO (n : Nat) : Key := 0x121007 + 0x100 * n
/-- 1210h.08 CAN_RECOVER of unit `n` (R311). -/
def CAN_RECOVER (n : Nat) : Key := 0x121008 + 0x100 * n
/-- 1210h.09 CAN_STATE of unit `n` (R311). -/
def CAN_STATE (n : Nat) : Key := 0x121009 + 0x100 * n
/-- 1210h.0A CAN_ERR_CNTS of unit `n` (R311). -/
def CAN_ERR_CNTS (n : Nat) : Key := 0x12100A + 0x100 * n
/-- 1210h.0B CAN_BOFF_CNT of unit `n` (R311). -/
def CAN_BOFF_CNT (n : Nat) : Key := 0x12100B + 0x100 * n
/-- 1210h.0C CAN_SDO_ABORT_CNT of unit `n` (R311). -/
def CAN_SDO_ABORT_CNT (n : Nat) : Key := 0x12100C + 0x100 * n
/-- 1220h.01 HSP_HDR_CRC_CNT of unit `n` (R311). -/
def HSP_HDR_CRC_CNT (n : Nat) : Key := 0x122001 + 0x100 * n
/-- 1220h.02 HSP_PAY_CRC_CNT of unit `n` (R311). -/
def HSP_PAY_CRC_CNT (n : Nat) : Key := 0x122002 + 0x100 * n
/-- 1220h.03 HSP_FRAME_ERR_CNT of unit `n` (R311). -/
def HSP_FRAME_ERR_CNT (n : Nat) : Key := 0x122003 + 0x100 * n
/-- 1300h.01 PF_ENABLE of unit `n` (R180). -/
def PF_ENABLE (n : Nat) : Key := 0x130001 + 0x100 * n
/-- 1300h.02 PF_QUEUE of unit `n` (R180). -/
def PF_QUEUE (n : Nat) : Key := 0x130002 + 0x100 * n
/-- 1300h.03 PF_ID of unit `n` (R180). -/
def PF_ID (n : Nat) : Key := 0x130003 + 0x100 * n
/-- 1300h.04 PF_CH_MASK of unit `n` (R180). -/
def PF_CH_MASK (n : Nat) : Key := 0x130004 + 0x100 * n
/-- 1300h.05 PF_FIRST of unit `n` (R180). -/
def PF_FIRST (n : Nat) : Key := 0x130005 + 0x100 * n
/-- 1300h.06 PF_PERIOD of unit `n` (R180). -/
def PF_PERIOD (n : Nat) : Key := 0x130006 + 0x100 * n
/-- 1300h.07 PF_DEST of unit `n` (R180). -/
def PF_DEST (n : Nat) : Key := 0x130007 + 0x100 * n
/-- 1300h.08 PF_VLAN of unit `n` (R180). -/
def PF_VLAN (n : Nat) : Key := 0x130008 + 0x100 * n
/-- 1300h.09 PF_CAN_ID of unit `n` (R180). -/
def PF_CAN_ID (n : Nat) : Key := 0x130009 + 0x100 * n
/-- 1300h.0A PF_SEQ of unit `n` (R180). -/
def PF_SEQ (n : Nat) : Key := 0x13000A + 0x100 * n
/-- 1300h.0B PF_SKIP_CNT of unit `n` (R180). -/
def PF_SKIP_CNT (n : Nat) : Key := 0x13000B + 0x100 * n
/-- 1400h.01 TIME_NOW (R312). -/
def TIME_NOW : Key := 0x140001
/-- 1400h.02 TIME_INC (R312). -/
def TIME_INC : Key := 0x140002
/-- 1400h.03 TIME_STEP (R312). -/
def TIME_STEP : Key := 0x140003
/-- 1400h.04 TIME_SLEW (R312). -/
def TIME_SLEW : Key := 0x140004
/-- 1400h.05 TIME_SLEW_LEFT (R312). -/
def TIME_SLEW_LEFT : Key := 0x140005
/-- 1400h.06 TIME_STEP_CNT (R312). -/
def TIME_STEP_CNT : Key := 0x140006
/-- 1400h.07 TIME_WRAPS (R312). -/
def TIME_WRAPS : Key := 0x140007
/-- 1401h.01 TIME_REF80 (R312). -/
def TIME_REF80 : Key := 0x140101
/-- 1401h.02 TIME_REF_VALID (R312). -/
def TIME_REF_VALID : Key := 0x140102
/-- 1401h.03 TIME_NOW80 (R312). -/
def TIME_NOW80 : Key := 0x140103
/-- 1410h.01 PTP_ENABLE of unit `n` (R312). -/
def PTP_ENABLE (n : Nat) : Key := 0x141001 + 0x100 * n
/-- 1410h.02 PTP_ING_LAT of unit `n` (R312). -/
def PTP_ING_LAT (n : Nat) : Key := 0x141002 + 0x100 * n
/-- 1410h.03 PTP_EGR_LAT of unit `n` (R312). -/
def PTP_EGR_LAT (n : Nat) : Key := 0x141003 + 0x100 * n
/-- 1410h.04 PTP_ING_ASYM of unit `n` (R312). -/
def PTP_ING_ASYM (n : Nat) : Key := 0x141004 + 0x100 * n
/-- 1410h.05 PTP_EGR_ASYM of unit `n` (R312). -/
def PTP_EGR_ASYM (n : Nat) : Key := 0x141005 + 0x100 * n
/-- 1410h.06 PTP_MCAST of unit `n` (R312). -/
def PTP_MCAST (n : Nat) : Key := 0x141006 + 0x100 * n
/-- 1410h.07 PTP_RX_CNT of unit `n` (R312). -/
def PTP_RX_CNT (n : Nat) : Key := 0x141007 + 0x100 * n
/-- 1418h.01 RXR_COUNT of unit `n` (R312). -/
def RXR_COUNT (n : Nat) : Key := 0x141801 + 0x100 * n
/-- 1418h.02 RXR_WIN_INDEX of unit `n` (R312). -/
def RXR_WIN_INDEX (n : Nat) : Key := 0x141802 + 0x100 * n
/-- 1418h.03 RXR_WIN_DATA of unit `n` (R312). -/
def RXR_WIN_DATA (n : Nat) : Key := 0x141803 + 0x100 * n
/-- 1418h.04 RXR_RELEASE of unit `n` (R312). -/
def RXR_RELEASE (n : Nat) : Key := 0x141804 + 0x100 * n
/-- 1418h.05 RXR_OVF_CNT of unit `n` (R312). -/
def RXR_OVF_CNT (n : Nat) : Key := 0x141805 + 0x100 * n
/-- 1440h.01 SNAP_MODE of unit `n` (R179). -/
def SNAP_MODE (n : Nat) : Key := 0x144001 + 0x100 * n
/-- 1440h.02 SNAP_ALIGN of unit `n` (R179). -/
def SNAP_ALIGN (n : Nat) : Key := 0x144002 + 0x100 * n
/-- 1440h.03 SNAP_EDGE of unit `n` (R179). -/
def SNAP_EDGE (n : Nat) : Key := 0x144003 + 0x100 * n
/-- 1440h.04 SNAP_TIME of unit `n` (R179). -/
def SNAP_TIME (n : Nat) : Key := 0x144004 + 0x100 * n
/-- 1440h.05 SNAP_PERIOD of unit `n` (R179). -/
def SNAP_PERIOD (n : Nat) : Key := 0x144005 + 0x100 * n
/-- 1440h.06 SNAP_ARM of unit `n` (R179). -/
def SNAP_ARM (n : Nat) : Key := 0x144006 + 0x100 * n
/-- 1440h.07 SNAP_STATE of unit `n` (R179). -/
def SNAP_STATE (n : Nat) : Key := 0x144007 + 0x100 * n
/-- 1440h.08 SNAP_SEQ of unit `n` (R179). -/
def SNAP_SEQ (n : Nat) : Key := 0x144008 + 0x100 * n
/-- 1440h.09 SNAP_EVENT_TIME of unit `n` (R179). -/
def SNAP_EVENT_TIME (n : Nat) : Key := 0x144009 + 0x100 * n
/-- 1440h.0A SNAP_MISSED of unit `n` (R179). -/
def SNAP_MISSED (n : Nat) : Key := 0x14400A + 0x100 * n
/-- 1440h.0B SNAP_ALL of unit `n` (R179). -/
def SNAP_ALL (n : Nat) : Key := 0x14400B + 0x100 * n
/-- 1500h.01 TQ_STATE of unit `n` (R313). -/
def TQ_STATE (n : Nat) : Key := 0x150001 + 0x1000 * n
/-- 1500h.02 TQ_LATE_POLICY of unit `n` (R313). -/
def TQ_LATE_POLICY (n : Nat) : Key := 0x150002 + 0x1000 * n
/-- 1500h.03 TQ_LATE_TOL of unit `n` (R313). -/
def TQ_LATE_TOL (n : Nat) : Key := 0x150003 + 0x1000 * n
/-- 1500h.04 TQ_DEPTH of unit `n` (R313). -/
def TQ_DEPTH (n : Nat) : Key := 0x150004 + 0x1000 * n
/-- 1500h.05 TQ_STAGE_OFS of unit `n` (R313). -/
def TQ_STAGE_OFS (n : Nat) : Key := 0x150005 + 0x1000 * n
/-- 1500h.06 TQ_STAGE_DATA of unit `n` (R313). -/
def TQ_STAGE_DATA (n : Nat) : Key := 0x150006 + 0x1000 * n
/-- 1500h.07 TQ_PUSH of unit `n` (R313). -/
def TQ_PUSH (n : Nat) : Key := 0x150007 + 0x1000 * n
/-- 1500h.08 TQ_FLUSH of unit `n` (R313). -/
def TQ_FLUSH (n : Nat) : Key := 0x150008 + 0x1000 * n
/-- 1500h.09 TQ_WIN_INDEX of unit `n` (R313). -/
def TQ_WIN_INDEX (n : Nat) : Key := 0x150009 + 0x1000 * n
/-- 1500h.0A TQ_WIN_DATA of unit `n` (R313). -/
def TQ_WIN_DATA (n : Nat) : Key := 0x15000A + 0x1000 * n
/-- 1500h.0B TQ_WIN_OFS of unit `n` (R313). -/
def TQ_WIN_OFS (n : Nat) : Key := 0x15000B + 0x1000 * n
/-- 1500h.0C TQ_WIN_FRAME of unit `n` (R313). -/
def TQ_WIN_FRAME (n : Nat) : Key := 0x15000C + 0x1000 * n
/-- 1500h.0D TQ_COMPL of unit `n` (R313). -/
def TQ_COMPL (n : Nat) : Key := 0x15000D + 0x1000 * n
/-- 1500h.0E TQ_SENT_CNT of unit `n` (R313). -/
def TQ_SENT_CNT (n : Nat) : Key := 0x15000E + 0x1000 * n
/-- 1500h.0F TQ_LATE_CNT of unit `n` (R313). -/
def TQ_LATE_CNT (n : Nat) : Key := 0x15000F + 0x1000 * n
/-- 2000h.01 CH_ENABLE of unit `n` (R116). -/
def CH_ENABLE (n : Nat) : Key := 0x200001 + 0x10000 * n
/-- 2000h.02 CH_STATE of unit `n` (R116). -/
def CH_STATE (n : Nat) : Key := 0x200002 + 0x10000 * n
/-- 2000h.03 CH_STATE_REASON of unit `n` (R116). -/
def CH_STATE_REASON (n : Nat) : Key := 0x200003 + 0x10000 * n
/-- 2000h.04 CH_MON_LIVE of unit `n` (R116). -/
def CH_MON_LIVE (n : Nat) : Key := 0x200004 + 0x10000 * n
/-- 2000h.05 CH_MON_STICKY of unit `n` (R116). -/
def CH_MON_STICKY (n : Nat) : Key := 0x200005 + 0x10000 * n
/-- 2000h.06 CH_COAST_ELAPSED of unit `n` (R116). -/
def CH_COAST_ELAPSED (n : Nat) : Key := 0x200006 + 0x10000 * n
/-- 2000h.07 CH_RECOVER of unit `n` (R116). -/
def CH_RECOVER (n : Nat) : Key := 0x200007 + 0x10000 * n
/-- 2000h.08 CH_EXC_WAIT of unit `n` (R116). -/
def CH_EXC_WAIT (n : Nat) : Key := 0x200008 + 0x10000 * n
/-- 2000h.09 CH_DISCARD_CNT of unit `n` (R116). -/
def CH_DISCARD_CNT (n : Nat) : Key := 0x200009 + 0x10000 * n
/-- 2000h.0A CH_INVALID_CNT of unit `n` (R116). -/
def CH_INVALID_CNT (n : Nat) : Key := 0x20000A + 0x10000 * n
/-- 2000h.0B CH_COAST_CNT of unit `n` (R116). -/
def CH_COAST_CNT (n : Nat) : Key := 0x20000B + 0x10000 * n
/-- 2001h.01 CH_CARRY of unit `n` (R116). -/
def CH_CARRY (n : Nat) : Key := 0x200101 + 0x10000 * n
/-- 2001h.02 CH_HOMED of unit `n` (R116). -/
def CH_HOMED (n : Nat) : Key := 0x200102 + 0x10000 * n
/-- 2001h.03 CH_HOME_TARGET of unit `n` (R116). -/
def CH_HOME_TARGET (n : Nat) : Key := 0x200103 + 0x10000 * n
/-- 2001h.04 CH_HOME of unit `n` (R116). -/
def CH_HOME (n : Nat) : Key := 0x200104 + 0x10000 * n
/-- 2001h.05 CH_HOME_OFS of unit `n` (R116). -/
def CH_HOME_OFS (n : Nat) : Key := 0x200105 + 0x10000 * n
/-- 2001h.06 CH_CARRY_WRAP of unit `n` (R116). -/
def CH_CARRY_WRAP (n : Nat) : Key := 0x200106 + 0x10000 * n
/-- 2002h.01 CH_LOOP_STATE of unit `n` (R281). -/
def CH_LOOP_STATE (n : Nat) : Key := 0x200201 + 0x10000 * n
/-- 2010h.01 CH_EXC_SEL of unit `n` (R70). -/
def CH_EXC_SEL (n : Nat) : Key := 0x201001 + 0x10000 * n
/-- 2010h.02 CH_GAIN_SIN of unit `n` (R70). -/
def CH_GAIN_SIN (n : Nat) : Key := 0x201002 + 0x10000 * n
/-- 2010h.03 CH_GAIN_COS of unit `n` (R70). -/
def CH_GAIN_COS (n : Nat) : Key := 0x201003 + 0x10000 * n
/-- 2010h.04 CH_BRK_CUR of unit `n` (R70). -/
def CH_BRK_CUR (n : Nat) : Key := 0x201004 + 0x10000 * n
/-- 2010h.05 CH_TR of unit `n` (R70). -/
def CH_TR (n : Nat) : Key := 0x201005 + 0x10000 * n
/-- 2011h.01 CH_OFS_SIN of unit `n` (R70). -/
def CH_OFS_SIN (n : Nat) : Key := 0x201101 + 0x10000 * n
/-- 2011h.02 CH_OFS_COS of unit `n` (R70). -/
def CH_OFS_COS (n : Nat) : Key := 0x201102 + 0x10000 * n
/-- 2011h.03 CH_FGAIN_SIN of unit `n` (R70). -/
def CH_FGAIN_SIN (n : Nat) : Key := 0x201103 + 0x10000 * n
/-- 2011h.04 CH_FGAIN_COS of unit `n` (R70). -/
def CH_FGAIN_COS (n : Nat) : Key := 0x201104 + 0x10000 * n
/-- 2011h.05 CH_QUAD_TRIM of unit `n` (R70). -/
def CH_QUAD_TRIM (n : Nat) : Key := 0x201105 + 0x10000 * n
/-- 2011h.06 CH_TRIM_PENDING of unit `n` (R70). -/
def CH_TRIM_PENDING (n : Nat) : Key := 0x201106 + 0x10000 * n
/-- 2012h.01 CH_HB_LO_SIN of unit `n` (R70). -/
def CH_HB_LO_SIN (n : Nat) : Key := 0x201201 + 0x10000 * n
/-- 2012h.02 CH_HB_HI_SIN of unit `n` (R70). -/
def CH_HB_HI_SIN (n : Nat) : Key := 0x201202 + 0x10000 * n
/-- 2012h.03 CH_HB_LO_COS of unit `n` (R70). -/
def CH_HB_LO_COS (n : Nat) : Key := 0x201203 + 0x10000 * n
/-- 2012h.04 CH_HB_HI_COS of unit `n` (R70). -/
def CH_HB_HI_COS (n : Nat) : Key := 0x201204 + 0x10000 * n
/-- 2012h.05 CH_HB_STAT of unit `n` (R70). -/
def CH_HB_STAT (n : Nat) : Key := 0x201205 + 0x10000 * n
/-- 2013h.01 CH_BETA of unit `n` (R93). -/
def CH_BETA (n : Nat) : Key := 0x201301 + 0x10000 * n
/-- 2013h.02 CH_BETA_MEAS of unit `n` (R93). -/
def CH_BETA_MEAS (n : Nat) : Key := 0x201302 + 0x10000 * n
/-- 2013h.03 CH_BETA_LEARN of unit `n` (R93). -/
def CH_BETA_LEARN (n : Nat) : Key := 0x201303 + 0x10000 * n
/-- 2013h.04 CH_LOOP_KI of unit `n` (R93). -/
def CH_LOOP_KI (n : Nat) : Key := 0x201304 + 0x10000 * n
/-- 2013h.05 CH_LOOP_KP of unit `n` (R93). -/
def CH_LOOP_KP (n : Nat) : Key := 0x201305 + 0x10000 * n
/-- 2013h.06 CH_BANK_ACTIVE of unit `n` (R93). -/
def CH_BANK_ACTIVE (n : Nat) : Key := 0x201306 + 0x10000 * n
/-- 2013h.07 CH_BANK_SEL of unit `n` (R93). -/
def CH_BANK_SEL (n : Nat) : Key := 0x201307 + 0x10000 * n
/-- 2013h.08 CH_BANK_SWAP of unit `n` (R93). -/
def CH_BANK_SWAP (n : Nat) : Key := 0x201308 + 0x10000 * n
/-- 2013h.09 CH_BANK_SWAP_AT of unit `n` (R93). -/
def CH_BANK_SWAP_AT (n : Nat) : Key := 0x201309 + 0x10000 * n
/-- 2013h.0A CH_SWAP_PENDING of unit `n` (R93). -/
def CH_SWAP_PENDING (n : Nat) : Key := 0x20130A + 0x10000 * n
/-- 2013h.0B CH_LOOP_SAT of unit `n` (R93). -/
def CH_LOOP_SAT (n : Nat) : Key := 0x20130B + 0x10000 * n
/-- 2013h.0C CH_VEL_FS of unit `n` (R93). -/
def CH_VEL_FS (n : Nat) : Key := 0x20130C + 0x10000 * n
/-- 2013h.0D CH_ACC_FS of unit `n` (R93). -/
def CH_ACC_FS (n : Nat) : Key := 0x20130D + 0x10000 * n
/-- 2013h.0E CH_SWAP_COUNT of unit `n` (R93). -/
def CH_SWAP_COUNT (n : Nat) : Key := 0x20130E + 0x10000 * n
/-- 2013h.0F CH_BANK_SWAP_CANCEL of unit `n` (R93). -/
def CH_BANK_SWAP_CANCEL (n : Nat) : Key := 0x20130F + 0x10000 * n
/-- 2014h.01 CH_SCD_ENABLE of unit `n` (R70). -/
def CH_SCD_ENABLE (n : Nat) : Key := 0x201401 + 0x10000 * n
/-- 2014h.02 CH_SCD_CODE_SIN of unit `n` (R70). -/
def CH_SCD_CODE_SIN (n : Nat) : Key := 0x201402 + 0x10000 * n
/-- 2014h.03 CH_SCD_CODE_COS of unit `n` (R70). -/
def CH_SCD_CODE_COS (n : Nat) : Key := 0x201403 + 0x10000 * n
/-- 2014h.04 CH_SCD_CLAMP_CNT of unit `n` (R70). -/
def CH_SCD_CLAMP_CNT (n : Nat) : Key := 0x201404 + 0x10000 * n
/-- 2015h.01 CH_PROBE_MODE of unit `n` (R70). -/
def CH_PROBE_MODE (n : Nat) : Key := 0x201501 + 0x10000 * n
/-- 2015h.02 CH_PROBE_PERIOD of unit `n` (R70). -/
def CH_PROBE_PERIOD (n : Nat) : Key := 0x201502 + 0x10000 * n
/-- 2015h.03 CH_PROBE_FREQ of unit `n` (R70). -/
def CH_PROBE_FREQ (n : Nat) : Key := 0x201503 + 0x10000 * n
/-- 2015h.04 CH_PROBE_START of unit `n` (R70). -/
def CH_PROBE_START (n : Nat) : Key := 0x201504 + 0x10000 * n
/-- 2015h.05 CH_PROBE_STATE of unit `n` (R70). -/
def CH_PROBE_STATE (n : Nat) : Key := 0x201505 + 0x10000 * n
/-- 2016h.01 CH_RW_SIN of unit `n` (R70). -/
def CH_RW_SIN (n : Nat) : Key := 0x201601 + 0x10000 * n
/-- 2016h.02 CH_RW_COS of unit `n` (R70). -/
def CH_RW_COS (n : Nat) : Key := 0x201602 + 0x10000 * n
/-- 2016h.03 CH_RREF_SIN of unit `n` (R70). -/
def CH_RREF_SIN (n : Nat) : Key := 0x201603 + 0x10000 * n
/-- 2016h.04 CH_RREF_COS of unit `n` (R70). -/
def CH_RREF_COS (n : Nat) : Key := 0x201604 + 0x10000 * n
/-- 2016h.05 CH_TREF of unit `n` (R70). -/
def CH_TREF (n : Nat) : Key := 0x201605 + 0x10000 * n
/-- 2016h.06 CH_RREF_LEARN of unit `n` (R70). -/
def CH_RREF_LEARN (n : Nat) : Key := 0x201606 + 0x10000 * n
/-- 2016h.07 CH_ZW_SIN of unit `n` (R70). -/
def CH_ZW_SIN (n : Nat) : Key := 0x201607 + 0x10000 * n
/-- 2016h.08 CH_ZW_COS of unit `n` (R70). -/
def CH_ZW_COS (n : Nat) : Key := 0x201608 + 0x10000 * n
/-- 2016h.09 CH_ZREF_SIN of unit `n` (R70). -/
def CH_ZREF_SIN (n : Nat) : Key := 0x201609 + 0x10000 * n
/-- 2016h.0A CH_ZREF_COS of unit `n` (R70). -/
def CH_ZREF_COS (n : Nat) : Key := 0x20160A + 0x10000 * n
/-- 2017h.01 CH_TEMP_SRC of unit `n` (R70). -/
def CH_TEMP_SRC (n : Nat) : Key := 0x201701 + 0x10000 * n
/-- 2017h.02 CH_TEMP of unit `n` (R70). -/
def CH_TEMP (n : Nat) : Key := 0x201702 + 0x10000 * n
/-- 2017h.03 CH_TEMP_CU of unit `n` (R70). -/
def CH_TEMP_CU (n : Nat) : Key := 0x201703 + 0x10000 * n
/-- 2017h.04 CH_TEMP_EXT of unit `n` (R70). -/
def CH_TEMP_EXT (n : Nat) : Key := 0x201704 + 0x10000 * n
/-- 2017h.05 CH_TEMP_USED of unit `n` (R70). -/
def CH_TEMP_USED (n : Nat) : Key := 0x201705 + 0x10000 * n
/-- 2017h.06 CH_TEMP_FALLBACK of unit `n` (R70). -/
def CH_TEMP_FALLBACK (n : Nat) : Key := 0x201706 + 0x10000 * n
/-- 2030h.01 CH_A_KP_Q of unit `n` (R94). -/
def CH_A_KP_Q (n : Nat) : Key := 0x203001 + 0x10000 * n
/-- 2030h.02 CH_A_KP_S of unit `n` (R94). -/
def CH_A_KP_S (n : Nat) : Key := 0x203002 + 0x10000 * n
/-- 2030h.03 CH_A_KI_Q of unit `n` (R94). -/
def CH_A_KI_Q (n : Nat) : Key := 0x203003 + 0x10000 * n
/-- 2030h.04 CH_A_KI_S of unit `n` (R94). -/
def CH_A_KI_S (n : Nat) : Key := 0x203004 + 0x10000 * n
/-- 2030h.05 CH_A_KLAG_Q of unit `n` (R94). -/
def CH_A_KLAG_Q (n : Nat) : Key := 0x203005 + 0x10000 * n
/-- 2030h.06 CH_A_KLAG_S of unit `n` (R94). -/
def CH_A_KLAG_S (n : Nat) : Key := 0x203006 + 0x10000 * n
/-- 2030h.07 CH_A_KACC_Q of unit `n` (R94). -/
def CH_A_KACC_Q (n : Nat) : Key := 0x203007 + 0x10000 * n
/-- 2030h.08 CH_A_KACC_S of unit `n` (R94). -/
def CH_A_KACC_S (n : Nat) : Key := 0x203008 + 0x10000 * n
/-- 2031h.01 CH_A_BW_SET of unit `n` (R94). -/
def CH_A_BW_SET (n : Nat) : Key := 0x203101 + 0x10000 * n
/-- 2031h.02 CH_A_ZETA_SET of unit `n` (R94). -/
def CH_A_ZETA_SET (n : Nat) : Key := 0x203102 + 0x10000 * n
/-- 2031h.03 CH_A_DESIGN of unit `n` (R94). -/
def CH_A_DESIGN (n : Nat) : Key := 0x203103 + 0x10000 * n
/-- 2031h.04 CH_A_BW_REC of unit `n` (R94). -/
def CH_A_BW_REC (n : Nat) : Key := 0x203104 + 0x10000 * n
/-- 2031h.05 CH_A_ZETA_REC of unit `n` (R94). -/
def CH_A_ZETA_REC (n : Nat) : Key := 0x203105 + 0x10000 * n
/-- 2048h.01 CH_B_KP_Q of unit `n` (R94). -/
def CH_B_KP_Q (n : Nat) : Key := 0x204801 + 0x10000 * n
/-- 2048h.02 CH_B_KP_S of unit `n` (R94). -/
def CH_B_KP_S (n : Nat) : Key := 0x204802 + 0x10000 * n
/-- 2048h.03 CH_B_KI_Q of unit `n` (R94). -/
def CH_B_KI_Q (n : Nat) : Key := 0x204803 + 0x10000 * n
/-- 2048h.04 CH_B_KI_S of unit `n` (R94). -/
def CH_B_KI_S (n : Nat) : Key := 0x204804 + 0x10000 * n
/-- 2048h.05 CH_B_KLAG_Q of unit `n` (R94). -/
def CH_B_KLAG_Q (n : Nat) : Key := 0x204805 + 0x10000 * n
/-- 2048h.06 CH_B_KLAG_S of unit `n` (R94). -/
def CH_B_KLAG_S (n : Nat) : Key := 0x204806 + 0x10000 * n
/-- 2048h.07 CH_B_KACC_Q of unit `n` (R94). -/
def CH_B_KACC_Q (n : Nat) : Key := 0x204807 + 0x10000 * n
/-- 2048h.08 CH_B_KACC_S of unit `n` (R94). -/
def CH_B_KACC_S (n : Nat) : Key := 0x204808 + 0x10000 * n
/-- 2049h.01 CH_B_BW_SET of unit `n` (R94). -/
def CH_B_BW_SET (n : Nat) : Key := 0x204901 + 0x10000 * n
/-- 2049h.02 CH_B_ZETA_SET of unit `n` (R94). -/
def CH_B_ZETA_SET (n : Nat) : Key := 0x204902 + 0x10000 * n
/-- 2049h.03 CH_B_DESIGN of unit `n` (R94). -/
def CH_B_DESIGN (n : Nat) : Key := 0x204903 + 0x10000 * n
/-- 2049h.04 CH_B_BW_REC of unit `n` (R94). -/
def CH_B_BW_REC (n : Nat) : Key := 0x204904 + 0x10000 * n
/-- 2049h.05 CH_B_ZETA_REC of unit `n` (R94). -/
def CH_B_ZETA_REC (n : Nat) : Key := 0x204905 + 0x10000 * n
/-- 2060h.01 CH_OUT_RECORD of unit `n` (R178). -/
def CH_OUT_RECORD (n : Nat) : Key := 0x206001 + 0x10000 * n
/-- 2060h.02 CH_POS of unit `n` (R178). -/
def CH_POS (n : Nat) : Key := 0x206002 + 0x10000 * n
/-- 2060h.03 CH_VEL of unit `n` (R178). -/
def CH_VEL (n : Nat) : Key := 0x206003 + 0x10000 * n
/-- 2060h.04 CH_ACC of unit `n` (R178). -/
def CH_ACC (n : Nat) : Key := 0x206004 + 0x10000 * n
/-- 2060h.05 CH_TSTAMP of unit `n` (R178). -/
def CH_TSTAMP (n : Nat) : Key := 0x206005 + 0x10000 * n
/-- 2060h.06 CH_STATUS of unit `n` (R178). -/
def CH_STATUS (n : Nat) : Key := 0x206006 + 0x10000 * n
/-- 2068h.01 CH_SNAP0 of unit `n` (R178). -/
def CH_SNAP0 (n : Nat) : Key := 0x206801 + 0x10000 * n
/-- 2068h.02 CH_SNAP1 of unit `n` (R178). -/
def CH_SNAP1 (n : Nat) : Key := 0x206802 + 0x10000 * n
/-- 2068h.03 CH_SNAP2 of unit `n` (R178). -/
def CH_SNAP2 (n : Nat) : Key := 0x206803 + 0x10000 * n
/-- 2080h.01 CH_AMPL_LO of unit `n` (R117). -/
def CH_AMPL_LO (n : Nat) : Key := 0x208001 + 0x10000 * n
/-- 2080h.02 CH_AMPL_HI of unit `n` (R117). -/
def CH_AMPL_HI (n : Nat) : Key := 0x208002 + 0x10000 * n
/-- 2080h.03 CH_DC_LIM of unit `n` (R117). -/
def CH_DC_LIM (n : Nat) : Key := 0x208003 + 0x10000 * n
/-- 2080h.04 CH_CAR_ACT_MIN of unit `n` (R117). -/
def CH_CAR_ACT_MIN (n : Nat) : Key := 0x208004 + 0x10000 * n
/-- 2080h.05 CH_TRK_ERR_LIM of unit `n` (R117). -/
def CH_TRK_ERR_LIM (n : Nat) : Key := 0x208005 + 0x10000 * n
/-- 2080h.06 CH_TRK_ERR_N of unit `n` (R117). -/
def CH_TRK_ERR_N (n : Nat) : Key := 0x208006 + 0x10000 * n
/-- 2080h.07 CH_VEL_LIM of unit `n` (R117). -/
def CH_VEL_LIM (n : Nat) : Key := 0x208007 + 0x10000 * n
/-- 2080h.08 CH_ACC_LIM of unit `n` (R117). -/
def CH_ACC_LIM (n : Nat) : Key := 0x208008 + 0x10000 * n
/-- 2080h.09 CH_PLAUS_N of unit `n` (R117). -/
def CH_PLAUS_N (n : Nat) : Key := 0x208009 + 0x10000 * n
/-- 2081h.01 CH_COAST_LIM of unit `n` (R117). -/
def CH_COAST_LIM (n : Nat) : Key := 0x208101 + 0x10000 * n
/-- 2081h.02 CH_SETTLE_ERR of unit `n` (R117). -/
def CH_SETTLE_ERR (n : Nat) : Key := 0x208102 + 0x10000 * n
/-- 2081h.03 CH_SETTLE_N of unit `n` (R117). -/
def CH_SETTLE_N (n : Nat) : Key := 0x208103 + 0x10000 * n
/-- 2081h.04 CH_SETTLE_TMO of unit `n` (R117). -/
def CH_SETTLE_TMO (n : Nat) : Key := 0x208104 + 0x10000 * n
/-- 2081h.05 CH_AUTO_RECOVER of unit `n` (R117). -/
def CH_AUTO_RECOVER (n : Nat) : Key := 0x208105 + 0x10000 * n
/-- 2081h.06 CH_HB_CLEAR_N of unit `n` (R117). -/
def CH_HB_CLEAR_N (n : Nat) : Key := 0x208106 + 0x10000 * n
/-- 20A0h.01 CH_INJ_KIND of unit `n` (R95). -/
def CH_INJ_KIND (n : Nat) : Key := 0x20A001 + 0x10000 * n
/-- 20A0h.02 CH_INJ_AMPL of unit `n` (R95). -/
def CH_INJ_AMPL (n : Nat) : Key := 0x20A002 + 0x10000 * n
/-- 20A0h.03 CH_INJ_F1 of unit `n` (R95). -/
def CH_INJ_F1 (n : Nat) : Key := 0x20A003 + 0x10000 * n
/-- 20A0h.04 CH_INJ_F2 of unit `n` (R95). -/
def CH_INJ_F2 (n : Nat) : Key := 0x20A004 + 0x10000 * n
/-- 20A0h.05 CH_INJ_DURATION of unit `n` (R95). -/
def CH_INJ_DURATION (n : Nat) : Key := 0x20A005 + 0x10000 * n
/-- 20A0h.06 CH_INJ_PRBS_LEN of unit `n` (R95). -/
def CH_INJ_PRBS_LEN (n : Nat) : Key := 0x20A006 + 0x10000 * n
/-- 20A0h.07 CH_INJ_START of unit `n` (R95). -/
def CH_INJ_START (n : Nat) : Key := 0x20A007 + 0x10000 * n
/-- 20A0h.08 CH_INJ_STOP of unit `n` (R95). -/
def CH_INJ_STOP (n : Nat) : Key := 0x20A008 + 0x10000 * n
/-- 20A1h.01 CH_INJ_STATE of unit `n` (R95). -/
def CH_INJ_STATE (n : Nat) : Key := 0x20A101 + 0x10000 * n
/-- 20A1h.02 CH_INJ_ABORT of unit `n` (R95). -/
def CH_INJ_ABORT (n : Nat) : Key := 0x20A102 + 0x10000 * n
/-- 20A1h.03 CH_INJ_ELAPSED of unit `n` (R95). -/
def CH_INJ_ELAPSED (n : Nat) : Key := 0x20A103 + 0x10000 * n
/-- 20A8h.01 CH_CAP_EN of unit `n` (R95). -/
def CH_CAP_EN (n : Nat) : Key := 0x20A801 + 0x10000 * n
/-- 20A8h.02 CH_CAP_DECIM of unit `n` (R95). -/
def CH_CAP_DECIM (n : Nat) : Key := 0x20A802 + 0x10000 * n
/-- 3000h.01 TAL_ENABLE of unit `n` (R197). -/
def TAL_ENABLE (n : Nat) : Key := 0x300001 + 0x4000 * n
/-- 3000h.02 TAL_FILT of unit `n` (R197). -/
def TAL_FILT (n : Nat) : Key := 0x300002 + 0x4000 * n
/-- 3000h.03 TAL_DIR of unit `n` (R197). -/
def TAL_DIR (n : Nat) : Key := 0x300003 + 0x4000 * n
/-- 3000h.04 TAL_LIM_LO of unit `n` (R197). -/
def TAL_LIM_LO (n : Nat) : Key := 0x300004 + 0x4000 * n
/-- 3000h.05 TAL_LIM_HI of unit `n` (R197). -/
def TAL_LIM_HI (n : Nat) : Key := 0x300005 + 0x4000 * n
/-- 3000h.06 TAL_PRESET_VAL of unit `n` (R197). -/
def TAL_PRESET_VAL (n : Nat) : Key := 0x300006 + 0x4000 * n
/-- 3000h.07 TAL_PRESET of unit `n` (R197). -/
def TAL_PRESET (n : Nat) : Key := 0x300007 + 0x4000 * n
/-- 3000h.08 TAL_LINES of unit `n` (R197). -/
def TAL_LINES (n : Nat) : Key := 0x300008 + 0x4000 * n
/-- 3000h.09 TAL_IDX_MODE of unit `n` (R197). -/
def TAL_IDX_MODE (n : Nat) : Key := 0x300009 + 0x4000 * n
/-- 3000h.0A TAL_IDX_TOL of unit `n` (R197). -/
def TAL_IDX_TOL (n : Nat) : Key := 0x30000A + 0x4000 * n
/-- 3000h.0B TAL_IDX_PRESET_ARM of unit `n` (R197). -/
def TAL_IDX_PRESET_ARM (n : Nat) : Key := 0x30000B + 0x4000 * n
/-- 3000h.0C TAL_Z_POL of unit `n` (R197). -/
def TAL_Z_POL (n : Nat) : Key := 0x30000C + 0x4000 * n
/-- 3000h.0D TAL_SPD_EDGES of unit `n` (R197). -/
def TAL_SPD_EDGES (n : Nat) : Key := 0x30000D + 0x4000 * n
/-- 3000h.0E TAL_SPD_TMO of unit `n` (R197). -/
def TAL_SPD_TMO (n : Nat) : Key := 0x30000E + 0x4000 * n
/-- 3000h.0F TAL_DIV_N of unit `n` (R197). -/
def TAL_DIV_N (n : Nat) : Key := 0x30000F + 0x4000 * n
/-- 3000h.10 TAL_DIV_M of unit `n` (R197). -/
def TAL_DIV_M (n : Nat) : Key := 0x300010 + 0x4000 * n
/-- 3000h.11 TAL_INVALID_ON of unit `n` (R197). -/
def TAL_INVALID_ON (n : Nat) : Key := 0x300011 + 0x4000 * n
/-- 3000h.12 TAL_RESUME of unit `n` (R197). -/
def TAL_RESUME (n : Nat) : Key := 0x300012 + 0x4000 * n
/-- 3001h.01 TAL_STATE of unit `n` (R197). -/
def TAL_STATE (n : Nat) : Key := 0x300101 + 0x4000 * n
/-- 3001h.02 TAL_COUNT of unit `n` (R197). -/
def TAL_COUNT (n : Nat) : Key := 0x300102 + 0x4000 * n
/-- 3001h.03 TAL_RAW of unit `n` (R197). -/
def TAL_RAW (n : Nat) : Key := 0x300103 + 0x4000 * n
/-- 3001h.04 TAL_SPEED of unit `n` (R197). -/
def TAL_SPEED (n : Nat) : Key := 0x300104 + 0x4000 * n
/-- 3001h.05 TAL_EDGE_TIME of unit `n` (R197). -/
def TAL_EDGE_TIME (n : Nat) : Key := 0x300105 + 0x4000 * n
/-- 3001h.06 TAL_FLAGS of unit `n` (R197). -/
def TAL_FLAGS (n : Nat) : Key := 0x300106 + 0x4000 * n
/-- 3001h.07 TAL_ILLEGAL_CNT of unit `n` (R197). -/
def TAL_ILLEGAL_CNT (n : Nat) : Key := 0x300107 + 0x4000 * n
/-- 3001h.08 TAL_IDX_RAW of unit `n` (R197). -/
def TAL_IDX_RAW (n : Nat) : Key := 0x300108 + 0x4000 * n
/-- 3001h.09 TAL_IDX_ERR of unit `n` (R197). -/
def TAL_IDX_ERR (n : Nat) : Key := 0x300109 + 0x4000 * n
/-- 3001h.0A TAL_IDX_CNT of unit `n` (R197). -/
def TAL_IDX_CNT (n : Nat) : Key := 0x30010A + 0x4000 * n
/-- 3001h.0B TAL_MISMATCH_CNT of unit `n` (R197). -/
def TAL_MISMATCH_CNT (n : Nat) : Key := 0x30010B + 0x4000 * n
/-- 3001h.0C TAL_DIV_OUT of unit `n` (R197). -/
def TAL_DIV_OUT (n : Nat) : Key := 0x30010C + 0x4000 * n
/-- 3001h.0D TAL_RECORD of unit `n` (R197). -/
def TAL_RECORD (n : Nat) : Key := 0x30010D + 0x4000 * n
/-- 3400h.01 EMU_ENABLE of unit `n` (R181). -/
def EMU_ENABLE (n : Nat) : Key := 0x340001 + 0x4000 * n
/-- 3400h.02 EMU_SRC_KIND of unit `n` (R181). -/
def EMU_SRC_KIND (n : Nat) : Key := 0x340002 + 0x4000 * n
/-- 3400h.03 EMU_SRC of unit `n` (R181). -/
def EMU_SRC (n : Nat) : Key := 0x340003 + 0x4000 * n
/-- 3400h.04 EMU_BASIS of unit `n` (R181). -/
def EMU_BASIS (n : Nat) : Key := 0x340004 + 0x4000 * n
/-- 3400h.05 EMU_SPEED of unit `n` (R181). -/
def EMU_SPEED (n : Nat) : Key := 0x340005 + 0x4000 * n
/-- 3400h.06 EMU_LINES of unit `n` (R181). -/
def EMU_LINES (n : Nat) : Key := 0x340006 + 0x4000 * n
/-- 3400h.07 EMU_DIR of unit `n` (R181). -/
def EMU_DIR (n : Nat) : Key := 0x340007 + 0x4000 * n
/-- 3400h.08 EMU_Z_ANGLE of unit `n` (R181). -/
def EMU_Z_ANGLE (n : Nat) : Key := 0x340008 + 0x4000 * n
/-- 3400h.09 EMU_MIN_SEP of unit `n` (R181). -/
def EMU_MIN_SEP (n : Nat) : Key := 0x340009 + 0x4000 * n
/-- 3400h.0A EMU_SLEW of unit `n` (R181). -/
def EMU_SLEW (n : Nat) : Key := 0x34000A + 0x4000 * n
/-- 3400h.0B EMU_INVALID of unit `n` (R181). -/
def EMU_INVALID (n : Nat) : Key := 0x34000B + 0x4000 * n
/-- 3400h.0C EMU_SEAT_GATE of unit `n` (R181). -/
def EMU_SEAT_GATE (n : Nat) : Key := 0x34000C + 0x4000 * n
/-- 3400h.0D EMU_JUMP of unit `n` (R181). -/
def EMU_JUMP (n : Nat) : Key := 0x34000D + 0x4000 * n
/-- 3400h.0E EMU_CU_VMAX of unit `n` (R181). -/
def EMU_CU_VMAX (n : Nat) : Key := 0x34000E + 0x4000 * n
/-- 3400h.0F EMU_CU_AMAX of unit `n` (R181). -/
def EMU_CU_AMAX (n : Nat) : Key := 0x34000F + 0x4000 * n
/-- 3400h.10 EMU_CU_JMAX of unit `n` (R181). -/
def EMU_CU_JMAX (n : Nat) : Key := 0x340010 + 0x4000 * n
/-- 3401h.01 EMU_STATE of unit `n` (R181). -/
def EMU_STATE (n : Nat) : Key := 0x340101 + 0x4000 * n
/-- 3401h.02 EMU_COUNT of unit `n` (R181). -/
def EMU_COUNT (n : Nat) : Key := 0x340102 + 0x4000 * n
/-- 3401h.03 EMU_TARGET of unit `n` (R181). -/
def EMU_TARGET (n : Nat) : Key := 0x340103 + 0x4000 * n
/-- 3401h.04 EMU_OFFSET of unit `n` (R181). -/
def EMU_OFFSET (n : Nat) : Key := 0x340104 + 0x4000 * n
/-- 3401h.05 EMU_CU_CNT of unit `n` (R181). -/
def EMU_CU_CNT (n : Nat) : Key := 0x340105 + 0x4000 * n
/-- 3401h.06 EMU_FLAGS of unit `n` (R181). -/
def EMU_FLAGS (n : Nat) : Key := 0x340106 + 0x4000 * n
/-- 3800h.01 PSW_ENABLE of unit `n` (R182). -/
def PSW_ENABLE (n : Nat) : Key := 0x380001 + 0x1000 * n
/-- 3800h.02 PSW_SRC of unit `n` (R182). -/
def PSW_SRC (n : Nat) : Key := 0x380002 + 0x1000 * n
/-- 3800h.03 PSW_MODE of unit `n` (R182). -/
def PSW_MODE (n : Nat) : Key := 0x380003 + 0x1000 * n
/-- 3800h.04 PSW_LO of unit `n` (R182). -/
def PSW_LO (n : Nat) : Key := 0x380004 + 0x1000 * n
/-- 3800h.05 PSW_HI of unit `n` (R182). -/
def PSW_HI (n : Nat) : Key := 0x380005 + 0x1000 * n
/-- 3800h.06 PSW_BRIM of unit `n` (R182). -/
def PSW_BRIM (n : Nat) : Key := 0x380006 + 0x1000 * n
/-- 3800h.07 PSW_POLARITY of unit `n` (R182). -/
def PSW_POLARITY (n : Nat) : Key := 0x380007 + 0x1000 * n
/-- 3800h.08 PSW_INVALID of unit `n` (R182). -/
def PSW_INVALID (n : Nat) : Key := 0x380008 + 0x1000 * n
/-- 3800h.09 PSW_SEAT_GATE of unit `n` (R182). -/
def PSW_SEAT_GATE (n : Nat) : Key := 0x380009 + 0x1000 * n
/-- 3800h.0A PSW_SLEW of unit `n` (R182). -/
def PSW_SLEW (n : Nat) : Key := 0x38000A + 0x1000 * n
/-- 3800h.0B PSW_STATE of unit `n` (R182). -/
def PSW_STATE (n : Nat) : Key := 0x38000B + 0x1000 * n
/-- 3800h.0C PSW_TOGGLE_CNT of unit `n` (R182). -/
def PSW_TOGGLE_CNT (n : Nat) : Key := 0x38000C + 0x1000 * n
/-- 3900h.01 EXC_MODE of unit `n` (R71). -/
def EXC_MODE (n : Nat) : Key := 0x390001 + 0x2000 * n
/-- 3900h.02 EXC_FREQ of unit `n` (R71). -/
def EXC_FREQ (n : Nat) : Key := 0x390002 + 0x2000 * n
/-- 3900h.03 EXC_AMPL of unit `n` (R71). -/
def EXC_AMPL (n : Nat) : Key := 0x390003 + 0x2000 * n
/-- 3900h.04 EXC_SENSE_RANGE of unit `n` (R71). -/
def EXC_SENSE_RANGE (n : Nat) : Key := 0x390004 + 0x2000 * n
/-- 3900h.05 EXC_BOOST_GAIN of unit `n` (R71). -/
def EXC_BOOST_GAIN (n : Nat) : Key := 0x390005 + 0x2000 * n
/-- 3900h.06 EXC_SENSE_WIN of unit `n` (R71). -/
def EXC_SENSE_WIN (n : Nat) : Key := 0x390006 + 0x2000 * n
/-- 3900h.07 EXC_RESTART of unit `n` (R71). -/
def EXC_RESTART (n : Nat) : Key := 0x390007 + 0x2000 * n
/-- 3900h.08 EXC_ENABLE of unit `n` (R71). -/
def EXC_ENABLE (n : Nat) : Key := 0x390008 + 0x2000 * n
/-- 3901h.01 EXC_STATE of unit `n` (R71). -/
def EXC_STATE (n : Nat) : Key := 0x390101 + 0x2000 * n
/-- 3901h.02 EXC_SENSE_AMPL of unit `n` (R71). -/
def EXC_SENSE_AMPL (n : Nat) : Key := 0x390102 + 0x2000 * n
/-- 3901h.03 EXC_SENSE_PHASE of unit `n` (R71). -/
def EXC_SENSE_PHASE (n : Nat) : Key := 0x390103 + 0x2000 * n
/-- 3901h.04 EXC_FTW of unit `n` (R71). -/
def EXC_FTW (n : Nat) : Key := 0x390104 + 0x2000 * n
/-- 3901h.05 EXC_PENDING of unit `n` (R71). -/
def EXC_PENDING (n : Nat) : Key := 0x390105 + 0x2000 * n
/-- 3901h.06 EXC_OC_COUNT of unit `n` (R71). -/
def EXC_OC_COUNT (n : Nat) : Key := 0x390106 + 0x2000 * n
/-- 3901h.07 EXC_HEADROOM of unit `n` (R71). -/
def EXC_HEADROOM (n : Nat) : Key := 0x390107 + 0x2000 * n
/-- 3908h.01 GLV_MODE of unit `n` (R71). -/
def GLV_MODE (n : Nat) : Key := 0x390801 + 0x2000 * n
/-- 3908h.02 GLV_STATE of unit `n` (R71). -/
def GLV_STATE (n : Nat) : Key := 0x390802 + 0x2000 * n
/-- 3908h.03 GLV_CURRENT of unit `n` (R71). -/
def GLV_CURRENT (n : Nat) : Key := 0x390803 + 0x2000 * n
/-- 3909h.01 GLV_MODE_ODD of unit `n` (R71). -/
def GLV_MODE_ODD (n : Nat) : Key := 0x390901 + 0x2000 * n
/-- 3909h.02 GLV_STATE_ODD of unit `n` (R71). -/
def GLV_STATE_ODD (n : Nat) : Key := 0x390902 + 0x2000 * n
/-- 3909h.03 GLV_CURRENT_ODD of unit `n` (R71). -/
def GLV_CURRENT_ODD (n : Nat) : Key := 0x390903 + 0x2000 * n
/-- 4000h.01 CAL_SET_TEMP0 (R149). -/
def CAL_SET_TEMP0 : Key := 0x400001
/-- 4000h.02 CAL_SET_TEMP1 (R149). -/
def CAL_SET_TEMP1 : Key := 0x400002
/-- 4000h.03 CAL_SET_TEMP2 (R149). -/
def CAL_SET_TEMP2 : Key := 0x400003
/-- 4000h.04 CAL_SET_TEMP3 (R149). -/
def CAL_SET_TEMP3 : Key := 0x400004
/-- 4000h.05 CAL_SET_TEMP4 (R149). -/
def CAL_SET_TEMP4 : Key := 0x400005
/-- 4000h.06 CAL_SET_TEMP5 (R149). -/
def CAL_SET_TEMP5 : Key := 0x400006
/-- 4000h.07 CAL_SET_TEMP6 (R149). -/
def CAL_SET_TEMP6 : Key := 0x400007
/-- 4000h.08 CAL_SET_TEMP7 (R149). -/
def CAL_SET_TEMP7 : Key := 0x400008
/-- 4000h.09 CAL_TRECAL (R149). -/
def CAL_TRECAL : Key := 0x400009
/-- 4000h.0A CAL_AUTO_ALL (R149). -/
def CAL_AUTO_ALL : Key := 0x40000A
/-- 4000h.0B CAL_RUNS_ACTIVE (R149). -/
def CAL_RUNS_ACTIVE : Key := 0x40000B
/-- 4001h.01 BT_GEN_NEWEST (R149). -/
def BT_GEN_NEWEST : Key := 0x400101
/-- 4001h.02 BT_GEN_OLDER (R149). -/
def BT_GEN_OLDER : Key := 0x400102
/-- 4001h.03 BT_GEN_SLOT (R149). -/
def BT_GEN_SLOT : Key := 0x400103
/-- 4001h.04 BT_COMMIT_STATE (R149). -/
def BT_COMMIT_STATE : Key := 0x400104
/-- 4001h.05 BT_COMMIT_CNT (R149). -/
def BT_COMMIT_CNT : Key := 0x400105
/-- 4001h.06 BT_COMMIT_FAIL_CNT (R149). -/
def BT_COMMIT_FAIL_CNT : Key := 0x400106
/-- 4001h.07 BT_ECC_CE_CNT (R149). -/
def BT_ECC_CE_CNT : Key := 0x400107
/-- 4001h.08 BT_ECC_UE_CNT (R149). -/
def BT_ECC_UE_CNT : Key := 0x400108
/-- 4001h.09 BT_COMMIT_NOW (R149). -/
def BT_COMMIT_NOW : Key := 0x400109
/-- 4100h.01 CAL_AUTO of unit `n` (R150). -/
def CAL_AUTO (n : Nat) : Key := 0x410001 + 0x1000 * n
/-- 4100h.02 CAL_KIND of unit `n` (R150). -/
def CAL_KIND (n : Nat) : Key := 0x410002 + 0x1000 * n
/-- 4100h.03 CAL_SCOPE of unit `n` (R150). -/
def CAL_SCOPE (n : Nat) : Key := 0x410003 + 0x1000 * n
/-- 4100h.04 CAL_ARC_FIRST of unit `n` (R150). -/
def CAL_ARC_FIRST (n : Nat) : Key := 0x410004 + 0x1000 * n
/-- 4100h.05 CAL_ARC_LAST of unit `n` (R150). -/
def CAL_ARC_LAST (n : Nat) : Key := 0x410005 + 0x1000 * n
/-- 4100h.06 CAL_ACCEPT of unit `n` (R150). -/
def CAL_ACCEPT (n : Nat) : Key := 0x410006 + 0x1000 * n
/-- 4100h.07 CAL_VMIN of unit `n` (R150). -/
def CAL_VMIN (n : Nat) : Key := 0x410007 + 0x1000 * n
/-- 4100h.08 CAL_AMAX of unit `n` (R150). -/
def CAL_AMAX (n : Nat) : Key := 0x410008 + 0x1000 * n
/-- 4100h.09 CAL_GATE_SETTLE of unit `n` (R150). -/
def CAL_GATE_SETTLE (n : Nat) : Key := 0x410009 + 0x1000 * n
/-- 4100h.0A CAL_WIN_TRAVEL of unit `n` (R150). -/
def CAL_WIN_TRAVEL (n : Nat) : Key := 0x41000A + 0x1000 * n
/-- 4100h.0B CAL_WIN_MAX of unit `n` (R150). -/
def CAL_WIN_MAX (n : Nat) : Key := 0x41000B + 0x1000 * n
/-- 4100h.0C CAL_WIN_RESID of unit `n` (R150). -/
def CAL_WIN_RESID (n : Nat) : Key := 0x41000C + 0x1000 * n
/-- 4100h.0D CAL_MIN_PASSES of unit `n` (R150). -/
def CAL_MIN_PASSES (n : Nat) : Key := 0x41000D + 0x1000 * n
/-- 4100h.0E CAL_TIMEOUT of unit `n` (R150). -/
def CAL_TIMEOUT (n : Nat) : Key := 0x41000E + 0x1000 * n
/-- 4100h.0F CAL_TEMP_TOL of unit `n` (R150). -/
def CAL_TEMP_TOL (n : Nat) : Key := 0x41000F + 0x1000 * n
/-- 4100h.10 CAL_PERIOD of unit `n` (R150). -/
def CAL_PERIOD (n : Nat) : Key := 0x410010 + 0x1000 * n
/-- 4100h.11 CAL_RETRY_HOLD of unit `n` (R150). -/
def CAL_RETRY_HOLD (n : Nat) : Key := 0x410011 + 0x1000 * n
/-- 4100h.12 CAL_LIM_BEAD of unit `n` (R150). -/
def CAL_LIM_BEAD (n : Nat) : Key := 0x410012 + 0x1000 * n
/-- 4100h.13 CAL_LIM_STEP of unit `n` (R150). -/
def CAL_LIM_STEP (n : Nat) : Key := 0x410013 + 0x1000 * n
/-- 4100h.14 CAL_LIM_GAIN of unit `n` (R150). -/
def CAL_LIM_GAIN (n : Nat) : Key := 0x410014 + 0x1000 * n
/-- 4100h.15 CAL_LIM_QUAD of unit `n` (R150). -/
def CAL_LIM_QUAD (n : Nat) : Key := 0x410015 + 0x1000 * n
/-- 4100h.16 CAL_LIM_Q of unit `n` (R150). -/
def CAL_LIM_Q (n : Nat) : Key := 0x410016 + 0x1000 * n
/-- 4100h.17 CAL_REPEAT_TOL of unit `n` (R150). -/
def CAL_REPEAT_TOL (n : Nat) : Key := 0x410017 + 0x1000 * n
/-- 4101h.01 CAL_START of unit `n` (R151). -/
def CAL_START (n : Nat) : Key := 0x410101 + 0x1000 * n
/-- 4101h.02 CAL_CANCEL of unit `n` (R151). -/
def CAL_CANCEL (n : Nat) : Key := 0x410102 + 0x1000 * n
/-- 4101h.03 CAL_STATE of unit `n` (R151). -/
def CAL_STATE (n : Nat) : Key := 0x410103 + 0x1000 * n
/-- 4101h.04 CAL_PAUSE_REASON of unit `n` (R151). -/
def CAL_PAUSE_REASON (n : Nat) : Key := 0x410104 + 0x1000 * n
/-- 4101h.05 CAL_RESULT of unit `n` (R151). -/
def CAL_RESULT (n : Nat) : Key := 0x410105 + 0x1000 * n
/-- 4101h.06 CAL_DETAIL of unit `n` (R151). -/
def CAL_DETAIL (n : Nat) : Key := 0x410106 + 0x1000 * n
/-- 4101h.07 CAL_TARGET_SET of unit `n` (R151). -/
def CAL_TARGET_SET (n : Nat) : Key := 0x410107 + 0x1000 * n
/-- 4101h.08 CAL_TRIGGER of unit `n` (R151). -/
def CAL_TRIGGER (n : Nat) : Key := 0x410108 + 0x1000 * n
/-- 4101h.09 CAL_COVERED of unit `n` (R151). -/
def CAL_COVERED (n : Nat) : Key := 0x410109 + 0x1000 * n
/-- 4101h.0A CAL_SCOPE_NODES of unit `n` (R151). -/
def CAL_SCOPE_NODES (n : Nat) : Key := 0x41010A + 0x1000 * n
/-- 4101h.0B CAL_ELAPSED of unit `n` (R151). -/
def CAL_ELAPSED (n : Nat) : Key := 0x41010B + 0x1000 * n
/-- 4101h.0C CAL_T_MEAN of unit `n` (R151). -/
def CAL_T_MEAN (n : Nat) : Key := 0x41010C + 0x1000 * n
/-- 4101h.0D CAL_Q_RUN of unit `n` (R151). -/
def CAL_Q_RUN (n : Nat) : Key := 0x41010D + 0x1000 * n
/-- 4101h.0E CAL_Q_COMPAT of unit `n` (R151). -/
def CAL_Q_COMPAT (n : Nat) : Key := 0x41010E + 0x1000 * n
/-- 4101h.0F CAL_CNT_STARTED of unit `n` (R151). -/
def CAL_CNT_STARTED (n : Nat) : Key := 0x41010F + 0x1000 * n
/-- 4101h.10 CAL_CNT_ACCEPTED of unit `n` (R151). -/
def CAL_CNT_ACCEPTED (n : Nat) : Key := 0x410110 + 0x1000 * n
/-- 4101h.11 CAL_CNT_REJECTED of unit `n` (R151). -/
def CAL_CNT_REJECTED (n : Nat) : Key := 0x410111 + 0x1000 * n
/-- 4101h.12 CAL_CNT_INSUFFICIENT of unit `n` (R151). -/
def CAL_CNT_INSUFFICIENT (n : Nat) : Key := 0x410112 + 0x1000 * n
/-- 4101h.13 CAL_CNT_ABORTED of unit `n` (R151). -/
def CAL_CNT_ABORTED (n : Nat) : Key := 0x410113 + 0x1000 * n
/-- 4101h.14 CAL_HOLD_LEFT of unit `n` (R151). -/
def CAL_HOLD_LEFT (n : Nat) : Key := 0x410114 + 0x1000 * n
/-- 4102h.01 SET_FLAGS of unit `n` (R152). -/
def SET_FLAGS (n : Nat) : Key := 0x410201 + 0x1000 * n
/-- 4102h.02 SET_COUNT of unit `n` (R152). -/
def SET_COUNT (n : Nat) : Key := 0x410202 + 0x1000 * n
/-- 4102h.03 SET_TIME of unit `n` (R152). -/
def SET_TIME (n : Nat) : Key := 0x410203 + 0x1000 * n
/-- 4102h.04 SET_T_RUN of unit `n` (R152). -/
def SET_T_RUN (n : Nat) : Key := 0x410204 + 0x1000 * n
/-- 4102h.05 SET_Q of unit `n` (R152). -/
def SET_Q (n : Nat) : Key := 0x410205 + 0x1000 * n
/-- 4102h.06 SET_ARC_FIRST of unit `n` (R152). -/
def SET_ARC_FIRST (n : Nat) : Key := 0x410206 + 0x1000 * n
/-- 4102h.07 SET_ARC_LAST of unit `n` (R152). -/
def SET_ARC_LAST (n : Nat) : Key := 0x410207 + 0x1000 * n
/-- 4102h.08 SET_CLEAR of unit `n` (R152). -/
def SET_CLEAR (n : Nat) : Key := 0x410208 + 0x1000 * n
/-- 410Ah.01 CAL_ELL_OS of unit `n` (R151). -/
def CAL_ELL_OS (n : Nat) : Key := 0x410A01 + 0x1000 * n
/-- 410Ah.02 CAL_ELL_OC of unit `n` (R151). -/
def CAL_ELL_OC (n : Nat) : Key := 0x410A02 + 0x1000 * n
/-- 410Ah.03 CAL_ELL_GS of unit `n` (R151). -/
def CAL_ELL_GS (n : Nat) : Key := 0x410A03 + 0x1000 * n
/-- 410Ah.04 CAL_ELL_GC of unit `n` (R151). -/
def CAL_ELL_GC (n : Nat) : Key := 0x410A04 + 0x1000 * n
/-- 410Ah.05 CAL_ELL_EPS of unit `n` (R151). -/
def CAL_ELL_EPS (n : Nat) : Key := 0x410A05 + 0x1000 * n
/-- 4800h.01 BT_WIN_CH (R153). -/
def BT_WIN_CH : Key := 0x480001
/-- 4800h.02 BT_WIN_SET (R153). -/
def BT_WIN_SET : Key := 0x480002
/-- 4800h.03 BT_WIN_NODE (R153). -/
def BT_WIN_NODE : Key := 0x480003
/-- 4800h.04 BT_WIN_SOURCE (R153). -/
def BT_WIN_SOURCE : Key := 0x480004
/-- 4800h.05 BT_WIN_DATA (R153). -/
def BT_WIN_DATA : Key := 0x480005
/-- 4801h.01 BT_ROW_LOAD (R153). -/
def BT_ROW_LOAD : Key := 0x480101
/-- 4801h.02 BT_ROW_TEMP (R153). -/
def BT_ROW_TEMP : Key := 0x480102
/-- 4801h.03 BT_ROW_CLEAR (R153). -/
def BT_ROW_CLEAR : Key := 0x480103
/-- 5000h.01 FLT_STATUS of unit `n` (R225). -/
def FLT_STATUS (n : Nat) : Key := 0x500001 + 0x100 * n
/-- 5000h.02 FLT_CLASS of unit `n` (R225). -/
def FLT_CLASS (n : Nat) : Key := 0x500002 + 0x100 * n
/-- 5000h.03 FLT_REACTION of unit `n` (R225). -/
def FLT_REACTION (n : Nat) : Key := 0x500003 + 0x100 * n
/-- 5000h.04 FLT_OKAY_ROUTE of unit `n` (R225). -/
def FLT_OKAY_ROUTE (n : Nat) : Key := 0x500004 + 0x100 * n
/-- 5000h.05 FLT_AUTO_CLEAR of unit `n` (R225). -/
def FLT_AUTO_CLEAR (n : Nat) : Key := 0x500005 + 0x100 * n
/-- 5000h.06 FLT_COUNT of unit `n` (R225). -/
def FLT_COUNT (n : Nat) : Key := 0x500006 + 0x100 * n
/-- 5000h.07 FLT_FIRST of unit `n` (R225). -/
def FLT_FIRST (n : Nat) : Key := 0x500007 + 0x100 * n
/-- 5000h.08 FLT_LAST of unit `n` (R225). -/
def FLT_LAST (n : Nat) : Key := 0x500008 + 0x100 * n
/-- 5000h.09 FLT_CLEAR of unit `n` (R225). -/
def FLT_CLEAR (n : Nat) : Key := 0x500009 + 0x100 * n
/-- 5000h.0A FLT_FORCE of unit `n` (R225). -/
def FLT_FORCE (n : Nat) : Key := 0x50000A + 0x100 * n
/-- 5000h.0B FLT_FIXED of unit `n` (R225). -/
def FLT_FIXED (n : Nat) : Key := 0x50000B + 0x100 * n
/-- 5000h.0C FLT_CNT_RESET of unit `n` (R225). -/
def FLT_CNT_RESET (n : Nat) : Key := 0x50000C + 0x100 * n
/-- 5500h.01 FC_SUMMARY (R226). -/
def FC_SUMMARY : Key := 0x550001
/-- 5500h.02 FC_NOT_IDLE (R226). -/
def FC_NOT_IDLE : Key := 0x550002
/-- 5500h.03 FC_MAP (R226). -/
def FC_MAP : Key := 0x550003
/-- 5500h.04 FC_CLEAR_ALL (R226). -/
def FC_CLEAR_ALL : Key := 0x550004
/-- 5500h.05 FC_REINIT (R226). -/
def FC_REINIT : Key := 0x550005
/-- 5500h.06 FC_FLOOR_REARM (R226). -/
def FC_FLOOR_REARM : Key := 0x550006
/-- 5500h.07 FC_FLOOR (R226). -/
def FC_FLOOR : Key := 0x550007
/-- 5500h.08 FC_AUTO_HOLD (R226). -/
def FC_AUTO_HOLD : Key := 0x550008
/-- 5500h.09 FC_LOG_LOST (R226). -/
def FC_LOG_LOST : Key := 0x550009
/-- 5500h.0A FC_SELFTEST_CNT (R226). -/
def FC_SELFTEST_CNT : Key := 0x55000A
/-- 5500h.0B FC_WDOG_TMO (R226). -/
def FC_WDOG_TMO : Key := 0x55000B
/-- 5510h.01 MIT_EMU0 (R227). -/
def MIT_EMU0 : Key := 0x551001
/-- 5510h.02 MIT_EMU1 (R227). -/
def MIT_EMU1 : Key := 0x551002
/-- 5510h.03 MIT_EMU2 (R227). -/
def MIT_EMU2 : Key := 0x551003
/-- 5510h.04 MIT_EMU3 (R227). -/
def MIT_EMU3 : Key := 0x551004
/-- 5510h.05 MIT_EMU4 (R227). -/
def MIT_EMU4 : Key := 0x551005
/-- 5510h.06 MIT_EMU5 (R227). -/
def MIT_EMU5 : Key := 0x551006
/-- 5510h.07 MIT_EMU6 (R227). -/
def MIT_EMU6 : Key := 0x551007
/-- 5510h.08 MIT_EMU7 (R227). -/
def MIT_EMU7 : Key := 0x551008
/-- 5510h.09 MIT_EMU8 (R227). -/
def MIT_EMU8 : Key := 0x551009
/-- 5510h.0A MIT_EMU9 (R227). -/
def MIT_EMU9 : Key := 0x55100A
/-- 5510h.0B MIT_EMU10 (R227). -/
def MIT_EMU10 : Key := 0x55100B
/-- 5510h.0C MIT_EMU11 (R227). -/
def MIT_EMU11 : Key := 0x55100C
/-- 5510h.0D MIT_EMU12 (R227). -/
def MIT_EMU12 : Key := 0x55100D
/-- 5510h.0E MIT_EMU13 (R227). -/
def MIT_EMU13 : Key := 0x55100E
/-- 5510h.0F MIT_EMU14 (R227). -/
def MIT_EMU14 : Key := 0x55100F
/-- 5510h.10 MIT_EMU15 (R227). -/
def MIT_EMU15 : Key := 0x551010
/-- 5511h.01 MIT_PSW0 (R227). -/
def MIT_PSW0 : Key := 0x551101
/-- 5511h.02 MIT_PSW1 (R227). -/
def MIT_PSW1 : Key := 0x551102
/-- 5511h.03 MIT_PSW2 (R227). -/
def MIT_PSW2 : Key := 0x551103
/-- 5511h.04 MIT_PSW3 (R227). -/
def MIT_PSW3 : Key := 0x551104
/-- 5511h.05 MIT_PSW4 (R227). -/
def MIT_PSW4 : Key := 0x551105
/-- 5511h.06 MIT_PSW5 (R227). -/
def MIT_PSW5 : Key := 0x551106
/-- 5511h.07 MIT_PSW6 (R227). -/
def MIT_PSW6 : Key := 0x551107
/-- 5511h.08 MIT_PSW7 (R227). -/
def MIT_PSW7 : Key := 0x551108
/-- 5511h.09 MIT_PSW8 (R227). -/
def MIT_PSW8 : Key := 0x551109
/-- 5511h.0A MIT_PSW9 (R227). -/
def MIT_PSW9 : Key := 0x55110A
/-- 5511h.0B MIT_PSW10 (R227). -/
def MIT_PSW10 : Key := 0x55110B
/-- 5511h.0C MIT_PSW11 (R227). -/
def MIT_PSW11 : Key := 0x55110C
/-- 5511h.0D MIT_PSW12 (R227). -/
def MIT_PSW12 : Key := 0x55110D
/-- 5511h.0E MIT_PSW13 (R227). -/
def MIT_PSW13 : Key := 0x55110E
/-- 5511h.0F MIT_PSW14 (R227). -/
def MIT_PSW14 : Key := 0x55110F
/-- 5511h.10 MIT_PSW15 (R227). -/
def MIT_PSW15 : Key := 0x551110
/-- 5512h.01 MIT_EXC0 (R227). -/
def MIT_EXC0 : Key := 0x551201
/-- 5512h.02 MIT_EXC1 (R227). -/
def MIT_EXC1 : Key := 0x551202
/-- 5512h.03 MIT_EXC2 (R227). -/
def MIT_EXC2 : Key := 0x551203
/-- 5512h.04 MIT_EXC3 (R227). -/
def MIT_EXC3 : Key := 0x551204
/-- 6000h.01 RED_MODE (R254). -/
def RED_MODE : Key := 0x600001
/-- 6000h.02 RED_SEAT (R254). -/
def RED_SEAT : Key := 0x600002
/-- 6000h.03 RED_SEAT_STATE (R254). -/
def RED_SEAT_STATE : Key := 0x600003
/-- 6000h.04 RED_CLAIM_MODE (R254). -/
def RED_CLAIM_MODE : Key := 0x600004
/-- 6000h.05 RED_CLAIM (R254). -/
def RED_CLAIM : Key := 0x600005
/-- 6000h.06 RED_RELEASE (R254). -/
def RED_RELEASE : Key := 0x600006
/-- 6000h.07 RED_ELIGIBLE (R254). -/
def RED_ELIGIBLE : Key := 0x600007
/-- 6000h.08 RED_CRIT_MASK (R254). -/
def RED_CRIT_MASK : Key := 0x600008
/-- 6000h.09 RED_HANDOVER_WIN (R254). -/
def RED_HANDOVER_WIN : Key := 0x600009
/-- 6000h.0A RED_CYCLE (R254). -/
def RED_CYCLE : Key := 0x60000A
/-- 6000h.0B RED_CYCLE_FIRST (R254). -/
def RED_CYCLE_FIRST : Key := 0x60000B
/-- 6000h.0C RED_LNK1_MODE (R254). -/
def RED_LNK1_MODE : Key := 0x60000C
/-- 6000h.0D RED_ALIGN_MASK (R254). -/
def RED_ALIGN_MASK : Key := 0x60000D
/-- 6000h.0E RED_SEED (R254). -/
def RED_SEED : Key := 0x60000E
/-- 6000h.0F RED_VOTE_MASK (R254). -/
def RED_VOTE_MASK : Key := 0x60000F
/-- 6000h.10 RED_VOTE_TOL (R254). -/
def RED_VOTE_TOL : Key := 0x600010
/-- 6000h.11 RED_VOTE_N (R254). -/
def RED_VOTE_N : Key := 0x600011
/-- 6000h.12 RED_ARMED (R254). -/
def RED_ARMED : Key := 0x600012
/-- 6000h.13 RED_CLAIM_CNT (R254). -/
def RED_CLAIM_CNT : Key := 0x600013
/-- 6000h.14 RED_ABANDON_CNT (R254). -/
def RED_ABANDON_CNT : Key := 0x600014
/-- 6000h.15 RED_HANDOVER_DROP_CNT (R254). -/
def RED_HANDOVER_DROP_CNT : Key := 0x600015
/-- 6000h.16 RED_OWN_RECORD (R254). -/
def RED_OWN_RECORD : Key := 0x600016
/-- 6001h.01 PT_SEAT of unit `n` (R254). -/
def PT_SEAT (n : Nat) : Key := 0x600101 + 0x100 * n
/-- 6001h.02 PT_STATUS of unit `n` (R254). -/
def PT_STATUS (n : Nat) : Key := 0x600102 + 0x100 * n
/-- 6001h.03 PT_EVIDENCE of unit `n` (R254). -/
def PT_EVIDENCE (n : Nat) : Key := 0x600103 + 0x100 * n
/-- 6001h.04 PT_LINK of unit `n` (R254). -/
def PT_LINK (n : Nat) : Key := 0x600104 + 0x100 * n
/-- 6001h.05 PT_LINE_TRUST of unit `n` (R254). -/
def PT_LINE_TRUST (n : Nat) : Key := 0x600105 + 0x100 * n
/-- 6001h.06 PT_SEQ of unit `n` (R254). -/
def PT_SEQ (n : Nat) : Key := 0x600106 + 0x100 * n
/-- 6001h.07 PT_RX_TIME of unit `n` (R254). -/
def PT_RX_TIME (n : Nat) : Key := 0x600107 + 0x100 * n
/-- 6001h.08 PT_SEQ_GAP_CNT of unit `n` (R254). -/
def PT_SEQ_GAP_CNT (n : Nat) : Key := 0x600108 + 0x100 * n
/-- 6001h.09 PT_ERR_CNT of unit `n` (R254). -/
def PT_ERR_CNT (n : Nat) : Key := 0x600109 + 0x100 * n
/-- 6001h.0A PT_TP_SEEN of unit `n` (R254). -/
def PT_TP_SEEN (n : Nat) : Key := 0x60010A + 0x100 * n
/-- 6001h.0B PT_ALIGN_CNT of unit `n` (R254). -/
def PT_ALIGN_CNT (n : Nat) : Key := 0x60010B + 0x100 * n
/-- 6001h.0C PT_RECORD of unit `n` (R254). -/
def PT_RECORD (n : Nat) : Key := 0x60010C + 0x100 * n
/-- 6003h.01 LNK_STATE of unit `n` (R254). -/
def LNK_STATE (n : Nat) : Key := 0x600301 + 0x100 * n
/-- 6003h.02 LNK_REC_CNT of unit `n` (R254). -/
def LNK_REC_CNT (n : Nat) : Key := 0x600302 + 0x100 * n
/-- 6003h.03 LNK_CRC_CNT of unit `n` (R254). -/
def LNK_CRC_CNT (n : Nat) : Key := 0x600303 + 0x100 * n
/-- 6003h.04 LNK_CODE_ERR_CNT of unit `n` (R254). -/
def LNK_CODE_ERR_CNT (n : Nat) : Key := 0x600304 + 0x100 * n
/-- 6003h.05 LNK_DOWN_CNT of unit `n` (R254). -/
def LNK_DOWN_CNT (n : Nat) : Key := 0x600305 + 0x100 * n
/-- 6005h.01 VOTE_CH0 (R254). -/
def VOTE_CH0 : Key := 0x600501
/-- 6005h.02 VOTE_CH1 (R254). -/
def VOTE_CH1 : Key := 0x600502
/-- 6005h.03 VOTE_CH2 (R254). -/
def VOTE_CH2 : Key := 0x600503
/-- 6005h.04 VOTE_CH3 (R254). -/
def VOTE_CH3 : Key := 0x600504
/-- 6005h.05 VOTE_CH4 (R254). -/
def VOTE_CH4 : Key := 0x600505
/-- 6005h.06 VOTE_CH5 (R254). -/
def VOTE_CH5 : Key := 0x600506
/-- 6005h.07 VOTE_CH6 (R254). -/
def VOTE_CH6 : Key := 0x600507
/-- 6005h.08 VOTE_CH7 (R254). -/
def VOTE_CH7 : Key := 0x600508
/-- 6005h.09 VOTE_CH8 (R254). -/
def VOTE_CH8 : Key := 0x600509
/-- 6005h.0A VOTE_CH9 (R254). -/
def VOTE_CH9 : Key := 0x60050A
/-- 6005h.0B VOTE_CH10 (R254). -/
def VOTE_CH10 : Key := 0x60050B
/-- 6005h.0C VOTE_CH11 (R254). -/
def VOTE_CH11 : Key := 0x60050C
/-- 6005h.0D VOTE_CH12 (R254). -/
def VOTE_CH12 : Key := 0x60050D
/-- 6005h.0E VOTE_CH13 (R254). -/
def VOTE_CH13 : Key := 0x60050E
/-- 6005h.0F VOTE_CH14 (R254). -/
def VOTE_CH14 : Key := 0x60050F
/-- 6005h.10 VOTE_CH15 (R254). -/
def VOTE_CH15 : Key := 0x600510
/-- 7000h.01 MGMT_STATE (R340). -/
def MGMT_STATE : Key := 0x700001
/-- 7000h.02 MGMT_RESTART_CNT (R340). -/
def MGMT_RESTART_CNT : Key := 0x700002
/-- 7000h.03 MGMT_RESTART_REASON (R340). -/
def MGMT_RESTART_REASON : Key := 0x700003
/-- 7000h.04 MGMT_UPTIME (R340). -/
def MGMT_UPTIME : Key := 0x700004
/-- 7001h.01 TEMP_DIE0 (R340). -/
def TEMP_DIE0 : Key := 0x700101
/-- 7001h.02 TEMP_DIE1 (R340). -/
def TEMP_DIE1 : Key := 0x700102
/-- 7001h.03 TEMP_DIE2 (R340). -/
def TEMP_DIE2 : Key := 0x700103
/-- 7001h.04 TEMP_DIE3 (R340). -/
def TEMP_DIE3 : Key := 0x700104
/-- 7001h.05 TEMP_DIE_MAX (R340). -/
def TEMP_DIE_MAX : Key := 0x700105
/-- 7002h.01 SUP_VEXC (R340). -/
def SUP_VEXC : Key := 0x700201
/-- 7002h.02 SUP_VANA (R340). -/
def SUP_VANA : Key := 0x700202
/-- 7002h.03 SUP_VIO (R340). -/
def SUP_VIO : Key := 0x700203
/-- 7002h.04 SUP_VDD18 (R340). -/
def SUP_VDD18 : Key := 0x700204
/-- 7002h.05 SUP_VCORE (R340). -/
def SUP_VCORE : Key := 0x700205
/-- 7003h.01 CLK_PLL_LOCK (R340). -/
def CLK_PLL_LOCK : Key := 0x700301
/-- 7003h.02 CLK_FLOOR_DEV (R340). -/
def CLK_FLOOR_DEV : Key := 0x700302
/-- 7008h.01 SCH_MRAM_RUNNING (R340). -/
def SCH_MRAM_RUNNING : Key := 0x700801
/-- 7008h.02 SCH_MRAM_PENDING (R340). -/
def SCH_MRAM_PENDING : Key := 0x700802
/-- 7008h.03 SCH_MRAM_ELAPSED (R340). -/
def SCH_MRAM_ELAPSED : Key := 0x700803
/-- 7008h.04 SCH_REFUSE_CNT (R340). -/
def SCH_REFUSE_CNT : Key := 0x700804
/-- 7010h.01 SCH_CH_RUNNING of unit `n` (R340). -/
def SCH_CH_RUNNING (n : Nat) : Key := 0x701001 + 0x100 * n
/-- 7010h.02 SCH_CH_PENDING of unit `n` (R340). -/
def SCH_CH_PENDING (n : Nat) : Key := 0x701002 + 0x100 * n
/-- 7010h.03 SCH_CH_SUSPENDED of unit `n` (R340). -/
def SCH_CH_SUSPENDED (n : Nat) : Key := 0x701003 + 0x100 * n
/-- 7400h.01 LOG_NEWEST (R341). -/
def LOG_NEWEST : Key := 0x740001
/-- 7400h.02 LOG_OLDEST (R341). -/
def LOG_OLDEST : Key := 0x740002
/-- 7400h.03 LOG_WIN_SEQ (R341). -/
def LOG_WIN_SEQ : Key := 0x740003
/-- 7400h.04 LOG_WIN_DATA (R341). -/
def LOG_WIN_DATA : Key := 0x740004
/-- 7400h.05 LOG_COMPACT (R341). -/
def LOG_COMPACT : Key := 0x740005
/-- 7400h.06 LOG_REWRITE_CNT (R341). -/
def LOG_REWRITE_CNT : Key := 0x740006
/-- 7400h.07 LOG_BAD_CNT (R341). -/
def LOG_BAD_CNT : Key := 0x740007
/-- 7800h.01 UPD_STATE (R341). -/
def UPD_STATE : Key := 0x780001
/-- 7800h.02 UPD_BEGIN (R341). -/
def UPD_BEGIN : Key := 0x780002
/-- 7800h.03 UPD_OFFSET (R341). -/
def UPD_OFFSET : Key := 0x780003
/-- 7800h.04 UPD_DATA (R341). -/
def UPD_DATA : Key := 0x780004
/-- 7800h.05 UPD_VERIFY (R341). -/
def UPD_VERIFY : Key := 0x780005
/-- 7800h.06 UPD_ACTIVATE (R341). -/
def UPD_ACTIVATE : Key := 0x780006
/-- 7800h.07 UPD_CONFIRM (R341). -/
def UPD_CONFIRM : Key := 0x780007
/-- 7800h.08 UPD_ABORT (R341). -/
def UPD_ABORT : Key := 0x780008
/-- 7800h.09 UPD_DETAIL (R341). -/
def UPD_DETAIL : Key := 0x780009
/-- 7800h.0A UPD_TRIAL_TMO (R341). -/
def UPD_TRIAL_TMO : Key := 0x78000A
/-- 7800h.0B UPD_AUTO_CONFIRM (R341). -/
def UPD_AUTO_CONFIRM : Key := 0x78000B
/-- 7800h.0C UPD_QUIET_TMO (R341). -/
def UPD_QUIET_TMO : Key := 0x78000C
/-- 7801h.01 FW_BANK_ACTIVE (R341). -/
def FW_BANK_ACTIVE : Key := 0x780101
/-- 7801h.02 FW_BANK0_VER (R341). -/
def FW_BANK0_VER : Key := 0x780102
/-- 7801h.03 FW_BANK1_VER (R341). -/
def FW_BANK1_VER : Key := 0x780103
/-- 7801h.04 FW_OTP_STEPS (R341). -/
def FW_OTP_STEPS : Key := 0x780104
/-- 7801h.05 FW_SWITCH_CNT (R341). -/
def FW_SWITCH_CNT : Key := 0x780105
/-- 7C00h.01 LC_STATE (R342). -/
def LC_STATE : Key := 0x7C0001
/-- 7C00h.02 LC_ADVANCE (R342). -/
def LC_ADVANCE : Key := 0x7C0002
/-- 7C00h.03 LC_TIME (R342). -/
def LC_TIME : Key := 0x7C0003
/-- 7C01h.01 KEY_OPERATOR (R342). -/
def KEY_OPERATOR : Key := 0x7C0101
/-- 7C01h.02 KEY_INTEGRATOR (R342). -/
def KEY_INTEGRATOR : Key := 0x7C0102
/-- 7C01h.03 KEY_STATE (R342). -/
def KEY_STATE : Key := 0x7C0103
/-- 7C10h.01 AUTH_CHALLENGE of unit `n` (R342). -/
def AUTH_CHALLENGE (n : Nat) : Key := 0x7C1001 + 0x100 * n
/-- 7C10h.02 AUTH_RESPONSE of unit `n` (R342). -/
def AUTH_RESPONSE (n : Nat) : Key := 0x7C1002 + 0x100 * n
/-- 7C10h.03 AUTH_LOGOUT of unit `n` (R342). -/
def AUTH_LOGOUT (n : Nat) : Key := 0x7C1003 + 0x100 * n
/-- 7C10h.04 AUTH_FAIL_CNT of unit `n` (R342). -/
def AUTH_FAIL_CNT (n : Nat) : Key := 0x7C1004 + 0x100 * n
/-- 7C10h.05 AUTH_LOCK_LEFT of unit `n` (R342). -/
def AUTH_LOCK_LEFT (n : Nat) : Key := 0x7C1005 + 0x100 * n
/-- 7D00h.01 DBG_LEVEL (R342). -/
def DBG_LEVEL : Key := 0x7D0001
/-- 7D00h.02 DBG_OPEN_CNT (R342). -/
def DBG_OPEN_CNT : Key := 0x7D0002
/-- 7E00h.01 PWR_STATE (R342). -/
def PWR_STATE : Key := 0x7E0001
/-- 7E00h.02 PWR_CMD (R342). -/
def PWR_CMD : Key := 0x7E0002
/-- 7E00h.03 PWR_OFF (R342). -/
def PWR_OFF : Key := 0x7E0003
/-- 7E00h.04 PWR_QUIET_REC_DIV (R342). -/
def PWR_QUIET_REC_DIV : Key := 0x7E0004
/-- 7E00h.05 PWR_AUTO_HOLD (R342). -/
def PWR_AUTO_HOLD : Key := 0x7E0005
/-- 7E00h.06 PWR_REASON (R342). -/
def PWR_REASON : Key := 0x7E0006
/-- 7E00h.07 PWR_TIME (R342). -/
def PWR_TIME : Key := 0x7E0007
/-- 8000h.01 CAP_MODE (R96). -/
def CAP_MODE : Key := 0x800001
/-- 8000h.02 CAP_TRIGGER (R96). -/
def CAP_TRIGGER : Key := 0x800002
/-- 8000h.03 CAP_TRIG_TIME (R96). -/
def CAP_TRIG_TIME : Key := 0x800003
/-- 8000h.04 CAP_POST (R96). -/
def CAP_POST : Key := 0x800004
/-- 8000h.05 CAP_ARM (R96). -/
def CAP_ARM : Key := 0x800005
/-- 8000h.06 CAP_STOP (R96). -/
def CAP_STOP : Key := 0x800006
/-- 8000h.07 CAP_STATE (R96). -/
def CAP_STATE : Key := 0x800007
/-- 8000h.08 CAP_COUNT (R96). -/
def CAP_COUNT : Key := 0x800008
/-- 8000h.09 CAP_TRIG_INDEX (R96). -/
def CAP_TRIG_INDEX : Key := 0x800009
/-- 8001h.01 CAP_WIN_INDEX (R96). -/
def CAP_WIN_INDEX : Key := 0x800101
/-- 8001h.02 CAP_WIN_DATA (R96). -/
def CAP_WIN_DATA : Key := 0x800102

end Reg

/-- Objects 1000h.00 to 1020h.0A. -/
def objects0 : List Obj := [
  ⟨0x1000, 0x0, .u32, .ro, .observer, none, none⟩,
  ⟨0x1001, 0x0, .u8, .ro, .observer, none, none⟩,
  ⟨0x1002, 0x0, .u32, .ro, .observer, none, none⟩,
  ⟨0x1003, 0x0, .u8, .rw, .operator, none, none⟩,
  ⟨0x1003, 0x1, (.domain 16), .ro, .observer, none, none⟩,
  ⟨0x1003, 0x2, (.domain 16), .ro, .observer, none, none⟩,
  ⟨0x1003, 0x3, (.domain 16), .ro, .observer, none, none⟩,
  ⟨0x1003, 0x4, (.domain 16), .ro, .observer, none, none⟩,
  ⟨0x1003, 0x5, (.domain 16), .ro, .observer, none, none⟩,
  ⟨0x1003, 0x6, (.domain 16), .ro, .observer, none, none⟩,
  ⟨0x1003, 0x7, (.domain 16), .ro, .observer, none, none⟩,
  ⟨0x1003, 0x8, (.domain 16), .ro, .observer, none, none⟩,
  ⟨0x1003, 0x9, (.domain 16), .ro, .observer, none, none⟩,
  ⟨0x1003, 0xA, (.domain 16), .ro, .observer, none, none⟩,
  ⟨0x1003, 0xB, (.domain 16), .ro, .observer, none, none⟩,
  ⟨0x1003, 0xC, (.domain 16), .ro, .observer, none, none⟩,
  ⟨0x1003, 0xD, (.domain 16), .ro, .observer, none, none⟩,
  ⟨0x1003, 0xE, (.domain 16), .ro, .observer, none, none⟩,
  ⟨0x1003, 0xF, (.domain 16), .ro, .observer, none, none⟩,
  ⟨0x1003, 0x10, (.domain 16), .ro, .observer, none, none⟩,
  ⟨0x1008, 0x0, (.domain 8), .ro, .observer, none, none⟩,
  ⟨0x1009, 0x0, (.domain 8), .ro, .observer, none, none⟩,
  ⟨0x100A, 0x0, (.domain 16), .ro, .observer, none, none⟩,
  ⟨0x1010, 0x1, .u32, .wo, .integrator, none, none⟩,
  ⟨0x1011, 0x1, .u32, .wo, .integrator, none, none⟩,
  ⟨0x1011, 0x2, .u32, .wo, .integrator, none, none⟩,
  ⟨0x1018, 0x1, .u32, .ro, .observer, none, none⟩,
  ⟨0x1018, 0x2, .u32, .ro, .observer, none, none⟩,
  ⟨0x1018, 0x3, .u32, .ro, .observer, none, none⟩,
  ⟨0x1018, 0x4, .u32, .ro, .observer, none, none⟩,
  ⟨0x1020, 0x1, .u8, .ro, .observer, (some (0, 4)), none⟩,
  ⟨0x1020, 0x2, .bool, .ro, .observer, none, none⟩,
  ⟨0x1020, 0x3, .u8, .ro, .observer, (some (0, 3)), none⟩,
  ⟨0x1020, 0x4, .time80, .ro, .observer, none, none⟩,
  ⟨0x1020, 0x5, .bool, .rws, .integrator, none, none⟩,
  ⟨0x1020, 0x6, .u32, .ro, .observer, none, none⟩,
  ⟨0x1020, 0x7, .u32, .ro, .observer, none, none⟩,
  ⟨0x1020, 0x8, .u8, .ro, .observer, (some (0, 3)), none⟩,
  ⟨0x1020, 0x9, .u32, .ro, .observer, none, none⟩,
  ⟨0x1020, 0xA, .u8, .ro, .observer, (some (0, 2)), none⟩]

/-- Objects 1020h.0B to 1200h.03. -/
def objects1 : List Obj := [
  ⟨0x1020, 0xB, .u8, .ro, .observer, (some (0, 3)), none⟩,
  ⟨0x1100, 0x1, .u32, .wo, .operator, none, none⟩,
  ⟨0x1101, 0x1, .u32, .wo, .operator, none, none⟩,
  ⟨0x1102, 0x1, .u64, .wo, .operator, none, none⟩,
  ⟨0x1103, 0x1, .u8, .wo, .operator, (some (1, 4)), none⟩,
  ⟨0x1104, 0x1, .u8, .ro, .observer, (some (0, 128)), none⟩,
  ⟨0x1104, 0x2, .u8, .rw, .observer, (some (0, 127)), none⟩,
  ⟨0x1104, 0x3, (.domain 256), .ro, .observer, none, none⟩,
  ⟨0x1104, 0x4, .u8, .ro, .observer, (some (0, 16)), none⟩,
  ⟨0x1105, 0x1, .u64, .ro, .observer, none, none⟩,
  ⟨0x1105, 0x2, .u64, .ro, .observer, none, none⟩,
  ⟨0x1105, 0x3, .u64, .ro, .observer, none, none⟩,
  ⟨0x1105, 0x4, .u64, .ro, .observer, none, none⟩,
  ⟨0x1105, 0x5, .u64, .ro, .observer, none, none⟩,
  ⟨0x1105, 0x6, .u64, .ro, .observer, none, none⟩,
  ⟨0x1105, 0x7, .u64, .ro, .observer, none, none⟩,
  ⟨0x1105, 0x8, .u64, .ro, .observer, none, none⟩,
  ⟨0x1105, 0x9, .u64, .ro, .observer, none, none⟩,
  ⟨0x1105, 0xA, .u64, .ro, .observer, none, none⟩,
  ⟨0x1105, 0xB, .u64, .ro, .observer, none, none⟩,
  ⟨0x1105, 0xC, .u64, .ro, .observer, none, none⟩,
  ⟨0x1105, 0xD, .u64, .ro, .observer, none, none⟩,
  ⟨0x1105, 0xE, .u64, .ro, .observer, none, none⟩,
  ⟨0x1105, 0xF, .u64, .ro, .observer, none, none⟩,
  ⟨0x1105, 0x10, .u64, .ro, .observer, none, none⟩,
  ⟨0x1110, 0x1, .u16, .rw, .integrator, (some (0, 60000)), none⟩,
  ⟨0x1110, 0x2, .cmd, .wo, .observer, none, none⟩,
  ⟨0x1110, 0x3, .u8, .ro, .observer, (some (0, 2)), none⟩,
  ⟨0x1110, 0x4, .u8, .ro, .observer, (some (0, 64)), none⟩,
  ⟨0x1110, 0x5, .u16, .ro, .observer, none, none⟩,
  ⟨0x1110, 0x6, .u8, .ro, .observer, (some (0, 6)), none⟩,
  ⟨0x1110, 0x7, .u32, .ro, .observer, none, none⟩,
  ⟨0x1110, 0x8, .cmd, .wo, .operator, none, none⟩,
  ⟨0x1110, 0x9, .cmd, .wo, .operator, none, none⟩,
  ⟨0x1110, 0xA, .u32, .ro, .observer, none, none⟩,
  ⟨0x1110, 0xB, .u8, .ro, .observer, (some (0, 3)), none⟩,
  ⟨0x1110, 0xC, .u8, .ro, .observer, (some (0, 6)), none⟩,
  ⟨0x1200, 0x1, .bool, .rws, .integrator, none, none⟩,
  ⟨0x1200, 0x2, .u64, .rws, .integrator, none, some 281474976710655⟩,
  ⟨0x1200, 0x3, .u32, .rws, .integrator, none, none⟩]

/-- Objects 1200h.04 to 1400h.04. -/
def objects2 : List Obj := [
  ⟨0x1200, 0x4, .u8, .rws, .integrator, (some (0, 3)), none⟩,
  ⟨0x1200, 0x5, .u8, .rws, .integrator, none, some 3⟩,
  ⟨0x1200, 0x6, .u32, .rws, .integrator, none, none⟩,
  ⟨0x1200, 0x7, .u16, .rws, .integrator, none, none⟩,
  ⟨0x1200, 0x8, .u8, .ro, .observer, (some (0, 3)), none⟩,
  ⟨0x1200, 0x9, .u32, .ro, .observer, none, none⟩,
  ⟨0x1200, 0xA, .u32, .ro, .observer, none, none⟩,
  ⟨0x1200, 0xB, .u32, .ro, .observer, none, none⟩,
  ⟨0x1200, 0xC, .u32, .ro, .observer, none, none⟩,
  ⟨0x1200, 0xD, .u32, .ro, .observer, none, none⟩,
  ⟨0x1210, 0x1, .bool, .rws, .integrator, none, none⟩,
  ⟨0x1210, 0x2, .u8, .rws, .integrator, (some (0, 127)), none⟩,
  ⟨0x1210, 0x3, .u32, .rws, .integrator, (some (10000, 1000000)), none⟩,
  ⟨0x1210, 0x4, .u16, .rws, .integrator, (some (500, 900)), none⟩,
  ⟨0x1210, 0x5, .u32, .rws, .integrator, (some (10000, 8000000)), none⟩,
  ⟨0x1210, 0x6, .u16, .rws, .integrator, (some (500, 900)), none⟩,
  ⟨0x1210, 0x7, .bool, .rws, .integrator, none, none⟩,
  ⟨0x1210, 0x8, .cmd, .wo, .operator, none, none⟩,
  ⟨0x1210, 0x9, .u8, .ro, .observer, (some (0, 3)), none⟩,
  ⟨0x1210, 0xA, .u16, .ro, .observer, none, none⟩,
  ⟨0x1210, 0xB, .u32, .ro, .observer, none, none⟩,
  ⟨0x1210, 0xC, .u32, .ro, .observer, none, none⟩,
  ⟨0x1220, 0x1, .u32, .ro, .observer, none, none⟩,
  ⟨0x1220, 0x2, .u32, .ro, .observer, none, none⟩,
  ⟨0x1220, 0x3, .u32, .ro, .observer, none, none⟩,
  ⟨0x1300, 0x1, .bool, .rwf, .integrator, none, none⟩,
  ⟨0x1300, 0x2, .u8, .rws, .integrator, (some (0, 15)), none⟩,
  ⟨0x1300, 0x3, .u16, .rws, .integrator, none, none⟩,
  ⟨0x1300, 0x4, .u16, .rws, .integrator, none, none⟩,
  ⟨0x1300, 0x5, .u32, .rwf, .integrator, none, none⟩,
  ⟨0x1300, 0x6, .u32, .rws, .integrator, (some (25000, 1000000000)), none⟩,
  ⟨0x1300, 0x7, .u64, .rws, .integrator, none, some 281474976710655⟩,
  ⟨0x1300, 0x8, .u16, .rws, .integrator, none, some 61439⟩,
  ⟨0x1300, 0x9, .u32, .rws, .integrator, none, some 2684354559⟩,
  ⟨0x1300, 0xA, .u32, .ro, .observer, none, none⟩,
  ⟨0x1300, 0xB, .u32, .ro, .observer, none, none⟩,
  ⟨0x1400, 0x1, .u32, .ro, .observer, none, none⟩,
  ⟨0x1400, 0x2, .u32, .rw, .operator, (some (66060288, 68157440)), none⟩,
  ⟨0x1400, 0x3, .i32, .wo, .integrator, none, none⟩,
  ⟨0x1400, 0x4, .i32, .rw, .operator, none, none⟩]

/-- Objects 1400h.05 to 1500h.0B. -/
def objects3 : List Obj := [
  ⟨0x1400, 0x5, .i32, .ro, .observer, none, none⟩,
  ⟨0x1400, 0x6, .u32, .ro, .observer, none, none⟩,
  ⟨0x1400, 0x7, .i32, .ro, .observer, none, none⟩,
  ⟨0x1401, 0x1, .time80, .rw, .operator, none, none⟩,
  ⟨0x1401, 0x2, .bool, .ro, .observer, none, none⟩,
  ⟨0x1401, 0x3, .time80, .ro, .observer, none, none⟩,
  ⟨0x1410, 0x1, .bool, .rws, .integrator, none, none⟩,
  ⟨0x1410, 0x2, .i32, .rws, .integrator, none, none⟩,
  ⟨0x1410, 0x3, .i32, .rws, .integrator, none, none⟩,
  ⟨0x1410, 0x4, .i32, .rws, .integrator, none, none⟩,
  ⟨0x1410, 0x5, .i32, .rws, .integrator, none, none⟩,
  ⟨0x1410, 0x6, .u8, .rws, .integrator, none, some 3⟩,
  ⟨0x1410, 0x7, .u32, .ro, .observer, none, none⟩,
  ⟨0x1418, 0x1, .u8, .ro, .observer, (some (0, 32)), none⟩,
  ⟨0x1418, 0x2, .u8, .rw, .observer, (some (0, 31)), none⟩,
  ⟨0x1418, 0x3, (.domain 256), .ro, .observer, none, none⟩,
  ⟨0x1418, 0x4, .u8, .wo, .operator, (some (1, 32)), none⟩,
  ⟨0x1418, 0x5, .u32, .ro, .observer, none, none⟩,
  ⟨0x1440, 0x1, .u8, .rw, .operator, (some (0, 1)), none⟩,
  ⟨0x1440, 0x2, .u8, .rw, .operator, (some (0, 1)), none⟩,
  ⟨0x1440, 0x3, .u8, .rw, .operator, (some (0, 2)), none⟩,
  ⟨0x1440, 0x4, .u32, .rw, .operator, none, none⟩,
  ⟨0x1440, 0x5, .u32, .rw, .operator, (some (0, 1000000000)), none⟩,
  ⟨0x1440, 0x6, .cmd, .wo, .operator, none, none⟩,
  ⟨0x1440, 0x7, .u8, .ro, .observer, (some (0, 2)), none⟩,
  ⟨0x1440, 0x8, .u32, .ro, .observer, none, none⟩,
  ⟨0x1440, 0x9, .u32, .ro, .observer, none, none⟩,
  ⟨0x1440, 0xA, .u32, .ro, .observer, none, none⟩,
  ⟨0x1440, 0xB, (.domain 264), .ro, .observer, none, none⟩,
  ⟨0x1500, 0x1, .u8, .ro, .observer, (some (0, 4)), none⟩,
  ⟨0x1500, 0x2, .u8, .rws, .integrator, (some (0, 1)), none⟩,
  ⟨0x1500, 0x3, .u32, .rws, .integrator, (some (0, 2147483648)), none⟩,
  ⟨0x1500, 0x4, .u8, .ro, .observer, (some (0, 16)), none⟩,
  ⟨0x1500, 0x5, .u16, .rw, .operator, (some (0, 768)), none⟩,
  ⟨0x1500, 0x6, (.domain 256), .rw, .operator, none, none⟩,
  ⟨0x1500, 0x7, (.domain 16), .wo, .operator, none, none⟩,
  ⟨0x1500, 0x8, .cmd, .wo, .operator, none, none⟩,
  ⟨0x1500, 0x9, .u8, .rw, .observer, (some (0, 15)), none⟩,
  ⟨0x1500, 0xA, (.domain 16), .ro, .observer, none, none⟩,
  ⟨0x1500, 0xB, .u16, .rw, .observer, (some (0, 768)), none⟩]

/-- Objects 1500h.0C to 2013h.02. -/
def objects4 : List Obj := [
  ⟨0x1500, 0xC, (.domain 256), .ro, .observer, none, none⟩,
  ⟨0x1500, 0xD, (.domain 256), .ro, .observer, none, none⟩,
  ⟨0x1500, 0xE, .u32, .ro, .observer, none, none⟩,
  ⟨0x1500, 0xF, .u32, .ro, .observer, none, none⟩,
  ⟨0x2000, 0x1, .bool, .rwf, .operator, none, none⟩,
  ⟨0x2000, 0x2, .u8, .ro, .observer, (some (0, 4)), none⟩,
  ⟨0x2000, 0x3, .u8, .ro, .observer, (some (0, 17)), none⟩,
  ⟨0x2000, 0x4, .u16, .ro, .observer, none, none⟩,
  ⟨0x2000, 0x5, .u16, .rw, .operator, none, none⟩,
  ⟨0x2000, 0x6, .u32, .ro, .observer, none, none⟩,
  ⟨0x2000, 0x7, .cmd, .wo, .operator, none, none⟩,
  ⟨0x2000, 0x8, .bool, .ro, .observer, none, none⟩,
  ⟨0x2000, 0x9, .u32, .ro, .observer, none, none⟩,
  ⟨0x2000, 0xA, .u32, .ro, .observer, none, none⟩,
  ⟨0x2000, 0xB, .u32, .ro, .observer, none, none⟩,
  ⟨0x2001, 0x1, .i16, .ro, .observer, none, none⟩,
  ⟨0x2001, 0x2, .bool, .ro, .observer, none, none⟩,
  ⟨0x2001, 0x3, .pos40, .rw, .operator, none, none⟩,
  ⟨0x2001, 0x4, .cmd, .wo, .operator, none, none⟩,
  ⟨0x2001, 0x5, .i16, .ro, .observer, none, none⟩,
  ⟨0x2001, 0x6, .bool, .rw, .operator, none, none⟩,
  ⟨0x2002, 0x1, (.domain 24), .ro, .observer, none, none⟩,
  ⟨0x2010, 0x1, .u8, .rws, .integrator, (some (0, 3)), none⟩,
  ⟨0x2010, 0x2, .i8, .rwf, .integrator, (some (-3, 2)), none⟩,
  ⟨0x2010, 0x3, .i8, .rwf, .integrator, (some (-3, 2)), none⟩,
  ⟨0x2010, 0x4, .u8, .rws, .integrator, (some (0, 3)), none⟩,
  ⟨0x2010, 0x5, .u16, .rws, .integrator, (some (1639, 49152)), none⟩,
  ⟨0x2011, 0x1, .i16, .rws, .integrator, (some (-512, 511)), none⟩,
  ⟨0x2011, 0x2, .i16, .rws, .integrator, (some (-512, 511)), none⟩,
  ⟨0x2011, 0x3, .i16, .rws, .integrator, (some (-512, 511)), none⟩,
  ⟨0x2011, 0x4, .i16, .rws, .integrator, (some (-512, 511)), none⟩,
  ⟨0x2011, 0x5, .i16, .rws, .integrator, (some (-2048, 2047)), none⟩,
  ⟨0x2011, 0x6, .bool, .ro, .observer, none, none⟩,
  ⟨0x2012, 0x1, .i16, .rws, .integrator, (some (-6000, 2000)), none⟩,
  ⟨0x2012, 0x2, .i16, .rws, .integrator, (some (3000, 11000)), none⟩,
  ⟨0x2012, 0x3, .i16, .rws, .integrator, (some (-6000, 2000)), none⟩,
  ⟨0x2012, 0x4, .i16, .rws, .integrator, (some (3000, 11000)), none⟩,
  ⟨0x2012, 0x5, .u16, .rw, .operator, none, none⟩,
  ⟨0x2013, 0x1, .angle24, .rws, .integrator, none, some 16777215⟩,
  ⟨0x2013, 0x2, .angle24, .ro, .observer, none, none⟩]

/-- Objects 2013h.03 to 2030h.02. -/
def objects5 : List Obj := [
  ⟨0x2013, 0x3, .cmd, .wo, .integrator, none, none⟩,
  ⟨0x2013, 0x4, .u32, .ro, .observer, none, none⟩,
  ⟨0x2013, 0x5, .u32, .ro, .observer, none, none⟩,
  ⟨0x2013, 0x6, .u8, .ro, .observer, (some (0, 1)), none⟩,
  ⟨0x2013, 0x7, .u8, .rwf, .operator, (some (0, 1)), none⟩,
  ⟨0x2013, 0x8, .cmd, .wo, .operator, none, none⟩,
  ⟨0x2013, 0x9, .u32, .rw, .operator, none, none⟩,
  ⟨0x2013, 0xA, .u8, .ro, .observer, (some (0, 3)), none⟩,
  ⟨0x2013, 0xB, .u16, .rw, .operator, none, none⟩,
  ⟨0x2013, 0xC, .u16, .rws, .integrator, (some (100, 2000)), none⟩,
  ⟨0x2013, 0xD, .u32, .rws, .integrator, (some (1000, 16000000)), none⟩,
  ⟨0x2013, 0xE, .u32, .ro, .observer, none, none⟩,
  ⟨0x2013, 0xF, .cmd, .wo, .operator, none, none⟩,
  ⟨0x2014, 0x1, .bool, .rwf, .integrator, none, none⟩,
  ⟨0x2014, 0x2, .i16, .ro, .observer, none, none⟩,
  ⟨0x2014, 0x3, .i16, .ro, .observer, none, none⟩,
  ⟨0x2014, 0x4, .u32, .ro, .observer, none, none⟩,
  ⟨0x2015, 0x1, .u8, .rws, .integrator, (some (0, 2)), none⟩,
  ⟨0x2015, 0x2, .u32, .rws, .integrator, (some (1, 86400)), none⟩,
  ⟨0x2015, 0x3, .u16, .rws, .integrator, (some (100, 24000)), none⟩,
  ⟨0x2015, 0x4, .cmd, .wo, .operator, none, none⟩,
  ⟨0x2015, 0x5, .u8, .ro, .observer, (some (0, 4)), none⟩,
  ⟨0x2016, 0x1, .u32, .ro, .observer, none, none⟩,
  ⟨0x2016, 0x2, .u32, .ro, .observer, none, none⟩,
  ⟨0x2016, 0x3, .u32, .rws, .integrator, none, none⟩,
  ⟨0x2016, 0x4, .u32, .rws, .integrator, none, none⟩,
  ⟨0x2016, 0x5, .i16, .rws, .integrator, none, none⟩,
  ⟨0x2016, 0x6, .cmd, .wo, .integrator, none, none⟩,
  ⟨0x2016, 0x7, .u32, .ro, .observer, none, none⟩,
  ⟨0x2016, 0x8, .u32, .ro, .observer, none, none⟩,
  ⟨0x2016, 0x9, .u32, .rws, .integrator, none, none⟩,
  ⟨0x2016, 0xA, .u32, .rws, .integrator, none, none⟩,
  ⟨0x2017, 0x1, .u8, .rws, .integrator, (some (0, 2)), none⟩,
  ⟨0x2017, 0x2, .i16, .ro, .observer, none, none⟩,
  ⟨0x2017, 0x3, .i16, .ro, .observer, none, none⟩,
  ⟨0x2017, 0x4, .i16, .rw, .operator, none, none⟩,
  ⟨0x2017, 0x5, .u8, .ro, .observer, none, none⟩,
  ⟨0x2017, 0x6, .u8, .rws, .integrator, (some (1, 2)), none⟩,
  ⟨0x2030, 0x1, .u16, .rwf, .integrator, (some (0, 32767)), none⟩,
  ⟨0x2030, 0x2, .u8, .rwf, .integrator, (some (0, 15)), none⟩]

/-- Objects 2030h.03 to 2080h.07. -/
def objects6 : List Obj := [
  ⟨0x2030, 0x3, .u16, .rwf, .integrator, (some (0, 32767)), none⟩,
  ⟨0x2030, 0x4, .u8, .rwf, .integrator, (some (0, 15)), none⟩,
  ⟨0x2030, 0x5, .u16, .rwf, .integrator, (some (0, 32767)), none⟩,
  ⟨0x2030, 0x6, .u8, .rwf, .integrator, (some (0, 15)), none⟩,
  ⟨0x2030, 0x7, .u16, .rwf, .integrator, (some (0, 32767)), none⟩,
  ⟨0x2030, 0x8, .u8, .rwf, .integrator, (some (0, 15)), none⟩,
  ⟨0x2031, 0x1, .u16, .rwf, .integrator, none, none⟩,
  ⟨0x2031, 0x2, .u16, .rwf, .integrator, none, none⟩,
  ⟨0x2031, 0x3, .cmd, .wo, .integrator, none, none⟩,
  ⟨0x2031, 0x4, .u32, .ro, .observer, none, none⟩,
  ⟨0x2031, 0x5, .u16, .ro, .observer, none, none⟩,
  ⟨0x2048, 0x1, .u16, .rwf, .integrator, (some (0, 32767)), none⟩,
  ⟨0x2048, 0x2, .u8, .rwf, .integrator, (some (0, 15)), none⟩,
  ⟨0x2048, 0x3, .u16, .rwf, .integrator, (some (0, 32767)), none⟩,
  ⟨0x2048, 0x4, .u8, .rwf, .integrator, (some (0, 15)), none⟩,
  ⟨0x2048, 0x5, .u16, .rwf, .integrator, (some (0, 32767)), none⟩,
  ⟨0x2048, 0x6, .u8, .rwf, .integrator, (some (0, 15)), none⟩,
  ⟨0x2048, 0x7, .u16, .rwf, .integrator, (some (0, 32767)), none⟩,
  ⟨0x2048, 0x8, .u8, .rwf, .integrator, (some (0, 15)), none⟩,
  ⟨0x2049, 0x1, .u16, .rwf, .integrator, none, none⟩,
  ⟨0x2049, 0x2, .u16, .rwf, .integrator, none, none⟩,
  ⟨0x2049, 0x3, .cmd, .wo, .integrator, none, none⟩,
  ⟨0x2049, 0x4, .u32, .ro, .observer, none, none⟩,
  ⟨0x2049, 0x5, .u16, .ro, .observer, none, none⟩,
  ⟨0x2060, 0x1, (.domain 16), .ro, .observer, none, none⟩,
  ⟨0x2060, 0x2, .pos40, .ro, .observer, none, none⟩,
  ⟨0x2060, 0x3, .i16, .ro, .observer, none, none⟩,
  ⟨0x2060, 0x4, .i16, .ro, .observer, none, none⟩,
  ⟨0x2060, 0x5, .u32, .ro, .observer, none, none⟩,
  ⟨0x2060, 0x6, .u8, .ro, .observer, none, none⟩,
  ⟨0x2068, 0x1, (.domain 16), .ro, .observer, none, none⟩,
  ⟨0x2068, 0x2, (.domain 16), .ro, .observer, none, none⟩,
  ⟨0x2068, 0x3, (.domain 16), .ro, .observer, none, none⟩,
  ⟨0x2080, 0x1, .u16, .rws, .integrator, none, none⟩,
  ⟨0x2080, 0x2, .u16, .rws, .integrator, none, none⟩,
  ⟨0x2080, 0x3, .u16, .rws, .integrator, none, none⟩,
  ⟨0x2080, 0x4, .u16, .rws, .integrator, (some (1, 64)), none⟩,
  ⟨0x2080, 0x5, .u16, .rws, .integrator, none, none⟩,
  ⟨0x2080, 0x6, .u16, .rws, .integrator, (some (1, 1024)), none⟩,
  ⟨0x2080, 0x7, .u16, .rws, .integrator, none, none⟩]

/-- Objects 2080h.08 to 3001h.01. -/
def objects7 : List Obj := [
  ⟨0x2080, 0x8, .u16, .rws, .integrator, none, none⟩,
  ⟨0x2080, 0x9, .u16, .rws, .integrator, (some (1, 65535)), none⟩,
  ⟨0x2081, 0x1, .u32, .rws, .integrator, (some (200, 100000)), none⟩,
  ⟨0x2081, 0x2, .u16, .rws, .integrator, none, none⟩,
  ⟨0x2081, 0x3, .u16, .rws, .integrator, (some (1, 256)), none⟩,
  ⟨0x2081, 0x4, .u32, .rws, .integrator, (some (10, 5000)), none⟩,
  ⟨0x2081, 0x5, .bool, .rws, .integrator, none, none⟩,
  ⟨0x2081, 0x6, .u16, .rws, .integrator, (some (1, 4096)), none⟩,
  ⟨0x20A0, 0x1, .u8, .rwf, .integrator, (some (0, 3)), none⟩,
  ⟨0x20A0, 0x2, .u16, .rwf, .integrator, (some (1, 8192)), none⟩,
  ⟨0x20A0, 0x3, .u16, .rwf, .integrator, (some (1, 40000)), none⟩,
  ⟨0x20A0, 0x4, .u16, .rwf, .integrator, (some (1, 40000)), none⟩,
  ⟨0x20A0, 0x5, .u16, .rwf, .integrator, (some (1, 60000)), none⟩,
  ⟨0x20A0, 0x6, .u16, .rwf, .integrator, (some (1, 65535)), none⟩,
  ⟨0x20A0, 0x7, .cmd, .wo, .integrator, none, none⟩,
  ⟨0x20A0, 0x8, .cmd, .wo, .operator, none, none⟩,
  ⟨0x20A1, 0x1, .u8, .ro, .observer, (some (0, 4)), none⟩,
  ⟨0x20A1, 0x2, .u8, .ro, .observer, (some (1, 5)), none⟩,
  ⟨0x20A1, 0x3, .u32, .ro, .observer, none, none⟩,
  ⟨0x20A8, 0x1, .bool, .rwf, .operator, none, none⟩,
  ⟨0x20A8, 0x2, .u16, .rwf, .operator, (some (1, 4096)), none⟩,
  ⟨0x3000, 0x1, .bool, .rwf, .operator, none, none⟩,
  ⟨0x3000, 0x2, .u8, .rws, .integrator, (some (0, 255)), none⟩,
  ⟨0x3000, 0x3, .bool, .rws, .integrator, none, none⟩,
  ⟨0x3000, 0x4, .i32, .rwf, .integrator, none, none⟩,
  ⟨0x3000, 0x5, .i32, .rwf, .integrator, none, none⟩,
  ⟨0x3000, 0x6, .i32, .rw, .operator, none, none⟩,
  ⟨0x3000, 0x7, .cmd, .wo, .operator, none, none⟩,
  ⟨0x3000, 0x8, .u32, .rws, .integrator, (some (1, 1048576)), none⟩,
  ⟨0x3000, 0x9, .u8, .rws, .integrator, (some (0, 2)), none⟩,
  ⟨0x3000, 0xA, .u16, .rws, .integrator, none, none⟩,
  ⟨0x3000, 0xB, .cmd, .wo, .operator, none, none⟩,
  ⟨0x3000, 0xC, .bool, .rws, .integrator, none, none⟩,
  ⟨0x3000, 0xD, .u16, .rws, .integrator, (some (1, 256)), none⟩,
  ⟨0x3000, 0xE, .u32, .rws, .integrator, (some (1, 10000000)), none⟩,
  ⟨0x3000, 0xF, .u16, .rws, .integrator, (some (1, 65535)), none⟩,
  ⟨0x3000, 0x10, .u16, .rws, .integrator, (some (1, 65535)), none⟩,
  ⟨0x3000, 0x11, .u8, .rws, .integrator, none, some 3⟩,
  ⟨0x3000, 0x12, .cmd, .wo, .operator, none, none⟩,
  ⟨0x3001, 0x1, .u8, .ro, .observer, (some (0, 2)), none⟩]

/-- Objects 3001h.02 to 3800h.06. -/
def objects8 : List Obj := [
  ⟨0x3001, 0x2, .i32, .ro, .observer, none, none⟩,
  ⟨0x3001, 0x3, .i64, .ro, .observer, none, none⟩,
  ⟨0x3001, 0x4, .i32, .ro, .observer, none, none⟩,
  ⟨0x3001, 0x5, .u32, .ro, .observer, none, none⟩,
  ⟨0x3001, 0x6, .u16, .rw, .operator, none, none⟩,
  ⟨0x3001, 0x7, .u32, .ro, .observer, none, none⟩,
  ⟨0x3001, 0x8, .i64, .ro, .observer, none, none⟩,
  ⟨0x3001, 0x9, .i32, .ro, .observer, none, none⟩,
  ⟨0x3001, 0xA, .u32, .ro, .observer, none, none⟩,
  ⟨0x3001, 0xB, .u32, .ro, .observer, none, none⟩,
  ⟨0x3001, 0xC, .i64, .ro, .observer, none, none⟩,
  ⟨0x3001, 0xD, (.domain 16), .ro, .observer, none, none⟩,
  ⟨0x3400, 0x1, .bool, .rwf, .operator, none, none⟩,
  ⟨0x3400, 0x2, .u8, .rws, .integrator, (some (0, 1)), none⟩,
  ⟨0x3400, 0x3, .u8, .rws, .integrator, (some (0, 15)), none⟩,
  ⟨0x3400, 0x4, .u8, .rws, .integrator, (some (0, 1)), none⟩,
  ⟨0x3400, 0x5, .u8, .rws, .integrator, (some (1, 64)), none⟩,
  ⟨0x3400, 0x6, .u32, .rws, .integrator, (some (1, 65536)), none⟩,
  ⟨0x3400, 0x7, .bool, .rws, .integrator, none, none⟩,
  ⟨0x3400, 0x8, .angle24, .rws, .integrator, none, some 16777215⟩,
  ⟨0x3400, 0x9, .u16, .rws, .integrator, (some (25, 65535)), none⟩,
  ⟨0x3400, 0xA, .u8, .rws, .integrator, (some (0, 3)), none⟩,
  ⟨0x3400, 0xB, .u8, .rws, .integrator, (some (0, 2)), none⟩,
  ⟨0x3400, 0xC, .bool, .rws, .integrator, none, none⟩,
  ⟨0x3400, 0xD, .u32, .rws, .integrator, (some (4, 1073741824)), none⟩,
  ⟨0x3400, 0xE, .u32, .rws, .integrator, (some (1000, 20000000)), none⟩,
  ⟨0x3400, 0xF, .u32, .rws, .integrator, none, none⟩,
  ⟨0x3400, 0x10, .u32, .rws, .integrator, none, none⟩,
  ⟨0x3401, 0x1, .u8, .ro, .observer, (some (0, 6)), none⟩,
  ⟨0x3401, 0x2, .u32, .ro, .observer, none, none⟩,
  ⟨0x3401, 0x3, .u32, .ro, .observer, none, none⟩,
  ⟨0x3401, 0x4, .i32, .ro, .observer, none, none⟩,
  ⟨0x3401, 0x5, .u32, .ro, .observer, none, none⟩,
  ⟨0x3401, 0x6, .u8, .rw, .operator, none, none⟩,
  ⟨0x3800, 0x1, .bool, .rwf, .operator, none, none⟩,
  ⟨0x3800, 0x2, .u8, .rws, .integrator, (some (0, 15)), none⟩,
  ⟨0x3800, 0x3, .u8, .rws, .integrator, (some (0, 1)), none⟩,
  ⟨0x3800, 0x4, .pos40, .rws, .integrator, none, none⟩,
  ⟨0x3800, 0x5, .pos40, .rws, .integrator, none, none⟩,
  ⟨0x3800, 0x6, .u32, .rws, .integrator, none, none⟩]

/-- Objects 3800h.07 to 4001h.02. -/
def objects9 : List Obj := [
  ⟨0x3800, 0x7, .bool, .rws, .integrator, none, none⟩,
  ⟨0x3800, 0x8, .u8, .rws, .integrator, (some (0, 2)), none⟩,
  ⟨0x3800, 0x9, .bool, .rws, .integrator, none, none⟩,
  ⟨0x3800, 0xA, .u8, .rws, .integrator, (some (0, 3)), none⟩,
  ⟨0x3800, 0xB, .u8, .ro, .observer, (some (0, 6)), none⟩,
  ⟨0x3800, 0xC, .u32, .ro, .observer, none, none⟩,
  ⟨0x3900, 0x1, .u8, .rws, .integrator, (some (0, 2)), none⟩,
  ⟨0x3900, 0x2, .u32, .rwf, .integrator, (some (2000, 40000)), none⟩,
  ⟨0x3900, 0x3, .u16, .rwf, .integrator, (some (100, 8000)), none⟩,
  ⟨0x3900, 0x4, .u8, .rws, .integrator, (some (0, 1)), none⟩,
  ⟨0x3900, 0x5, .u16, .rws, .integrator, none, none⟩,
  ⟨0x3900, 0x6, .u16, .rws, .integrator, none, none⟩,
  ⟨0x3900, 0x7, .cmd, .wo, .operator, none, none⟩,
  ⟨0x3900, 0x8, .bool, .rwf, .operator, none, none⟩,
  ⟨0x3901, 0x1, .u8, .ro, .observer, (some (1, 4)), none⟩,
  ⟨0x3901, 0x2, .u32, .ro, .observer, none, none⟩,
  ⟨0x3901, 0x3, .angle24, .ro, .observer, none, none⟩,
  ⟨0x3901, 0x4, .u32, .ro, .observer, none, none⟩,
  ⟨0x3901, 0x5, .u8, .ro, .observer, none, none⟩,
  ⟨0x3901, 0x6, .u32, .ro, .observer, none, none⟩,
  ⟨0x3901, 0x7, .i16, .ro, .observer, none, none⟩,
  ⟨0x3908, 0x1, .u8, .rws, .integrator, (some (0, 2)), none⟩,
  ⟨0x3908, 0x2, .u8, .ro, .observer, (some (0, 2)), none⟩,
  ⟨0x3908, 0x3, .i16, .ro, .observer, none, none⟩,
  ⟨0x3909, 0x1, .u8, .rws, .integrator, (some (0, 2)), none⟩,
  ⟨0x3909, 0x2, .u8, .ro, .observer, (some (0, 2)), none⟩,
  ⟨0x3909, 0x3, .i16, .ro, .observer, none, none⟩,
  ⟨0x4000, 0x1, .i16, .rws, .integrator, none, none⟩,
  ⟨0x4000, 0x2, .i16, .rws, .integrator, none, none⟩,
  ⟨0x4000, 0x3, .i16, .rws, .integrator, none, none⟩,
  ⟨0x4000, 0x4, .i16, .rws, .integrator, none, none⟩,
  ⟨0x4000, 0x5, .i16, .rws, .integrator, none, none⟩,
  ⟨0x4000, 0x6, .i16, .rws, .integrator, none, none⟩,
  ⟨0x4000, 0x7, .i16, .rws, .integrator, none, none⟩,
  ⟨0x4000, 0x8, .i16, .rws, .integrator, none, none⟩,
  ⟨0x4000, 0x9, .u16, .rwf, .integrator, none, none⟩,
  ⟨0x4000, 0xA, .bool, .rwf, .integrator, none, none⟩,
  ⟨0x4000, 0xB, .u8, .ro, .observer, none, none⟩,
  ⟨0x4001, 0x1, .u32, .ro, .observer, none, none⟩,
  ⟨0x4001, 0x2, .u32, .ro, .observer, none, none⟩]

/-- Objects 4001h.03 to 4101h.0A. -/
def objects10 : List Obj := [
  ⟨0x4001, 0x3, .u8, .ro, .observer, none, none⟩,
  ⟨0x4001, 0x4, .u8, .ro, .observer, (some (0, 3)), none⟩,
  ⟨0x4001, 0x5, .u32, .ro, .observer, none, none⟩,
  ⟨0x4001, 0x6, .u32, .ro, .observer, none, none⟩,
  ⟨0x4001, 0x7, .u32, .ro, .observer, none, none⟩,
  ⟨0x4001, 0x8, .u32, .ro, .observer, none, none⟩,
  ⟨0x4001, 0x9, .cmd, .wo, .integrator, none, none⟩,
  ⟨0x4100, 0x1, .bool, .rwf, .integrator, none, none⟩,
  ⟨0x4100, 0x2, .u8, .rwf, .integrator, (some (0, 1)), none⟩,
  ⟨0x4100, 0x3, .u8, .rwf, .integrator, (some (0, 1)), none⟩,
  ⟨0x4100, 0x4, .u16, .rwf, .integrator, (some (0, 1023)), none⟩,
  ⟨0x4100, 0x5, .u16, .rwf, .integrator, (some (0, 1023)), none⟩,
  ⟨0x4100, 0x6, .u8, .rwf, .integrator, (some (0, 2)), none⟩,
  ⟨0x4100, 0x7, .u32, .rwf, .integrator, none, none⟩,
  ⟨0x4100, 0x8, .u32, .rwf, .integrator, none, none⟩,
  ⟨0x4100, 0x9, .u16, .rwf, .integrator, (some (0, 10000)), none⟩,
  ⟨0x4100, 0xA, .u16, .rwf, .integrator, (some (32, 4096)), none⟩,
  ⟨0x4100, 0xB, .u16, .rwf, .integrator, (some (10, 10000)), none⟩,
  ⟨0x4100, 0xC, .u16, .rwf, .integrator, none, none⟩,
  ⟨0x4100, 0xD, .u8, .rwf, .integrator, (some (1, 64)), none⟩,
  ⟨0x4100, 0xE, .u32, .rwf, .integrator, (some (10, 86400)), none⟩,
  ⟨0x4100, 0xF, .u16, .rwf, .integrator, none, none⟩,
  ⟨0x4100, 0x10, .u32, .rwf, .integrator, (some (0, 87600)), none⟩,
  ⟨0x4100, 0x11, .u32, .rwf, .integrator, (some (0, 86400)), none⟩,
  ⟨0x4100, 0x12, .u16, .rwf, .integrator, none, none⟩,
  ⟨0x4100, 0x13, .u16, .rwf, .integrator, none, none⟩,
  ⟨0x4100, 0x14, .u16, .rwf, .integrator, none, none⟩,
  ⟨0x4100, 0x15, .u16, .rwf, .integrator, none, none⟩,
  ⟨0x4100, 0x16, .u16, .rwf, .integrator, none, none⟩,
  ⟨0x4100, 0x17, .u16, .rwf, .integrator, none, none⟩,
  ⟨0x4101, 0x1, .cmd, .wo, .operator, none, none⟩,
  ⟨0x4101, 0x2, .cmd, .wo, .operator, none, none⟩,
  ⟨0x4101, 0x3, .u8, .ro, .observer, (some (0, 6)), none⟩,
  ⟨0x4101, 0x4, .u8, .ro, .observer, (some (0, 5)), none⟩,
  ⟨0x4101, 0x5, .u8, .ro, .observer, (some (0, 5)), none⟩,
  ⟨0x4101, 0x6, .u8, .ro, .observer, (some (1, 32)), none⟩,
  ⟨0x4101, 0x7, .u8, .ro, .observer, (some (0, 7)), none⟩,
  ⟨0x4101, 0x8, .u8, .ro, .observer, (some (0, 5)), none⟩,
  ⟨0x4101, 0x9, .u16, .ro, .observer, none, none⟩,
  ⟨0x4101, 0xA, .u16, .ro, .observer, none, none⟩]

/-- Objects 4101h.0B to 5000h.09. -/
def objects11 : List Obj := [
  ⟨0x4101, 0xB, .u32, .ro, .observer, none, none⟩,
  ⟨0x4101, 0xC, .i16, .ro, .observer, none, none⟩,
  ⟨0x4101, 0xD, .u16, .ro, .observer, none, none⟩,
  ⟨0x4101, 0xE, .u16, .ro, .observer, none, none⟩,
  ⟨0x4101, 0xF, .u32, .ro, .observer, none, none⟩,
  ⟨0x4101, 0x10, .u32, .ro, .observer, none, none⟩,
  ⟨0x4101, 0x11, .u32, .ro, .observer, none, none⟩,
  ⟨0x4101, 0x12, .u32, .ro, .observer, none, none⟩,
  ⟨0x4101, 0x13, .u32, .ro, .observer, none, none⟩,
  ⟨0x4101, 0x14, .u32, .ro, .observer, none, none⟩,
  ⟨0x4102, 0x1, .u8, .ro, .observer, (some (1, 2)), none⟩,
  ⟨0x4102, 0x2, .u32, .ro, .observer, none, none⟩,
  ⟨0x4102, 0x3, .time80, .ro, .observer, none, none⟩,
  ⟨0x4102, 0x4, .i16, .ro, .observer, none, none⟩,
  ⟨0x4102, 0x5, .u16, .ro, .observer, none, none⟩,
  ⟨0x4102, 0x6, .u16, .ro, .observer, none, none⟩,
  ⟨0x4102, 0x7, .u16, .ro, .observer, none, none⟩,
  ⟨0x4102, 0x8, .cmd, .wo, .integrator, none, none⟩,
  ⟨0x410A, 0x1, .i32, .ro, .observer, none, none⟩,
  ⟨0x410A, 0x2, .i32, .ro, .observer, none, none⟩,
  ⟨0x410A, 0x3, .i32, .ro, .observer, none, none⟩,
  ⟨0x410A, 0x4, .i32, .ro, .observer, none, none⟩,
  ⟨0x410A, 0x5, .i32, .ro, .observer, none, none⟩,
  ⟨0x4800, 0x1, .u8, .rw, .observer, (some (0, 15)), none⟩,
  ⟨0x4800, 0x2, .u8, .rw, .observer, (some (0, 7)), none⟩,
  ⟨0x4800, 0x3, .u16, .rw, .observer, (some (0, 960)), none⟩,
  ⟨0x4800, 0x4, .u8, .rw, .observer, (some (0, 5)), none⟩,
  ⟨0x4800, 0x5, (.domain 256), .rw, .integrator, none, none⟩,
  ⟨0x4801, 0x1, .cmd, .wo, .integrator, none, none⟩,
  ⟨0x4801, 0x2, .i16, .rw, .integrator, none, none⟩,
  ⟨0x4801, 0x3, .cmd, .wo, .integrator, none, none⟩,
  ⟨0x5000, 0x1, .u8, .ro, .observer, (some (1, 2)), none⟩,
  ⟨0x5000, 0x2, .u8, .rws, .integrator, (some (0, 2)), none⟩,
  ⟨0x5000, 0x3, .u8, .rws, .integrator, (some (0, 3)), none⟩,
  ⟨0x5000, 0x4, .bool, .rws, .integrator, none, none⟩,
  ⟨0x5000, 0x5, .bool, .rws, .integrator, none, none⟩,
  ⟨0x5000, 0x6, .u32, .ro, .observer, none, none⟩,
  ⟨0x5000, 0x7, .time80, .ro, .observer, none, none⟩,
  ⟨0x5000, 0x8, .time80, .ro, .observer, none, none⟩,
  ⟨0x5000, 0x9, .cmd, .wo, .operator, none, none⟩]

/-- Objects 5000h.0A to 5511h.0A. -/
def objects12 : List Obj := [
  ⟨0x5000, 0xA, .bool, .rw, .integrator, none, none⟩,
  ⟨0x5000, 0xB, .bool, .ro, .observer, none, none⟩,
  ⟨0x5000, 0xC, .cmd, .wo, .integrator, none, none⟩,
  ⟨0x5500, 0x1, .u32, .ro, .observer, none, none⟩,
  ⟨0x5500, 0x2, .u16, .ro, .observer, none, none⟩,
  ⟨0x5500, 0x3, (.domain 144), .ro, .observer, none, none⟩,
  ⟨0x5500, 0x4, .cmd, .wo, .operator, none, none⟩,
  ⟨0x5500, 0x5, .cmd, .wo, .integrator, none, none⟩,
  ⟨0x5500, 0x6, .cmd, .wo, .integrator, none, none⟩,
  ⟨0x5500, 0x7, (.domain 32), .ro, .observer, none, none⟩,
  ⟨0x5500, 0x8, .u16, .rws, .integrator, (some (1, 60000)), none⟩,
  ⟨0x5500, 0x9, .u32, .ro, .observer, none, none⟩,
  ⟨0x5500, 0xA, .u32, .ro, .observer, none, none⟩,
  ⟨0x5500, 0xB, .u16, .rws, .integrator, (some (10, 1000)), none⟩,
  ⟨0x5510, 0x1, .u8, .rws, .integrator, (some (0, 63)), some 63⟩,
  ⟨0x5510, 0x2, .u8, .rws, .integrator, (some (0, 63)), some 63⟩,
  ⟨0x5510, 0x3, .u8, .rws, .integrator, (some (0, 63)), some 63⟩,
  ⟨0x5510, 0x4, .u8, .rws, .integrator, (some (0, 63)), some 63⟩,
  ⟨0x5510, 0x5, .u8, .rws, .integrator, (some (0, 63)), some 63⟩,
  ⟨0x5510, 0x6, .u8, .rws, .integrator, (some (0, 63)), some 63⟩,
  ⟨0x5510, 0x7, .u8, .rws, .integrator, (some (0, 63)), some 63⟩,
  ⟨0x5510, 0x8, .u8, .rws, .integrator, (some (0, 63)), some 63⟩,
  ⟨0x5510, 0x9, .u8, .rws, .integrator, (some (0, 63)), some 63⟩,
  ⟨0x5510, 0xA, .u8, .rws, .integrator, (some (0, 63)), some 63⟩,
  ⟨0x5510, 0xB, .u8, .rws, .integrator, (some (0, 63)), some 63⟩,
  ⟨0x5510, 0xC, .u8, .rws, .integrator, (some (0, 63)), some 63⟩,
  ⟨0x5510, 0xD, .u8, .rws, .integrator, (some (0, 63)), some 63⟩,
  ⟨0x5510, 0xE, .u8, .rws, .integrator, (some (0, 63)), some 63⟩,
  ⟨0x5510, 0xF, .u8, .rws, .integrator, (some (0, 63)), some 63⟩,
  ⟨0x5510, 0x10, .u8, .rws, .integrator, (some (0, 63)), some 63⟩,
  ⟨0x5511, 0x1, .u8, .rws, .integrator, none, some 3⟩,
  ⟨0x5511, 0x2, .u8, .rws, .integrator, none, some 3⟩,
  ⟨0x5511, 0x3, .u8, .rws, .integrator, none, some 3⟩,
  ⟨0x5511, 0x4, .u8, .rws, .integrator, none, some 3⟩,
  ⟨0x5511, 0x5, .u8, .rws, .integrator, none, some 3⟩,
  ⟨0x5511, 0x6, .u8, .rws, .integrator, none, some 3⟩,
  ⟨0x5511, 0x7, .u8, .rws, .integrator, none, some 3⟩,
  ⟨0x5511, 0x8, .u8, .rws, .integrator, none, some 3⟩,
  ⟨0x5511, 0x9, .u8, .rws, .integrator, none, some 3⟩,
  ⟨0x5511, 0xA, .u8, .rws, .integrator, none, some 3⟩]

/-- Objects 5511h.0B to 6001h.08. -/
def objects13 : List Obj := [
  ⟨0x5511, 0xB, .u8, .rws, .integrator, none, some 3⟩,
  ⟨0x5511, 0xC, .u8, .rws, .integrator, none, some 3⟩,
  ⟨0x5511, 0xD, .u8, .rws, .integrator, none, some 3⟩,
  ⟨0x5511, 0xE, .u8, .rws, .integrator, none, some 3⟩,
  ⟨0x5511, 0xF, .u8, .rws, .integrator, none, some 3⟩,
  ⟨0x5511, 0x10, .u8, .rws, .integrator, none, some 3⟩,
  ⟨0x5512, 0x1, .u8, .rws, .integrator, (some (0, 1)), none⟩,
  ⟨0x5512, 0x2, .u8, .rws, .integrator, (some (0, 1)), none⟩,
  ⟨0x5512, 0x3, .u8, .rws, .integrator, (some (0, 1)), none⟩,
  ⟨0x5512, 0x4, .u8, .rws, .integrator, (some (0, 1)), none⟩,
  ⟨0x6000, 0x1, .u8, .rws, .integrator, (some (0, 1)), none⟩,
  ⟨0x6000, 0x2, .u8, .ro, .observer, none, none⟩,
  ⟨0x6000, 0x3, .u8, .ro, .observer, (some (0, 5)), none⟩,
  ⟨0x6000, 0x4, .u8, .rws, .integrator, (some (0, 1)), none⟩,
  ⟨0x6000, 0x5, .cmd, .wo, .operator, none, none⟩,
  ⟨0x6000, 0x6, .cmd, .wo, .operator, none, none⟩,
  ⟨0x6000, 0x7, .u16, .ro, .observer, none, none⟩,
  ⟨0x6000, 0x8, .u16, .rws, .integrator, none, none⟩,
  ⟨0x6000, 0x9, .u16, .rws, .integrator, (some (10, 500)), none⟩,
  ⟨0x6000, 0xA, .u32, .rws, .integrator, (some (25000, 1000000)), none⟩,
  ⟨0x6000, 0xB, .u32, .rwf, .integrator, none, none⟩,
  ⟨0x6000, 0xC, .u8, .rws, .integrator, (some (0, 1)), none⟩,
  ⟨0x6000, 0xD, .u16, .rws, .integrator, none, none⟩,
  ⟨0x6000, 0xE, .bool, .rws, .integrator, none, none⟩,
  ⟨0x6000, 0xF, .u16, .rws, .integrator, none, none⟩,
  ⟨0x6000, 0x10, .u32, .rws, .integrator, none, none⟩,
  ⟨0x6000, 0x11, .u8, .rws, .integrator, (some (1, 16)), none⟩,
  ⟨0x6000, 0x12, .bool, .ro, .observer, none, none⟩,
  ⟨0x6000, 0x13, .u32, .ro, .observer, none, none⟩,
  ⟨0x6000, 0x14, .u32, .ro, .observer, none, none⟩,
  ⟨0x6000, 0x15, .u32, .ro, .observer, none, none⟩,
  ⟨0x6000, 0x16, (.domain 1024), .ro, .observer, none, none⟩,
  ⟨0x6001, 0x1, .u8, .ro, .observer, (some (0, 2)), none⟩,
  ⟨0x6001, 0x2, .u8, .ro, .observer, (some (0, 2)), none⟩,
  ⟨0x6001, 0x3, .u8, .ro, .observer, none, none⟩,
  ⟨0x6001, 0x4, .u8, .ro, .observer, (some (0, 1)), none⟩,
  ⟨0x6001, 0x5, .u8, .ro, .observer, none, none⟩,
  ⟨0x6001, 0x6, .u32, .ro, .observer, none, none⟩,
  ⟨0x6001, 0x7, .u32, .ro, .observer, none, none⟩,
  ⟨0x6001, 0x8, .u32, .ro, .observer, none, none⟩]

/-- Objects 6001h.09 to 7003h.01. -/
def objects14 : List Obj := [
  ⟨0x6001, 0x9, .u32, .ro, .observer, none, none⟩,
  ⟨0x6001, 0xA, .u8, .ro, .observer, none, none⟩,
  ⟨0x6001, 0xB, .u32, .ro, .observer, none, none⟩,
  ⟨0x6001, 0xC, (.domain 1024), .ro, .observer, none, none⟩,
  ⟨0x6003, 0x1, .u8, .ro, .observer, (some (0, 2)), none⟩,
  ⟨0x6003, 0x2, .u32, .ro, .observer, none, none⟩,
  ⟨0x6003, 0x3, .u32, .ro, .observer, none, none⟩,
  ⟨0x6003, 0x4, .u32, .ro, .observer, none, none⟩,
  ⟨0x6003, 0x5, .u32, .ro, .observer, none, none⟩,
  ⟨0x6005, 0x1, .u8, .ro, .observer, none, none⟩,
  ⟨0x6005, 0x2, .u8, .ro, .observer, none, none⟩,
  ⟨0x6005, 0x3, .u8, .ro, .observer, none, none⟩,
  ⟨0x6005, 0x4, .u8, .ro, .observer, none, none⟩,
  ⟨0x6005, 0x5, .u8, .ro, .observer, none, none⟩,
  ⟨0x6005, 0x6, .u8, .ro, .observer, none, none⟩,
  ⟨0x6005, 0x7, .u8, .ro, .observer, none, none⟩,
  ⟨0x6005, 0x8, .u8, .ro, .observer, none, none⟩,
  ⟨0x6005, 0x9, .u8, .ro, .observer, none, none⟩,
  ⟨0x6005, 0xA, .u8, .ro, .observer, none, none⟩,
  ⟨0x6005, 0xB, .u8, .ro, .observer, none, none⟩,
  ⟨0x6005, 0xC, .u8, .ro, .observer, none, none⟩,
  ⟨0x6005, 0xD, .u8, .ro, .observer, none, none⟩,
  ⟨0x6005, 0xE, .u8, .ro, .observer, none, none⟩,
  ⟨0x6005, 0xF, .u8, .ro, .observer, none, none⟩,
  ⟨0x6005, 0x10, .u8, .ro, .observer, none, none⟩,
  ⟨0x7000, 0x1, .u8, .ro, .observer, (some (0, 2)), none⟩,
  ⟨0x7000, 0x2, .u32, .ro, .observer, none, none⟩,
  ⟨0x7000, 0x3, .u8, .ro, .observer, (some (0, 4)), none⟩,
  ⟨0x7000, 0x4, .u32, .ro, .observer, none, none⟩,
  ⟨0x7001, 0x1, .i16, .ro, .observer, none, none⟩,
  ⟨0x7001, 0x2, .i16, .ro, .observer, none, none⟩,
  ⟨0x7001, 0x3, .i16, .ro, .observer, none, none⟩,
  ⟨0x7001, 0x4, .i16, .ro, .observer, none, none⟩,
  ⟨0x7001, 0x5, .i16, .ro, .observer, none, none⟩,
  ⟨0x7002, 0x1, .u16, .ro, .observer, none, none⟩,
  ⟨0x7002, 0x2, .u16, .ro, .observer, none, none⟩,
  ⟨0x7002, 0x3, .u16, .ro, .observer, none, none⟩,
  ⟨0x7002, 0x4, .u16, .ro, .observer, none, none⟩,
  ⟨0x7002, 0x5, .u16, .ro, .observer, none, none⟩,
  ⟨0x7003, 0x1, .bool, .ro, .observer, none, none⟩]

/-- Objects 7003h.02 to 7C10h.02. -/
def objects15 : List Obj := [
  ⟨0x7003, 0x2, .i16, .ro, .observer, none, none⟩,
  ⟨0x7008, 0x1, .u8, .ro, .observer, (some (0, 4)), none⟩,
  ⟨0x7008, 0x2, .u8, .ro, .observer, none, none⟩,
  ⟨0x7008, 0x3, .u32, .ro, .observer, none, none⟩,
  ⟨0x7008, 0x4, .u32, .ro, .observer, none, none⟩,
  ⟨0x7010, 0x1, .u8, .ro, .observer, (some (0, 3)), none⟩,
  ⟨0x7010, 0x2, .u8, .ro, .observer, none, none⟩,
  ⟨0x7010, 0x3, .bool, .ro, .observer, none, none⟩,
  ⟨0x7400, 0x1, .u32, .ro, .observer, none, none⟩,
  ⟨0x7400, 0x2, .u32, .ro, .observer, none, none⟩,
  ⟨0x7400, 0x3, .u32, .rw, .observer, none, none⟩,
  ⟨0x7400, 0x4, (.domain 256), .ro, .observer, none, none⟩,
  ⟨0x7400, 0x5, .cmd, .wo, .integrator, none, none⟩,
  ⟨0x7400, 0x6, .u32, .ro, .observer, none, none⟩,
  ⟨0x7400, 0x7, .u32, .ro, .observer, none, none⟩,
  ⟨0x7800, 0x1, .u8, .ro, .observer, (some (0, 6)), none⟩,
  ⟨0x7800, 0x2, .u32, .wo, .integrator, (some (1024, 1048576)), none⟩,
  ⟨0x7800, 0x3, .u32, .ro, .observer, none, none⟩,
  ⟨0x7800, 0x4, (.domain 1024), .wo, .integrator, none, none⟩,
  ⟨0x7800, 0x5, .cmd, .wo, .integrator, none, none⟩,
  ⟨0x7800, 0x6, .cmd, .wo, .integrator, none, none⟩,
  ⟨0x7800, 0x7, .cmd, .wo, .integrator, none, none⟩,
  ⟨0x7800, 0x8, .cmd, .wo, .integrator, none, none⟩,
  ⟨0x7800, 0x9, .u8, .ro, .observer, (some (0, 8)), none⟩,
  ⟨0x7800, 0xA, .u16, .rws, .integrator, (some (10, 3600)), none⟩,
  ⟨0x7800, 0xB, .bool, .rws, .integrator, none, none⟩,
  ⟨0x7800, 0xC, .u16, .rws, .integrator, (some (1, 600)), none⟩,
  ⟨0x7801, 0x1, .u8, .ro, .observer, none, none⟩,
  ⟨0x7801, 0x2, (.domain 16), .ro, .observer, none, none⟩,
  ⟨0x7801, 0x3, (.domain 16), .ro, .observer, none, none⟩,
  ⟨0x7801, 0x4, .u8, .ro, .observer, (some (0, 64)), none⟩,
  ⟨0x7801, 0x5, .u32, .ro, .observer, none, none⟩,
  ⟨0x7C00, 0x1, .u8, .ro, .observer, (some (0, 3)), none⟩,
  ⟨0x7C00, 0x2, .u32, .wo, .integrator, none, none⟩,
  ⟨0x7C00, 0x3, .time80, .ro, .observer, none, none⟩,
  ⟨0x7C01, 0x1, (.domain 32), .wo, .integrator, none, none⟩,
  ⟨0x7C01, 0x2, (.domain 32), .wo, .integrator, none, none⟩,
  ⟨0x7C01, 0x3, .u8, .ro, .observer, none, none⟩,
  ⟨0x7C10, 0x1, (.domain 16), .ro, .observer, none, none⟩,
  ⟨0x7C10, 0x2, (.domain 33), .wo, .observer, none, none⟩]

/-- Objects 7C10h.03 to 8001h.02. -/
def objects16 : List Obj := [
  ⟨0x7C10, 0x3, .cmd, .wo, .observer, none, none⟩,
  ⟨0x7C10, 0x4, .u32, .ro, .observer, none, none⟩,
  ⟨0x7C10, 0x5, .u16, .ro, .observer, none, none⟩,
  ⟨0x7D00, 0x1, .u8, .rw, .integrator, (some (0, 2)), none⟩,
  ⟨0x7D00, 0x2, .u32, .ro, .observer, none, none⟩,
  ⟨0x7E00, 0x1, .u8, .ro, .observer, (some (0, 3)), none⟩,
  ⟨0x7E00, 0x2, .u8, .wo, .integrator, (some (0, 2)), none⟩,
  ⟨0x7E00, 0x3, .u32, .wo, .integrator, none, none⟩,
  ⟨0x7E00, 0x4, .u16, .rws, .integrator, (some (1, 4000)), none⟩,
  ⟨0x7E00, 0x5, .bool, .rws, .integrator, none, none⟩,
  ⟨0x7E00, 0x6, .u8, .ro, .observer, (some (0, 3)), none⟩,
  ⟨0x7E00, 0x7, .time80, .ro, .observer, none, none⟩,
  ⟨0x8000, 0x1, .u8, .rwf, .operator, (some (0, 1)), none⟩,
  ⟨0x8000, 0x2, .u8, .rwf, .operator, (some (0, 3)), none⟩,
  ⟨0x8000, 0x3, .u32, .rwf, .operator, none, none⟩,
  ⟨0x8000, 0x4, .u32, .rwf, .operator, (some (0, 32768)), none⟩,
  ⟨0x8000, 0x5, .cmd, .wo, .operator, none, none⟩,
  ⟨0x8000, 0x6, .cmd, .wo, .operator, none, none⟩,
  ⟨0x8000, 0x7, .u8, .ro, .observer, (some (0, 4)), none⟩,
  ⟨0x8000, 0x8, .u32, .ro, .observer, none, none⟩,
  ⟨0x8000, 0x9, .u32, .ro, .observer, none, none⟩,
  ⟨0x8001, 0x1, .u32, .rw, .observer, none, none⟩,
  ⟨0x8001, 0x2, (.domain 1024), .ro, .observer, none, none⟩]

/-- The whole dictionary. -/
def objects : List Obj :=
  objects0 ++ objects1 ++ objects2 ++ objects3 ++ objects4 ++ objects5 ++ objects6 ++ objects7 ++ objects8 ++ objects9 ++ objects10 ++ objects11 ++ objects12 ++ objects13 ++ objects14 ++ objects15 ++ objects16

/-- Defaults other than 0, by address of unit 0 (part 0). -/
def defaults0 : List (Key × Int) := [
  (0x100000, 5696),
  (0x101801, 2621),
  (0x101802, 5696),
  (0x111001, 1000),
  (0x120005, 3),
  (0x121002, 1),
  (0x121003, 500000),
  (0x121004, 800),
  (0x121005, 2000000),
  (0x121006, 750),
  (0x121007, 1),
  (0x130004, 1),
  (0x130006, 1000000),
  (0x140002, 67108864),
  (0x141006, 3),
  (0x150003, 2147483648),
  (0x201002, -2),
  (0x201003, -2),
  (0x201004, 3),
  (0x201005, 16384),
  (0x201201, -4000),
  (0x201202, 9000),
  (0x201203, -4000),
  (0x201204, 9000),
  (0x20130C, 500),
  (0x20130D, 100000),
  (0x201401, 1),
  (0x201501, 1),
  (0x201502, 10),
  (0x201503, 1000),
  (0x201605, 50),
  (0x201704, 50),
  (0x201706, 1),
  (0x203001, 16384),
  (0x203002, 6),
  (0x203003, 25299),
  (0x203004, 9),
  (0x203005, 25261),
  (0x203006, 8),
  (0x203007, 25290)]

/-- Defaults other than 0, by address of unit 0 (part 1). -/
def defaults1 : List (Key × Int) := [
  (0x203008, 10),
  (0x203101, 1000),
  (0x203102, 1000),
  (0x203104, 99999),
  (0x203105, 1000),
  (0x204801, 16384),
  (0x204802, 6),
  (0x204803, 25299),
  (0x204804, 9),
  (0x204805, 25261),
  (0x204806, 8),
  (0x204807, 25290),
  (0x204808, 10),
  (0x204901, 1000),
  (0x204902, 1000),
  (0x204904, 99999),
  (0x204905, 1000),
  (0x208001, 10486),
  (0x208002, 23593),
  (0x208003, 3277),
  (0x208004, 4),
  (0x208005, 2860),
  (0x208006, 8),
  (0x208007, 31130),
  (0x208008, 31130),
  (0x208009, 64),
  (0x208101, 2000),
  (0x208102, 572),
  (0x208103, 4),
  (0x208104, 100),
  (0x208105, 1),
  (0x208106, 16),
  (0x20A002, 328),
  (0x20A003, 10),
  (0x20A004, 5000),
  (0x20A005, 1000),
  (0x20A006, 4),
  (0x20A802, 1),
  (0x300002, 2),
  (0x300004, -2147483648)]

/-- Defaults other than 0, by address of unit 0 (part 2). -/
def defaults2 : List (Key × Int) := [
  (0x300005, 2147483647),
  (0x300008, 1024),
  (0x300009, 1),
  (0x30000A, 4),
  (0x30000D, 4),
  (0x30000E, 100000),
  (0x30000F, 1),
  (0x300010, 1),
  (0x300011, 3),
  (0x340005, 1),
  (0x340006, 1024),
  (0x340009, 25),
  (0x34000A, 1),
  (0x34000C, 1),
  (0x34000D, 64),
  (0x34000E, 1000000),
  (0x34000F, 1000000),
  (0x340010, 10000000),
  (0x380007, 1),
  (0x380008, 2),
  (0x380009, 1),
  (0x38000A, 1),
  (0x390002, 10000),
  (0x390003, 4000),
  (0x390005, 2560),
  (0x390006, 8192),
  (0x390801, 1),
  (0x390901, 1),
  (0x400001, -80),
  (0x400002, -30),
  (0x400003, 20),
  (0x400004, 70),
  (0x400005, 120),
  (0x400006, 170),
  (0x400007, 220),
  (0x400008, 270),
  (0x400009, 20),
  (0x40000A, 1),
  (0x410001, 1),
  (0x410005, 1023)]

/-- Defaults other than 0, by address of unit 0 (part 3). -/
def defaults3 : List (Key × Int) := [
  (0x410006, 2),
  (0x410007, 200),
  (0x410008, 5000),
  (0x410009, 500),
  (0x41000A, 512),
  (0x41000B, 1000),
  (0x41000C, 95),
  (0x41000D, 4),
  (0x41000E, 900),
  (0x41000F, 5),
  (0x410011, 600),
  (0x410012, 1843),
  (0x410013, 205),
  (0x410014, 256),
  (0x410015, 512),
  (0x410016, 40),
  (0x410017, 12),
  (0x41010D, 65535),
  (0x41010E, 65535),
  (0x410205, 65535),
  (0x410207, 1023),
  (0x550008, 100),
  (0x55000B, 50),
  (0x551001, 32),
  (0x551002, 32),
  (0x551003, 32),
  (0x551004, 32),
  (0x551005, 32),
  (0x551006, 32),
  (0x551007, 32),
  (0x551008, 32),
  (0x551009, 32),
  (0x55100A, 32),
  (0x55100B, 32),
  (0x55100C, 32),
  (0x55100D, 32),
  (0x55100E, 32),
  (0x55100F, 32),
  (0x551010, 32),
  (0x551101, 2)]

/-- Defaults other than 0, by address of unit 0 (part 4). -/
def defaults4 : List (Key × Int) := [
  (0x551102, 2),
  (0x551103, 2),
  (0x551104, 2),
  (0x551105, 2),
  (0x551106, 2),
  (0x551107, 2),
  (0x551108, 2),
  (0x551109, 2),
  (0x55110A, 2),
  (0x55110B, 2),
  (0x55110C, 2),
  (0x55110D, 2),
  (0x55110E, 2),
  (0x55110F, 2),
  (0x551110, 2),
  (0x600009, 100),
  (0x60000A, 250000),
  (0x60000D, 65535),
  (0x60000E, 1),
  (0x600010, 11651),
  (0x600011, 3),
  (0x600104, 1),
  (0x600105, 3),
  (0x78000A, 60),
  (0x78000B, 1),
  (0x78000C, 10),
  (0x7E0004, 400),
  (0x7E0005, 1),
  (0x800004, 16384)]

/-- Every default other than 0. -/
def defaults : List (Key × Int) :=
  defaults0 ++ defaults1 ++ defaults2 ++ defaults3 ++ defaults4

end Sys2Proof.Machine
end

