-- ==== Sys2Proof/Machine/State.lean ====
section
/-!
DEFINITION. The state of the GL1640 as plain data, its faults and refusals, and the state right after reset.
Every scalar object of the dictionary that holds a value of its own stands in `regs` (log entry 3); the fields below
hold what the manual gives the device besides.
-/

namespace Sys2Proof.Machine

/-! ### Sparse maps -/

/-- A sparse map in canonical form: rising keys, and no entry that equals what an unlisted key reads as. -/
abbrev SMap (α : Type) := List (Nat × α)

/-- The value at a key, or what an unlisted key reads as. -/
def SMap.find {α : Type} (d : α) : SMap α → Nat → α
  | [], _ => d
  | (k, v) :: m, i => if k = i then v else SMap.find d m i

/-- `m` with every entry of key `i` taken out. -/
def SMap.erase {α : Type} : SMap α → Nat → SMap α
  | [], _ => []
  | (k, v) :: m, i => if k = i then SMap.erase m i else (k, v) :: SMap.erase m i

/-- `m` with the entry of key `i` in its place. -/
def SMap.insert {α : Type} : SMap α → Nat → α → SMap α
  | [], i, x => [(i, x)]
  | (k, v) :: m, i, x =>
    if i < k then (i, x) :: (k, v) :: m
    else if i = k then (i, x) :: m
    else (k, v) :: SMap.insert m i x

/-- `m` with key `i` reading `x`, where an unlisted key reads `d`; the canonical form is kept. -/
def SMap.put {α : Type} [DecidableEq α] (d : α) (m : SMap α) (i : Nat) (x : α) : SMap α :=
  if x = d then SMap.erase m i else SMap.insert m i x

/-- Every key is above `b`, the keys rise, and no entry equals what its key reads as when unlisted. -/
def SMap.wfFrom {α : Type} [DecidableEq α] (d : Nat → α) : Option Nat → SMap α → Bool
  | _, [] => true
  | b, (k, v) :: m =>
    (match b with | none => true | some x => decide (x < k)) && !decide (v = d k) && SMap.wfFrom d (some k) m

/-- The canonical form of a sparse map. -/
def SMap.wf {α : Type} [DecidableEq α] (d : Nat → α) (m : SMap α) : Bool := SMap.wfFrom d none m

/-- A byte memory: what an unlisted address reads as is 0 (log entry 14). -/
abbrev Memory := SMap (BitVec 8)

/-- The canonical form of a byte memory. -/
def Memory.wf (m : Memory) : Bool := SMap.wf (fun _ => 0#8) m

/-! ### Resolver channels -/

/-- The five states of a channel (R97). -/
inductive ChState where
  | off | settle | track | coast | invalid
  deriving DecidableEq, Repr

/-- The loop state of a channel (R76, R79). -/
structure Loop where
  th : BitVec 32 := 0
  carry : Int := 0
  w : Int := 0
  i : Int := 0
  v : Int := 0
  a : Int := 0
  u : Int := 0
  deriving DecidableEq, Repr

/-- A checkpoint with the samples and the crossings at 00000000h since it was saved (R104, R105). -/
structure Checkpoint where
  loop : Loop
  samples : Nat := 0
  crossings : Nat := 0
  deriving DecidableEq, Repr

/-- A pending swap with its trigger and the port that asked for it (R84). -/
inductive Swap where
  | none
  | sample (p : Port)
  | fence (p : Port)
  | time (t : Time32) (due : Bool)
  deriving DecidableEq, Repr

/-- What one sample puts into the one-period window: P, Q and the two residuals (R100). -/
structure WinEntry where
  p : Int
  q : Int
  rs : Int
  rc : Int
  deriving DecidableEq, Repr

/-- How far a settle has come (R109, R110). -/
inductive Settle where
  | waiting
  | seeding (n : Nat) (sumS sumC : Int)
  | holding (n : Nat)
  | running
  deriving DecidableEq, Repr

/-- The static trims, gains and the phase in use (R52, R55, R75). -/
structure Trims where
  gainSin : Int := -2
  gainCos : Int := -2
  ofsSin : Int := 0
  ofsCos : Int := 0
  fgainSin : Int := 0
  fgainCos : Int := 0
  quad : Int := 0
  beta : Int := 0
  deriving DecidableEq, Repr

/-- The output record of R154 before it is laid out as bytes. -/
structure OutRec where
  /-- POS40 as a signed 40-bit number. -/
  pos : Int := 0
  status : Nat := 0
  vel : Int := 0
  acc : Int := 0
  time : Time32 := 0
  mon : Nat := 0
  deriving DecidableEq, Repr

/-- The state of a loop test (R87, R88). -/
inductive InjState where
  | idle | pending | running | done | aborted
  deriving DecidableEq, Repr

/-- A loop test with its parameters as read at the start (R86). -/
structure Inject where
  state : InjState := .idle
  kind : Nat := 0
  ampl : Int := 0
  f1 : Nat := 0
  f2 : Nat := 0
  durMs : Nat := 0
  len : Nat := 1
  /-- Samples injected so far. -/
  n : Nat := 0
  prbs : BitVec 15 := 0x7FFF
  /-- The test ends at the next sample boundary, with this result and abort reason. -/
  stopping : Option (Bool × Nat) := .none
  deriving DecidableEq, Repr

/-- A probe of a channel (R63 to R68). -/
inductive ProbeState where
  | idle | pending | running | deferredState | deferredFreq
  deriving DecidableEq, Repr

/-- One resolver channel. -/
structure Chan where
  state : ChState := .off
  reason : Nat := 0
  loop : Loop := {}
  -- saturation (R80, R85)
  satInt : Bool := false
  satVel : Bool := false
  satOut : Bool := false
  stickyInt : Bool := false
  stickyVel : Bool := false
  stickyOut : Bool := false
  swapInSat : Bool := false
  bankB : Bool := false
  swap : Swap := .none
  /-- The released set of the latest sample (R24). -/
  out : OutRec := {}
  /-- The set of the last complete sample frame (R25). -/
  frameOut : OutRec := {}
  frameLoop : Loop := {}
  /-- The loop as the lane step of the latest sample left it (R242). -/
  outLoop : Loop := {}
  trims : Trims := {}
  trimPending : Bool := false
  /-- The trims that a zero crossing has released: they apply at the next sample boundary (R52). -/
  armed : Option Trims := .none
  inj : Inject := {}
  mon : Vector Bool 13 := Vector.replicate 13 false
  sticky : Vector Bool 13 := Vector.replicate 13 false
  deriving DecidableEq, Repr

/-- What a channel's monitors and state machine remember (R50, R100 to R112). -/
structure Watch where
  hbLive : BitVec 8 := 0
  hbSticky : BitVec 8 := 0
  /-- A hatband of the sine or the cosine input tripped in the present sample's interval (R101). -/
  hbTripS : Bool := false
  hbTripC : Bool := false
  /-- Clear samples still to be discarded (R101). -/
  hbWait : Nat := 0
  trkRun : Nat := 0
  velRun : Nat := 0
  accRun : Nat := 0
  /-- The one-period window, newest sample first (R100). -/
  win : List WinEntry := []
  -- converter activity of the present carrier period (R100)
  lastS : Option (BitVec 16) := .none
  lastC : Option (BitVec 16) := .none
  actS : Nat := 0
  actC : Nat := 0
  /-- The present carrier period has been seen from its start. -/
  perWhole : Bool := false
  /-- The present carrier period began after the entry into the present state (R107, R108). -/
  perFresh : Bool := false
  /-- The carrier presence monitor passed such a period. -/
  carPass : Bool := false
  check1 : Option Checkpoint := .none
  check2 : Option Checkpoint := .none
  coastUsed : Nat := 0
  trackRun : Nat := 0
  excWait : Bool := false
  /-- A COAST has a cause besides the excitation wait (R106, R112). -/
  coastCause : Bool := false
  /-- Leave COAST for a warm SETTLE (R112). -/
  freqChanged : Bool := false
  deriving DecidableEq, Repr

/-- What a running probe has measured (R63, R64): the carrier periods since it began to align to the crossings, the
timing accumulator, and the sums of the two inputs over its windows, in pV at the pins. -/
structure ProbeRun where
  /-- Crossings at 00000000h since the probe began: 0 until the first, at which its windows start. -/
  crossings : Nat := 0
  /-- The timing accumulator, in use while the exciter is not in RUN. -/
  acc : BitVec 32 := 0
  /-- Samples of the baseline window, of the step window, and of the tone's correlation. -/
  baseN : Nat := 0
  stepN : Nat := 0
  toneN : Nat := 0
  baseS : Int := 0
  baseC : Int := 0
  stepS : Int := 0
  stepC : Int := 0
  toneSI : Int := 0
  toneSQ : Int := 0
  toneCI : Int := 0
  toneCQ : Int := 0
  deriving DecidableEq, Repr

/-- Settling, SCD, beta averaging, homing and probe of a channel. -/
structure Front where
  settle : Settle := .waiting
  warm : Bool := false
  settlePeriods : Nat := 0
  settleClean : Bool := false
  /-- SCD codes of the next sample and of the one after it (R22, R58). -/
  scd1S : Int := 0
  scd1C : Int := 0
  scd2S : Int := 0
  scd2C : Int := 0
  -- beta averaging (R75)
  betaQ : Int := 0
  betaI : Int := 0
  betaN : Nat := 0
  betaPeriods : Nat := 0
  betaFresh : Bool := false
  /-- An accepted CH_HOME waits for the next sample boundary (R115). -/
  homePort : Option Port := .none
  /-- The alignment that the next sample boundary applies: target position, HOMED, HOME_OFS and partner (R245). -/
  align : Option (Int × Int × Int × Fin 2) := .none
  probe : ProbeState := .idle
  probeRun : ProbeRun := {}
  learn : Bool := false
  /-- The copper temperature is valid (R67). -/
  cuOk : Bool := false
  /-- Samples since the last record of a capture (R90). -/
  capN : Nat := 0
  /-- This channel's slot of the present frame is done (R25). -/
  inFrame : Bool := false
  deriving DecidableEq, Repr

/-! ### Calibration -/

/-- The states of a run (R134). -/
inductive CalState where
  | idle | pending | acquire | paused | evaluate | apply | commit
  deriving DecidableEq, Repr

/-- The values of 4100h read at the grant of a run (R150). -/
structure CalCfg where
  kind : Int := 0
  scope : Int := 0
  arcFirst : Int := 0
  arcLast : Int := 1023
  accept : Int := 2
  vmin : Int := 200
  amax : Int := 5000
  winTravel : Int := 512
  winResid : Int := 95
  minPasses : Int := 4
  tempTol : Int := 5
  limBead : Int := 1843
  limStep : Int := 205
  limGain : Int := 256
  limQuad : Int := 512
  limQ : Int := 40
  repeatTol : Int := 12
  retryHold : Int := 600
  deriving DecidableEq, Repr

/-- One observation of the open window (R125). -/
structure Obs where
  /-- The sample's number in the window. -/
  t : Nat
  /-- The measured angle in 2^-32 turn, unwrapped. -/
  th : Int
  /-- The radial residual, Q31. -/
  rho : Int
  codeS : Int
  codeC : Int
  quadrant : Fin 4
  /-- The converter inputs referred to the pins, in pV (R133). -/
  xs : Int
  xc : Int
  /-- CH_TEMP of the sample. -/
  temp : Int
  deriving DecidableEq, Repr

/-- The sums of one quadrant of one node (R126, R132). -/
structure QuadStat where
  n : Nat := 0
  t : Rat := 0
  r : Rat := 0
  s : Rat := 0
  c : Rat := 0
  deriving DecidableEq, Repr

/-- The statistics of one node (R129, R146). -/
structure NodeStat where
  q : Vector QuadStat 4 := Vector.replicate 4 {}
  passes : Nat := 0
  windows : Nat := 0
  /-- Sum and sum of squares of the window means of the tangential residual. -/
  sumT : Rat := 0
  sumT2 : Rat := 0
  deriving DecidableEq, Repr

/-- An evaluated result (R132, R133, R141). -/
structure CalResult where
  kind : Int
  scope : Int
  arcFirst : Int
  arcLast : Int
  set : Nat
  /-- Node, SIN_CORR, COS_CORR and observations, in scope order. -/
  beads : List (Nat × Int × Int × Nat)
  dFs : Int
  dFc : Int
  dQ : Int
  dOs : Int
  dOc : Int
  q : Nat
  tRun : Int
  deriving DecidableEq, Repr

/-- A calibration run and what a channel keeps between runs (R125 to R142). -/
structure Cal where
  state : CalState := .idle
  pause : Nat := 0
  result : Nat := 0
  detail : Nat := 0
  target : Nat := 0
  trigger : Nat := 0
  /-- The run, or the run it repeats, was commanded (R134, R139). -/
  commanded : Bool := false
  cfg : CalCfg := {}
  tStart : Int := 0
  /-- The scheduler has granted the domain, and the quad's statistics unit is taken (R134). -/
  granted : Bool := false
  acquireAt : Option Nat := .none
  /-- The gates hold at the latest sample. -/
  gates : Bool := false
  window : Option (List Obs) := .none
  /-- The number of the next sample in the open window. -/
  winN : Nat := 0
  stats : SMap NodeStat := []
  sumTemp : Int := 0
  tMean : Int := 0
  numObs : Nat := 0
  sumXs : Int := 0
  sumXc : Int := 0
  candidate : Option CalResult := .none
  qRun : Nat := 65535
  /-- The edge count at which a retry hold ends (R139). -/
  holdUntil : Nat := 0
  /-- The second run that a CANDIDATE result asks for waits for the scheduler (R137). -/
  repeatDue : Bool := false
  deriving DecidableEq, Repr

/-- A set record (R121, R152). -/
structure SetRec where
  calibrated : Bool := false
  part : Bool := false
  hostLoaded : Bool := false
  count : Nat := 0
  time : Nat := 0
  tRun : Int := 0
  q : Nat := 65535
  arcFirst : Int := 0
  arcLast : Int := 1023
  deriving DecidableEq, Repr

/-- A row in a lane's staging row (R142). -/
structure Staging where
  ch : ChId
  set : Nat
  beads : List (BitVec 32)
  record : SetRec
  /-- What asked for the row: 0 NORMAL, 1 BASELINE, 2 HOST, 3 the reload of R145. -/
  source : Nat
  trims : Option Trims
  /-- A zero crossing has released the trim boundary at which a row with trims takes effect (R55, R142). -/
  armed : Bool := false
  /-- The lane reads the staging row (R142 step 2). -/
  inUse : Bool := false
  deriving DecidableEq, Repr

/-- A bead generation in MRAM with its generation record: header with counter and CRC-32, set records, trims (R143). -/
structure BeadGen where
  /-- The slot's header stands. -/
  valid : Bool := false
  /-- A commit of a newer generation into this slot has failed its read-backs, and left no header. -/
  torn : Bool := false
  counter : Nat := 0
  crc : BitVec 32 := 0
  beads : Memory := []
  sets : List SetRec := []
  trims : List (Nat × Int) := []
  deriving DecidableEq, Repr

/-- The bead table (R118, R142, R143, R148). -/
structure Beads where
  working : Memory := []
  hostRow : Memory := []
  staging : Vector (Option Staging) 4 := Vector.replicate 4 .none
  /-- Rows that wait for a lane's staging row, oldest first. -/
  waiting : List Staging := []
  gens : Vector BeadGen 2 := Vector.replicate 2 {}
  /-- What the running commit writes: the working copy, set records and trims as they stood when it began (R143). -/
  writing : Option BeadGen := .none
  commitFailed : Bool := false
  /-- Rows that took effect since the previous latch: channel, set, kind, count (R242). -/
  deltas : List (Nat × Nat × Nat × Nat) := []
  /-- Beads of the working copy that hold an uncorrectable error, by number (R145). -/
  bad : List Nat := []
  deriving DecidableEq, Repr

/-! ### Capture -/

/-- The capture states (R92). -/
inductive CapState where
  | idle | armed | running | triggered | done
  deriving DecidableEq, Repr

/-- The capture with the configuration read at the arm (R90, R92). -/
structure Capture where
  state : CapState := .idle
  ring : Bool := false
  trigger : Int := 0
  trigTime : Time32 := 0
  post : Nat := 0
  mask : List Nat := []
  decim : List Nat := []
  /-- The records, newest first. -/
  recs : List Bytes := []
  /-- Records written since the trigger, in RING mode. -/
  since : Option Nat := .none
  /-- The channels of the present frame's records, highest first: a frame's records stand in channel order (R90). -/
  frame : List Nat := []
  /-- The place of the trigger record, the newest record being 0 (R96). -/
  trigAt : Option Nat := .none
  deriving DecidableEq, Repr

/-! ### Exciters and Glove drivers -/

/-- The states of an exciter (R39). -/
inductive ExcState where
  | off | ramp | run | shutdown | held
  deriving DecidableEq, Repr

/-- One sense sample in nV and the DDS phase at its instant (R45). -/
structure Sense where
  x : Int
  phi : BitVec 32
  deriving DecidableEq, Repr

/-- An exciter (R30 to R45). -/
structure Exc where
  state : ExcState := .off
  mode : Int := 0
  freq : Int := 10000
  ftw : BitVec 32 := 85899
  /-- The programmed amplitude in use, mV rms. -/
  ampl : Int := 4000
  /-- The amplitude applied after fold-back, in µV rms. -/
  applied : Int := 4000000
  /-- The full amplitude that the latest crossing or start put in force, in µV rms (R32, R40). -/
  full : Int := 4000000
  step : Nat := 0
  rising : Bool := true
  acc : BitVec 32 := 0
  fold : Bool := false
  pendFreq : Option Int := .none
  pendAmpl : Option Int := .none
  /-- A fold-back step waits for its crossing. -/
  pendFold : Bool := false
  /-- Stop in the old mode, then start in the visible one (R39). -/
  restart : Bool := false
  /-- VEXC in mV as the stage sees it (R32); the nominal supply before a change is reported (log entry 4). -/
  vexc : Int := 12000
  deriving DecidableEq, Repr

/-- The Kelvin sense of an exciter (R44, R45). -/
structure Kelvin where
  win : List Sense := []
  /-- The amplitude in nV peak and the phase that the lanes use (R44, R45). -/
  ehat : Int := 0
  psi : BitVec 32 := 0
  /-- The last estimate that was not below 10 % of the expected amplitude. -/
  okE : Int := 0
  okPsi : BitVec 32 := 0
  lost : Bool := false
  /-- Among the estimates of the present carrier period: one inside the window, one not below 10 %, one outside. -/
  anyIn : Bool := false
  anyAbove : Bool := false
  anyOut : Bool := false
  /-- The present carrier period has been seen from its start. -/
  whole : Bool := false
  /-- Sense samples since the exciter's last start or frequency change (R109). -/
  n : Nat := 0
  outRun : Nat := 0
  lostRun : Nat := 0
  okRun : Nat := 0
  deriving DecidableEq, Repr

/-- A Glove driver (R60 to R62). -/
structure Glv where
  overload : Bool := false
  deriving DecidableEq, Repr

/-! ### Outputs -/

/-- The level of an output ball. -/
inductive Level where
  | low | high | hiz
  deriving DecidableEq, Repr

/-- The catch-up profile: the offset to remove, the part removed so far with its derivatives, and the rest of the
planned phases as (length, jerk) pairs (R168). -/
structure Profile where
  d : Int
  s : Rat
  v : Rat
  a : Rat
  phases : List (Rat × Rat)
  deriving DecidableEq, Repr

/-- An emulator (R165 to R172). -/
structure Emu where
  /-- The source has been valid since enable. -/
  started : Bool := false
  valid : Bool := false
  c : Int := 0
  ct : Int := 0
  tp : Int := 0
  prev : Int := 0
  /-- `tp` is to be taken from the source at its next valid release (R170). -/
  rebase : Bool := true
  catchup : Option Profile := .none
  /-- Steps left over from the latest schedule. -/
  left : Nat := 0
  /-- LCLK periods before the next step may fall. -/
  gap : Nat := 0
  /-- Held at Mitten safe levels. -/
  safe : Bool := false
  /-- The next release sets C to C_t without catch-up (R245). -/
  jump : Bool := false
  a : Level := .hiz
  b : Level := .hiz
  z : Level := .hiz
  /-- Every change of the lines that the latest release or command has brought, oldest first: the LCLK periods since it,
  and the levels of A, B and Z from then on (R166, R209; log entry 85). -/
  wave : List (Nat × Level × Level × Level) := []
  deriving DecidableEq, Repr

/-- A position switch (R173 to R175). -/
structure Psw where
  started : Bool := false
  valid : Bool := false
  active : Bool := false
  /-- The next valid sample is evaluated without the brim. -/
  first : Bool := true
  /-- The new source has not released a sample yet (R175). -/
  switching : Bool := false
  level : Level := .hiz
  deriving DecidableEq, Repr

/-- The states of a snapshot source (R160). -/
inductive SnapState where
  | idle | armed | latched
  deriving DecidableEq, Repr

/-- A snapshot source (R157 to R160). -/
structure Snap where
  state : SnapState := .idle
  seq : BitVec 32 := 0
  event : Time32 := 0
  recs : Vector OutRec 16 := Vector.replicate 16 {}
  /-- The frame of the latest latched event. -/
  frame : Option Nat := .none
  deriving DecidableEq, Repr

/-- A position stream (R161). -/
structure Stream where
  next : Time32 := 0
  deriving DecidableEq, Repr

/-! ### Tally inputs -/

/-- One line of a Tally input: the two stages of its synchroniser, the qualified level, and the run of differing samples
(R183). -/
structure Line where
  stage1 : Bool := false
  stage2 : Bool := false
  level : Bool := false
  run : Nat := 0
  deriving DecidableEq, Repr

/-- A Tally input (R183 to R195). -/
structure Tally where
  /-- FAULT (R194). -/
  fault : Bool := false
  a : Line := {}
  b : Line := {}
  z : Line := {}
  raw : Int := 0
  count : Int := 0
  div : Int := 0
  /-- The last step was backward; none before the first step. -/
  back : Option Bool := .none
  atHi : Bool := false
  atLo : Bool := false
  sHi : Bool := false
  sLo : Bool := false
  illegal : Bool := false
  mismatch : Bool := false
  beyond : Bool := false
  seen : Bool := false
  xref : Option Int := .none
  /-- Edge times since the last restart, newest first (R190, R191). -/
  hist : List Time32 := []
  /-- The extended edge time of the last step. -/
  edgeExt : Int := 0
  timedOut : Bool := false
  armed : Bool := false
  preset : Option Port := .none
  deriving DecidableEq, Repr

/-! ### Faults and the floor -/

/-- The states of a fault source (R215). -/
inductive FltState where
  | idle | active | latched
  deriving DecidableEq, Repr

/-- A fault source (R202 to R218). -/
structure FSrc where
  state : FltState := .idle
  /-- The condition is present. -/
  cond : Bool := false
  force : Bool := false
  rail : Bool := false
  count : Nat := 0
  /-- First and latest raising: the time counter and the wrap count. -/
  first : Option (Time32 × Int) := .none
  last : Option (Time32 × Int) := .none
  /-- The output record of the sample at which a channel's source raised (R320). -/
  record : Option OutRec := .none
  /-- The held scope: emulators and switches (R206). -/
  emus : BitVec 16 := 0
  psws : BitVec 16 := 0
  /-- Class, reaction and route in effect, where they differ from the visible ones (R217). -/
  eff : Option (Nat × Nat × Bool) := .none
  deriving DecidableEq, Repr

/-- An event in the hardware log queue (R218, R320). -/
structure LogEvent where
  source : Nat
  kind : Nat
  info : Nat
  states : Nat
  time : Time32
  wraps : Int
  suspect : Bool
  lost : Bool
  tick : Nat
  record : Option OutRec
  fcSum : Nat
  cfg : Nat
  detail : Bytes
  deriving DecidableEq, Repr

/-- The collector (R218, R222). -/
structure Collector where
  srcs : SMap FSrc := []
  queue : List LogEvent := []
  /-- Events were lost since the last queued one. -/
  lost : Bool := false
  /-- The comparison of the latest FC_REINIT passed (R222). -/
  copyOk : Bool := false
  /-- Records that each source has queued in the present second, and the second's number (R218). -/
  quota : SMap Nat := []
  second : Nat := 0
  deriving DecidableEq, Repr

/-- The first fault as captured (R219, R220). -/
structure FirstFault where
  id : Nat
  cls : Nat
  reaction : Nat
  rail : Bool
  suspect : Bool
  time : Time32
  tick : Nat
  deriving DecidableEq, Repr

/-- The floor (R212, R214, R219, R220). -/
structure Floor where
  /-- The floor self-test at reset has passed. -/
  testOk : Bool := false
  wdogCnt : Nat := 0
  first : Option FirstFault := .none
  lastId : Nat := 0xFFFF
  safeCnt : Nat := 0
  /-- The Mitten holds DEVICE-SAFE. -/
  deviceSafe : Bool := false
  /-- A source with reaction DEVICE-SAFE has raised within the present command (R207). -/
  request : Bool := false
  /-- FLOOROSC is absent (R213). -/
  oscLost : Bool := false
  /-- A first fault that is captured when FLOOROSC returns (R213). -/
  late : Option FirstFault := .none
  /-- The edge count from which FLOOROSC's periods count; while it is absent, the edges that it has run (R213, R219). -/
  since : Nat := 0
  deriving DecidableEq, Repr

/-! ### Dictionary, ports and fences -/

/-- The device states (R263). -/
inductive DevState where
  | boot | config | run | service | safe
  deriving DecidableEq, Repr

/-- A refusal: the abort code and the detail (R266). -/
structure Nak where
  abort : Nat
  detail : Nat
  deriving DecidableEq, Repr

/-- A diagnostic record (R266). -/
structure DiagRec where
  nak : Nak
  port : Port
  state : DevState
  key : Nat
  role : Role
  time : Time32
  deriving DecidableEq, Repr

/-- The device as a whole. -/
structure Device where
  state : DevState := .boot
  reason : Nat := 0
  time : Nat := 0
  diag : List DiagRec := []
  deriving DecidableEq, Repr

/-- An entry of a commit group: the object and its value. -/
abbrev Entry := Key × Int

/-- A group that a fence has sealed (R268, R269). -/
structure Group where
  port : Port
  tag : BitVec 16
  entries : List Entry
  due : Time32 := 0
  /-- FENCE_GLOBAL: every port is held. -/
  all : Bool := false
  /-- The number of the fence among the port's accepted fences. -/
  no : Nat := 0
  deriving DecidableEq, Repr

/-- The heartbeat of a port (R271). -/
inductive HbState where
  | off | alive | expired
  deriving DecidableEq, Repr

/-- What a port's session holds (R260, R267, R271, R283, R331). -/
structure PortSt where
  role : Role := .observer
  hb : HbState := .off
  group : List Entry := []
  lastTag : BitVec 16 := 0
  /-- The port's accepted fences: the model's own number of the group that `lastTag` names. -/
  fences : Nat := 0
  lastResult : Nat := 0
  tagResult : Nat := 0
  failObj : Nat := 0
  nonce : Option (Bytes × Nat) := .none
  /-- The edge counts of the latest failures (R331). -/
  fails : List Nat := []
  /-- The lock ends at this edge count. -/
  lockUntil : Option Nat := .none
  deriving DecidableEq, Repr

/-- How the result of an access returns to its sender: the tag of an HSP frame, the request of a datagram, or the object
of an SDO transfer with the toggle bit of its last download segment. -/
inductive Route where
  | none
  | hsp (h : Fin 3) (tag : Byte)
  | dgr (k : Fin 2) (mac : BitVec 48) (ip : BitVec 32) (port : BitVec 16) (request : Bytes)
  | sdo (c : Fin 2) (key : Key) (segment : Option Bool)
  deriving DecidableEq, Repr

/-- An access that a FENCE_GLOBAL holds back (R268). -/
structure Held where
  port : Port
  key : Key
  /-- The data of a write; none for a read. -/
  data : Option Bytes
  route : Route
  deriving DecidableEq, Repr

/-- Commit groups of the device (R267 to R269). -/
structure Groups where
  /-- Sealed by FENCE_LOCAL or FENCE_GLOBAL and not yet visible, oldest first. -/
  sealed : List (Group × Route) := []
  /-- Timed groups in sealing order. -/
  timed : List Group := []
  held : List Held := []
  deriving DecidableEq, Repr

/-- A configuration generation with the CRC-32 of its records (R273). -/
structure StoreGen where
  valid : Bool := false
  /-- A store of a newer generation into this slot has failed its read-back, and left no header. -/
  torn : Bool := false
  counter : Nat := 0
  crc : BitVec 32 := 0
  values : SMap Int := []
  deriving DecidableEq, Repr

/-- The dictionary store (R273 to R275). `state` is 0 IDLE or 3 FAILED; PENDING and WRITING stand in the scheduler. -/
structure Store where
  gens : Vector StoreGen 2 := Vector.replicate 2 {}
  state : Nat := 0
  source : Nat := 0
  detail : Nat := 0
  deriving DecidableEq, Repr

/-! ### Redundancy -/

/-- The seat states (R235). -/
inductive SeatState where
  | standby | guard | arbitrate | backoff | active | safe
  deriving DecidableEq, Repr

/-- The claim sequencer and the record grid (R228 to R246). -/
structure Red where
  seat : BitVec 2 := 0
  state : SeatState := .standby
  /-- The window of the intent pulse has ended (step 3 of R235). -/
  step3 : Bool := false
  /-- A higher-priority partner was high in the window. -/
  sawHigher : Bool := false
  yielding : Bool := false
  claimPending : Bool := false
  armed : Bool := false
  clmOut : Bool := false
  /-- Test and intent pulses emitted (R233). -/
  tpCount : BitVec 8 := 0
  /-- A claim attempt is under way. -/
  attempt : Bool := false
  /-- The latest entry into RUN: extended counter. -/
  runEntry : Int := 0
  seq : BitVec 32 := 0
  nextLatch : Time32 := 0
  /-- The number k of `nextLatch` on the grid. -/
  latchNo : Nat := 0
  /-- A LANE_CHECK source or SRAM_UE has raised since the previous latch (R244). -/
  err : Bool := false
  own : Bytes := []
  /-- The partner that was last CLAIMED and has released since this device's own last claim. -/
  former : Option (Fin 2) := .none
  /-- The targets C_t of the emulators at the latest latches, newest first (R246). -/
  targets : List (Time32 × List Int) := []
  deriving DecidableEq, Repr

/-- What the device knows of a partner (R232, R233, R243). -/
structure Partner where
  line : Bool := false
  claimed : Bool := false
  /-- The extended counter at the evidence origin. -/
  origin : Int := 0
  /-- The latest LATCH of a record that can give E1, and the latest arrivals of E2 and E3, as extended instants. -/
  e1 : Option Int := .none
  e2 : Option Int := .none
  e3 : Option Int := .none
  okin : Bool := false
  /-- The present high level of the line has been counted as a pulse (R233). -/
  counted : Bool := false
  seen : BitVec 8 := 0
  offset : BitVec 8 := 0
  /-- The count has been aligned since the partner became PRESENT (R233). -/
  aligned : Bool := false
  riseAt : Int := 0
  fallAt : Int := 0
  /-- Consecutive records whose OKAY differs from the line. -/
  okBad : Nat := 0
  present : Bool := false
  rxAt : Int := 0
  rxTime : Time32 := 0
  /-- The latest valid record, and the latest one without ERR (R243). -/
  record : Option Bytes := .none
  good : Option Bytes := .none
  /-- The latest arrival of a record without ERR that reports ACTIVE (R237). -/
  activeAt : Option Int := .none
  deriving DecidableEq, Repr

/-- The voting runs of a channel's three pairs: consecutive comparisons out of tolerance, none before the first
comparison (R248). -/
structure Vote where
  own0 : Option Nat := .none
  own1 : Option Nat := .none
  pair : Option Nat := .none
  deriving DecidableEq, Repr

/-- The states of a link (R238). -/
inductive LinkState where
  | down | aligning | up
  deriving DecidableEq, Repr

/-- A ThaeLink port. -/
structure Link where
  state : LinkState := .down
  /-- The next record is the first since the port came UP. -/
  first : Bool := true
  /-- RELEASE ordered sets sent. -/
  releases : Nat := 0
  /-- The record that the port sent last. -/
  sent : Bytes := []
  deriving DecidableEq, Repr

/-! ### Ports, queues, time -/

/-- The reply side of an HSP port or of DBG (R286). -/
structure Hsp where
  executing : Option Byte := .none
  reply : Option (Byte × Nat × Bytes) := .none
  error : Option Nat := .none
  /-- What the device last sent back. -/
  sent : Bytes := []
  deriving DecidableEq, Repr

/-- The TAP (R289, R334). -/
structure Tap where
  /-- The instruction register; IDCODE after a TAP reset (log entry 58). -/
  ir : Byte := 1
  dict : Bytes := []
  floor : Bytes := []
  /-- The boundary-scan register as last captured, cell 0 first, and its update latches (R358). -/
  cells : List Bool := []
  latch : List Bool := []
  halted : Bool := false
  deriving DecidableEq, Repr

/-- What an Ethernet port sends of its own accord, to a MAC and IP address: an ARP reply, an ICMP echo reply with the
request's body, or a datagram from UDP port 47230 (R291, R293). -/
inductive Reply where
  | arp (mac : BitVec 48) (ip : BitVec 32)
  | echo (mac : BitVec 48) (ip : BitVec 32) (body : Bytes)
  | udp (mac : BitVec 48) (ip : BitVec 32) (port : BitVec 16) (payload : Bytes)
  deriving DecidableEq, Repr

/-- An Ethernet port (R290 to R293, R308). -/
structure Eth where
  /-- What the RGMII in-band status says of the link: 0 down, else the rate 1 to 3 (R290). -/
  inband : Nat := 0
  /-- The peer that the first valid datagram has made (R291). -/
  peer : Option (BitVec 32 × BitVec 16) := .none
  /-- The request and the reply of the last access (R293). -/
  last : Option (Bytes × Bytes) := .none
  /-- An access of this session is still executing: its request. -/
  executing : Option Bytes := .none
  /-- The last reply that the port sent. -/
  sent : Option Reply := .none
  /-- Replies that wait for the due queue frames, oldest first (R296). -/
  waiting : List Reply := []
  /-- Receive ring entries, oldest first (R308). -/
  ring : List Bytes := []
  deriving DecidableEq, Repr

/-- A segmented SDO transfer: the object, the bytes so far or those left, and the toggle bit of the next segment
(R295). -/
inductive Sdo where
  | idle
  | download (key : Key) (got : Bytes) (toggle : Bool)
  | upload (key : Key) (rest : Bytes) (toggle : Bool)
  deriving DecidableEq, Repr

/-- The error states of a CAN port (R294). -/
inductive CanState where
  | off | active | passive | busOff
  deriving DecidableEq, Repr

/-- A CAN port (R294, R295). -/
structure Can where
  state : CanState := .off
  tec : Nat := 0
  recErr : Nat := 0
  recovering : Bool := false
  sdo : Sdo := .idle
  /-- An SDO access has not been answered yet. -/
  executing : Bool := false
  /-- The last SDO answer and its identifier. -/
  sent : Bytes := []
  sentId : Nat := 0
  waiting : List Bytes := []
  deriving DecidableEq, Repr

/-- A descriptor in a transmit queue (R297, R300). -/
structure Desc where
  raw : Bytes
  frame : Bytes
  instant : Int
  /-- The stream that placed it. -/
  stream : Option (Fin 8) := .none
  /-- The frame is marked ACTIVE, and its header sample's extended instant (R249). -/
  active : Bool := false
  header : Int := 0
  deriving DecidableEq, Repr

/-- A transmit queue (R296 to R300). -/
structure Tq where
  descs : List Desc := []
  /-- The head is on the medium. -/
  sending : Bool := false
  /-- The egress stamp of the head's transmission: ns and 2^-16 ns (R307). -/
  egress : Time32 := 0
  egressFrac : Nat := 0
  /-- The head was late when it was selected. -/
  late : Bool := false
  /-- The head is sent without the insertion it asked for (R309). -/
  unstamped : Bool := false
  staging : Memory := []
  compl : List Bytes := []
  /-- The bytes of the frame that left last. -/
  wire : Bytes := []
  deriving DecidableEq, Repr

/-- Network time (R301 to R305): the counter in 2^-24 ns, the wrap count, the remaining slew in 2^-24 ns, N_ref. -/
structure TimeSt where
  count : BitVec 56 := 0
  wraps : Int := 0
  slew : Int := 0
  nref : Nat := 0
  refValid : Bool := false
  deriving DecidableEq, Repr

/-! ### Management, security, power, supplies -/

/-- The management core (R315, R334). -/
structure Mgmt where
  /-- The dictionary service runs. -/
  service : Bool := false
  restarting : Bool := false
  reason : Nat := 0
  restartAt : Nat := 0
  /-- The edge counts of the latest restarts, newest first (R213, R315). -/
  recent : List Nat := []
  /-- A restart that the spacing of R315 has put off. -/
  due : Option RestartReason := .none
  sensorBad : Nat := 0
  tempDie : Vector Int 4 := Vector.replicate 4 0
  railMv : Vector Nat 5 := Vector.replicate 5 0
  floorDev : Int := 0
  pllLock : Bool := false
  /-- The highest reading of a die sensor since reset; 0 before the first one (log entry 4). -/
  tempMax : Int := 0
  /-- The die sensors have been read since reset. -/
  tempRead : Bool := false
  deriving DecidableEq, Repr

/-- One scheduler domain (R317). -/
structure Sched where
  running : Option Activity := .none
  pending : Option Activity := .none
  suspended : Bool := false
  since : Nat := 0
  /-- The edge at which the RUNNING request came to an idle domain (R318 step 2). -/
  edge : Option Nat := .none
  deriving DecidableEq, Repr

/-- The log (R320 to R322). -/
structure Log where
  /-- The records held, newest first, each with its SEQ. -/
  recs : List (Nat × Bytes) := []
  nextSeq : Nat := 0
  deriving DecidableEq, Repr

/-- The update states (R326). -/
inductive UpdState where
  | idle | receiving | verifying | verified | waitQuiet | trial | failed
  deriving DecidableEq, Repr

/-- A firmware bank: its image, or what the part was made with. -/
structure Bank where
  valid : Bool := false
  image : Bytes := []
  factory : Bool := false
  deriving DecidableEq, Repr

/-- A bank select record with its CRC-32 (R325). -/
structure BankSel where
  valid : Bool := false
  active : Bool := false
  previous : Bool := false
  trial : Bool := false
  counter : Nat := 0
  crc : BitVec 32 := 0
  deriving DecidableEq, Repr

/-- The CRC-32 of a bank select record, over its flags and its counter (R325; log entry 87). -/
def selCrc (active previous trial : Bool) (counter : Nat) : BitVec 32 :=
  crc32 (leBytes 1 (b2n active) ++ leBytes 1 (b2n previous) ++ leBytes 1 (b2n trial) ++ leBytes 4 counter)

/-- A firmware bank write that waits for or holds the MRAM domain: an image length (UPD_BEGIN) or 1,024 bytes, with the
way its result takes (R317, R326). -/
structure UpdBlock where
  port : Port
  length : Option Nat
  data : Bytes
  route : Route
  deriving DecidableEq, Repr

/-- Live update (R323 to R328). -/
structure Upd where
  state : UpdState := .idle
  len : Nat := 0
  offset : Nat := 0
  detail : Nat := 0
  /-- The bank that runs: false is bank 0. -/
  bank : Bool := false
  banks : Vector Bank 2 := #v[{ valid := true, factory := true }, {}]
  sel : Vector BankSel 2 := #v[{ valid := true, counter := 1, crc := selCrc false false false 1 }, {}]
  /-- Burned anti-rollback steps (R324). -/
  otp : Nat := 0
  /-- A source of R328 has raised since the swap. -/
  faulted : Bool := false
  /-- Firmware blocks, the running one first. -/
  blocks : List UpdBlock := []
  deriving DecidableEq, Repr

/-- Lifecycle, keys and debug (R330 to R335). -/
structure Sec where
  lifecycle : Nat := 0
  keyOperator : Option Bytes := .none
  keyIntegrator : Option Bytes := .none
  /-- The CRC-32 that stands beside each key in MRAM (R332). -/
  crcOperator : BitVec 32 := 0
  crcIntegrator : BitVec 32 := 0
  debug : Nat := 0
  nonceNo : Nat := 0
  deriving DecidableEq, Repr

/-- The power states (R336). -/
inductive Power where
  | run | quiet | safeHold | off
  deriving DecidableEq, Repr

/-- Supplies, clocks and resets (R343, R351 to R354). -/
structure Sup where
  /-- VIO is above its threshold and the floor runs. -/
  vio : Bool := true
  /-- Device reset holds. -/
  reset : Bool := true
  /-- The clocks from ROOT run. -/
  pll : Bool := false
  vanaHold : Bool := false
  vexcHold : Bool := false
  strap : BitVec 2 := 0
  clksel : Bool := false
  /-- Boot is complete. -/
  booted : Bool := false
  power : Power := .run
  powerReason : Nat := 0
  deriving DecidableEq, Repr

/-! ### The whole machine -/

/-- The state of the device. -/
structure State where
  /-- The commands that wait, first in, first out. -/
  pending : List Instr := []
  /-- SCLK edges since reset: the model's own time base (log entry 1). -/
  now : Nat := 0
  /-- The number of free values drawn: the model's own (log entry 7). -/
  fresh : Nat := 0
  /-- Complete sample frames: the model's own (R25). -/
  frames : Nat := 0
  /-- The object values, by address; an unlisted object holds its default. -/
  regs : SMap Int := []
  ch : Vector Chan 16 := Vector.replicate 16 {}
  watch : Vector Watch 16 := Vector.replicate 16 {}
  front : Vector Front 16 := Vector.replicate 16 {}
  cal : Vector Cal 16 := Vector.replicate 16 {}
  sets : Vector SetRec 128 := Vector.replicate 128 {}
  bead : Beads := {}
  cap : Capture := {}
  exc : Vector Exc 4 := Vector.replicate 4 {}
  kelvin : Vector Kelvin 4 := Vector.replicate 4 {}
  glv : Vector Glv 8 := Vector.replicate 8 {}
  emu : Vector Emu 16 := Vector.replicate 16 {}
  psw : Vector Psw 16 := Vector.replicate 16 {}
  snap : Vector Snap 3 := Vector.replicate 3 {}
  pf : Vector Stream 8 := Vector.replicate 8 {}
  tal : Vector Tally 16 := Vector.replicate 16 {}
  fc : Collector := {}
  floor : Floor := {}
  dev : Device := {}
  port : Vector PortSt 7 := Vector.replicate 7 {}
  grp : Groups := {}
  store : Store := {}
  red : Red := {}
  pt : Vector Partner 2 := Vector.replicate 2 {}
  vote : Vector Vote 16 := Vector.replicate 16 {}
  lnk : Vector Link 2 := Vector.replicate 2 {}
  hsp : Vector Hsp 3 := Vector.replicate 3 {}
  tap : Tap := {}
  eth : Vector Eth 2 := Vector.replicate 2 {}
  can : Vector Can 2 := Vector.replicate 2 {}
  tq : Vector Tq 16 := Vector.replicate 16 {}
  time : TimeSt := {}
  mgmt : Mgmt := {}
  sched : Vector Sched 17 := Vector.replicate 17 {}
  log : Log := {}
  upd : Upd := {}
  sec : Sec := {}
  sup : Sup := {}
  deriving DecidableEq, Repr

/-- What stops the machine: nothing in the manual does (a raised fault source is an effect on State), so the type has
no constructor that a command raises. -/
inductive Fault where
  /-- Raised by no command: the block has no stopping fault (safe). -/
  | none
  deriving DecidableEq, Repr

/-- What the model refuses to run. -/
inductive Refusal where
  /-- Answered by an arm of `exec` whose command has no meaning yet (safe). -/
  | notModelled (mnemonic : String)
  deriving DecidableEq, Repr

/-- The state right after reset: device reset holds with VIO present, the floor is armed, every object has its default,
and the MRAM is as made (R351, R354; log entries 4, 5 and 6). CH_TEMP, CH_TEMP_CU and CH_TEMP_USED, which R70 gives no
default, read 0 from here until BOOT_COMPLETE (log entry 4). -/
def State.reset : State :=
  { sets := Vector.ofFn fun i => { tRun := -80 + 50 * Int.ofNat (i.val % 8) } }

end Sys2Proof.Machine
end

