-- ==== Sys2Proof/Machine/Operands.lean ====
section
/-!
DEFINITION. Where an object lies (R255, R262), what it reads as by default, and how data bytes spell a value of a type
and pass its range (R11, R256, R257, R261 step 6).
-/

namespace Sys2Proof.Machine

/-- The index of unit 0 and the unit number of an index, by the strides of R262. -/
def locate (i : Nat) : Nat × Nat :=
  if 0x2000 ≤ i ∧ i < 0x3000 then (0x2000 + i % 0x100, (i - 0x2000) / 0x100)
  else if 0x3000 ≤ i ∧ i < 0x3400 then (0x3000 + i % 0x40, (i - 0x3000) / 0x40)
  else if 0x3400 ≤ i ∧ i < 0x3800 then (0x3400 + i % 0x40, (i - 0x3400) / 0x40)
  else if 0x3800 ≤ i ∧ i < 0x3900 then (0x3800 + i % 0x10, (i - 0x3800) / 0x10)
  else if 0x3900 ≤ i ∧ i < 0x3980 then (0x3900 + i % 0x20, (i - 0x3900) / 0x20)
  else if 0x4100 ≤ i ∧ i < 0x4200 then
    (if 0x2 ≤ i % 0x10 ∧ i % 0x10 < 0xA then 0x4102 else 0x4100 + i % 0x10, (i - 0x4100) / 0x10)
  else if 0x5000 ≤ i ∧ i < 0x5480 then (0x5000, i - 0x5000)
  else if 0x1110 ≤ i ∧ i < 0x1117 then (0x1110, i - 0x1110)
  else if 0x1200 ≤ i ∧ i < 0x1202 then (0x1200, i - 0x1200)
  else if 0x1210 ≤ i ∧ i < 0x1212 then (0x1210, i - 0x1210)
  else if 0x1220 ≤ i ∧ i < 0x1222 then (0x1220, i - 0x1220)
  else if 0x1300 ≤ i ∧ i < 0x1308 then (0x1300, i - 0x1300)
  else if 0x1410 ≤ i ∧ i < 0x1412 then (0x1410, i - 0x1410)
  else if 0x1418 ≤ i ∧ i < 0x141A then (0x1418, i - 0x1418)
  else if 0x1440 ≤ i ∧ i < 0x1443 then (0x1440, i - 0x1440)
  else if 0x1500 ≤ i ∧ i < 0x1600 then (0x1500 + i % 0x10, (i - 0x1500) / 0x10)
  else if 0x6001 ≤ i ∧ i < 0x6003 then (0x6001, i - 0x6001)
  else if 0x6003 ≤ i ∧ i < 0x6005 then (0x6003, i - 0x6003)
  else if 0x7010 ≤ i ∧ i < 0x7020 then (0x7010, i - 0x7010)
  else if 0x7C10 ≤ i ∧ i < 0x7C17 then (0x7C10, i - 0x7C10)
  else (i, 0)

/-- The address of an object in unit 0. -/
def baseKey (k : Key) : Key := (locate (k / 256)).1 * 256 + k % 256

/-- The unit that an address belongs to. -/
def unitOf (k : Key) : Nat := (locate (k / 256)).2

/-- The object at an address (R255). -/
def findObj (k : Key) : Option Obj :=
  objects.find? fun o => o.index * 256 + o.sub == baseKey k

/-- The index of an address exists (R261 step 1). -/
def indexExists (k : Key) : Bool := objects.any fun o => o.index == (locate (k / 256)).1

/-- What an object of a repeated block reads as where its default is its unit number or quad (R70, R181, R182). -/
def unitDefault (b : Key) (n : Nat) : Int :=
  if b = Reg.CH_EXC_SEL 0 then Int.ofNat (n / 4)
  else if b = Reg.EMU_SRC 0 ∨ b = Reg.PSW_SRC 0 then Int.ofNat n
  else SMap.find 0 defaults b

/-- The class, reaction, OKAY route and fixed mark of the assigned sources by default (R200, R253, R310, R339). -/
def fltDefault (id : Nat) : Option (Nat × Nat × Bool × Bool) :=
  let fixed : Option (Nat × Nat × Bool × Bool) := some (2, 3, true, true)
  let contained (route : Bool) : Option (Nat × Nat × Bool × Bool) := some (1, 1, route, false)
  let corrected : Option (Nat × Nat × Bool × Bool) := some (0, 0, false, false)
  let safe : Option (Nat × Nat × Bool × Bool) := some (1, 2, true, false)
  if id < 64 then
    if id ∈ [0, 1, 2, 4, 5, 6, 8, 11, 20, 32, 33, 34, 35] then fixed
    else if id ∈ [9, 26] then some (2, 3, true, false)
    else if id ∈ [10, 12, 16, 17, 18, 19] then contained true
    else if id ∈ [24, 25, 29, 31, 36, 37, 38] then contained false
    else if id ∈ [28, 30] then corrected
    else none
  else if id < 576 then
    let o := (id - 64) % 32
    if o ≤ 9 ∨ o = 14 ∨ o = 15 ∨ o = 18 ∨ o = 19 then contained false
    else if o ≤ 13 ∨ o = 16 ∨ o = 17 then corrected
    else none
  else if id < 640 then
    let o := (id - 576) % 16
    if o = 1 then corrected else if o ≤ 5 then contained false else none
  else if id < 768 then
    let o := (id - 640) % 8
    if o ≤ 1 then contained false else if o = 2 then corrected else none
  else if id < 832 then
    let o := (id - 768) % 4
    if o = 0 then contained false else if o = 1 then safe else none
  else if id < 896 then
    if (id - 832) % 4 = 0 then safe else none
  else if id < 960 then
    if id ∈ [907, 908, 909] then fixed
    else if id ∈ [896, 897, 901, 902, 903, 904, 905, 906, 910] then contained false
    else if id ∈ [898, 899, 900, 911, 912, 913, 914] then corrected
    else none
  else if id < 1024 then
    if id ≤ 969 ∨ id = 974 ∨ id = 975 then contained false
    else if id ≤ 996 then corrected
    else none
  else if id ∈ [1028, 1029, 1030, 1090] then corrected
  else if id ≤ 1035 then contained false
  else if id = 1088 then fixed
  else if id = 1089 then contained true
  else if id = 1091 then contained false
  else none

/-- What an object holds by default. -/
def regDefault (k : Key) : Int :=
  let b := baseKey k
  let n := unitOf k
  if b = Reg.FLT_CLASS 0 then match fltDefault n with | some (c, _, _, _) => c | none => 0
  else if b = Reg.FLT_REACTION 0 then match fltDefault n with | some (_, r, _, _) => r | none => 0
  else if b = Reg.FLT_OKAY_ROUTE 0 then match fltDefault n with | some (_, _, o, _) => b2i o | none => 0
  else unitDefault b n

/-- The canonical form of the register file: rising addresses, no entry at its default. -/
def regsWf (m : SMap Int) : Bool := SMap.wf regDefault m

/-- The value an object holds. -/
def State.reg (s : State) (k : Key) : Int := SMap.find (regDefault k) s.regs k

/-- `s` with an object's value replaced. -/
def State.setReg (s : State) (k : Key) (v : Int) : State :=
  { s with regs := SMap.put (regDefault k) s.regs k v }

/-- A saturating counter object after one more event. -/
def State.bump (s : State) (k : Key) : State := s.setReg k (satInc 32 (s.reg k))

/-- A BOOL object's value. -/
def State.flag (s : State) (k : Key) : Bool := s.reg k ≠ 0

/-- An object's value as a natural number. -/
def State.regN (s : State) (k : Key) : Nat := (s.reg k).toNat

/-- Bit `i` of an object's value. -/
def State.bit (s : State) (k : Key) (i : Nat) : Bool := bitN (s.regN k) i

/-! ### Data of a type -/

/-- The length of a type's data in bytes (R256). -/
def Ty.len : Ty → Nat
  | .bool | .u8 | .i8 | .cmd => 1
  | .u16 | .i16 => 2
  | .u32 | .i32 | .angle24 => 4
  | .u64 | .i64 | .pos40 => 8
  | .time80 => 10
  | .domain n => n

/-- The number that the data of a type spell (R256); a DOMAIN's bytes are taken by its own rule. -/
def Ty.value (t : Ty) (bs : Bytes) : Int :=
  match t with
  | .i8 => wrapS 8 (leNat bs)
  | .i16 => wrapS 16 (leNat bs)
  | .i32 => wrapS 32 (leNat bs)
  | .i64 => wrapS 64 (leNat bs)
  | .angle24 => Int.ofNat (leNat bs % 2 ^ 24)
  | .pos40 => wrapS 40 (leNat bs)
  | .domain _ => 0
  | _ => Int.ofNat (leNat bs)

/-- A value as the data of its type (R256). -/
def Ty.bytes (t : Ty) (v : Int) : Bytes := leInt t.len v

/-- The bits that are not reserved (R11). -/
def maskValue (m : Option Nat) (v : Int) : Int :=
  match m with
  | none => v
  | some b => Int.ofNat (v.toNat &&& b)

/-- Values in the span that an object does not accept: steps, multiples and gaps (R50, R147, R179, R280, R297, R323). -/
def offStep (b : Key) (v : Int) : Bool :=
  if b ∈ [Reg.CH_HB_LO_SIN 0, Reg.CH_HB_LO_COS 0, Reg.CH_HB_HI_SIN 0, Reg.CH_HB_HI_COS 0] then v % 50 ≠ 0
  else if b = Reg.BT_WIN_NODE then v % 64 ≠ 0
  else if b = Reg.SNAP_PERIOD 0 then v ≠ 0 ∧ v < 1000
  else if b = Reg.PORT_HB_TMO 0 then v ≠ 0 ∧ v < 10
  else if b = Reg.TQ_STAGE_OFS 0 ∨ b = Reg.TQ_WIN_OFS 0 then v % 256 ≠ 0
  else if b = Reg.UPD_BEGIN then v % 1024 ≠ 0
  else false

/-- Exciter `e` of a number that a routing object holds. -/
def excOf (v : Int) : ExcId := ⟨v.toNat % 4, Nat.mod_lt _ (by decide)⟩

/-- A channel of a number that a routing object holds. -/
def chOf (v : Int) : ChId := ⟨v.toNat % 16, Nat.mod_lt _ (by decide)⟩

/-- The carrier frequency of exciter `e`: the one in use in RUN, else its EXC_FREQ (R63, R68). -/
def carrierOf (s : State) (get : Key → Int) (e : ExcId) : Int :=
  if s.exc[e].state = .run then s.exc[e].freq else get (Reg.EXC_FREQ e)

/-- The range an object's value has under the visible settings it depends on (R35, R68, R86, R311). -/
def rangeNow (s : State) (get : Key → Int) (o : Obj) (k : Key) : Option (Int × Int) :=
  let b := baseKey k
  let n := unitOf k
  if b = Reg.EXC_AMPL 0 then
    some (if get (Reg.EXC_MODE n) = 1 then (500, 8000) else if get (Reg.EXC_MODE n) = 2 then (100, 1414) else (100, 8000))
  else if b = Reg.CH_PROBE_FREQ 0 then some (100, carrierOf s get (excOf (get (Reg.CH_EXC_SEL n))) * 6 / 10)
  else if b = Reg.CH_INJ_F1 0 ∨ b = Reg.CH_INJ_F2 0 then
    some (1, min 40000 (carrierOf s get (excOf (get (Reg.CH_EXC_SEL n)))))
  else if b = Reg.CAN_DATA_RATE 0 then some (get (Reg.CAN_NOM_RATE n), 8000000)
  else o.range

/-- Step 6 of R261: the value range. `some` is the abort code. -/
def rangeCheck (s : State) (get : Key → Int) (o : Obj) (k : Key) (v : Int) : Option Nat :=
  match o.ty with
  | .bool => if v = 0 ∨ v = 1 then none else some 0x06090030
  | .cmd => if v = 1 then none else some 0x06090030
  | .time80 => if v % 2 ^ 32 ≤ 999999999 then none else some 0x06090030
  | _ =>
    match rangeNow s get o k with
    | none => none
    | some (lo, hi) =>
      if v < lo then some 0x06090032
      else if hi < v then some 0x06090031
      else if offStep (baseKey k) v then some 0x06090030
      else none

end Sys2Proof.Machine
end

