-- ==== Sys2Proof/Machine/Ops.lean ====
section
/-!
DEFINITION. The named operations over State that every family uses: changing one unit, network time, the floor's tick,
the pins' levels (R166, R177, R208), and what a state of the device is from outside.
-/

namespace Sys2Proof.Machine

/-- A vector with one element changed. -/
def vmod {α : Type} {n : Nat} (v : Vector α n) (i : Fin n) (f : α → α) : Vector α n := v.set i.val (f v[i]) i.isLt

def State.modCh (s : State) (n : ChId) (f : Chan → Chan) : State := { s with ch := vmod s.ch n f }
def State.modWatch (s : State) (n : ChId) (f : Watch → Watch) : State := { s with watch := vmod s.watch n f }
def State.modFront (s : State) (n : ChId) (f : Front → Front) : State := { s with front := vmod s.front n f }
def State.modCal (s : State) (n : ChId) (f : Cal → Cal) : State := { s with cal := vmod s.cal n f }
def State.modExc (s : State) (e : ExcId) (f : Exc → Exc) : State := { s with exc := vmod s.exc e f }
def State.modKelvin (s : State) (e : ExcId) (f : Kelvin → Kelvin) : State := { s with kelvin := vmod s.kelvin e f }
def State.modGlv (s : State) (g : Fin 8) (f : Glv → Glv) : State := { s with glv := vmod s.glv g f }
def State.modEmu (s : State) (n : Fin 16) (f : Emu → Emu) : State := { s with emu := vmod s.emu n f }
def State.modPsw (s : State) (n : Fin 16) (f : Psw → Psw) : State := { s with psw := vmod s.psw n f }
def State.modSnap (s : State) (n : Fin 3) (f : Snap → Snap) : State := { s with snap := vmod s.snap n f }
def State.modPf (s : State) (n : Fin 8) (f : Stream → Stream) : State := { s with pf := vmod s.pf n f }
def State.modTal (s : State) (n : Fin 16) (f : Tally → Tally) : State := { s with tal := vmod s.tal n f }
def State.modPort (s : State) (p : Port) (f : PortSt → PortSt) : State := { s with port := vmod s.port p f }
def State.modPt (s : State) (q : Fin 2) (f : Partner → Partner) : State := { s with pt := vmod s.pt q f }
def State.modLnk (s : State) (k : Fin 2) (f : Link → Link) : State := { s with lnk := vmod s.lnk k f }
def State.modHsp (s : State) (h : Fin 3) (f : Hsp → Hsp) : State := { s with hsp := vmod s.hsp h f }
def State.modEth (s : State) (k : Fin 2) (f : Eth → Eth) : State := { s with eth := vmod s.eth k f }
def State.modCan (s : State) (c : Fin 2) (f : Can → Can) : State := { s with can := vmod s.can c f }
def State.modTq (s : State) (q : Fin 16) (f : Tq → Tq) : State := { s with tq := vmod s.tq q f }
def State.modSched (s : State) (d : Fin 17) (f : Sched → Sched) : State := { s with sched := vmod s.sched d f }
def State.modVote (s : State) (n : ChId) (f : Vote → Vote) : State := { s with vote := vmod s.vote n f }

def State.modRed (s : State) (f : Red → Red) : State := { s with red := f s.red }
def State.modDev (s : State) (f : Device → Device) : State := { s with dev := f s.dev }
def State.modFloor (s : State) (f : Floor → Floor) : State := { s with floor := f s.floor }
def State.modFc (s : State) (f : Collector → Collector) : State := { s with fc := f s.fc }
def State.modSup (s : State) (f : Sup → Sup) : State := { s with sup := f s.sup }
def State.modSec (s : State) (f : Sec → Sec) : State := { s with sec := f s.sec }
def State.modUpd (s : State) (f : Upd → Upd) : State := { s with upd := f s.upd }
def State.modLog (s : State) (f : Log → Log) : State := { s with log := f s.log }
def State.modTime (s : State) (f : TimeSt → TimeSt) : State := { s with time := f s.time }
def State.modMgmt (s : State) (f : Mgmt → Mgmt) : State := { s with mgmt := f s.mgmt }
def State.modCap (s : State) (f : Capture → Capture) : State := { s with cap := f s.cap }
def State.modBead (s : State) (f : Beads → Beads) : State := { s with bead := f s.bead }
def State.modStore (s : State) (f : Store → Store) : State := { s with store := f s.store }
def State.modTap (s : State) (f : Tap → Tap) : State := { s with tap := f s.tap }
def State.modGrp (s : State) (f : Groups → Groups) : State := { s with grp := f s.grp }

/-- Every channel, emulator, switch or Tally input, in rising order. -/
def all16 : List (Fin 16) := List.finRange 16

/-- A fold over a list of changes. -/
def State.each {α : Type} (s : State) (l : List α) (f : State → α → State) : State := l.foldl f s

/-- A number as a TIME32. -/
def t32 (x : Int) : Time32 := BitVec.ofInt 32 x

/-- A free value of the model: the counter that the next one uses moves on (log entry 7). -/
def State.draw (s : State) : State := { s with fresh := s.fresh + 1 }

/-! ### Time -/

/-- The time counter's nanoseconds (R301). -/
def State.timeNow (s : State) : Time32 := (s.time.count >>> 24).setWidth 32

/-- Slots 0 and 2 of a sample frame, those of even channels, have their sample instant one LCLK period after an SCLK edge,
slots 1 and 3 at an edge (R17, R23). -/
def lateSlot (n : ChId) : Bool := n.val % 2 = 0

/-- The network time of the sample instant t0 of a channel's present sample: the counter at the SCLK edge that coincides
with t0 or precedes it, plus the known phase of 0 or 2 ns (R23). -/
def State.t0 (s : State) (n : ChId) : Time32 := s.timeNow + (if lateSlot n then 2 else 0)

/-- The top 16 bits of the counter's fraction (R306). -/
def State.timeFrac (s : State) : BitVec 16 := (s.time.count >>> 8).setWidth 16

/-- The extended counter E (R300). -/
def State.ext (s : State) : Int := s.time.wraps * 2 ^ 32 + Int.ofNat s.timeNow.toNat

/-- A stamp as an extended instant, taken as the one nearest the present (R305). -/
def State.extOf (s : State) (t : Time32) : Int := s.ext + (t - s.timeNow).toInt

/-- `extend` of R305: the total nanoseconds of a stamp that lies within 2^31 ns of `nref`. -/
def extendNs (t : Time32) (nref : Nat) : Int :=
  Int.ofNat nref + (t - BitVec.ofNat 32 nref).toInt

/-- A total of nanoseconds as a TIME80 (R9). -/
def time80 (n : Int) : Nat := (n / 10 ^ 9).toNat % 2 ^ 48 * 2 ^ 32 + (n % 10 ^ 9).toNat

/-- The total nanoseconds of a TIME80 (R305). -/
def ns80 (v : Nat) : Nat := v / 2 ^ 32 * 10 ^ 9 + v % 2 ^ 32

/-- A stamp as the firmware's TIME80 (R305). -/
def State.stamp80 (s : State) (t : Time32) : Nat := time80 (extendNs t s.time.nref)

/-- The present as a TIME80. -/
def State.now80 (s : State) : Nat := s.stamp80 s.timeNow

/-- A collector pair as a TIME80, extended with its wrap count (R218, R305). -/
def State.pair80 (s : State) (p : Option (Time32 × Int)) : Nat :=
  match p with
  | none => 0
  | some (t, w) =>
    time80 (extendNs s.timeNow s.time.nref + ((w - s.time.wraps) * 2 ^ 32 + Int.ofNat t.toNat - Int.ofNat s.timeNow.toNat))

/-- Nanoseconds since an edge count of the model's time base (log entry 1). -/
def State.since (s : State) (at_ : Nat) : Nat := (s.now - at_) * 4

/-- FL_TICK: FLOOROSC periods, 50 ns within 3 %; it stands while FLOOROSC is absent (R213, R219, R350; log entry 7). -/
def State.tick (s : State) : Nat :=
  let nominal : Int := Int.ofNat ((if s.floor.oscLost then s.floor.since else s.now - s.floor.since) * 4 / 50)
  (nominal + clampI (-(nominal * 3 / 100)) (nominal * 3 / 100) (Config.floorDeviation s.now)).toNat % 2 ^ 32

/-! ### Conditions of the device -/

/-- The hardware works: VIO is present, no device reset, the PLL is locked and the power state is not OFF
(R337, R351, R354). -/
def State.alive (s : State) : Bool := s.sup.vio && !s.sup.reset && s.sup.pll && !(s.sup.power = .off)

/-- The floor works: VIO is present (R13). -/
def State.floorOn (s : State) : Bool := s.sup.vio

/-- FLOOROSC runs: the watchdog and FLOOR reads work (R213). -/
def State.oscOn (s : State) : Bool := s.floorOn && !s.floor.oscLost

/-- The lanes and channels run (R336). -/
def State.lanesOn (s : State) : Bool := s.alive && s.sup.power = .run

/-- The dictionary service answers (R265, R315, R334). -/
def State.serviceOn (s : State) : Bool := s.mgmt.service && !s.mgmt.restarting && !s.tap.halted

/-- A number code of each enumeration. -/
def ChState.num : ChState → Nat
  | .off => 0 | .settle => 1 | .track => 2 | .coast => 3 | .invalid => 4

def DevState.num : DevState → Nat
  | .boot => 0 | .config => 1 | .run => 2 | .service => 3 | .safe => 4

def SeatState.num : SeatState → Nat
  | .standby => 0 | .guard => 1 | .arbitrate => 2 | .backoff => 3 | .active => 4 | .safe => 5

def Power.num : Power → Nat
  | .run => 0 | .quiet => 1 | .safeHold => 2 | .off => 3

def ExcState.num : ExcState → Nat
  | .off => 0 | .ramp => 1 | .run => 2 | .shutdown => 3 | .held => 4

def FltState.num : FltState → Nat
  | .idle => 0 | .active => 1 | .latched => 2

def CalState.num : CalState → Nat
  | .idle => 0 | .pending => 1 | .acquire => 2 | .paused => 3 | .evaluate => 4 | .apply => 5 | .commit => 6

def UpdState.num : UpdState → Nat
  | .idle => 0 | .receiving => 1 | .verifying => 2 | .verified => 3 | .waitQuiet => 4 | .trial => 5 | .failed => 6

/-- The exciter that channel `n` references (R43). -/
def State.excIx (s : State) (n : ChId) : ExcId := excOf (s.reg (Reg.CH_EXC_SEL n))

/-- The channels that reference exciter `e`. -/
def State.users (s : State) (e : ExcId) : List ChId := all16.filter fun n => s.excIx n = e

/-- The exciter is settling: a channel that references it is in SETTLE (R112). -/
def State.settling (s : State) (e : ExcId) : Bool := (s.users e).any fun n => s.ch[n].state = .settle

/-- Samples in one carrier period of a frequency (R100). -/
def periodSamples (f : Int) : Nat := (divRound 8333333 f).toNat

/-- The sense window W of a frequency (R45). -/
def senseWindow (f : Int) : Nat := (divRound 16666666 f).toNat

/-- A resolver source is valid in TRACK, COAST and a warm SETTLE (R170). -/
def State.chValid (s : State) (n : ChId) : Bool :=
  match s.ch[n].state with
  | .track | .coast => true
  | .settle => s.front[n].warm
  | _ => false

/-- A Tally source is valid exactly while its input is in RUN (R194). -/
def State.talValid (s : State) (n : Fin 16) : Bool := s.flag (Reg.TAL_ENABLE n) && !s.tal[n].fault

/-! ### Output levels -/

/-- A safe option applied to the present level: 0 FREEZE, 1 HIZ, 2 LOW, 3 HIGH (R208). -/
def safeLevel (opt : Nat) (present : Level) : Level :=
  match opt % 4 with
  | 0 => present
  | 1 => .hiz
  | 2 => .low
  | _ => .high

/-- A Bool as a driven level. -/
def lv (b : Bool) : Level := if b then .high else .low

/-- Lines A and B of a count (R166). -/
def abOf (c : Int) : Bool × Bool :=
  let m := (c % 4).toNat
  (m = 1 ∨ m = 2, m = 2 ∨ m = 3)

/-- Line Z of emulator `n` at a count (R166). -/
def State.zOf (s : State) (n : Fin 16) (c : Int) : Bool :=
  let l4 : Int := 4 * s.reg (Reg.EMU_LINES n)
  c % l4 = s.reg (Reg.EMU_Z_ANGLE n) * l4 / 2 ^ 24

/-- Emulator or switch `n` lies in the held scope of a CHANNEL-SAFE source (R206). -/
def State.emuScoped (s : State) (n : Fin 16) : Bool := s.fc.srcs.any fun x => x.2.state ≠ .idle && x.2.emus.getLsbD n

def State.pswScoped (s : State) (n : Fin 16) : Bool := s.fc.srcs.any fun x => x.2.state ≠ .idle && x.2.psws.getLsbD n

/-- A Mitten reaction holds the outputs of emulator or switch `n`: CHANNEL-SAFE scope or DEVICE-SAFE (R206, R207). -/
def State.emuHeld (s : State) (n : Fin 16) : Bool := s.floor.deviceSafe || s.emuScoped n

def State.pswHeld (s : State) (n : Fin 16) : Bool := s.floor.deviceSafe || s.pswScoped n

/-- The device is ACTIVE: it holds the claim (R235). -/
def State.isActive (s : State) : Bool := s.red.state = .active

/-- What decides an output, first applicable rule first (R177, R336). -/
inductive Drive where
  | hiz
  | safe
  | follow
  deriving DecidableEq, Repr

/-- Every enabled output stands at its safe level: DEVICE-SAFE (R207) or the power state SAFE-HOLD (R336). -/
def State.allSafe (s : State) : Bool := s.floor.deviceSafe || s.sup.power = .safeHold

/-- The ruling rule of an output from: enabled, in a CHANNEL-SAFE scope, gated, source seen valid, valid now, invalid
option. DEVICE-SAFE leaves a disabled output high-impedance, and until the boot is complete the balls are in their reset
state (R177, R207, R354, R355). -/
def State.drive (s : State) (enabled inScope gate started valid : Bool) (inv : Int) : Drive :=
  if s.sup.power = .off || s.sup.reset || !s.sup.vio || !s.sup.booted then .hiz
  else if inScope || (enabled && s.allSafe) then .safe
  else if gate && !s.isActive then .hiz
  else if !enabled || !started then .hiz
  else if !valid || s.sup.power = .quiet then (if inv = 1 then .hiz else if inv = 2 then .safe else .follow)
  else .follow

/-- The rule that decides emulator `n`'s lines; where they would be driven again, they keep the safe levels of a period
that R172 has not ended yet. -/
def State.emuDrive (s : State) (n : Fin 16) : Drive :=
  let e := s.emu[n]
  match s.drive (s.flag (Reg.EMU_ENABLE n)) (s.emuScoped n) (s.flag (Reg.EMU_SEAT_GATE n)) e.started e.valid
    (s.reg (Reg.EMU_INVALID n)) with
  | .follow => if e.safe then .safe else .follow
  | d => d

/-- The MIT_EMU, MIT_PSW and MIT_EXC objects of a unit (R227). -/
def mitEmu (n : Fin 16) : Key := Reg.MIT_EMU0 + n
def mitPsw (n : Fin 16) : Key := Reg.MIT_PSW0 + n
def mitExc (e : ExcId) : Key := Reg.MIT_EXC0 + e

/-- The levels of lines A, B and Z of emulator `n` at a count (R166). -/
def State.linesOf (s : State) (n : Fin 16) (c : Int) : Level × Level × Level :=
  (lv (abOf c).1, lv (abOf c).2, lv (s.zOf n c))

/-- New levels on lines A, B and Z: where A and B would both change, B changes 6 LCLK periods after A (R166, R209). -/
def Emu.setLines (e : Emu) (l : Level × Level × Level) : Emu :=
  let wave :=
    if l = (e.a, e.b, e.z) then []
    else if l.1 = e.a || l.2.1 = e.b then [(0, l)]
    else [(0, l.1, e.b, l.2.2), (6, l)]
  { e with a := l.1, b := l.2.1, z := l.2.2, wave := wave }

/-- The three lines high-impedance at once (R170, R176). -/
def Emu.cutLines (e : Emu) : Emu :=
  { e with a := .hiz, b := .hiz, z := .hiz, safe := false, wave := [(0, .hiz, .hiz, .hiz)] }

/-- Emulator `n` with the levels that its ruling rule gives (R166, R177, R208). -/
def State.emuLevels (s : State) (n : Fin 16) : Emu :=
  let e := s.emu[n]
  match s.emuDrive n with
  | .hiz => e.cutLines
  | .safe =>
    let m := s.regN (mitEmu n)
    { e.setLines (safeLevel m e.a, safeLevel (m / 4) e.b, safeLevel (m / 16) e.z) with safe := true }
  | .follow => e.setLines (s.linesOf n e.c)

/-- Emulator `n`'s balls set anew. -/
def State.showEmu (s : State) (n : Fin 16) : State := s.modEmu n fun _ => s.emuLevels n

/-- The rule that decides switch `n`'s ball. -/
def State.pswDrive (s : State) (n : Fin 16) : Drive :=
  let w := s.psw[n]
  s.drive (s.flag (Reg.PSW_ENABLE n)) (s.pswScoped n) (s.flag (Reg.PSW_SEAT_GATE n)) w.started
    (w.valid || w.switching) (s.reg (Reg.PSW_INVALID n))

/-- Switch `n` with the level that its ruling rule gives (R174, R175, R177, R208); FREEZE keeps the present level. -/
def State.pswLevels (s : State) (n : Fin 16) : Psw :=
  let w := s.psw[n]
  match s.pswDrive n with
  | .hiz => { w with level := .hiz }
  | .safe => { w with level := safeLevel (s.regN (mitPsw n)) w.level }
  | .follow =>
    if w.valid then { w with level := lv (w.active = s.flag (Reg.PSW_POLARITY n)) } else w

/-- Switch `n`'s ball set anew. -/
def State.showPsw (s : State) (n : Fin 16) : State := s.modPsw n fun _ => s.pswLevels n

/-- Every output ball set anew, emulators first. -/
def State.showOutputs (s : State) : State := (s.each all16 State.showEmu).each all16 State.showPsw

/-- The nearest count to `c` whose lines are those of the count `m` modulo 4; a tie goes up (R172). -/
def nearestCount (c : Int) (m : Int) : Int :=
  let up := (m - c) % 4
  if up ≤ 2 then c + up else c + up - 4

/-- The count modulo 4 that driven lines A and B show (R166). -/
def countOfLines (a b : Level) : Option Int :=
  match a, b with
  | .low, .low => some 0
  | .high, .low => some 1
  | .high, .high => some 2
  | .low, .high => some 3
  | _, _ => none

/-- Leaving Mitten safe levels: `C` is set to match driven lines, or kept where a line is high-impedance (R172). -/
def emuLeave (e : Emu) : Emu :=
  match countOfLines e.a e.b with
  | some m => { e with c := nearestCount e.c m, safe := false, left := 0 }
  | none => { e with safe := false, left := 0 }

end Sys2Proof.Machine
end

