-- ==== Sys2Proof/Machine/Flags.lean ====
section
/-!
DEFINITION. What the device reports about itself: the configuration of a fault source in effect, OKAY (R214), the fault
summaries (R226, R162), eligibility (R234), output records (R154, R155) and the floor registers (R219).
-/

namespace Sys2Proof.Machine

/-- A fault source of an id (R199). -/
def srcOf (i : Nat) : SrcId := if h : i < 1152 then ⟨i, h⟩ else 0

/-- What the collector holds of source `id`. -/
def State.src (s : State) (id : Nat) : FSrc := SMap.find {} s.fc.srcs id

/-- `s` with the collector's data of a source replaced. -/
def State.setSrc (s : State) (id : Nat) (f : FSrc) : State :=
  s.modFc fun c => { c with srcs := SMap.put {} s.fc.srcs id f }

/-- The id is assigned to a source (R201). -/
def assigned (id : Nat) : Bool := (fltDefault id).isSome

/-- The source is fixed FATAL (R200). -/
def fixedSrc (id : Nat) : Bool := match fltDefault id with | some (_, _, _, x) => x | none => false

/-- The class, reaction and route that are visible. -/
def State.fltVisible (s : State) (id : Nat) : Nat × Nat × Bool :=
  (s.regN (Reg.FLT_CLASS id), s.regN (Reg.FLT_REACTION id), s.flag (Reg.FLT_OKAY_ROUTE id))

/-- The class, reaction and route in effect (R217). -/
def State.fltNow (s : State) (id : Nat) : Nat × Nat × Bool :=
  match (s.src id).eff with
  | some e => e
  | none => s.fltVisible id

/-- The sources that are ACTIVE or LATCHED, with what is in effect for each. -/
def State.notIdle (s : State) : List (Nat × Nat × Nat × Bool) :=
  (s.fc.srcs.filter fun x => x.2.state ≠ .idle).map fun x => (x.1, s.fltNow x.1)

/-- Some source not IDLE satisfies a condition on its class, reaction and route. -/
def State.anyFlt (s : State) (c : Nat → Nat → Bool → Bool) : Bool := s.notIdle.any fun x => c x.2.1 x.2.2.1 x.2.2.2

/-- A FATAL source is raised or latched. -/
def State.fatal (s : State) : Bool := s.anyFlt fun c _ _ => c = 2

/-- A CONTAINED source is raised or latched. -/
def State.contained (s : State) : Bool := s.anyFlt fun c _ _ => c = 1

/-- OKAY (R214); low in device reset and without VIO (R355). -/
def State.okay (s : State) : Bool :=
  s.sup.vio && !s.sup.reset && !s.fatal && !(s.anyFlt fun c _ r => c = 1 && r) &&
  !(s.dev.state = .boot) && !(s.dev.state = .safe) && s.floor.testOk && !(s.sup.power = .off)

/-- The Mitten holds DEVICE-SAFE and the device state, where it is not held in reset, has followed (R207, R351). -/
def State.inSafe (s : State) : Bool := s.floor.deviceSafe && (s.dev.state = .safe || s.sup.reset)

/-- DEGRADED (R264). -/
def State.degraded (s : State) : Bool := s.dev.state = .run && s.anyFlt fun _ r _ => 1 ≤ r

/-- Channel `n` has an output held safe by a CHANNEL-SAFE scope (R206). -/
def State.chHeld (s : State) (n : ChId) : Bool :=
  s.fc.srcs.any fun x => x.2.state ≠ .idle && all16.any fun m =>
    (x.2.emus.getLsbD m && s.reg (Reg.EMU_SRC_KIND m) = 0 && s.reg (Reg.EMU_SRC m) = Int.ofNat n) ||
    (x.2.psws.getLsbD m && s.reg (Reg.PSW_SRC m) = Int.ofNat n)

/-- A 16-bit map of the units that satisfy a condition. -/
def map16 (f : Fin 16 → Bool) : Nat := all16.foldl (fun a n => a + b2n (f n) * 2 ^ n.val) 0

/-- FC_SUMMARY (R226). -/
def State.fcSummary (s : State) : Nat :=
  b2n s.fatal * 2 ^ 31 + b2n s.contained * 2 ^ 30 + b2n s.floor.deviceSafe * 2 ^ 29 + b2n s.okay * 2 ^ 28 +
  map16 s.chHeld

/-- The sources of the fault summary that are ACTIVE: "raised" in FAULT_SUM; one with reaction LOG is not in the summary
(R162, R204). -/
def State.raisedSrcs (s : State) : List (Nat × FSrc) :=
  s.fc.srcs.filter fun x => x.2.state = .active && 1 ≤ (s.fltNow x.1).2.1

/-- FAULT_SUM of a position frame (R162). -/
def State.faultSum (s : State) : Nat :=
  let r := s.raisedSrcs
  b2n (r.any fun x => (s.fltNow x.1).1 = 2) * 2 ^ 15 + b2n (r.any fun x => (s.fltNow x.1).1 = 1) * 2 ^ 14 +
  min r.length (2 ^ 14 - 1)

/-- The seat number as reported: 3 for an invalid strap (R228). -/
def State.seatNo (s : State) : Nat := s.red.seat.toNat

/-- SEAT_FLAGS (R162). -/
def State.seatFlags (s : State) : Nat :=
  b2n s.isActive * 2 ^ 7 + b2n s.okay * 2 ^ 6 + b2n s.degraded * 2 ^ 5 + s.seatNo

/-- A seat-mode mismatch: a strap of 10b while RED_MODE is DUPLEX (R228). -/
def State.seatMismatch (s : State) : Bool := s.red.seat = 2#2 && s.reg Reg.RED_MODE = 0

/-- The partner positions in use (R229). -/
def State.partners (s : State) : List (Fin 2) := if s.reg Reg.RED_MODE = 0 then [0] else [0, 1]

/-- The seat of partner position `q` (R229). -/
def State.partnerSeat (s : State) (q : Fin 2) : Nat :=
  if s.reg Reg.RED_MODE = 0 then (if s.seatNo = 0 then 1 else 0) else (s.seatNo + 1 + q.val) % 3

/-- The claim line of partner `q` is trusted: CLM_MISMATCHq is IDLE (R233). -/
def State.lineTrusted (s : State) (q : Fin 2) : Bool := (s.src (903 + q.val)).state = .idle

/-- The OKAY line of partner `q` is trusted: OKAY_MISMATCHq is IDLE (R233). -/
def State.okTrusted (s : State) (q : Fin 2) : Bool := (s.src (905 + q.val)).state = .idle

/-- Some force bit is 1 (R221). -/
def State.anyForce (s : State) : Bool := s.fc.srcs.any fun x => x.2.force

/-- A channel in RED_CRIT_MASK is not in TRACK or COAST, or its CH_VOTE is not IDLE (R234). -/
def State.critBad (s : State) : Bool :=
  all16.any fun n => s.bit Reg.RED_CRIT_MASK n &&
    (!(s.ch[n].state = .track || s.ch[n].state = .coast) || (s.src (64 + 32 * n.val + 19)).state ≠ .idle)

/-- The failing conditions of RED_ELIGIBLE, bits 1 to 10 (R234, R254). -/
def State.ineligible (s : State) : List (Nat × Bool) :=
  [(1, s.dev.state ≠ .run), (2, !s.okay), (3, s.anyForce), (4, s.critBad),
   (5, (s.src 907).state ≠ .idle || (s.src 908).state ≠ .idle || s.seatMismatch),
   (6, s.partners.any fun q => !s.lineTrusted q), (7, s.red.yielding),
   (8, s.reg Reg.RED_CLAIM_MODE = 1 && !s.red.claimPending && !s.isActive), (9, s.sup.power ≠ .run),
   (10, s.sec.lifecycle ≠ 1 && s.sec.lifecycle ≠ 2)]

/-- The device is eligible (R234). -/
def State.eligible (s : State) : Bool := !s.ineligible.any fun x => x.2

/-- RED_ELIGIBLE (R254). -/
def State.eligibleWord (s : State) : Nat :=
  b2n s.eligible + (s.ineligible.foldl (fun a x => a + b2n x.2 * 2 ^ x.1) 0)

/-! ### Output records -/

/-- The 13 monitor bits as a number (R116). -/
def monNum (m : Vector Bool 13) : Nat := (List.finRange 13).foldl (fun a i => a + b2n m[i] * 2 ^ i.val) 0

/-- The STATUS byte (R155). -/
def statusByte (st : ChState) (homed sat wait discard extrap : Bool) : Nat :=
  st.num * 32 + b2n homed * 16 + b2n sat * 8 + b2n wait * 4 + b2n discard * 2 + b2n extrap

/-- POS40 of a phase and a carry count, as a signed number (R7, R79). -/
def pos40 (th : BitVec 32) (carry : Int) : Int := wrapS 16 carry * 2 ^ 24 + Int.ofNat (th.toNat / 256)

/-- An output record as 16 bytes (R154). -/
def OutRec.bytes (r : OutRec) : Bytes :=
  leInt 5 r.pos ++ leBytes 1 r.status ++ leInt 2 r.vel ++ leInt 2 r.acc ++ leBytes 4 r.time.toNat ++ leBytes 2 r.mon

/-! ### The peer of an Ethernet port -/

/-- The configured peer, when there is one, else the learned one (R291). -/
def State.dgrPeer (s : State) (k : Fin 2) : Option (BitVec 32 × BitVec 16) :=
  if s.reg (Reg.DGR_PEER_IP k) ≠ 0 && s.reg (Reg.DGR_PEER_UDP k) ≠ 0 then
    some (BitVec.ofNat 32 (s.regN (Reg.DGR_PEER_IP k)), BitVec.ofNat 16 (s.regN (Reg.DGR_PEER_UDP k)))
  else s.eth[k].peer

/-! ### The floor -/

/-- CLK_PLL, CLK_XTAL or CLK_FLOOR is ACTIVE (R219). -/
def State.clkFail (s : State) : Bool := [4, 5, 6].any fun i => (s.src i).state = .active

/-- FL_EXC (R219). -/
def State.floorExc (s : State) : Nat :=
  (List.finRange 4).foldl (fun a e => a + b2n (s.exc[e].state = .shutdown || s.exc[e].state = .held) * 2 ^ e.val) 0

/-- The floor registers, 32 bytes (R219). -/
def State.floorBytes (s : State) : Bytes :=
  let f := s.floor
  let st := b2n f.deviceSafe * 128 + b2n s.okay * 64 + b2n s.red.clmOut * 32 + b2n s.mgmt.restarting * 16 +
    b2n s.clkFail * 8 + b2n f.first.isSome * 4
  let (id, info, time, tk) : Nat × Nat × Nat × Nat :=
    match f.first with
    | none => (0xFFFF, 0, 0, 0)
    | some x =>
      (x.id, x.cls * 64 + x.reaction * 16 + b2n x.rail * 8 + b2n x.suspect * 4, x.time.toNat, x.tick)
  let body := leBytes 1 1 ++ leBytes 1 st ++ leBytes 2 (map16 s.chHeld) ++ leBytes 1 s.floorExc ++
    leBytes 1 f.wdogCnt ++ leBytes 2 id ++ leBytes 1 info ++ leBytes 1 0 ++ leBytes 2 f.lastId ++ leBytes 4 time ++
    leBytes 4 tk ++ leBytes 4 s.tick ++ leBytes 2 f.safeCnt ++ leBytes 2 0
  body ++ leBytes 4 (crc32 body).toNat

end Sys2Proof.Machine
end

