-- ==== Sys2Proof/Machine/Faults.lean ====
section
/-!
DEFINITION. Raising and clearing a fault source with its reaction (R204 to R223), the log queue (R218), and what a
change of device state, a safe entry and a claim release take with them (R207, R236, R264).
A command's meaning ends in `done`, which makes the DEVICE-SAFE entry that a raise within it has asked for.
-/

namespace Sys2Proof.Machine

/-! ### The log queue -/

/-- The STATES byte of a log record (R320). -/
def State.statesByte (s : State) : Nat := s.dev.state.num * 32 + s.red.state.num * 4 + s.sup.power.num

/-- A log event of the present instant (R320). -/
def State.event (s : State) (kind source info : Nat) (record : Option OutRec) (detail : Bytes) : LogEvent :=
  { source := source, kind := kind, info := info, states := s.statesByte, time := s.timeNow, wraps := s.time.wraps,
    suspect := !s.time.refValid || s.clkFail, lost := s.fc.lost, tick := s.tick, record := record,
    fcSum := s.fcSummary, cfg := s.regN Reg.CFG_GEN, detail := padTo 12 detail }

/-- The output record of the channel that a source of a channel block belongs to (R320). -/
def State.recordOf (s : State) (id : Nat) : Option OutRec :=
  if 64 ≤ id ∧ id < 576 then some s.ch[chOf (Int.ofNat ((id - 64) / 32))].out else none

/-- The count, times, state and latch of a raise, without its log record (R206, R215, R218). Count and times are kept
in the system domain, which a device reset holds (R13, R218, R351). -/
def State.countRaise (s : State) (id : Nat) (upd : FSrc → FSrc) : State :=
  let f := s.src id
  let now_ := (s.timeNow, s.time.wraps)
  if s.sup.reset then s.setSrc id { (upd f) with state := .active, record := s.recordOf id }
  else
    s.setSrc id
      { (upd f) with
        state := .active
        record := s.recordOf id
        count := (satInc 32 (Int.ofNat f.count)).toNat
        first := some (f.first.getD now_)
        last := some now_ }

/-- A source whose rails go to condition absent: CORRECTED falls to IDLE, the others to LATCHED (R215, R217). -/
def State.dropSrc (s : State) (id : Nat) : State :=
  let f := s.src id
  if f.cond || f.force || f.state ≠ .active then s
  else if (s.fltNow id).1 = 0 then
    s.setSrc id { f with state := .idle, emus := 0, psws := 0, eff := none }
  else s.setSrc id { f with state := .latched }

/-- The floor's first-fault capture: of several faults in one FLOOROSC period the lowest id stands (R219, R220). While
FLOOROSC is absent the capture waits for its return (R213). -/
def State.captureFirst (s : State) (id : Nat) : State :=
  let (c, r, _) := s.fltNow id
  let f := s.floor
  let f := if r = 3 then { f with lastId := id } else f
  let f :=
    if (f.first.all fun x => x.tick = s.tick && id < x.id && !x.rail) && (c = 2 || 2 ≤ r) then
      let x : FirstFault :=
        { id := id, cls := c, reaction := r, rail := (s.src id).rail
          suspect := s.clkFail || id = 4 || id = 5 || id = 6, time := s.timeNow, tick := s.tick }
      if f.oscLost then { f with late := f.late.orElse fun _ => some x } else { f with first := some x }
    else f
  s.modFloor fun _ => { f with request := f.request || (r = 3 && !s.inSafe) }

/-- A source of R328 that raises in TRIAL ends the trial's good run. -/
def State.markTrial (s : State) (id : Nat) : State :=
  if s.upd.state = .trial && ((1024 ≤ id && id < 1088) || id = 24 || id = 25) then
    s.modUpd fun u => { u with faulted := true }
  else s

/-- LOG_QUEUE_OVF raises for a moment: it counts, latches and takes its reaction like any source (R204, R328, R339); its
own record finds no room in the queue (log entry 69). -/
def State.overflow (s : State) : State :=
  if (s.src 1029).cond || (s.src 1029).force then s
  else (((s.countRaise 1029 id).captureFirst 1029).markTrial 1029).dropSrc 1029

/-- An event put into the queue of 256; on overflow the newest is dropped, counted and raised (R218, R339). A device
reset holds the queue (R351). -/
def State.enqueue (s : State) (e : LogEvent) : State :=
  if s.sup.reset then s
  else if s.fc.queue.length < 256 then
    s.modFc fun c => { c with queue := c.queue ++ [e], lost := false }
  else ((s.modFc fun c => { c with lost := true }).bump Reg.FC_LOG_LOST).overflow

/-- An event of a kind without a source. -/
def State.logKind (s : State) (kind info : Nat) (detail : Bytes) : State :=
  s.enqueue (s.event kind 0xFFFF info none detail)

/-- The quota of 16 records a second of a source: the state that has counted one more, if it may write (R218). -/
def State.quota (s : State) (id : Nat) : Option State :=
  let sec := s.now / 250000000
  let fc := if s.fc.second = sec then s.fc else { s.fc with quota := [], second := sec }
  let n := SMap.find 0 fc.quota id
  if n < 16 then some (s.modFc fun _ => { fc with quota := SMap.put 0 fc.quota id (n + 1) }) else none

/-- A RAISE or CLEAR event of a source (R320). -/
def State.logSrc (s : State) (kind id : Nat) : State :=
  match s.quota id with
  | none => s
  | some s =>
    let (c, r, o) := s.fltNow id
    let f := s.src id
    let info := c * 64 + r * 16 + b2n o * 8 + b2n f.force * 4
    s.enqueue (s.event kind id info f.record (leBytes 4 f.count))

/-! ### The scope of a CHANNEL-SAFE reaction -/

/-- The enabled emulators and switches fed by the channels that satisfy a condition (R206). -/
def State.scopeOfCh (s : State) (c : Nat → Bool) : BitVec 16 × BitVec 16 :=
  (BitVec.ofNat 16 (map16 fun m => s.flag (Reg.EMU_ENABLE m) && s.reg (Reg.EMU_SRC_KIND m) = 0 && c (s.regN (Reg.EMU_SRC m))),
   BitVec.ofNat 16 (map16 fun m => s.flag (Reg.PSW_ENABLE m) && c (s.regN (Reg.PSW_SRC m))))

/-- The scope of a source at the moment of raising (R206). -/
def State.scope (s : State) (id : Nat) : BitVec 16 × BitVec 16 :=
  if 64 ≤ id ∧ id < 576 then s.scopeOfCh fun n => n = (id - 64) / 32
  else if 576 ≤ id ∧ id < 640 then s.scopeOfCh fun n => (s.excIx (chOf (Int.ofNat n))).val = (id - 576) / 16
  else if 640 ≤ id ∧ id < 768 then
    (BitVec.ofNat 16 (map16 fun m => s.flag (Reg.EMU_ENABLE m) && s.reg (Reg.EMU_SRC_KIND m) = 1 &&
      s.regN (Reg.EMU_SRC m) = (id - 640) / 8), 0)
  else if 768 ≤ id ∧ id < 832 then (BitVec.ofNat 16 (2 ^ ((id - 768) / 4)), 0)
  else if 832 ≤ id ∧ id < 896 then (0, BitVec.ofNat 16 (2 ^ ((id - 832) / 4)))
  else (0, 0)

/-! ### The capture's fault trigger -/

/-- The trigger of a capture whose state waits for one; a CAP_POST of 0 stops a ring at its trigger (R92). -/
def State.capTrigger (s : State) : State :=
  let c := s.cap
  if c.state = .armed then s.modCap fun c => { c with state := .triggered, since := none }
  else if c.state = .running && c.ring && c.since.isNone then
    s.modCap fun c => { c with state := if c.post = 0 then .done else .triggered, since := some 0 }
  else s

/-! ### Raising -/

/-- What some sources mark when they raise: ERR of the next record (R244), the comparison that FC_COPY waits for (R222). -/
def State.raiseMarks (s : State) (id : Nat) : State :=
  if id = 29 || (32 ≤ id && id ≤ 35) then s.modRed fun r => { r with err := true }
  else if id = 1 then s.modFc fun c => { c with copyOk := false }
  else s

/-- A reaction `r` of CHANNEL-SAFE or more takes the source's scope at the moment of raising (R206). -/
def State.holdScope (s : State) (id r : Nat) : State :=
  if 2 ≤ r then
    let x := s.scope id
    s.setSrc id { s.src id with emus := (s.src id).emus ||| x.1, psws := (s.src id).psws ||| x.2 }
  else s

/-- A raise of a captured channel triggers a capture that waits for a fault (R92). -/
def State.capFault (s : State) (id : Nat) : State :=
  if 64 ≤ id ∧ id < 576 ∧ s.cap.trigger = 2 ∧ s.cap.mask.contains ((id - 64) / 32) then s.capTrigger else s

/-- The outputs after a raise with reaction `r`. -/
def State.showRaise (s : State) (r : Nat) : State := if 2 ≤ r then s.showOutputs else s

/-- A change of a source's rails to condition present: count, times, latch, scope, first fault, log (R204 to R220). -/
def State.raiseWith (s : State) (id : Nat) (upd : FSrc → FSrc) : State :=
  if !assigned id then s
  else if (s.src id).cond || (s.src id).force then s.setSrc id (upd (s.src id))
  else
    let r := (s.fltNow id).2.1
    let s := ((s.countRaise id upd).raiseMarks id).holdScope id r
    ((((s.captureFirst id).logSrc 0 id).showRaise r).markTrial id).capFault id

/-- The condition of a source becomes present. -/
def State.raise (s : State) (id : Nat) : State := s.raiseWith id fun f => { f with cond := true }

/-- The outputs whose scope no source holds any more are set anew; an emulator leaves at its safe exit (R172, R215). -/
def State.releaseScopes (s : State) : State := s.each all16 State.showPsw

/-- The condition of a source goes absent (R215). -/
def State.gone (s : State) (id : Nat) : State :=
  if !(s.src id).cond then s
  else ((s.setSrc id { s.src id with cond := false, rail := false }).dropSrc id).releaseScopes

/-- A condition that is present for a moment only. -/
def State.pulse (s : State) (id : Nat) : State := (s.raise id).gone id

/-- The condition of a source follows a level. -/
def State.level (s : State) (id : Nat) (b : Bool) : State := if b then s.raise id else s.gone id

/-- A source returns to IDLE (R215, R217): its scope is released and its visible configuration applies. -/
def State.idleSrc (s : State) (id : Nat) : State :=
  let f := s.src id
  if f.state = .latched then
    let s := s.logSrc 1 id
    let f := s.src id
    (s.setSrc id { f with state := .idle, rail := false, emus := 0, psws := 0, eff := none }).releaseScopes
  else s

/-- Ids of a channel's, an exciter's and other units' sources (R200). -/
def chSrc (n : ChId) (o : Nat) : Nat := 64 + 32 * n.val + o
def excSrc (e : ExcId) (o : Nat) : Nat := 576 + 16 * e.val + o
def talSrc (n : Fin 16) (o : Nat) : Nat := 640 + 8 * n.val + o
def emuSrc (n : Fin 16) (o : Nat) : Nat := 768 + 4 * n.val + o

/-! ### The scheduler's domains -/

/-- The domain of a channel, and the MRAM domain. -/
def chDomain (n : ChId) : Fin 17 := ⟨n.val, by omega⟩
def mramDomain : Fin 17 := 16

/-- An activity whose grant is a command of its own: a calibration needs its quad's statistics unit as well, and a loop test
its conditions at that moment (R87, R134). -/
def waitsGrant : Activity → Bool
  | .cal | .test => true
  | _ => false

/-- The static trims of every channel, by address. -/
def State.allTrims (s : State) : List (Nat × Int) :=
  all16.flatMap fun (n : ChId) =>
    [Reg.CH_OFS_SIN n, Reg.CH_OFS_COS n, Reg.CH_FGAIN_SIN n, Reg.CH_FGAIN_COS n, Reg.CH_QUAD_TRIM n].map fun k => (k, s.reg k)

/-- What the start of an activity takes: a bead commit writes the working copy, the set records and the trims as they
stand when it begins (R143). -/
def State.startActivity (s : State) (d : Fin 17) (a : Activity) : State :=
  if d = mramDomain ∧ a = .beadCommit then
    s.modBead fun b => { b with writing := some { beads := b.working, sets := s.sets.toList, trims := s.allTrims } }
  else s

/-- The RUNNING activity ends: the suspended calibration resumes, else the PENDING request runs (R318 step 7), or waits in
an idle domain for the command that grants it. -/
def State.schedEnd (s : State) (d : Fin 17) : State :=
  let x := s.sched[d]
  if x.suspended then
    s.modSched d fun x => { x with running := some .cal, suspended := false, since := s.now, edge := none }
  else
    match x.pending with
    | some a =>
      -- an activation that waits for its quiet point lets no MRAM writer begin (R327)
      if waitsGrant a || (d = mramDomain && s.upd.state = .waitQuiet) then
        s.modSched d fun x => { x with running := none, edge := none }
      else (s.modSched d fun _ => { running := some a, since := s.now }).startActivity d a
    | none => s.modSched d fun _ => {}

/-- An activity leaves its domain, wherever it stands (R88, R136). -/
def State.schedWithdraw (s : State) (d : Fin 17) (a : Activity) : State :=
  let x := s.sched[d]
  let s := if x.pending = some a then s.modSched d fun x => { x with pending := none } else s
  let s := if a = .cal && x.suspended then s.modSched d fun x => { x with suspended := false } else s
  if x.running = some a then s.schedEnd d else s

/-! ### Loop tests -/

/-- The channel is the source of an enabled emulator, an enabled switch or a cyclic position frame (R87). -/
def State.feedsOutput (s : State) (n : ChId) : Bool :=
  (all16.any fun m => s.flag (Reg.EMU_ENABLE m) && s.reg (Reg.EMU_SRC_KIND m) = 0 && s.regN (Reg.EMU_SRC m) = n.val) ||
  (all16.any fun m => s.flag (Reg.PSW_ENABLE m) && s.regN (Reg.PSW_SRC m) = n.val) ||
  ((List.finRange 8).any fun f => s.flag (Reg.PF_ENABLE f) && s.bit (Reg.PF_CH_MASK f) n.val)

/-- The channel feeds an output of an ACTIVE seat (R87). -/
def State.feedsActive (s : State) (n : ChId) : Bool := s.isActive && s.feedsOutput n

/-- The first two conditions of R87. -/
def State.testAllowed (s : State) (n : ChId) : Bool :=
  s.ch[n].state = .track && (s.dev.state = .service || !s.feedsActive n)

/-- The device is about to claim: it guards or arbitrates (R88, R235). -/
def State.claiming (s : State) : Bool := s.red.state = .guard || s.red.state = .arbitrate

/-- A test may go on: R87 permits it, and so would the claim that the device is about to make (R88). -/
def State.testGoesOn (s : State) (n : ChId) : Bool :=
  s.testAllowed n && (s.dev.state = .service || !(s.claiming && s.feedsOutput n))

/-- Why a test that may not go on ends: 4 left TRACK, 2 claim or ACTIVE seat (R95). -/
def State.testReason (s : State) (n : ChId) : Nat := if s.ch[n].state = .track then 2 else 4

/-- A test ends with an abort reason: at once while PENDING, else at the next sample boundary (R87, R88). -/
def State.abortTest (s : State) (n : ChId) (reason : Nat) : State :=
  match s.ch[n].inj.state with
  | .pending =>
    ((s.modCh n fun c => { c with inj := { c.inj with state := .aborted } }).setReg (Reg.CH_INJ_ABORT n)
      (Int.ofNat reason)).schedWithdraw (chDomain n) .test
  | .running =>
    if s.ch[n].inj.stopping.isSome then s
    else s.modCh n fun c => { c with inj := { c.inj with stopping := some (true, reason) } }
  | _ => s

/-- Every test that may not go on ends (R88). -/
def State.abortTests (s : State) (reason : Nat) : State :=
  s.each all16 fun s n => if s.testGoesOn n then s else s.abortTest n reason

/-! ### Calibration runs -/

/-- The counter of a result in 4101h (R137). -/
def calCounter (n : ChId) (result : Nat) : Option Key :=
  match result with
  | 1 => some (Reg.CAL_CNT_ACCEPTED n)
  | 3 => some (Reg.CAL_CNT_REJECTED n)
  | 4 => some (Reg.CAL_CNT_INSUFFICIENT n)
  | 5 => some (Reg.CAL_CNT_ABORTED n)
  | _ => none

/-- The CAL_RESULT event of a run (R320). -/
def State.logCal (s : State) (n : ChId) : State :=
  let c := s.cal[n]
  s.logKind 4 c.result
    (leBytes 1 c.target ++ leBytes 1 c.detail ++ leBytes 2 c.qRun ++ leBytes 1 n.val ++ leBytes 1 c.trigger ++
      leInt 1 c.cfg.kind ++ leInt 1 c.cfg.scope)

/-- A run ends with a result and a detail, and without an effect on beads (R136, R137): 3 REJECTED, 4 INSUFFICIENT,
5 ABORTED. CANCEL (1) starts no retry hold; a run that was never granted has read no configuration, and takes the visible
hold (R150; log entry 70). -/
def State.endRun (s : State) (n : ChId) (result detail : Nat) : State :=
  let c := s.cal[n]
  let hold := (if c.state = .pending then s.regN (Reg.CAL_RETRY_HOLD n) else c.cfg.retryHold.toNat) * 250000000
  let s := s.modCal n fun c =>
    { c with
      state := .idle, pause := 0, result := result, detail := detail, window := none, granted := false
      gates := false
      holdUntil := if result = 5 ∧ detail = 1 then c.holdUntil else s.now + hold }
  let s := match calCounter n result with | some k => s.bump k | none => s
  ((s.logCal n).schedWithdraw (chDomain n) .cal).pulse (chSrc n 16)

/-- A run that has not passed EVALUATE ends ABORTED (R136). -/
def State.abortRun (s : State) (n : ChId) (detail : Nat) : State :=
  match s.cal[n].state with
  | .pending | .acquire | .paused | .evaluate => s.endRun n 5 detail
  | _ => s

/-- Some set of channel `n` is calibrated (R121). -/
def setIx (n : ChId) (k : Fin 8) : Fin 128 := ⟨8 * n.val + k.val, by omega⟩

def State.anyCalibrated (s : State) (n : ChId) : Bool :=
  (List.finRange 8).any fun k => s.sets[setIx n k].calibrated

/-- Runs that the new device state does not carry on end with DEVICE_STATE (R136). -/
def State.abortRuns (s : State) (leftService : Bool) : State :=
  s.each all16 fun s n =>
    if s.dev.state ≠ .run ∧ s.dev.state ≠ .service then s.abortRun n 4
    else if leftService ∧ (if s.cal[n].state = .pending then s.reg (Reg.CAL_KIND n) else s.cal[n].cfg.kind) = 1 ∧
        s.anyCalibrated n then s.abortRun n 4
    else s

/-! ### Claim, debug level, force bits -/

/-- The SEAT event after a change of seat state (R320). -/
def State.setSeat (s : State) (new : SeatState) : State :=
  let old := s.red.state
  if old = new then s
  else
    (s.modRed fun r => { r with state := new }).logKind 3 new.num
      (leBytes 1 old.num ++ leBytes 1 new.num ++ leBytes 1 0 ++ leBytes 1 0xFF)

/-- A claim attempt that ends in STANDBY or SAFE is one abandonment (R235). -/
def State.endAttempt (s : State) (dest : SeatState) : State :=
  let s := s.setSeat dest
  let s := s.modRed fun r => { r with step3 := false, sawHigher := false }
  if s.red.attempt then
    ((s.modRed fun r => { r with attempt := false }).bump Reg.RED_ABANDON_CNT).pulse 913
  else s

/-- Every port that is UP sends the RELEASE ordered set three times (R236). -/
def State.sendRelease (s : State) : State :=
  s.each (List.finRange 2) fun s k =>
    if s.lnk[k].state = .up then s.modLnk k fun l => { l with releases := l.releases + 3 } else s

/-- A request to release the claim: RELEASE on every UP port; a held claim goes with CLM_OUT low and gated outputs
high-impedance, an attempt is abandoned (R176, R235, R236). -/
def State.releaseClaim (s : State) (dest : SeatState) : State :=
  let s := s.sendRelease
  if s.red.clmOut || s.isActive then ((s.modRed fun r => { r with clmOut := false }).setSeat dest).showOutputs
  else s.endAttempt dest

/-- A new debug level; FULL makes DBG_OPEN present (R335). -/
def State.setDebug (s : State) (v : Nat) (reason p : Nat) : State :=
  let old := s.sec.debug
  if old = v then s
  else
    let s := (s.modSec fun x => { x with debug := v }).modTap fun t => { t with halted := t.halted && v = 2 }
    let s := if v = 2 then (s.bump Reg.DBG_OPEN_CNT).raise 1089 else s.gone 1089
    s.logKind 7 v (leBytes 1 old ++ leBytes 1 v ++ leBytes 1 reason ++ leBytes 1 p)

/-- Every force bit returns to 0, and the forced sources fall (R221). -/
def State.dropForces (s : State) : State :=
  (s.each (s.fc.srcs.map fun x => x.1) fun s id =>
    if (s.src id).force then (s.setSrc id { s.src id with force := false }).dropSrc id else s).releaseScopes

/-! ### Device states -/

/-- Leaving RUN releases the claim and disarms the orphan rule (R236, R237, R264). -/
def State.leaveRun (s : State) (dest : SeatState) : State :=
  (s.releaseClaim dest).modRed fun r => { r with armed := false }

/-- Leaving SERVICE in SEALED returns force bits and the debug level (R221, R335). -/
def State.leaveService (s : State) (reason p : Nat) : State :=
  if s.sec.lifecycle = 2 then s.dropForces.setDebug 0 reason p else s

/-- Entering RUN sets every partner's evidence origin, and arms the orphan rule beside a CLAIMED partner (R232, R237). -/
def State.enterRun (s : State) : State :=
  let e := s.ext
  let any := s.partners.any fun q => s.pt[q].claimed
  (s.modRed fun r => { r with runEntry := e, armed := any }).each (List.finRange 2) fun s q =>
    s.modPt q fun x => { x with origin := e }

/-- A new device state with what entering and leaving take along (R264). -/
def State.enterDev (s : State) (new : DevState) (reason p : Nat) : State :=
  let old := s.dev.state
  if old = new then s
  else
    let at_ := s.now80
    let s := s.modDev fun d => { d with state := new, reason := reason, time := at_ }
    let s := s.logKind 2 new.num (leBytes 1 old.num ++ leBytes 1 new.num ++ leBytes 1 reason ++ leBytes 1 p)
    let s := if old = .run then s.leaveRun (if new = .safe then .safe else .standby) else s
    let s := s.abortTests 3
    let s := if old = .service then s.leaveService reason p else s
    let s := s.abortRuns (old = .service)
    if new = .run then s.enterRun else s

/-- An exciter that does not drive has no fold-back. -/
def State.foldClear (s : State) (e : ExcId) : State :=
  (s.modExc e fun x => { x with fold := false, pendFold := false, applied := 0, step := 0 }).gone (excSrc e 1)

/-- The exciters that the Mitten stops (R207, R208). -/
def State.holdExciters (s : State) : State :=
  s.each (List.finRange 4) fun s e =>
    if s.reg (mitExc e) = 1 ∧ (s.exc[e].state = .ramp ∨ s.exc[e].state = .run) then
      (s.modExc e fun x => { x with state := .held, restart := false }).foldClear e
    else s

/-- The DEVICE-SAFE entry (R207). In a device reset the floor alone works: the Mitten holds, and what else the entry
does is what the reset does already (R13, R351). -/
def State.safeEntry (s : State) : State :=
  if s.inSafe then s
  else
    let s := s.modFloor fun f => { f with deviceSafe := true, safeCnt := min (f.safeCnt + 1) 0xFFFF }
    if s.sup.reset then s
    else
    let s := s.releaseClaim .safe
    let s := (s.enterDev .safe 3 0xFF).setSeat .safe
    s.holdExciters.showOutputs

/-- The end of a command: a DEVICE-SAFE entry that a raise has asked for is made; what the entry itself raises asks for
none beside it. -/
def State.settled (s : State) : State :=
  if s.floor.request then s.safeEntry.modFloor fun f => { f with request := false } else s

/-- A command's meaning answers its next state. -/
def done (s : State) : Host.Outcome State Fault Refusal := .next s.settled

end Sys2Proof.Machine
end

