-- ==== Sys2Proof/Machine/Gate.lean ====
section
/-!
DEFINITION. The one path of every dictionary access: the port, the hold of a FENCE_GLOBAL, the heartbeat, the checks of
R261 in their order, and the refusal of R266. A command of a family passes its own conditions and effect as `eff`.
-/

namespace Sys2Proof.Machine

/-- The effect of an access that has passed steps 1 to 6 of R261, or its refusal under steps 7 and 8. -/
abbrev Eff := State → Except Nak State

/-- Details of R266. -/
def nakState : Nak := ⟨0x08000022, 0x1⟩
def nakCond : Nak := ⟨0x08000022, 0x2⟩
def nakRole : Nak := ⟨0x06010000, 0x3⟩
def nakLifecycle : Nak := ⟨0x06010000, 0x4⟩
def nakInflight : Nak := ⟨0x08000020, 0x5⟩
def nakTimed : Nak := ⟨0x08000020, 0x6⟩
def nakMgmt : Nak := ⟨0x08000020, 0x7⟩
def nakSched : Nak := ⟨0x08000022, 0x8⟩
def nakCount : Nak := ⟨0x08000020, 0x9⟩
def nakSignature : Nak := ⟨0x08000020, 0xB⟩
def nakRange : Nak := ⟨0x06090030, 0xC⟩
def nakHigh : Nak := ⟨0x06090031, 0xC⟩
def nakLow : Nak := ⟨0x06090032, 0xC⟩
def nakAccess : Nak := ⟨0x06010000, 0xE⟩

/-- A condition that an access needs, and its refusal otherwise. -/
def need (b : Bool) (n : Nak) : Except Nak Unit := if b then .ok () else .error n

/-- The role of a port's session under the lifecycle and the debug level (R283, R333, R334). -/
def State.roleOf (s : State) (p : Port) : Role :=
  let r := s.port[p].role
  if s.sec.lifecycle = 3 then .observer
  else if p = 6 ∧ s.sec.debug ≠ 2 then .observer
  else if s.sec.lifecycle = 0 ∧ (p = 0 ∨ p = 1 ∨ p = 6) then (if r = .vendor then r else .integrator)
  else r

/-- The port carries a session: it is enabled, and DBG's level opens DICT (R282, R311, R334). -/
def State.portOpen (s : State) (p : Port) : Bool :=
  if p = 2 ∨ p = 3 then s.flag (Reg.ETH_ENABLE (p.val - 2))
  else if p = 4 ∨ p = 5 then s.flag (Reg.CAN_ENABLE (p.val - 4)) && s.reg (Reg.CAN_NODE_ID (p.val - 4)) ≠ 0
  else if p = 6 then s.sec.debug ≠ 0
  else true

/-- A FENCE_GLOBAL holds new accesses (R268). -/
def State.holding (s : State) : Bool := s.grp.sealed.any fun g => g.1.all

/-- The port has not replied to its previous access: a fence or a firmware block of it waits, or an access of it is held
(R260, R268). -/
def State.portBusy (s : State) (p : Port) : Bool :=
  (s.grp.sealed.any fun g => g.1.port = p) || (s.upd.blocks.any fun b => b.port = p) || s.grp.held.any fun h => h.port = p

/-- Any access restarts the heartbeat of its port (R271). -/
def State.beat (s : State) (p : Port) : State :=
  s.modPort p fun x => { x with hb := if s.reg (Reg.PORT_HB_TMO p) = 0 then .off else .alive }

/-- Nanoseconds as edges of the model's time base. -/
def edgesOf (seconds : Nat) : Nat := seconds * 250000000

/-- A failed AUTH_RESPONSE: the nonce is gone, the failure counts, the eighth within 60 s locks the port (R331). -/
def State.authFail (s : State) (p : Port) : State :=
  let s := (s.modPort p fun x => { x with nonce := none }).bump (Reg.AUTH_FAIL_CNT p)
  let s := (s.pulse 1090).logKind 9 0 (leBytes 1 p.val ++ leBytes 1 (s.roleOf p).num ++ leBytes 1 0)
  if s.port[p].lockUntil.isSome then s.raise 1091
  else
    let fails := s.now :: s.port[p].fails.filter fun t => s.now ≤ t + edgesOf 60
    if fails.length < 8 then s.modPort p fun x => { x with fails := fails }
    else (s.modPort p fun x => { x with fails := [], lockUntil := some (s.now + edgesOf 60) }).raise 1091

/-- A refused access: the counter and the diagnostic record, and nothing else (R266); the scheduler counts its own
refusals besides (R318), and a response that does not match is a failure (R331). -/
def State.refuse (s : State) (p : Port) (k : Key) (n : Nak) : State :=
  let s := if n = nakSched && k ≠ Reg.PWR_CMD && k ≠ Reg.PWR_OFF then s.bump Reg.SCH_REFUSE_CNT else s
  let s := if n = nakRole && k = Reg.AUTH_RESPONSE p then s.authFail p else s
  let r : DiagRec := { nak := n, port := p, state := s.dev.state, key := k, role := s.roleOf p, time := s.timeNow }
  (s.bump Reg.DEV_REFUSE_CNT).modDev fun d => { d with diag := (r :: d.diag).take 16 }

/-- The objects of the update (R326). -/
def isUpdate (b : Key) : Bool :=
  b ∈ [Reg.UPD_BEGIN, Reg.UPD_DATA, Reg.UPD_VERIFY, Reg.UPD_ACTIVATE, Reg.UPD_CONFIRM, Reg.UPD_ABORT]

/-- Objects of one port alone (R331). -/
def isAuth (b : Key) : Bool := b ∈ [Reg.AUTH_CHALLENGE 0, Reg.AUTH_RESPONSE 0, Reg.AUTH_LOGOUT 0]

/-- The role that a write or command needs (R205, R215, R259, R263, R271, R333). -/
def State.needRole (s : State) (o : Obj) (p : Port) (k : Key) (v : Int) : Role :=
  let b := baseKey k
  let n := unitOf k
  if b = Reg.DEV_STATE_CMD then (if v = 1 ∨ v = 3 ∨ v = 4 then .integrator else o.role)
  else if b = Reg.FLT_CLEAR 0 ∧ (s.fltNow n).1 = 2 then .integrator
  else if (b = Reg.GRP_DISCARD 0 ∨ b = Reg.GRP_TIMED_CANCEL 0) ∧ n ≠ p.val then .integrator
  else if (b = Reg.KEY_OPERATOR ∨ b = Reg.KEY_INTEGRATOR) ∧ s.sec.lifecycle = 2 then .vendor
  else if isUpdate b ∧ s.sec.lifecycle = 0 then .vendor
  else o.role

/-- Step 4 of R261: lifecycle and role. A force bit is refused in RETIRED by its own rule (R221), and OBSERVE opens DBG
for reads alone (R334). -/
def State.roleCheck (s : State) (o : Obj) (p : Port) (k : Key) (v : Int) : Except Nak Unit := do
  let b := baseKey k
  need (!(isAuth b && unitOf k ≠ p.val)) nakAccess
  need (!(s.sec.lifecycle = 3 && b = Reg.FLT_FORCE 0 && v = 1)) nakCond
  need (s.sec.lifecycle ≠ 3) nakLifecycle
  need (!(p = 6 && s.sec.debug = 1)) nakRole
  need ((s.roleOf p).atLeast (s.needRole o p k v)) nakRole
  need (!(b = Reg.DEV_STATE_CMD && v = 2 && s.sec.lifecycle = 0)) nakLifecycle

/-- Commands that stay legal in SAFE (R265). -/
def safeCommand (k : Key) : Bool :=
  let i := k / 256
  (0x5000 ≤ i && i ≤ 0x55FF) || (0x8000 ≤ i && i ≤ 0x80FF) || (0x1440 ≤ i && i ≤ 0x1442) || (0x1110 ≤ i && i ≤ 0x1116)

/-- Step 5 of R261: the table of R265, and R326. -/
def State.legal (s : State) (o : Obj) (k : Key) (v : Int) : Bool :=
  let b := baseKey k
  match s.dev.state with
  | .boot => false
  | d =>
    if b = Reg.DEV_STATE_CMD then (if d = .safe then v = 4 else v ≠ 4)
    else if b = Reg.RESTORE_DEFAULTS ∨ b = Reg.RESTORE_STORED then d = .config
    else if isUpdate b then d ≠ .safe
    else match o.acc with
      | .rws => d = .config || d = .service
      | _ => if o.ty = .cmd then d ≠ .safe || safeCommand k else true

/-- Steps 1 to 6 of R261 for a write; the value is the data as the object's type spells it. -/
def State.writeChecks (s : State) (p : Port) (k : Key) (data : Bytes) : Except Nak (Obj × Int) := do
  need (indexExists k) ⟨0x06020000, 0xF⟩
  match findObj k with
  | none => .error ⟨0x06090011, 0xF⟩
  | some o =>
    need (o.acc ≠ .ro) ⟨0x06010002, 0xE⟩
    need (data.length = o.ty.len) ⟨0x06070010, 0xD⟩
    let v := maskValue o.mask (o.ty.value data)
    s.roleCheck o p k v
    need (s.legal o k v) nakState
    match rangeCheck s s.reg o k v with
    | some c => .error ⟨c, 0xC⟩
    | none => .ok (o, v)

/-- Whether a port's access reaches the dictionary now. -/
inductive Gate where
  | dead
  | held
  | busy
  | ready
  deriving DecidableEq, Repr

/-- The way of an access to the dictionary service. -/
def State.gate (s : State) (p : Port) : Gate :=
  if !s.alive || !s.portOpen p || s.portBusy p then .dead
  else if s.holding then .held
  else if !s.serviceOn then .busy
  else .ready

/-- A write access: the state after it, and its abort code (0: accepted). There is no code yet when the access is held
by a FENCE_GLOBAL (R268), or when the port has nothing to reply before a fence or a firmware block is done (R260).
`eff` answers the state after its steps 7 and 8, with the refusal when they refuse. -/
def State.writeWith (s : State) (p : Port) (k : Key) (data : Bytes) (route : Route) (eff : Obj → Int → State → State × Option Nak) :
    State × Option Nat :=
  match s.gate p with
  | .dead => (s, none)
  | .held => (s.modGrp fun g => { g with held := g.held ++ [⟨p, k, some data, route⟩] }, none)
  | .busy => ((s.beat p).refuse p k nakMgmt, some nakMgmt.abort)
  | .ready =>
    let s := s.beat p
    match s.writeChecks p k data with
    | .error n => (s.refuse p k n, some n.abort)
    | .ok (o, v) =>
      match eff o v s with
      | (s', some n) => (s'.refuse p k n, some n.abort)
      | (s', none) => (s', if s'.portBusy p then none else some 0)

/-- An effect whose refusal changes nothing (R266). -/
def orElseSame (s : State) (r : Except Nak State) : State × Option Nak :=
  match r with
  | .error n => (s, some n)
  | .ok s' => (s', none)

/-- A write access whose refusal changes nothing but the counter and the diagnostic records (R266). -/
def State.write (s : State) (p : Port) (k : Key) (data : Bytes) (route : Route) (eff : Obj → Int → Eff) :
    State × Option Nat :=
  s.writeWith p k data route fun o v s => orElseSame s (eff o v s)

/-- The data that spell a value at an address. -/
def dataAt (k : Key) (v : Int) : Bytes :=
  match findObj k with
  | some o => o.ty.bytes v
  | none => []

/-- A command of the table that a host sends as a write of one object; `eff` takes the value that the data spell. -/
def hostWrite (p : Port) (k : Key) (data : Bytes) (eff : Int → Eff) (s : State) : Host.Outcome State Fault Refusal :=
  done (s.write p k data .none fun _ v => eff v).1

/-- A command of the table that a host sends as a write of a value. -/
def hostSet (p : Port) (k : Key) (v : Int) (eff : Int → Eff) (s : State) : Host.Outcome State Fault Refusal :=
  hostWrite p k (dataAt k v) eff s

/-- A command object is started by writing 1 (R258). -/
def hostCmd (p : Port) (k : Key) (eff : Eff) (s : State) : Host.Outcome State Fault Refusal :=
  hostWrite p k [1#8] (fun _ => eff) s

/-- CFG_GEN after one more change (R270). -/
def State.cfgGen (s : State) : State := s.setReg Reg.CFG_GEN ((s.reg Reg.CFG_GEN + 1) % 2 ^ 32)

/-- An accepted RWS write: the value is in place and CFG_GEN moves on (R258, R270). -/
def State.setRws (s : State) (k : Key) (v : Int) : State := (s.setReg k v).cfgGen

/-- A configuration as it would stand with some values written over it (R268). -/
def overlay (get : Key → Int) (es : List Entry) (k : Key) : Int :=
  match es.find? fun e => e.1 == k with
  | some e => e.2
  | none => get k

end Sys2Proof.Machine
end

