-- ==== Sys2Proof/Machine/Sched.lean ====
section
/-!
DEFINITION. The maintenance scheduler's answer to a request (R317, R318), the pause of a calibration run (R128), and the
request of a probe (R68).
-/

namespace Sys2Proof.Machine

/-- A run in ACQUIRE pauses: its open window is discarded, its statistics stay (R128). -/
def State.calPause (s : State) (n : ChId) (reason : Nat) : State :=
  if s.cal[n].state = .acquire then
    s.modCal n fun c => { c with state := .paused, pause := reason, window := none, gates := false }
  else s

/-- The priority of an activity in its domain, 1 the highest (R317). -/
def prioOf : Activity → Nat
  | .probe | .beadCommit => 1
  | .cal | .store => 2
  | .test | .fwBlock => 3
  | .logCompact => 4

/-- What the scheduler does with a request (R318). -/
inductive Grant where
  | merge | run | swap | pend | refuse
  deriving DecidableEq, Repr

/-- The rules of R318 in their order. A calibration takes the PENDING place until CAL_GRANT. -/
def State.schedAsk (s : State) (d : Fin 17) (a : Activity) : Grant :=
  let x := s.sched[d]
  if (a = .probe || a = .beadCommit || a = .logCompact) && (x.running = some a || x.pending = some a) then .merge
  else if a = .cal then (if x.pending.isNone then .pend else .refuse)
  else if x.running.isNone then .run
  else if x.edge = some s.now && (x.running.any fun b => prioOf a < prioOf b) && x.pending.isNone then .swap
  else if a = .probe && (x.running = some .cal || x.running = some .test) then .run
  else if x.pending.isNone then .pend
  else .refuse

/-- A probe takes over its domain from a calibration or a loop test (R318 steps 3 and 4). -/
def State.preempt (s : State) (n : ChId) : State :=
  let d := chDomain n
  match s.sched[d].running with
  | some .cal => (s.modSched d fun x => { x with suspended := true }).calPause n 5
  | some .test => s.abortTest n 5
  | _ => s

/-- The request of a higher priority that comes at the edge of the RUNNING one takes its place (R318 step 2): a loop test
has not injected yet. -/
def State.displace (s : State) (d : Fin 17) : State :=
  if h : d.val < 16 then
    s.modCh ⟨d.val, h⟩ fun c => { c with inj := if c.inj.state = .running then { c.inj with state := .pending } else c.inj }
  else s

/-- A request handled, with the scheduler's answer. -/
def State.schedDo (s : State) (d : Fin 17) (a : Activity) : Grant × State :=
  match s.schedAsk d a with
  | .merge => (.merge, s)
  | .refuse => (.refuse, s)
  | .pend => (.pend, s.modSched d fun x => { x with pending := some a })
  | .swap =>
    (.run, ((s.displace d).modSched d fun x => { x with running := some a, pending := x.running }).startActivity d a)
  | .run =>
    let edge := if s.sched[d].running.isNone then some s.now else none
    let s := if h : d.val < 16 then s.preempt ⟨d.val, h⟩ else s
    (.run, (s.modSched d fun x => { x with running := some a, since := s.now, edge := edge }).startActivity d a)

/-- The tone's frequency does not suit the carrier (R68). -/
def State.probeFreqBad (s : State) (n : ChId) : Bool :=
  let f := s.reg (Reg.CH_PROBE_FREQ n)
  f < 100 || carrierOf s s.reg (s.excIx n) * 6 < f * 10

/-- Why a probe may not run now, if anything: the channel's state, or the tone's frequency (R68). -/
def State.probeBar (s : State) (n : ChId) : Option ProbeState :=
  if !(s.ch[n].state = .track || s.ch[n].state = .off) then some .deferredState
  else if s.probeFreqBad n then some .deferredFreq
  else none

/-- A channel's probe in a new state. -/
def State.setProbe (s : State) (n : ChId) (p : ProbeState) : State := s.modFront n fun f => { f with probe := p }

/-- A probe asked for: refused while CH_PROBE_MODE is off (R70; log entry 71), deferred, refused by the scheduler, or
granted or pending (R68). -/
def State.probeAsk (s : State) (n : ChId) : Except Nak State := do
  need (s.reg (Reg.CH_PROBE_MODE n) ≠ 0) nakCond
  match s.probeBar n with
  | some b => .ok (s.setProbe n b)
  | none =>
    match s.schedDo (chDomain n) .probe with
    | (.merge, s) => .ok s
    | (.refuse, _) => .error nakSched
    | (_, s) => .ok (s.setProbe n .pending)

/-- A probe that has been granted, or waits for its grant, may not run any more: it leaves its domain and is DEFERRED
(R68). -/
def State.probeRecheck (s : State) (n : ChId) : State :=
  match s.front[n].probe, s.probeBar n with
  | .pending, some b | .running, some b => (s.setProbe n b).schedWithdraw (chDomain n) .probe
  | _, _ => s

/-- An automatic probe: one that the scheduler does not take is offered again at its next evaluation (R318). -/
def State.probeOffer (s : State) (n : ChId) : State :=
  match s.probeAsk n with
  | .ok s => s
  | .error _ =>
    match s.front[n].probe with
    | .deferredState | .deferredFreq => s.setProbe n .idle
    | _ => s

/-- A deferred probe is offered again once its channel or its frequency permits it (R68). -/
def State.probeRetry (s : State) (n : ChId) : State :=
  match s.front[n].probe with
  | .deferredState | .deferredFreq => s.probeOffer n
  | _ => s

end Sys2Proof.Machine
end

