-- ==== Sys2Proof/Machine/Channel.lean ====
section
/-!
DEFINITION. The channel state machine (R97, R98, R106 to R112) and the commands that move it.
-/

namespace Sys2Proof.Machine

/-- What leaving TRACK takes along: the loop test, the run's window, the averages and the runs of the monitors
(R75, R88, R100, R128). -/
def State.leaveTrack (s : State) (n : ChId) : State :=
  let s := (s.abortTest n 4).calPause n 4
  let s := s.modFront n fun f => { f with betaFresh := false, betaPeriods := 0 }
  s.modWatch n fun w => { w with trackRun := 0, trkRun := 0, velRun := 0, accRun := 0 }

/-- A channel enters a state with the reason that CH_STATE_REASON reports (R98, R116). -/
def State.enterCh (s : State) (n : ChId) (new : ChState) (reason : Nat) : State :=
  let old := s.ch[n].state
  let s := s.modCh n fun c => { c with state := new, reason := reason }
  let s := if old = .track && new ≠ .track then s.leaveTrack n else s
  match new with
  | .coast =>
    ((s.bump (Reg.CH_COAST_CNT n)).modWatch n fun w => { w with perFresh := false, carPass := false }).probeRecheck n
  | .invalid =>
    ((s.bump (Reg.CH_INVALID_CNT n)).modWatch n fun w =>
      { w with perFresh := false, carPass := false, excWait := false, coastCause := false, freqChanged := false }).probeRecheck n
  | .off =>
    let s := s.modWatch n fun w => { w with excWait := false, coastCause := false, freqChanged := false }
    let s := s.modFront n fun f => { f with homePort := none, align := none }
    (s.abortRun n 2).probeRetry n
  | .track =>
    let s := s.modWatch n fun w => { w with excWait := false, coastCause := false, freqChanged := false, trackRun := 0 }
    s.probeRetry n
  | .settle =>
    (s.modWatch n fun w => { w with excWait := false, coastCause := false, freqChanged := false }).probeRecheck n

/-- A cold settle begins: it waits for exciter and sense window (R109). -/
def State.enterCold (s : State) (n : ChId) (reason : Nat) : State :=
  (s.enterCh n .settle reason).modFront n fun f =>
    { f with settle := .waiting, warm := false, settlePeriods := 0, settleClean := false }

/-- A warm settle begins: hold steps for W samples of the new frequency, on an empty window (R100, R110). -/
def State.enterWarm (s : State) (n : ChId) (reason : Nat) : State :=
  let w := senseWindow s.exc[s.excIx n].freq
  let s := (s.enterCh n .settle reason).modFront n fun f =>
    { f with settle := .holding w, warm := true, settlePeriods := 0, settleClean := false }
  s.modWatch n fun w => { w with win := [] }

/-- A channel coasts for a cause of R100: its samples count against the budget (R106). A crossing that fails in COAST takes
back a carrier period that had passed since the entry, which R107 leaves open (DESIGN CHOICE, log entry 72); in INVALID
(R108) it does not. -/
def State.coastFor (s : State) (n : ChId) (reason : Nat) : State :=
  match s.ch[n].state with
  | .track => (s.enterCh n .coast reason).modWatch n fun w => { w with coastCause := true }
  | .coast => s.modWatch n fun w => { w with coastCause := true, perFresh := false, carPass := false }
  | _ => s

/-- The exciter has a change that waits for a zero crossing (R40). -/
def Exc.changing (x : Exc) : Bool := x.pendFreq.isSome || x.pendAmpl.isSome || x.pendFold

/-- The end of an exciter's settling with a change that waits: the excitation wait (R112). -/
def State.settlingEnd (s : State) (e : ExcId) : State :=
  if s.settling e || !s.exc[e].changing || !(s.exc[e].state = .ramp || s.exc[e].state = .run) then s
  else
    s.each (s.users e) fun s n =>
      if s.ch[n].state = .track then (s.enterCh n .coast 9).modWatch n fun w => { w with excWait := true } else s

/-- A change of exciter `e` has taken effect: what its channels do (R41, R98, R112). -/
def State.excChanged (s : State) (e : ExcId) (freq : Bool) : State :=
  s.each (s.users e) fun s n =>
    let s := if freq then s.modWatch n fun w => { w with win := [] } else s
    let w := s.watch[n]
    match s.ch[n].state with
    | .track => if freq then s.enterWarm n 3 else s
    | .coast =>
      if w.excWait && !w.coastCause then (if freq then s.enterWarm n 3 else s.enterCh n .track 17)
      else s.modWatch n fun w => { w with excWait := false, freqChanged := w.freqChanged || freq }
    | _ => s

/-- The conditions of R107 that INVALID needs as well (R108). -/
def State.exitBase (s : State) (n : ChId) : Bool :=
  let w := s.watch[n]
  let e := s.excIx n
  w.hbWait = 0 && w.hbLive = 0 && !w.hbTripS && !w.hbTripC && s.exc[e].state = .run && !s.kelvin[e].lost && w.carPass

/-- The exit conditions of COAST (R107). -/
def State.exitOk (s : State) (n : ChId) : Bool :=
  s.exitBase n && !s.ch[n].mon[2] && !s.ch[n].mon[3] && !s.ch[n].mon[4]

/-- A monitor bit set live and sticky with its source (R100). -/
def State.monTrip (s : State) (n : ChId) (bit : Fin 13) (src : Option Nat) : State :=
  let s := s.modCh n fun c => { c with mon := vmod c.mon bit fun _ => true, sticky := vmod c.sticky bit fun _ => true }
  match src with
  | some o => s.raise (chSrc n o)
  | none => s

/-- A channel enters INVALID; when it settled, the settling of its exciter may end (R98, R112). -/
def State.enterInvalid (s : State) (n : ChId) (reason : Nat) : State :=
  let t := s.enterCh n .invalid reason
  if s.ch[n].state = .settle then t.settlingEnd (t.excIx n) else t

/-- CH_ENABLE becomes visible; outside the power state RUN every channel stays OFF (R98, R336). -/
def State.setEnable (s : State) (n : ChId) (v : Int) : State :=
  if v = 1 then (if s.ch[n].state = .off && s.lanesOn then s.enterCold n 1 else s)
  else if s.ch[n].state = .off then s else s.enterCh n .off 1

/-- A full write of an object that has a command of its own, visible at once (log entry 16): `check` on the
configuration as it would stand, then the effect, which sees the old value. -/
def effVisible (check : State → (Key → Int) → Key → Int → Except Nak Unit) (apply : State → Key → Int → Int → State)
    (k : Key) (v : Int) : Eff := fun s => do
  check s (overlay s.reg [(k, v)]) k v
  .ok (apply (s.setReg k v) k (s.reg k) v).cfgGen

/-- No condition of its own. -/
def noCheck (_ : State) (_ : Key → Int) (_ : Key) (_ : Int) : Except Nak Unit := .ok ()

def execChEnableWrite (p : Port) (ch : ChId) (v : Int) (s : State) : Host.Outcome State Fault Refusal :=
  hostSet p (Reg.CH_ENABLE ch) v (effVisible noCheck (fun s _ _ v => s.setEnable ch v) (Reg.CH_ENABLE ch)) s

/-- WARM_SETTLE_RESUME: after W samples of hold steps, normal steps follow (R110). -/
def execWarmSettleResume (ch : ChId) (s : State) : Host.Outcome State Fault Refusal :=
  match s.ch[ch].state, s.front[ch].settle with
  | .settle, .holding 0 => done (s.modFront ch fun f => { f with settle := .running, settlePeriods := 0, settleClean := false })
  | _, _ => done s

/-- SETTLE_COMPLETE: CH_SETTLE_N clean carrier periods in normal steps have ended (R111, R112). -/
def execSettleComplete (ch : ChId) (s : State) : Host.Outcome State Fault Refusal :=
  if s.lanesOn && s.ch[ch].state = .settle && s.front[ch].settle = .running &&
      s.regN (Reg.CH_SETTLE_N ch) ≤ s.front[ch].settlePeriods then
    done ((s.enterCh ch .track 16).settlingEnd (s.excIx ch))
  else done s

/-- CH_SETTLE_TMO: the channel has been in SETTLE for CH_SETTLE_TMO (R111). -/
def execChSettleTmo (ch : ChId) (s : State) : Host.Outcome State Fault Refusal :=
  if s.lanesOn && s.ch[ch].state = .settle then done ((s.monTrip ch 12 (some 8)).enterInvalid ch 14) else done s

/-- COAST_EXIT: the exit conditions hold (R107). A channel whose cause clears during an excitation wait of its exciter
waits for the crossing; one that met a frequency change meanwhile settles (R112). -/
def State.coastExit (s : State) (n : ChId) : State :=
  let e := s.excIx n
  let waiting := (s.users e).any fun m => s.watch[m].excWait
  if s.watch[n].freqChanged then s.enterWarm n 3
  else if waiting then s.modWatch n fun w => { w with excWait := true, coastCause := false }
  else s.enterCh n .track 17

def execCoastExit (ch : ChId) (s : State) : Host.Outcome State Fault Refusal :=
  if s.lanesOn && s.ch[ch].state = .coast && s.watch[ch].coastCause && s.exitOk ch then done (s.coastExit ch)
  else done s

/-- CH_COAST_EXPIRED: the coast budget is used up (R106). -/
def execChCoastExpired (ch : ChId) (s : State) : Host.Outcome State Fault Refusal :=
  if s.lanesOn && s.ch[ch].state = .coast && s.regN (Reg.CH_COAST_LIM ch) * 1000 ≤ s.watch[ch].coastUsed * 120 then
    done ((s.monTrip ch 11 (some 7)).enterInvalid ch 13)
  else done s

/-- AUTO_RECOVER: with CH_AUTO_RECOVER and the exit conditions, INVALID is left for a cold settle (R108). -/
def execAutoRecover (ch : ChId) (s : State) : Host.Outcome State Fault Refusal :=
  if s.lanesOn && s.ch[ch].state = .invalid && s.flag (Reg.CH_AUTO_RECOVER ch) && s.exitBase ch then
    done (s.enterCold ch 15)
  else done s

/-- CH_RECOVER (R108). -/
def effRecover (n : ChId) : Eff := fun s => do
  need (s.ch[n].state = .invalid && s.exitBase n) nakCond
  .ok (s.enterCold n 15)

def execChRecover (p : Port) (ch : ChId) (s : State) : Host.Outcome State Fault Refusal :=
  hostCmd p (Reg.CH_RECOVER ch) (effRecover ch) s

/-- The smaller of the carry counts for which the position lies within half a turn of `target` (R115). -/
def nearestTurn (angle24 target : Int) : Int :=
  -- the smallest c with c * 2^24 + angle24 ≥ target - 2^23
  -((angle24 - target + 2 ^ 23) / 2 ^ 24)

/-- CH_HOME is accepted in TRACK; the rule applies at the next sample boundary (R115). -/
def effHome (p : Port) (n : ChId) : Eff := fun s => do
  need (s.ch[n].state = .track) nakCond
  .ok (s.modFront n fun f => { f with homePort := some p })

def execChHome (p : Port) (ch : ChId) (s : State) : Host.Outcome State Fault Refusal :=
  hostCmd p (Reg.CH_HOME ch) (effHome p ch) s

/-- The carry count set by the nearest-turn rule. -/
def State.turnTo (s : State) (n : ChId) (target : Int) : State :=
  s.modCh n fun x =>
    { x with loop := { x.loop with
        carry := wrapS 16 (nearestTurn (Int.ofNat (x.loop.th.toNat / 256)) target) } }

/-- Homing at the sample boundary (R115). -/
def State.homeNow (s : State) (n : ChId) : State :=
  if s.front[n].homePort.isNone then s
  else
    let old := s.ch[n].loop.carry
    let s := s.turnTo n (s.reg (Reg.CH_HOME_TARGET n))
    let s := (s.setReg (Reg.CH_HOMED n) 1).setReg (Reg.CH_HOME_OFS n) (wrapS 16 (s.ch[n].loop.carry - old))
    s.modFront n fun f => { f with homePort := none }

/-- Alignment to the ACTIVE partner: the turn count, HOMED and HOME_OFS; gated emulators follow without catch-up
(R245). -/
def State.alignTo (s : State) (n : ChId) (target homed ofs : Int) (q : Fin 2) : State :=
  let old := s.ch[n].loop.carry
  let s := s.turnTo n target
  let s := (s.setReg (Reg.CH_HOMED n) homed).setReg (Reg.CH_HOME_OFS n) ofs
  if s.ch[n].loop.carry = old then s
  else
    (s.bump (Reg.PT_ALIGN_CNT q)).each all16 fun s m =>
      if s.flag (Reg.EMU_SEAT_GATE m) && s.reg (Reg.EMU_SRC_KIND m) = 0 && s.reg (Reg.EMU_SRC m) = Int.ofNat n.val then
        s.modEmu m fun e => { e with jump := true }
      else s

/-- An alignment that waits for this sample boundary (R245). -/
def State.alignNow (s : State) (n : ChId) : State :=
  match s.front[n].align with
  | none => s
  | some (target, homed, ofs, q) => (s.alignTo n target homed ofs q).modFront n fun f => { f with align := none }

end Sys2Proof.Machine
end

