-- ==== Sys2Proof/Machine/Loop.lean ====
section
/-!
DEFINITION. The loop arithmetic of the lane (R76 to R80), coefficient values and the bandwidth records (R78, R81, R82),
and the signal of a loop test (R86).
-/

namespace Sys2Proof.Machine

/-- Mantissa and shift of a coefficient, and its base exponent B (R78). -/
structure Coefs where
  kpQ : Int
  kpS : Int
  kiQ : Int
  kiS : Int
  klagQ : Int
  klagS : Int
  kaccQ : Int
  kaccS : Int
  deriving DecidableEq, Repr

/-- The address of a coefficient's mantissa or shift in bank A or B (R94). -/
def bankKey (b : Bool) (sub : Nat) (n : ChId) : Key :=
  (if b then Reg.CH_B_KP_Q n else Reg.CH_A_KP_Q n) + (sub - 1)

/-- The coefficients of a bank under a configuration. -/
def coefsOf (get : Key → Int) (n : ChId) (b : Bool) : Coefs :=
  { kpQ := get (bankKey b 1 n), kpS := get (bankKey b 2 n)
    kiQ := get (bankKey b 3 n), kiS := get (bankKey b 4 n)
    klagQ := get (bankKey b 5 n), klagS := get (bankKey b 6 n)
    kaccQ := get (bankKey b 7 n), kaccS := get (bankKey b 8 n) }

/-- `i_max = floor(2^15 / KI)`, within the I40 format (R76, R79). -/
def iMaxOf (q s : Int) : Int :=
  if q ≤ 0 then 2 ^ 39 - 1 else min (2 ^ 39 - 1) (2 ^ (30 + s).toNat / q)

/-- `m_v = round(V_FS × 120 ns × 2^32)` (R76). -/
def mvOf (vfs : Int) : Int := divRound (vfs * 120 * 2 ^ 32) (10 ^ 9)

/-- The phase moved by `d`; the carry or borrow moves the carry count, which wraps (R76, R114). The Bool says that it
wrapped. -/
def addPhase (l : Loop) (d : Int) : Loop × Bool :=
  let x := Int.ofNat l.th.toNat + d
  let c := l.carry + x / 2 ^ 32
  ({ l with th := BitVec.ofInt 32 x, carry := wrapS 16 c }, decide (c ≠ wrapS 16 c))

/-- The phase advance of one step (R76, R77). -/
def stepPhase (vfs v : Int) : Int := scale2 (v * mvOf vfs) (-39)

/-- The hold step (R77). -/
def holdStep (vfs : Int) (l : Loop) : Loop × Bool := addPhase l (stepPhase vfs l.v)

/-- What a normal step gives besides the loop: the live saturation bits and the wrap of the carry count. -/
structure StepOut where
  loop : Loop
  satInt : Bool
  satVel : Bool
  satOut : Bool
  wrapped : Bool

/-- The reported word of a Q39 quantity (R79). -/
def word39 (x : Int) : Int := clampI (-32767) 32767 (scale2 x (-24))

/-- The normal step (R76, R80). `velAtLimit` is the live velocity saturation of the previous sample. -/
def normalStep (k : Coefs) (vfs afs : Int) (velAtLimit : Bool) (l : Loop) (e inj : Int) : StepOut :=
  let w := sat39 (l.w + scale2 (k.klagQ * (e - l.w)) (-15 - k.klagS))
  let uRaw := scale2 w (-16)
  let u := sat15 uRaw
  let u1 := sat15 (u + inj)
  let iMax := iMaxOf k.kiQ k.kiS
  let free := !(velAtLimit && signI u1 = signI l.v)
  let i := if free then clampI (-iMax) iMax (l.i + u1) else l.i
  let di := i - l.i
  let vRaw := scale2 (k.kpQ * u1) (19 - k.kpS) + scale2 (k.kiQ * i) (9 - k.kiS)
  let v := sat39 vRaw
  let aIn := divRound (di * k.kiQ * vfs * 10 ^ 9 * 512) (120 * afs * 2 ^ k.kiS.toNat)
  let a := sat39 (l.a + scale2 (k.kaccQ * (aIn - l.a)) (-15 - k.kaccS))
  let (l', wrapped) := addPhase { l with w := w, u := u, i := i, v := v, a := a } (stepPhase vfs v)
  { loop := l', satInt := i = iMax || i = -iMax, satVel := vRaw ≠ v
    satOut := uRaw ≠ u || u + inj ≠ u1 || scale2 a (-24) ≠ word39 a, wrapped := wrapped }

/-- The swap's rescaling of the integrator (R85), and whether the clamp limited it. -/
def swapI (i : Int) (old new : Coefs) : Int × Bool :=
  let x := divRound (i * (old.kiQ * 2 ^ new.kiS.toNat)) (new.kiQ * 2 ^ old.kiS.toNat)
  let m := iMaxOf new.kiQ new.kiS
  let y := clampI (-m) m x
  (y, decide (y ≠ x))

/-! ### Recorded bandwidth and damping (R82) -/

/-- `f_rec^2` as a numerator over `bwDen`. -/
def bwNum (vfs q : Int) : Int := q * vfs * 10 ^ 9 * piDen
def bwDen (s : Int) : Int := 240 * 2 ^ (15 + s).toNat * piNum

/-- `f_rec` lies above a limit given in fifths of 1 Hz: `f_rec > x / 5`. -/
def bwAbove (vfs q s x : Int) : Bool := 25 * bwNum vfs q > x * x * bwDen s

/-- `f_rec` of a channel's bank lies above one fifth of a carrier frequency (R42, R43, R82). -/
def bankAbove (get : Key → Int) (n : ChId) (b : Bool) (f : Int) : Bool :=
  let k := coefsOf get n b
  bwAbove (get (Reg.CH_VEL_FS n)) k.kiQ k.kiS f

/-- `zeta_rec^4` compared with a bound given in 1/1000: −1 below, 0 equal, 1 above. -/
def zetaCmp (vfs : Int) (k : Coefs) (z : Int) : Int :=
  -- zeta^4 = (kp * vfs)^2 / (16 * f_rec^2)
  let kv := k.kpQ * vfs
  signI (kv * kv * bwDen k.kiS * 10 ^ 12 - z ^ 4 * 16 * bwNum vfs k.kiQ * 2 ^ (2 * (5 + k.kpS)).toNat)

/-- The limits of R82 on one bank; `fs` are the frequencies in use and pending at its exciter. -/
def bankOk (vfs : Int) (k : Coefs) (fs : List Int) : Except Nak Unit := do
  need (!(25 * bwNum vfs k.kiQ < 250 * 250 * bwDen k.kiS)) nakLow
  need (!bwAbove vfs k.kiQ k.kiS 40000) nakHigh
  need (!fs.any fun f => bwAbove vfs k.kiQ k.kiS f) nakHigh
  need (0 ≤ zetaCmp vfs k 700 && zetaCmp vfs k 1500 ≤ 0) nakRange

/-- The frequency in use and one pending at an exciter (R43, R82). -/
def State.freqsAt (s : State) (e : ExcId) : List Int :=
  s.exc[e].freq :: (match s.exc[e].pendFreq with | some f => [f] | none => [])

/-- The limits of R82 on both banks of a channel under a configuration. -/
def State.bankCheck (s : State) (get : Key → Int) (n : ChId) : Except Nak Unit := do
  let fs := s.freqsAt (excOf (get (Reg.CH_EXC_SEL n)))
  bankOk (get (Reg.CH_VEL_FS n)) (coefsOf get n false) fs
  bankOk (get (Reg.CH_VEL_FS n)) (coefsOf get n true) fs

/-- The integer nearest to half of a root whose rounded-down value is `r`. -/
def halfNearest (r : Nat) : Int := Int.ofNat ((r + 1) / 2)

/-- CH_x_BW_REC: 100 f_rec rounded once to nearest, as half of the root of 4 · 10^4 · f_rec² (R94). -/
def bwRec (vfs : Int) (k : Coefs) : Int :=
  halfNearest (isqrt (4 * 10 ^ 4 * bwNum vfs k.kiQ / bwDen k.kiS).toNat)

/-- CH_x_ZETA_REC: 1000 ζ_rec rounded once to nearest, as half of the fourth root of 16 · 10^12 · ζ^4 (R94). A quotient by
zero is a free value (log entry 9). -/
def zetaRec (vfs : Int) (k : Coefs) : Int :=
  let n := k.kpQ * vfs
  let num := 16 * n * n * bwDen k.kiS * 10 ^ 12
  let den := 16 * bwNum vfs k.kiQ * 2 ^ (2 * (5 + k.kpS)).toNat
  clampI 0 65535 (if den = 0 then Config.emptyQuotient 94 num else halfNearest (isqrt (isqrt (num / den).toNat)))

/-! ### The design command (R81) -/

/-- The largest shift for which the mantissa of a value `n / d` fits, and the mantissa. -/
def fitCoef (b n d : Int) : Nat → Int × Int
  | 0 => (min 32767 (scaledRound 0), 0)
  | s + 1 => if scaledRound (s + 1) ≤ 32767 then (scaledRound (s + 1), Int.ofNat (s + 1)) else fitCoef b n d s
where
  scaledRound (s : Nat) : Int := divRound (n * 2 ^ (15 + s)) (d * 2 ^ b.toNat)

/-- `1 - exp(-2π f x T)` for `f * x` given as a fraction, at scale `coefOne`. -/
def expCoef (n d : Int) : Int := oneMinusExp (2 * piNum * n * 120 * coefOne / (piDen * d * 10 ^ 9))

/-- The eight values of a bank from its bandwidth in Hz, damping in 1/1000 and V_FS. -/
def designOf (f z vfs : Int) : List Int :=
  let (kpQ, kpS) := fitCoef 10 (f * 4 * z * z) (10 ^ 6 * vfs) 15
  let (kiQ, kiS) := fitCoef 0 (2 * piNum * f * f * 120) (10 ^ 9 * vfs * piDen) 15
  let (laQ, laS) := fitCoef 0 (expCoef (f * 4 * z * z) (10 ^ 6)) coefOne 15
  let (acQ, acS) := fitCoef 0 (expCoef f 1) coefOne 15
  [kpQ, kpS, kiQ, kiS, laQ, laS, acQ, acS]

/-- The active bank of a channel that is not OFF (R83). -/
def State.bankBusy (s : State) (n : ChId) (b : Bool) : Bool := s.ch[n].bankB = b && s.ch[n].state ≠ .off

/-- The entries of a bank: its eight objects with new values. -/
def bankEntries (n : ChId) (b : Bool) (vs : List Int) : List Entry :=
  vs.zipIdx.map fun (v, i) => (bankKey b (i + 1) n, v)

/-- CH_A_DESIGN and CH_B_DESIGN (R81). -/
def effDesign (n : ChId) (b : Bool) : Eff := fun s => do
  let f := s.reg (if b then Reg.CH_B_BW_SET n else Reg.CH_A_BW_SET n)
  let z := s.reg (if b then Reg.CH_B_ZETA_SET n else Reg.CH_A_ZETA_SET n)
  need (50 ≤ f && f ≤ 8000) nakRange
  need (700 ≤ z && z ≤ 1500) nakRange
  need (!s.bankBusy n b) nakCond
  let es := bankEntries n b (designOf f z (s.reg (Reg.CH_VEL_FS n)))
  s.bankCheck (overlay s.reg es) n
  .ok (es.foldl (fun s e => s.setReg e.1 e.2) s)

def execChDesign (p : Port) (ch : ChId) (bankB : Bool) (s : State) : Host.Outcome State Fault Refusal :=
  hostCmd p (if bankB then Reg.CH_B_DESIGN ch else Reg.CH_A_DESIGN ch) (effDesign ch bankB) s

/-- The conditions of a bank change on one object of channel `n` (R82, R83). `bank` names the bank of a coefficient. -/
def checkBank (n : ChId) (bank : Option Bool) (s : State) (get : Key → Int) (_ : Key) (_ : Int) : Except Nak Unit := do
  match bank with
  | some b => need (!s.bankBusy n b) nakCond
  | none => need (s.ch[n].state = .off) nakCond
  s.bankCheck get n

/-- CH_ACC_FS is writable in OFF only (R83). -/
def checkAccFs (n : ChId) (s : State) (_ : Key → Int) (_ : Key) (_ : Int) : Except Nak Unit :=
  need (s.ch[n].state = .off) nakCond

/-- The address of a bank object. -/
def bankObjKey (o : BankObj) (n : ChId) : Key :=
  match o with
  | .mant b c => bankKey b (2 * c.ctorIdx + 1) n
  | .shift b c => bankKey b (2 * c.ctorIdx + 2) n
  | .velFs => Reg.CH_VEL_FS n
  | .accFs => Reg.CH_ACC_FS n

/-- The conditions of a bank object. -/
def bankObjCheck (o : BankObj) (n : ChId) : State → (Key → Int) → Key → Int → Except Nak Unit :=
  match o with
  | .mant b _ | .shift b _ => checkBank n (some b)
  | .velFs => checkBank n none
  | .accFs => checkAccFs n

def execBankCoeffWrite (p : Port) (ch : ChId) (o : BankObj) (v : Int) (s : State) : Host.Outcome State Fault Refusal :=
  hostSet p (bankObjKey o ch) v (effVisible (bankObjCheck o ch) (fun s _ _ _ => s) (bankObjKey o ch)) s

/-! ### Swaps (R84, R85) -/

/-- No swap of the channel is pending. -/
def State.noSwap (s : State) (n : ChId) : Except Nak Unit := need (s.ch[n].swap = .none) nakCond

/-- The inactive bank's number. -/
def State.otherBank (s : State) (n : ChId) : Int := if s.ch[n].bankB then 0 else 1

def effBankSwap (p : Port) (n : ChId) : Eff := fun s => do
  s.noSwap n
  .ok (s.modCh n fun c => { c with swap := .sample p })

def execChBankSwap (p : Port) (ch : ChId) (s : State) : Host.Outcome State Fault Refusal :=
  hostCmd p (Reg.CH_BANK_SWAP ch) (effBankSwap p ch) s

/-- CH_BANK_SEL with the inactive bank's number asks for a swap, which none may precede. -/
def checkBankSel (n : ChId) (s : State) (_ : Key → Int) (_ : Key) (v : Int) : Except Nak Unit :=
  if v = s.otherBank n then s.noSwap n else .ok ()

/-- CH_BANK_SEL visible: the swap is due; the active bank's number has no effect (R84). The port is the one that sent
the group. -/
def applyBankSel (p : Port) (n : ChId) (s : State) (_ : Key) (old v : Int) : State :=
  if v = s.otherBank n then s.modCh n fun c => { c with swap := .fence p } else s.setReg (Reg.CH_BANK_SEL n) old

def execChBankSelWrite (p : Port) (ch : ChId) (v : Int) (s : State) : Host.Outcome State Fault Refusal :=
  hostSet p (Reg.CH_BANK_SEL ch) v (effVisible (checkBankSel ch) (applyBankSel p ch) (Reg.CH_BANK_SEL ch)) s

/-- CH_BANK_SWAP_AT arms a timed swap (R84). -/
def effBankSwapAt (n : ChId) (v : Int) : Eff := fun s => do
  s.noSwap n
  .ok ((s.setReg (Reg.CH_BANK_SWAP_AT n) v).modCh n fun c => { c with swap := .time (t32 v) false })

def execChBankSwapAt (p : Port) (ch : ChId) (t : Time32) (s : State) : Host.Outcome State Fault Refusal :=
  hostSet p (Reg.CH_BANK_SWAP_AT ch) (Int.ofNat t.toNat) (effBankSwapAt ch) s

def effBankSwapCancel (n : ChId) : Eff := fun s =>
  match s.ch[n].swap with
  | .time _ _ => .ok (s.modCh n fun c => { c with swap := .none })
  | _ => .error nakCond

def execChBankSwapCancel (p : Port) (ch : ChId) (s : State) : Host.Outcome State Fault Refusal :=
  hostCmd p (Reg.CH_BANK_SWAP_CANCEL ch) (effBankSwapCancel ch) s

/-- TIMED_SWAP_DUE: a sample's t0 has reached the instant of a timed swap (R84). -/
def execTimedSwapDue (ch : ChId) (s : State) : Host.Outcome State Fault Refusal :=
  match s.ch[ch].swap with
  | .time t false =>
    if s.lanesOn && reached (s.t0 ch) t then done (s.modCh ch fun c => { c with swap := .time t true }) else done s
  | _ => done s

/-- A due swap. -/
def Swap.due : Swap → Bool
  | .sample _ | .fence _ => true
  | .time _ d => d
  | .none => false

/-- The swap at a sample boundary (R84, R85). -/
def State.swapNow (s : State) (n : ChId) : State :=
  let c := s.ch[n]
  let b := !c.bankB
  let s := s.modCh n fun c => { c with bankB := b, swap := .none }
  let s := ((s.setReg (Reg.CH_BANK_SEL n) (b2i b)).setReg (Reg.CH_BANK_ACTIVE n) (b2i b)).bump (Reg.CH_SWAP_COUNT n)
  if c.state = .off then s
  else
    let (i, lim) := swapI c.loop.i (coefsOf s.reg n c.bankB) (coefsOf s.reg n b)
    let inSat := c.satInt || c.satVel
    let s := s.modCh n fun x => { x with loop := { x.loop with i := i }, satInt := lim, swapInSat := x.swapInSat || inSat }
    if inSat then s.raise (chSrc n 13) else s

def execBankSwapApply (ch : ChId) (s : State) : Host.Outcome State Fault Refusal :=
  if s.lanesOn && s.ch[ch].swap.due then done (s.swapNow ch) else done s

/-! ### Loop tests (R86 to R88) -/

/-- Fixed-point scale of logarithm and exponential of a sweep. -/
def sweepOne : Int := 2 ^ 90

/-- The series of `atanh`: `n` further odd powers of `y` after `term`, of order `k`. -/
def atanhSeries : Nat → Int → Int → Int → Int → Int
  | 0, _, _, _, acc => acc
  | n + 1, y2, k, term, acc =>
    let t := term * y2 / sweepOne
    atanhSeries n y2 (k + 2) t (acc + t / (k + 2))

/-- `ln(a / b)` for `a / b` in [1/2, 2], at scale `sweepOne`. -/
def lnSmall (a b : Int) : Int :=
  let y := (a - b) * sweepOne / (a + b)
  2 * atanhSeries 40 (y * y / sweepOne) 1 y y

/-- `ln(a / b)` for positive `a`, `b`. -/
def lnRatio (a b : Int) : Int :=
  let ka := Int.ofNat a.toNat.log2
  let kb := Int.ofNat b.toNat.log2
  lnSmall (a * 2 ^ kb.toNat) (b * 2 ^ ka.toNat) + (ka - kb) * lnSmall 2 1

/-- The exponential series at scale `sweepOne`. -/
def expSum : Nat → Int → Int → Int → Int → Int
  | 0, _, _, _, acc => acc
  | n + 1, x, k, term, acc =>
    let t := term * x / (sweepOne * k)
    expSum n x (k + 1) t (acc + t)

/-- `k` squarings. -/
def squareTimes : Nat → Int → Int
  | 0, x => x
  | k + 1, x => squareTimes k (x * x / sweepOne)

/-- `exp x`: the series of x / 32, squared five times. -/
def expFixed (x : Int) : Int := squareTimes 5 (expSum 24 (x / 32) 1 sweepOne sweepOne)

/-- The phase of a sweep at its `k`-th sample: the integral of f(t) (R86). -/
def sweepPhase (f1 f2 : Nat) (durMs k : Nat) : BitVec 32 :=
  let t : Int := Int.ofNat k * 120  -- ns
  if f1 = f2 then BitVec.ofInt 32 (Int.ofNat f1 * t * 2 ^ 32 / 10 ^ 9)
  else
    let dNs : Int := Int.ofNat durMs * 10 ^ 6
    let r := lnRatio (Int.ofNat f2) (Int.ofNat f1)
    -- f1 * D / ln(f2/f1) * (exp(ln(f2/f1) * t / D) - 1)
    BitVec.ofInt 32 (Int.ofNat f1 * dNs * (expFixed (r * t / dNs) - sweepOne) * 2 ^ 32 / (r * 10 ^ 9))

/-- One step of the PRBS-15 generator x^15 + x^14 + 1 (R86). -/
def prbsStep (x : BitVec 15) : BitVec 15 :=
  (x <<< (1 : Nat)) ||| (if x.getLsbD 14 ^^ x.getLsbD 13 then 1#15 else 0#15)

/-- The signal of the present sample of a running test (R86); the generator's oldest bit gives the sign (log entry 17). -/
def Inject.value (j : Inject) : Int :=
  if j.state ≠ .running then 0
  else match j.kind with
    | 1 => j.ampl
    | 2 => divRound (j.ampl * sinExact (sweepPhase j.f1 j.f2 j.durMs j.n)) trigOne
    | 3 => if j.prbs.getLsbD 14 then j.ampl else -j.ampl
    | _ => 0

/-- A running test after one injected sample. -/
def Inject.next (j : Inject) : Inject :=
  if j.state ≠ .running then j
  else { j with n := j.n + 1, prbs := if (j.n + 1) % j.len = 0 then prbsStep j.prbs else j.prbs }

/-- The parameters of a test as visible at its start (R86). -/
def State.injParams (s : State) (n : ChId) : Inject :=
  { kind := s.regN (Reg.CH_INJ_KIND n), ampl := s.reg (Reg.CH_INJ_AMPL n), f1 := s.regN (Reg.CH_INJ_F1 n)
    f2 := s.regN (Reg.CH_INJ_F2 n), durMs := s.regN (Reg.CH_INJ_DURATION n), len := s.regN (Reg.CH_INJ_PRBS_LEN n) }

/-- A granted test runs: its first injected sample is the next one (R87, R317). -/
def State.beginTest (s : State) (n : ChId) : State :=
  s.modCh n fun c => { c with inj := { s.injParams n with state := .running } }

/-- CH_INJ_START (R87). Behind a running test the request is held PENDING and the running test goes on (R318 step 1). A
start with CH_INJ_KIND 0 (none) is accepted and injects 0, which no rule states (DESIGN CHOICE, log entry 73). -/
def effInjStart (n : ChId) : Eff := fun s => do
  need (s.testAllowed n) nakCond
  match s.schedDo (chDomain n) .test with
  | (.refuse, _) => .error nakSched
  | (.pend, t) =>
    if s.ch[n].inj.state = .running then .ok t
    else .ok (t.modCh n fun c => { c with inj := { c.inj with state := .pending } })
  | (_, t) => .ok (t.beginTest n)

def execChInjStart (p : Port) (ch : ChId) (s : State) : Host.Outcome State Fault Refusal :=
  hostCmd p (Reg.CH_INJ_START ch) (effInjStart ch) s

/-- INJ_TEST_BEGIN: the grant of a PENDING test in an idle domain; it starts when the conditions of R87 still hold, and
ends ABORTED otherwise. -/
def execInjTestBegin (ch : ChId) (s : State) : Host.Outcome State Fault Refusal :=
  let d := chDomain ch
  if s.lanesOn && s.ch[ch].inj.state = .pending && s.sched[d].running.isNone && s.sched[d].pending = some .test then
    if s.testAllowed ch then
      done ((s.modSched d fun x => { x with running := some .test, pending := none, since := s.now, edge := none }).beginTest ch)
    else done (s.abortTest ch (s.testReason ch))
  else done s

/-- CH_INJ_STOP ends the test (R88). -/
def effInjStop (n : ChId) : Eff := fun s => .ok (s.abortTest n 1)

def execChInjStop (p : Port) (ch : ChId) (s : State) : Host.Outcome State Fault Refusal :=
  hostCmd p (Reg.CH_INJ_STOP ch) (effInjStop ch) s

/-- INJ_DURATION_END: the duration has elapsed; the test ends DONE at the next sample boundary (R88). -/
def execInjDurationEnd (ch : ChId) (s : State) : Host.Outcome State Fault Refusal :=
  if s.lanesOn && s.ch[ch].inj.state = .running && s.ch[ch].inj.stopping.isNone then
    done (s.modCh ch fun c => { c with inj := { c.inj with stopping := some (false, 0) } })
  else done s

/-- A test that R87 no longer permits, or that a coming claim forbids, is to end (R87, R88). -/
def State.testCheck (s : State) (n : ChId) : State := if s.testGoesOn n then s else s.abortTest n (s.testReason n)

/-- A test that is to end ends at the sample boundary, and its domain goes on (R88, R318). A further test that is
PENDING behind it stays so, unless a stop or a condition of R87 has ended both. -/
def State.injBoundary (s : State) (n : ChId) : State :=
  let s := s.testCheck n
  match s.ch[n].inj.stopping with
  | none => s
  | some (aborted, reason) =>
    let d := chDomain n
    let next : Bool := s.sched[d].pending = some .test && (!aborted || reason = 5)
    let s := s.modCh n fun c =>
      { c with inj := { c.inj with
          state := if next then .pending else if aborted then .aborted else .done, stopping := none } }
    let s := if aborted then s.setReg (Reg.CH_INJ_ABORT n) (Int.ofNat reason) else s
    if next then (if s.sched[d].running = some .test then s.schedEnd d else s) else s.schedWithdraw d .test

/-- The parameters of a test that runs are not writable (R86). -/
def checkInj (n : ChId) (s : State) (_ : Key → Int) (_ : Key) (_ : Int) : Except Nak Unit :=
  need (s.ch[n].inj.state ≠ .running) nakCond

end Sys2Proof.Machine
end

