-- ==== Sys2Proof/Machine/Excite.lean ====
section
/-!
DEFINITION. Exciters and the Kelvin sense (R30 to R46, R112), and the carrier presence monitor with its checkpoints
(R100, R104, R105).
-/

namespace Sys2Proof.Machine

/-! ### Fold-back -/

/-- The programmed peak exceeds VEXC − 2.8 V (R32); amplitudes in mV rms. -/
def foldOn (ampl v : Int) : Bool := v ≤ 2800 || (v - 2800) * (v - 2800) < 2 * ampl * ampl

/-- VEXC − 2.8 V exceeds the programmed peak by at least 200 mV (R32). -/
def foldOff (ampl v : Int) : Bool := 3000 ≤ v && 2 * ampl * ampl ≤ (v - 3000) * (v - 3000)

/-- The full amplitude to apply, in µV rms: the programmed one, or under fold-back the smaller of it and
(VEXC − 2.8 V)/√2 (R32). -/
def Exc.target (x : Exc) : Int :=
  if x.fold then min (x.ampl * 1000) (Int.ofNat (isqrt ((max 0 (x.vexc - 2800) * 1000).toNat ^ 2 / 2))) else x.ampl * 1000

/-- The exciter drives its balls. -/
def Exc.driving (x : Exc) : Bool := x.state = .ramp || x.state = .run

/-- FTW of a frequency (R30). -/
def ftwOf (f : Int) : BitVec 32 := BitVec.ofInt 32 (divRound (f * 2 ^ 32) 500000000)

/-- The accumulator at the LCLK edge of a sample instant: the one of the SCLK edge, or one LCLK period later (R17, R73). -/
def State.phiAt (s : State) (e : ExcId) (late : Bool) : BitVec 32 :=
  let x := s.exc[e]
  if late && x.driving then x.acc + x.ftw else x.acc

/-- What an exciter's balls EXCe± present (R37, R39, R208, R351, R355). -/
inductive ExcOut where
  /-- High-impedance with the output clamp engaged. -/
  | clamped
  /-- Zero differential at the clamp level. -/
  | zero
  /-- A differential sine of an amplitude in µV rms at a phase. -/
  | sine (uv : Int) (phase : BitVec 32)
  deriving DecidableEq, Repr

/-- EXCe±: clamped without supplies, in reset, OFF, and while VEXC or VANA holds the stage off; a shutdown or a hold by the
Mitten gives a booster zero differential (R37, R208). -/
def State.excOut (s : State) (e : ExcId) : ExcOut :=
  let x := s.exc[e]
  if !s.alive || s.sup.vexcHold || s.sup.vanaHold then .clamped
  else match x.state with
    | .off => .clamped
    | .shutdown | .held => if x.mode = 2 then .zero else .clamped
    | .ramp | .run => .sine x.applied x.acc

/-- Fold-back decided anew (R32); its amplitude step waits for a zero crossing. -/
def State.foldEval (s : State) (e : ExcId) : State :=
  let x := s.exc[e]
  if !(x.driving && x.mode = 1) then s
  else if !x.fold && foldOn x.ampl x.vexc then
    (s.modExc e fun x => { x with fold := true, pendFold := true }).raise (excSrc e 1)
  else if x.fold && foldOff x.ampl x.vexc then
    (s.modExc e fun x => { x with fold := false, pendFold := true }).gone (excSrc e 1)
  else if x.fold then s.modExc e fun x => { x with pendFold := true }
  else s

/-! ### Starting and stopping -/

/-- EXC_ENABLE and EXC_MODE ask for a running exciter that the Mitten does not hold (R39). -/
def State.excWanted (s : State) (e : ExcId) : Bool :=
  s.flag (Reg.EXC_ENABLE e) && (s.reg (Reg.EXC_MODE e) = 1 || s.reg (Reg.EXC_MODE e) = 2) &&
  !(s.floor.deviceSafe && s.reg (mitExc e) = 1) && s.lanesOn && s.sup.booted

/-- A start from OFF: the accumulator at 0, the pending values in use (R39, R40). -/
def State.excStart (s : State) (e : ExcId) : State :=
  let f := s.reg (Reg.EXC_FREQ e)
  let changed := s.exc[e].freq ≠ f
  let s := s.modExc e fun x =>
    { x with
      state := .ramp, mode := s.reg (Reg.EXC_MODE e), freq := f, ftw := ftwOf f
      ampl := s.reg (Reg.EXC_AMPL e), pendFreq := none, pendAmpl := none, acc := 0, step := 0, rising := true
      restart := false, applied := 0 }
  let s := s.modKelvin e fun k =>
    { k with n := 0, whole := false, outRun := 0, lostRun := 0, okRun := 0, anyIn := false, anyAbove := false, anyOut := false }
  let s := (s.foldEval e).modExc e fun x => { x with pendFold := false, full := x.target }
  s.excChanged e changed

/-- An exciter that is OFF takes its visible frequency and amplitude in use at the start from a loaded configuration
(R40, R71). -/
def State.excLoad (s : State) (e : ExcId) : State :=
  if s.exc[e].state = .off then
    let f := s.reg (Reg.EXC_FREQ e)
    s.modExc e fun x =>
      { x with freq := f, ftw := ftwOf f, ampl := s.reg (Reg.EXC_AMPL e), pendFreq := none, pendAmpl := none }
  else s

/-- What an exciter does after its enable or mode has become visible, or at the end of its falling ramp (R39). -/
def State.excSync (s : State) (e : ExcId) : State :=
  let x := s.exc[e]
  let want := s.excWanted e
  match x.state with
  | .off => if want then s.excStart e else s
  | .ramp => s.modExc e fun x => { x with rising := want && !x.restart }
  | .run => if want && !x.restart then s else s.modExc e fun x => { x with state := .ramp, step := 16, rising := false }
  | .shutdown | .held => s

def execExcEnableWrite (p : Port) (e : ExcId) (v : Int) (s : State) : Host.Outcome State Fault Refusal :=
  hostSet p (Reg.EXC_ENABLE e) v (effVisible noCheck (fun s _ _ _ => s.excSync e) (Reg.EXC_ENABLE e)) s

/-- The amplitude range of a mode (R35). -/
def amplRange (mode : Int) : Int × Int := if mode = 1 then (500, 8000) else if mode = 2 then (100, 1414) else (100, 8000)

/-- A mode that leaves the visible amplitude outside its range is refused (R35). -/
def checkExcMode (e : ExcId) (_ : State) (get : Key → Int) (_ : Key) (v : Int) : Except Nak Unit :=
  let (lo, hi) := amplRange v
  need (lo ≤ get (Reg.EXC_AMPL e) && get (Reg.EXC_AMPL e) ≤ hi) nakRange

/-- A change of mode stops a driving exciter in the old mode first (R39). -/
def applyExcMode (e : ExcId) (s : State) (_ : Key) (old v : Int) : State :=
  let s := if s.exc[e].driving && old ≠ v then s.modExc e fun x => { x with restart := true } else s
  s.excSync e

def execExcModeWrite (p : Port) (e : ExcId) (v : Int) (s : State) : Host.Outcome State Fault Refusal :=
  hostSet p (Reg.EXC_MODE e) v (effVisible (checkExcMode e) (applyExcMode e) (Reg.EXC_MODE e)) s

/-- Another carrier: a probe whose tone no longer suits it is DEFERRED, and one that waits for a suitable carrier is
offered again (R68). -/
def State.excProbes (s : State) (e : ExcId) : State := s.each (s.users e) fun s n => (s.probeRecheck n).probeRetry n

/-- A frequency below five times a recorded bandwidth of a channel on the exciter is refused (R42). -/
def checkExcFreq (e : ExcId) (_ : State) (get : Key → Int) (_ : Key) (v : Int) : Except Nak Unit :=
  need (!all16.any fun n => excOf (get (Reg.CH_EXC_SEL n)) = e && (bankAbove get n false v || bankAbove get n true v)) nakLow

/-- The value that waits for a crossing: the latest one written; the value in use waits only where it replaces one that
waited, or a driving exciter's channels would wait for a change that never comes (R40, R112). -/
def pendOf (x : Exc) (old : Option Int) (inUse v : Int) : Option Int :=
  if v = inUse && !(x.driving && old.isSome) then none else some v

/-- A visible frequency waits for a zero crossing (R40). -/
def applyExcFreq (e : ExcId) (s : State) (_ : Key) (_ v : Int) : State :=
  (s.modExc e fun x => { x with pendFreq := pendOf x x.pendFreq x.freq v }).excProbes e

def execExcFreqWrite (p : Port) (e : ExcId) (v : Int) (s : State) : Host.Outcome State Fault Refusal :=
  hostSet p (Reg.EXC_FREQ e) v (effVisible (checkExcFreq e) (applyExcFreq e) (Reg.EXC_FREQ e)) s

/-- A visible amplitude waits for a zero crossing (R40); its range is that of step 6 of R261 (R35). -/
def applyExcAmpl (e : ExcId) (s : State) (_ : Key) (_ v : Int) : State :=
  s.modExc e fun x => { x with pendAmpl := pendOf x x.pendAmpl x.ampl v }

def execExcAmplWrite (p : Port) (e : ExcId) (v : Int) (s : State) : Host.Outcome State Fault Refusal :=
  hostSet p (Reg.EXC_AMPL e) v (effVisible noCheck (applyExcAmpl e) (Reg.EXC_AMPL e)) s

/-- FOLDBACK_CHANGE: the stage sees another VEXC, and fold-back is decided anew (R32). -/
def execFoldbackChange (e : ExcId) (vexcMv : Nat) (s : State) : Host.Outcome State Fault Refusal :=
  if s.alive then done ((s.modExc e fun x => { x with vexc := Int.ofNat vexcMv }).foldEval e) else done s

/-- EXC_OC_SHUTDOWN: the current limit has engaged in three half-periods (R37); BOOSTER mode knows the same shutdown, with
zero differential at the balls (`State.excOut`). The condition is over with the drive. -/
def execExcOcShutdown (e : ExcId) (s : State) : Host.Outcome State Fault Refusal :=
  if s.floorOn && s.exc[e].driving then
    let s := s.foldClear e
    let s := s.modExc e fun x => { x with state := .shutdown, restart := false }
    done ((s.bump (Reg.EXC_OC_COUNT e)).pulse (excSrc e 0))
  else done s

/-- EXC_RESTART leaves SHUTDOWN once EXC_OC is cleared (R38). -/
def effExcRestart (e : ExcId) : Eff := fun s => do
  need (s.exc[e].state = .shutdown && (s.src (excSrc e 0)).state = .idle) nakCond
  let hold := s.floor.deviceSafe && s.reg (mitExc e) = 1
  .ok ((s.modExc e fun x => { x with state := if hold then .held else .off }).excSync e)

def execExcRestart (p : Port) (e : ExcId) (s : State) : Host.Outcome State Fault Refusal :=
  hostCmd p (Reg.EXC_RESTART e) (effExcRestart e) s

/-! ### Routing (R43) -/

/-- The recorded bandwidths fit the new exciter's frequency in use and pending one (R43). -/
def checkExcSel (n : ChId) (s : State) (get : Key → Int) (_ : Key) (v : Int) : Except Nak Unit := do
  need (!(s.freqsAt (excOf v)).any fun f => bankAbove get n false f || bankAbove get n true f) nakHigh
  need (s.cal[n].state = .idle) nakCond

/-- A channel whose exciter changes settles cold (R43, R98). The carrier period under way belongs to the old exciter, and
no period is judged before the new one has been seen whole (R100). -/
def applyExcSel (n : ChId) (s : State) (_ : Key) (old v : Int) : State :=
  if old = v then s
  else
    let s := s.modWatch n fun w => { w with perWhole := false, perFresh := false, actS := 0, actC := 0 }
    if s.ch[n].state ≠ .off then s.enterCold n 2 else s

def execChExcSelWrite (p : Port) (ch : ChId) (v : Int) (s : State) : Host.Outcome State Fault Refusal :=
  hostSet p (Reg.CH_EXC_SEL ch) v (effVisible (checkExcSel ch) (applyExcSel ch) (Reg.CH_EXC_SEL ch)) s

/-! ### The sense estimate (R44, R45) -/

/-- The Hann weight of the k-th of W samples, scale 2^32 (log entry 11). -/
def hann (w k : Nat) : Int := trigOne - cosExact (BitVec.ofNat 32 ((2 * k + 1) * 2 ^ 31 / w))

/-- The sums of R45 over a window: weight, in-phase and quadrature. -/
def senseSums (w : Nat) (win : List Sense) : Int × Int × Int :=
  let ks := (List.range w).map (hann w)
  let sw := ks.foldl (· + ·) 0
  (win.zip ks).foldl (fun (a : Int × Int × Int) (x, h) =>
    (a.1, a.2.1 + h * x.x * cosExact x.phi, a.2.2 + h * x.x * sinExact x.phi)) (sw, 0, 0)

/-- `e_hat` in nV and `psi_hat` (R45). -/
def senseOf (w : Nat) (win : List Sense) : Int × BitVec 32 :=
  let (sw, i, q) := senseSums w win
  (divRound (2 * Int.ofNat (sqrtRound (i * i + q * q).toNat)) (sw * trigOne), atan2Phase i q)

/-- The expected sense amplitude in nV peak (R44). -/
def State.senseExpected (s : State) (e : ExcId) : Int :=
  let x := s.exc[e]
  let peak := Int.ofNat (sqrtRound (2 * (x.applied * 1000) * (x.applied * 1000)).toNat)
  if x.mode = 2 then peak * s.reg (Reg.EXC_BOOST_GAIN e) / 256 else peak

/-- The carrier-lost indication of an exciter as its channels see it (R44, R100, R105). -/
def State.showLost (s : State) (e : ExcId) : State :=
  let lost := s.kelvin[e].lost
  s.each (s.users e) fun s n =>
    if s.ch[n].state = .off then s
    else if lost then
      (((s.monTrip n 7 none).coastFor n 8).modFront n fun f => { f with settleClean := false, settlePeriods := 0 })
    else s.modCh n fun c => { c with mon := vmod c.mon 7 fun _ => false }

/-- The monitors of R44 at the end of a carrier period. The rule says when EXC_SENSE_AMPL raises and not when its condition
ends: here at the first carrier period that has an estimate inside the window (DESIGN CHOICE, log entry 74). -/
def State.sensePeriod (s : State) (e : ExcId) : State :=
  let k := s.kelvin[e]
  let outRun := if k.anyIn then 0 else k.outRun + 1
  let lostRun := if k.anyAbove then 0 else k.lostRun + 1
  let okRun := if k.anyOut then 0 else k.okRun + 1
  let lost := if k.lost then decide (okRun < 4) else decide (2 ≤ lostRun)
  let s := s.modKelvin e fun k => { k with outRun := outRun, lostRun := lostRun, okRun := okRun, lost := lost }
  let s := (s.level (excSrc e 2) (4 ≤ outRun)).level (excSrc e 3) lost
  if lost = k.lost then s
  else
    let s := if lost then s.modKelvin e fun k => { k with ehat := k.okE, psi := k.okPsi, okRun := 0 } else s
    s.showLost e

/-- One sense sample (R45). While VANA is low the converter is held off and its last code stands (R351, R353). -/
def State.senseSample (s : State) (e : ExcId) (x : BitVec 16) : State :=
  let c := s.exc[e]
  let w := senseWindow c.freq
  let fs : Int := if s.reg (Reg.EXC_SENSE_RANGE e) = 0 then 12000000000 else 30000000000
  let k := s.kelvin[e]
  let held := match k.win with | [] => 0 | y :: _ => y.x
  -- the sense converters acquire in slot 0 (R18)
  let phi := s.phiAt e (lateSlot 0)
  let new : Sense := { x := if s.sup.vanaHold then held else divRound (x.toInt * fs) 32768, phi := phi }
  let wrap := match k.win with | [] => false | y :: _ => phi.toNat < y.phi.toNat
  let win := (new :: k.win).take w
  let (eh, psi) := senseOf w win
  let s := s.modKelvin e fun k => { k with win := win, n := k.n + 1 }
  let s := if wrap && k.whole then s.sensePeriod e else s
  let s := if wrap then s.modKelvin e fun k => { k with whole := true, anyIn := false, anyAbove := false, anyOut := false } else s
  let ex := s.senseExpected e
  let inside : Bool := Int.ofNat (eh - ex).natAbs * 65536 ≤ ex * s.reg (Reg.EXC_SENSE_WIN e)
  let above : Bool := ex ≤ eh * 10
  let s := s.modKelvin e fun k =>
    { k with
      anyIn := k.anyIn || inside, anyAbove := k.anyAbove || above, anyOut := k.anyOut || !inside
      okE := if above then eh else k.okE, okPsi := if above then psi else k.okPsi
      ehat := if k.lost then k.ehat else eh, psi := if k.lost then k.psi else psi }
  (s.setReg (Reg.EXC_SENSE_AMPL e) (clampI 0 (2 ^ 32 - 1) (divRound eh 1000))).setReg (Reg.EXC_SENSE_PHASE e)
    (Int.ofNat (psi.toNat / 256))

def execSenseEstimate (e : ExcId) (x : BitVec 16) (s : State) : Host.Outcome State Fault Refusal :=
  if s.lanesOn then done (s.senseSample e x) else done s

/-! ### The carrier presence monitor (R100, R104, R105) -/

/-- One more crossing at 00000000h since a checkpoint. -/
def Checkpoint.cross (c : Checkpoint) : Checkpoint := { c with crossings := c.crossings + 1 }

/-- The checkpoint taken two crossings earlier. -/
def Watch.twoBack (w : Watch) : Option Checkpoint :=
  [w.check1, w.check2].findSome? fun c => c.filter fun c => c.crossings = 2

/-- The rollback: the checkpoint advanced by its samples as hold steps (R105, R114). -/
def State.rollback (s : State) (n : ChId) : State :=
  match s.watch[n].twoBack with
  | none => s
  | some c =>
    let d := stepPhase (s.reg (Reg.CH_VEL_FS n)) c.loop.v
    let (l, wrapped) := addPhase c.loop (d * Int.ofNat c.samples)
    let s := s.modCh n fun x => { x with loop := { l with u := x.loop.u } }
    if wrapped then (s.setReg (Reg.CH_CARRY_WRAP n) 1).pulse (chSrc n 9) else s

/-- The converter activity of the carrier period just ended, the checkpoint, and the exciter's carrier (R100, R104). -/
def State.carrierCheck (s : State) (e : ExcId) (n : ChId) : State :=
  if s.ch[n].state = .off then s.modWatch n fun w => { w with perWhole := false, perFresh := false }
  else
    let s := s.modWatch n fun w => { w with check1 := w.check1.map Checkpoint.cross, check2 := w.check2.map Checkpoint.cross }
    let w := s.watch[n]
    let lim := s.regN (Reg.CH_CAR_ACT_MIN n)
    let fS := w.perWhole && w.actS < lim
    let fC := w.perWhole && w.actC < lim
    let lost := s.kelvin[e].lost
    let fail := fS || fC
    let s :=
      if w.perWhole then
        let s := s.modCh n fun c => { c with mon := vmod (vmod c.mon 5 fun _ => fS) 6 fun _ => fC }
        let s := s.modCh n fun c => { c with sticky := vmod (vmod c.sticky 5 (· || fS)) 6 (· || fC) }
        let s := s.level (chSrc n 3) fail
        let tracking := decide (s.ch[n].state = .track)
        let s :=
          if fail then s
          else s.modWatch n fun w =>
            { w with check2 := w.check1, check1 := if tracking then some { loop := s.ch[n].loop } else none }
        let s := if !fail && !lost && w.perFresh then s.modWatch n fun w => { w with carPass := true } else s
        let s := if fail && tracking then s.rollback n else s
        if fail then s.coastFor n 7 else s
      else s
    let s :=
      if lost then (s.monTrip n 7 none).coastFor n 8
      else s.modCh n fun c => { c with mon := vmod c.mon 7 fun _ => false }
    let s := if fail || lost then s.modFront n fun f => { f with settleClean := false, settlePeriods := 0 } else s
    s.modWatch n fun w => { w with perWhole := true, perFresh := true, actS := 0, actC := 0 }

/-- A settling channel at a crossing at 00000000h: one more clean period in normal steps, or the count afresh (R111). -/
def State.settlePeriod (s : State) (n : ChId) : State :=
  if s.ch[n].state = .settle && s.front[n].settle = .running then
    s.modFront n fun f => { f with settlePeriods := if f.settleClean then f.settlePeriods + 1 else 0, settleClean := true }
  else s

/-- The averages of the phase measurement count whole carrier periods (R75). -/
def State.betaPeriod (s : State) (n : ChId) : State :=
  if s.ch[n].state = .track then
    s.modFront n fun f =>
      if f.betaPeriods = 0 then { f with betaPeriods := 1, betaQ := 0, betaI := 0, betaN := 0 }
      else { f with betaPeriods := f.betaPeriods + 1 }
  else s

/-! ### Zero crossings -/

/-- The gains, trims and phase that are visible (R51, R54, R75). -/
def State.visTrims (s : State) (n : ChId) : Trims :=
  { gainSin := s.reg (Reg.CH_GAIN_SIN n), gainCos := s.reg (Reg.CH_GAIN_COS n)
    ofsSin := s.reg (Reg.CH_OFS_SIN n), ofsCos := s.reg (Reg.CH_OFS_COS n)
    fgainSin := s.reg (Reg.CH_FGAIN_SIN n), fgainCos := s.reg (Reg.CH_FGAIN_COS n)
    quad := s.reg (Reg.CH_QUAD_TRIM n), beta := s.reg (Reg.CH_BETA n) }

/-- The sums of the sense window follow an amplitude step (R41). -/
def State.senseRescale (s : State) (e : ExcId) (old new : Int) : State :=
  if old = 0 || old = new then s
  else s.modKelvin e fun k => { k with win := k.win.map fun y => { y with x := divRound (y.x * new) old } }

/-- The pending changes, a fold-back step among them, take effect unless the exciter is settling (R32, R40, R41, R112). A
channel that has entered SETTLE after the end of a settling makes the change wait again, and the waiting channels stay in
COAST (DESIGN CHOICE, log entry 75). -/
def State.excApply (s : State) (e : ExcId) : State :=
  let x := s.exc[e]
  if !x.changing || s.settling e then s
  else
    let f := x.pendFreq.getD x.freq
    let changed : Bool := f ≠ x.freq
    let s := s.modExc e fun x =>
      { x with freq := f, ftw := ftwOf f, ampl := x.pendAmpl.getD x.ampl, pendFreq := none, pendAmpl := none }
    let s := (s.foldEval e).modExc e fun x => { x with pendFold := false, full := x.target }
    let s := if changed then s.modKelvin e fun k => { k with n := 0 } else s
    (s.excChanged e changed).excProbes e

/-- One ramp step and the amplitude it applies (R39). -/
def State.excRamp (s : State) (e : ExcId) : State :=
  let old := s.exc[e].applied
  let s := s.modExc e fun x =>
    if x.state = .ramp then
      let k := if x.rising then x.step + 1 else x.step - 1
      { x with step := k, state := if x.rising && 16 ≤ k then .run else x.state, applied := x.full * Int.ofNat k / 16 }
    else { x with applied := x.full }
  let s := s.senseRescale e old s.exc[e].applied
  if s.exc[e].state = .ramp && s.exc[e].step = 0 then
    ((s.modExc e fun x => { x with state := .off, restart := false }).foldClear e).excSync e
  else s

/-- The trim boundary of a channel is armed by a zero crossing: for the visible gains, trims and phase that wait (R52), and
for a staged row that brings trims (R55, R142). -/
def State.armTrims (s : State) (n : ChId) : State :=
  let s := if s.ch[n].trimPending then s.modCh n fun c => { c with armed := some (s.visTrims n) } else s
  s.modBead fun b =>
    { b with staging := b.staging.map fun x => x.map fun r => if r.ch = n && r.trims.isSome then { r with armed := true } else r }

/-- What a zero crossing of exciter `e` does; `half` is the one at 80000000h (R31). A change of frequency comes before the
carrier presence monitor, since a transition to SETTLE precedes one to COAST (R99). -/
def State.crossing (s : State) (e : ExcId) (half : Bool) : State :=
  let us := s.users e
  let s := s.excApply e
  let s := if half then s else s.each us fun s n => ((s.carrierCheck e n).settlePeriod n).betaPeriod n
  (s.excRamp e).each us State.armTrims

/-- The accumulator passes 00000000h or 80000000h on this LCLK edge: which (R31). -/
def passes (old new : BitVec 32) : Option Bool :=
  if new.toNat < old.toNat then some false
  else if old.toNat < 2 ^ 31 ∧ 2 ^ 31 ≤ new.toNat then some true
  else none

end Sys2Proof.Machine
end

