-- ==== Sys2Proof/Machine/FrontEnd.lean ====
section
/-!
DEFINITION. The input front end: hatbands (R50), gains and trims (R51 to R56), the measured phase (R75), Glove drivers
(R60 to R62), the probe and the copper temperature (R63 to R68).
-/

namespace Sys2Proof.Machine

/-! ### Hatbands -/

/-- The bit of CH_HB_STAT of a comparator (R70). -/
def hbBit (pin : Pin) (above : Bool) : Nat :=
  (match pin with | .sinP => 0 | .sinN => 2 | .cosP => 4 | .cosN => 6) + b2n above

/-- The pin belongs to the sine input. -/
def Pin.isSin : Pin → Bool
  | .sinP | .sinN => true
  | .cosP | .cosN => false

/-- HATBAND_TRIP: a pin has crossed its effective window outwards (R50, R101). -/
def execHatbandTrip (ch : ChId) (pin : Pin) (above : Bool) (s : State) : Host.Outcome State Fault Refusal :=
  if s.lanesOn && !s.sup.vanaHold then
    let b : BitVec 8 := BitVec.ofNat 8 (2 ^ hbBit pin above)
    done (s.modWatch ch fun w =>
      { w with
        hbLive := w.hbLive ||| b, hbSticky := w.hbSticky ||| b
        hbTripS := w.hbTripS || Pin.isSin pin, hbTripC := w.hbTripC || !Pin.isSin pin })
  else done s

/-- HATBAND_RELEASE: the pin has come back inside by the hysteresis (R50). -/
def execHatbandRelease (ch : ChId) (pin : Pin) (above : Bool) (s : State) : Host.Outcome State Fault Refusal :=
  if s.lanesOn && !s.sup.vanaHold then
    let b : BitVec 8 := BitVec.ofNat 8 (2 ^ hbBit pin above)
    done (s.modWatch ch fun w => { w with hbLive := w.hbLive &&& ~~~b })
  else done s

/-! ### Gains and trims -/

/-- The address of a trim object. -/
def trimKey (o : TrimObj) (n : ChId) : Key :=
  match o with
  | .gainSin => Reg.CH_GAIN_SIN n
  | .gainCos => Reg.CH_GAIN_COS n
  | .ofsSin => Reg.CH_OFS_SIN n
  | .ofsCos => Reg.CH_OFS_COS n
  | .fgainSin => Reg.CH_FGAIN_SIN n
  | .fgainCos => Reg.CH_FGAIN_COS n
  | .quad => Reg.CH_QUAD_TRIM n
  | .beta => Reg.CH_BETA n

/-- The static trims of R54, which a run beyond IDLE locks (R56, R138). -/
def isStatic : TrimObj → Bool
  | .gainSin | .gainCos | .beta => false
  | _ => true

def checkTrim (o : TrimObj) (n : ChId) (s : State) (_ : Key → Int) (_ : Key) (_ : Int) : Except Nak Unit :=
  need (!(isStatic o && s.cal[n].state ≠ .idle)) nakCond

/-- A visible trim waits for its sample boundary (R52, R55). -/
def State.trimWait (s : State) (n : ChId) : State := s.modCh n fun c => { c with trimPending := true }

def execStaticTrimWrite (p : Port) (ch : ChId) (o : TrimObj) (v : Int) (s : State) : Host.Outcome State Fault Refusal :=
  hostSet p (trimKey o ch) v (effVisible (checkTrim o ch) (fun s _ _ _ => s.trimWait ch) (trimKey o ch)) s

/-- TRIM_BOUNDARY_APPLY: the sample boundary after the zero crossing, or the next one while the exciter stands
(R52, R55). -/
def State.trimApply (s : State) (n : ChId) : State :=
  let c := s.ch[n]
  let vis := s.visTrims n
  let new := if s.exc[s.excIx n].driving then c.armed else some (c.armed.getD vis)
  match new with
  | none => s
  | some t => s.modCh n fun c => { c with trims := t, armed := none, trimPending := decide (t ≠ vis) }

def execTrimBoundaryApply (ch : ChId) (s : State) : Host.Outcome State Fault Refusal :=
  if s.lanesOn && s.ch[ch].trimPending then done (s.trimApply ch) else done s

/-! ### The measured phase (R75) -/

/-- BETA_MEAS_REFRESH: 64 carrier periods in TRACK have been averaged. -/
def execBetaMeasRefresh (ch : ChId) (s : State) : Host.Outcome State Fault Refusal :=
  let f := s.front[ch]
  if s.lanesOn && s.ch[ch].state = .track && 65 ≤ f.betaPeriods then
    let b : BitVec 32 := BitVec.ofInt 32 (s.ch[ch].trims.beta * 256)
    let m := b + atan2Phase f.betaQ f.betaI
    let s := s.modFront ch fun f => { f with betaFresh := true, betaPeriods := 1, betaQ := 0, betaI := 0, betaN := 0 }
    done (s.setReg (Reg.CH_BETA_MEAS ch) (Int.ofNat (m.toNat / 256)))
  else done s

/-- CH_BETA_LEARN copies CH_BETA_MEAS into CH_BETA. -/
def effBetaLearn (n : ChId) : Eff := fun s => do
  need (s.ch[n].state = .track && s.front[n].betaFresh) nakCond
  .ok ((s.setReg (Reg.CH_BETA n) (s.reg (Reg.CH_BETA_MEAS n))).trimWait n)

def execChBetaLearn (p : Port) (ch : ChId) (s : State) : Host.Outcome State Fault Refusal :=
  hostCmd p (Reg.CH_BETA_LEARN ch) (effBetaLearn ch) s

/-! ### Glove drivers (R60 to R62) -/

/-- The exciter block of a driver, and its source (R71, R200). -/
def glvExc (g : Fin 8) : ExcId := ⟨g.val / 2, by omega⟩
def glvSrc (g : Fin 8) : Nat := excSrc (glvExc g) (4 + g.val % 2)

/-- GLV_MODE of a driver. -/
def glvMode (g : Fin 8) : Key := if g.val % 2 = 0 then Reg.GLV_MODE (g.val / 2) else Reg.GLV_MODE_ODD (g.val / 2)

/-- What a driver puts on its ball (R60, R62). -/
inductive GlvOut where
  | hiz
  | vcm
  | mean (chs : List ChId)
  deriving DecidableEq, Repr

/-- The channels of a driver's pair whose pins enter its mean (R60). -/
def State.glvChannels (s : State) (g : Fin 8) : List ChId :=
  all16.filter fun n => n.val / 2 = g.val && s.ch[n].state ≠ .off && s.watch[n].hbLive = 0

def State.glvOut (s : State) (g : Fin 8) : GlvOut :=
  if !s.lanesOn || !s.sup.booted || s.sup.vanaHold || s.glv[g].overload then .hiz
  else match s.regN (glvMode g) with
    | 1 => if (s.glvChannels g).isEmpty then .vcm else .mean (s.glvChannels g)
    | 2 => .vcm
    | _ => .hiz

/-- GLV_OVERLOAD: more than 40 mA for more than 10 µs; the condition is over with the drive (R62). -/
def execGlvOverload (g : Fin 8) (s : State) : Host.Outcome State Fault Refusal :=
  if s.alive && s.reg (glvMode g) ≠ 0 && !s.glv[g].overload then
    done ((s.modGlv g fun x => { x with overload := true }).pulse (glvSrc g))
  else done s

/-- GLV_MODE written: an overload whose fault has been cleared ends (R62). -/
def applyGlvMode (g : Fin 8) (s : State) (_ : Key) (_ _ : Int) : State :=
  if (s.src (glvSrc g)).state = .idle then s.modGlv g fun x => { x with overload := false } else s

def execGlvModeWrite (p : Port) (g : Fin 8) (v : Int) (s : State) : Host.Outcome State Fault Refusal :=
  hostSet p (glvMode g) v (effVisible noCheck (applyGlvMode g) (glvMode g)) s

/-! ### Temperature (R67) -/

/-- The die sensor of a channel's quad. -/
def State.dieOf (s : State) (n : ChId) : Int := s.mgmt.tempDie[n.val / 4]'(by omega)

/-- CH_TEMP follows the source in use. -/
def State.tempFollow (s : State) (n : ChId) : State :=
  let v := match s.regN (Reg.CH_TEMP_USED n) with
    | 0 => s.reg (Reg.CH_TEMP_CU n)
    | 1 => s.dieOf n
    | _ => s.reg (Reg.CH_TEMP_EXT n)
  s.setReg (Reg.CH_TEMP n) v

/-- The copper temperature is valid: a reference, a recent result within its range, and the source COPPER (R67). -/
def State.cuValid (s : State) (n : ChId) : Bool := s.front[n].cuOk && s.reg (Reg.CH_TEMP_SRC n) = 0

/-- The source chosen anew, at a probe result or on a loss of validity (R67). -/
def State.tempChoose (s : State) (n : ChId) : State :=
  (s.setReg (Reg.CH_TEMP_USED n) (if s.cuValid n then 0 else s.reg (Reg.CH_TEMP_FALLBACK n))).tempFollow n

/-- COPPER_TEMP_VALIDITY_LOSS: no probe has completed within four probe periods (R67). -/
def State.cuLost (s : State) (n : ChId) : State :=
  let s := s.modFront n fun f => { f with cuOk := false }
  if s.reg (Reg.CH_TEMP_USED n) = 0 then s.tempChoose n else s

def execCopperTempValidityLoss (ch : ChId) (s : State) : Host.Outcome State Fault Refusal :=
  if s.alive && s.serviceOn && s.front[ch].cuOk then done (s.cuLost ch) else done s

/-- CH_TEMP_SRC, CH_TEMP_EXT and the references as written: a loss of validity acts at once (R67). -/
def applyTemp (n : ChId) (s : State) (_ : Key) (_ _ : Int) : State :=
  let none_ := s.reg (Reg.CH_RREF_SIN n) = 0 || s.reg (Reg.CH_RREF_COS n) = 0
  let s := if none_ then s.modFront n fun f => { f with cuOk := false } else s
  if s.reg (Reg.CH_TEMP_USED n) = 0 && !s.cuValid n then s.tempChoose n else s.tempFollow n

/-! ### The probe (R63 to R66, R68) -/

/-- PROBE_PERIOD_DUE: the interval of a periodic probe has passed (R68); probes go on while the management core is stopped
(R314). -/
def execProbePeriodDue (ch : ChId) (s : State) : Host.Outcome State Fault Refusal :=
  if s.alive && s.reg (Reg.CH_PROBE_MODE ch) = 1 then done (s.probeOffer ch) else done s

/-- CH_PROBE_START (R68). -/
def effProbeStart (n : ChId) : Eff := fun s => s.probeAsk n

def execChProbeStart (p : Port) (ch : ChId) (s : State) : Host.Outcome State Fault Refusal :=
  hostCmd p (Reg.CH_PROBE_START ch) (effProbeStart ch) s

/-- CH_RREF_LEARN: the probe's results become the references (R66). -/
def effRrefLearn (n : ChId) : Eff := fun s => do
  let s ← s.probeAsk n
  .ok (s.modFront n fun f => { f with learn := true })

def execChRrefLearn (p : Port) (ch : ChId) (s : State) : Host.Outcome State Fault Refusal :=
  hostCmd p (Reg.CH_RREF_LEARN ch) (effRrefLearn ch) s

/-- The steps of a probe (R63). -/
inductive ProbePhase where
  /-- Before the crossing that its windows align to. -/
  | align
  | baseline
  | settling
  | step
  | ending
  | over
  deriving DecidableEq, Repr

/-- The step that a probe is in: 32 T of baseline, 4 T of settling under the current step, 32 T of step window, 4 T of
settling, counted from the crossing at which it began (R63). -/
def ProbeRun.phase (r : ProbeRun) : ProbePhase :=
  if r.crossings = 0 then .align
  else if r.crossings ≤ 32 then .baseline
  else if r.crossings ≤ 36 then .settling
  else if r.crossings ≤ 68 then .step
  else if r.crossings ≤ 72 then .ending
  else .over

/-- The probe tone is on (R63): the rule names no end of the tone but the probe's (DESIGN CHOICE, log entry 76). -/
def State.toneOn (s : State) (n : ChId) : Bool := s.front[n].probe = .running && s.front[n].probeRun.phase ≠ .align

/-- The 100 µA step is on (R63). -/
def State.stepOn (s : State) (n : ChId) : Bool :=
  s.front[n].probe = .running && (s.front[n].probeRun.phase = .settling || s.front[n].probeRun.phase = .step)

/-- PROBE_RUN: a granted probe starts (R63): its tone and its windows align to the crossings of the exciter in RUN, else to
those of a timing accumulator that begins at 00000000h. A channel or a carrier that does not permit it defers it (R68); a
run in ACQUIRE pauses (R128). -/
def execProbeRun (ch : ChId) (s : State) : Host.Outcome State Fault Refusal :=
  if s.lanesOn && s.front[ch].probe = .pending && s.sched[chDomain ch].running = some .probe then
    if (s.probeBar ch).isSome then done (s.probeRecheck ch)
    else
      let first := if s.exc[s.excIx ch].state = .run then 0 else 1
      done ((s.modFront ch fun f => { f with probe := .running, probeRun := { crossings := first } }).calPause ch 5)
  else done s

/-- One more carrier period of a running probe. -/
def State.probeCross (s : State) (n : ChId) : State :=
  s.modFront n fun f => { f with probeRun := { f.probeRun with crossings := f.probeRun.crossings + 1 } }

/-- One LCLK edge for the running probes of an exciter's channels: a crossing of the exciter in RUN, else the timing
accumulator advanced by the FTW of EXC_FREQ (R63). -/
def State.probeClock (s : State) (e : ExcId) (inRun : Bool) (crossed : Option Bool) : State :=
  s.each (s.users e) fun s n =>
    if s.front[n].probe ≠ .running then s
    else if inRun then (if crossed = some false then s.probeCross n else s)
    else
      let old := s.front[n].probeRun.acc
      let new := old + ftwOf (s.reg (Reg.EXC_FREQ e))
      let s := s.modFront n fun f => { f with probeRun := { f.probeRun with acc := new } }
      if passes old new = some false then s.probeCross n else s

/-- One sample of both inputs in a running probe's windows, in pV at the pins (R63, R64; log entry 76). -/
def ProbeRun.sample (r : ProbeRun) (freq xs xc : Int) : ProbeRun :=
  let r : ProbeRun :=
    match r.phase with
    | .baseline => { r with baseN := r.baseN + 1, baseS := r.baseS + xs, baseC := r.baseC + xc }
    | .step => { r with stepN := r.stepN + 1, stepS := r.stepS + xs, stepC := r.stepC + xc }
    | _ => r
  match r.phase with
  | .baseline | .settling | .step =>
    let φ := BitVec.ofInt 32 (freq * Int.ofNat r.toneN * 120 * 2 ^ 32 / 10 ^ 9)
    { r with
      toneN := r.toneN + 1, toneSI := r.toneSI + xs * cosExact φ, toneSQ := r.toneSQ + xs * sinExact φ
      toneCI := r.toneCI + xc * cosExact φ, toneCQ := r.toneCQ + xc * sinExact φ }
  | _ => r

/-- A converter code referred to the pins, in pV: the LSB is 31.25 µV at gain 1 (R51; log entry 10). -/
def pinPv (code : BitVec 16) (gain : Int) : Int := code.toInt * 250000000 / 2 ^ (gain + 3).toNat

/-- A sample of a channel enters its running probe. -/
def State.probeSample (s : State) (n : ChId) (xs xc : BitVec 16) : State :=
  if s.front[n].probe ≠ .running then s
  else
    let t := s.ch[n].trims
    s.modFront n fun f =>
      { f with probeRun := f.probeRun.sample (s.reg (Reg.CH_PROBE_FREQ n)) (pinPv xs t.gainSin) (pinPv xc t.gainCos) }

/-- The sum and the number of a window's samples; a window in which no sample has been sent has the mean that
PROBE_COMPLETE brings (R64; log entry 76). -/
def windowOf (sum : Int) (n : Nat) (mean : Int) : Int × Nat := if n = 0 then (mean, 1) else (sum, n)

/-- R_w in µΩ: the difference of the two windows' means in pV over I_p in pA (R64). -/
def rwOf (n : ChId) (sin : Bool) (step base : Int × Nat) : Int :=
  clampI 0 (2 ^ 32 - 1)
    (divRound ((step.1 * Int.ofNat base.2 - base.1 * Int.ofNat step.2) * 10 ^ 6)
      (Int.ofNat step.2 * Int.ofNat base.2 * Config.probeCurrent n sin))

/-- |Z| in mΩ: the correlated tone, rms, across 2 µA (R64), of the sums in phase and in quadrature. -/
def zwOf (i : Int × Nat) (q : Int) : Int :=
  clampI 0 (2 ^ 32 - 1) (divRound (Int.ofNat (sqrtRound (2 * (i.1 * i.1 + q * q)).toNat)) (Int.ofNat i.2 * trigOne * 2000))

/-- The copper temperature of an input in 0.5 °C (R65). -/
def copperTemp (tref r rref : Int) : Int := tref + divRound (2 * (r - rref) * 100000) (393 * rref)

/-- |Z| differs from its reference by more than 25 % (R64). -/
def zOff (z zref : Int) : Bool := zref ≠ 0 && zref < 4 * Int.ofNat (z - zref).natAbs

/-- A probe's results (R64 to R67). -/
def State.probeResults (s : State) (n : ChId) (rs rc zs zc : Int) : State :=
  let s := ((s.setReg (Reg.CH_RW_SIN n) rs).setReg (Reg.CH_RW_COS n) rc).setReg (Reg.CH_ZW_SIN n) zs
  let s := s.setReg (Reg.CH_ZW_COS n) zc
  let s :=
    if s.front[n].learn then
      let s := ((s.setReg (Reg.CH_RREF_SIN n) rs).setReg (Reg.CH_RREF_COS n) rc).setReg (Reg.CH_ZREF_SIN n) zs
      (s.setReg (Reg.CH_ZREF_COS n) zc).modFront n fun f => { f with learn := false }
    else s
  let s := s.level (chSrc n 14) (zOff zs (s.reg (Reg.CH_ZREF_SIN n)) || zOff zc (s.reg (Reg.CH_ZREF_COS n)))
  let refS := s.reg (Reg.CH_RREF_SIN n)
  let refC := s.reg (Reg.CH_RREF_COS n)
  if refS = 0 || refC = 0 then (s.modFront n fun f => { f with cuOk := false }).tempChoose n
  else
    let a := copperTemp (s.reg (Reg.CH_TREF n)) rs refS
    let b := copperTemp (s.reg (Reg.CH_TREF n)) rc refC
    let t := divRound (a + b) 2
    let s := (s.setReg (Reg.CH_TEMP_CU n) (clampI (-32768) 32767 t)).level (chSrc n 15) (10 < (a - b).natAbs)
    (s.modFront n fun f => { f with cuOk := -110 ≤ t && t ≤ 400 }).tempChoose n

/-- PROBE_COMPLETE: the 72 carrier periods are over; the probe ends and publishes its results (R63, R64). The operands are
the means of the step and baseline windows and of the tone's correlation, in pV at the pins, for windows in which no
SAMPLE_PROCESS has come (log entry 76). -/
def execProbeComplete (ch : ChId) (stepS baseS toneS stepC baseC toneC : Int) (s : State) :
    Host.Outcome State Fault Refusal :=
  let r := s.front[ch].probeRun
  if s.lanesOn && s.front[ch].probe = .running && r.phase = .over then
    let s := s.modFront ch fun f => { f with probe := .idle, probeRun := {} }
    let s := s.probeResults ch
      (rwOf ch true (windowOf r.stepS r.stepN stepS) (windowOf r.baseS r.baseN baseS))
      (rwOf ch false (windowOf r.stepC r.stepN stepC) (windowOf r.baseC r.baseN baseC))
      (zwOf (windowOf r.toneSI r.toneN (toneS * trigOne)) r.toneSQ)
      (zwOf (windowOf r.toneCI r.toneN (toneC * trigOne)) r.toneCQ)
    done (s.schedWithdraw (chDomain ch) .probe)
  else done s

end Sys2Proof.Machine
end

