-- ==== Sys2Proof/Machine/Clock.lean ====
section
/-!
DEFINITION. Network time (R301 to R305) and the SCLK edge with the exciters' zero crossings (R31), which is what a step on an
empty queue performs (log entry 1).
-/

namespace Sys2Proof.Machine

/-- The part of the remaining slew that one edge works off, in 2^-24 ns: at most 1/64 ns (R302). -/
def slewPart (left : Int) : Int := clampI (-0x40000) 0x40000 left

/-- Time moved by an amount in 2^-24 ns; a carry or borrow out of bit 31 moves the wrap count (R301). -/
def TimeSt.add (t : TimeSt) (d : Int) : TimeSt :=
  let x := Int.ofNat t.count.toNat + d
  { t with count := BitVec.ofInt 56 x, wraps := wrapS 32 (t.wraps + x / 2 ^ 56) }

/-- The time counter over one SCLK edge (R301, R302). -/
def State.timeEdge (s : State) : State :=
  let part := slewPart s.time.slew
  s.modTime fun t => { (t.add (s.reg Reg.TIME_INC + part)) with slew := t.slew - part }

/-- One LCLK edge of an exciter (R14, R30): the accumulator advances while it runs, and where it passes 00000000h or
80000000h the zero crossing does its work (R31); the probes of its channels keep time (R63). -/
def State.excLclk (s : State) (e : ExcId) : State :=
  let x := s.exc[e]
  if x.driving then
    let acc := x.acc + x.ftw
    let crossed := passes x.acc acc
    let s := s.modExc e fun x => { x with acc := acc }
    let s := match crossed with | some half => s.crossing e half | none => s
    s.probeClock e (x.state = .run) crossed
  else s.probeClock e false none

/-- The exciters over one SCLK edge, two LCLK periods (R14). -/
def State.ddsEdge (s : State) : State :=
  s.each (List.finRange 4) fun s e => (s.excLclk e).excLclk e

/-- One SCLK edge; without ROOT only the model's time base moves on. -/
def State.sclkEdge (s : State) : State :=
  let s := { s with now := s.now + 1 }
  if s.alive then s.timeEdge.ddsEdge else s

/-- The exciter makes this crossing on one of the two LCLK edges of the next SCLK edge. -/
def Exc.crosses (x : Exc) (half : Bool) : Bool :=
  x.driving && (passes x.acc (x.acc + x.ftw) = some half || passes (x.acc + x.ftw) (x.acc + x.ftw + x.ftw) = some half)

/-- ZERO_CROSSING: the SCLK edge at which the exciter's accumulator passes 00000000h, or 80000000h for `half` (R31). -/
def execZeroCrossing (e : ExcId) (half : Bool) (s : State) : Host.Outcome State Fault Refusal :=
  if s.alive && s.exc[e].crosses half then done s.sclkEdge else done s

/-- This edge carries out of bit 31 (R301). -/
def State.edgeCarries (s : State) : Bool :=
  s.alive && 2 ^ 56 ≤ Int.ofNat s.time.count.toNat + (s.reg Reg.TIME_INC + slewPart s.time.slew)

/-- TIME_WRAP: the SCLK edge that carries out of bit 31 (R301). -/
def execTimeWrap (s : State) : Host.Outcome State Fault Refusal := if s.edgeCarries then done s.sclkEdge else done s

/-- TIME_SLEW_DONE: the SCLK edge that works off the rest of the slew (R302). -/
def execTimeSlewDone (s : State) : Host.Outcome State Fault Refusal :=
  if s.alive && s.time.slew ≠ 0 && slewPart s.time.slew = s.time.slew then done s.sclkEdge else done s

/-- TIME_INC applies from the next SCLK edge (R302). -/
def effTimeInc (v : Int) : Eff := fun s => .ok (s.setReg Reg.TIME_INC v)

def execTimeIncWrite (p : Port) (v : Int) (s : State) : Host.Outcome State Fault Refusal :=
  hostSet p Reg.TIME_INC v effTimeInc s

/-- N_ref taken anew from TIME_NOW (R305). -/
def State.refreshNref (s : State) : State :=
  s.modTime fun t => { t with nref := (extendNs s.timeNow s.time.nref).toNat }

/-- TIME_STEP: E changes by exactly the step, and TIME_STEPPED is raised (R302, R305). -/
def effTimeStep (v : Int) : Eff := fun s =>
  let s := s.refreshNref
  let n : Int := Int.ofNat s.time.nref + v
  let s := s.modTime fun t => { t.add (v * 2 ^ 24) with nref := n.toNat }
  .ok ((s.bump Reg.TIME_STEP_CNT).pulse 996)

def execTimeStep (p : Port) (v : Int) (s : State) : Host.Outcome State Fault Refusal :=
  hostSet p Reg.TIME_STEP v effTimeStep s

/-- TIME_SLEW replaces the remaining slew (R302). -/
def effTimeSlew (v : Int) : Eff := fun s =>
  .ok ((s.setReg Reg.TIME_SLEW v).modTime fun t => { t with slew := v * 2 ^ 24 })

def execTimeSlewWrite (p : Port) (v : Int) (s : State) : Host.Outcome State Fault Refusal :=
  hostSet p Reg.TIME_SLEW v effTimeSlew s

/-- TIME_REF80: N_ref keeps the counter's TIME32 and takes its higher part from the written value (R305). -/
def effTimeRef80 (v : Int) : Eff := fun s =>
  let n := extendNs s.timeNow (ns80 v.toNat)
  .ok ((s.setReg Reg.TIME_REF80 v).modTime fun t => { t with nref := n.toNat, refValid := true })

def execTimeRef80Write (p : Port) (v : Int) (s : State) : Host.Outcome State Fault Refusal :=
  hostSet p Reg.TIME_REF80 v effTimeRef80 s

/-- NREF_REFRESH: the management firmware refreshes N_ref from TIME_NOW (R305). -/
def execNrefRefresh (s : State) : Host.Outcome State Fault Refusal :=
  if s.alive && s.serviceOn then done s.refreshNref else done s

end Sys2Proof.Machine
end

