-- ==== Sys2Proof/Machine/Beads.lean ====
section
/-!
DEFINITION. The bead table: layout, temperature blend and SCD code (R118 to R124), staging rows (R142), commits (R143)
and the scrub (R145).
-/

namespace Sys2Proof.Machine

/-- The offset of bead (n, set, j) in the working copy (R118). -/
def beadAddr (n : ChId) (set j : Nat) : Nat := 4 * (8192 * n.val + 1024 * set + j)

/-- A 32-bit word of a byte memory. -/
def Memory.word (m : Memory) (a : Nat) : BitVec 32 :=
  BitVec.ofNat 32 (leNat [SMap.find 0 m a, SMap.find 0 m (a + 1), SMap.find 0 m (a + 2), SMap.find 0 m (a + 3)])

/-- Bytes written from an address. -/
def Memory.store : Memory → Nat → Bytes → Memory
  | m, _, [] => m
  | m, a, b :: bs => Memory.store (SMap.put 0 m a b) (a + 1) bs

/-- Bytes read from an address. -/
def Memory.load (m : Memory) (a : Nat) : Nat → Bytes
  | 0 => []
  | k + 1 => SMap.find 0 m a :: Memory.load m (a + 1) k

/-- The fields of a bead (R119). -/
def beadSin (w : BitVec 32) : Int := (w.extractLsb' 20 12).toInt
def beadCos (w : BitVec 32) : Int := (w.extractLsb' 8 12).toInt
def beadWeight (w : BitVec 32) : Nat := (w.extractLsb' 0 8).toNat

/-- A bead of its fields (R119). -/
def beadOf (sin cos : Int) (weight : Nat) : BitVec 32 :=
  BitVec.ofInt 12 sin ++ BitVec.ofInt 12 cos ++ BitVec.ofNat 8 weight

/-- The lane of a channel. -/
def quadOf (n : ChId) : Fin 4 := ⟨n.val / 4, by omega⟩

/-- The staging row of channel `n`'s lane, when the lane reads a row of channel and set from it (R142). -/
def State.stagedRow (s : State) (n : ChId) (set : Nat) : Option Staging :=
  (s.bead.staging[quadOf n]).filter fun x => x.inUse && x.ch = n && x.set = set

/-- A bead as the lane reads it. -/
def State.beadAt (s : State) (n : ChId) (set j : Nat) : BitVec 32 :=
  match s.stagedRow n set with
  | some x => x.beads.getD j 0
  | none => s.bead.working.word (beadAddr n set j)

/-- A lane read of the bead meets an uncorrectable error (R145). -/
def State.beadBad (s : State) (n : ChId) (set j : Nat) : Bool :=
  (s.stagedRow n set).isNone && s.bead.bad.contains (8192 * n.val + 1024 * set + j)

/-- A set's number. -/
def setNo (k : Nat) : Fin 8 := ⟨k % 8, by omega⟩

/-- The calibrated sets of a channel with their run temperatures, lowest first (R123). -/
def State.calSets (s : State) (n : ChId) : List (Nat × Int) :=
  ((List.finRange 8).filter fun k => s.sets[setIx n k].calibrated).map fun k => (k.val, s.sets[setIx n k].tRun)

/-- The two sets used at a temperature, with the weight on the second as a fraction (R123). -/
def pickSets (t : Int) : List (Nat × Int) → Option (Nat × Nat × Int × Int)
  | [] => none
  | [(a, _)] => some (a, a, 0, 1)
  | (a, ta) :: (b, tb) :: rest =>
    if t ≤ ta then some (a, a, 0, 1)
    else if t < tb then some (a, b, t - ta, tb - ta)
    else pickSets t ((b, tb) :: rest)

/-- The blend of one node over the denominator `d` of R123's weight. -/
def blendNode (f : BitVec 32 → Int) (wa wb : BitVec 32) (num d : Int) : Int :=
  if beadWeight wa = 0 ∧ beadWeight wb ≠ 0 then f wb * d
  else if beadWeight wb = 0 ∧ beadWeight wa ≠ 0 then f wa * d
  else f wa * (d - num) + f wb * num

/-- `bead_code` of R124 at an extrapolated angle. -/
def State.beadCode (s : State) (n : ChId) (th : BitVec 32) (f : BitVec 32 → Int) : Int :=
  match pickSets (s.reg (Reg.CH_TEMP n)) (s.calSets n) with
  | none => 0
  | some (a, b, num, d) =>
    let j := th.toNat / 2 ^ 22
    let k := (j + 1) % 1024
    let fr : Int := Int.ofNat (th.toNat % 2 ^ 22)
    let v (m : Nat) := blendNode f (s.beadAt n a m) (s.beadAt n b m) num d
    divRound ((2 ^ 22 - fr) * v j + fr * v k) (d * 2 ^ 22)

/-- The beads that `bead_code` reads. -/
def State.beadReads (s : State) (n : ChId) (th : BitVec 32) : List (Nat × Nat) :=
  match pickSets (s.reg (Reg.CH_TEMP n)) (s.calSets n) with
  | none => []
  | some (a, b, _, _) =>
    let j := th.toNat / 2 ^ 22
    let k := (j + 1) % 1024
    if a = b then [(a, j), (a, k)] else [(a, j), (a, k), (b, j), (b, k)]

/-! ### Staging rows (R142) -/

/-- A bead commit writes: every application of a row waits (R143). -/
def State.commitWrites (s : State) : Bool := s.sched[mramDomain].running = some .beadCommit

/-- The first waiting row of a lane moves into its free staging row. -/
def State.stageNext (s : State) (q : Fin 4) : State :=
  if s.bead.staging[q].isSome then s
  else
    match s.bead.waiting.find? fun x => quadOf x.ch = q with
    | none => s
    | some x => s.modBead fun b => { b with staging := vmod b.staging q fun _ => some x, waiting := b.waiting.erase x }

/-- A row asks for its lane's staging row. -/
def State.stage (s : State) (x : Staging) : State :=
  (s.modBead fun b => { b with waiting := b.waiting ++ [x] }).stageNext (quadOf x.ch)

/-- The 1,024 beads of a row in a byte memory. -/
def rowOf (m : Memory) (base : Nat) : List (BitVec 32) := (List.range 1024).map fun j => m.word (base + 4 * j)

/-- The newest valid generation and the other valid one (R143, R144). -/
def newestGen (g : Vector BeadGen 2) : Option (Fin 2) :=
  if g[0].valid && (!g[1].valid || g[1].counter ≤ g[0].counter) then some 0
  else if g[1].valid then some 1 else none

def olderGen (g : Vector BeadGen 2) : Option (Fin 2) :=
  match newestGen g with
  | some 0 => if g[1].valid then some 1 else none
  | some 1 => if g[0].valid then some 0 else none
  | none => none

/-- The reload of an affected row and its set record from the newest generation; with no valid generation the row is
empty and not calibrated (R145; log entry 21). -/
def State.reloadRow (s : State) (n : ChId) (set : Nat) : State :=
  let asked (x : Staging) : Bool := x.ch = n && x.set = set && x.source = 3
  if s.bead.waiting.any asked || (s.bead.staging[quadOf n]).any asked then s
  else
    let row : Staging :=
      match newestGen s.bead.gens with
      | some g =>
        { ch := n, set := set, beads := rowOf s.bead.gens[g].beads (beadAddr n set 0)
          record := s.bead.gens[g].sets.getD (setIx n (setNo set)).val {}, source := 3, trims := none }
      | none => { ch := n, set := set, beads := List.replicate 1024 0, record := {}, source := 3, trims := none }
    s.stage row

/-- An uncorrectable error met: counted, raised, the row reloaded (R145). -/
def State.beadUe (s : State) (n : ChId) (set : Nat) : State :=
  ((s.bump Reg.BT_ECC_UE_CNT).raise (chSrc n 18)).reloadRow n set

/-- One SCD code with its clamp (R58, R124). -/
def clampCode (c : Int) : Int := clampI (-2048) 2047 c

/-- The SCD codes for the sample after next of channel `n`, from an extrapolated angle (R22, R58, R124, R145). -/
def State.scdWrite (s : State) (n : ChId) (th : BitVec 32) : State :=
  let fr := s.front[n]
  let s := (s.setReg (Reg.CH_SCD_CODE_SIN n) fr.scd1S).setReg (Reg.CH_SCD_CODE_COS n) fr.scd1C
  let bad := (s.beadReads n th).filter fun x => s.beadBad n x.1 x.2
  let on := s.flag (Reg.CH_SCD_ENABLE n)
  let cs := if on then s.beadCode n th beadSin else 0
  let cc := if on then s.beadCode n th beadCos else 0
  let (ns, nc) := if on && !bad.isEmpty then (fr.scd2S, fr.scd2C) else (clampCode cs, clampCode cc)
  let clamped : Int := (if clampCode cs ≠ cs then 1 else 0) + (if clampCode cc ≠ cc then 1 else 0)
  let s := s.setReg (Reg.CH_SCD_CLAMP_CNT n) (satAdd 32 (s.reg (Reg.CH_SCD_CLAMP_CNT n)) clamped)
  let s := s.modFront n fun f => { f with scd1S := f.scd2S, scd1C := f.scd2C, scd2S := ns, scd2C := nc }
  if on then bad.foldl (fun s x => s.beadUe n x.1) s else s

/-- ROW_COPY_COMPLETE: the staging row stands in the working copy, and the lane returns to it (R142 steps 3 and 4). -/
def State.rowCopied (s : State) (x : Staging) : State :=
  let base := beadAddr x.ch x.set 0
  let first := 8192 * x.ch.val + 1024 * x.set
  let s := s.modBead fun b =>
    { b with
      working := b.working.store base (x.beads.flatMap fun w => leBytes 4 w.toNat)
      staging := vmod b.staging (quadOf x.ch) fun _ => none
      bad := b.bad.filter fun i => !(first ≤ i && i < first + 1024) }
  let clean := s.bead.bad.all fun i => i / 8192 ≠ x.ch.val
  (if clean then s.gone (chSrc x.ch 18) else s).stageNext (quadOf x.ch)

def execRowCopyComplete (ch : ChId) (s : State) : Host.Outcome State Fault Refusal :=
  match s.bead.staging[quadOf ch] with
  | some x => if s.lanesOn && x.ch = ch && x.inUse then done (s.rowCopied x) else done s
  | none => done s

/-! ### Commits (R143) -/

/-- CRC-32 of R164 over the 524,288 bytes of bead data, zero runs taken by powers of the one-byte map. -/
def beadCrc (m : Memory) : BitVec 32 := crcSparse 524288 m

/-- What the running commit writes: the copy made at its begin, or the present one where none began (R143). -/
def State.commitCopy (s : State) : BeadGen :=
  s.bead.writing.getD { beads := s.bead.working, sets := s.sets.toList, trims := s.allTrims }

/-- The commit written into the slot of the older generation, header last (R143). -/
def State.writeGen (s : State) : State :=
  let (slot, counter) : Fin 2 × Nat :=
    match newestGen s.bead.gens with
    | some 0 => (1, s.bead.gens[0].counter + 1)
    | some 1 => (0, s.bead.gens[1].counter + 1)
    | none => (0, 1)
  let g := s.commitCopy
  let gen : BeadGen := { g with valid := true, torn := false, counter := counter % 2 ^ 32, crc := beadCrc g.beads }
  s.modBead fun b => { b with gens := vmod b.gens slot fun _ => gen, commitFailed := false, writing := none }

/-- Every run in COMMIT ends (R134). -/
def State.endCommits (s : State) : State :=
  s.each all16 fun s n => if s.cal[n].state = .commit then s.modCal n fun c => { c with state := .idle } else s

/-- BEAD_COMMIT: a granted commit with its failed read-backs; after the third the older slot holds a torn generation without a
header, and the working copy stays in use (R143; log entry 22). -/
def execBeadCommit (failedAttempts : Fin 4) (s : State) : Host.Outcome State Fault Refusal :=
  if s.alive && s.serviceOn && s.commitWrites then
    let s := s.setReg Reg.BT_COMMIT_FAIL_CNT (satAdd 32 (s.reg Reg.BT_COMMIT_FAIL_CNT) (Int.ofNat failedAttempts.val))
    let s :=
      if failedAttempts.val < 3 then (s.writeGen.bump Reg.BT_COMMIT_CNT).gone 36
      else
        let slot : Fin 2 := match newestGen s.bead.gens with | some 0 => 1 | _ => 0
        (s.modBead fun b =>
          { b with commitFailed := true, writing := none
                   gens := vmod b.gens slot fun g => { g with valid := false, torn := true } }).raise 36
    done (s.endCommits.schedEnd mramDomain)
  else done s

/-- An activation waits for its quiet point: no MRAM writer and no calibration run may start (R327). -/
def State.updWaits (s : State) : Bool := s.upd.state = .waitQuiet

/-- A commit asked for by the device itself (R143, R318). -/
def State.commitOffer (s : State) : State := if s.updWaits then s else (s.schedDo mramDomain .beadCommit).2

/-- BT_COMMIT_NOW (R143). -/
def effCommitNow : Eff := fun s => do
  need (!s.updWaits) nakMgmt
  match s.schedDo mramDomain .beadCommit with
  | (.refuse, _) => .error nakSched
  | (_, s) => .ok s

def execBtCommitNow (p : Port) (s : State) : Host.Outcome State Fault Refusal := hostCmd p Reg.BT_COMMIT_NOW effCommitNow s

/-! ### The scrub (R145) -/

/-- The channel and the set of a bead's number. -/
def beadPlace (i : Fin 131072) : ChId × Nat := (⟨i.val / 8192, by omega⟩, i.val / 1024 % 8)

/-- BEAD_SCRUB: single-bit errors are corrected and counted; an uncorrectable one is kept until its row is reloaded. -/
def execBeadScrub (corrected uncorrectable : List (Fin 131072)) (s : State) : Host.Outcome State Fault Refusal :=
  if s.alive then
    let s := s.each corrected fun s i => (s.bump Reg.BT_ECC_CE_CNT).pulse (chSrc (beadPlace i).1 17)
    done (s.each uncorrectable fun s i =>
      (s.modBead fun b => { b with bad := i.val :: b.bad }).beadUe (beadPlace i).1 (beadPlace i).2)
  else done s

/-! ### Host rows (R147, R148) -/

/-- The cell of a set in 0.5 °C: exclusive lower bound and inclusive upper bound, doubled (R122). -/
def cellLo (get : Key → Int) (k : Nat) : Option Int :=
  if k = 0 then none else some (get (Reg.CAL_SET_TEMP0 + (k - 1)) + get (Reg.CAL_SET_TEMP0 + k))

def cellHi (get : Key → Int) (k : Nat) : Option Int :=
  if k = 7 then none else some (get (Reg.CAL_SET_TEMP0 + k) + get (Reg.CAL_SET_TEMP0 + (k + 1)))

/-- A temperature lies in the cell of a set; a midpoint belongs to the lower set (R122). -/
def inCell (get : Key → Int) (k : Nat) (t : Int) : Bool :=
  (match cellLo get k with | none => true | some lo => lo < 2 * t) &&
  (match cellHi get k with | none => true | some hi => 2 * t ≤ hi)

/-- The temperature inside the cell nearest to `t` (R137). -/
def intoCell (get : Key → Int) (k : Nat) (t : Int) : Int :=
  let t := match cellHi get k with | none => t | some hi => if hi < 2 * t then hi / 2 else t
  match cellLo get k with | none => t | some lo => if lo < 2 * t then t else lo / 2 + 1

/-- The governing set of a channel (R122). -/
def State.governing (s : State) (n : ChId) : Nat :=
  ((List.range 8).find? fun k => inCell s.reg k (s.reg (Reg.CH_TEMP n))).getD 7

/-- BT_ROW_LOAD applies the host row (R138, R148). -/
def effRowLoad : Eff := fun s => do
  let n := chOf (s.reg Reg.BT_WIN_CH)
  let k := s.regN Reg.BT_WIN_SET % 8
  let t := s.reg Reg.BT_ROW_TEMP
  need (s.dev.state = .config || s.dev.state = .service) nakCond
  need (s.cal[n].state = .idle) nakCond
  need (inCell s.reg k t) nakRange
  let old := s.sets[setIx n (setNo k)]
  .ok (s.stage
    { ch := n, set := k, beads := rowOf s.bead.hostRow 0, source := 2, trims := none
      record := { old with calibrated := true, hostLoaded := true, tRun := t } })

def execBtRowLoad (p : Port) (s : State) : Host.Outcome State Fault Refusal := hostCmd p Reg.BT_ROW_LOAD effRowLoad s

def effRowClear : Eff := fun s => .ok (s.modBead fun b => { b with hostRow := [] })

def execBtRowClear (p : Port) (s : State) : Host.Outcome State Fault Refusal := hostCmd p Reg.BT_ROW_CLEAR effRowClear s

/-- SET_CLEAR: CALIBRATED becomes 0, in CONFIG or SERVICE only (R152). -/
def effSetClear (n : ChId) (k : Fin 8) : Eff := fun s => do
  need (s.dev.state = .config || s.dev.state = .service) nakCond
  .ok { s with sets := vmod s.sets (setIx n k) fun r => { r with calibrated := false } }

def execSetClear (p : Port) (ch : ChId) (set : Fin 8) (s : State) : Host.Outcome State Fault Refusal :=
  hostCmd p (Reg.SET_CLEAR ch + 0x100 * set) (effSetClear ch set) s

end Sys2Proof.Machine
end

