-- ==== Sys2Proof/Machine/Calib.lean ====
section
/-!
DEFINITION. Calibration runs: triggers, grant, windows, statistics, evaluation and acceptance (R125 to R141, R146), and
the row that takes effect (R142).
-/

namespace Sys2Proof.Machine

/-! ### Requests, triggers and the grant (R131, R134, R139) -/

/-- The configuration of a run as visible (R150). -/
def State.calCfg (s : State) (n : ChId) : CalCfg :=
  { kind := s.reg (Reg.CAL_KIND n), scope := s.reg (Reg.CAL_SCOPE n), arcFirst := s.reg (Reg.CAL_ARC_FIRST n)
    arcLast := s.reg (Reg.CAL_ARC_LAST n), accept := s.reg (Reg.CAL_ACCEPT n), vmin := s.reg (Reg.CAL_VMIN n)
    amax := s.reg (Reg.CAL_AMAX n), winTravel := s.reg (Reg.CAL_WIN_TRAVEL n), winResid := s.reg (Reg.CAL_WIN_RESID n)
    minPasses := s.reg (Reg.CAL_MIN_PASSES n), tempTol := s.reg (Reg.CAL_TEMP_TOL n), limBead := s.reg (Reg.CAL_LIM_BEAD n)
    limStep := s.reg (Reg.CAL_LIM_STEP n), limGain := s.reg (Reg.CAL_LIM_GAIN n), limQuad := s.reg (Reg.CAL_LIM_QUAD n)
    limQ := s.reg (Reg.CAL_LIM_Q n), repeatTol := s.reg (Reg.CAL_REPEAT_TOL n)
    retryHold := s.reg (Reg.CAL_RETRY_HOLD n) }

/-- The kind may start: BASELINE only in SERVICE, or in RUN while no set is calibrated (R131). -/
def State.kindAllowed (s : State) (n : ChId) : Bool :=
  s.reg (Reg.CAL_KIND n) = 0 || s.dev.state = .service || !s.anyCalibrated n

/-- BASELINE with ARC, which R131 rules out. -/
def State.baselineArc (s : State) (n : ChId) : Bool := s.reg (Reg.CAL_KIND n) = 1 && s.reg (Reg.CAL_SCOPE n) = 1

/-- A run in PENDING with its trigger (R134, R139). -/
def State.calPend (s : State) (n : ChId) (trigger : Nat) (commanded : Bool) : State :=
  (s.modCal n fun c => { c with state := .pending, trigger := trigger, commanded := commanded, repeatDue := false }).bump
    (Reg.CAL_CNT_STARTED n)

/-- A request of the device itself; one that the scheduler refuses is offered again at the next evaluation (R318). -/
def State.calOffer (s : State) (n : ChId) (trigger : Nat) (commanded : Bool) : State :=
  if s.updWaits then s
  else match s.schedDo (chDomain n) .cal with
    | (.refuse, _) => s
    | (_, t) => t.calPend n trigger commanded

/-- CAL_START (R131, R139). -/
def effCalStart (n : ChId) : Eff := fun s => do
  need (!s.updWaits) nakMgmt
  need (!s.baselineArc n) nakRange
  need (s.cal[n].state = .idle && (s.dev.state = .run || s.dev.state = .service) && s.ch[n].state ≠ .off) nakCond
  need (s.kindAllowed n) nakCond
  match s.schedDo (chDomain n) .cal with
  | (.refuse, _) => .error nakSched
  | (_, s) => .ok (s.calPend n 3 true)

def execCalStart (p : Port) (ch : ChId) (s : State) : Host.Outcome State Fault Refusal :=
  hostCmd p (Reg.CAL_START ch) (effCalStart ch) s

/-- CAL_CANCEL in PENDING, ACQUIRE and PAUSED (R134). -/
def effCalCancel (n : ChId) : Eff := fun s => do
  need (s.cal[n].state = .pending || s.cal[n].state = .acquire || s.cal[n].state = .paused) nakCond
  .ok (s.abortRun n 1)

def execCalCancel (p : Port) (ch : ChId) (s : State) : Host.Outcome State Fault Refusal :=
  hostCmd p (Reg.CAL_CANCEL ch) (effCalCancel ch) s

/-- The governing set's record. -/
def State.govRec (s : State) (n : ChId) : SetRec := s.sets[setIx n (setNo (s.governing n))]

/-- The automatic trigger that holds: 1 TEMP, 4 FIRST, 2 PERIOD (R139). -/
def State.calTrigger (s : State) (n : ChId) : Option Nat :=
  let r := s.govRec n
  let away := (s.reg (Reg.CH_TEMP n) - r.tRun).natAbs
  let hours := s.regN (Reg.CAL_PERIOD n)
  if s.flag (Reg.CAL_AUTO n) && !r.calibrated then some 4
  else if s.flag (Reg.CAL_AUTO n) && s.regN Reg.CAL_TRECAL < away then some 1
  else if hours ≠ 0 && Int.ofNat (hours * 3600 * 10 ^ 9) ≤ extendNs s.timeNow s.time.nref - Int.ofNat (ns80 r.time) then
    some 2
  else none

/-- Automatic triggers may fire (R131, R139); a channel in OFF suppresses none. -/
def State.calAuto (s : State) (n : ChId) : Bool :=
  s.cal[n].state = .idle && s.cal[n].holdUntil ≤ s.now && s.flag Reg.CAL_AUTO_ALL &&
  (s.dev.state = .run || s.dev.state = .service) && s.kindAllowed n && !s.baselineArc n

/-- CAL_TRIGGER_EVAL: the drift of a run's temperature (R136), a REPEAT request, and the automatic triggers (R139). -/
def execCalTriggerEval (ch : ChId) (s : State) : Host.Outcome State Fault Refusal :=
  if !(s.alive && s.serviceOn) then done s
  else
    let c := s.cal[ch]
    let drifted := (c.state = .acquire || c.state = .paused || c.state = .evaluate) &&
      c.cfg.tempTol.toNat < (s.reg (Reg.CH_TEMP ch) - c.tStart).natAbs
    let s := if drifted then s.abortRun ch 3 else s
    if c.state = .idle && c.repeatDue && (s.dev.state = .run || s.dev.state = .service) then
      done (s.calOffer ch 5 c.commanded)
    else if s.calAuto ch then
      match s.calTrigger ch with
      | some t => done (s.calOffer ch t false)
      | none => done s
    else done s

/-- A channel whose run holds its quad's statistics unit. -/
def State.acquiring (s : State) (n : ChId) : Bool := s.cal[n].state = .acquire || s.cal[n].state = .paused

/-- A run whose domain is idle for it, and which waits for the statistics unit alone (R134). -/
def State.waitsUnit (s : State) (n : ChId) : Bool :=
  s.cal[n].state = .pending && s.sched[chDomain n].pending = some .cal && s.sched[chDomain n].running.isNone

/-- Of two waiting runs the first precedes: commanded ones first, then lower channels (R134). -/
def State.precedes (s : State) (m n : ChId) : Bool :=
  if s.cal[m].commanded = s.cal[n].commanded then m.val < n.val else s.cal[m].commanded

/-- The run may take the statistics unit of its quad (R134). -/
def State.unitGranted (s : State) (n : ChId) : Bool :=
  s.waitsUnit n && all16.all fun m =>
    m = n || m.val / 4 ≠ n.val / 4 || (!s.acquiring m && !(s.waitsUnit m && s.precedes m n))

/-- The nodes of a scope (R130). -/
def scopeNodes (c : CalCfg) : List Nat :=
  if c.scope = 0 then List.range 1024
  else
    let f := c.arcFirst.toNat
    let n := (c.arcLast.toNat + 1024 - f) % 1024 + 1
    (List.range n).map fun i => (f + i) % 1024

/-- An arc holds at least 16 nodes (R130). -/
def checkArc (n : ChId) (_ : State) (get : Key → Int) (_ : Key) (_ : Int) : Except Nak Unit :=
  need (16 ≤ (get (Reg.CAL_ARC_LAST n) - get (Reg.CAL_ARC_FIRST n)) % 1024 + 1) nakRange

/-- A result of another kind, scope or target set is no candidate any more (R141). -/
def CalResult.sameAs (r : CalResult) (c : CalCfg) (set : Nat) : Bool :=
  r.kind = c.kind && r.scope = c.scope && (c.scope = 0 || (r.arcFirst = c.arcFirst && r.arcLast = c.arcLast)) && r.set = set

/-- The run holds its channel's domain from the grant on (R317). -/
def State.takeDomain (s : State) (n : ChId) : State :=
  s.modSched (chDomain n) fun x => { x with running := some .cal, pending := none, since := s.now, edge := none }

/-- CAL_GRANT: both grants are there; the configuration is read, the target set and T_start are fixed (R134, R150). What
R131 and R139 ask of a start is asked of the values read here as well: an automatic trigger that no longer holds ends
without a result, another run ends ABORTED, with CHANNEL_OFF in OFF and DEVICE_STATE otherwise (DEDUCED, log entry 82). -/
def State.calGrant (s : State) (n : ChId) : State :=
  let c := s.cal[n]
  let auto := c.trigger = 1 || c.trigger = 2 || c.trigger = 4
  let fits := s.kindAllowed n && !s.baselineArc n && (s.dev.state = .run || s.dev.state = .service)
  if auto && ((s.calTrigger n).isNone || !fits) then
    (s.modCal n fun c => { c with state := .idle, granted := false }).schedWithdraw (chDomain n) .cal
  else if s.ch[n].state = .off then s.abortRun n 2
  else if !fits then s.abortRun n 4
  else
    let cfg := s.calCfg n
    let set := s.governing n
    let s := (s.takeDomain n).modCal n fun c =>
      { c with
        state := .acquire, pause := 3, target := set, cfg := cfg, tStart := s.reg (Reg.CH_TEMP n), acquireAt := some s.now
        granted := true
        gates := false, window := none, winN := 0, stats := [], sumTemp := 0, tMean := 0, numObs := 0, sumXs := 0, sumXc := 0
        candidate := c.candidate.filter fun r => r.sameAs cfg set }
    let s := (s.setReg (Reg.CAL_COVERED n) 0).setReg (Reg.CAL_SCOPE_NODES n) (Int.ofNat (scopeNodes cfg).length)
    if s.ch[n].state = .track then s else s.calPause n 4

def execCalGrant (ch : ChId) (s : State) : Host.Outcome State Fault Refusal :=
  if s.alive && s.serviceOn && s.unitGranted ch then done (s.calGrant ch) else done s

/-! ### Windows and observations (R125 to R128) -/

/-- CAL_WINDOW_OPEN: the gates have held for CAL_GATE_SETTLE (R126). -/
def execCalWindowOpen (ch : ChId) (s : State) : Host.Outcome State Fault Refusal :=
  let c := s.cal[ch]
  if s.lanesOn && c.state = .acquire && c.gates && c.window.isNone then
    done (s.modCal ch fun c => { c with window := some [], winN := 0, pause := 0 })
  else done s

/-- A Q15 angle in rad as 2^-32 turn (R125). -/
def radTurn (u : Int) : Int := divRound (u * 2 ^ 16 * piDen) piNum

/-- An observation joins the open window; the angle is unwrapped through the carry count (R125). -/
def Cal.observe (c : Cal) (angle : Int) (o : Obs) : Cal :=
  match c.window with
  | none => c
  | some [] => { c with window := some [{ o with t := c.winN, th := angle }] }
  | some (l :: ls) =>
    { c with window := some ({ o with t := c.winN, th := l.th + wrapS 48 (angle - l.th) } :: l :: ls) }

/-- The motion gates: reason of the first that fails, if any (R128). -/
def gateFails (c : CalCfg) (vfs afs velWord accWord : Int) : Option Nat :=
  if Int.ofNat velWord.natAbs * vfs * 100 < c.vmin * 32768 then some 1
  else if c.amax * 32768 < Int.ofNat accWord.natAbs * afs then some 2
  else none

/-- No probe runs on the channel (R127). -/
def State.noProbe (s : State) (n : ChId) : Bool := s.sched[chDomain n].running ≠ some .probe

/-- A sample of a channel under calibration (R125, R127, R128). `used`: in TRACK and not discarded. -/
def State.calSample (s : State) (n : ChId) (used : Bool) (velWord accWord angle : Int) (o : Obs) : State :=
  let c := s.cal[n]
  match c.state with
  | .acquire | .paused =>
    let bad := gateFails c.cfg (s.reg (Reg.CH_VEL_FS n)) (s.reg (Reg.CH_ACC_FS n)) velWord accWord
    let s := s.modCal n fun c => { c with gates := bad.isNone }
    if c.state = .acquire then
      match bad with
      | some r => s.calPause n r
      | none =>
        let s := if used && s.noProbe n then s.modCal n fun c => c.observe angle o else s
        s.modCal n fun c => { c with winN := c.winN + 1 }
    else s
  | _ => s

/-- CAL_RESUME: every pause cause has cleared (R128). -/
def execCalResume (ch : ChId) (s : State) : Host.Outcome State Fault Refusal :=
  let c := s.cal[ch]
  if s.lanesOn && c.state = .paused && c.gates && s.ch[ch].state = .track && s.noProbe ch && !s.sched[chDomain ch].suspended then
    done (s.modCal ch fun c => { c with state := .acquire, pause := 3 })
  else done s

/-- CAL_WINDOW_TIMEOUT: the window has not closed within CAL_WIN_MAX and is discarded (R126). -/
def execCalWindowTimeout (ch : ChId) (s : State) : Host.Outcome State Fault Refusal :=
  let c := s.cal[ch]
  if s.lanesOn && c.state = .acquire && c.window.isSome then
    done (s.modCal ch fun c => { c with window := none, pause := 3 })
  else done s

/-- CAL_TIMEOUT: coverage is incomplete at CAL_TIMEOUT (R135). -/
def execCalTimeout (ch : ChId) (s : State) : Host.Outcome State Fault Refusal :=
  if s.alive && s.acquiring ch then done (s.endRun ch 4 32) else done s

/-! ### The fit of a window (R126, R127) -/

/-- The least-squares quadratic over one denominator: `c0 + c1 t + c2 t² = (n0 + n1 t + n2 t²) / d` (R126). -/
structure Fit where
  n0 : Int
  n1 : Int
  n2 : Int
  d : Int

/-- The sum of a quantity over observations. -/
def sumObs (os : List Obs) (f : Obs → Int) : Int := os.foldl (fun a o => a + f o) 0

/-- The normal equations of the quadratic fit, solved by determinants. -/
def fitOf (os : List Obs) : Fit :=
  let p (o : Obs) (k : Nat) : Int := Int.ofNat o.t ^ k
  let s0 := sumObs os fun o => p o 0
  let s1 := sumObs os fun o => p o 1
  let s2 := sumObs os fun o => p o 2
  let s3 := sumObs os fun o => p o 3
  let s4 := sumObs os fun o => p o 4
  let y0 := sumObs os fun o => o.th
  let y1 := sumObs os fun o => o.th * p o 1
  let y2 := sumObs os fun o => o.th * p o 2
  let det (a b c d e f g h i : Int) : Int := a * (e * i - f * h) - b * (d * i - f * g) + c * (d * h - e * g)
  { n0 := det y0 s1 s2 y1 s2 s3 y2 s3 s4
    n1 := det s0 y0 s2 s1 y1 s3 s2 y2 s4
    n2 := det s0 s1 y0 s1 s2 y1 s2 s3 y2
    d := det s0 s1 s2 s1 s2 s3 s2 s3 s4 }

/-- The fitted angle's numerator over `d` at a sample number. -/
def Fit.at_ (f : Fit) (t : Nat) : Int := f.n0 + f.n1 * Int.ofNat t + f.n2 * Int.ofNat t * Int.ofNat t

/-- The residual's numerator over `d`, in 2^-32 turn. -/
def Fit.res (f : Fit) (o : Obs) : Int := o.th * f.d - f.at_ o.t

/-- `round(1024 θ_fit) mod 1024` (R126). -/
def Fit.node (f : Fit) (t : Nat) : Nat := ((2 * f.at_ t + f.d * 2 ^ 22) / (f.d * 2 ^ 23) % 1024).toNat

/-- The rms of the residuals is at most CAL_WIN_RESID, in Q15 rad (R126). -/
def Fit.within (f : Fit) (os : List Obs) (lim : Int) : Bool :=
  let ss := sumObs os fun o => f.res o * f.res o
  -- sqrt(ss / (n d²)) * 2π / 2^32 ≤ lim / 2^15
  ss * 4 * piNum * piNum * 2 ^ 30 ≤ lim * lim * 2 ^ 64 * piDen * piDen * (Int.ofNat os.length * f.d * f.d)

/-- What a pass has contributed: its node and the counts of its quadrants (R127). -/
structure Pass where
  node : Option Nat := none
  counts : Vector Nat 4 := Vector.replicate 4 0

/-- One observation added to its node, at most 16 of a pass to each quadrant (R126, R127). -/
def addObs (f : Fit) (a : SMap NodeStat × Pass × List Obs) (o : Obs) : SMap NodeStat × Pass × List Obs :=
  let (m, p, used) := a
  let j := f.node o.t
  let fresh := p.node ≠ some j
  let counts := if fresh then Vector.replicate 4 0 else p.counts
  if 16 ≤ counts[o.quadrant] then (m, { node := some j, counts := counts }, used)
  else
    let st := SMap.find {} m j
    let q := st.q[o.quadrant]
    let q : QuadStat :=
      { n := q.n + 1, t := q.t + mkRat (f.res o) f.d.toNat, r := q.r + o.rho, s := q.s + o.codeS, c := q.c + o.codeC }
    let st := { st with q := vmod st.q o.quadrant fun _ => q, passes := if fresh then st.passes + 1 else st.passes }
    (SMap.put {} m j st, { node := some j, counts := vmod counts o.quadrant (· + 1) }, o :: used)

/-- The window's own mean of the tangential residual at each node it observed, for the quality figure (R146). -/
def addWindowMeans (f : Fit) (m : SMap NodeStat) (used : List Obs) : SMap NodeStat :=
  let nodes := (used.map fun o => f.node o.t).eraseDups
  nodes.foldl (fun m j =>
    let os := used.filter fun o => f.node o.t = j
    let mean : Rat := mkRat (sumObs os f.res) (f.d.toNat * os.length)
    let st := SMap.find {} m j
    SMap.put {} m j { st with windows := st.windows + 1, sumT := st.sumT + mean, sumT2 := st.sumT2 + mean * mean }) m

/-- An accepted window added to the run's statistics. -/
def Cal.accept (c : Cal) (f : Fit) (os : List Obs) : Cal :=
  let (m, _, used) := os.foldl (addObs f) (c.stats, {}, [])
  { c with
    stats := addWindowMeans f m used, numObs := c.numObs + used.length
    sumTemp := c.sumTemp + sumObs used fun o => o.temp
    sumXs := c.sumXs + sumObs used fun o => o.xs, sumXc := c.sumXc + sumObs used fun o => o.xc }

/-- A node is covered (R129). -/
def covered (c : CalCfg) (st : NodeStat) : Bool :=
  ((List.finRange 4).all fun i => 16 ≤ st.q[i].n) && c.minPasses.toNat ≤ st.passes && 2 ≤ st.windows

/-- The covered nodes of a run's scope. -/
def Cal.coveredCount (c : Cal) : Nat :=
  ((scopeNodes c.cfg).filter fun j => covered c.cfg (SMap.find {} c.stats j)).length

/-- The window has travelled CAL_WIN_TRAVEL from its opening (R126). -/
def Cal.travelled (c : Cal) : Bool :=
  match c.window with
  | some (l :: ls) =>
    c.cfg.winTravel * 2 ^ 24 ≤ Int.ofNat (l.th - ((l :: ls).getLast?.getD l).th).natAbs
  | _ => false

/-- The close of a window: fitted, and added or discarded (R126); complete coverage leads to EVALUATE (R129, R134). The fit
and its residual use every observation of the window, those past a pass's 16 and those at nodes outside an ARC scope among
them, which the rules leave open (DESIGN CHOICE, log entry 83). -/
def State.closeWindow (s : State) (n : ChId) (os : List Obs) : State :=
  let f := fitOf os
  let ok := f.d ≠ 0 && f.within os s.cal[n].cfg.winResid
  let s := s.modCal n fun c => { (if ok then c.accept f os else c) with window := none, pause := 3 }
  let count := s.cal[n].coveredCount
  let s := s.modCal n fun c => { c with tMean := if c.numObs = 0 then 0 else divRound c.sumTemp c.numObs }
  let s := (s.setReg (Reg.CAL_COVERED n) (Int.ofNat count)).setReg (Reg.CAL_T_MEAN n) s.cal[n].tMean
  if count = (scopeNodes s.cal[n].cfg).length then
    (s.modCal n fun c => { c with state := .evaluate, pause := 0, granted := false }).schedWithdraw (chDomain n) .cal
  else s

/-- CAL_WINDOW_CLOSE (R126). -/
def execCalWindowClose (ch : ChId) (s : State) : Host.Outcome State Fault Refusal :=
  let c := s.cal[ch]
  match c.window with
  | some os => if s.lanesOn && c.state = .acquire && c.travelled then done (s.closeWindow ch os.reverse) else done s
  | none => done s

/-! ### Evaluation (R132, R133, R146) -/

/-- The scale of the evaluation. -/
def evalOne : Int := 2 ^ 60

/-- A rational at the evaluation's scale, rounded to nearest. -/
def fixR (r : Rat) : Int := divRound (r.num * evalOne) (Int.ofNat r.den)

/-- The mean of the four quadrant means of a sum. -/
def quadMean (st : NodeStat) (f : QuadStat → Rat) : Int :=
  divRound ((List.finRange 4).foldl (fun a i => a + fixR (f st.q[i] / (st.q[i].n : Rat))) 0) 4

/-- 2^-32 turn in rad at the evaluation's scale, applied to a value at that scale. -/
def turnRad (x : Int) : Int := divRound (x * 2 * piNum) (2 ^ 32 * piDen)

/-- A node in evaluation: its number, t, r, the applied codes, its observations. -/
structure Node where
  j : Nat
  t : Int
  r : Int
  cs : Int
  cc : Int
  n : Nat

def nodeOf (m : SMap NodeStat) (j : Nat) : Node :=
  let st := SMap.find {} m j
  { j := j, t := turnRad (quadMean st (·.t)), r := divRound (quadMean st (·.r)) (2 ^ 31), cs := quadMean st (·.s)
    cc := quadMean st (·.c), n := (List.finRange 4).foldl (fun a i => a + st.q[i].n) 0 }

/-- Sine and cosine of `h θ_j`, scale 2^31. -/
def sinJ (h j : Nat) : Int := sinExact (BitVec.ofNat 32 (h * j * 2 ^ 22))
def cosJ (h j : Nat) : Int := cosExact (BitVec.ofNat 32 (h * j * 2 ^ 22))

/-- A value at the evaluation's scale times a sine or cosine. -/
def mulT (x c : Int) : Int := divRound (x * c) trigOne

/-- A harmonic coefficient: `(2/1024) Σ f(j) g(j)`. -/
def harmonic (ns : List Node) (f : Node → Int) (g : Nat → Int) : Int :=
  divRound (2 * ns.foldl (fun a x => a + mulT (f x) (g x.j)) 0) 1024

/-- The mean of a value over the nodes. -/
def meanN (ns : List Node) (f : Node → Int) : Int :=
  divRound (ns.foldl (fun a x => a + f x) 0) (Int.ofNat ns.length)

/-- The ellipse terms of a radial function: o_s, o_c, g_s, g_c, ε (R132). -/
def ellipse (ns : List Node) (f : Node → Int) : List Int :=
  let c0 := meanN ns f
  let b2 := harmonic ns f (cosJ 2)
  [harmonic ns f (sinJ 1), harmonic ns f (cosJ 1), c0 - b2, c0 + b2, -2 * harmonic ns f (sinJ 2)]

/-- The tangential residuals with the uniform offset removed and, in FULL scope, the first two harmonics taken from
the radial ones (R132). -/
def tangential (full : Bool) (ns : List Node) : List Node :=
  let m := meanN ns (·.t)
  let ns := ns.map fun x => { x with t := x.t - m }
  if !full then ns
  else
    let h (k : Nat) : Int × Int × Int × Int :=
      (harmonic ns (·.r) (sinJ k), harmonic ns (·.r) (cosJ k), harmonic ns (·.t) (sinJ k), harmonic ns (·.t) (cosJ k))
    let (a1, b1, at1, bt1) := h 1
    let (a2, b2, at2, bt2) := h 2
    ns.map fun x =>
      { x with
        t := x.t - mulT at1 (sinJ 1 x.j) - mulT bt1 (cosJ 1 x.j) - mulT at2 (sinJ 2 x.j) - mulT bt2 (cosJ 2 x.j) +
          mulT a1 (cosJ 1 x.j) - mulT b1 (sinJ 1 x.j) + mulT a2 (cosJ 2 x.j) - mulT b2 (sinJ 2 x.j) }

/-- `step` is 3 / 409,600 of signal full scale (R57, R132). -/
def toCodes (x : Int) : Int := divRound (x * 409600) 3

/-- The trim changes of a BASELINE run: ΔF_s, ΔF_c, ΔQ, ΔO_s, ΔO_c (R133). -/
structure TrimStep where
  fs : Int := 0
  fc : Int := 0
  q : Int := 0
  os : Int := 0
  oc : Int := 0

def trimStep (c : Cal) (ns : List Node) : TrimStep :=
  let tot (x : Node) : Int := x.r - divRound (3 * (mulT x.cs (sinJ 1 x.j) + mulT x.cc (cosJ 1 x.j))) 409600
  match ellipse ns tot with
  | [_, _, gs, gc, eps] =>
    { fs := -divRound (gs * 12800) evalOne, fc := -divRound (gc * 12800) evalOne, q := divRound (toCodes eps) evalOne
      os := -divRound (c.sumXs * 100) (Int.ofNat c.numObs * 9766000000)
      oc := -divRound (c.sumXc * 100) (Int.ofNat c.numObs * 9766000000) }
  | _ => {}

/-- The new bead of a node (R132, R133). One fine-gain LSB is 32/3 codes. A BASELINE bead is rounded once, after the trims'
share is subtracted, an order that no rule states (DESIGN CHOICE, log entry 84). -/
def newBead (d : TrimStep) (x : Node) : Nat × Int × Int × Nat :=
  let sn := sinJ 1 x.j
  let cn := cosJ 1 x.j
  let ds := mulT x.t cn + mulT x.r sn
  let dc := -mulT x.t sn + mulT x.r cn
  let sc := x.cs - toCodes ds - divRound (32 * d.fs * sn * 2 ^ 29) 3
  let cc := x.cc - toCodes dc - divRound (32 * d.fc * cn * 2 ^ 29) 3 - d.q * sn * 2 ^ 29
  (x.j, divRound sc evalOne, divRound cc evalOne, x.n)

/-- The quality figure (R146); a node's deviation is that of a sample of its windows (log entry 20). -/
def qualityOf (m : SMap NodeStat) (nodes : List Nat) : Nat :=
  let se2 (j : Nat) : Int :=
    let st := SMap.find {} m j
    let k : Rat := st.windows
    if st.windows < 2 then 0 else fixR ((st.sumT2 - st.sumT * st.sumT / k) / ((k - 1) * k))
  let mean := divRound (nodes.foldl (fun a j => a + se2 j) 0) (Int.ofNat nodes.length)
  -- 300 * 3437.747 * 2π / 2^32 * sqrt(mean), the mean in (2^-32 turn)² at the evaluation's scale
  let root := Int.ofNat (sqrtRound mean.toNat)
  min 65534 (divRound (root * 300 * 3437747 * 2 * piNum) (1000 * 2 ^ 32 * piDen * 2 ^ 30)).toNat

/-- The evaluated result of a run (R132, R133, R137, R146). -/
def State.calResult (s : State) (n : ChId) : CalResult :=
  let c := s.cal[n]
  let nodes := scopeNodes c.cfg
  let raw := nodes.map (nodeOf c.stats)
  let d := if c.cfg.kind = 1 then trimStep c raw else {}
  { kind := c.cfg.kind, scope := c.cfg.scope, arcFirst := c.cfg.arcFirst, arcLast := c.cfg.arcLast, set := c.target
    beads := (tangential (c.cfg.scope = 0) raw).map (newBead d)
    dFs := d.fs, dFc := d.fc, dQ := d.q, dOs := d.os, dOc := d.oc
    q := qualityOf c.stats nodes, tRun := intoCell s.reg c.target c.tMean }

/-! ### Acceptance (R132, R133, R140, R141) -/

/-- The trims that a BASELINE result gives: offsets, fine gains, cross term. -/
def State.newTrims (s : State) (n : ChId) (r : CalResult) : Trims :=
  let t := s.visTrims n
  { t with
    ofsSin := t.ofsSin + r.dOs, ofsCos := t.ofsCos + r.dOc, fgainSin := t.fgainSin + r.dFs
    fgainCos := t.fgainCos + r.dFc, quad := t.quad + r.dQ }

def trimsInRange (t : Trims) : Bool :=
  [t.ofsSin, t.ofsCos, t.fgainSin, t.fgainCos].all (fun x => -512 ≤ x && x ≤ 511) && -2048 ≤ t.quad && t.quad ≤ 2047

def beadOver (lim : Int) (b : Nat × Int × Int × Nat) : Bool :=
  lim < Int.ofNat b.2.1.natAbs || lim < Int.ofNat b.2.2.1.natAbs

def State.beadStep (s : State) (n : ChId) (r : CalResult) (lim : Int) (b : Nat × Int × Int × Nat) : Bool :=
  let old := s.beadAt n r.set b.1
  beadWeight old ≠ 0 &&
  (lim < Int.ofNat (b.2.1 - beadSin old).natAbs || lim < Int.ofNat (b.2.2.1 - beadCos old).natAbs)

/-- CLAMP and TRIM_RANGE, which every mode makes (R132, R133). -/
def State.calRange (s : State) (n : ChId) (r : CalResult) : Option Nat :=
  if r.beads.any fun b => b.2.1 < -2048 || 2047 < b.2.1 || b.2.2.1 < -2048 || 2047 < b.2.2.1 then some 16
  else if r.kind = 1 && !trimsInRange (s.newTrims n r) then some 17
  else none

/-- The checks of LIMITS in their order (R140). -/
def State.calLimits (s : State) (n : ChId) (r : CalResult) : Option Nat :=
  let c := s.cal[n].cfg
  if r.beads.any (beadOver c.limBead) then some 18
  else if r.beads.any (s.beadStep n r c.limStep) then some 19
  else if r.kind = 1 && (c.limGain.toNat < r.dFs.natAbs || c.limGain.toNat < r.dFc.natAbs || c.limQuad.toNat < r.dQ.natAbs) then
    some 20
  else if c.limQ < Int.ofNat r.q then some 21
  else none

/-- Two results agree within the tolerance (R141); 10.6667 codes are 32/3. -/
def agreeResults (tol : Int) (a b : CalResult) : Bool :=
  ((a.beads.zip b.beads).all fun (x, y) => (x.2.1 - y.2.1).natAbs ≤ tol.toNat && (x.2.2.1 - y.2.2.1).natAbs ≤ tol.toNat) &&
  (a.kind = 0 || (32 * (a.dFs - b.dFs).natAbs ≤ 3 * tol.toNat && 32 * (a.dFc - b.dFc).natAbs ≤ 3 * tol.toNat &&
    (a.dQ - b.dQ).natAbs ≤ tol.toNat))

/-- The mean of two results, the later one's figure and temperature (R141; log entry 20). -/
def meanResults (a b : CalResult) : CalResult :=
  let h (x y : Int) : Int := divRound (x + y) 2
  { b with
    beads := (a.beads.zip b.beads).map fun (x, y) => (y.1, h x.2.1 y.2.1, h x.2.2.1 y.2.2.1, x.2.2.2 + y.2.2.2)
    dFs := h a.dFs b.dFs, dFc := h a.dFc b.dFc, dQ := h a.dQ b.dQ, dOs := h a.dOs b.dOs, dOc := h a.dOc b.dOc }

/-- The row of a result: its beads over the present ones (R119, R120, R130). -/
def State.rowBeads (s : State) (n : ChId) (r : CalResult) : List (BitVec 32) :=
  (List.range 1024).map fun j =>
    match r.beads.find? fun b => b.1 = j with
    | some b => beadOf b.2.1 b.2.2.1 (min 255 (b.2.2.2 / 64))
    | none => s.beadAt n r.set j

/-- An accepted result goes to the lane's staging row (R137, R142). -/
def State.calAccept (s : State) (n : ChId) (r : CalResult) : State :=
  let s := s.modCal n fun c =>
    { c with state := .apply, qRun := r.q, candidate := if r.kind = 1 then none else c.candidate }
  let old := s.sets[setIx n (setNo r.set)]
  s.stage
    { ch := n, set := r.set, beads := s.rowBeads n r, source := r.kind.toNat
      trims := if r.kind = 1 then some (s.newTrims n r) else none
      record := { old with
        calibrated := true, part := r.scope = 1, hostLoaded := false, tRun := r.tRun, q := r.q
        arcFirst := if r.scope = 1 then r.arcFirst else 0, arcLast := if r.scope = 1 then r.arcLast else 1023 } }

/-- The run ends CANDIDATE and asks for a second one at once (R137, R141). -/
def State.calCandidate (s : State) (n : ChId) (r : CalResult) : State :=
  let s := s.modCal n fun c => { c with state := .idle, result := 2, detail := 0, candidate := some r, repeatDue := true }
  (s.logCal n).calOffer n 5 s.cal[n].commanded

/-- REPEAT (R141). -/
def State.calRepeat (s : State) (n : ChId) (r : CalResult) : State :=
  match s.cal[n].candidate with
  | none => s.calCandidate n r
  | some old =>
    if agreeResults s.cal[n].cfg.repeatTol old r then
      (s.modCal n fun c => { c with candidate := none }).calAccept n (meanResults old r)
    else (s.modCal n fun c => { c with candidate := some r }).endRun n 3 22

/-- The end of EVALUATE (R134, R140). -/
def State.calDecide (s : State) (n : ChId) (r : CalResult) : State :=
  match s.calRange n r with
  | some d => s.endRun n 3 d
  | none =>
    match (if s.cal[n].cfg.accept = 1 then none else s.calLimits n r) with
    | some d => s.endRun n 3 d
    | none => if s.cal[n].cfg.accept = 0 then s.calAccept n r else s.calRepeat n r

/-- The ellipse terms of a FULL evaluation, in 2^-24 (R132, R151). -/
def State.showEllipse (s : State) (n : ChId) : State :=
  let c := s.cal[n]
  if c.cfg.scope ≠ 0 then s
  else
    let es := ellipse ((List.range 1024).map (nodeOf c.stats)) (·.r)
    es.zipIdx.foldl (fun s (e, i) => s.setReg (Reg.CAL_ELL_OS n + i) (clampI (-(2 ^ 31)) (2 ^ 31 - 1) (divRound e (2 ^ 36)))) s

/-- CAL_EVALUATE (R132 to R141). -/
def execCalEvaluate (ch : ChId) (s : State) : Host.Outcome State Fault Refusal :=
  if s.alive && s.serviceOn && s.cal[ch].state = .evaluate then
    let r := s.calResult ch
    let s := s.modCal ch fun c => { c with qRun := r.q }
    done ((s.showEllipse ch).calDecide ch r)
  else done s

/-! ### The row takes effect (R137, R142) -/

/-- The run whose row has taken effect: ACCEPTED, and its commit is asked for (R134, R137). -/
def State.calApplied (s : State) (n : ChId) : State :=
  let s := s.modCal n fun c => { c with state := .commit, result := 1, detail := 0 }
  ((s.bump (Reg.CAL_CNT_ACCEPTED n)).logCal n).cfgGen.commitOffer

/-- The trims of a BASELINE row take effect at its boundary (R142). -/
def State.rowTrims (s : State) (n : ChId) (t : Trims) : State :=
  let s := ((s.setReg (Reg.CH_OFS_SIN n) t.ofsSin).setReg (Reg.CH_OFS_COS n) t.ofsCos).setReg (Reg.CH_FGAIN_SIN n) t.fgainSin
  let s := (s.setReg (Reg.CH_FGAIN_COS n) t.fgainCos).setReg (Reg.CH_QUAD_TRIM n) t.quad
  s.modCh n fun c =>
    { c with trims := { c.trims with
        ofsSin := t.ofsSin, ofsCos := t.ofsCos, fgainSin := t.fgainSin, fgainCos := t.fgainCos, quad := t.quad }
             armed := c.armed.map fun a => { a with
        ofsSin := t.ofsSin, ofsCos := t.ofsCos, fgainSin := t.fgainSin, fgainCos := t.fgainCos, quad := t.quad } }

/-- The set records at the boundary where a row takes effect (R137, R142, R148). -/
def State.rowRecords (s : State) (x : Staging) : State :=
  let old := s.sets[setIx x.ch (setNo x.set)]
  let new :=
    if x.source ≤ 1 then { x.record with count := (satInc 32 (Int.ofNat old.count)).toNat, time := s.now80 } else x.record
  let s :=
    if x.source = 1 then
      s.each (List.finRange 8) fun s k => { s with sets := vmod s.sets (setIx x.ch k) fun r => { r with calibrated := false } }
    else s
  { s with sets := vmod s.sets (setIx x.ch (setNo x.set)) fun _ => new }

/-- The lane reads the staged row from this sample boundary on (R142). -/
def State.rowApply (s : State) (x : Staging) : State :=
  let s := s.modBead fun b => { b with staging := vmod b.staging (quadOf x.ch) fun _ => some { x with inUse := true } }
  let s := s.rowRecords x
  let s : State := match x.trims with | some t => s.rowTrims x.ch t | none => s
  let count := s.sets[setIx x.ch (setNo x.set)].count
  let s : State := if x.source ≤ 2 then
    s.modBead fun b => { b with deltas := b.deltas ++ [(x.ch.val, x.set, x.source, count)] } else s
  if x.source ≤ 1 ∧ s.cal[x.ch].state = .apply then s.calApplied x.ch else s

/-- A row with trims waits for the trim boundary: a zero crossing of a driving exciter (R52, R55, R142). -/
def State.rowDue (s : State) (x : Staging) : Bool := x.trims.isNone || x.armed || !s.exc[s.excIx x.ch].driving

def execRowApply (ch : ChId) (s : State) : Host.Outcome State Fault Refusal :=
  match s.bead.staging[quadOf ch] with
  | some x =>
    if s.lanesOn && x.ch = ch && !x.inUse && !s.commitWrites && s.rowDue x then done (s.rowApply x) else done s
  | none => done s

end Sys2Proof.Machine
end

