-- ==== Sys2Proof/Machine/Capture.lean ====
section
/-!
DEFINITION. The capture (R90 to R92).
-/

namespace Sys2Proof.Machine

/-- The record of a sample (R91). -/
def capRecord (time : Time32) (angle : Nat) (ch st : Nat) (inj : Bool) (u vel acc injVal : Int) : Bytes :=
  leBytes 4 time.toNat ++ leBytes 3 angle ++ leBytes 1 (ch * 16 + st * 2 + b2n inj) ++ leInt 2 u ++ leInt 2 vel ++
  leInt 2 acc ++ leInt 2 (if inj then injVal else 0)

/-- The number of records that the RAM holds (R90). -/
def capSize : Nat := 32768

/-- Recording is under way. -/
def Capture.recording (c : Capture) : Bool := c.state = .running || c.state = .triggered

/-- The place of the trigger record, counted from the newest, after a record has been put at place `p` (R96): the oldest
record that has come since the trigger. -/
def trigPlace (t : Option Nat) (p : Nat) : Nat :=
  match t with
  | none => p
  | some k => if p ≤ k then k + 1 else p

/-- One record of channel `n` written, at its place in channel order among those of the present frame, and the end of
recording (R90, R92). -/
def Capture.put (c : Capture) (n : Nat) (r : Bytes) : Capture :=
  let p := (c.frame.filter fun m => n < m).length
  let c :=
    { c with
      recs := (c.recs.take p ++ r :: c.recs.drop p).take capSize
      frame := c.frame.take p ++ n :: c.frame.drop p
      since := c.since.map (· + 1)
      trigAt := if c.state = CapState.triggered then some (trigPlace c.trigAt p) else c.trigAt }
  if c.ring then (if c.since.any fun k => c.post ≤ k then { c with state := .done } else c)
  else if c.recs.length = capSize then { c with state := .done } else c

/-- A sample of a captured channel: the trigger, then the record of every D-th sample (R90, R92). `first` marks the
first injected sample of a test. -/
def State.capSample (s : State) (n : ChId) (first : Bool) (t0 : Time32) (r : Bytes) : State :=
  let c := s.cap
  if !(c.mask.contains n.val && (c.state = .armed || c.recording)) then s
  else
    let hit := (c.trigger = 1 && first) || (c.trigger = 3 && reached t0 c.trigTime)
    let s := if hit then s.capTrigger else s
    let k := s.front[n].capN + 1
    let full : Bool := c.decim.getD n.val 1 ≤ k
    let s := s.modFront n fun f => { f with capN := if full then 0 else k }
    if full && s.cap.recording then s.modCap fun c => c.put n.val r else s

/-- CAP_ARM reads the configuration and arms; recording begins at once in RING mode and with the trigger COMMAND
(R90, R92). -/
def effCapArm : Eff := fun s =>
  let ring : Bool := s.reg Reg.CAP_MODE = 1
  let trigger := s.reg Reg.CAP_TRIGGER
  let post := s.regN Reg.CAP_POST
  let c : Capture :=
    { state := if trigger = 0 then .triggered else if ring then .running else .armed
      ring := ring, trigger := trigger, trigTime := t32 (s.reg Reg.CAP_TRIG_TIME), post := post
      mask := (List.range 16).filter fun n => s.flag (Reg.CH_CAP_EN n)
      decim := (List.range 16).map fun n => s.regN (Reg.CH_CAP_DECIM n)
      recs := [], since := if ring && trigger = 0 then some 0 else none }
  let c := if ring && trigger = 0 && post = 0 then { c with state := .done } else c
  .ok ((s.modCap fun _ => c).each all16 fun s n => s.modFront n fun f => { f with capN := 0 })

def execCapArm (p : Port) (s : State) : Host.Outcome State Fault Refusal := hostCmd p Reg.CAP_ARM effCapArm s

/-- CAP_STOP returns to IDLE and keeps the records (R92). -/
def effCapStop : Eff := fun s => .ok (s.modCap fun c => { c with state := .idle })

def execCapStop (p : Port) (s : State) : Host.Outcome State Fault Refusal := hostCmd p Reg.CAP_STOP effCapStop s

/-- The configuration of a capture that is armed or runs is not writable (R90). -/
def checkCap (s : State) (_ : Key → Int) (_ : Key) (_ : Int) : Except Nak Unit :=
  need (!(s.cap.state = .armed || s.cap.recording)) nakCond

end Sys2Proof.Machine
end

