-- ==== Sys2Proof/Machine/Crypto.lean ====
section
/-!
DEFINITION. SHA-256 and HMAC-SHA-256 (R331), and the verification of an ECDSA P-256 signature (R323), by their published
standards (log entry 23).
-/

namespace Sys2Proof.Machine

/-! ### SHA-256

Its constants are digits of roots of primes: the first 32 binary places of the square roots of the first eight primes
start the hash, those of the cube roots of the first sixty-four are the round constants. -/

/-- The first sixty-four primes. -/
def firstPrimes : List Nat :=
  (List.range 312).filter fun p => 2 ≤ p && [2, 3, 5, 7, 11, 13, 17].all fun d => p % d ≠ 0 || p = d

/-- The greatest `r` below `r0 + 2^n` whose cube does not exceed `x`, found bit by bit from `r0`. -/
def cubeRoot : Nat → Nat → Nat → Nat
  | 0, _, r => r
  | n + 1, x, r => cubeRoot n x (if (r + 2 ^ n) ^ 3 ≤ x then r + 2 ^ n else r)

/-- The round constants, in the order of their rounds. -/
def roundConstants : List (BitVec 32) := firstPrimes.map fun p => BitVec.ofNat 32 (cubeRoot 36 (p * 2 ^ 96) 0)

/-- The eight words that a hash starts from. -/
def hashStart : Vector (BitVec 32) 8 := Vector.ofFn fun i => BitVec.ofNat 32 (isqrt (firstPrimes.getD i.val 0 * 2 ^ 64))

/-- A word turned right by each of some distances, added modulo 2. -/
def turned (w : BitVec 32) (by_ : List Nat) : BitVec 32 := by_.foldl (fun a n => a ^^^ w.rotateRight n) 0

/-- Bits of `y` where `x` has ones, bits of `z` elsewhere. -/
def chosen (x y z : BitVec 32) : BitVec 32 := (x &&& (y ^^^ z)) ^^^ z

/-- The value that at least two of three bits have, bit by bit. -/
def majority (x y z : BitVec 32) : BitVec 32 := (x &&& (y ||| z)) ||| (y &&& z)

/-- The schedule of a block: its sixteen words, oldest last, with `n` further ones put before them. -/
def scheduleFrom : Nat → List (BitVec 32) → List (BitVec 32)
  | 0, w => w
  | n + 1, w =>
    let old (i : Nat) : BitVec 32 := w.getD (i - 1) 0
    let near := turned (old 2) [17, 19] ^^^ old 2 >>> 10
    let far := turned (old 15) [7, 18] ^^^ old 15 >>> 3
    scheduleFrom n ((near + old 7 + far + old 16) :: w)

/-- One round: its constant and schedule word come as one sum. -/
def hashRound (v : Vector (BitVec 32) 8) (kw : BitVec 32) : Vector (BitVec 32) 8 :=
  let up := v[7] + kw + turned v[4] [6, 11, 25] + chosen v[4] v[5] v[6]
  let down := turned v[0] [2, 13, 22] + majority v[0] v[1] v[2]
  Vector.ofFn fun i =>
    if i.val = 0 then up + down else if i.val = 4 then v[3] + up else v.toList.getD (i.val - 1) 0

/-- The hash after one block of 64 bytes. -/
def hashBlock (v : Vector (BitVec 32) 8) (bs : Bytes) : Vector (BitVec 32) 8 :=
  let words := (List.range 16).map fun i => BitVec.ofNat 32 (beNat (sliceB (60 - 4 * i) 4 bs))
  let sums := (roundConstants.zip (scheduleFrom 48 words).reverse).map fun x => x.1 + x.2
  let r := sums.foldl hashRound v
  Vector.ofFn fun i => v[i] + r[i]

/-- SHA-256: the message, a one bit, zeros and the 64-bit length fill whole blocks. -/
def sha256 (m : Bytes) : Bytes :=
  let tail := 0x80#8 :: (List.replicate ((119 - m.length % 64) % 64) 0#8 ++ beBytes 8 (8 * m.length))
  let blocks := (m.length + tail.length) / 64
  let r := (List.range blocks).foldl (fun v i => hashBlock v (sliceB (64 * i) 64 (m ++ tail))) hashStart
  r.toList.flatMap fun w => beBytes 4 w.toNat

/-- HMAC-SHA-256 under a key of at most 64 bytes. -/
def hmac256 (key m : Bytes) : Bytes :=
  let k := padTo 64 key
  sha256 (k.map (· ^^^ 0x5C#8) ++ sha256 (k.map (· ^^^ 0x36#8) ++ m))

/-! ### P-256 -/

/-- The field prime, the curve's b, the order and the base point of P-256. -/
def p256P : Nat := 0xffffffff00000001000000000000000000000000ffffffffffffffffffffffff
def p256B : Nat := 0x5ac635d8aa3a93e7b3ebbd55769886bc651d06b0cc53b0f63bce3c3e27d2604b
def p256N : Nat := 0xffffffff00000000ffffffffffffffffbce6faada7179e84f3b9cac2fc632551
def p256X : Nat := 0x6b17d1f2e12c4247f8bce6e563a440f277037d812deb33a0f4a13945d898c296
def p256Y : Nat := 0x4fe342e2fe1a7f9b8ee7eb4a7c0f9e162bce33576b315ececbb6406837bf51f5

/-- `b^e mod m` over the low `n` bits of `e`. -/
def powMod : Nat → Nat → Nat → Nat → Nat
  | 0, _, _, _ => 1
  | n + 1, b, e, m =>
    let r := powMod n (b * b % m) (e / 2) m
    if e % 2 = 1 then b * r % m else r

/-- The inverse modulo a prime. -/
def invMod (x m : Nat) : Nat := powMod 256 (x % m) (m - 2) m

/-- A difference modulo `m`. -/
def subMod (x y m : Nat) : Nat := (x + (m - y % m)) % m

/-- A point of the curve; none is the point at infinity. -/
abbrev Point := Option (Nat × Nat)

/-- The sum of two points. -/
def pointAdd (p q : Point) : Point :=
  match p, q with
  | none, q => q
  | p, none => p
  | some (x1, y1), some (x2, y2) =>
    if x1 = x2 ∧ (y1 + y2) % p256P = 0 then none
    else
      let l :=
        if x1 = x2 then (3 * x1 * x1 + (p256P - 3)) * invMod (2 * y1) p256P % p256P
        else subMod y2 y1 p256P * invMod (subMod x2 x1 p256P) p256P % p256P
      let x := subMod (subMod (l * l) x1 p256P) x2 p256P
      some (x, subMod (l * subMod x1 x p256P) y1 p256P)

/-- `k` times a point, over the low `n` bits of `k`. -/
def pointMul : Nat → Nat → Point → Point
  | 0, _, _ => none
  | n + 1, k, p =>
    let r := pointMul n (k / 2) (pointAdd p p)
    if k % 2 = 1 then pointAdd p r else r

/-- The point lies on the curve. -/
def onCurve (x y : Nat) : Bool :=
  x < p256P && y < p256P && y * y % p256P = (x * x * x + (p256P - 3) * x + p256B) % p256P

/-- An ECDSA P-256 signature (r, s) of a hash under a public key. -/
def ecdsaOk (hash : Nat) (r s qx qy : Nat) : Bool :=
  if r = 0 ∨ p256N ≤ r ∨ s = 0 ∨ p256N ≤ s ∨ !onCurve qx qy then false
  else
    let w := invMod s p256N
    match pointAdd (pointMul 256 (hash * w % p256N) (some (p256X, p256Y))) (pointMul 256 (r * w % p256N) (some (qx, qy))) with
    | none => false
    | some (x, _) => x % p256N = r

end Sys2Proof.Machine
end

