-- ==== Sys2Proof/Machine/FaultCmds.lean ====
section
/-!
DEFINITION. The commands of fault collection (R199 to R223): raising and clearing a source, its configuration, the force
bit, the collector's self-checks and the floor's capture.
-/

namespace Sys2Proof.Machine

/-! ### Rails -/

/-- The Mitten sees the rails: it draws its power from VIO, whatever VCORE, VDD18 or a device reset does (R13, R212). -/
def State.railsOn (s : State) : Bool := s.sup.vio

/-- CLK_FLOOR raises for a FLOOROSC off its window or for one without edges (R213; log entry 68). -/
def State.oscRaise (s : State) (id : Nat) : State :=
  if id = 6 && !(s.src 6).cond && Config.floorAbsent s.now then
    s.modFloor fun f => { f with oscLost := true, since := if f.oscLost then f.since else s.now - f.since }
  else s

/-- FLOOROSC returns with the end of CLK_FLOOR: the capture that waited for it is made (R213). -/
def State.oscReturn (s : State) (id : Nat) : State :=
  if id = 6 then
    s.modFloor fun f =>
      { f with
        oscLost := false, since := if f.oscLost then s.now - f.since else f.since
        first := f.first.orElse fun _ => f.late, late := none }
  else s

/-- FAULT_RAISE: a source's rails show condition present (R206, R210). -/
def execFaultRaise (id : SrcId) (s : State) : Host.Outcome State Fault Refusal :=
  if s.railsOn then done ((s.oscRaise id.val).raise id.val) else done s

/-- FAULT_CONDITION_GONE (R215). -/
def execFaultConditionGone (id : SrcId) (s : State) : Host.Outcome State Fault Refusal :=
  if s.railsOn then done ((s.gone id.val).oscReturn id.val) else done s

/-- The first fault captured as a rail error of source `id` (R202, R219). -/
def State.captureRail (s : State) (id : Nat) : State :=
  if s.floor.first.isSome then s
  else
    let (c, r, _) := s.fltNow id
    let x : FirstFault :=
      { id := id, cls := c, reaction := r, rail := true
        suspect := s.clkFail || id = 4 || id = 5 || id = 6, time := s.timeNow, tick := s.tick }
    s.modFloor fun f => if f.oscLost then { f with late := f.late.orElse fun _ => some x } else { f with first := some x }

/-- RAIL_ERROR: an illegal pair counts as condition present, and FC_RAIL raises (R202). -/
def execRailError (id : SrcId) (s : State) : Host.Outcome State Fault Refusal :=
  if s.railsOn && assigned id.val then
    let s := s.raiseWith id.val fun f => { f with cond := true, rail := true }
    done ((s.captureRail id.val).raise 0)
  else done s

/-! ### Clearing (R215, R216) -/

/-- Some source of class FATAL or reaction DEVICE-SAFE is ACTIVE or LATCHED (R263). -/
def State.safeHeld (s : State) : Bool := s.anyFlt fun c r _ => c = 2 || r = 3

/-- Exciters that the Mitten held leave HELD and start again when they are enabled (R264). -/
def State.freeExciters (s : State) : State :=
  s.each (List.finRange 4) fun s e =>
    (s.modExc e fun x => if x.state = .held then { x with state := .off } else x).excSync e

/-- A DEVICE-SAFE hold that has outlasted a reset ends with the last FATAL or DEVICE-SAFE source, since the device is not
in SAFE then and no LEAVE_SAFE is due (R351, R354; log entry 86). -/
def State.endHold (s : State) : State :=
  if s.floor.deviceSafe && s.sup.booted && !(s.dev.state = .safe) && !s.safeHeld then
    ((s.modFloor fun f => { f with deviceSafe := false }).freeExciters).showOutputs
  else s

/-- FC_COPY waits for a comparison that passed (R222). -/
def State.clearable (s : State) (id : Nat) : Bool := !(id = 1 && !s.fc.copyOk)

/-- FLT_CLEAR (R215). -/
def effFltClear (id : SrcId) : Eff := fun s =>
  match (s.src id.val).state with
  | .idle => .ok s
  | .active => .error nakCond
  | .latched => if s.clearable id.val then .ok (s.idleSrc id.val).endHold else .error nakCond

def execFltClear (p : Port) (id : SrcId) (s : State) : Host.Outcome State Fault Refusal :=
  hostCmd p (Reg.FLT_CLEAR id) (effFltClear id) s

/-- FC_CLEAR_ALL: every LATCHED source that the writer's role may clear (R215). -/
def effClearAll (p : Port) : Eff := fun s =>
  let may (id : Nat) : Bool :=
    s.clearable id && (s.roleOf p).atLeast (if (s.fltNow id).1 = 2 then .integrator else .operator)
  .ok (s.each ((s.fc.srcs.map fun x => x.1).filter may) State.idleSrc).endHold

def execFcClearAll (p : Port) (s : State) : Host.Outcome State Fault Refusal :=
  hostCmd p Reg.FC_CLEAR_ALL (effClearAll p) s

/-- FAULT_AUTO_CLEAR: a CONTAINED source has been LATCHED for FC_AUTO_HOLD (R216). -/
def execFaultAutoClear (id : SrcId) (s : State) : Host.Outcome State Fault Refusal :=
  if s.alive && (s.fltNow id.val).1 = 1 && (s.src id.val).state = .latched && s.flag (Reg.FLT_AUTO_CLEAR id) then
    done (s.idleSrc id.val).endHold
  else done s

/-! ### Class, reaction, route, auto-clear (R205, R216, R217) -/

/-- The address of a configuration field. -/
def fltKey (o : FltField) (id : Nat) : Key :=
  match o with
  | .cls => Reg.FLT_CLASS id
  | .reaction => Reg.FLT_REACTION id
  | .route => Reg.FLT_OKAY_ROUTE id
  | .autoClear => Reg.FLT_AUTO_CLEAR id

/-- The rules of R205 on a class, a reaction and a route, and of R216 on a class and the auto-clear bit. -/
def fltRules (id : Nat) (c r o auto : Int) : Bool :=
  (c ≠ 2 || (r = 3 && o = 1 && auto = 0)) && (c ≠ 0 || (r ≤ 1 && o = 0)) && (r ≠ 2 || (64 ≤ id && id < 896))

/-- The conditions of a configuration write in the configuration as it would stand (R201, R205, R216, R335). -/
def checkFlt (p : Port) (o : FltField) (id : Nat) (s : State) (get : Key → Int) (k : Key) (v : Int) : Except Nak Unit := do
  let auto := o = .autoClear
  need (auto || (assigned id && !fixedSrc id)) nakRange
  need (fltRules id (get (Reg.FLT_CLASS id)) (get (Reg.FLT_REACTION id)) (get (Reg.FLT_OKAY_ROUTE id))
    (get (Reg.FLT_AUTO_CLEAR id))) nakRange
  need (auto || !(s.sec.lifecycle = 2 && v < regDefault k && s.roleOf p ≠ .vendor)) nakCond
  need (auto || !(id = 1089 && s.sec.lifecycle = 2 && s.sec.debug = 2)) nakCond

/-- A visible change of class, reaction or route: what it raises applies at once to a source that is not IDLE, what it
lowers after the next return to IDLE (R217). `old` is what was in effect. -/
def State.fltApply (s : State) (id : Nat) (old : Nat × Nat × Bool) : State :=
  let f := s.src id
  if f.state = .idle then s.setSrc id { f with eff := none }
  else
    let new := s.fltVisible id
    let e : Nat × Nat × Bool := (max old.1 new.1, max old.2.1 new.2.1, old.2.2 || new.2.2)
    let s := s.setSrc id { f with eff := if e = new then none else some e }
    let s : State :=
      if old.2.1 < 2 ∧ 2 ≤ e.2.1 then
        let (em, ps) := s.scope id
        let f := s.src id
        (s.setSrc id { f with emus := f.emus ||| em, psws := f.psws ||| ps }).showOutputs
      else s
    if old.2.1 < 3 ∧ e.2.1 = 3 then
      s.modFloor fun x => { x with lastId := id, request := x.request || !s.inSafe }
    else s

/-- An accepted configuration write of a source. -/
def effFlt (p : Port) (o : FltField) (id : Nat) (v : Int) : Eff := fun s => do
  let k := fltKey o id
  checkFlt p o id s (overlay s.reg [(k, v)]) k v
  let old := s.fltNow id
  .ok (if o = .autoClear then s.setRws k v else (s.setRws k v).fltApply id old)

def execFltConfigWrite (p : Port) (id : SrcId) (o : FltField) (v : Int) (s : State) : Host.Outcome State Fault Refusal :=
  hostSet p (fltKey o id.val) v (effFlt p o id.val) s

/-! ### Force bits, counters -/

/-- The force bit may be set (R221, R333). -/
def State.forceAllowed (s : State) (p : Port) : Bool :=
  s.sec.lifecycle = 1 ||
  (s.sec.lifecycle = 2 && s.dev.state = .service && (s.roleOf p).atLeast .integrator && !s.red.clmOut)

/-- FLT_FORCE: 1 holds the rails at condition present, 0 lets the source fall (R201, R221). -/
def effFltForce (p : Port) (id : Nat) (v : Int) : Eff := fun s => do
  need (assigned id) nakRange
  if v = 1 then
    need (s.forceAllowed p) nakCond
    .ok (s.raiseWith id fun f => { f with force := true })
  else
    .ok (((s.setSrc id { s.src id with force := false }).dropSrc id).releaseScopes)

def execFltForce (p : Port) (id : SrcId) (v : Int) (s : State) : Host.Outcome State Fault Refusal :=
  hostSet p (Reg.FLT_FORCE id) v (effFltForce p id.val) s

/-- FLT_CNT_RESET (R218). -/
def effFltCntReset (id : Nat) : Eff := fun s =>
  .ok (s.setSrc id { s.src id with count := 0, first := none, last := none })

def execFltCntReset (p : Port) (id : SrcId) (s : State) : Host.Outcome State Fault Refusal :=
  hostCmd p (Reg.FLT_CNT_RESET id) (effFltCntReset id.val) s

/-! ### Self-checks and the floor -/

/-- The address of a configuration field of some source. -/
def isFltConfig (k : Key) : Bool :=
  baseKey k ∈ [Reg.FLT_CLASS 0, Reg.FLT_REACTION 0, Reg.FLT_OKAY_ROUTE 0, Reg.FLT_AUTO_CLEAR 0]

/-- The address of a class, a reaction or a route, whose change a source takes by R217. -/
def isFltReaction (k : Key) : Bool := isFltConfig k && baseKey k ≠ Reg.FLT_AUTO_CLEAR 0

/-- Values that become visible at one edge: each source whose class, reaction or route is among them takes all of its
fields as one change (R217, R270). -/
def State.setConfig (s : State) (vs : List (Key × Int)) : State :=
  let t := vs.foldl (fun s x => s.setReg x.1 x.2) s
  t.each (((vs.map fun x => x.1).filter isFltReaction).map unitOf).eraseDups fun t id => t.fltApply id (s.fltNow id)

/-- The CRC-32 of a generation's records, over the objects that it lists (R273; log entry 87). -/
def storeCrc (vs : SMap Int) : BitVec 32 := crc32 (vs.flatMap fun x => leBytes 4 x.1 ++ leInt 8 x.2)

/-- The newest valid store generation (R275). -/
def newestStore (g : Vector StoreGen 2) : Option (Fin 2) :=
  if g[0].valid && (!g[1].valid || g[1].counter ≤ g[0].counter) then some 0
  else if g[1].valid then some 1 else none

/-- What the dictionary store holds for an object; without a valid generation, its default (R273, R275). -/
def State.stored (s : State) (k : Key) : Int :=
  match newestStore s.store.gens with
  | some g => SMap.find (regDefault k) s.store.gens[g].values k
  | none => regDefault k

/-- The stored generation's listed objects. -/
def State.storedKeys (s : State) : List Key :=
  match newestStore s.store.gens with
  | some g => s.store.gens[g].values.map fun x => x.1
  | none => []

/-- The collector's configuration copies loaded from the store (R222). -/
def State.reloadFlt (s : State) : State :=
  let keys := ((s.regs.map fun x => x.1) ++ s.storedKeys).filter isFltConfig
  s.setConfig (keys.map fun k => (k, s.stored k))

/-- FC_REINIT: reload and compare; legal in SAFE only. The comparison fails while the mismatch that FC_COPY reports
stands (R222; log entry 51). -/
def effFcReinit : Eff := fun s => do
  need (s.dev.state = .safe) nakCond
  .ok (s.reloadFlt.modFc fun c => { c with copyOk := !(s.src 1).cond })

def execFcReinit (p : Port) (s : State) : Host.Outcome State Fault Refusal := hostCmd p Reg.FC_REINIT effFcReinit s

/-- FC_FLOOR_REARM (R220). -/
def effFloorRearm : Eff := fun s => do
  need (match s.floor.first with | some x => (s.src x.id).state = .idle | none => true) nakCond
  .ok (s.modFloor fun f => { f with first := none })

def execFcFloorRearm (p : Port) (s : State) : Host.Outcome State Fault Refusal :=
  hostCmd p Reg.FC_FLOOR_REARM effFloorRearm s

/-- FC_SELFTEST: the background self-test, once per second (R222). -/
def execFcSelftest (pass : Bool) (s : State) : Host.Outcome State Fault Refusal :=
  if s.alive then
    done (if pass then (s.bump Reg.FC_SELFTEST_CNT).gone 2 else s.raise 2)
  else done s

end Sys2Proof.Machine
end

