-- ==== Sys2Proof/Machine/Profile.lean ====
section
/-!
DEFINITION. The catch-up profile of an emulator: the time-optimal motion of an offset under limits on velocity,
acceleration and jerk (R168, R169), in exact fractions rounded to 2^-60 (log entry 18).
-/

namespace Sys2Proof.Machine

/-- A fraction rounded to 2^-60. -/
def r60 (x : Rat) : Rat := mkRat ((x.num * 2 ^ 60) / Int.ofNat x.den) (2 ^ 60)

/-- The square root of a fraction that is not negative, to 2^-60. -/
def sqrtR (x : Rat) : Rat :=
  if x.num ≤ 0 then 0 else mkRat (Int.ofNat (isqrt (x.num.toNat * 2 ^ 120 / x.den))) (2 ^ 60)

/-- The limits of a profile. -/
structure Limits where
  v : Rat
  a : Rat
  j : Rat

/-- Position, velocity and acceleration. -/
structure Motion where
  s : Rat
  v : Rat
  a : Rat

/-- The motion after a time under a constant jerk. -/
def Motion.run (m : Motion) (t j : Rat) : Motion :=
  { s := r60 (m.s + m.v * t + m.a * t * t / 2 + j * t * t * t / 6)
    v := r60 (m.v + m.a * t + j * t * t / 2)
    a := r60 (m.a + j * t) }

/-- The motion after a list of phases. -/
def Motion.through (m : Motion) (ps : List (Rat × Rat)) : Motion := ps.foldl (fun m p => m.run p.1 p.2) m

/-- The fastest phases from velocity `v0` and acceleration `a0` to velocity `vp` and acceleration 0. -/
def velPhases (l : Limits) (v0 a0 vp : Rat) : List (Rat × Rat) :=
  let vz := v0 + a0 * (if a0 < 0 then -a0 else a0) / (2 * l.j)
  let σ : Rat := if vp < vz then -1 else 1
  let dv := σ * (vp - v0)
  let b := σ * a0
  let ap := sqrtR (l.j * dv + b * b / 2)
  let ps :=
    if ap ≤ l.a then [((ap - b) / l.j, l.j), (ap / l.j, -l.j)]
    else
      [((l.a - b) / l.j, l.j), ((dv - (l.a * l.a - b * b) / (2 * l.j) - l.a * l.a / (2 * l.j)) / l.a, 0), (l.a / l.j, -l.j)]
  ps.map fun p => (if p.1 < 0 then 0 else r60 p.1, σ * p.2)

/-- The phases through a cruise velocity down to rest. -/
def restPhases (l : Limits) (v0 a0 vp : Rat) : List (Rat × Rat) := velPhases l v0 a0 vp ++ velPhases l vp 0 0

/-- The distance of a profile through a cruise velocity without a cruise. -/
def restDist (l : Limits) (v0 a0 vp : Rat) : Rat := ((Motion.mk 0 v0 a0).through (restPhases l v0 a0 vp)).s

/-- Bisection of the cruise velocity whose profile covers the distance. -/
def cruise (l : Limits) (v0 a0 d : Rat) : Nat → Rat → Rat → Rat
  | 0, lo, _ => lo
  | k + 1, lo, hi =>
    let m := r60 ((lo + hi) / 2)
    if restDist l v0 a0 m ≤ d then cruise l v0 a0 d k m hi else cruise l v0 a0 d k lo m

/-- The phases of the time-optimal motion over `d` from `v0`, `a0` to rest (R168, R169). -/
def planPhases (l : Limits) (v0 a0 d : Rat) : List (Rat × Rat) :=
  let long_ (vp : Rat) : List (Rat × Rat) :=
    let t := (d - restDist l v0 a0 vp) / vp
    velPhases l v0 a0 vp ++ [(r60 t, 0)] ++ velPhases l vp 0 0
  if restDist l v0 a0 l.v ≤ d then long_ l.v
  else if d ≤ restDist l v0 a0 (-l.v) then long_ (-l.v)
  else restPhases l v0 a0 (cruise l v0 a0 d 80 (-l.v) l.v)

/-- A profile advanced by a time: the motion and the phases that are left. -/
def advance (m : Motion) (t : Rat) : List (Rat × Rat) → Motion × List (Rat × Rat)
  | [] => (m, [])
  | (len, j) :: ps => if t < len then (m.run t j, (len - t, j) :: ps) else advance (m.run len j) (t - len) ps

/-- A new profile over `d` from rest (R168). -/
def newProfile (l : Limits) (d : Int) : Profile := { d := d, s := 0, v := 0, a := 0, phases := planPhases l 0 0 d }

/-- The profile after one release period in ns. -/
def Profile.advance (p : Profile) (ns : Nat) : Profile :=
  let (m, ps) := Machine.advance ⟨p.s, p.v, p.a⟩ (mkRat ns (10 ^ 9)) p.phases
  if ps.isEmpty then { p with s := p.d, v := 0, a := 0, phases := [] }
  else { p with s := m.s, v := m.v, a := m.a, phases := ps }

/-- A change of the target added to the offset, with the profile planned anew from where it stands (R169). -/
def Profile.replan (p : Profile) (l : Limits) (change : Int) : Profile :=
  let d := p.d + change
  { p with d := d, phases := planPhases l p.v p.a ((d : Rat) - p.s) }

/-- The nearest integer. -/
def roundR (x : Rat) : Int := divRound x.num (Int.ofNat x.den)

end Sys2Proof.Machine
end

