-- ==== Sys2Proof/Machine/Outputs.lean ====
section
/-!
DEFINITION. Snapshots (R157 to R160), encoder emulators (R165 to R172, R196) and position switches (R173 to R175).
-/

namespace Sys2Proof.Machine

/-! ### Snapshots -/

/-- What a velocity word moves in `dt` ns, in ANGLE24 steps (R159). -/
def travel (vfs vel dt : Int) : Int := divRound (vel * vfs * dt * 2 ^ 24) (32768 * 10 ^ 9)

/-- The record of a channel in a snapshot for event time `t` (R159). -/
def State.snapRec (s : State) (src : Fin 3) (n : ChId) (t : Time32) : OutRec :=
  let r := s.ch[n].frameOut
  let st := r.status / 32
  if s.reg (Reg.SNAP_ALIGN src) = 0 || st = 0 || st = 4 then r
  else
    let dt := (t - r.time).toInt
    { r with pos := wrapS 40 (r.pos + travel (s.reg (Reg.CH_VEL_FS n)) r.vel dt), time := t, status := r.status / 2 * 2 + 1 }

/-- An event at a source: latched, or missed. In CONTINUOUS mode every event that the frame admits latches, in SINGLE mode
one after SNAP_ARM (R158, R160). -/
def State.snapEvent (s : State) (src : Fin 3) (t : Time32) : State :=
  let x := s.snap[src]
  let takes := x.state = .armed || s.reg (Reg.SNAP_MODE src) = 1
  if !takes || x.frame = some s.frames then s.bump (Reg.SNAP_MISSED src)
  else
    let recs := Vector.ofFn fun n : ChId => s.snapRec src n t
    let s := s.modSnap src fun x =>
      { state := .latched, seq := x.seq + 1, event := t, recs := recs, frame := some s.frames }
    if src = 2 && s.reg (Reg.SNAP_PERIOD 2) ≠ 0 then
      s.setReg (Reg.SNAP_TIME 2) ((s.reg (Reg.SNAP_TIME 2) + s.reg (Reg.SNAP_PERIOD 2)) % 2 ^ 32)
    else s

/-- The source that a SYNC pin feeds. -/
def syncSrc (pin : Fin 2) : Fin 3 := ⟨pin.val, by omega⟩

/-- SYNC_EDGE: an edge that SNAP_EDGE selects is an event, 2 ns before the capturing SCLK edge (R157). -/
def execSyncEdge (pin : Fin 2) (rising : Bool) (s : State) : Host.Outcome State Fault Refusal :=
  let e := s.reg (Reg.SNAP_EDGE (syncSrc pin))
  if s.alive && (e = 2 || (e = 0 && rising) || (e = 1 && !rising)) then done (s.snapEvent (syncSrc pin) (s.timeNow - 2))
  else done s

/-- The one event of a SNAP_TIME without a period has been (R157, R179). -/
def State.snapSpent (s : State) (t : Time32) : Bool :=
  s.reg (Reg.SNAP_PERIOD 2) = 0 && s.snap[(2 : Fin 3)].state = .latched && s.snap[(2 : Fin 3)].event = t

/-- SNAP_TIME_LATCH: the counter has reached SNAP_TIME (R157). -/
def execSnapTimeLatch (s : State) : Host.Outcome State Fault Refusal :=
  let t := t32 (s.reg (Reg.SNAP_TIME 2))
  if s.alive && reached s.timeNow t && !s.snapSpent t then done (s.snapEvent 2 t) else done s

def effSnapArm (src : Fin 3) : Eff := fun s => .ok (s.modSnap src fun x => { x with state := .armed })

def execSnapArm (p : Port) (src : Fin 3) (s : State) : Host.Outcome State Fault Refusal :=
  hostCmd p (Reg.SNAP_ARM src) (effSnapArm src) s

/-- The address of a snapshot setting. -/
def snapKey (o : SnapObj) (src : Fin 3) : Key :=
  match o with
  | .mode => Reg.SNAP_MODE src
  | .edge => Reg.SNAP_EDGE src
  | .time => Reg.SNAP_TIME src
  | .period => Reg.SNAP_PERIOD src

/-- A changed setting returns its source to IDLE (R160). -/
def effSnapConfig (src : Fin 3) (k : Key) (v : Int) : Eff := fun s =>
  let s' := s.setReg k v
  .ok (if s.reg k = v then s' else s'.modSnap src fun x => { x with state := .idle })

def execSnapConfigWrite (p : Port) (src : Fin 3) (o : SnapObj) (v : Int) (s : State) : Host.Outcome State Fault Refusal :=
  hostSet p (snapKey o src) v (effSnapConfig src (snapKey o src)) s

/-! ### Emulators -/

/-- The source is a Tally input. -/
def State.emuTally (s : State) (n : Fin 16) : Bool := s.reg (Reg.EMU_SRC_KIND n) = 1

/-- The emulator's source by number. -/
def State.emuSource (s : State) (n : Fin 16) : Fin 16 := chOf (s.reg (Reg.EMU_SRC n))

/-- The source is valid (R170, R194). -/
def State.emuSrcValid (s : State) (n : Fin 16) : Bool :=
  if s.emuTally n then s.talValid (s.emuSource n) else s.chValid (s.emuSource n)

/-- The source is valid, and the power state lets the emulator follow it: QUIET asks for the invalid-source action
(R336). -/
def State.emuLive (s : State) (n : Fin 16) : Bool := s.emuSrcValid n && !(s.sup.power = .quiet)

/-- The target count C_t (R165, R196). -/
def State.emuTarget (s : State) (n : Fin 16) : Int :=
  let dir : Int := if s.flag (Reg.EMU_DIR n) then -1 else 1
  if s.emuTally n then dir * s.tal[s.emuSource n].div
  else
    let b : Int := if s.reg (Reg.EMU_BASIS n) = 1 then s.reg (Reg.EMU_SPEED n) else 1
    dir * s.emu[n].tp * 4 * s.reg (Reg.EMU_LINES n) / (b * 2 ^ 24)

/-- The limits of the catch-up (R168). -/
def State.emuLimits (s : State) (n : Fin 16) : Limits :=
  { v := s.reg (Reg.EMU_CU_VMAX n), a := s.reg (Reg.EMU_CU_AMAX n) * 1000, j := s.reg (Reg.EMU_CU_JMAX n) * 10 ^ 6 }

/-- The target position follows the source's released position (R165, R170). -/
def Emu.follow (e : Emu) (p : Int) (valid : Bool) : Emu :=
  if e.rebase then (if valid then { e with tp := p, prev := p, rebase := false } else e)
  else { e with tp := wrapS 64 (e.tp + wrapS 40 (p - e.prev)), prev := p }

/-- The instants in LCLK periods after a release of the steps, of `k` wanted, that fall before the next release, `period`
later (R166, R167). -/
def Emu.steps (e : Emu) (minSep period k : Nat) : List Nat :=
  if k = 0 || period ≤ e.gap then []
  else
    let sp := max minSep (period / k)
    (List.range (min k ((period - e.gap - 1) / sp + 1))).map fun i => e.gap + i * sp

/-- `delta` steps scheduled over a release period: the steps that fit are taken (R166, R167). -/
def Emu.schedule (e : Emu) (minSep period : Nat) (delta : Int) : Emu :=
  let at_ := e.steps minSep period delta.natAbs
  { e with
    c := wrapS 64 (e.c + signI delta * Int.ofNat at_.length)
    left := delta.natAbs - at_.length
    gap := match at_.getLast? with | some l => l + minSep - period | none => e.gap - period }

/-- The levels that emulator `n` shows with each step from the count `c`, and the instants at which it does (R166). -/
def State.stepWave (s : State) (n : Fin 16) (c dir : Int) (at_ : List Nat) : List (Nat × Level × Level × Level) :=
  at_.zipIdx.map fun x => (x.1, s.linesOf n (wrapS 64 (c + dir * Int.ofNat (x.2 + 1))))

/-- The catch-up of an emulator over one release: its profile and the steps it calls for (R167 to R169). -/
def catchUp (l : Limits) (jump : Int) (ns : Nat) (e : Emu) (ct : Int) : Option Profile × Int :=
  match e.catchup with
  | none => if Int.ofNat (ct - e.c).natAbs ≤ jump then (none, ct - e.c) else (some (newProfile l (ct - e.c)), 0)
  | some p =>
    let p := p.advance ns
    let p := if jump < Int.ofNat (ct - e.ct).natAbs then p.replan l (ct - e.ct) else p
    if p.phases.isEmpty then (none, ct - e.c) else (some p, ct - p.d + roundR p.s - e.c)

/-- The steps of a release, and their levels on the lines while the emulator drives them (R166, R167). -/
def State.emuStep (s : State) (n : Fin 16) (period : Nat) (delta : Int) : State :=
  let e := s.emu[n]
  let sep := s.regN (Reg.EMU_MIN_SEP n)
  let e' := e.schedule sep period delta
  let l := s.linesOf n e'.c
  s.modEmu n fun _ =>
    if s.emuDrive n = .follow then
      { e' with
        a := l.1, b := l.2.1, z := l.2.2
        wave := e.wave ++ s.stepWave n e.c (signI delta) (e.steps sep period delta.natAbs) }
    else e'

/-- A release of a valid source to an emulator that has started and is not held; `was` is the C_t of the release before
(R167 to R169). -/
def State.emuRun (s : State) (n : Fin 16) (period : Nat) (was : Int) : State :=
  let e := s.emu[n]
  let late : Bool := 4 < e.left
  let s := if late then s.setReg (Reg.EMU_FLAGS n) 1 else s
  let s := s.level (emuSrc n 0) late
  let ct := s.emuTarget n
  let (p, delta) := catchUp (s.emuLimits n) (s.reg (Reg.EMU_JUMP n)) (period * 2) { e with ct := was } ct
  let s := if e.catchup.isNone && p.isSome then s.bump (Reg.EMU_CU_CNT n) else s
  (s.modEmu n fun e => { e with ct := ct, catchup := p }).emuStep n period delta

/-- C_t taken anew; while a new source has not been valid yet, it stands (R165, R170). -/
def State.emuRetarget (s : State) (n : Fin 16) : State :=
  s.modEmu n fun e => if e.rebase then e else { e with ct := s.emuTarget n }

/-- The source is invalid: C is held and EMU_INVALID applies (R171). -/
def State.emuStop (s : State) (n : Fin 16) : State :=
  (s.modEmu n fun e => { e with valid := false, catchup := none, left := 0 }).showEmu n

/-- The first release of a valid source after an invalid one: safe levels of EMU_INVALID are left, and the levels of the
held C are driven before the first step, which keeps EMU_MIN_SEP to them (R171, R172; log entry 85). -/
def State.emuResume (s : State) (n : Fin 16) : State :=
  let s := s.modEmu n fun e => { e with valid := true }
  let s := if s.emu[n].safe && !s.emuHeld n then s.modEmu n emuLeave else s
  let s := s.showEmu n
  s.modEmu n fun e => if e.wave.isEmpty then e else { e with gap := max e.gap (s.regN (Reg.EMU_MIN_SEP n)) }

/-- A release of its source to an enabled emulator (R165, R167, R170 to R172). While the Mitten holds it, C is held. -/
def State.emuRelease (s : State) (n : Fin 16) (period : Nat) : State :=
  let was := s.emu[n].ct
  let s := s.modEmu n fun e =>
    { e with wave := [], rebase := if s.emuTally n && s.emuLive n then false else e.rebase }
  let s := s.emuRetarget n
  if !s.emu[n].started then s
  else if !s.emuLive n then s.emuStop n
  else
    let s := if s.emu[n].valid then s else s.emuResume n
    if s.emu[n].safe then s
    else if s.emu[n].jump then
      (s.modEmu n fun e => { e with c := e.ct, catchup := none, left := 0, gap := 0, jump := false }).showEmu n
    else s.emuRun n period was

/-- The release of channel `ch`'s sample to its emulators (R19, R165). -/
def State.emuSample (s : State) (ch : ChId) : State :=
  s.each all16 fun s n =>
    if s.flag (Reg.EMU_ENABLE n) && !s.emuTally n && s.emuSource n = ch then
      (s.modEmu n fun e => e.follow s.ch[ch].out.pos (s.chValid ch)).emuRelease n 60
    else s

/-- EMU_TALLY_RELEASE: a release of the emulator's Tally source (R196). -/
def execEmuTallyRelease (n : Fin 16) (s : State) : Host.Outcome State Fault Refusal :=
  if s.alive && s.flag (Reg.EMU_ENABLE n) && s.emuTally n then done (s.emuRelease n 12) else done s

/-- T_p at the released position of its resolver source (R165, R170). -/
def State.emuBase (s : State) (n : Fin 16) : State :=
  let p := s.ch[s.emuSource n].out.pos
  s.modEmu n fun e => { e with tp := p, prev := p, rebase := false }

/-- EMU_FIRST_VALID: the source of an enabled emulator is first valid; C takes C_t without a catch-up (R170). -/
def State.emuStart (s : State) (n : Fin 16) : State :=
  let s := if s.emu[n].rebase then s.emuBase n else s
  let ct := s.emuTarget n
  (s.modEmu n fun e =>
    { e with started := true, valid := true, c := ct, ct := ct, catchup := none, left := 0, gap := 0 }).showEmu n

def execEmuFirstValid (n : Fin 16) (s : State) : Host.Outcome State Fault Refusal :=
  if s.alive && s.flag (Reg.EMU_ENABLE n) && !s.emu[n].started && s.emuLive n then done (s.emuStart n) else done s

/-- EMU_ENABLE visible: T_p takes the source's position, and the lines are high-impedance until the source is first valid,
or at once (R165, R170). -/
def applyEmuEnable (n : Fin 16) (s : State) (_ : Key) (old v : Int) : State :=
  if old = v then s
  else
    let s := s.modEmu n fun e =>
      { e with started := false, valid := false, catchup := none, left := 0, gap := 0, jump := false, safe := false }
    ((s.emuBase n).emuRetarget n).showEmu n

def execEmuEnableWrite (p : Port) (n : Fin 16) (v : Int) (s : State) : Host.Outcome State Fault Refusal :=
  hostSet p (Reg.EMU_ENABLE n) v (effVisible noCheck (applyEmuEnable n) (Reg.EMU_ENABLE n)) s

/-- A changed source: R171 applies until it is first valid, and C is kept (R170). -/
def applyEmuSrc (n : Fin 16) (s : State) (_ : Key) (old v : Int) : State :=
  if old = v then s else (s.modEmu n fun e => { e with rebase := true }).emuStop n

def execEmuSrcWrite (p : Port) (n : Fin 16) (kind : Bool) (v : Int) (s : State) : Host.Outcome State Fault Refusal :=
  let k := if kind then Reg.EMU_SRC_KIND n else Reg.EMU_SRC n
  hostSet p k v (effVisible noCheck (applyEmuSrc n) k) s

/-- EMU_SAFE_EXIT: no Mitten reaction holds the emulator any more, and no invalid action keeps it safe (R172). -/
def execEmuSafeExit (n : Fin 16) (s : State) : Host.Outcome State Fault Refusal :=
  let e := s.emu[n]
  let inv := e.started && !e.valid && s.reg (Reg.EMU_INVALID n) = 2
  if s.floorOn && e.safe && !s.emuHeld n && s.sup.power ≠ .safeHold && !inv then done ((s.modEmu n emuLeave).showEmu n)
  else done s

/-! ### Position switches -/

/-- The position lies inside the window widened by `b` on both sides (R173, R174). -/
def inWindow (mode lo hi b p : Int) : Bool :=
  if mode = 0 then (p - (lo - b)) % 2 ^ 24 ≤ (hi - lo) % 2 ^ 24 + 2 * b
  else lo - b ≤ p && p ≤ hi + b

/-- The released sample of a switch's channel evaluates it (R174, R175). -/
def State.pswEval (s : State) (n : Fin 16) (p : Int) (valid : Bool) : State :=
  let w := s.psw[n]
  if !valid then
    (s.modPsw n fun w => { w with valid := false, first := true, switching := false }).showPsw n
  else
    let mode := s.reg (Reg.PSW_MODE n)
    let brim := if w.first || !w.active then 0 else s.reg (Reg.PSW_BRIM n)
    let active := inWindow mode (s.reg (Reg.PSW_LO n)) (s.reg (Reg.PSW_HI n)) brim p
    let s := if active ≠ w.active then s.bump (Reg.PSW_TOGGLE_CNT n) else s
    (s.modPsw n fun w =>
      { w with started := true, valid := true, active := active, first := false, switching := false }).showPsw n

/-- The release of channel `ch`'s sample to its switches. -/
def State.pswSample (s : State) (ch : ChId) : State :=
  s.each all16 fun s n =>
    if s.flag (Reg.PSW_ENABLE n) && s.reg (Reg.PSW_SRC n) = Int.ofNat ch.val then s.pswEval n s.ch[ch].out.pos (s.chValid ch)
    else s

/-- The window of a switch is one that R173 and R174 permit. -/
def checkPsw (n : Fin 16) (_ : State) (get : Key → Int) (_ : Key) (_ : Int) : Except Nak Unit :=
  let lo := get (Reg.PSW_LO n)
  let hi := get (Reg.PSW_HI n)
  if get (Reg.PSW_MODE n) = 1 then need (lo ≤ hi) nakRange
  else need ((hi - lo) % 2 ^ 24 + 2 * get (Reg.PSW_BRIM n) < 2 ^ 24 - 1) nakRange

/-- PSW_ENABLE visible (R175). -/
def applyPswEnable (n : Fin 16) (s : State) (_ : Key) (old v : Int) : State :=
  if old = v then s
  else
    (s.modPsw n fun w =>
      { w with started := false, valid := false, active := false, first := true, switching := false }).showPsw n

def execPswEnableWrite (p : Port) (n : Fin 16) (v : Int) (s : State) : Host.Outcome State Fault Refusal :=
  hostSet p (Reg.PSW_ENABLE n) v (effVisible noCheck (applyPswEnable n) (Reg.PSW_ENABLE n)) s

/-- A changed source: the level stays until its first released sample (R175). -/
def applyPswSrc (n : Fin 16) (s : State) (_ : Key) (old v : Int) : State :=
  if old = v then s else s.modPsw n fun w => { w with switching := true, first := true }

def execPswSrcWrite (p : Port) (n : Fin 16) (v : Int) (s : State) : Host.Outcome State Fault Refusal :=
  hostSet p (Reg.PSW_SRC n) v (effVisible noCheck (applyPswSrc n) (Reg.PSW_SRC n)) s

end Sys2Proof.Machine
end

