-- ==== Sys2Proof/Machine/Redund.lean ====
section
/-!
DEFINITION. Seats, the claim sequencer, ThaeLink records, alignment, seeding and the triplex cross-check
(R228 to R248).
-/

namespace Sys2Proof.Machine

/-! ### Partners and their links (R229, R232) -/

/-- Partner position `q` exists in the present RED_MODE (R229). -/
def State.hasPartner (s : State) (q : Fin 2) : Bool := s.partners.contains q

/-- The partner whose records and RELEASE sets arrive on LNKk (R229). -/
def State.linkPartner (s : State) (k : Fin 2) : Option (Fin 2) :=
  if s.reg Reg.RED_MODE = 1 then some k
  else if k = 0 then some 0
  else if s.reg Reg.RED_LNK1_MODE = 1 then some 0
  else none

/-- RED_MODE requires port LNKk (R229, R238). -/
def State.linkNeeded (s : State) (k : Fin 2) : Bool := (s.linkPartner k).isSome

/-- LNKk_DOWN follows the port's state (R238). -/
def State.showLinks (s : State) : State :=
  s.each (List.finRange 2) fun s k => s.level (896 + k.val) (s.linkNeeded k && s.lnk[k].state = .down)

/-- The conditions of E3 hold now (R232). -/
def State.e3Now (s : State) (q : Fin 2) : Bool :=
  !s.pt[q].okin && s.okTrusted q &&
  (!s.pt[q].present ||
    (List.finRange 2).all fun k => s.linkPartner k ≠ some q || s.lnk[k].state = .down)

/-- E3 is noted before one of its conditions may stop holding. -/
def State.noteE3 (s : State) (q : Fin 2) : State :=
  if s.e3Now q then s.modPt q fun x => { x with e3 := some s.ext } else s

/-- The evidence E1, E2, E3 at or after the evidence origin (R232). -/
def State.evidence (s : State) (q : Fin 2) : Bool × Bool × Bool :=
  let x := s.pt[q]
  let at_ (e : Option Int) (d : Int) : Bool := match e with | some t => x.origin + d ≤ t | none => false
  (at_ x.e1 2000, at_ x.e2 0, at_ x.e3 0 || s.e3Now q)

/-- The partner is RELEASED (R232). -/
def State.released (s : State) (q : Fin 2) : Bool :=
  let (e1, e2, e3) := s.evidence q
  !s.pt[q].claimed && (e1 || e2 || e3)

/-- Every partner line is low and every partner RELEASED (R235). -/
def State.pathClear (s : State) : Bool := s.partners.all fun q => !s.pt[q].line && s.released q

/-- Some partner is CLAIMED. -/
def State.anyClaimed (s : State) : Bool := s.partners.any fun q => s.pt[q].claimed

/-! ### The record grid (R240) -/

/-- The first latch time `first + k * cycle` that is not in the past of `now`, with its k (R157, R240). -/
def gridNext (first : Time32) (cycle : Nat) (now : Time32) : Time32 × Nat :=
  if (first - now).toNat ≤ 2 ^ 31 then (first, 0)
  else
    let k := ((now - first).toNat + cycle - 1) / cycle
    (first + BitVec.ofNat 32 (k * cycle), k)

/-- The grid taken anew from the visible RED_CYCLE and RED_CYCLE_FIRST (R240). -/
def State.setGrid (s : State) : State :=
  let (t, k) := gridNext (t32 (s.reg Reg.RED_CYCLE_FIRST)) (s.regN Reg.RED_CYCLE) s.timeNow
  s.modRed fun r => { r with nextLatch := t, latchNo := k }

/-- RED_CYCLE or RED_CYCLE_FIRST becomes visible (R240). -/
def applyGrid (s : State) (_ : Key) (_ _ : Int) : State := s.setGrid

def execRedCycleWrite (p : Port) (first : Bool) (v : Int) (s : State) : Host.Outcome State Fault Refusal :=
  let k := if first then Reg.RED_CYCLE_FIRST else Reg.RED_CYCLE
  hostSet p k v (effVisible noCheck applyGrid k) s

/-- RED_MODE becomes visible: the mismatch of R228 and the ports that it requires are read from it. -/
def applyRedMode (s : State) (_ : Key) (_ _ : Int) : State := s.showLinks

def execRedModeWrite (p : Port) (v : Int) (s : State) : Host.Outcome State Fault Refusal :=
  hostSet p Reg.RED_MODE v (effVisible noCheck applyRedMode Reg.RED_MODE) s

/-! ### Links (R238, R239) -/

/-- LNK_UP: comma alignment and 64 valid idles (R238). -/
def execLnkUp (k : Fin 2) (s : State) : Host.Outcome State Fault Refusal :=
  if s.alive && s.lnk[k].state ≠ .up then
    let s := s.each s.partners State.noteE3
    done ((s.modLnk k fun l => { l with state := .up, first := true }).gone (896 + k.val))
  else done s

/-- LNK_CODE_ERR_CNT with the invalid code groups of a port since it last went DOWN: their number is the line's, a free
value (R238, R254; log entry 47). -/
def State.codeErrors (s : State) (k : Fin 2) : State :=
  let k := Reg.LNK_CODE_ERR_CNT k
  s.draw.setReg k (min (s.reg k + Int.ofNat (Config.unstated s.fresh)) (2 ^ 32 - 1))

/-- LNK_DOWN (R238). -/
def execLnkDown (k : Fin 2) (s : State) : Host.Outcome State Fault Refusal :=
  if s.alive && s.lnk[k].state ≠ .down then
    done (((s.codeErrors k).modLnk k fun l => { l with state := .down }).bump (Reg.LNK_DOWN_CNT k)).showLinks
  else done s

/-- RELEASE_RECEIVE: E2 from the partner that the port and the seat number name (R232, R239). -/
def execReleaseReceive (k : Fin 2) (seat : Fin 4) (s : State) : Host.Outcome State Fault Refusal :=
  match s.linkPartner k with
  | some q =>
    if s.alive && s.lnk[k].state = .up && s.partnerSeat q = seat.val then
      done (s.modPt q fun x => { x with e2 := some s.ext })
    else done s
  | none => done s

/-! ### The record sent (R240 to R244) -/

/-- EXC_STATE and EXC_PENDING as their objects read (R71). -/
def Exc.stateByte (x : Exc) : Nat := b2n x.fold * 128 + x.state.num
def Exc.pendByte (x : Exc) : Nat := b2n x.pendFreq.isSome + 2 * b2n x.pendAmpl.isSome

/-- The counter of the newest bead generation; 0 without one (R143). -/
def State.btGen (s : State) : Nat :=
  match newestGen s.bead.gens with | some g => s.bead.gens[g].counter | none => 0

/-- The block of channel `n` (R242). -/
def State.recBlock (s : State) (n : ChId) : Bytes :=
  let c := s.ch[n]
  let l := c.frameLoop
  c.frameOut.bytes ++ leBytes 4 l.th.toNat ++ leInt 5 l.w ++ leInt 5 l.i ++ leInt 5 l.v ++ leInt 5 l.a ++
    leInt 2 (s.reg (Reg.CH_HOME_OFS n)) ++ leBytes 1 (b2n c.bankB + 2 * b2n (s.flag (Reg.CH_CARRY_WRAP n))) ++
    leBytes 1 (s.governing n) ++ leInt 4 s.emu[n].c

/-- The BEAD_DELTA entries (R242). -/
def State.recDeltas (s : State) : Bytes :=
  padTo 64 ((s.bead.deltas.take 8).flatMap fun (c, k, src, n) =>
    leBytes 1 c ++ leBytes 1 k ++ leBytes 1 src ++ leBytes 1 0 ++ leBytes 4 n)

/-- The block of exciter `e` (R242). -/
def State.recExc (s : State) (e : ExcId) : Bytes :=
  let x := s.exc[e]
  leBytes 4 x.ftw.toNat ++ leInt 4 (s.reg (Reg.EXC_SENSE_AMPL e)) ++ leInt 3 (s.reg (Reg.EXC_SENSE_PHASE e)) ++
    leBytes 1 x.stateByte ++ leBytes 1 x.pendByte ++ leBytes 3 0

/-- ERR of the record latched at `t`: a LANE_CHECK source or SRAM_UE has raised since the latch before, the record buffer
holds an uncorrectable error (a free value, log entry 88), or the start delimiter is later than t + 2 µs (R244). -/
def State.recordErr (s : State) (t : Time32) : Bool :=
  s.red.err || Config.recordBufferError s.now || 2000 < (s.timeNow - t).toInt

/-- The record latched at `t` for a port (R241, R242). -/
def State.buildRecord (s : State) (t : Time32) (cycle : Nat) (first : Bool) : Bytes :=
  let r := s.red
  let flags := b2n (s.recordErr t) * 128 + b2n first * 64 + b2n s.eligible * 32 + r.state.num * 4
  let firstId := match s.floor.first with | some x => x.id | none => 0xFFFF
  let valid := map16 s.chValid
  let minority := map16 fun n => (s.src (chSrc n 19)).state ≠ .idle
  let psw := map16 fun n => s.psw[n].active
  let deltas := s.bead.deltas.length
  let head :=
    leBytes 1 1 ++ leBytes 1 s.seatFlags ++ leBytes 1 flags ++ leBytes 1 s.dev.state.num ++ leBytes 4 r.seq.toNat ++
    leBytes 4 t.toNat ++ leBytes 10 (s.stamp80 t) ++ leBytes 4 cycle ++ leBytes 4 (s.regN Reg.CFG_GEN) ++
    leBytes 4 s.fcSummary ++ leBytes 2 firstId ++ leBytes 2 valid ++ leBytes 2 minority ++ leBytes 2 psw ++
    leBytes 1 r.tpCount.toNat ++ leBytes 1 (min deltas 8 + b2n (decide (8 < deltas)) * 128) ++ leBytes 4 s.btGen
  let body := padTo 64 head ++ all16.flatMap s.recBlock ++ s.recDeltas ++ (List.finRange 4).flatMap s.recExc
  let body := padTo 1020 body
  body ++ leBytes 4 (crc32 body).toNat

/-- Records leave at this latch: after boot complete; in QUIET at the multiples of PWR_QUIET_REC_DIV (R240, R336). -/
def State.recordDue (s : State) : Bool :=
  s.sup.booted && (s.sup.power ≠ .quiet || s.red.latchNo % s.regN Reg.PWR_QUIET_REC_DIV = 0)

/-- The record sent on every port that is UP (R240). -/
def State.sendRecord (s : State) (t : Time32) : State :=
  let cycle := s.regN Reg.RED_CYCLE * (if s.sup.power = .quiet then s.regN Reg.PWR_QUIET_REC_DIV else 1)
  let targets := (t, all16.map fun n => s.emu[n].ct)
  let s := s.each (List.finRange 2) fun s k =>
    if s.lnk[k].state = .up then
      let b := s.buildRecord t cycle s.lnk[k].first
      (s.modLnk k fun l => { l with sent := b, first := false }).modRed fun r => { r with own := b }
    else s
  let s := s.modBead fun b => { b with deltas := [] }
  s.modRed fun r => { r with seq := r.seq + 1, err := false, targets := (targets :: r.targets).take 4 }

/-- RECORD_LATCH_SEND: the counter has reached the next latch time (R240). -/
def execRecordLatchSend (s : State) : Host.Outcome State Fault Refusal :=
  let t := s.red.nextLatch
  if s.alive && s.sup.booted && reached s.timeNow t then
    let s := if s.recordDue then s.sendRecord t else s
    done (s.modRed fun r =>
      { r with nextLatch := t + BitVec.ofNat 32 (s.regN Reg.RED_CYCLE), latchNo := r.latchNo + 1 })
  else done s

/-- LINE_TEST_PULSE: a STANDBY or BACKOFF device emits its test pulse at L_k + 1 µs (R233). -/
def execLineTestPulse (s : State) : Host.Outcome State Fault Refusal :=
  if s.alive && s.sup.booted && (s.red.state = .standby || s.red.state = .backoff) then
    done (s.modRed fun r => { r with tpCount := r.tpCount + 1 })
  else done s

/-! ### The record received (R233, R243) -/

/-- A field of a record as an unsigned number. -/
def fieldB (b : Bytes) (o n : Nat) : Nat := leNat (sliceB o n b)

/-- The record is valid (R243). -/
def recordOk (b : Bytes) : Bool :=
  b.length = 1024 && fieldB b 0 1 = 1 && fieldB b 1020 4 = (crc32 (b.take 1020)).toNat

def recActive (b : Bytes) : Bool := bitN (fieldB b 1 1) 7
def recOkay (b : Bytes) : Bool := bitN (fieldB b 1 1) 6
def recErr (b : Bytes) : Bool := bitN (fieldB b 2 1) 7
def recFirst (b : Bytes) : Bool := bitN (fieldB b 2 1) 6
def recSeq (b : Bytes) : BitVec 32 := BitVec.ofNat 32 (fieldB b 4 4)
def recLatch (b : Bytes) : Time32 := BitVec.ofNat 32 (fieldB b 8 4)
def recValid (b : Bytes) (n : ChId) : Bool := bitN (fieldB b 36 2) n.val

/-- A signed field of the block of channel `n`. -/
def blockInt (b : Bytes) (n : ChId) (o k : Nat) : Int := wrapS (8 * k) (fieldB b (64 + 48 * n.val + o) k)
def blockTime (b : Bytes) (n : ChId) : Time32 := BitVec.ofNat 32 (fieldB b (64 + 48 * n.val + 10) 4)
def blockState (b : Bytes) (n : ChId) : Nat := fieldB b (64 + 48 * n.val + 5) 1 / 32
def blockHomed (b : Bytes) (n : ChId) : Int := b2i (bitN (fieldB b (64 + 48 * n.val + 5) 1) 4)

/-- The record's position of channel `n` extrapolated to `t` (R159, R245). -/
def State.blockPos (s : State) (b : Bytes) (n : ChId) (t : Time32) : Int :=
  wrapS 40 (blockInt b n 0 5 + travel (s.reg (Reg.CH_VEL_FS n)) (blockInt b n 6 2) (t - blockTime b n).toInt)

/-- The checks of partner `q`'s claim and OKAY lines against its record (R233); the count is aligned at the first
record after the partner became PRESENT. -/
def State.checkLines (s : State) (q : Fin 2) (b : Bytes) : State :=
  let x := s.pt[q]
  let tp := BitVec.ofNat 8 (fieldB b 42 1)
  let align := !x.aligned || recFirst b
  let d := x.seen - tp - x.offset
  let badCount := !align && d ≠ 255 && d ≠ 0 && d ≠ 1
  let held := x.claimed && x.riseAt + 100 + s.reg Reg.RED_CYCLE + 25000 ≤ s.ext
  let badHigh := !recActive b && held
  let badLow := recActive b && !x.line && x.fallAt + 2000 < s.extOf (recLatch b)
  let okBad := if recOkay b = x.okin then 0 else x.okBad + 1
  let s := s.modPt q fun x =>
    { x with offset := if align then x.seen - tp else x.offset, aligned := true, okBad := okBad }
  let s := if badCount || badHigh || badLow then s.pulse (903 + q.val) else s
  if 2 ≤ okBad then s.pulse (905 + q.val) else s

/-- E1 and the arming of the orphan rule by a record without ERR (R232, R237). -/
def State.recordEvidence (s : State) (q : Fin 2) (b : Bytes) : State :=
  if recActive b then (if s.dev.state = .run then s.modRed fun r => { r with armed := true } else s)
  else
    let t := s.extOf (recLatch b)
    s.modPt q fun x => { x with e1 := some (match x.e1 with | some u => max u t | none => t) }

/-- The alignment of a standby to the ACTIVE partner's record (R245). -/
def State.alignFrom (s : State) (q : Fin 2) (b : Bytes) : State :=
  if !recActive b || s.isActive || s.red.state = .safe then s
  else
    s.each all16 fun s n =>
      if s.bit Reg.RED_ALIGN_MASK n && s.ch[n].state = .track && blockState b n = 2 then
        let a := (s.blockPos b n s.ch[n].out.time, blockHomed b n, blockInt b n 40 2, q)
        s.modFront n fun f => { f with align := some a }
      else s

/-! ### The triplex cross-check (R248) -/

/-- The next run of a pair from a difference of positions. -/
def State.voteRun (s : State) (run : Option Nat) (diff : Int) : Option Nat :=
  some (if s.reg Reg.RED_VOTE_TOL < Int.ofNat (wrapS 40 diff).natAbs then run.getD 0 + 1 else 0)

/-- Two instants lie within 2 × RED_CYCLE (R248). -/
def State.nearBy (s : State) (a b : Time32) : Bool := (a - b).toInt.natAbs ≤ 2 * s.regN Reg.RED_CYCLE

/-- A pair agrees or disagrees once it has been compared. -/
def State.agrees (s : State) (r : Option Nat) : Bool := match r with | some k => k < s.regN Reg.RED_VOTE_N | none => false
def State.disagrees (s : State) (r : Option Nat) : Bool := match r with | some k => s.regN Reg.RED_VOTE_N ≤ k | none => false

/-- The own channel is in the minority; no two of the positions agree. -/
def State.minority (s : State) (v : Vote) : Bool :=
  s.reg Reg.RED_MODE = 1 && s.disagrees v.own0 && s.disagrees v.own1 && s.agrees v.pair

def State.noMajority (s : State) (v : Vote) : Bool :=
  if s.reg Reg.RED_MODE = 1 then s.disagrees v.own0 && s.disagrees v.own1 && s.disagrees v.pair
  else s.disagrees v.own0

/-- The comparisons of channel `n` that a record of partner `q` brings. -/
def State.voteChannel (s : State) (q : Fin 2) (b : Bytes) (n : ChId) : State :=
  if !s.bit Reg.RED_VOTE_MASK n then s.modVote n fun _ => {}
  else
    let own := s.ch[n].out
    let s :=
      if recValid b n && s.chValid n && s.nearBy (blockTime b n) own.time then
        let d := s.blockPos b n own.time - own.pos
        s.modVote n fun v =>
          if q = 0 then { v with own0 := s.voteRun v.own0 d } else { v with own1 := s.voteRun v.own1 d }
      else s
    let o : Fin 2 := if q = 0 then 1 else 0
    match s.reg Reg.RED_MODE, s.pt[o].good with
    | 1, some c =>
      if recValid b n && recValid c n && s.nearBy (blockTime b n) (blockTime c n) then
        let d := s.blockPos b n (blockTime c n) - blockInt c n 0 5
        s.modVote n fun v => { v with pair := s.voteRun v.pair d }
      else s
    | _, _ => s

/-- The comparisons of every channel and their sources (R248). -/
def State.voteFrom (s : State) (q : Fin 2) (b : Bytes) : State :=
  let s := s.each all16 fun s n => s.voteChannel q b n
  let s := s.each all16 fun s n => s.level (chSrc n 19) (s.minority s.vote[n])
  s.level 910 (all16.any fun n => s.noMajority s.vote[n])

/-- What a valid record of partner `q` does: the lines are checked against every one (R233); the content of one with ERR
gives no evidence, no alignment, no seeding and no vote (R243). -/
def State.takeRecord (s : State) (q : Fin 2) (b : Bytes) : State :=
  let s := s.noteE3 q
  let old := s.pt[q]
  let gap : Bool := match old.record with | some c => recSeq b ≠ recSeq c + 1 | none => false
  let s := if gap then (s.bump (Reg.PT_SEQ_GAP_CNT q)).pulse 900 else s
  let at_ := s.ext
  let s := (s.modPt q fun x => { x with present := true, rxAt := at_, rxTime := s.timeNow, record := some b }).gone (901 + q.val)
  let s := if fieldB b 1 1 % 4 = s.seatNo then s.pulse 908 else s
  let s := s.checkLines q b
  if recErr b then (s.bump (Reg.PT_ERR_CNT q)).pulse 912
  else
    let s := s.modPt q fun x => { x with good := some b, activeAt := if recActive b then some at_ else x.activeAt }
    ((s.recordEvidence q b).alignFrom q b).voteFrom q b

/-- The second copy of a SEQ in DUPLICATE mode (R243). -/
def State.isCopy (s : State) (q : Fin 2) (b : Bytes) : Bool :=
  s.reg Reg.RED_MODE = 0 && s.reg Reg.RED_LNK1_MODE = 1 &&
  match s.pt[q].record with | some c => recSeq b = recSeq c | none => false

/-- RECORD_RECEIVE (R243). -/
def execRecordReceive (k : Fin 2) (bytes : Bytes) (s : State) : Host.Outcome State Fault Refusal :=
  if !s.alive || s.lnk[k].state ≠ .up then done s
  else if !recordOk bytes then done ((s.bump (Reg.LNK_CRC_CNT k)).pulse (898 + k.val))
  else
    let s := s.bump (Reg.LNK_REC_CNT k)
    match s.linkPartner k with
    | none => done s
    | some q => if s.isCopy q bytes then done s else done (s.takeRecord q bytes)

/-- PARTNER_LOST: no valid record for 2 × CYCLE + 5 µs, or for 1 s after boot complete (R243). -/
def execPartnerLost (q : Fin 2) (s : State) : Host.Outcome State Fault Refusal :=
  if s.alive && s.sup.booted && s.hasPartner q then
    done ((s.modPt q fun x => { x with present := false, aligned := false }).raise (901 + q.val))
  else done s

/-! ### Partner lines (R231, R232) -/

/-- CLM_IN_HIGH: a high level is caught; in ARBITRATE it decides as R235 says. Without a sequencer that runs, or without
that partner, only the level at the ball moves; so it is with CLM_IN_FALL and OKIN_CHANGE. -/
def execClmInHigh (q : Fin 2) (s : State) : Host.Outcome State Fault Refusal :=
  if !s.alive || !s.hasPartner q then done (s.modPt q fun x => { x with line := true })
  else
    let at_ := s.ext
    let s := s.modPt q fun x => { x with line := true, counted := true, seen := x.seen + 1, riseAt := at_ }
    if s.red.state ≠ .arbitrate then done s
    else if s.red.step3 then
      done ((s.setSeat .backoff).modRed fun r => { r with step3 := false, sawHigher := false })
    else if s.partnerSeat q < s.seatNo then done (s.modRed fun r => { r with sawHigher := true })
    else done s

/-- The sequencer is between STANDBY and ACTIVE. -/
def State.attempting (s : State) : Bool :=
  s.red.state = .guard || s.red.state = .arbitrate || s.red.state = .backoff

/-- PARTNER_CLAIMED: the line has been high for 100 ns, so that its level is no pulse and leaves the count (R232, R233); an attempt ends in STANDBY
(R235), yielding ends (R236), the orphan rule is armed (R237). -/
def execPartnerClaimed (q : Fin 2) (s : State) : Host.Outcome State Fault Refusal :=
  if s.alive && s.hasPartner q && s.pt[q].line && !s.pt[q].claimed then
    let s := s.modPt q fun x =>
      { x with
        claimed := true, counted := false, seen := if x.counted then x.seen - 1 else x.seen
        origin := max x.riseAt s.red.runEntry }
    let s := s.modRed fun r => { r with yielding := false, armed := r.armed || s.dev.state = .run }
    done (if s.attempting then s.endAttempt .standby else s)
  else done s

/-- CLM_IN_FALL: the line falls; a CLAIMED partner is the former ACTIVE seat (R232, R246). -/
def execClmInFall (q : Fin 2) (s : State) : Host.Outcome State Fault Refusal :=
  if s.alive && s.hasPartner q && s.pt[q].line then
    let was := s.pt[q].claimed
    let at_ := s.ext
    let s := s.modPt q fun x => { x with line := false, counted := false, claimed := false, fallAt := at_ }
    done (if was then s.modRed fun r => { r with former := some q } else s)
  else done (s.modPt q fun x => { x with line := false, claimed := false })

/-- OKIN_CHANGE (R231, R232). -/
def execOkinChange (q : Fin 2) (level : Bool) (s : State) : Host.Outcome State Fault Refusal :=
  if s.alive && s.hasPartner q then done ((s.noteE3 q).modPt q fun x => { x with okin := level })
  else done (s.modPt q fun x => { x with okin := level })

/-! ### The claim sequencer (R235) -/

/-- Every test that the claim would make ineligible is to end (R88, R235). -/
def State.guardTests (s : State) : State := s.each all16 fun s n => if s.feedsOutput n then s.abortTest n 2 else s

/-- CLAIM_ATTEMPT_START: an eligible STANDBY device with no partner CLAIMED enters GUARD (R235). -/
def execClaimAttemptStart (s : State) : Host.Outcome State Fault Refusal :=
  if s.alive && s.red.state = .standby && s.eligible && !s.anyClaimed then
    done ((s.setSeat .guard).modRed fun r => { r with attempt := true }).guardTests
  else done s

/-- A test that the claim would make ineligible has not ended (R235). -/
def State.testsLeft (s : State) : Bool :=
  all16.any fun n => s.feedsOutput n && (s.ch[n].inj.state = .running || s.ch[n].inj.state = .pending)

/-- GUARD_COMPLETE: 200 ns of low lines and RELEASED partners; the intent pulse leaves (R235). -/
def execGuardComplete (s : State) : Host.Outcome State Fault Refusal :=
  if !s.alive || s.red.state ≠ .guard then done s
  else if !s.eligible || s.anyClaimed then done (s.endAttempt .standby)
  else if s.pathClear && !s.testsLeft then
    done ((s.setSeat .arbitrate).modRed fun r => { r with tpCount := r.tpCount + 1, step3 := false, sawHigher := false })
  else done s

/-- ARBITRATE_WINDOW_END: t_i + 160 ns (R235). -/
def execArbitrateWindowEnd (s : State) : Host.Outcome State Fault Refusal :=
  if !s.alive || s.red.state ≠ .arbitrate || s.red.step3 then done s
  else if !s.eligible || s.anyClaimed || s.partners.any fun q => s.pt[q].line then done (s.endAttempt .standby)
  else if s.red.sawHigher then done ((s.setSeat .backoff).modRed fun r => { r with sawHigher := false })
  else done (s.modRed fun r => { r with step3 := true })

/-- BACKOFF_END: (s + 1) µs have passed; the tests end as at the first entry into GUARD (R235). -/
def execBackoffEnd (s : State) : Host.Outcome State Fault Refusal :=
  if !s.alive || s.red.state ≠ .backoff then done s
  else if !s.eligible || s.anyClaimed then done (s.endAttempt .standby)
  else done (s.setSeat .guard).guardTests

/-- The own target of emulator `n` at the latch nearest to a record's LATCH (R246). -/
def nearestTarget (ts : List (Time32 × List Int)) (t : Time32) (n : Nat) : Option Int :=
  let far (x : Time32 × List Int) : Nat := (x.1 - t).toInt.natAbs
  match ts with
  | [] => none
  | x :: xs => some ((xs.foldl (fun a b => if far b < far a then b else a) x).2.getD n 0)

/-- The counts that the new ACTIVE seat takes from the former one (R246). -/
def State.takeCounts (s : State) : State :=
  match s.red.former with
  | none => s
  | some q =>
    match s.pt[q].good with
    | none => s
    | some b =>
      if 2 * s.reg Reg.RED_CYCLE < s.ext - s.extOf (recLatch b) then s
      else
        s.each all16 fun s n =>
          let e := s.emu[n]
          let gated := s.flag (Reg.EMU_ENABLE n) && s.flag (Reg.EMU_SEAT_GATE n) && !s.emuTally n &&
            s.bit Reg.RED_ALIGN_MASK (s.emuSource n) && e.started
          match nearestTarget s.red.targets (recLatch b) n.val with
          | none => s
          | some ct0 =>
            if !gated then s
            else
              let low := blockInt b n 44 4 + (e.ct - ct0)
              let c := wrapS 64 (e.c + wrapS 32 (low - e.c))
              let p := if s.reg (Reg.EMU_JUMP n) < Int.ofNat (e.ct - c).natAbs then
                some (newProfile (s.emuLimits n) (e.ct - c)) else none
              let s := if p.isSome then s.bump (Reg.EMU_CU_CNT n) else s
              s.modEmu n fun e => { e with c := c, catchup := p, left := 0, gap := 0, jump := false }

/-- The tests that a claim would make ineligible have ended before it: the last injected sample precedes it (R88). -/
def State.endTests (s : State) : State := s.guardTests.each all16 fun s n => if s.feedsOutput n then s.injBoundary n else s

/-- The claim: CLM_OUT high, ACTIVE, gated outputs driven (R176, R235, R246). -/
def State.claim (s : State) : State :=
  let s := s.endTests
  let s := s.modRed fun r => { r with clmOut := true, claimPending := false, step3 := false, attempt := false, armed := true }
  let s := (s.setSeat .active).bump Reg.RED_CLAIM_CNT
  let s := if s.red.former.isSome then s.pulse 914 else s
  let s := s.takeCounts.modRed fun r => { r with former := none }
  let s := if s.sec.lifecycle = 2 then s.setDebug 0 0 0xFF else s
  s.showOutputs

/-- CLAIM_ASSERT: step 3 of R235. -/
def execClaimAssert (s : State) : Host.Outcome State Fault Refusal :=
  if !s.alive || s.red.state ≠ .arbitrate || !s.red.step3 then done s
  else if !s.eligible || s.anyClaimed then done (s.endAttempt .standby)
  else if s.pathClear then done s.claim
  else done s

/-- CLAIM_RELEASE: the release that the loss of eligibility asks for; an attempt returns to STANDBY (R235, R236). -/
def execClaimRelease (s : State) : Host.Outcome State Fault Refusal :=
  if s.floorOn && !s.eligible && s.isActive then done (s.releaseClaim .standby)
  else if s.alive && !s.eligible && s.attempting then done (s.endAttempt .standby)
  else done s

/-- RED_CLAIM: a claim is asked for, and yielding ends (R234, R236). -/
def effRedClaim : Eff := fun s => .ok (s.modRed fun r => { r with yielding := false, claimPending := !s.isActive })

def execRedClaim (p : Port) (s : State) : Host.Outcome State Fault Refusal := hostCmd p Reg.RED_CLAIM effRedClaim s

/-- RED_RELEASE: the release of the claim is asked for, a pending request ends, and the device yields (R234, R236). -/
def effRedRelease : Eff := fun s =>
  let s := s.modRed fun r => { r with yielding := true, claimPending := false }
  .ok (s.releaseClaim (if s.red.state = .safe then .safe else .standby))

def execRedRelease (p : Port) (s : State) : Host.Outcome State Fault Refusal := hostCmd p Reg.RED_RELEASE effRedRelease s

/-- A record without ERR that reports ACTIVE has arrived from partner `q` within 2 × RED_CYCLE + 5 µs (R237). -/
def State.seesActive (s : State) (q : Fin 2) : Bool :=
  s.pt[q].activeAt.any fun t => s.ext - t ≤ 2 * s.reg Reg.RED_CYCLE + 5000

/-- RED_NO_ACTIVE: the orphan rule fires (R237). -/
def execRedNoActive (s : State) : Host.Outcome State Fault Refusal :=
  if s.alive && s.dev.state = .run && s.red.armed && !s.isActive &&
      !(s.partners.any fun q => (s.lineTrusted q && s.pt[q].claimed) || s.seesActive q) &&
      (!s.eligible || s.partners.any fun q => !s.lineTrusted q) then
    done (s.pulse 909)
  else done s

/-! ### Seeding a settle (R109, R247) -/

/-- The ACTIVE partner whose record may seed channel `n` (R247). -/
def State.seedFrom (s : State) (n : ChId) : Option (Fin 2 × Bytes) :=
  if !s.flag Reg.RED_SEED || !s.bit Reg.RED_ALIGN_MASK n then none
  else
    s.partners.findSome? fun q =>
      match s.pt[q].good with
      | some b =>
        if recActive b && blockState b n = 2 && s.ext - s.extOf (recLatch b) ≤ 2 * s.reg Reg.RED_CYCLE then
          some (q, b)
        else none
      | none => none

/-- The integrator for which KI · i is `v` (R76, R247). -/
def seedI (k : Coefs) (v : Int) : Int :=
  let m := iMaxOf k.kiQ k.kiS
  if k.kiQ = 0 then clampI (-m) m (Config.emptyQuotient 2 v)
  else clampI (-m) m (divRound (v * 2 ^ k.kiS.toNat) (k.kiQ * 2 ^ 9))

/-- Steps 3 and 4 of R109 from the accumulated means. -/
def State.seedOwn (s : State) (n : ChId) (sumS sumC : Int) : State :=
  let target := s.ch[n].out.pos
  let s := s.modCh n fun c =>
    { c with loop := { th := atan2Phase sumS sumC, carry := c.loop.carry }, satInt := false, satVel := false, satOut := false }
  (s.turnTo n target).setReg (Reg.CH_HOMED n) 0

/-- SETTLE_SEED: the means over one carrier period are complete (R109, R247). -/
def execSettleSeed (ch : ChId) (s : State) : Host.Outcome State Fault Refusal :=
  match s.ch[ch].state, s.front[ch].settle with
  | .settle, .seeding k a b =>
    if !s.lanesOn || k < periodSamples s.exc[s.excIx ch].freq then done s
    else
      let s := s.seedOwn ch a b
      let s : State :=
        match s.seedFrom ch with
        | none => s
        | some (q, r) =>
          let v := blockInt r ch 30 5
          let i := seedI (coefsOf s.reg ch s.ch[ch].bankB) v
          let s := s.modCh ch fun c => { c with loop := { c.loop with v := v, a := blockInt r ch 35 5, i := i } }
          s.alignTo ch (s.blockPos r ch s.ch[ch].out.time) (blockHomed r ch) (blockInt r ch 40 2) q
      let s := s.modWatch ch fun w => { w with win := [] }
      done (s.modFront ch fun f => { f with settle := .running, settlePeriods := 0, settleClean := false })
  | _, _ => done s

end Sys2Proof.Machine
end

