-- ==== Sys2Proof/Machine/Queues.lean ====
section
/-!
DEFINITION. Transmit queues (R296 to R300), one-step insertion and stamps (R306 to R309), the receive ring (R308), the
CAN error states (R294), Ethernet frames outside the dictionary (R290, R291), and position streams (R161 to R163, R249).
-/

namespace Sys2Proof.Machine

/-! ### Networks -/

/-- The network of a queue: 0 ETH0, 1 ETH1, 2 CAN0, 3 CAN1 (R296). -/
def netOf (q : Fin 16) : Fin 4 := if q < 6 then 0 else if q < 12 then 1 else if q < 14 then 2 else 3

/-- The queue is one of an Ethernet port. -/
def isEth (q : Fin 16) : Bool := q.val < 12

/-- The Ethernet or CAN port of a network. -/
def portOf (net : Fin 4) : Fin 2 := ⟨net.val % 2, by omega⟩

/-- The link of a port: down, or at the rate that ETH_SPEED sets, or that the RGMII in-band status gives (R290, R311). -/
def State.ethLink (s : State) (k : Fin 2) : Nat :=
  let x := s.eth[k].inband
  if x = 0 ∨ s.regN (Reg.ETH_SPEED k) = 0 then x else s.regN (Reg.ETH_SPEED k)

/-- The port can send: it is on, with link or not in bus-off (R290, R294). -/
def State.netReady (s : State) (net : Fin 4) : Bool :=
  if net.val < 2 then s.flag (Reg.ETH_ENABLE (portOf net)) && s.ethLink (portOf net) ≠ 0
  else s.flag (Reg.CAN_ENABLE (portOf net)) && s.can[portOf net].state ≠ .off && s.can[portOf net].state ≠ .busOff

/-- The queues of a network, in rising order. -/
def netQueues (net : Fin 4) : List (Fin 16) := all16.filter fun q => netOf q = net

/-- The head of the queue is due (R296, R300). -/
def State.headDue (s : State) (q : Fin 16) : Bool :=
  match s.tq[q].descs with | d :: _ => d.instant ≤ s.ext | [] => false

/-- Some queue of the network holds a due frame, at its head or behind it (R296). -/
def State.netDue (s : State) (net : Fin 4) : Bool :=
  (netQueues net).any fun q => s.tq[q].descs.any fun d => d.instant ≤ s.ext

/-- The identifier of a port's SDO answers (R295). -/
def State.sdoId (s : State) (c : Fin 2) : Nat := 0x580 + s.regN (Reg.CAN_NODE_ID c)

/-- A reply of an Ethernet port: it waits while a queue of the port holds a due frame (R296). -/
def State.ethSend (s : State) (k : Fin 2) (r : Reply) : State :=
  if s.netDue ⟨k.val, by omega⟩ then s.modEth k fun x => { x with waiting := x.waiting ++ [r] }
  else s.modEth k fun x => { x with sent := some r }

/-- A reply of a CAN port (R295, R296). -/
def State.canSend (s : State) (c : Fin 2) (b : Bytes) : State :=
  if s.netDue ⟨c.val + 2, by omega⟩ then s.modCan c fun x => { x with waiting := x.waiting ++ [b] }
  else s.modCan c fun x => { x with sent := b, sentId := s.sdoId c }

/-- Replies that waited leave once no due frame is left (R296). -/
def State.flushReplies (s : State) (net : Fin 4) : State :=
  if s.netDue net then s
  else if net.val < 2 then
    s.modEth (portOf net) fun x => { x with sent := x.waiting.getLast?.or x.sent, waiting := [] }
  else
    s.modCan (portOf net) fun x =>
      match x.waiting.getLast? with
      | some b => { x with sent := b, sentId := s.sdoId (portOf net), waiting := [] }
      | none => x

/-! ### Descriptors and completions (R297, R298) -/

def Desc.launch (d : Desc) : Time32 := BitVec.ofNat 32 (leNat (sliceB 0 4 d.raw))
def Desc.len (d : Desc) : Nat := leNat (sliceB 4 2 d.raw)
def Desc.flags (d : Desc) : Nat := leNat (sliceB 6 1 d.raw)
def Desc.tag (d : Desc) : Nat := leNat (sliceB 12 2 d.raw)
def Desc.oneStep (d : Desc) : Bool := bitN d.flags 1

/-- The 16 bytes of a descriptor. -/
def descBytes (launch len flags canId tag : Nat) : Bytes :=
  leBytes 4 launch ++ leBytes 2 len ++ leBytes 1 flags ++ leBytes 1 0 ++ leBytes 4 canId ++ leBytes 2 tag ++ leBytes 2 0

/-- The reserved bits of a descriptor are ignored and read 0 (R11). -/
def descMask (b : Bytes) : Bytes :=
  descBytes (leNat (sliceB 0 4 b)) (leNat (sliceB 4 2 b)) (leNat (sliceB 6 1 b) % 32) (leNat (sliceB 8 4 b) % 2 ^ 29)
    (leNat (sliceB 12 2 b))

/-- The fields of a descriptor suit its port (R297). -/
def descOk (q : Fin 16) (b : Bytes) : Bool :=
  let len := leNat (sliceB 4 2 b)
  let f := leNat (sliceB 6 1 b)
  let cid := leNat (sliceB 8 4 b)
  if isEth q then 14 ≤ len && len ≤ 1020 && f / 4 = 0 && cid = 0
  else
    let fd := bitN f 2
    !bitN f 1 && (fd || !bitN f 3) && (bitN f 4 || cid < 2 ^ 11) &&
    (len ≤ 8 || (fd && [12, 16, 20, 24, 32, 48, 64].contains len))

/-- A completion put in front of the last 16 (R298). -/
def State.complete (s : State) (q : Fin 16) (d : Desc) (result egress frac : Nat) : State :=
  let c := leBytes 2 d.tag ++ leBytes 1 result ++ leBytes 1 0 ++ leBytes 4 egress ++ leBytes 2 frac ++ leBytes 2 d.len ++
    leBytes 4 d.launch.toNat
  s.modTq q fun t => { t with compl := (c :: t.compl).take 16 }

/-- A descriptor removed without transmission: its completion's egress stamp is not stated (log entry 7). A head that
goes so takes with it what earlier presentations have found of it. -/
def State.dropDesc (s : State) (q : Fin 16) (d : Desc) (result : Nat) : State :=
  let e := Config.unstated s.fresh
  (s.draw.modTq q fun t =>
    { t with descs := t.descs.erase d, late := t.late && (t.sending || t.descs.head? ≠ some d) }).complete q d result
      (e % 2 ^ 32) (e / 2 ^ 32)

/-- The instant of a launch time at a push (R300). -/
def State.instantOf (s : State) (launch : Time32) (timed : Bool) : Int :=
  let a := (launch - s.timeNow).toNat
  if !timed then s.ext
  else if a ≤ 2 ^ 31 then s.ext + Int.ofNat a
  else s.ext - (2 ^ 32 - Int.ofNat a)

/-- A position stream owns the queue (R161). -/
def State.streamOwns (s : State) (q : Fin 16) : Bool :=
  (List.finRange 8).any fun f => s.flag (Reg.PF_ENABLE f) && s.regN (Reg.PF_QUEUE f) = q.val

/-- TQ_STAGE_DATA: 256 bytes at the staging offset, which moves on (R297, R313). -/
def effStage (q : Fin 16) (data : Bytes) : Eff := fun s =>
  let o := s.regN (Reg.TQ_STAGE_OFS q)
  let s := s.modTq q fun t => { t with staging := t.staging.store o data }
  .ok (s.setReg (Reg.TQ_STAGE_OFS q) (Int.ofNat ((o + 256) % 1024)))

def execTqStageData (p : Port) (q : Fin 16) (data : Bytes) (s : State) : Host.Outcome State Fault Refusal :=
  hostWrite p (Reg.TQ_STAGE_DATA q) data (fun _ => effStage q data) s

/-- TQ_PUSH: the descriptor is checked, and queued with its staged bytes and its instant (R297, R300). -/
def effPush (q : Fin 16) (desc : Bytes) : Eff := fun s => do
  let b := descMask desc
  need (descOk q b) nakRange
  need (!s.streamOwns q && s.tq[q].descs.length < 16) nakCond
  let d : Desc := { raw := b, frame := [], instant := 0, stream := none }
  let d := { d with frame := s.tq[q].staging.load 0 d.len, instant := s.instantOf d.launch (bitN d.flags 0) }
  .ok (s.modTq q fun t => { t with descs := t.descs ++ [d] })

def execTqPush (p : Port) (q : Fin 16) (desc : Bytes) (s : State) : Host.Outcome State Fault Refusal :=
  hostWrite p (Reg.TQ_PUSH q) desc (fun _ => effPush q desc) s

/-- TQ_FLUSH: every descriptor that is not in transmission leaves with FLUSHED (R299). -/
def effFlush (q : Fin 16) : Eff := fun s =>
  let t := s.tq[q]
  let out := if t.sending then t.descs.drop 1 else t.descs
  .ok ((s.each out fun s d => s.dropDesc q d 3).flushReplies (netOf q))

def execTqFlush (p : Port) (q : Fin 16) (s : State) : Host.Outcome State Fault Refusal :=
  hostCmd p (Reg.TQ_FLUSH q) (effFlush q) s

/-! ### Launch and completion (R249, R296, R300) -/

/-- The frame is marked ACTIVE and its header sample lies more than RED_HANDOVER_WIN back (R249). -/
def State.pastWindow (s : State) (d : Desc) : Bool :=
  d.active && s.reg Reg.RED_HANDOVER_WIN * 1000 < s.ext - d.header

/-- A frame dropped at the handover (R249, R298). -/
def State.handover (s : State) (q : Fin 16) (d : Desc) : State :=
  ((s.dropDesc q d 5).bump Reg.RED_HANDOVER_DROP_CNT).pulse 911

/-- HANDOVER_DROP: a frame marked ACTIVE has not begun within the window (R249). -/
def execHandoverDrop (q : Fin 16) (s : State) : Host.Outcome State Fault Refusal :=
  let t := s.tq[q]
  let out := if t.sending then t.descs.drop 1 else t.descs
  if s.alive then
    done ((s.each (out.filter s.pastWindow) fun s d => s.handover q d).flushReplies (netOf q))
  else done s

/-- The PTP message of an 88F7h frame: its offset (R309). -/
def ptpOffset (b : Bytes) : Option Nat :=
  if beNat (sliceB 12 2 b) = 0x88F7 then some 14
  else if beNat (sliceB 12 2 b) = 0x8100 ∧ beNat (sliceB 16 2 b) = 0x88F7 then some 18
  else none

/-- The message type, when one-step insertion applies to it (R309). -/
def oneStepType (b : Bytes) : Option (Nat × Nat) :=
  match ptpOffset b with
  | none => none
  | some o =>
    let t := leNat (sliceB o 1 b) % 16
    if bitN (leNat (sliceB (o + 6) 1 b)) 1 then none else if t = 0 ∨ t = 3 then some (o, t) else none

/-- The correctionField with an amount in 2^-16 ns added. -/
def addCorrection (o : Nat) (x : Int) (b : Bytes) : Bytes :=
  let v := Int.ofNat (beNat (sliceB (o + 8) 8 b)) + x
  putB (o + 8) (beBytes 8 (BitVec.ofInt 64 v).toNat) b

/-- One-step insertion of an egress stamp (R309): `ns` is `signed32(t_out − L)`. -/
def insertStamp (b : Bytes) (ns : Int) (frac : Nat) : Bytes :=
  match oneStepType b with
  | none => b
  | some (o, 0) =>
    let total := Int.ofNat (beNat (sliceB (o + 34) 6 b)) * 10 ^ 9 + Int.ofNat (beNat (sliceB (o + 40) 4 b)) + ns
    let stamp := beBytes 6 ((total / 10 ^ 9) % 2 ^ 48).toNat ++ beBytes 4 (total % 10 ^ 9).toNat
    addCorrection o (Int.ofNat frac) (putB (o + 34) stamp b)
  | some (o, _) => addCorrection o (ns * 2 ^ 16 + Int.ofNat frac) b

/-- A stamp at the MII moved by a latency and an asymmetry: ns and 2^-16 ns (R307). -/
def stampAt (t : Time32) (frac : BitVec 16) (d : Int) : Time32 × Nat :=
  let x := Int.ofNat t.toNat * 2 ^ 16 + Int.ofNat frac.toNat + d
  (t32 (x / 2 ^ 16), (x % 2 ^ 16).toNat)

/-- SCLK edges over the preamble and the start-of-frame delimiter, 64 bits, at a link rate (R300, R306). -/
def preambleEdges (link : Nat) : Int := if link = 1 then 1600 else if link = 2 then 160 else 16

/-- The counter a number of SCLK edges from now: TIME_INC at each and what is left of the slew (R301, R302). -/
def State.countIn (s : State) (edges : Int) : BitVec 56 :=
  s.time.count + BitVec.ofInt 56 (edges * s.reg Reg.TIME_INC + clampI (-(edges * 0x40000)) (edges * 0x40000) s.time.slew)

/-- The egress stamp of a frame that begins now: on Ethernet at the first nibble behind the start-of-frame delimiter, with
PTP_EGR_LAT and PTP_EGR_ASYM as they stand; on CAN at the start of frame (R298, R306, R307; log entry 89). -/
def State.egressStamp (s : State) (q : Fin 16) : Time32 × Nat :=
  let k := portOf (netOf q)
  if isEth q then
    let c := s.countIn (preambleEdges (s.ethLink k))
    stampAt ((c >>> 24).setWidth 32) ((c >>> 8).setWidth 16) (s.reg (Reg.PTP_EGR_LAT k) + s.reg (Reg.PTP_EGR_ASYM k))
  else (s.timeNow, s.timeFrac.toNat)

/-- TQ_FRAME_LAUNCH: the due head of the network's lowest-numbered due queue is selected: dropped at the handover,
dropped late, or put on the medium; on CAN a presentation that loses the arbitration leaves it at the head
(R249, R296, R300). -/
def State.launch (s : State) (q : Fin 16) (d : Desc) (wins : Bool) : State :=
  let late : Bool := s.reg (Reg.TQ_LATE_TOL q) < s.ext - d.instant
  let s := if late && !s.tq[q].late then (s.bump (Reg.TQ_LATE_CNT q)).pulse (978 + q.val) else s
  if s.pastWindow d then (s.handover q d).flushReplies (netOf q)
  else if late && s.reg (Reg.TQ_LATE_POLICY q) = 1 then (s.dropDesc q d 2).flushReplies (netOf q)
  else
    let plain := d.oneStep && !((oneStepType d.frame).isSome && s.flag (Reg.PTP_ENABLE (portOf (netOf q))))
    let e := s.egressStamp q
    s.modTq q fun t =>
      { t with sending := wins || isEth q, late := late, unstamped := plain, egress := e.1, egressFrac := e.2 }

/-- The queue whose head is presented: the medium is idle, and it is the lowest-numbered with a due head (R296). -/
def State.presents (s : State) (net : Fin 4) : Option (Fin 16) :=
  if (netQueues net).any fun q => s.tq[q].sending then none else (netQueues net).find? s.headDue

def execTqFrameLaunch (offer : Offer) (s : State) : Host.Outcome State Fault Refusal :=
  if !s.alive || !s.netReady offer.net then done s
  else
    match s.presents offer.net with
    | none => done s
    | some q =>
      match s.tq[q].descs with
      | d :: _ => done (s.launch q d offer.wins)
      | [] => done s

/-- The bytes of an Ethernet frame on the wire: padded to 60, with its FCS (R164, R297). -/
def ethWire (b : Bytes) : Bytes :=
  let b := if b.length < 60 then padTo 60 b else b
  b ++ leBytes 4 (crc32 b).toNat

/-- TQ_FRAME_COMPLETE: the frame has left; its completion carries the egress stamp (R298, R307, R309). -/
def State.frameDone (s : State) (q : Fin 16) (d : Desc) : State :=
  let x := s.tq[q]
  let frame := if d.oneStep && !x.unstamped then insertStamp d.frame (x.egress - d.launch).toInt x.egressFrac else d.frame
  let result := if x.unstamped then 4 else if x.late then 1 else 0
  let s := s.modTq q fun x =>
    { x with
      descs := x.descs.drop 1, sending := false, late := false, unstamped := false
      wire := if isEth q then ethWire frame else frame }
  ((s.bump (Reg.TQ_SENT_CNT q)).complete q d result x.egress.toNat x.egressFrac).flushReplies (netOf q)

/-- The error counters of the queue's CAN port once a frame has left: a success raises none, and with both below 128 the port
is error active again (R294; log entry 92). -/
def State.canSuccess (s : State) (q : Fin 16) (tec rec : Nat) : State :=
  if isEth q then s
  else
    let c := portOf (netOf q)
    let x := s.can[c]
    let s := s.modCan c fun x => { x with tec := min x.tec tec, recErr := min x.recErr rec }
    if x.state = .passive && min x.tec tec < 128 && min x.recErr rec < 128 then
      (s.modCan c fun x => { x with state := .active }).gone (976 + c.val)
    else s

def execTqFrameComplete (q : Fin 16) (tec rec : Nat) (s : State) : Host.Outcome State Fault Refusal :=
  match s.tq[q].descs with
  | d :: _ => if s.alive && s.tq[q].sending then done ((s.frameDone q d).canSuccess q tec rec) else done s
  | [] => done s

/-! ### Position streams (R161 to R163) -/

/-- The records of the channels in a mask, in rising order (R25, R162). -/
def State.maskRecords (s : State) (mask : Nat) : Bytes :=
  (all16.filter fun n => bitN mask n.val).flatMap fun n => s.ch[n].frameOut.bytes

/-- The Ethernet frame of a stream (R162). -/
def State.ethFrame (s : State) (f : Fin 8) (q : Fin 16) (launch : Time32) : Bytes :=
  let mask := s.regN (Reg.PF_CH_MASK f)
  let n := (all16.filter fun n => bitN mask n.val).length
  let vlan := s.regN (Reg.PF_VLAN f)
  let body := leBytes 1 1 ++ leBytes 1 s.seatFlags ++ leBytes 2 (s.regN (Reg.PF_ID f)) ++ leBytes 4 (s.regN (Reg.PF_SEQ f)) ++
    leBytes 4 launch.toNat ++ leBytes 4 (s.regN Reg.CFG_GEN) ++ leBytes 2 mask ++ leBytes 2 s.faultSum ++
    leBytes 1 s.dev.state.num ++ leBytes 1 n ++ leBytes 2 0 ++ s.maskRecords mask
  let body := body ++ leBytes 4 (crc32 body).toNat
  let body := if body.length < 46 then padTo 46 body else body
  beBytes 6 (s.regN (Reg.PF_DEST f)) ++ beBytes 6 (s.regN (Reg.ETH_MAC (portOf (netOf q)))) ++
    (if vlan = 0 then [] else beBytes 2 0x8100 ++ beBytes 2 vlan) ++ beBytes 2 0x88B5 ++ body

/-- The CAN FD data field of a stream (R163). -/
def State.canFrame (s : State) (f : Fin 8) (launch : Time32) : Bytes :=
  let mask := s.regN (Reg.PF_CH_MASK f)
  let body := leBytes 1 2 ++ leBytes 1 s.seatFlags ++ leBytes 2 (s.regN (Reg.PF_SEQ f)) ++ leBytes 4 launch.toNat ++
    leBytes 2 mask ++ s.maskRecords mask
  body ++ leBytes 4 (crc32 body).toNat ++ leBytes 2 0

/-- The descriptor of a stream's frame (R161, R163). -/
def State.streamDesc (s : State) (f : Fin 8) (q : Fin 16) (launch : Time32) : Desc :=
  let frame := if isEth q then s.ethFrame f q launch else s.canFrame f launch
  let cid := s.regN (Reg.PF_CAN_ID f)
  let flags := if isEth q then 1 else 1 + 4 + 8 + 16 * (cid / 2 ^ 31)
  let id := if isEth q then 0 else cid % 2 ^ 29
  { raw := descBytes launch.toNat frame.length flags id 0xFFFF, frame := frame, instant := s.instantOf launch true
    stream := some f, active := s.isActive, header := s.ext }

/-- PF_ENABLE becomes visible: the stream takes its first launch time and starts at sequence 0 (R161). -/
def applyPfEnable (f : Fin 8) (s : State) (_ : Key) (old v : Int) : State :=
  if old = v ∨ v = 0 then s
  else
    let (t, _) := gridNext (t32 (s.reg (Reg.PF_FIRST f))) (s.regN (Reg.PF_PERIOD f)) s.timeNow
    (s.modPf f fun x => { x with next := t }).setReg (Reg.PF_SEQ f) 0

/-- A stream on a CAN queue carries one to three channels (R163). -/
def checkPf (f : Fin 8) (_ : State) (get : Key → Int) (_ : Key) (_ : Int) : Except Nak Unit :=
  let n := (all16.filter fun n => bitN (get (Reg.PF_CH_MASK f)).toNat n.val).length
  need (get (Reg.PF_QUEUE f) < 12 || (1 ≤ n && n ≤ 3)) nakRange

def execPfEnableWrite (p : Port) (f : Fin 8) (v : Int) (s : State) : Host.Outcome State Fault Refusal :=
  hostSet p (Reg.PF_ENABLE f) v (effVisible (checkPf f) (applyPfEnable f) (Reg.PF_ENABLE f)) s

/-- POSITION_FRAME_LAUNCH: the counter has reached the stream's launch time (R161). -/
def State.streamFrame (s : State) (f : Fin 8) : State :=
  let q := chOf (s.reg (Reg.PF_QUEUE f))
  let l := s.pf[f].next
  let s :=
    if 16 ≤ s.tq[q].descs.length then (s.bump (Reg.PF_SKIP_CNT f)).pulse (960 + f.val)
    else
      let d := s.streamDesc f q l
      (s.modTq q fun t => { t with descs := t.descs ++ [d] }).setReg (Reg.PF_SEQ f) ((s.reg (Reg.PF_SEQ f) + 1) % 2 ^ 32)
  s.modPf f fun x => { x with next := l + BitVec.ofNat 32 (s.regN (Reg.PF_PERIOD f)) }

def execPositionFrameLaunch (f : Fin 8) (s : State) : Host.Outcome State Fault Refusal :=
  if s.alive && s.flag (Reg.PF_ENABLE f) && reached s.timeNow s.pf[f].next then done (s.streamFrame f) else done s

/-! ### Ethernet outside the dictionary (R290, R291, R308) -/

/-- The port takes frames in. -/
def State.ethOn (s : State) (k : Fin 2) : Bool := s.alive && s.flag (Reg.ETH_ENABLE k) && s.ethLink k ≠ 0

/-- A received frame is addressed to the port (R290). -/
def State.ethTakes (s : State) (k : Fin 2) (dst : Nat) : Bool :=
  dst = s.regN (Reg.ETH_MAC k) || dst = 2 ^ 48 - 1 || (dst = 0x011B19000000 && s.bit (Reg.PTP_MCAST k) 0) ||
  (dst = 0x0180C200000E && s.bit (Reg.PTP_MCAST k) 1)

/-- The ring entry of a PTP frame, stamped by the time counter (R306 to R308; log entry 89). -/
def State.ringEntry (s : State) (k : Fin 2) (frame : Bytes) : Bytes :=
  let (t, f) := stampAt s.timeNow s.timeFrac (-(s.reg (Reg.PTP_ING_LAT k) + s.reg (Reg.PTP_ING_ASYM k)))
  let flags := b2n (decide (240 < frame.length)) + 2 * b2n (decide (beNat (sliceB 12 2 frame) = 0x8100))
  leBytes 4 t.toNat ++ leBytes 2 f ++ leBytes 2 frame.length ++ leBytes 1 flags ++ leBytes 7 0 ++ padTo 240 frame

/-- PTP_FRAME_RECEIVE, at the edge of the frame's ingress stamp: its addresses and the bytes behind them (R290, R306,
R308). -/
def execPtpFrameReceive (k : Fin 2) (dst src : BitVec 48) (rest : Bytes) (s : State) : Host.Outcome State Fault Refusal :=
  let frame := beBytes 6 dst.toNat ++ beBytes 6 src.toNat ++ rest
  if !s.ethOn k then done s
  else if 1518 < frame.length ∨ (ptpOffset frame).isNone then done (s.bump (Reg.ETH_RX_ERR_CNT k))
  else if !s.ethTakes k dst.toNat || !s.flag (Reg.PTP_ENABLE k) then done (s.bump (Reg.ETH_RX_DROP_CNT k))
  else
    let s := (s.bump (Reg.ETH_RX_CNT k)).bump (Reg.PTP_RX_CNT k)
    if s.eth[k].ring.length < 32 then
      let e := s.ringEntry k frame
      done (s.modEth k fun x => { x with ring := x.ring ++ [e] })
    else done ((s.bump (Reg.RXR_OVF_CNT k)).pulse (994 + k.val))

/-- RXR_RELEASE: the oldest entries are freed; more than held is refused (R312). -/
def effRxrRelease (k : Fin 2) (v : Int) : Eff := fun s => do
  need (v ≤ Int.ofNat s.eth[k].ring.length) nakHigh
  .ok (s.modEth k fun x => { x with ring := x.ring.drop v.toNat })

def execRxrRelease (p : Port) (k : Fin 2) (v : Int) (s : State) : Host.Outcome State Fault Refusal :=
  hostSet p (Reg.RXR_RELEASE k) v (effRxrRelease k) s

/-- ETH_FRAME_DISCARD: another EtherType or PAUSE, a bad FCS, or an overrun of the receive buffer, which raises
ETHk_RX_OVR (R290, R310, R311). -/
def execEthFrameDiscard (drop : EthDrop) (s : State) : Host.Outcome State Fault Refusal :=
  let k := drop.port
  if !s.ethOn k then done s
  else
    match drop.cause with
    | .filtered => done (s.bump (Reg.ETH_RX_DROP_CNT k))
    | .fcs => done (s.bump (Reg.ETH_RX_ERR_CNT k))
    | .overrun => done ((s.bump (Reg.ETH_RX_DROP_CNT k)).pulse (970 + k.val))

/-- The port answers for an address: ETH_IP is set and is the one asked for (R291). -/
def State.ethAnswers (s : State) (k : Fin 2) (ip : BitVec 32) : Bool :=
  s.reg (Reg.ETH_IP k) ≠ 0 && s.regN (Reg.ETH_IP k) = ip.toNat

/-- ARP_REQUEST (R290, R291). -/
def execArpRequest (k : Fin 2) (targetIp : BitVec 32) (head : EthHead) (srcIp : BitVec 32) (s : State) :
    Host.Outcome State Fault Refusal :=
  if !s.ethOn k then done s
  else if !s.ethTakes k head.dst.toNat then done (s.bump (Reg.ETH_RX_DROP_CNT k))
  else
    let s := s.bump (Reg.ETH_RX_CNT k)
    if s.ethAnswers k targetIp then done (s.ethSend k (.arp head.src srcIp)) else done s

/-- ICMP_ECHO (R290, R291). -/
def execIcmpEcho (k : Fin 2) (dstIp : BitVec 32) (head : EthHead) (srcIp : BitVec 32) (body : Bytes) (s : State) :
    Host.Outcome State Fault Refusal :=
  if !s.ethOn k then done s
  else if !s.ethTakes k head.dst.toNat then done (s.bump (Reg.ETH_RX_DROP_CNT k))
  else
    let s := s.bump (Reg.ETH_RX_CNT k)
    if s.ethAnswers k dstIp then done (s.ethSend k (.echo head.src srcIp body)) else done s

/-- ETHk_LINK: an enabled port without link (R310). -/
def State.showEthLink (s : State) (k : Fin 2) : State :=
  s.level (968 + k.val) (s.flag (Reg.ETH_ENABLE k) && s.ethLink k = 0)

/-- ETH_LINK_CHANGE: the in-band status says 0 down, else 10, 100 or 1,000 Mb/s (R290, R311). -/
def execEthLinkChange (k : Fin 2) (speed : Fin 4) (s : State) : Host.Outcome State Fault Refusal :=
  if s.alive then done ((s.modEth k fun x => { x with inband := speed.val }).showEthLink k) else done s

/-- ETH_ENABLE is visible (R310). -/
def applyEthEnable (k : Fin 2) (s : State) (_ : Key) (_ _ : Int) : State := s.showEthLink k

/-! ### CAN error states (R294) -/

/-- CAN_BUS_ERROR: a frame on the medium is broken off and keeps its place; new error counters, and the state that
ISO 11898-1 gives them (R294, R296). -/
def execCanBusError (c : Fin 2) (tec rec : Nat) (s : State) : Host.Outcome State Fault Refusal :=
  let x := s.can[c]
  if !s.alive || x.state = .off || x.state = .busOff then done s
  else
    let off : Bool := 256 ≤ tec
    let passive : Bool := !off && (128 ≤ tec || 128 ≤ rec)
    let st : CanState := if off then .busOff else if passive then .passive else .active
    let s := s.each (netQueues ⟨c.val + 2, by omega⟩) fun s q => s.modTq q fun t => { t with sending := false }
    let s := s.modCan c fun x => { x with state := st, tec := min tec 255, recErr := min rec 255, recovering := false }
    let s := s.level (976 + c.val) passive
    if off then done ((s.bump (Reg.CAN_BOFF_CNT c)).raise (974 + c.val)) else done s

/-- CAN_RECOVER: recovery starts; outside bus-off nothing is to recover (R294). -/
def effCanRecover (c : Fin 2) : Eff := fun s =>
  .ok (s.modCan c fun x => { x with recovering := x.recovering || x.state = .busOff })

def execCanRecover (p : Port) (c : Fin 2) (s : State) : Host.Outcome State Fault Refusal :=
  hostCmd p (Reg.CAN_RECOVER c) (effCanRecover c) s

/-- CAN_BUSOFF_RECOVERED: 128 occurrences of 11 recessive bits, at once when CAN_BOFF_AUTO is 1 (R294). -/
def execCanBusoffRecovered (c : Fin 2) (s : State) : Host.Outcome State Fault Refusal :=
  let x := s.can[c]
  if s.alive && x.state = .busOff && (x.recovering || s.flag (Reg.CAN_BOFF_AUTO c)) then
    done ((s.modCan c fun x => { x with state := .active, tec := 0, recErr := 0, recovering := false }).gone (974 + c.val))
  else done s

/-- CAN_ENABLE is visible: the port leaves or enters OFF. -/
def applyCanEnable (c : Fin 2) (s : State) (_ : Key) (old v : Int) : State :=
  if old = v then s
  else
    let st : CanState := if v = 1 then .active else .off
    let s := s.modCan c fun x => { x with state := st, tec := 0, recErr := 0, recovering := false, sdo := .idle }
    (s.gone (974 + c.val)).gone (976 + c.val)

/-- The quanta per bit between `lo` and `hi` for which a prescaler on CCLK, 40 MHz, gives the rate exactly (R294). -/
def quanta (lo hi : Nat) (rate : Int) : List Nat :=
  ((List.range (hi + 1 - lo)).map (lo + ·)).filter fun n => 40000000 % (rate.toNat * n) = 0

/-- A rate that some prescaler divides exactly (R294). -/
def rateOk (lo hi : Nat) (rate : Int) : Bool := !(quanta lo hi rate).isEmpty

/-- The bit timing of a port: the prescaler on CCLK, the quanta before the sample point behind the one of synchronisation,
and those behind it, which also are the synchronisation jump width (R294). -/
structure BitTiming where
  prescaler : Nat
  seg1 : Nat
  seg2 : Nat
  deriving DecidableEq, Repr

/-- The timing with the most quanta per bit, its sample point in 1/1,000 at the nearest quantum; of two equally near ones
the earlier, which leaves a phase segment 2 (R294; log entry 90). -/
def bitTiming (lo hi : Nat) (rate sp : Int) : Option BitTiming :=
  (quanta lo hi rate).getLast?.map fun n =>
    let p := (n * sp.toNat + 499) / 1000
    { prescaler := 40000000 / (rate.toNat * n), seg1 := p - 1, seg2 := n - p }

/-- The timing of a port's nominal and data bits (R294). -/
def State.nominalTiming (s : State) (c : Fin 2) : Option BitTiming :=
  bitTiming 8 80 (s.reg (Reg.CAN_NOM_RATE c)) (s.reg (Reg.CAN_NOM_SP c))

def State.dataTiming (s : State) (c : Fin 2) : Option BitTiming :=
  bitTiming 5 25 (s.reg (Reg.CAN_DATA_RATE c)) (s.reg (Reg.CAN_DATA_SP c))

/-- Transmitter delay compensation is in use (R294). -/
def State.delayCompensated (s : State) (c : Fin 2) : Bool := 1000000 < s.reg (Reg.CAN_DATA_RATE c)

/-- The rates of R294. -/
def checkCanRate (c : Fin 2) (_ : State) (get : Key → Int) (k : Key) (v : Int) : Except Nak Unit :=
  need (if k = Reg.CAN_NOM_RATE c then rateOk 8 80 v else if k = Reg.CAN_DATA_RATE c then rateOk 5 25 v else 0 ≤ get k) nakRange

end Sys2Proof.Machine
end

