-- ==== Sys2Proof/Machine/Reply.lean ====
section
/-!
DEFINITION. How the result of a dictionary access goes back to its sender: HSP frames (R284 to R286), datagrams
(R292, R293) and SDO frames (R295).
-/

namespace Sys2Proof.Machine

/-- An HSP frame (R284). -/
def hspFrame (op : Nat) (tag : Byte) (payload : Bytes) : Bytes :=
  let n := payload.length
  let head := leBytes 1 (op * 16 + n / 256) ++ leBytes 1 n ++ [tag]
  head ++ [crc8 head] ++ (if n = 0 then [] else payload ++ beBytes 2 (crc16 payload).toNat)

/-- The reply datagram to a request (R292). -/
def dgrReply (req : Bytes) (abort : Nat) (data : Bytes) : Bytes :=
  let body := leBytes 1 1 ++ leBytes 1 (leNat (sliceB 1 1 req) + 0x80) ++ sliceB 2 5 req ++ leBytes 1 0 ++ leBytes 4 abort ++
    leBytes 2 data.length ++ data
  body ++ leBytes 4 (crc32 body).toNat

/-- An SDO frame that names an object: command byte, index, sub-index and four bytes (R295). -/
def sdoFrame (cmd : Nat) (k : Key) (d : Bytes) : Bytes :=
  leBytes 1 cmd ++ leBytes 2 (k / 256) ++ leBytes 1 k ++ padTo 4 d

/-- An SDO abort (R295). -/
def sdoAbort (k : Key) (code : Nat) : Bytes := sdoFrame 0x80 k (leBytes 4 code)

/-- The answer to an upload request: expedited up to four bytes, else segmented (R295). -/
def State.sdoUpload (s : State) (c : Fin 2) (k : Key) (data : Bytes) : State :=
  if data.length ≤ 4 then s.canSend c (sdoFrame (0x43 + (4 - data.length) * 4) k data)
  else
    (s.modCan c fun x => { x with sdo := .upload k data false }).canSend c (sdoFrame 0x41 k (leBytes 4 data.length))

/-- The result of an access returned by its route; reads carry data (R266, R286, R293, R295). -/
def State.answer (s : State) (r : Route) (abort : Nat) (data : Bytes) : State :=
  match r with
  | .none => s
  | .hsp h tag => s.modHsp h fun x => { x with executing := none, reply := some (tag, abort, data) }
  | .dgr k mac ip port req =>
    let b := dgrReply req abort data
    (s.modEth k fun x => { x with executing := none, last := some (req, b) }).ethSend k (.udp mac ip port b)
  | .sdo c k seg =>
    let s := s.modCan c fun x => { x with executing := false }
    if abort ≠ 0 then s.canSend c (sdoAbort k abort)
    else
      match seg with
      | some t => s.canSend c (leBytes 1 (0x20 + b2n t * 16) ++ leBytes 7 0)
      | none => if data.isEmpty then s.canSend c (sdoFrame 0x60 k []) else s.sdoUpload c k data

end Sys2Proof.Machine
end

