-- ==== Sys2Proof/Machine/Mgmt.lean ====
section
/-!
DEFINITION. The management core and its restarts (R28, R315, R319, R328), the sensors (R316), the commands of the
maintenance scheduler (R317, R318) and the log (R320 to R322).
-/

namespace Sys2Proof.Machine

/-! ### The firmware banks' selection (R325) -/

/-- A record whose CRC-32 fails is no selection (R325). -/
def BankSel.checked (r : BankSel) : BankSel :=
  { r with valid := r.valid && r.crc = selCrc r.active r.previous r.trial r.counter }

/-- The record that decides at boot (R325). -/
def newestSel (v : Vector BankSel 2) : Fin 2 :=
  if v[0].valid && (!v[1].valid || v[1].counter ≤ v[0].counter) then 0 else 1

/-- The bank's index. -/
def bankIx (b : Bool) : Fin 2 := if b then 1 else 0

/-- A bank select written into the older record with the counter plus 1 (R325). -/
def State.writeSel (s : State) (active previous trial : Bool) : State :=
  let i := newestSel s.upd.sel
  let o : Fin 2 := if i = 0 then 1 else 0
  let c := s.upd.sel[i].counter + 1
  let r : BankSel := { valid := true, active := active, previous := previous, trial := trial, counter := c, crc := selCrc active previous trial c }
  let s := if s.upd.sel[i].active ≠ active then s.bump Reg.FW_SWITCH_CNT else s
  s.modUpd fun u => { u with sel := vmod u.sel o fun _ => r }

/-- Sixteen ASCII bytes of a bank's firmware version; zeros when invalid (R323, R341). -/
def State.bankVersion (s : State) (i : Fin 2) : Bytes :=
  let b := s.upd.banks[i]
  if !b.valid then List.replicate 16 0#8
  else if b.factory then (List.range 16).map Config.factoryFirmware
  else sliceB 16 16 b.image

/-- A new UPD_STATE with its UPDATE event (R320). -/
def State.setUpd (s : State) (st : UpdState) (detail : Nat) : State :=
  let s := s.modUpd fun u => { u with state := st, detail := detail }
  s.logKind 5 st.num (leBytes 1 st.num ++ leBytes 1 detail ++ leBytes 2 0 ++ (s.bankVersion (bankIx s.upd.bank)).take 8)

/-- The return to the previous bank (R328). -/
def State.revertBank (s : State) (detail : Nat) : State :=
  let old := s.upd.bank
  let prev := s.upd.sel[newestSel s.upd.sel].previous
  let s := (s.writeSel prev old false).modUpd fun u => { u with bank := prev }
  (s.pulse 1031).setUpd .failed detail

/-! ### Management restarts -/

/-- A reason as 7000h.03 reports it. -/
def restartNum : RestartReason → Nat
  | .cold => 0 | .watchdog => 1 | .lockstep => 2 | .liveSwap => 3 | .revert => 4

/-- A run in APPLY whose row has not taken effect loses its row and ends ABORTED (R136). -/
def State.abortApply (s : State) (n : ChId) : State :=
  let mine (x : Staging) : Bool := x.ch = n && x.source ≤ 1 && !x.inUse
  let q := quadOf n
  let s := s.modBead fun b =>
    { b with
      waiting := b.waiting.filter fun x => !mine x
      staging := vmod b.staging q fun x => if x.any mine then none else x }
  (s.endRun n 5 5).stageNext q

/-- What a restart does to calibration: runs whose row has not taken effect end, candidates go (R28, R136, R141). -/
def State.restartRuns (s : State) : State :=
  s.each all16 fun s n =>
    let s := if s.cal[n].state = .apply then s.abortApply n else s.abortRun n 5
    s.modCal n fun c => { c with candidate := none, repeatDue := false }

/-- A store that ends FAILED with a detail, and its STORE event (R274, R319, R320). -/
def State.storeEnds (s : State) (st detail : Nat) : State :=
  let s := s.modStore fun x => { x with state := st, detail := detail }
  let gen := match newestStore s.store.gens with | some g => s.store.gens[g].counter | none => 0
  s.logKind 11 st (leBytes 1 st ++ leBytes 1 detail ++ leBytes 2 0 ++ leBytes 4 gen)

/-- What a restart does to the running MRAM writer (R319). -/
def State.restartWriter (s : State) : State :=
  match s.sched[mramDomain].running with
  | none => s
  | some a =>
    let s : State :=
      match a, s.upd.blocks with
      | .store, _ => s.storeEnds 3 3
      | .fwBlock, b :: rest =>
        ((s.modUpd fun u => { u with blocks := rest }).refuse b.port
          (if b.length.isSome then Reg.UPD_BEGIN else Reg.UPD_DATA) nakMgmt).answer b.route nakMgmt.abort []
      | _, _ => s
    s.schedEnd mramDomain

/-- The management core restarts (R315): its count, reason, log event, the third within 60 s, and its activities. -/
def State.restart (s : State) (r : RestartReason) : State :=
  let recent := s.now :: s.mgmt.recent.filter fun t => s.now ≤ t + edgesOf 60
  let s := s.modMgmt fun m => { m with restarting := true, reason := restartNum r, restartAt := s.now, recent := recent }
  let s := (s.bump Reg.MGMT_RESTART_CNT).logKind 10 (restartNum r) (leBytes 1 (restartNum r))
  let s := if 3 ≤ recent.length then s.pulse 26 else s
  s.restartRuns.restartWriter

/-- After MGMT_RESTART_LOOP, restarts keep 10 s apart (R315). -/
def State.restartSpaced (s : State) : Bool :=
  (s.src 26).state ≠ .idle && s.mgmt.recent.head?.any fun t => s.now < t + edgesOf 10

/-- A restart asked for: at once, or put off while MGMT_RESTART_LOOP keeps restarts apart (R315). -/
def State.askRestart (s : State) (r : RestartReason) : State :=
  if s.restartSpaced then s.modMgmt fun m => { m with due := some r } else s.restart r

/-- A restart by watchdog or lockstep; in TRIAL it reverts, which is a further restart (R315, R328). -/
def State.faultRestart (s : State) (r : RestartReason) : State :=
  let s := s.modFloor fun f => { f with wdogCnt := min (f.wdogCnt + 1) 255 }
  let trial : Bool := s.upd.state = .trial
  let s := s.restart r
  if trial then (s.revertBank 6).askRestart .revert else s

/-- A watchdog expiry or a lockstep mismatch: its restart, or the note that one is due (R315). -/
def State.coreFault (s : State) (r : RestartReason) : State :=
  if s.restartSpaced then s.modMgmt fun m => { m with due := some r } else s.faultRestart r

/-- MGMT_WDOG: no kick for FC_WDOG_TMO (R212, R315); run control suspends the watchdog (R334). -/
def execMgmtWdog (s : State) : Host.Outcome State Fault Refusal :=
  if s.oscOn && !s.sup.reset && !s.tap.halted then done ((s.pulse 25).coreFault .watchdog) else done s

/-- MGMT_LOCKSTEP (R315). -/
def execMgmtLockstep (s : State) : Host.Outcome State Fault Refusal :=
  if s.alive then done ((s.pulse 24).coreFault .lockstep) else done s

/-- MGMT_RESTART: a restart that the spacing of R315 has put off is made. One that is made at once belongs to the command
of its cause: MGMT_WDOG, MGMT_LOCKSTEP, UPD_QUIET_POINT, UPD_TRIAL_TIMEOUT, the cold start to the reset sequence. -/
def execMgmtRestart (r : RestartReason) (s : State) : Host.Outcome State Fault Refusal :=
  if s.alive && s.mgmt.due = some r && !s.restartSpaced then
    let s := s.modMgmt fun m => { m with due := none }
    done (if r = .revert then s.restart r else s.faultRestart r)
  else done s

/-- MGMT_RESTART_DONE: the dictionary service resumes, and a difference between the working copy and the newest
generation is committed (R144, R315). -/
def State.beadsDiffer (s : State) : Bool :=
  match newestGen s.bead.gens with
  | some g => s.bead.gens[g].sets ≠ s.sets.toList || s.bead.gens[g].trims ≠ s.allTrims
  | none => s.sets.toList.any fun x => x.calibrated

def execMgmtRestartDone (s : State) : Host.Outcome State Fault Refusal :=
  if s.alive && s.mgmt.restarting then
    let s := s.modMgmt fun m => { m with restarting := false }
    done (if s.beadsDiffer then s.commitOffer else s)
  else done s

/-! ### Sensors (R316) -/

/-- Two die sensors differ by more than 15 K. -/
def dieDiffer (v : Vector Int 4) : Bool := v.toList.any fun a => v.toList.any fun b => 30 < a - b

/-- SENSOR_REFRESH: the readings of one millisecond; MGMT_SENSOR after a second of disagreement (R67, R316). -/
def State.sensors (s : State) (die : Vector Int 4) (railMv : Vector Nat 5) (pllLock : Bool) (floorDev : Int) : State :=
  let bad := if dieDiffer die then s.mgmt.sensorBad + 1 else 0
  let top := die.toList.foldl max (if s.mgmt.tempRead then s.mgmt.tempMax else die[0])
  let s := s.modMgmt fun m =>
    { m with
      tempDie := die, railMv := railMv, pllLock := pllLock, floorDev := floorDev, sensorBad := bad, tempMax := top
      tempRead := true }
  (s.level 1035 (decide (1000 ≤ bad))).each all16 State.tempFollow

def execSensorRefresh (die : Vector Int 4) (railMv : Vector Nat 5) (pllLock : Bool) (floorDev : Int) (s : State) :
    Host.Outcome State Fault Refusal :=
  if s.alive && s.serviceOn then done (s.sensors die railMv pllLock floorDev) else done s

/-! ### The log (R320 to R322) -/

/-- A log record (R320). -/
def State.logRecord (s : State) (e : LogEvent) : Bytes :=
  let body := leBytes 4 s.log.nextSeq ++ leBytes 10 (s.pair80 (some (e.time, e.wraps))) ++ leBytes 2 e.source ++
    leBytes 1 e.kind ++ leBytes 1 e.info ++ leBytes 1 e.states ++ leBytes 1 (b2n e.suspect + 2 * b2n e.lost) ++
    leBytes 4 e.tick ++ (match e.record with | some r => r.bytes | none => List.replicate 16 0#8) ++ leBytes 4 e.fcSum ++
    leBytes 4 e.cfg ++ padTo 12 e.detail
  body ++ leBytes 4 (crc32 body).toNat

/-- A record whose CRC-32 holds (R320). -/
def logOk (b : Bytes) : Bool := b.length = 64 && leNat (sliceB 60 4 b) = (crc32 (b.take 60)).toNat

/-- The log at boot: records with an invalid CRC are left out; all of them but a torn newest one are counted and raise
LOG_CRC, and SEQ goes on from the highest valid one (R321; log entry 87). -/
def State.checkLog (s : State) : State :=
  let bad := (s.log.recs.drop 1).countP fun x => !logOk x.2
  let recs := s.log.recs.filter fun x => logOk x.2
  let s := s.modLog fun _ => { recs := recs, nextSeq := match recs with | x :: _ => (x.1 + 1) % 2 ^ 32 | [] => 0 }
  if bad = 0 then s
  else (s.setReg Reg.LOG_BAD_CNT (satAdd 32 (s.reg Reg.LOG_BAD_CNT) (Int.ofNat bad))).pulse 1028

/-- LOG_APPEND: the oldest queued event becomes the next record of the ring of 12,288 (R320, R321). -/
def execLogAppend (s : State) : Host.Outcome State Fault Refusal :=
  match s.fc.queue with
  | e :: rest =>
    if s.alive && s.serviceOn then
      let b := s.logRecord e
      let s := s.modFc fun c => { c with queue := rest }
      done (s.modLog fun l => { recs := ((l.nextSeq, b) :: l.recs).take 12288, nextSeq := (l.nextSeq + 1) % 2 ^ 32 })
    else done s
  | [] => done s

/-- LOG_COMPACT (R322). -/
def effLogCompact : Eff := fun s => do
  need (!s.updWaits) nakMgmt
  match s.schedDo mramDomain .logCompact with
  | (.refuse, _) => .error nakSched
  | (_, s) => .ok s

def execLogCompact (p : Port) (s : State) : Host.Outcome State Fault Refusal := hostCmd p Reg.LOG_COMPACT effLogCompact s

/-- A compaction asked for by the device itself (R318, R322). -/
def State.compactOffer (s : State) : State := if s.updWaits then s else (s.schedDo mramDomain .logCompact).2

/-- LOG_COMPACTION_DUE: 24 h, or an MRAM_CE in the log region (R322). -/
def execLogCompactionDue (s : State) : Host.Outcome State Fault Refusal :=
  if s.alive && s.serviceOn then done s.compactOffer else done s

/-- The end of a compaction: contents, SEQ and CRC stay; how many records the code had corrected is not in the state
(log entry 7). -/
def State.compacted (s : State) : State :=
  let n := Config.unstated s.fresh % (s.log.recs.length + 1)
  s.draw.setReg Reg.LOG_REWRITE_CNT ((s.reg Reg.LOG_REWRITE_CNT + Int.ofNat n) % 2 ^ 32)

/-! ### Firmware blocks (R326) -/

/-- The inactive bank. -/
def State.spare (s : State) : Fin 2 := bankIx (!s.upd.bank)

/-- The inactive bank holds no image any more. -/
def State.clearSpare (s : State) : State := s.modUpd fun u => { u with banks := vmod u.banks s.spare fun _ => {} }

/-- A firmware block has been written: the header invalidated, or 1,024 bytes appended. -/
def State.blockDone (s : State) (b : UpdBlock) : State :=
  match b.length with
  | some n => ((s.clearSpare).modUpd fun u => { u with len := n, offset := 0 }).setUpd .receiving 0
  | none =>
    if s.upd.state = .receiving then
      s.modUpd fun u =>
        { u with offset := u.offset + 1024, banks := vmod u.banks s.spare fun x => { x with image := x.image ++ b.data } }
    else s

/-- The end of the running firmware block: its host's access completes. -/
def State.endBlock (s : State) : State :=
  match s.upd.blocks with
  | b :: rest => ((s.modUpd fun u => { u with blocks := rest }).blockDone b).answer b.route 0 []
  | [] => s

/-! ### Scheduler commands -/

/-- The scheduler's domain by name. -/
def domainIx : Domain → Fin 17
  | .chan n => chDomain n
  | .mram => mramDomain

/-- A commanded request that is refused counts (R318). -/
def State.orRefused (s : State) (r : Except Nak State) : State :=
  match r with
  | .ok s' => s'
  | .error n => if n = nakSched then s.bump Reg.SCH_REFUSE_CNT else s

/-- SCHED_REQUEST: a request by the activity's own rules; a store and a firmware block are asked for by their commands
only. -/
def execSchedRequest (d : Domain) (a : Activity) (commanded : Bool) (s : State) : Host.Outcome State Fault Refusal :=
  if !s.alive then done s
  else
    match d, a with
    | .chan n, .probe => done (if commanded then s.orRefused (s.probeAsk n) else s.probeOffer n)
    | .chan n, .cal => if commanded then done (s.orRefused (effCalStart n s)) else execCalTriggerEval n s
    | .chan n, .test => if commanded then done (s.orRefused (effInjStart n s)) else done s
    | .mram, .beadCommit => done (if commanded then s.orRefused (effCommitNow s) else s.commitOffer)
    | .mram, .logCompact => done (if commanded then s.orRefused (effLogCompact s) else s.compactOffer)
    | _, _ => done s

/-- SCHED_ACTIVITY_END: a firmware block or a compaction ends, and the PENDING request runs; every other activity ends
with its own command (R318). -/
def execSchedActivityEnd (d : Domain) (s : State) : Host.Outcome State Fault Refusal :=
  if !s.alive then done s
  else
    match d, s.sched[mramDomain].running with
    | .mram, some .fwBlock => done (s.endBlock.schedEnd mramDomain)
    | .mram, some .logCompact => done (s.compacted.schedEnd mramDomain)
    | _, _ => done s

/-- The bound on a writer's hold of the MRAM domain in ms (R317). -/
def holdBound : Activity → Nat
  | .beadCommit => 250
  | .store => 400
  | .fwBlock => 5
  | .logCompact => 200
  | .probe | .cal | .test => 0

/-- The running writer has held the MRAM domain longer than its bound (R317). -/
def State.overrun (s : State) : Bool :=
  s.sched[mramDomain].running.any fun a => holdBound a * 10 ^ 6 < s.since s.sched[mramDomain].since

/-- SCHED_OVERRUN: the running writer has exceeded its bound and goes on (R317). -/
def execSchedOverrun (s : State) : Host.Outcome State Fault Refusal :=
  if s.alive && s.overrun then done (s.pulse 1034) else done s

end Sys2Proof.Machine
end

