-- ==== Sys2Proof/Machine/Update.lean ====
section
/-!
DEFINITION. Live update: the image and its checks (R323, R324), the steps of R326, the quiet point (R327) and the trial
(R328).
-/

namespace Sys2Proof.Machine

/-! ### The image -/

/-- The anti-rollback version of a bank's image; the bank that the part is made with has version 0 (log entry 6). -/
def Bank.sec (b : Bank) : Nat := if b.factory then 0 else (b.image.getD 8 0#8).toNat

/-- The signature of an image holds under the Caerolind key (R323). -/
def signed (m : Bytes) : Bool :=
  let hash := beNat (sha256 (putB 64 (List.replicate 64 0#8) m))
  ecdsaOk hash (beNat (sliceB 64 32 m)) (beNat (sliceB 96 32 m)) Config.publicKeyX Config.publicKeyY

/-- UPD_DETAIL of the first check that an image fails: length, PRODUCT, SEC_VERSION, SHA-256 and signature (R326). -/
def imageFault (m : Bytes) (len otp : Nat) : Option Nat :=
  if leNat (sliceB 4 4 m) ≠ len then some 1
  else if leNat (sliceB 0 4 m) ≠ 0x1640 then some 3
  else if (m.getD 8 0#8).toNat < otp then some 4
  else if !signed m then some 2
  else none

/-! ### The commands of R326 -/

/-- A firmware block asked for: it runs, waits, or is refused by the scheduler (R318, R326). -/
def State.askBlock (s : State) (b : UpdBlock) : Except Nak State :=
  match s.schedDo mramDomain .fwBlock with
  | (.refuse, _) => .error nakSched
  | (_, s) => .ok (s.modUpd fun u => { u with blocks := u.blocks ++ [b] })

def effUpdBegin (p : Port) (r : Route) (v : Int) : Eff := fun s => do
  need (s.upd.state = .idle || s.upd.state = .failed) nakCond
  s.askBlock { port := p, length := some v.toNat, data := [], route := r }

/-- UPD_BEGIN: the inactive bank's header is invalidated as one firmware block. -/
def execUpdBegin (p : Port) (v : Int) (s : State) : Host.Outcome State Fault Refusal :=
  hostSet p Reg.UPD_BEGIN v (effUpdBegin p .none) s

def effUpdData (p : Port) (r : Route) (data : Bytes) : Eff := fun s => do
  need (s.upd.state = .receiving) nakCond
  let waiting := (s.upd.blocks.filter fun b => b.length.isNone).length
  need (s.upd.offset + 1024 * (waiting + 1) ≤ s.upd.len) nakHigh
  s.askBlock { port := p, length := none, data := data, route := r }

/-- UPD_DATA: 1,024 bytes as one firmware block. -/
def execUpdData (p : Port) (data : Bytes) (s : State) : Host.Outcome State Fault Refusal :=
  hostWrite p Reg.UPD_DATA data (fun _ => effUpdData p .none data) s

/-- UPD_VERIFY: the image counts as valid once its checks pass. -/
def effUpdVerify : Eff := fun s => do
  need (s.upd.state = .receiving && s.upd.len ≤ s.upd.offset) nakCond
  let i := s.spare
  match imageFault s.upd.banks[i].image s.upd.len s.upd.otp with
  | some d => .ok ((s.setUpd .failed d).pulse 1030)
  | none => .ok ((s.modUpd fun u => { u with banks := vmod u.banks i fun b => { b with valid := true } }).setUpd .verified 0)

def execUpdVerify (p : Port) (s : State) : Host.Outcome State Fault Refusal := hostCmd p Reg.UPD_VERIFY effUpdVerify s

/-- UPD_ACTIVATE: the activation waits for its quiet point. -/
def effUpdActivate : Eff := fun s => do
  need (s.upd.state = .verified && s.upd.otp ≤ s.upd.banks[s.spare].sec) nakCond
  .ok (s.setUpd .waitQuiet 0)

def execUpdActivate (p : Port) (s : State) : Host.Outcome State Fault Refusal := hostCmd p Reg.UPD_ACTIVATE effUpdActivate s

/-! ### The quiet point (R327) -/

/-- A dictionary access is executing. -/
def State.accessRuns (s : State) : Bool :=
  !s.grp.sealed.isEmpty || !s.grp.held.isEmpty || !s.upd.blocks.isEmpty ||
  s.hsp.toList.any (fun h => h.executing.isSome) || s.eth.toList.any (fun e => e.executing.isSome) ||
  s.can.toList.any fun c => c.executing

/-- The quiet point of R327. -/
def State.quiet (s : State) : Bool :=
  !s.accessRuns && s.sched[mramDomain].running.isNone && s.sched[mramDomain].pending.isNone &&
  s.cal.toList.all fun c => !(c.state = .evaluate || c.state = .apply || c.state = .commit)

/-- A PENDING writer begins when the activation that held it back has ended. -/
def State.kickWriter (s : State) : State :=
  if s.sched[mramDomain].running.isNone then s.schedEnd mramDomain else s

/-- UPD_QUIET_POINT: the bank select with TRIAL, and the restart into the new bank. While the spacing of R315 admits no
restart the activation goes on waiting. -/
def execUpdQuietPoint (s : State) : Host.Outcome State Fault Refusal :=
  if s.alive && s.serviceOn && s.upd.state = .waitQuiet && s.quiet && !s.restartSpaced then
    let old := s.upd.bank
    let s := (s.writeSel (!old) old true).modUpd fun u => { u with bank := !old, faulted := false }
    done ((s.setUpd .trial 0).restart .liveSwap)
  else done s

/-- UPD_QUIET_TIMEOUT: NO_QUIET, and nothing has changed. -/
def execUpdQuietTimeout (s : State) : Host.Outcome State Fault Refusal :=
  if s.alive && s.upd.state = .waitQuiet then done (s.setUpd .failed 5).kickWriter else done s

/-! ### Confirmation, trial and abort -/

/-- Step 5 of R326: OTP steps up to SEC_VERSION, and the bank select with TRIAL 0. -/
def State.confirm (s : State) (burnOk : Bool) : State :=
  let sec := min 64 s.upd.banks[bankIx s.upd.bank].sec
  let burn : Bool := s.upd.otp < sec
  let prev := s.upd.sel[newestSel s.upd.sel].previous
  let s := s.writeSel s.upd.bank prev false
  if burn && !burnOk then (s.setUpd .idle 8).pulse 1033
  else (s.modUpd fun u => { u with otp := max u.otp sec }).setUpd .idle 0

def effUpdConfirm (burnOk : Bool) : Eff := fun s => do
  need (s.upd.state = .trial) nakCond
  .ok (s.confirm burnOk)

def execUpdConfirm (p : Port) (burnOk : Bool) (s : State) : Host.Outcome State Fault Refusal :=
  hostCmd p Reg.UPD_CONFIRM (effUpdConfirm burnOk) s

/-- UPD_TRIAL_TIMEOUT: the automatic confirmation, or the revert (R328). -/
def execUpdTrialTimeout (burnOk : Bool) (s : State) : Host.Outcome State Fault Refusal :=
  if s.alive && s.upd.state = .trial then
    if s.flag Reg.UPD_AUTO_CONFIRM && !s.upd.faulted then done (s.confirm burnOk)
    else done ((s.revertBank 7).askRestart .revert)
  else done s

/-- UPD_ABORT: IDLE, and the inactive bank invalid. -/
def effUpdAbort : Eff := fun s => do
  let u := s.upd.state
  need (u = .receiving || u = .verified || u = .waitQuiet || u = .failed) nakCond
  .ok (s.clearSpare.setUpd .idle 0).kickWriter

def execUpdAbort (p : Port) (s : State) : Host.Outcome State Fault Refusal := hostCmd p Reg.UPD_ABORT effUpdAbort s

end Sys2Proof.Machine
end

