-- ==== Sys2Proof/Machine/Power.lean ====
section
/-!
DEFINITION. The power states (R336, R337).
-/

namespace Sys2Proof.Machine

/-- A channel that the power state takes to OFF: its probe and its test end, CH_ENABLE is kept (R336, R337). -/
def State.idleChannel (s : State) (n : ChId) : State :=
  let s := (s.modFront n fun f => { f with probe := .idle }).schedWithdraw (chDomain n) .probe
  let s := if s.ch[n].state = .off then s.abortTest n 4 else s.enterCh n .off 0
  s.injBoundary n

/-- A driving exciter whose stage is clamped at once (R336, R351). -/
def State.excOff (s : State) (e : ExcId) : State :=
  if s.exc[e].driving then (s.foldClear e).modExc e fun x => { x with state := .off, restart := false } else s

/-- Channels leave the OFF of QUIET or SAFE-HOLD through a cold settle (R336). -/
def State.wakeChannel (s : State) (n : ChId) : State :=
  if s.flag (Reg.CH_ENABLE n) && s.ch[n].state = .off then s.enterCold n 1 else s

/-- What the new power state does to the blocks of R336. -/
def State.powerBlocks (s : State) (old new : Power) : State :=
  let exs := List.finRange 4
  let s := if old = .run then s.each all16 State.idleChannel else s
  let s : State :=
    match new with
    | .run => (s.each all16 State.wakeChannel).each exs State.excSync
    | .quiet | .safeHold => s.each exs State.excSync
    | .off =>
      ((s.releaseClaim .safe).each exs State.excOff).each (List.finRange 2) fun s k =>
        s.modLnk k fun l => { l with state := .down, first := true }
  s.showOutputs

/-- A change of the power state: reason, time, log and the debug level (R320, R335, R337). -/
def State.setPower (s : State) (new : Power) (reason p : Nat) : State :=
  let old := s.sup.power
  if old = new then s
  else
    let s := (s.modSup fun x => { x with power := new, powerReason := reason }).setReg Reg.PWR_TIME (Int.ofNat s.now80)
    let s := s.logKind 8 new.num (leBytes 1 old.num ++ leBytes 1 new.num ++ leBytes 1 reason ++ leBytes 1 p)
    (s.setDebug 0 0 p).powerBlocks old new

/-- No MRAM writer is RUNNING or PENDING (R337). -/
def State.mramIdle (s : State) : Bool :=
  s.sched[mramDomain].running.isNone && s.sched[mramDomain].pending.isNone

/-- PWR_CMD; the command of the state that the device is in has no effect (R337). -/
def effPwr (p : Port) (v : Int) : Eff := fun s => do
  let now := s.sup.power
  if v = 0 then .ok (s.setPower .run 1 p)
  else if v = 1 then
    if now = .quiet then .ok s
    else do
      need (now = .run && (s.dev.state = .config || s.dev.state = .safe)) nakCond
      need s.mramIdle nakSched
      .ok (s.setPower .quiet 1 p)
  else
    if now = .safeHold then .ok s
    else do
      need (s.dev.state = .safe) nakCond
      .ok (s.setPower .safeHold 1 p)

def execPwrRun (p : Port) (s : State) : Host.Outcome State Fault Refusal := hostSet p Reg.PWR_CMD 0 (effPwr p) s

def execPwrQuiet (p : Port) (s : State) : Host.Outcome State Fault Refusal := hostSet p Reg.PWR_CMD 1 (effPwr p) s

/-- SAFE-HOLD by TEMP_LIMIT raising with PWR_AUTO_HOLD, or by RETIRED (R330, R337). -/
def State.autoHold (s : State) (reason : Nat) : State :=
  if s.sup.power = .run || s.sup.power = .quiet then s.setPower .safeHold reason 0xFF else s

/-- PWR_SAFE_HOLD (R337). -/
def execPwrSafeHold (c : HoldCause) (s : State) : Host.Outcome State Fault Refusal :=
  match c with
  | .command p => hostSet p Reg.PWR_CMD 2 (effPwr p) s
  | .tempLimit =>
    if s.alive && (s.src 20).state = .active && s.flag Reg.PWR_AUTO_HOLD then done (s.autoHold 2) else done s
  | .retired => if s.alive && s.sec.lifecycle = 3 then done (s.autoHold 3) else done s

/-- PWR_OFF: the signature, SAFE, and an idle MRAM domain (R337). -/
def effPwrOff (p : Port) (v : Int) : Eff := fun s => do
  need (v = 0x746C6168) nakSignature
  need (s.dev.state = .safe) nakCond
  need s.mramIdle nakSched
  .ok (s.setPower .off 1 p)

def execPwrOff (p : Port) (v : BitVec 32) (s : State) : Host.Outcome State Fault Refusal :=
  hostSet p Reg.PWR_OFF (Int.ofNat v.toNat) (effPwrOff p) s

end Sys2Proof.Machine
end

