-- ==== Sys2Proof/Machine/Security.lean ====
section
/-!
DEFINITION. Lifecycle, authentication, keys and the debug level (R330 to R335, R338).
-/

namespace Sys2Proof.Machine

/-! ### Reading an object (R261, R266) -/

/-- Steps 1, 2 and 4 of R261 for a read. -/
def State.readChecks (p : Port) (k : Key) : Except Nak Obj := do
  need (indexExists k) ⟨0x06020000, 0xF⟩
  match findObj k with
  | none => .error ⟨0x06090011, 0xF⟩
  | some o =>
    need (o.acc ≠ .wo) ⟨0x06010001, 0xE⟩
    need (!(isAuth (baseKey k) && unitOf k ≠ p.val)) nakAccess
    .ok o

/-- A read access: the state after it, its abort code and its data. There is no code yet when a FENCE_GLOBAL holds the
access (R268), and none while the port waits for an earlier one (R260). -/
def State.readWith (s : State) (p : Port) (k : Key) (route : Route) (view : Obj → State → Except Nak (State × Bytes)) :
    State × Option (Nat × Bytes) :=
  match s.gate p with
  | .dead => (s, none)
  | .held => (s.modGrp fun g => { g with held := g.held ++ [⟨p, k, none, route⟩] }, none)
  | .busy => ((s.beat p).refuse p k nakMgmt, some (nakMgmt.abort, []))
  | .ready =>
    let s := s.beat p
    match State.readChecks p k with
    | .error n => (s.refuse p k n, some (n.abort, []))
    | .ok o =>
      match view o s with
      | .error n => (s.refuse p k n, some (n.abort, []))
      | .ok (s, d) => (s, some (0, d))

/-! ### Authentication (R331) -/

/-- The i-th nonce of the on-chip random generator. -/
def nonceOf (i : Nat) : Bytes := (List.range 16).map (Config.nonceByte i)

/-- A fresh nonce of port `p`, which discards the earlier one. -/
def State.challenge (s : State) (p : Port) : State × Bytes :=
  let b := nonceOf s.sec.nonceNo
  let at_ := s.now
  ((s.modSec fun x => { x with nonceNo := x.nonceNo + 1 }).modPort p fun x => { x with nonce := some (b, at_) }, b)

/-- AUTH_CHALLENGE: a read by port `p` of port `q`'s object. -/
def execAuthChallenge (p q : Port) (s : State) : Host.Outcome State Fault Refusal :=
  done (s.readWith p (Reg.AUTH_CHALLENGE q) .none fun _ s => .ok (s.challenge q)).1

/-- The key of a role (R331, R332). -/
def State.roleKey (s : State) (r : Role) : Option Bytes :=
  match r with
  | .observer => none
  | .operator => s.sec.keyOperator
  | .integrator => s.sec.keyIntegrator
  | .vendor => some ((List.range 32).map Config.vendorKey)

/-- The role of a number in AUTH_RESPONSE. -/
def roleOfNum (n : Nat) : Role :=
  match n with | 1 => .operator | 2 => .integrator | 3 => .vendor | _ => .observer

/-- The key of a role that the lifecycle admits (R333). -/
def State.admitted (s : State) (r : Role) : Option Bytes :=
  if s.sec.lifecycle = 3 || (s.sec.lifecycle = 0 && r ≠ .vendor) then none else s.roleKey r

/-- The response's MAC holds over nonce, port, role and SERIAL. -/
def macOk (key nonce : Bytes) (p : Port) (data : Bytes) : Bool :=
  data.drop 1 == hmac256 key (nonce ++ leBytes 1 p.val ++ data.take 1 ++ leBytes 4 Config.serial.toNat)

/-- The role that a response gains. -/
def State.responseRole (s : State) (p : Port) (data : Bytes) : Option Role :=
  let r := roleOfNum (data.getD 0 0#8).toNat
  match s.port[p].nonce, s.admitted r with
  | some (nonce, at_), some key =>
    if s.port[p].lockUntil.isNone && s.now ≤ at_ + edgesOf 10 && macOk key nonce p data then some r else none
  | _, _ => none

/-- AUTH_RESPONSE; a failure is counted by its refusal (R331). -/
def effResponse (q : Port) (data : Bytes) : Eff := fun s =>
  match s.responseRole q data with
  | none => .error nakRole
  | some r =>
    .ok ((s.modPort q fun x => { x with role := r, nonce := none }).logKind 9 1
      (leBytes 1 q.val ++ leBytes 1 r.num ++ leBytes 1 1))

def execAuthResponse (p q : Port) (data : Bytes) (s : State) : Host.Outcome State Fault Refusal :=
  hostWrite p (Reg.AUTH_RESPONSE q) data (fun _ => effResponse q data) s

/-- AUTH_LOGOUT. -/
def effLogout (q : Port) : Eff := fun s => .ok (s.modPort q fun x => { x with role := .observer })

def execAuthLogout (p q : Port) (s : State) : Host.Outcome State Fault Refusal := hostCmd p (Reg.AUTH_LOGOUT q) (effLogout q) s

/-- AUTH_LOCK_EXPIRY: the lock of port `q` ends; AUTH_LOCKOUT goes with the last one (R331). -/
def execAuthLockExpiry (q : Port) (s : State) : Host.Outcome State Fault Refusal :=
  if s.alive && s.port[q].lockUntil.isSome then
    let s := s.modPort q fun x => { x with lockUntil := none }
    done (if s.port.toList.any fun x => x.lockUntil.isSome then s else s.gone 1091)
  else done s

/-- KEY_OPERATOR and KEY_INTEGRATOR (R332). -/
def effKey (integrator : Bool) (data : Bytes) : Eff := fun s =>
  .ok (s.modSec fun x =>
    if integrator then { x with keyIntegrator := some data, crcIntegrator := crc32 data }
    else { x with keyOperator := some data, crcOperator := crc32 data })

/-- A key whose CRC fails at boot counts as absent (R332). -/
def State.checkKeys (s : State) : State :=
  s.modSec fun x =>
    { x with
      keyOperator := x.keyOperator.filter fun k => x.crcOperator = crc32 k
      keyIntegrator := x.keyIntegrator.filter fun k => x.crcIntegrator = crc32 k }

def execKeyWrite (p : Port) (integrator : Bool) (data : Bytes) (s : State) : Host.Outcome State Fault Refusal :=
  hostWrite p (if integrator then Reg.KEY_INTEGRATOR else Reg.KEY_OPERATOR) data (fun _ => effKey integrator data) s

/-! ### The debug level (R334, R335, R338) -/

/-- FULL is admitted (R338). -/
def State.fullAdmitted (s : State) : Bool :=
  s.sec.lifecycle < 2 ||
  (s.sec.lifecycle = 2 && s.sup.power = .run && s.dev.state = .service && !s.red.clmOut)

/-- DBG_LEVEL. -/
def effDebug (p : Port) (v : Int) : Eff := fun s => do
  need (!(p = 6 && Int.ofNat s.sec.debug < v)) nakCond
  need (v ≠ 2 || s.fullAdmitted) nakCond
  .ok (s.setDebug v.toNat 1 p)

def execDbgLevelWrite (p : Port) (v : Int) (s : State) : Host.Outcome State Fault Refusal :=
  hostSet p Reg.DBG_LEVEL v (effDebug p) s

/-- Run control is open: FULL, in BLANK and DEVELOP only (R334). -/
def State.runControl (s : State) : Bool := s.alive && s.sec.debug = 2 && s.sec.lifecycle ≤ 1

/-- RUN_CONTROL_HALT. -/
def execRunControlHalt (s : State) : Host.Outcome State Fault Refusal :=
  if s.runControl then done (s.modTap fun t => { t with halted := true }) else done s

/-- RUN_CONTROL_RESUME: the core goes on without a restart. -/
def execRunControlResume (s : State) : Host.Outcome State Fault Refusal :=
  if s.runControl then done (s.modTap fun t => { t with halted := false }) else done s

/-! ### The lifecycle (R330, R333) -/

/-- The signature of the next lifecycle. -/
def lcSignature (lifecycle : Nat) : Option Int :=
  match lifecycle with
  | 0 => some 0x6C766564
  | 1 => some 0x6C616573
  | 2 => some 0x69746572
  | _ => none

/-- The conditions of R333 for the advance. -/
def State.lcReady (s : State) : Bool :=
  match s.sec.lifecycle with
  | 0 => s.sec.keyOperator.isSome && s.sec.keyIntegrator.isSome
  | 1 => s.dev.state = .config && !s.red.clmOut
  | 2 => s.dev.state = .config || s.dev.state = .safe
  | _ => false

/-- The advance by one step (R221, R330). -/
def State.advance (s : State) (p : Port) : State :=
  let old := s.sec.lifecycle
  let s := (s.modSec fun x => { x with lifecycle := old + 1 }).setReg Reg.LC_TIME (Int.ofNat s.now80)
  let s := s.logKind 6 (old + 1) (leBytes 1 old ++ leBytes 1 (old + 1) ++ leBytes 1 0 ++ leBytes 1 p.val)
  let s := s.each (List.finRange 7) fun s q => s.modPort q fun x => { x with role := .observer }
  let s := (s.setDebug 0 0 p).dropForces
  if old + 1 = 3 then (s.raise 1088).autoHold 3 else s

/-- LC_ADVANCE. -/
def effAdvance (p : Port) (v : Int) : Eff := fun s => do
  need (lcSignature s.sec.lifecycle = some v) nakSignature
  need s.lcReady nakCond
  .ok (s.advance p)

def execLcAdvance (p : Port) (v : BitVec 32) (s : State) : Host.Outcome State Fault Refusal :=
  hostSet p Reg.LC_ADVANCE (Int.ofNat v.toNat) (effAdvance p) s

end Sys2Proof.Machine
end

