-- ==== Sys2Proof/Machine/Tally.lean ====
section
/-!
DEFINITION. Tally inputs: glitch filter, decoding, counter and limits, speed, index check and divider (R183 to R196).
-/

namespace Sys2Proof.Machine

/-- A line's synchroniser at one SCLK edge: the second stage takes what the first one captured at the edge before
(R183). -/
def Line.sync (l : Line) (pin : Bool) : Line := { l with stage1 := pin, stage2 := l.stage1 }

/-- One sample of the synchronised level through the glitch filter of length F (R183). -/
def Line.filter (l : Line) (f : Nat) : Line :=
  if l.stage2 = l.level then { l with run := 0 }
  else if f + 1 ≤ l.run + 1 then { l with level := l.stage2, run := 0 }
  else { l with run := l.run + 1 }

/-- One SCLK edge of a line with its pin's level (R183). -/
def Line.clock (l : Line) (f : Nat) (pin : Bool) : Line := (l.sync pin).filter f

/-- The place of a pair AB in the forward sequence 00, 10, 11, 01 (R185). -/
def abPlace (a b : Bool) : Int :=
  match a, b with
  | false, false => 0
  | true, false => 1
  | true, true => 2
  | false, true => 3

/-- What a sample's decoding gives (R185, R186). -/
inductive Decoded where
  | none
  | step (d : Int)
  | illegal
  deriving DecidableEq, Repr

/-- The table of R185, with the signs exchanged when `inv`. -/
def decodeAb (a0 b0 a1 b1 inv : Bool) : Decoded :=
  let d := (abPlace a1 b1 - abPlace a0 b0) % 4
  let s : Int := if inv then -1 else 1
  if d = 0 then .none else if d = 1 then .step s else if d = 3 then .step (-s) else .illegal

/-- The counter after one step, kept within its limits (R188). -/
def Tally.countStep (t : Tally) (lo hi d : Int) : Tally :=
  let c := t.count + d
  if hi < c then { t with atHi := true, sHi := true }
  else if c < lo then { t with atLo := true, sLo := true }
  else { t with count := c, atHi := t.atHi && 0 < d, atLo := t.atLo && d < 0 }

/-- The speed history after one step at edge time `e` (R190, R191): the new history and speed. -/
def Tally.speedStep (t : Tally) (k : Nat) (e : Time32) (back : Bool) : List Time32 × Int :=
  if t.hist.isEmpty || t.back ≠ some back then ([e], 0)
  else
    let h := (e :: t.hist).take (k + 1)
    let kEff := h.length - 1
    let dt := e - (h.getLast?.getD e)
    let v := divRound (16 * Int.ofNat kEff * 10 ^ 9) (Int.ofNat dt.toNat)
    (h, clampI (-(2 ^ 31)) (2 ^ 31 - 1) (if back then -v else v))

/-- A Tally input enters FAULT: its emulators have an invalid source (R171, R194). -/
def State.talFault (s : State) (n : Fin 16) : State :=
  let s := s.modTal n fun t => { t with fault := true }
  s.each all16 fun s m =>
    if s.flag (Reg.EMU_ENABLE m) && s.emuTally m && s.emuSource m = n && s.emu[m].started then s.emuStop m else s

/-- An illegal transition (R186, R194). -/
def State.talIllegal (s : State) (n : Fin 16) : State :=
  let s := (s.modTal n fun t => { t with illegal := true, hist := [] }).bump (Reg.TAL_ILLEGAL_CNT n)
  let s := s.pulse (talSrc n 0)
  if s.bit (Reg.TAL_INVALID_ON n) 0 then s.talFault n else s

/-- A decoded step: raw count, counter, speed; a step that the counter does not take raises TAL_LIMIT (R187, R188,
R190). -/
def State.talStep (s : State) (n : Fin 16) (d : Int) : State :=
  let t := s.tal[n]
  let back : Bool := d < 0
  let late := (s.regN (Reg.TAL_FILT n) + 1) * 4
  let e := s.timeNow - BitVec.ofNat 32 late
  let (h, v) := s.tal[n].speedStep (s.regN (Reg.TAL_SPD_EDGES n)) e back
  let lo := s.reg (Reg.TAL_LIM_LO n)
  let hi := s.reg (Reg.TAL_LIM_HI n)
  let ext := s.ext - Int.ofNat late
  let s := s.modTal n fun t =>
    { (t.countStep lo hi d) with
      raw := wrapS 64 (t.raw + d), hist := h, back := some back, timedOut := false, edgeExt := ext }
  let s := (s.setReg (Reg.TAL_SPEED n) v).setReg (Reg.TAL_EDGE_TIME n) (Int.ofNat e.toNat)
  s.level (talSrc n 2) (s.tal[n].count = t.count || ((s.src (talSrc n 2)).cond && (s.tal[n].atHi || s.tal[n].atLo)))

/-- The value of m in (−1, 0, 1) that minimises |d − 4Lm|, a tie in favour of 0 (R193). -/
def bestTurn (d l4 : Int) : Int :=
  if (d - l4).natAbs < d.natAbs then 1 else if (d + l4).natAbs < d.natAbs then -1 else 0

/-- The comparison at an index edge with a reference (R193). -/
def State.talCompare (s : State) (n : Fin 16) (x xref : Int) (preset : Bool) : State :=
  let l4 := 4 * s.reg (Reg.TAL_LINES n)
  let d := x - xref
  let e := d - l4 * bestTurn d l4
  let s := (s.setReg (Reg.TAL_IDX_ERR n) (clampI (-(2 ^ 31)) (2 ^ 31 - 1) e)).bump (Reg.TAL_IDX_CNT n)
  if e = 0 then s
  else
    let s := (s.modTal n fun t => { t with mismatch := true }).bump (Reg.TAL_MISMATCH_CNT n)
    let s := s.pulse (talSrc n 1)
    if s.regN (Reg.TAL_IDX_TOL n) < e.natAbs then
      let s := s.modTal n fun t => { t with beyond := true }
      if s.bit (Reg.TAL_INVALID_ON n) 1 then s.talFault n else s
    else if s.reg (Reg.TAL_IDX_MODE n) = 2 && !preset then
      s.modTal n fun t =>
        { t with count := clampI (s.reg (Reg.TAL_LIM_LO n)) (s.reg (Reg.TAL_LIM_HI n)) (t.count - e) }
    else s

/-- TAL_PRESET_VAL kept within the limits. -/
def State.presetVal (s : State) (n : Fin 16) : Int :=
  clampI (s.reg (Reg.TAL_LIM_LO n)) (s.reg (Reg.TAL_LIM_HI n)) (s.reg (Reg.TAL_PRESET_VAL n))

/-- An index edge (R189, R192, R193). -/
def State.talIndex (s : State) (n : Fin 16) : State :=
  let t := s.tal[n]
  let x := if t.back = some true then t.raw + 1 else t.raw
  let s := s.setReg (Reg.TAL_IDX_RAW n) x
  let v := s.presetVal n
  let s := if t.armed then s.modTal n fun t => { t with count := v, armed := false } else s
  let s := match t.xref with | some r => s.talCompare n x r t.armed | none => s
  s.modTal n fun t => { t with xref := some x, seen := true }

/-- Whether the qualified Z makes an index edge (R192). -/
def indexEdge (z0 z1 : Bool) (back : Option Bool) : Bool :=
  (!z0 && z1 && back ≠ some true) || (z0 && !z1 && back = some true)

/-- The divider output (R195). -/
def State.divOut (s : State) (n : Fin 16) : Int :=
  s.reg (Reg.TAL_DIV_N n) * s.tal[n].raw / s.reg (Reg.TAL_DIV_M n)

/-- One SCLK sample of an enabled input, in the order of R187. -/
def State.talSample (s : State) (n : Fin 16) (a b z : Bool) : State :=
  let f := s.regN (Reg.TAL_FILT n)
  let t := s.tal[n]
  let div := s.divOut n
  let s := s.modTal n fun t => { t with div := div, a := t.a.clock f a, b := t.b.clock f b, z := t.z.clock f z }
  let u := s.tal[n]
  let s := match decodeAb t.a.level t.b.level u.a.level u.b.level (s.flag (Reg.TAL_DIR n)) with
    | .none => s
    | .step d => s.talStep n d
    | .illegal => s.talIllegal n
  let pol := s.flag (Reg.TAL_Z_POL n)
  let s :=
    if s.reg (Reg.TAL_IDX_MODE n) ≠ 0 && indexEdge (t.z.level ^^ pol) (u.z.level ^^ pol) s.tal[n].back then s.talIndex n else s
  if s.tal[n].preset.isSome then
    let v := s.presetVal n
    s.modTal n fun t => { t with count := v, preset := none }
  else s

def execTalSample (n : Fin 16) (a b z : Bool) (s : State) : Host.Outcome State Fault Refusal :=
  if s.alive && s.flag (Reg.TAL_ENABLE n) then done (s.talSample n a b z) else done s

/-- TAL_ENABLE visible: counts, reference and history start afresh (R189); an input that goes OFF is no valid source. -/
def applyTalEnable (n : Fin 16) (s : State) (_ : Key) (old v : Int) : State :=
  if old = v then s
  else if v = 1 then
    let c := clampI (s.reg (Reg.TAL_LIM_LO n)) (s.reg (Reg.TAL_LIM_HI n)) 0
    (s.modTal n fun t =>
      { t with
        fault := false, raw := 0, count := c, div := 0, back := none, xref := none, hist := [], timedOut := false
        atHi := false, atLo := false }).setReg (Reg.TAL_SPEED n) 0
  else (s.talFault n).modTal n fun t => { t with fault := false, preset := none }

def execTalEnableWrite (p : Port) (n : Fin 16) (v : Int) (s : State) : Host.Outcome State Fault Refusal :=
  hostSet p (Reg.TAL_ENABLE n) v (effVisible noCheck (applyTalEnable n) (Reg.TAL_ENABLE n)) s

/-- TAL_LIM_LO is less than TAL_LIM_HI (R189). -/
def checkTalLimits (n : Fin 16) (_ : State) (get : Key → Int) (_ : Key) (_ : Int) : Except Nak Unit :=
  need (get (Reg.TAL_LIM_LO n) < get (Reg.TAL_LIM_HI n)) nakRange

/-- New limits clamp a counter outside them, and set the bits of that limit (R189). -/
def applyTalLimits (n : Fin 16) (s : State) (_ : Key) (_ _ : Int) : State :=
  let lo := s.reg (Reg.TAL_LIM_LO n)
  let hi := s.reg (Reg.TAL_LIM_HI n)
  let c := s.tal[n].count
  if hi < c then s.modTal n fun t => { t with count := hi, atHi := true, sHi := true }
  else if c < lo then s.modTal n fun t => { t with count := lo, atLo := true, sLo := true }
  else s

/-- Both limits in one group (R189). -/
def effTalLimits (n : Fin 16) (lo hi : Int) : Eff := fun s => do
  need (lo < hi) nakRange
  let s := (s.setReg (Reg.TAL_LIM_LO n) lo).setReg (Reg.TAL_LIM_HI n) hi
  .ok (applyTalLimits n s 0 0 0).cfgGen

def execTalLimitsWrite (p : Port) (n : Fin 16) (lo hi : Int) (s : State) : Host.Outcome State Fault Refusal :=
  hostSet p (Reg.TAL_LIM_LO n) lo (fun lo => effTalLimits n lo (wrapS 32 hi)) s

/-- TAL_PRESET takes effect at the next sample (R189). -/
def effTalPreset (p : Port) (n : Fin 16) : Eff := fun s => do
  need (s.presetVal n = s.reg (Reg.TAL_PRESET_VAL n)) nakRange
  .ok (s.modTal n fun t => { t with preset := some p })

def execTalPreset (p : Port) (n : Fin 16) (s : State) : Host.Outcome State Fault Refusal :=
  hostCmd p (Reg.TAL_PRESET n) (effTalPreset p n) s

def effTalArm (n : Fin 16) : Eff := fun s => .ok (s.modTal n fun t => { t with armed := true })

def execTalIdxPresetArm (p : Port) (n : Fin 16) (s : State) : Host.Outcome State Fault Refusal :=
  hostCmd p (Reg.TAL_IDX_PRESET_ARM n) (effTalArm n) s

/-- TAL_RESUME in FAULT (R194). -/
def effTalResume (n : Fin 16) : Eff := fun s => do
  need (s.flag (Reg.TAL_ENABLE n) && s.tal[n].fault) nakCond
  .ok (s.modTal n fun t => { t with fault := false })

def execTalResume (p : Port) (n : Fin 16) (s : State) : Host.Outcome State Fault Refusal :=
  hostCmd p (Reg.TAL_RESUME n) (effTalResume n) s

/-- TAL_SPD_TMO, in µs, has passed since the edge time of the last step (R190, R197). -/
def State.talTimeout (s : State) (n : Fin 16) : Bool :=
  s.reg (Reg.TAL_SPD_TMO n) * 1000 ≤ s.ext - s.tal[n].edgeExt

/-- TAL_SPEED_TIMEOUT: TAL_SPD_TMO has passed since the last step (R190). -/
def execTalSpeedTimeout (n : Fin 16) (s : State) : Host.Outcome State Fault Refusal :=
  if s.alive && s.flag (Reg.TAL_ENABLE n) && s.talTimeout n then done (s.modTal n fun t => { t with timedOut := true }) else done s

/-- TAL_SPEED as read (R190). -/
def State.talSpeed (s : State) (n : Fin 16) : Int :=
  let t := s.tal[n]
  let v := s.reg (Reg.TAL_SPEED n)
  if t.timedOut || s.talTimeout n then 0
  else
    let dt := s.ext - t.edgeExt
    let lim := if dt ≤ 0 then Int.ofNat v.natAbs else 16 * 10 ^ 9 / dt
    signI v * min (Int.ofNat v.natAbs) lim

/-- TAL_IDX_TOL is less than 2L, and N at most M (R193, R195). -/
def checkTalSet (n : Fin 16) (_ : State) (get : Key → Int) (_ : Key) (_ : Int) : Except Nak Unit := do
  need (get (Reg.TAL_IDX_TOL n) < 2 * get (Reg.TAL_LINES n)) nakRange
  need (get (Reg.TAL_DIV_N n) ≤ get (Reg.TAL_DIV_M n)) nakRange

/-- Mode OFF clears the index reference (R193). -/
def applyTalMode (n : Fin 16) (s : State) (_ : Key) (_ v : Int) : State :=
  if v = 0 then s.modTal n fun t => { t with xref := none } else s

end Sys2Proof.Machine
end

