-- ==== Sys2Proof/Machine/Reset.lean ====
section
/-!
DEFINITION. Supplies and resets, the boot sequence and its end (R144, R228, R263, R275, R325, R351 to R355).
-/

namespace Sys2Proof.Machine

/-! ### Resets (R351) -/

/-- A fault source over a device reset: its state, scope, rails and the configuration in effect stay with the Mitten. The
condition stays where the Mitten itself watches it (ids below 16) or a rail pair stands illegal; every other source has
been reset, and shows condition absent. Counts, times and the force bit belong to the system domain (R13, R215, R217,
R351; log entry 86). -/
def State.keepSrc (s : State) (id : Nat) (f : FSrc) : FSrc :=
  let cond := f.cond && (id < 16 || f.rail)
  let st : FltState :=
    if f.state = .active && !cond then (if (s.fltNow id).1 = 0 then .idle else .latched) else f.state
  if st = .idle then {}
  else
    { state := st, cond := cond, rail := f.rail && cond, record := f.record, emus := f.emus, psws := f.psws
      eff := some (s.fltNow id) }

/-- The collector over a device reset. -/
def State.keepFc (s : State) : Collector :=
  { srcs := s.fc.srcs.foldl (fun m x => SMap.put {} m x.1 (s.keepSrc x.1 x.2)) [] }

/-- The power state at reset: RUN, or SAFE-HOLD in RETIRED, which knows no other (R338). -/
def State.resetPower (s : State) : Power := if s.sec.lifecycle = 3 then .safeHold else .run

/-- What every reset leaves: the MRAM and OTP contents, the levels that the board puts on the balls, and the model's own
queue and counters. Everything else is at its reset value. -/
def State.afterReset (s : State) : State :=
  { State.reset with
    pending := s.pending, now := s.now, fresh := s.fresh, log := s.log
    bead := { gens := s.bead.gens }
    store := { gens := s.store.gens }
    upd := { bank := s.upd.bank, banks := s.upd.banks, sel := s.upd.sel, otp := s.upd.otp }
    sec := { s.sec with debug := 0 }
    exc := Vector.ofFn fun i => { vexc := s.exc[i].vexc }
    pt := Vector.ofFn fun i => { line := s.pt[i].line, okin := s.pt[i].okin }
    eth := Vector.ofFn fun i => { inband := s.eth[i].inband }
    sup := { vio := s.sup.vio, vanaHold := s.sup.vanaHold, vexcHold := s.sup.vexcHold, power := s.resetPower
             powerReason := if s.sec.lifecycle = 3 then 3 else 0 } }

/-- VIO_POR: everything is reset, the floor included. -/
def execVioPor (s : State) : Host.Outcome State Fault Refusal := done (s.afterReset.modSup fun x => { x with vio := false })

/-- VIO_POR_RELEASE: the floor runs and is armed, FLOOROSC starts; device reset holds on (R219, R220). -/
def execVioPorRelease (s : State) : Host.Outcome State Fault Refusal :=
  if s.sup.vio then done s
  else done ((s.afterReset.modSup fun x => { x with vio := true }).modFloor fun f => { f with since := s.now })

/-- DEVICE_RESET: all but the floor and the Mitten (R351, R352). -/
def execDeviceReset (_ : ResetCause) (s : State) : Host.Outcome State Fault Refusal :=
  if s.floorOn then
    done ((s.afterReset.modFloor fun _ => { s.floor with request := false }).modFc fun _ => s.keepFc)
  else done s

/-! ### The boot sequence (R354) -/

/-- The signature of a bank's image holds; the image that the part is made with is signed (R323, R325; log entry 6). -/
def Bank.signedOk (b : Bank) : Bool := b.factory || signed b.image

/-- A bank that the boot ROM accepts: valid, signed, and not rolled back (R324, R325). -/
def State.bootable (s : State) (b : Bool) : Bool :=
  let x := s.upd.banks[bankIx b]
  x.valid && x.signedOk && s.upd.otp ≤ x.sec

/-- The bank that runs: the newest valid selection; one on trial reverts (R325, R328). -/
def State.selectBank (s : State) : State :=
  let s := s.modUpd fun u => { u with sel := u.sel.map BankSel.checked }
  let r := s.upd.sel[newestSel s.upd.sel]
  let s := s.modUpd fun u => { u with bank := r.active }
  let s := if r.trial then s.revertBank 6 else s
  let b := s.upd.bank
  if !s.bootable b && s.bootable !b then (s.modUpd fun u => { u with bank := !b }).pulse 1032 else s

/-- RESET_RELEASE: straps, the floor self-test, SUP_VANA where VANA is absent, and the bank that boots (R222, R228, R325,
R349, R353). -/
def execResetRelease (strap : BitVec 2) (clksel floorTestOk : Bool) (s : State) : Host.Outcome State Fault Refusal :=
  if s.floorOn && s.sup.reset then
    let s := s.modSup fun x => { x with reset := false, strap := strap, clksel := clksel }
    let s := (s.modRed fun r => { r with seat := strap }).modFloor fun f => { f with testOk := floorTestOk }
    let s := if floorTestOk then s else s.pulse 2
    let s := if strap = 3 then s.raise 907 else s
    let s := if s.sup.vanaHold then s.raise 9 else s
    done s.selectBank
  else done s

/-- PLL_LOCK: the clocks from ROOT run, the conditions of CLK_XTAL and CLK_PLL go absent, and the links begin to align
(R238, R350, R354). -/
def execPllLock (s : State) : Host.Outcome State Fault Refusal :=
  if s.floorOn && !s.sup.reset && !s.sup.pll then
    let s := ((s.modSup fun x => { x with pll := true }).gone 4).gone 5
    done (s.each (List.finRange 2) fun s k => s.modLnk k fun l => { l with state := .aligning })
  else done s

/-- DICT_SERVICE_READY: the firmware of the selected bank answers; it has checked the log and the keys (R321, R332,
R354). -/
def execDictServiceReady (s : State) : Host.Outcome State Fault Refusal :=
  if s.alive && !s.mgmt.service && s.bootable s.upd.bank then
    let s := s.checkKeys.checkLog
    let at_ := s.now
    done (s.modMgmt fun m => { m with service := true, restartAt := at_ })
  else done s

/-! ### Boot complete -/

/-- A generation whose CRC fails counts as torn (R275). -/
def StoreGen.checked (g : StoreGen) : StoreGen :=
  if g.valid && g.crc ≠ storeCrc g.values then { g with valid := false, torn := true } else g

/-- The dictionary store loaded: the newest valid generation, 1026 where a newer one is torn, 1027 where none is valid. The
sources that have kept their state over the reset take their configuration as one change, and the collector's copies stand
compared (R217, R222, R275). -/
def State.loadStore (s : State) : State :=
  let s := s.modStore fun x => { x with gens := x.gens.map StoreGen.checked }
  let kept := s.fc.srcs.map fun x => (x.1, s.fltNow x.1)
  let s : State :=
    match newestStore s.store.gens with
    | some g =>
      let older : Bool := s.store.gens[if g = 0 then (1 : Fin 2) else 0].torn
      let s := (s.store.gens[g].values.foldl (fun s x => s.setReg x.1 x.2) s).modStore fun x =>
        { x with source := b2n older }
      if older then s.pulse 1026 else s
    | none => (s.modStore fun x => { x with source := 2 }).pulse 1027
  (s.each kept fun s x => s.fltApply x.1 x.2).modFc fun c => { c with copyOk := !(s.src 1).cond }

/-- A bead generation whose CRC fails counts as torn (R144). -/
def BeadGen.checked (g : BeadGen) : BeadGen :=
  if g.valid && g.crc ≠ beadCrc g.beads then { g with valid := false, torn := true } else g

/-- The bead generation loaded with its set records and trims: the newest valid one, 37 where a newer one is torn, 38 where
none is valid (R144). -/
def State.loadBeads (s : State) : State :=
  let s := s.modBead fun b => { b with gens := b.gens.map BeadGen.checked }
  match newestGen s.bead.gens with
  | some i =>
    let g := s.bead.gens[i]
    let s := s.modBead fun b => { b with working := g.beads }
    let s := { s with sets := Vector.ofFn fun j => g.sets.getD j.val {} }
    let s := g.trims.foldl (fun s x => s.setReg x.1 x.2) s
    if s.bead.gens[if i = 0 then (1 : Fin 2) else 0].torn then s.pulse 37 else s
  | none => s.pulse 38

/-- A channel starts from its loaded configuration. -/
def State.startChannel (s : State) (n : ChId) : State :=
  let t := s.visTrims n
  let b : Bool := s.flag (Reg.CH_BANK_SEL n)
  ((s.modCh n fun c => { c with trims := t, bankB := b }).tempChoose n).setEnable n (s.reg (Reg.CH_ENABLE n))

/-- Every unit starts from the loaded configuration. -/
def State.startUnits (s : State) : State :=
  let s := (s.setGrid.showLinks.each all16 State.startChannel).each (List.finRange 4) fun s e =>
    (s.excLoad e).excSync e
  let s := s.each all16 fun s n => applyTalEnable n s 0 0 (s.reg (Reg.TAL_ENABLE n))
  let s := s.each (List.finRange 8) fun s f => applyPfEnable f s 0 0 (s.reg (Reg.PF_ENABLE f))
  s.each (List.finRange 2) fun s k => applyCanEnable k (s.showEthLink k) 0 0 (s.reg (Reg.CAN_ENABLE k))

/-- BOOT ends in RUN (R263). -/
def State.runAtBoot (s : State) : Bool :=
  s.flag Reg.DEV_AUTORUN && (s.sec.lifecycle = 1 || s.sec.lifecycle = 2) && s.store.source = 0 && !s.seatMismatch && !s.fatal

/-- BOOT_COMPLETE: store and beads are loaded, every unit starts, and the device leaves BOOT for RUN or CONFIG (R263, R354);
a DEVICE-SAFE hold from before the reset ends unless a FATAL or DEVICE-SAFE source still stands (log entry 86). A RETIRED
device is taken to SAFE by LC_RETIRED (R330). -/
def execBootComplete (s : State) : Host.Outcome State Fault Refusal :=
  if s.alive && s.mgmt.service && !s.sup.booted then
    let s := (s.loadStore.loadBeads.modSup fun x => { x with booted := true }).startUnits
    let s : State :=
      if s.dev.state ≠ .boot then s
      else if s.runAtBoot then s.enterDev .run 1 0xFF
      else s.enterDev .config 0 0xFF
    let s := s.endHold
    done (if s.sec.lifecycle = 3 then (s.raise 1088).autoHold 3 else s).showOutputs
  else done s

/-! ### Holds of a domain (R351, R353) -/

/-- ANALOGUE_HOLD: front ends, converters, exciter stages and Glove drivers are held off. -/
def execAnalogueHold (s : State) : Host.Outcome State Fault Refusal := done (s.modSup fun x => { x with vanaHold := true })

/-- ANALOGUE_RESTART. -/
def execAnalogueRestart (s : State) : Host.Outcome State Fault Refusal := done (s.modSup fun x => { x with vanaHold := false })

/-- EXCITER_HOLD: the stages are high-impedance and clamped, and everything else goes on (`State.excOut`). -/
def execExciterHold (s : State) : Host.Outcome State Fault Refusal := done (s.modSup fun x => { x with vexcHold := true })

/-- EXCITER_HOLD_RELEASE: the stages drive again. -/
def execExciterHoldRelease (s : State) : Host.Outcome State Fault Refusal :=
  done (s.modSup fun x => { x with vexcHold := false })

/-- TAP_RESET: the TAP alone; IDCODE is the instruction, and the data registers are emptied (log entry 58). -/
def execTapReset (s : State) : Host.Outcome State Fault Refusal :=
  done (s.modTap fun t => { halted := t.halted })

end Sys2Proof.Machine
end

