-- ==== Sys2Proof/Machine/Sample.lean ====
section
/-!
DEFINITION. SAMPLE_PROCESS: one sample of a channel through its lane, from the converter codes to the outputs
(R16 to R26, R72 to R77, R97 to R102).
-/

namespace Sys2Proof.Machine

/-- What the lane forms of one sample pair before the loop step, all in Q31 (R73, R74, R100). -/
structure Demod where
  s : Int
  c : Int
  r : Int
  q : Int
  sd : Int
  cd : Int
  sin : Int
  cos : Int
  e : Int
  p : Int
  quad : Int
  phase : BitVec 32

/-- A Q31 product, rounded. -/
def mul31 (a b : Int) : Int := divRound (a * b) trigOne

/-- The scaled input: `x / (G · TR · Ê)` with the converter's LSB of 31.25 µV (R51, R73; log entry 10). -/
def scaled (code gain tr ehat : Int) : Int :=
  divRound (code * 31250 * 2 ^ 49) (2 ^ (gain + 3).toNat * tr * ehat)

/-- Demodulation of a sample pair at the loop angle (R73, R74). -/
def State.demod (s : State) (n : ChId) (xs xc : BitVec 16) : Demod :=
  let c := s.ch[n]
  let e := s.excIx n
  let k := s.kelvin[e]
  let tr := s.reg (Reg.CH_TR n)
  let phase := s.phiAt e (lateSlot n) + k.psi + BitVec.ofInt 32 (c.trims.beta * 256)
  let r := laneSin phase
  let sv := scaled xs.toInt c.trims.gainSin tr k.ehat
  let cv := scaled xc.toInt c.trims.gainCos tr k.ehat
  let sd := mul31 (2 * r) sv
  let cd := mul31 (2 * r) cv
  let si := laneSin c.loop.th
  let co := laneCos c.loop.th
  { s := sv, c := cv, r := r, q := laneCos phase, sd := sd, cd := cd, sin := si, cos := co
    e := mul31 sd co - mul31 cd si, p := mul31 sd si + mul31 cd co, quad := mul31 sd co - mul31 cd si, phase := phase }

/-- The hatband part of a sample: discarded or not, and the run of clear samples to wait for (R101). -/
def State.hbSample (s : State) (n : ChId) : State × Bool × Bool × Bool :=
  let w := s.watch[n]
  let hs := w.hbTripS || w.hbLive &&& 0x0F#8 ≠ 0
  let hc := w.hbTripC || w.hbLive &&& 0xF0#8 ≠ 0
  let trip := hs || hc
  let discard : Bool := trip || 0 < w.hbWait
  let wait := if trip then s.regN (Reg.CH_HB_CLEAR_N n) else w.hbWait - 1
  let s := s.modWatch n fun w => { w with hbTripS := false, hbTripC := false, hbWait := wait }
  (if discard then s.bump (Reg.CH_DISCARD_CNT n) else s, discard, hs, hc)

/-- The converters' activity (R100). -/
def Watch.activity (w : Watch) (xs xc : BitVec 16) : Watch :=
  { w with
    actS := if w.lastS.any (· ≠ xs) then w.actS + 1 else w.actS
    actC := if w.lastC.any (· ≠ xc) then w.actC + 1 else w.actC
    lastS := some xs, lastC := some xc }

/-- The lane performs normal steps for the channel: TRACK, or SETTLE after seeding and refill (R97). -/
def State.normalState (s : State) (n : ChId) : Bool :=
  match s.ch[n].state with
  | .track => true
  | .settle => s.front[n].settle = .running
  | _ => false

/-- The loop is stepped at all: not before the seeding of a cold settle, nor in INVALID (R97). -/
def State.stepped (s : State) (n : ChId) : Bool :=
  match s.ch[n].state with
  | .track | .coast => true
  | .settle =>
    match s.front[n].settle with
    | .running | .holding _ => true
    | _ => false
  | _ => false

/-- A live bit in a sample processed in TRACK sets its sticky bit (R80). -/
def State.satSticky (s : State) (n : ChId) : State :=
  s.modCh n fun c =>
    { c with stickyInt := c.stickyInt || c.satInt, stickyVel := c.stickyVel || c.satVel, stickyOut := c.stickyOut || c.satOut }

/-- The sources of the sticky saturation bits that a sample has set (R80). -/
def State.satRaise (s : State) (n : ChId) : State :=
  let c := s.ch[n]
  let s := if c.satInt then s.raise (chSrc n 10) else s
  let s := if c.satVel then s.raise (chSrc n 11) else s
  if c.satOut then s.raise (chSrc n 12) else s

/-- The wrap of the carry count sets its flag (R114). -/
def State.wrapFlag (s : State) (n : ChId) (wrapped : Bool) : State := if wrapped then s.setReg (Reg.CH_CARRY_WRAP n) 1 else s

/-- The normal step of an accepted sample (R76, R80), and whether the carry count wrapped. -/
def State.stepNormal (s : State) (n : ChId) (e inj : Int) : State × Bool :=
  let c := s.ch[n]
  let o := normalStep (coefsOf s.reg n c.bankB) (s.reg (Reg.CH_VEL_FS n)) (s.reg (Reg.CH_ACC_FS n)) c.satVel c.loop e inj
  ((s.modCh n fun c => { c with loop := o.loop, satInt := o.satInt, satVel := o.satVel, satOut := o.satOut }).wrapFlag n o.wrapped,
    o.wrapped)

/-- The hold step (R77), and whether the carry count wrapped. The live saturation bits reflect this sample too: the held
integrator and acceleration as they stand, and no velocity that sat39 has limited (R80; log entry 78). -/
def State.stepHold (s : State) (n : ChId) : State × Bool :=
  let c := s.ch[n]
  let (l, wrapped) := holdStep (s.reg (Reg.CH_VEL_FS n)) c.loop
  let k := coefsOf s.reg n c.bankB
  let m := iMaxOf k.kiQ k.kiS
  ((s.modCh n fun c =>
    { c with loop := l, satInt := l.i = m || l.i = -m, satVel := false, satOut := scale2 l.a (-24) ≠ word39 l.a }).wrapFlag n wrapped,
    wrapped)

/-- The progress of a settle with one sample (R109, R110). -/
def State.settleSample (s : State) (n : ChId) (d : Demod) (discard : Bool) : State :=
  let e := s.excIx n
  if s.ch[n].state ≠ .settle then s
  else
    let f := s.exc[e].freq
    let ready := s.exc[e].state = .run && senseWindow f ≤ s.kelvin[e].n && !s.sup.vanaHold
    s.modFront n fun x =>
      match x.settle with
      | .waiting => if ready && !discard then { x with settle := .seeding 1 d.sd d.cd } else x
      | .seeding k a b =>
        if discard || periodSamples f ≤ k then x else { x with settle := .seeding (k + 1) (a + d.sd) (b + d.cd) }
      | .holding k => { x with settle := .holding (k - 1) }
      | .running => x

/-- The one-period window after a sample (R100). -/
def State.pushWin (s : State) (n : ChId) (d : Demod) : State :=
  let k := periodSamples s.exc[s.excIx n].freq
  let x : WinEntry := { p := d.p, q := d.quad, rs := d.s - mul31 d.sin d.r, rc := d.c - mul31 d.cos d.r }
  s.modWatch n fun w => { w with win := (x :: w.win).take k }

/-- The monitors that evaluate means over one carrier period: amplitude, and DC of each input (R100). -/
def State.meanMonitors (s : State) (n : ChId) : Bool × Bool × Bool :=
  let win := s.watch[n].win
  let k := periodSamples s.exc[s.excIx n].freq
  if win.length < k || k = 0 then (false, false, false)
  else
    let sum (f : WinEntry → Int) : Int := win.foldl (fun a x => a + f x) 0
    let p := sum (·.p)
    let q := sum (·.q)
    let r2 := p * p + q * q
    let one : Int := 2 ^ 48 * Int.ofNat (k * k)
    let lo := s.reg (Reg.CH_AMPL_LO n) * one
    let hi := s.reg (Reg.CH_AMPL_HI n) * one
    let dc (x : Int) : Bool := s.reg (Reg.CH_DC_LIM n) * 2 ^ 15 * Int.ofNat k < Int.ofNat x.natAbs
    (r2 < lo || hi < r2, dc (sum (·.rs)), dc (sum (·.rc)))

/-- A run of consecutive samples over a limit. -/
def runOver (far_ : Bool) (n : Nat) : Nat := if far_ then n + 1 else 0

/-- The per-sample monitors of a sample processed in state `st`: live and sticky bits (R100). A sticky bit is set by a trip
of this sample; the bits of the carrier presence monitor, the coast budget and the settle timeout are set where those are
evaluated. The amplitude and input DC monitors need the loop angle, and a cold SETTLE has none before its seeding: they are
not evaluated there (DESIGN CHOICE, log entry 79). -/
def State.monitors (s : State) (n : ChId) (st : ChState) (hs hc discard : Bool) : State :=
  let c := s.ch[n]
  let (am, ds, dc) := if s.stepped n then s.meanMonitors n else (false, false, false)
  let tr : Bool := st = .track
  let w := s.watch[n]
  let next (far_ : Bool) (run : Nat) : Nat := if !tr then 0 else if discard then run else runOver far_ run
  let abs (x : Int) : Int := Int.ofNat x.natAbs
  let trk := next (s.reg (Reg.CH_TRK_ERR_LIM n) < abs c.loop.u) w.trkRun
  let vel := next (s.reg (Reg.CH_VEL_LIM n) < abs (word39 c.loop.v)) w.velRun
  let acc := next (s.reg (Reg.CH_ACC_LIM n) < abs (word39 c.loop.a)) w.accRun
  let s := s.modWatch n fun w => { w with trkRun := trk, velRun := vel, accRun := acc }
  let tE : Bool := tr && s.regN (Reg.CH_TRK_ERR_N n) ≤ trk
  let tV : Bool := tr && s.regN (Reg.CH_PLAUS_N n) ≤ vel
  let tA : Bool := tr && s.regN (Reg.CH_PLAUS_N n) ≤ acc
  let on : Bool := st ≠ .off
  let trips (old : Vector Bool 13) (others : Bool → Bool) (b11 b12 : Bool) : Vector Bool 13 :=
    #v[hs && on, hc && on, am, ds, dc, others old[5], others old[6], others old[7], tE, tV, tA, b11, b12]
  s.modCh n fun c =>
    { c with
      mon := trips c.mon (· && on) (c.mon[11] && st = .coast) (c.mon[12] && st = .settle)
      sticky := Vector.ofFn fun i : Fin 13 => c.sticky[i] || (trips c.mon (fun _ => false) false false)[i] }

/-- The sources of a sample's monitors, after its output record stands (R100, R320). -/
def State.monSources (s : State) (n : ChId) (st : ChState) (m : Vector Bool 13) : State :=
  let s := ((s.level (chSrc n 0) (m[0] || m[1])).level (chSrc n 1) m[2]).level (chSrc n 2) (m[3] || m[4])
  let s := ((s.level (chSrc n 4) m[8]).level (chSrc n 5) m[9]).level (chSrc n 6) m[10]
  let s := if st = .off then s.gone (chSrc n 3) else s
  let s := if st = .coast then s else s.gone (chSrc n 7)
  if st = .settle then s else s.gone (chSrc n 8)

/-- The transitions that a sample's monitors bring, INVALID before COAST (R98, R99, R111). Where several monitors of one
transition trip on a sample, CH_STATE_REASON names the first of TRK_ERR, VEL, ACC and of HATBAND, AMPL, INPUT_DC, an order
that no rule states (DESIGN CHOICE, log entry 80). -/
def State.sampleMoves (s : State) (n : ChId) (st : ChState) (discard accepted : Bool) : State :=
  let m := s.ch[n].mon
  match st with
  | .track =>
    if m[8] then s.enterInvalid n 10
    else if m[9] then s.enterInvalid n 11
    else if m[10] then s.enterInvalid n 12
    else if discard then s.coastFor n 4
    else if m[2] then s.coastFor n 5
    else if m[3] || m[4] then s.coastFor n 6
    else s
  | .coast => if discard || m[2] || m[3] || m[4] then s.modWatch n fun w => { w with coastCause := true } else s
  | .settle =>
    let far_ : Bool := s.reg (Reg.CH_SETTLE_ERR n) < Int.ofNat s.ch[n].loop.u.natAbs
    if discard || m[0] || m[1] || m[2] || m[3] || m[4] || !accepted || far_ then
      s.modFront n fun f => { f with settleClean := false, settlePeriods := 0 }
    else s
  | _ => s

/-- The coast budget (R106): samples in COAST count unless the excitation wait is their only cause; CH_COAST_LIM
continuously in TRACK refills it. -/
def State.budget (s : State) (n : ChId) : State :=
  let lim := s.regN (Reg.CH_COAST_LIM n) * 1000
  let s := s.modWatch n fun w =>
    match s.ch[n].state with
    | .coast => if w.coastCause then { w with coastUsed := w.coastUsed + 1, trackRun := 0 } else { w with trackRun := 0 }
    | .track =>
      if lim ≤ (w.trackRun + 1) * 120 then { w with trackRun := w.trackRun + 1, coastUsed := 0 }
      else { w with trackRun := w.trackRun + 1 }
    | _ => { w with trackRun := 0 }
  s.setReg (Reg.CH_COAST_ELAPSED n) (clampI 0 (2 ^ 32 - 1) (Int.ofNat (s.watch[n].coastUsed * 120 / 1000)))

/-- The output record of a sample (R97, R98, R154, R155): `th`, `carry` as before the step. -/
def State.outRecord (s : State) (n : ChId) (frozen discard : Bool) (th : BitVec 32) (carry : Int) : OutRec :=
  let c := s.ch[n]
  let st := statusByte c.state (s.flag (Reg.CH_HOMED n)) (c.satInt || c.satVel || c.satOut) s.watch[n].excWait discard false
  { pos := if frozen then c.out.pos else pos40 th carry, status := st
    vel := if frozen then 0 else word39 c.loop.v, acc := if frozen then 0 else word39 c.loop.a
    time := s.t0 n, mon := monNum c.sticky }

/-- The frame of R25: once every channel has had its sample, their sets are the last complete frame. -/
def State.frameSample (s : State) (n : ChId) : State :=
  let s := s.modFront n fun f => { f with inFrame := true }
  if all16.all fun m => s.front[m].inFrame then
    let s := { s with frames := s.frames + 1 }.modCap fun c => { c with frame := [] }
    s.each all16 fun s m =>
      (s.modCh m fun c => { c with frameOut := c.out, frameLoop := c.outLoop }).modFront m fun f => { f with inFrame := false }
  else s

/-- The averages of the phase measurement (R75). -/
def Front.betaSample (f : Front) (d : Demod) : Front :=
  let x := mul31 d.s d.sin + mul31 d.c d.cos
  { f with betaQ := f.betaQ + mul31 (2 * d.q) x, betaI := f.betaI + mul31 (2 * d.r) x, betaN := f.betaN + 1 }

/-- The observation of a sample (R125, R133). -/
def State.obsOf (s : State) (n : ChId) (d : Demod) (xs xc : BitVec 16) : Obs :=
  let t := s.ch[n].trims
  { t := 0, th := 0, rho := d.p - trigOne, codeS := s.front[n].scd1S, codeC := s.front[n].scd1C
    quadrant := ⟨(d.phase + d.phase).toNat / 2 ^ 30 % 4, by omega⟩
    xs := pinPv xs t.gainSin, xc := pinPv xc t.gainCos
    temp := s.reg (Reg.CH_TEMP n) }

/-- A sample's record in the capture (R91). -/
def State.capRec (s : State) (n : ChId) (first injects : Bool) (inj : Int) : State :=
  let r := s.ch[n].out
  s.capSample n first r.time (capRecord r.time (r.pos % 2 ^ 24).toNat n.val s.ch[n].state.num injects s.ch[n].loop.u r.vel r.acc inj)

/-- A sample of an OFF channel: no step, the angle of the last sample before, velocity and acceleration 0 (R97). The clear
samples that R101 still has to discard stand over OFF, which no rule states (DESIGN CHOICE, log entry 81). -/
def State.sampleOff (s : State) (n : ChId) : State :=
  let s := s.injBoundary n
  let s := s.modWatch n fun w => { w with hbTripS := false, hbTripC := false }
  let s := s.monitors n .off false false false
  let s := s.modCh n fun c => { c with out := s.outRecord n true false 0 0, outLoop := c.loop }
  let s := s.monSources n .off s.ch[n].mon
  (s.scdWrite n s.ch[n].loop.th).capRec n false false 0

/-- The lane step of a sample (R76, R77, R97, R101), and whether the carry count wrapped. -/
def State.laneStep (s : State) (n : ChId) (accepted : Bool) (e inj : Int) : State × Bool :=
  if accepted then s.stepNormal n e inj
  else if s.stepped n then s.stepHold n
  else (s, false)

/-- The sources that a sample raises and clears, once its output record stands (R19, R80, R100, R114). -/
def State.sampleSources (s : State) (n : ChId) (st : ChState) (m : Vector Bool 13) (stepped wrapped : Bool) : State :=
  let s := if wrapped then s.pulse (chSrc n 9) else s
  let s := if stepped && st = .track then s.satRaise n else s
  s.monSources n st m

/-- The converter codes that the lane gets: while VANA is low the converters are held off and the last codes stand (R351,
R353). -/
def State.codeS (s : State) (n : ChId) (x : BitVec 16) : BitVec 16 := if s.sup.vanaHold then s.watch[n].lastS.getD 0 else x
def State.codeC (s : State) (n : ChId) (x : BitVec 16) : BitVec 16 := if s.sup.vanaHold then s.watch[n].lastC.getD 0 else x

/-- A sample of a channel that is on. -/
def State.sampleOn (s : State) (n : ChId) (xs xc : BitVec 16) : State :=
  let s := ((s.injBoundary n).homeNow n).alignNow n
  let xs := s.codeS n xs
  let xc := s.codeC n xc
  let st := s.ch[n].state
  let (s, discard, hs, hc) := s.hbSample n
  let s := s.modWatch n fun w => w.activity xs xc
  let d := s.demod n xs xc
  let l := s.ch[n].loop
  let obs := s.obsOf n d xs xc
  let accepted := s.normalState n && !discard
  let stepped := s.stepped n
  let injects : Bool := accepted && s.ch[n].inj.state = .running
  let first : Bool := injects && s.ch[n].inj.n = 0
  let inj := if injects then s.ch[n].inj.value else 0
  let (s, wrapped) := s.laneStep n accepted d.e inj
  let s := if stepped && st = .track then s.satSticky n else s
  let s := s.modCh n fun c => { c with outLoop := c.loop }
  let s := if injects then s.modCh n fun c => { c with inj := c.inj.next } else s
  let s := s.settleSample n d discard
  let s := if s.stepped n then s.pushWin n d else s
  let s := if accepted && st = .track then s.modFront n fun f => f.betaSample d else s
  let s := s.monitors n st hs hc discard
  let m := s.ch[n].mon
  let s := s.modWatch n fun w =>
    { w with check1 := w.check1.map fun c => { c with samples := c.samples + 1 }
             check2 := w.check2.map fun c => { c with samples := c.samples + 1 } }
  let s := s.sampleMoves n st discard accepted
  let frozen := !s.stepped n
  let rec_ := s.outRecord n frozen discard l.th l.carry
  let s := (s.modCh n fun c => { c with out := rec_ }).budget n
  let s := s.sampleSources n st m stepped wrapped
  let s := s.scdWrite n (if frozen then s.ch[n].loop.th
    else l.th + BitVec.ofInt 32 (2 * stepPhase (s.reg (Reg.CH_VEL_FS n)) s.ch[n].loop.v))
  let tracked : Bool := st = .track && s.ch[n].state = .track && !discard
  let angle := l.carry * 2 ^ 32 + Int.ofNat l.th.toNat + radTurn s.ch[n].loop.u
  let s := s.calSample n tracked (word39 s.ch[n].loop.v) (word39 s.ch[n].loop.a) angle obs
  s.capRec n first injects inj

/-- SAMPLE_PROCESS: the sample, its frame, and its release to emulators and switches (R19, R20). -/
def State.sample (s : State) (n : ChId) (xs xc : BitVec 16) : State :=
  let s := s.probeSample n (s.codeS n xs) (s.codeC n xc)
  let s := if s.ch[n].state = .off then s.sampleOff n else s.sampleOn n xs xc
  ((s.frameSample n).emuSample n).pswSample n

def execSampleProcess (ch : ChId) (xs xc : BitVec 16) (s : State) : Host.Outcome State Fault Refusal :=
  if s.lanesOn then done (s.sample ch xs xc) else done s

end Sys2Proof.Machine
end

