-- ==== Sys2Proof/Machine/Views.lean ====
section
/-!
DEFINITION. What an object reads as where its value is not one that the register file holds: the full-state readback of
R276, and the windows.
-/

namespace Sys2Proof.Machine

/-! ### Device and groups (R266, R277, R279, R280) -/

/-- A count of SCLK edges as whole seconds, rounded up. -/
def secondsUp (edges : Nat) : Int := Int.ofNat ((edges + 249999999) / 250000000)

/-- ERROR_REG (R279). -/
def State.errorReg (s : State) : Nat :=
  b2n (!s.notIdle.isEmpty) + 2 * b2n s.fatal + 4 * b2n s.contained + 128 * b2n (s.dev.state = .safe)

/-- STORE_STATE (R274, R279). -/
def State.storeNum (s : State) : Nat :=
  if s.sched[mramDomain].running = some .store then 2
  else if s.sched[mramDomain].pending = some .store then 1 else s.store.state

/-- DEV_STATUS (R279). -/
def State.devStatus (s : State) : Nat :=
  s.dev.state.num + 8 * b2n s.degraded + 16 * b2n (s.storeNum = 2) + 32 * b2n s.red.clmOut + 64 * b2n s.okay

/-- A diagnostic record (R266). -/
def DiagRec.bytes (r : DiagRec) : Bytes :=
  leBytes 4 r.nak.abort ++ leBytes 2 r.nak.detail ++ leBytes 1 r.port.val ++ leBytes 1 r.state.num ++
    leBytes 2 (r.key / 256) ++ leBytes 1 r.key ++ leBytes 1 r.role.num ++ leBytes 4 r.time.toNat

/-- One pending entry (R277). -/
def pendBytes (p : Port) (timed : Bool) (tag : BitVec 16) (e : Entry) : Bytes :=
  leBytes 2 (e.1 / 256) ++ leBytes 1 e.1 ++ leBytes 1 p.val ++ leBytes 1 (b2n timed) ++ leBytes 1 0 ++
    leBytes 2 tag.toNat ++ padTo 8 (dataAt e.1 e.2)

/-- Every pending entry: timed groups in sealing order, then open groups in rising port order (R277). -/
def State.pendList (s : State) : List Bytes :=
  (s.grp.timed.flatMap fun g => g.entries.map (pendBytes g.port true g.tag)) ++
    (List.finRange 7).flatMap fun p => s.port[p].group.map (pendBytes p false 0)

/-- The number of pending entries (R267). -/
def State.pendCount (s : State) : Nat :=
  (s.grp.timed.map fun g => g.entries.length).sum + (s.port.toList.map fun x => x.group.length).sum

/-- TIMED_GROUP of a place in sealing order (R277). -/
def State.timedView (s : State) (i : Nat) : Nat :=
  match s.grp.timed[i]? with
  | some g => g.due.toNat * 2 ^ 32 + g.tag.toNat * 2 ^ 16 + g.port.val * 2 ^ 8 + g.entries.length
  | none => 0

def HbState.num : HbState → Nat | .off => 0 | .alive => 1 | .expired => 2

/-- The counter of the newest valid store generation; 0 without one (R279). -/
def State.storeGen (s : State) : Nat :=
  match newestStore s.store.gens with | some g => s.store.gens[g].counter | none => 0

/-- Device, group and port objects (R279, R280). -/
def State.viewDevice (s : State) (b : Key) (n : Nat) (k : Key) : Option Int :=
  let x := s.port[Fin.ofNat 7 n]
  if b = Reg.ERROR_REG then some (Int.ofNat s.errorReg)
  else if b = Reg.DEV_STATUS then some (Int.ofNat s.devStatus)
  else if b = Reg.DIAG_COUNT then some (Int.ofNat s.dev.diag.length)
  else if b = Reg.REVISION then some (Int.ofNat Config.revision.toNat)
  else if b = Reg.SERIAL then some (Int.ofNat Config.serial.toNat)
  else if b = Reg.DEV_STATE then some (Int.ofNat s.dev.state.num)
  else if b = Reg.DEV_DEGRADED then some (b2i s.degraded)
  else if b = Reg.DEV_STATE_REASON then some (Int.ofNat s.dev.reason)
  else if b = Reg.DEV_STATE_TIME then some (Int.ofNat s.dev.time)
  else if b = Reg.STORE_STATE then some (Int.ofNat s.storeNum)
  else if b = Reg.STORE_GEN then some (Int.ofNat s.storeGen)
  else if b = Reg.STORE_SOURCE then some (Int.ofNat s.store.source)
  else if b = Reg.STORE_DETAIL then some (Int.ofNat s.store.detail)
  else if b = Reg.PEND_TOTAL then some (Int.ofNat s.pendCount)
  else if b = Reg.TIMED_COUNT then some (Int.ofNat s.grp.timed.length)
  else if b / 256 = 0x1105 then some (Int.ofNat (s.timedView (k % 256 - 1)))
  else if b = Reg.PORT_HB_STATE 0 then some (Int.ofNat x.hb.num)
  else if b = Reg.GRP_OPEN_ENTRIES 0 then some (Int.ofNat x.group.length)
  else if b = Reg.GRP_LAST_TAG 0 then some (Int.ofNat x.lastTag.toNat)
  else if b = Reg.GRP_LAST_RESULT 0 then some (Int.ofNat x.lastResult)
  else if b = Reg.GRP_FAIL_OBJ 0 then some (Int.ofNat x.failObj)
  else if b = Reg.PORT_ROLE 0 then some (Int.ofNat (s.roleOf (Fin.ofNat 7 n)).num)
  else if b = Reg.GRP_TAG_RESULT 0 then some (Int.ofNat x.tagResult)
  else none

/-! ### Exciters and Glove drivers (R71) -/

def GlvOut.num (o : GlvOut) (overload : Bool) : Nat :=
  match o with
  | .hiz => if overload then 2 else 0
  | _ => 1

/-- VEXC - 2.8 V - programmed peak, in mV, for an EXC_AMPL in mV rms (R32, R71). -/
def Exc.headroom (x : Exc) (ampl : Int) : Int := x.vexc - 2800 - Int.ofNat (sqrtRound (2 * ampl.natAbs ^ 2))

def State.viewExc (s : State) (b : Key) (n : Nat) : Option Int :=
  let e : ExcId := Fin.ofNat 4 n
  let x := s.exc[e]
  let g (odd : Nat) : Fin 8 := Fin.ofNat 8 (2 * n + odd)
  let st (odd : Nat) : Int := Int.ofNat ((s.glvOut (g odd)).num s.glv[g odd].overload)
  if b = Reg.EXC_STATE 0 then some (Int.ofNat x.stateByte)
  else if b = Reg.EXC_FTW 0 then some (Int.ofNat x.ftw.toNat)
  else if b = Reg.EXC_PENDING 0 then some (Int.ofNat x.pendByte)
  else if b = Reg.EXC_HEADROOM 0 then some (x.headroom (s.reg (Reg.EXC_AMPL e)))
  else if b = Reg.GLV_STATE 0 then some (st 0)
  else if b = Reg.GLV_STATE_ODD 0 then some (st 1)
  else none

/-! ### Channels (R94, R116, R156) -/

/-- CH_LOOP_SAT (R80, R85). -/
def Chan.satWord (c : Chan) : Nat :=
  b2n c.swapInSat * 2 ^ 12 + b2n c.stickyOut * 2 ^ 10 + b2n c.stickyVel * 2 ^ 9 + b2n c.stickyInt * 2 ^ 8 +
    b2n c.satOut * 4 + b2n c.satVel * 2 + b2n c.satInt

def Swap.num : Swap → Nat | .none => 0 | .sample _ => 1 | .fence _ => 2 | .time _ _ => 3
def ProbeState.num : ProbeState → Nat | .idle => 0 | .pending => 1 | .running => 2 | .deferredState => 3 | .deferredFreq => 4
def InjState.num : InjState → Nat | .idle => 0 | .pending => 1 | .running => 2 | .done => 3 | .aborted => 4

/-- KI of a bank in 2^-32 and KP in 2^-16 (R78, R94). -/
def Coefs.kiWord (k : Coefs) : Int := scale2 k.kiQ (17 - k.kiS)
def Coefs.kpWord (k : Coefs) : Int := scale2 k.kpQ (11 - k.kpS)

/-- A row of the channel that brings trims waits for the trim boundary (R55, R142). -/
def State.trimRow (s : State) (n : ChId) : Bool := s.bead.staging.toList.any fun x => x.any fun r => r.ch = n && r.trims.isSome

/-- The views of a channel's objects. CH_INJ_ELAPSED keeps the last test's length until the next test begins: R95 does not
say whether it stands (log entry 91). -/
def State.viewChan (s : State) (b : Key) (i : Nat) : Option Int :=
  let n : ChId := Fin.ofNat 16 i
  let c := s.ch[n]
  let f := s.front[n]
  let w := s.watch[n]
  let vfs := s.reg (Reg.CH_VEL_FS n)
  if b = Reg.CH_STATE 0 then some (Int.ofNat c.state.num)
  else if b = Reg.CH_STATE_REASON 0 then some (Int.ofNat c.reason)
  else if b = Reg.CH_MON_LIVE 0 then some (Int.ofNat (monNum c.mon))
  else if b = Reg.CH_MON_STICKY 0 then some (Int.ofNat (monNum c.sticky))
  else if b = Reg.CH_EXC_WAIT 0 then some (b2i w.excWait)
  else if b = Reg.CH_CARRY 0 then some c.loop.carry
  else if b = Reg.CH_TRIM_PENDING 0 then some (b2i (c.trimPending || s.trimRow n))
  else if b = Reg.CH_HB_STAT 0 then some (Int.ofNat (w.hbSticky.toNat * 256 + w.hbLive.toNat))
  else if b = Reg.CH_LOOP_KI 0 then some (coefsOf s.reg n c.bankB).kiWord
  else if b = Reg.CH_LOOP_KP 0 then some (coefsOf s.reg n c.bankB).kpWord
  else if b = Reg.CH_BANK_ACTIVE 0 then some (b2i c.bankB)
  else if b = Reg.CH_SWAP_PENDING 0 then some (Int.ofNat c.swap.num)
  else if b = Reg.CH_LOOP_SAT 0 then some (Int.ofNat c.satWord)
  else if b = Reg.CH_PROBE_STATE 0 then some (Int.ofNat f.probe.num)
  else if b = Reg.CH_A_BW_REC 0 then some (bwRec vfs (coefsOf s.reg n false))
  else if b = Reg.CH_A_ZETA_REC 0 then some (zetaRec vfs (coefsOf s.reg n false))
  else if b = Reg.CH_B_BW_REC 0 then some (bwRec vfs (coefsOf s.reg n true))
  else if b = Reg.CH_B_ZETA_REC 0 then some (zetaRec vfs (coefsOf s.reg n true))
  else if b = Reg.CH_POS 0 then some c.out.pos
  else if b = Reg.CH_VEL 0 then some c.out.vel
  else if b = Reg.CH_ACC 0 then some c.out.acc
  else if b = Reg.CH_TSTAMP 0 then some (Int.ofNat c.out.time.toNat)
  else if b = Reg.CH_STATUS 0 then some (Int.ofNat c.out.status)
  else if b = Reg.CH_INJ_STATE 0 then
    some (if c.inj.state = .running && s.sched[chDomain n].pending = some .test then 1 else Int.ofNat c.inj.state.num)
  else if b = Reg.CH_INJ_ELAPSED 0 then some (Int.ofNat (c.inj.n * 120 / 1000000))
  else none

/-! ### Calibration and beads (R150 to R153) -/

/-- The set number of an address in the blocks 4102h + s of a channel (R152). -/
def setOfKey (k : Key) : Fin 8 := Fin.ofNat 8 (k / 256 % 16 - 2)

/-- BT_COMMIT_STATE (R143). -/
def State.commitState (s : State) : Nat :=
  if s.commitWrites then 2
  else if s.sched[mramDomain].pending = some .beadCommit then 1
  else if s.bead.commitFailed then 3 else 0

def State.viewCal (s : State) (b : Key) (i : Nat) (k : Key) : Option Int :=
  let n : ChId := Fin.ofNat 16 i
  let c := s.cal[n]
  let x := s.sets[setIx n (setOfKey k)]
  if b = Reg.CAL_RUNS_ACTIVE then some (Int.ofNat (s.cal.toList.filter fun c => c.state ≠ .idle).length)
  else if b = Reg.BT_GEN_NEWEST then some (Int.ofNat s.btGen)
  else if b = Reg.BT_GEN_OLDER then
    some (match olderGen s.bead.gens with | some g => Int.ofNat s.bead.gens[g].counter | none => 0)
  else if b = Reg.BT_GEN_SLOT then some (match newestGen s.bead.gens with | some g => Int.ofNat g.val | none => 0)
  else if b = Reg.BT_COMMIT_STATE then some (Int.ofNat s.commitState)
  else if b = Reg.CAL_STATE 0 then some (Int.ofNat c.state.num)
  else if b = Reg.CAL_PAUSE_REASON 0 then some (Int.ofNat c.pause)
  else if b = Reg.CAL_RESULT 0 then some (Int.ofNat c.result)
  else if b = Reg.CAL_DETAIL 0 then some (Int.ofNat c.detail)
  else if b = Reg.CAL_TARGET_SET 0 then some (Int.ofNat c.target)
  else if b = Reg.CAL_TRIGGER 0 then some (Int.ofNat c.trigger)
  else if b = Reg.CAL_COVERED 0 then some (if c.trigger = 0 then 0 else Int.ofNat c.coveredCount)
  else if b = Reg.CAL_SCOPE_NODES 0 then some (if c.trigger = 0 then 0 else Int.ofNat (scopeNodes c.cfg).length)
  else if b = Reg.CAL_ELAPSED 0 then
    some (match c.acquireAt with | some t => if c.state = .idle then 0 else Int.ofNat (s.since t / 10 ^ 9) | none => 0)
  else if b = Reg.CAL_T_MEAN 0 then some c.tMean
  else if b = Reg.CAL_Q_RUN 0 then some (Int.ofNat c.qRun)
  else if b = Reg.CAL_Q_COMPAT 0 then some (Int.ofNat (s.govRec n).q)
  else if b = Reg.CAL_HOLD_LEFT 0 then some (secondsUp (c.holdUntil - s.now))
  else if b = Reg.SET_FLAGS 0 then some (Int.ofNat (b2n x.calibrated + 2 * b2n x.part + 4 * b2n x.hostLoaded))
  else if b = Reg.SET_COUNT 0 then some (Int.ofNat x.count)
  else if b = Reg.SET_TIME 0 then some (Int.ofNat x.time)
  else if b = Reg.SET_T_RUN 0 then some x.tRun
  else if b = Reg.SET_Q 0 then some (Int.ofNat x.q)
  else if b = Reg.SET_ARC_FIRST 0 then some x.arcFirst
  else if b = Reg.SET_ARC_LAST 0 then some x.arcLast
  else none

/-- A coverage word: the four quadrant counts of a node (R147). -/
def coverWord (st : NodeStat) : Nat :=
  (List.finRange 4).foldl (fun a (i : Fin 4) => a + min 255 st.q[i].n * 2 ^ (8 * i.val)) 0

/-- BT_WIN_DATA (R147). -/
def State.beadWindow (s : State) : Except Nak Bytes :=
  let n := chOf (s.reg Reg.BT_WIN_CH)
  let set := s.regN Reg.BT_WIN_SET % 8
  let first := s.regN Reg.BT_WIN_NODE % 1024
  let row (f : Nat → BitVec 32) : Except Nak Bytes := .ok ((List.range 64).flatMap fun i => leBytes 4 (f (first + i)).toNat)
  let gen (g : Option (Fin 2)) (j : Nat) : BitVec 32 :=
    match g with | some i => s.bead.gens[i].beads.word (beadAddr n set j) | none => 0
  match s.regN Reg.BT_WIN_SOURCE with
  | 0 => row (s.beadAt n set)
  | 1 => row (gen (newestGen s.bead.gens))
  | 2 => row (gen (olderGen s.bead.gens))
  | 3 =>
    match s.cal[n].candidate with
    | some r => if r.set = set then row fun j => (s.rowBeads n r).getD j 0 else .error nakCond
    | none => .error nakCond
  | 4 =>
    if s.cal[n].state = .idle || s.cal[n].state = .pending then .error nakCond
    else row fun j => BitVec.ofNat 32 (coverWord (SMap.find {} s.cal[n].stats j))
  | _ => row fun j => s.bead.hostRow.word (4 * j)

/-! ### Snapshots, emulators, switches, Tally inputs (R179 to R182, R196 to R198) -/

def SnapState.num : SnapState → Nat | .idle => 0 | .armed => 1 | .latched => 2

/-- EMU_STATE (R181), by the rules of R177 in their order. -/
def State.emuStateNum (s : State) (n : Fin 16) : Nat :=
  let e := s.emu[n]
  if s.emuScoped n then 6
  else if !s.flag (Reg.EMU_ENABLE n) then 0
  else if s.allSafe then 6
  else if s.flag (Reg.EMU_SEAT_GATE n) && !s.isActive then 5
  else if !e.started then 1
  else if !e.valid || s.sup.power = .quiet then 4
  else if e.safe then 6
  else if e.catchup.isSome then 3 else 2

/-- The catch-up that remains, in states (R168, R181). -/
def Emu.offset (e : Emu) : Int :=
  match e.catchup with
  | some p => clampI (-(2 ^ 31)) (2 ^ 31 - 1) (divRound (p.d * p.s.den - p.s.num) p.s.den)
  | none => 0

/-- PSW_STATE (R182). -/
def State.pswStateNum (s : State) (n : Fin 16) : Nat :=
  let w := s.psw[n]
  if s.pswScoped n then 6
  else if !s.flag (Reg.PSW_ENABLE n) then 0
  else if s.allSafe then 6
  else if s.flag (Reg.PSW_SEAT_GATE n) && !s.isActive then 5
  else if !w.started then 1
  else if !(w.valid || w.switching) || s.sup.power = .quiet then 4
  else if w.active then 3 else 2

/-- TAL_STATE (R194). -/
def State.talStateNum (s : State) (n : Fin 16) : Nat :=
  if !s.flag (Reg.TAL_ENABLE n) then 0 else if s.tal[n].fault then 2 else 1

/-- TAL_FLAGS (R197). -/
def Tally.flags (t : Tally) : Nat :=
  b2n t.seen * 2048 + b2n t.beyond * 1024 + b2n t.mismatch * 512 + b2n t.illegal * 256 + b2n t.sHi * 128 + b2n t.sLo * 64 +
    b2n t.atHi * 32 + b2n t.atLo * 16 + b2n (t.back = some true) * 8 + b2n t.z.level * 4 + b2n t.b.level * 2 + b2n t.a.level

def State.viewUnits (s : State) (b : Key) (i : Nat) : Option Int :=
  let n : Fin 16 := Fin.ofNat 16 i
  let x := s.snap[Fin.ofNat 3 i]
  let e := s.emu[n]
  let t := s.tal[n]
  if b = Reg.SNAP_STATE 0 then some (Int.ofNat x.state.num)
  else if b = Reg.SNAP_SEQ 0 then some (Int.ofNat x.seq.toNat)
  else if b = Reg.SNAP_EVENT_TIME 0 then some (Int.ofNat x.event.toNat)
  else if b = Reg.EMU_STATE 0 then some (Int.ofNat (s.emuStateNum n))
  else if b = Reg.EMU_COUNT 0 then some (e.c % 2 ^ 32)
  else if b = Reg.EMU_TARGET 0 then some (e.ct % 2 ^ 32)
  else if b = Reg.EMU_OFFSET 0 then some e.offset
  else if b = Reg.PSW_STATE 0 then some (Int.ofNat (s.pswStateNum n))
  else if b = Reg.TAL_STATE 0 then some (Int.ofNat (s.talStateNum n))
  else if b = Reg.TAL_COUNT 0 then some t.count
  else if b = Reg.TAL_RAW 0 then some t.raw
  else if b = Reg.TAL_SPEED 0 then some (s.talSpeed n)
  else if b = Reg.TAL_EDGE_TIME 0 then some (t.edgeExt % 2 ^ 32)
  else if b = Reg.TAL_FLAGS 0 then some (Int.ofNat t.flags)
  else if b = Reg.TAL_DIV_OUT 0 then some t.div
  else none

/-- TAL_RECORD (R198). -/
def State.talRecord (s : State) (n : Fin 16) : Bytes :=
  let t := s.tal[n]
  leInt 4 t.count ++ leInt 4 (s.talSpeed n) ++ leInt 4 t.edgeExt ++ leBytes 2 t.flags ++ leBytes 1 (s.talStateNum n) ++
    leBytes 1 (s.regN (Reg.TAL_ILLEGAL_CNT n))

/-! ### Faults (R225, R226) -/

/-- FLT_STATUS (R225). -/
def FSrc.status (f : FSrc) : Nat :=
  f.state.num + b2n f.force * 4 + b2n (f.cond || f.force) * 8 + b2n f.rail * 16

def State.viewFault (s : State) (b : Key) (id : Nat) : Option Int :=
  let f := s.src id
  if b = Reg.FLT_STATUS 0 then some (Int.ofNat f.status)
  else if b = Reg.FLT_COUNT 0 then some (Int.ofNat f.count)
  else if b = Reg.FLT_FIRST 0 then some (Int.ofNat (s.pair80 f.first))
  else if b = Reg.FLT_LAST 0 then some (Int.ofNat (s.pair80 f.last))
  else if b = Reg.FLT_FORCE 0 then some (b2i f.force)
  else if b = Reg.FLT_FIXED 0 then some (b2i (fixedSrc id))
  else if b = Reg.FC_SUMMARY then some (Int.ofNat s.fcSummary)
  else if b = Reg.FC_NOT_IDLE then some (Int.ofNat s.notIdle.length)
  else none

/-- FC_MAP: a bit for every source that is not IDLE (R226). -/
def State.faultMap (s : State) : Bytes :=
  leBytes 144 ((s.notIdle.map fun x => 2 ^ x.1).sum)

/-! ### Redundancy (R254) -/

def LinkState.num : LinkState → Nat | .down => 0 | .aligning => 1 | .up => 2

/-- PT_STATUS (R232). -/
def State.partnerStatus (s : State) (q : Fin 2) : Nat :=
  if !s.hasPartner q then 0 else if s.pt[q].claimed then 2 else if s.released q then 1 else 0

/-- VOTE_CH of a channel (R248). -/
def State.voteWord (s : State) (n : ChId) : Nat :=
  let v := s.vote[n]
  b2n (s.agrees v.own0) + 2 * b2n (s.agrees v.own1) + 4 * b2n (s.agrees v.pair) +
    8 * b2n (v.own0.isSome || v.own1.isSome || v.pair.isSome) + 16 * b2n (s.minority v) + 32 * b2n (s.noMajority v)

def State.viewRed (s : State) (b : Key) (i : Nat) (k : Key) : Option Int :=
  let q : Fin 2 := Fin.ofNat 2 i
  let (e1, e2, e3) := s.evidence q
  if b = Reg.RED_SEAT then some (Int.ofNat s.seatNo)
  else if b = Reg.RED_SEAT_STATE then some (Int.ofNat s.red.state.num)
  else if b = Reg.RED_ELIGIBLE then some (Int.ofNat s.eligibleWord)
  else if b = Reg.RED_ARMED then some (b2i s.red.armed)
  else if b = Reg.PT_SEAT 0 then some (Int.ofNat (s.partnerSeat q))
  else if b = Reg.PT_STATUS 0 then some (Int.ofNat (s.partnerStatus q))
  else if b = Reg.PT_EVIDENCE 0 then some (Int.ofNat (b2n e1 + 2 * b2n e2 + 4 * b2n e3))
  else if b = Reg.PT_LINK 0 then some (b2i (!s.pt[q].present))
  else if b = Reg.PT_LINE_TRUST 0 then some (Int.ofNat (b2n (s.lineTrusted q) + 2 * b2n (s.okTrusted q)))
  else if b = Reg.PT_SEQ 0 then some (match s.pt[q].record with | some r => Int.ofNat (recSeq r).toNat | none => 0)
  else if b = Reg.PT_RX_TIME 0 then some (Int.ofNat s.pt[q].rxTime.toNat)
  else if b = Reg.PT_TP_SEEN 0 then some (Int.ofNat s.pt[q].seen.toNat)
  else if b = Reg.LNK_STATE 0 then some (Int.ofNat s.lnk[q].state.num)
  else if b / 256 = 0x6005 then some (Int.ofNat (s.voteWord (Fin.ofNat 16 (k % 256 - 1))))
  else none

/-! ### Ports, queues, time (R310 to R312) -/

def CanState.num : CanState → Nat | .off => 0 | .active => 1 | .passive => 2 | .busOff => 3

/-- TQ_STATE (R312). -/
def State.tqStateNum (s : State) (q : Fin 16) : Nat :=
  if s.tq[q].sending then 2
  else if s.streamOwns q then 4
  else if s.tq[q].descs.isEmpty then 0
  else if !s.netReady (netOf q) then 3 else 1

def State.viewPorts (s : State) (b : Key) (i : Nat) : Option Int :=
  let k : Fin 2 := Fin.ofNat 2 i
  let q : Fin 16 := Fin.ofNat 16 i
  let c := s.can[k]
  if b = Reg.ETH_LINK 0 then some (Int.ofNat (s.ethLink k))
  else if b = Reg.CAN_STATE 0 then some (Int.ofNat c.state.num)
  else if b = Reg.CAN_ERR_CNTS 0 then some (Int.ofNat (c.recErr * 256 + c.tec))
  else if b = Reg.TIME_NOW then some (Int.ofNat s.timeNow.toNat)
  else if b = Reg.TIME_SLEW_LEFT then some (Int.tdiv s.time.slew (2 ^ 24))
  else if b = Reg.TIME_WRAPS then some s.time.wraps
  else if b = Reg.TIME_REF_VALID then some (b2i s.time.refValid)
  else if b = Reg.TIME_NOW80 then some (Int.ofNat s.now80)
  else if b = Reg.RXR_COUNT 0 then some (Int.ofNat s.eth[k].ring.length)
  else if b = Reg.TQ_STATE 0 then some (Int.ofNat (s.tqStateNum q))
  else if b = Reg.TQ_DEPTH 0 then some (Int.ofNat s.tq[q].descs.length)
  else none

/-! ### Management, log, update, security, power (R340 to R342) -/

/-- SCH_MRAM and SCH_CH codes of an activity (R340). -/
def actNum : Option Activity → Nat
  | none => 0
  | some .beadCommit => 1 | some .store => 2 | some .fwBlock => 3 | some .logCompact => 4
  | some .probe => 1 | some .cal => 2 | some .test => 3

/-- MGMT_STATE (R340). -/
def State.mgmtNum (s : State) : Nat := if s.mgmt.restarting then 1 else if s.tap.halted then 2 else 0

def State.viewMgmt (s : State) (b : Key) (i : Nat) : Option Int :=
  let m := s.mgmt
  let d := s.sched[chDomain (Fin.ofNat 16 i)]
  let x := s.sched[mramDomain]
  if b = Reg.MGMT_STATE then some (Int.ofNat s.mgmtNum)
  else if b = Reg.MGMT_RESTART_REASON then some (Int.ofNat m.reason)
  else if b = Reg.MGMT_UPTIME then some (Int.ofNat (s.since m.restartAt / 10 ^ 9))
  else if b / 256 = 0x7001 then
    some (if b = Reg.TEMP_DIE_MAX then m.tempMax else m.tempDie[Fin.ofNat 4 (b % 256 - 1)])
  else if b / 256 = 0x7002 then some (Int.ofNat m.railMv[Fin.ofNat 5 (b % 256 - 1)])
  else if b = Reg.CLK_PLL_LOCK then some (b2i m.pllLock)
  else if b = Reg.CLK_FLOOR_DEV then some m.floorDev
  else if b = Reg.SCH_MRAM_RUNNING then some (Int.ofNat (actNum x.running))
  else if b = Reg.SCH_MRAM_PENDING then some (Int.ofNat (actNum x.pending))
  else if b = Reg.SCH_MRAM_ELAPSED then some (if x.running.isSome then Int.ofNat (s.since x.since / 10 ^ 6) else 0)
  else if b = Reg.SCH_CH_RUNNING 0 then some (Int.ofNat (actNum d.running))
  else if b = Reg.SCH_CH_PENDING 0 then some (Int.ofNat (actNum d.pending))
  else if b = Reg.SCH_CH_SUSPENDED 0 then some (b2i d.suspended)
  else if b = Reg.LOG_NEWEST then some (match s.log.recs with | (n, _) :: _ => Int.ofNat n | [] => 0)
  else if b = Reg.LOG_OLDEST then some (match s.log.recs.getLast? with | some (n, _) => Int.ofNat n | none => 0)
  else none

/-- KEY_STATE: the Vendor key is always present (R332, R342). -/
def State.keyWord (s : State) : Nat := b2n s.sec.keyOperator.isSome + 2 * b2n s.sec.keyIntegrator.isSome + 4

def State.viewSec (s : State) (b : Key) (i : Nat) : Option Int :=
  if b = Reg.UPD_STATE then some (Int.ofNat s.upd.state.num)
  else if b = Reg.UPD_OFFSET then some (Int.ofNat s.upd.offset)
  else if b = Reg.UPD_DETAIL then some (Int.ofNat s.upd.detail)
  else if b = Reg.FW_BANK_ACTIVE then some (b2i s.upd.bank)
  else if b = Reg.FW_OTP_STEPS then some (Int.ofNat s.upd.otp)
  else if b = Reg.LC_STATE then some (Int.ofNat s.sec.lifecycle)
  else if b = Reg.KEY_STATE then some (Int.ofNat s.keyWord)
  else if b = Reg.AUTH_LOCK_LEFT 0 then
    some (match s.port[Fin.ofNat 7 i].lockUntil with | some t => secondsUp (t - s.now) | none => 0)
  else if b = Reg.DBG_LEVEL then some (Int.ofNat s.sec.debug)
  else if b = Reg.PWR_STATE then some (Int.ofNat s.sup.power.num)
  else if b = Reg.PWR_REASON then some (Int.ofNat s.sup.powerReason)
  else if b = Reg.CAP_STATE then
    some (match s.cap.state with | .idle => 0 | .armed => 1 | .running => 2 | .triggered => 3 | .done => 4)
  else if b = Reg.CAP_COUNT then some (Int.ofNat s.cap.recs.length)
  else if b = Reg.CAP_TRIG_INDEX then
    some (match s.cap.trigAt with | some k => Int.ofNat (s.cap.recs.length - 1 - k) | none => 0)
  else none

/-- A number that an object reads as. -/
def State.view (s : State) (k : Key) : Int :=
  let b := baseKey k
  let n := unitOf k
  let i := b / 256
  let v : Option Int :=
    if i < 0x1200 then s.viewDevice b n k
    else if i < 0x1440 then s.viewPorts b n
    else if i < 0x1500 then s.viewUnits b n
    else if i < 0x2000 then s.viewPorts b n
    else if i < 0x3000 then s.viewChan b n
    else if i < 0x3900 then s.viewUnits b n
    else if i < 0x4000 then s.viewExc b n
    else if i < 0x5000 then s.viewCal b n k
    else if i < 0x6000 then s.viewFault b n
    else if i < 0x7000 then s.viewRed b n k
    else if i < 0x7800 then s.viewMgmt b n
    else s.viewSec b n
  v.getD (s.reg k)

/-! ### Byte strings -/

/-- The capture window: 64 records from CAP_WIN_INDEX, oldest first (R91, R95). Where fewer stand there the rest of the 1,024
bytes is zero, which no rule states (DESIGN CHOICE, log entry 77). -/
def State.capWindow (s : State) : Except Nak Bytes :=
  if s.cap.state = .done || s.cap.state = .idle then
    .ok (padTo 1024 (((s.cap.recs.reverse.drop (s.regN Reg.CAP_WIN_INDEX)).take 64).flatMap id))
  else .error nakCond

/-- Four log records from LOG_WIN_SEQ (R321). -/
def State.logWindow (s : State) : Bytes :=
  (List.range 4).flatMap fun i =>
    match s.log.recs.find? fun x => x.1 = s.regN Reg.LOG_WIN_SEQ + i with
    | some x => x.2
    | none => List.replicate 64 0#8

/-- A byte string that a DOMAIN reads as, before it is brought to its length. -/
def State.domain (s : State) (k : Key) : Except Nak Bytes :=
  let b := baseKey k
  let u := unitOf k
  let n : Fin 16 := Fin.ofNat 16 u
  let q : Fin 2 := Fin.ofNat 2 u
  let tq := s.tq[n]
  if b / 256 = 0x1003 then .ok (match s.dev.diag[b % 256 - 1]? with | some r => r.bytes | none => [])
  else if b = Reg.DEV_NAME then .ok ([0x47, 0x4C, 0x31, 0x36, 0x34, 0x30].map fun (x : Nat) => BitVec.ofNat 8 x)
  else if b = Reg.HW_VERSION then .ok ((List.range 8).map Config.hwVersion)
  else if b = Reg.FW_VERSION then .ok (s.bankVersion (bankIx s.upd.bank))
  else if b = Reg.PEND_WIN_DATA then .ok (((s.pendList.drop (s.regN Reg.PEND_WIN_INDEX)).take 16).flatMap id)
  else if b = Reg.RXR_WIN_DATA 0 then .ok (s.eth[q].ring.getD (s.regN (Reg.RXR_WIN_INDEX q)) [])
  else if b = Reg.SNAP_ALL 0 then
    let x := s.snap[Fin.ofNat 3 u]
    .ok (leBytes 4 x.seq.toNat ++ leBytes 4 x.event.toNat ++ x.recs.toList.flatMap OutRec.bytes)
  else if b = Reg.TQ_WIN_DATA 0 then .ok (match tq.descs[s.regN (Reg.TQ_WIN_INDEX n)]? with | some d => d.raw | none => [])
  else if b = Reg.TQ_WIN_FRAME 0 then
    .ok (match tq.descs[s.regN (Reg.TQ_WIN_INDEX n)]? with
      | some d => sliceB (s.regN (Reg.TQ_WIN_OFS n)) 256 d.frame | none => [])
  else if b = Reg.TQ_COMPL 0 then .ok ((tq.compl.take 16).flatMap id)
  else if b = Reg.TQ_STAGE_DATA 0 then .ok (tq.staging.load (s.regN (Reg.TQ_STAGE_OFS n)) 256)
  else if b = Reg.CH_LOOP_STATE 0 then
    let l := s.ch[n].loop
    .ok (leBytes 4 l.th.toNat ++ leInt 5 l.w ++ leInt 5 l.i ++ leInt 5 l.v ++ leInt 5 l.a)
  else if b = Reg.CH_OUT_RECORD 0 then .ok s.ch[n].out.bytes
  else if b / 256 = 0x2068 then .ok (s.snap[Fin.ofNat 3 (b % 256 - 1)].recs[n]).bytes
  else if b = Reg.TAL_RECORD 0 then .ok (s.talRecord n)
  else if b = Reg.BT_WIN_DATA then s.beadWindow
  else if b = Reg.FC_MAP then .ok s.faultMap
  else if b = Reg.FC_FLOOR then .ok s.floorBytes
  else if b = Reg.RED_OWN_RECORD then .ok s.red.own
  else if b = Reg.PT_RECORD 0 then .ok (s.pt[q].record.getD [])
  else if b = Reg.LOG_WIN_DATA then .ok s.logWindow
  else if b = Reg.FW_BANK0_VER then .ok (s.bankVersion 0)
  else if b = Reg.FW_BANK1_VER then .ok (s.bankVersion 1)
  else if b = Reg.CAP_WIN_DATA then s.capWindow
  else .ok (leInt 8 (s.reg k))

/-- The output current of a Glove driver: 0 from reset on while it does not drive, else what the harness draws, which is no
state of the device (R71; log entry 7). -/
def State.glvCurrent (s : State) (g : Fin 8) : State × Int :=
  if s.glvOut g = .hiz then (s, 0) else (s.draw, wrapS 16 (Int.ofNat (Config.unstated s.fresh)))

/-- What an object reads as (R276). -/
def State.readObj (s : State) (p : Port) (k : Key) (o : Obj) : Except Nak (State × Bytes) :=
  let b := baseKey k
  match o.ty with
  | .domain n =>
    if b = Reg.AUTH_CHALLENGE 0 then .ok (s.challenge p)
    else (s.domain k).map fun d => (s, padTo n d)
  | t =>
    if b = Reg.GLV_CURRENT 0 || b = Reg.GLV_CURRENT_ODD 0 then
      let (s, v) := s.glvCurrent (Fin.ofNat 8 (2 * unitOf k + (if b = Reg.GLV_CURRENT 0 then 0 else 1)))
      .ok (s, t.bytes v)
    else .ok (s, t.bytes (s.view k))

/-! ### Pins that show the state -/

/-- HSPn_RDY: high while a reply or ERROR awaits a POLL; low in reset (R355, R363). -/
def State.hspRdy (s : State) (h : Fin 2) : Bool :=
  let x := s.hsp[Fin.castLE (by decide : 2 ≤ 3) h]
  s.alive && (x.reply.isSome || x.error.isSome)

/-- The IDCODE that the TAP shifts out (R358). -/
def idcode : BitVec 32 := Config.siliconRevision ++ 0x164047B#28

end Sys2Proof.Machine
end

