-- ==== Sys2Proof/Machine/Access.lean ====
section
/-!
DEFINITION. The object dictionary: what every object's write asks for and does (R255 to R261), commit groups and fences
(R267 to R272), device-state commands (R263, R264), store and restore (R273 to R275), and the accesses of a port.
-/

namespace Sys2Proof.Machine

/-! ### The conditions of a configuration object (step 7 of R261) -/

/-- The trim that an object holds. -/
def trimOf (b : Key) : Option TrimObj :=
  if b = Reg.CH_GAIN_SIN 0 then some .gainSin
  else if b = Reg.CH_GAIN_COS 0 then some .gainCos
  else if b = Reg.CH_OFS_SIN 0 then some .ofsSin
  else if b = Reg.CH_OFS_COS 0 then some .ofsCos
  else if b = Reg.CH_FGAIN_SIN 0 then some .fgainSin
  else if b = Reg.CH_FGAIN_COS 0 then some .fgainCos
  else if b = Reg.CH_QUAD_TRIM 0 then some .quad
  else if b = Reg.CH_BETA 0 then some .beta
  else none

/-- The configuration field of a fault source that an object holds. -/
def fieldOf (b : Key) : Option FltField :=
  if b = Reg.FLT_CLASS 0 then some .cls
  else if b = Reg.FLT_REACTION 0 then some .reaction
  else if b = Reg.FLT_OKAY_ROUTE 0 then some .route
  else if b = Reg.FLT_AUTO_CLEAR 0 then some .autoClear
  else none

/-- The set temperatures rise by at least 5 K, and every calibrated set's T_run lies in its cell (R122). -/
def checkSetTemps (s : State) (get : Key → Int) (_ : Key) (_ : Int) : Except Nak Unit := do
  need ((List.range 7).all fun k => get (Reg.CAL_SET_TEMP0 + k) + 10 ≤ get (Reg.CAL_SET_TEMP0 + (k + 1))) nakRange
  need (all16.all fun (n : ChId) => (List.finRange 8).all fun (k : Fin 8) =>
    !s.sets[setIx n k].calibrated || inCell get k.val s.sets[setIx n k].tRun) nakRange

/-- CH_TR while a run of the channel is beyond IDLE (R138). -/
def checkTr (n : ChId) (s : State) (_ : Key → Int) (_ : Key) (_ : Int) : Except Nak Unit :=
  need (s.cal[n].state = .idle) nakCond

/-- The conditions that an object's chapter states, on the configuration `get` as it would stand. -/
def ownCheck (p : Port) (s : State) (get : Key → Int) (k : Key) (v : Int) : Except Nak Unit :=
  let b := baseKey k
  let u := unitOf k
  let n : ChId := Fin.ofNat 16 u
  let e : ExcId := Fin.ofNat 4 u
  match trimOf b, fieldOf b with
  | some o, _ => checkTrim o n s get k v
  | _, some o => checkFlt p o u s get k v
  | none, none =>
    if b = Reg.EXC_MODE 0 then checkExcMode e s get k v
    else if b = Reg.EXC_FREQ 0 then checkExcFreq e s get k v
    else if b = Reg.CH_EXC_SEL 0 then checkExcSel n s get k v
    else if b = Reg.CH_TR 0 then checkTr n s get k v
    else if b / 256 = 0x2030 then checkBank n (some false) s get k v
    else if b / 256 = 0x2048 then checkBank n (some true) s get k v
    else if b = Reg.CH_VEL_FS 0 then checkBank n none s get k v
    else if b = Reg.CH_ACC_FS 0 then checkAccFs n s get k v
    else if b = Reg.CH_BANK_SEL 0 then checkBankSel n s get k v
    else if b / 256 = 0x20A0 then checkInj n s get k v
    else if b / 256 = 0x20A8 || b / 256 = 0x8000 then checkCap s get k v
    else if b = Reg.TAL_LIM_LO 0 || b = Reg.TAL_LIM_HI 0 then checkTalLimits n s get k v
    else if b = Reg.TAL_IDX_TOL 0 || b = Reg.TAL_LINES 0 || b = Reg.TAL_DIV_N 0 || b = Reg.TAL_DIV_M 0 then
      checkTalSet n s get k v
    else if b = Reg.PSW_MODE 0 || b = Reg.PSW_LO 0 || b = Reg.PSW_HI 0 || b = Reg.PSW_BRIM 0 then checkPsw n s get k v
    else if b = Reg.PF_ENABLE 0 || b = Reg.PF_QUEUE 0 || b = Reg.PF_CH_MASK 0 then checkPf (Fin.ofNat 8 u) s get k v
    else if b = Reg.CAN_NOM_RATE 0 || b = Reg.CAN_DATA_RATE 0 then checkCanRate (Fin.ofNat 2 u) s get k v
    else if b = Reg.CAL_ARC_FIRST 0 || b = Reg.CAL_ARC_LAST 0 then checkArc n s get k v
    else if Reg.CAL_SET_TEMP0 ≤ b && b < Reg.CAL_SET_TEMP0 + 8 then checkSetTemps s get k v
    else .ok ()

/-! ### What a configuration object does when it becomes visible -/

/-- A changed DGR_PEER object: where another peer is in force by it, the session is a new one (R283, R291). -/
def applyPeer (k : Fin 2) (s : State) (key : Key) (old : Int) : State :=
  if (s.setReg key old).dgrPeer k = s.dgrPeer k then s
  else
    (s.modEth k fun x => { x with peer := none, last := none }).modPort (Fin.ofNat 7 (k.val + 2)) fun x =>
      { x with role := .observer }

/-- The effect of a value that has become visible (R270); `old` is the value before. -/
def State.onVisible (s : State) (p : Port) (k : Key) (old v : Int) : State :=
  let b := baseKey k
  let u := unitOf k
  let n : ChId := Fin.ofNat 16 u
  let e : ExcId := Fin.ofNat 4 u
  let two : Fin 2 := Fin.ofNat 2 u
  match trimOf b, fieldOf b with
  | some _, _ => s.trimWait n
  | _, some .autoClear => s
  | _, some _ => s.fltApply u ((s.setReg k old).fltNow u)
  | none, none =>
    if b = Reg.EXC_ENABLE 0 then s.excSync e
    else if b = Reg.EXC_MODE 0 then applyExcMode e s k old v
    else if b = Reg.EXC_FREQ 0 then applyExcFreq e s k old v
    else if b = Reg.EXC_AMPL 0 then applyExcAmpl e s k old v
    else if b = Reg.CH_EXC_SEL 0 then applyExcSel n s k old v
    else if b = Reg.CH_ENABLE 0 then s.setEnable n v
    else if b = Reg.CH_BANK_SEL 0 then applyBankSel p n s k old v
    else if b = Reg.GLV_MODE 0 then applyGlvMode (Fin.ofNat 8 (2 * u)) s k old v
    else if b = Reg.GLV_MODE_ODD 0 then applyGlvMode (Fin.ofNat 8 (2 * u + 1)) s k old v
    else if b = Reg.CH_PROBE_FREQ 0 then s.probeRetry n
    else if b / 256 = 0x2016 || b / 256 = 0x2017 then applyTemp n s k old v
    else if b = Reg.EMU_ENABLE 0 then applyEmuEnable n s k old v
    else if b = Reg.EMU_SRC 0 || b = Reg.EMU_SRC_KIND 0 then applyEmuSrc n s k old v
    else if b = Reg.PSW_ENABLE 0 then applyPswEnable n s k old v
    else if b = Reg.PSW_SRC 0 then applyPswSrc n s k old v
    else if b = Reg.EMU_SEAT_GATE 0 || b = Reg.EMU_INVALID 0 || b = Reg.PSW_SEAT_GATE 0 || b = Reg.PSW_INVALID 0 ||
        b = Reg.PSW_POLARITY 0 || b / 256 = 0x5510 || b / 256 = 0x5511 then s.showOutputs
    else if b = Reg.TAL_ENABLE 0 then applyTalEnable n s k old v
    else if b = Reg.TAL_LIM_LO 0 || b = Reg.TAL_LIM_HI 0 then applyTalLimits n s k old v
    else if b = Reg.TAL_IDX_MODE 0 then applyTalMode n s k old v
    else if b = Reg.PF_ENABLE 0 then applyPfEnable (Fin.ofNat 8 u) s k old v
    else if b = Reg.RED_MODE || b = Reg.RED_LNK1_MODE then s.showLinks
    else if b = Reg.RED_CYCLE || b = Reg.RED_CYCLE_FIRST then s.setGrid
    else if b = Reg.ETH_ENABLE 0 then applyEthEnable two s k old v
    else if b = Reg.DGR_PEER_IP 0 || b = Reg.DGR_PEER_UDP 0 then applyPeer two s k old
    else if b = Reg.CAN_ENABLE 0 then applyCanEnable two s k old v
    else s

/-- An accepted RWS write (R258, R270). -/
def effRws (p : Port) (k : Key) (v : Int) : Eff := fun s => do
  ownCheck p s (overlay s.reg [(k, v)]) k v
  .ok (((s.setReg k v).onVisible p k (s.reg k) v).cfgGen)

/-! ### RW objects -/

/-- DIAG_COUNT: 0 deletes every record (R266). -/
def effDiag (v : Int) : Eff := fun s => do
  need (v = 0) nakRange
  .ok (s.modDev fun d => { d with diag := [] })

/-- PORT_HB_TMO of port `q` (R271). -/
def effHbTmo (q : Port) (v : Int) : Eff := fun s =>
  .ok ((s.setReg (Reg.PORT_HB_TMO q) v).modPort q fun x =>
    { x with hb := if v = 0 then .off else if x.hb = .off then .alive else x.hb })

/-- The bits of a vector that a write of ones clears. -/
def clearBits {n : Nat} (v : Vector Bool n) (w : Int) : Vector Bool n :=
  Vector.ofFn fun i => v[i] && !bitN w.toNat i.val

/-- CH_LOOP_SAT: a sticky bit that is cleared takes its source's condition with it (R80, R85). -/
def effLoopSat (n : ChId) (v : Int) : Eff := fun s =>
  let bit (i : Nat) : Bool := bitN v.toNat i
  let s := s.modCh n fun c =>
    { c with
      stickyInt := c.stickyInt && !bit 8, stickyVel := c.stickyVel && !bit 9, stickyOut := c.stickyOut && !bit 10
      swapInSat := c.swapInSat && !bit 12 }
  .ok (s.each [(8, 10), (9, 11), (10, 12), (12, 13)] fun s x => if bit x.1 then s.gone (chSrc n x.2) else s)

/-- TAL_FLAGS: ones clear the sticky bits (R197). -/
def effTalFlags (n : Fin 16) (v : Int) : Eff := fun s =>
  let keep (i : Nat) : Bool := !bitN v.toNat i
  .ok (s.modTal n fun t =>
    { t with
      beyond := t.beyond && keep 10, mismatch := t.mismatch && keep 9, illegal := t.illegal && keep 8
      sHi := t.sHi && keep 7, sLo := t.sLo && keep 6 })

/-- BT_WIN_DATA writes the host row only (R148, R153). -/
def effBeadWin (data : Bytes) : Eff := fun s => do
  need (s.reg Reg.BT_WIN_SOURCE = 5) nakCond
  .ok (s.modBead fun b => { b with hostRow := b.hostRow.store (4 * s.regN Reg.BT_WIN_NODE) data })

/-- A sticky flag object: a 1 clears it. -/
def effFlag (k : Key) (v : Int) : Eff := fun s => .ok (if v % 2 = 1 then s.setReg k 0 else s)

/-- An accepted write of an RW object (R258). -/
def effRw (p : Port) (k : Key) (v : Int) (data : Bytes) : Eff := fun s =>
  let b := baseKey k
  let u := unitOf k
  let n : ChId := Fin.ofNat 16 u
  let src : Fin 3 := Fin.ofNat 3 u
  if b = Reg.DIAG_COUNT then effDiag v s
  else if b = Reg.PORT_HB_TMO 0 then effHbTmo (Fin.ofNat 7 u) v s
  else if b = Reg.TIME_INC then effTimeInc v s
  else if b = Reg.TIME_SLEW then effTimeSlew v s
  else if b = Reg.TIME_REF80 then effTimeRef80 v s
  else if b = Reg.SNAP_MODE 0 || b = Reg.SNAP_EDGE 0 || b = Reg.SNAP_TIME 0 || b = Reg.SNAP_PERIOD 0 then
    effSnapConfig src k v s
  else if b = Reg.TQ_STAGE_DATA 0 then effStage n data s
  else if b = Reg.CH_MON_STICKY 0 then .ok (s.modCh n fun c => { c with sticky := clearBits c.sticky v })
  else if b = Reg.CH_HB_STAT 0 then
    .ok (s.modWatch n fun w => { w with hbSticky := w.hbSticky &&& ~~~(BitVec.ofInt 8 (v / 256)) })
  else if b = Reg.CH_CARRY_WRAP 0 || b = Reg.EMU_FLAGS 0 then effFlag k v s
  else if b = Reg.CH_BANK_SWAP_AT 0 then effBankSwapAt n v s
  else if b = Reg.CH_LOOP_SAT 0 then effLoopSat n v s
  else if b = Reg.CH_TEMP_EXT 0 then .ok (applyTemp n (s.setReg k v) k (s.reg k) v)
  else if b = Reg.TAL_FLAGS 0 then effTalFlags n v s
  else if b = Reg.BT_WIN_DATA then effBeadWin data s
  else if b = Reg.FLT_FORCE 0 then effFltForce p u v s
  else if b = Reg.DBG_LEVEL then effDebug p v s
  else .ok (s.setReg k v)

/-! ### Commit groups (R267 to R272) -/

/-- The number of pending entries that one more object of port `p` would make exceed a limit (R267). -/
def State.groupFull (s : State) (p : Port) : Bool := 64 ≤ s.port[p].group.length || 128 ≤ s.pendCount

/-- An entry put into a group: a second write of an object replaces the held value (R267). -/
def putEntry (g : List Entry) (k : Key) (v : Int) : List Entry :=
  if g.any fun e => e.1 = k then g.map fun e => if e.1 = k then (k, v) else e else g ++ [(k, v)]

/-- An RWF write enters the open group of its port (R267). -/
def effGroup (p : Port) (k : Key) (v : Int) : Eff := fun s => do
  need ((s.port[p].group.any fun e => e.1 = k) || !s.groupFull p) nakInflight
  .ok (s.modPort p fun x => { x with group := putEntry x.group k v })

/-- The entry of a group that fails its check, with its code: each entry as if written alone, in the configuration after
every group that is sealed and not yet visible, and this one (R268). -/
def State.groupFault (s : State) (p : Port) (es : List Entry) : Option (Key × Nak) :=
  let later := s.grp.timed.reverse.flatMap fun g => g.entries
  let sealed_ := s.grp.sealed.reverse.flatMap fun g => g.1.entries
  let get := overlay s.reg (es ++ later ++ sealed_)
  es.findSome? fun e =>
    match findObj e.1 with
    | none => none
    | some o =>
      match rangeCheck s get o e.1 e.2, ownCheck p s get e.1 e.2 with
      | some c, _ => some (e.1, ⟨c, 0xA⟩)
      | none, .error n => some (e.1, ⟨n.abort, 0xA⟩)
      | none, .ok _ => none

/-- Every entry becomes readable at one edge, and then takes its effect; CFG_GEN moves on (R270). -/
def State.makeVisible (s : State) (p : Port) (es : List Entry) : State :=
  let olds := (es.filter fun e => !isFltConfig e.1).map fun e => (e, s.reg e.1)
  (olds.foldl (fun s x => s.onVisible p x.1.1 x.2 x.1.2) (s.setConfig es)).cfgGen

/-- The fate of a sealed group (R271). -/
def State.groupFate (s : State) (g : Group) (r : Nat) : State :=
  s.modPort g.port fun x => { x with lastResult := r, tagResult := if x.fences = g.no then r else x.tagResult }

/-- Accepted operations of a port that have not taken effect: swaps, homing and presets that wait for a boundary, and
firmware blocks (R268). -/
def State.opsWait (s : State) (p : Port) : Bool :=
  (all16.any fun (n : ChId) => s.ch[n].swap = .sample p || s.ch[n].swap = .fence p || s.front[n].homePort = some p) ||
  (all16.any fun n => s.tal[n].preset = some p) || s.upd.blocks.any fun b => b.port = p

/-- A sealed group may become visible (R268). -/
def State.groupReady (s : State) (g : Group) : Bool :=
  if g.all then
    !((List.finRange 7).any s.opsWait) && s.grp.sealed.all fun x => x.1.port = g.port
  else !s.opsWait g.port

/-- The group of a fence that was accepted; it has met no fate yet (R271). -/
def State.sealGroup (s : State) (p : Port) (tag : Nat) (due : Nat) (all : Bool) : State × Group :=
  let g : Group :=
    { port := p, tag := BitVec.ofNat 16 tag, entries := s.port[p].group, due := BitVec.ofNat 32 due, all := all
      no := s.port[p].fences + 1 }
  (s.modPort p fun x => { x with group := [], lastTag := g.tag, fences := g.no, tagResult := 0 }, g)

/-- The kinds of a fence (R268). -/
inductive FenceKind where
  | loc | glob | at_
  deriving DecidableEq, Repr

/-- Why a fence is refused, with the failing entry (R268). -/
def State.fenceFault (s : State) (p : Port) (kind : FenceKind) (count : Nat) : Option (Nak × Option Key) :=
  let es := s.port[p].group
  if count ≠ 0xFFFF ∧ count ≠ es.length then some (nakCount, none)
  else if kind = .at_ ∧ 16 ≤ s.grp.timed.length then some (nakTimed, none)
  else (s.groupFault p es).map fun x => (x.2, some x.1)

/-- A fence (R268): refused, with the group open and unchanged; timed; visible at once; or sealed until the operations
before it have taken effect. -/
def State.fence (s : State) (p : Port) (route : Route) (kind : FenceKind) (v : Nat) : State × Option Nak :=
  let count := v % 2 ^ 16
  match s.fenceFault p kind count with
  | some (n, k) =>
    (s.modPort p fun x => { x with lastResult := 3, failObj := k.getD x.failObj }, some n)
  | none =>
    let (s, g) := s.sealGroup p (v / 2 ^ 16 % 2 ^ 16) (v / 2 ^ 32) (kind = .glob)
    if kind = .at_ then ((s.groupFate g 2).modGrp fun x => { x with timed := x.timed ++ [g] }, none)
    else if s.groupReady g then ((s.makeVisible p g.entries).groupFate g 1, none)
    else (s.modGrp fun x => { x with sealed := x.sealed ++ [(g, route)] }, none)

/-- PORT_HEARTBEAT of port `q` restarts its timer (R271). -/
def effHeartbeat (q : Port) : Eff := fun s => .ok (s.beat q)

/-- The open group of port `q` is discarded with a result; without one nothing changes (R271). -/
def State.discard (s : State) (q : Port) (r : Nat) : State :=
  if s.port[q].group.isEmpty then s
  else (s.modPort q fun x => { x with group := [], lastResult := r }).bump (Reg.GRP_DISCARD_CNT q)

/-- GRP_DISCARD (R271). -/
def effDiscard (q : Port) : Eff := fun s => .ok (s.discard q 5)

/-- GRP_TIMED_CANCEL: every timed group of port `q` (R271). -/
def effTimedCancel (q : Port) : Eff := fun s =>
  let gs := s.grp.timed.filter fun g => g.port = q
  let s := s.modGrp fun x => { x with timed := x.timed.filter fun g => g.port ≠ q }
  .ok (gs.foldl (fun s g => s.groupFate g 5) s)

/-! ### Device-state commands (R263, R264) -/

/-- LEAVE_SAFE: the Mitten releases its levels, held exciters leave HELD, the seat returns to STANDBY. -/
def State.exitSafe (s : State) (p : Port) : State :=
  let s := (s.modFloor fun f => { f with deviceSafe := false }).enterDev .config 2 p
  (s.setSeat .standby).freeExciters.showOutputs

/-- DEV_STATE_CMD. -/
def effDevCmd (p : Port) (v : Int) : Eff := fun s => do
  let d := s.dev.state
  if v = 4 then
    need (!s.safeHeld && s.sup.power = .run) nakCond
    .ok (s.exitSafe p)
  else if v = 2 then
    if d = .run then .ok s
    else do
      need (!s.fatal && !s.seatMismatch && s.sup.power = .run) nakCond
      .ok (s.enterDev .run 2 p)
  else if v = 3 then .ok (s.enterDev .service 2 p)
  else .ok (s.enterDev .config 2 p)

/-- A commanded transition with its reply: a DEVICE-SAFE reaction that arrives during it takes the device to SAFE, and the
command is answered by a refusal (R264). -/
def State.devCommand (s : State) (p : Port) (v : Int) : State × Option Nak :=
  match effDevCmd p v s with
  | .error n => (s, some n)
  | .ok t => (t, if t.floor.request then some nakCond else none)

/-! ### Store and restore (R273 to R275) -/

/-- An object of the stored configuration. -/
def isStored (k : Key) : Bool :=
  match findObj k with
  | some o => o.acc = .rwf || o.acc = .rws
  | none => false

/-- DEV_STORE (R273, R318, R327). -/
def effStore (v : Int) : Eff := fun s => do
  need (v = 0x65766173) nakSignature
  need (!s.updWaits) nakMgmt
  match s.schedDo mramDomain .store with
  | (.refuse, _) => .error nakSched
  | (_, s) => .ok s

/-- The visible configuration, as a generation holds it (R273). -/
def State.storedValues (s : State) : SMap Int := s.regs.filter fun x => isStored x.1

/-- The store's generation written into the older slot, header last (R274). -/
def State.writeStore (s : State) : State :=
  let (slot, counter) : Fin 2 × Nat :=
    match newestStore s.store.gens with
    | some 0 => (1, s.store.gens[0].counter + 1)
    | some 1 => (0, s.store.gens[1].counter + 1)
    | none => (0, 1)
  let vs := s.storedValues
  s.modStore fun x =>
    { x with
      gens := vmod x.gens slot fun _ => { valid := true, counter := counter % 2 ^ 32, crc := storeCrc vs, values := vs } }

/-- The older slot after a store that failed its read-back. -/
def State.spoilStore (s : State) : State :=
  let slot : Fin 2 := match newestStore s.store.gens with | some 0 => 1 | _ => 0
  s.modStore fun x => { x with gens := vmod x.gens slot fun g => { g with valid := false, torn := true } }

/-- The end of a store: the copies in which CFG_GEN changed, and its read-back (R274). -/
def State.storeRun (s : State) (genChanges : Nat) (readBackOk : Bool) : State :=
  if 4 ≤ genChanges then s.storeEnds 3 1
  else if !readBackOk then (s.spoilStore.raise 1025).storeEnds 3 2
  else (s.writeStore.gone 1025).storeEnds 0 0

/-- The objects that a restore changes, with their new values (R275; log entry 24). -/
def State.restoreEntries (s : State) (target : Key → Int) (more : List Key) : List Entry :=
  let keys := ((s.regs.map fun x => x.1) ++ more).eraseDups.filter fun k => isStored k && s.reg k ≠ target k
  keys.map fun k => (k, target k)

/-- RESTORE_DEFAULTS and RESTORE_STORED: one commit group, visible or refused whole (R275). -/
def State.restore (s : State) (p : Port) (stored : Bool) (v : Int) : State × Option Nak :=
  if v ≠ 0x64616F6C then (s, some nakSignature)
  else if stored && (newestStore s.store.gens).isNone then (s, some nakCond)
  else
    let es := if stored then s.restoreEntries s.stored s.storedKeys else s.restoreEntries regDefault []
    match s.groupFault p es with
    | some (k, n) => (s.modPort p fun x => { x with failObj := k }, some n)
    | none => (s.makeVisible p es, none)

/-! ### Commands by address -/

/-- The commands of channels, exciters, Tally inputs and calibration. -/
def cmdUnits (p : Port) (k : Key) : Option Eff :=
  let b := baseKey k
  let u := unitOf k
  let n : ChId := Fin.ofNat 16 u
  if b = Reg.CH_RECOVER 0 then some (effRecover n)
  else if b = Reg.CH_HOME 0 then some (effHome p n)
  else if b = Reg.CH_BETA_LEARN 0 then some (effBetaLearn n)
  else if b = Reg.CH_BANK_SWAP 0 then some (effBankSwap p n)
  else if b = Reg.CH_BANK_SWAP_CANCEL 0 then some (effBankSwapCancel n)
  else if b = Reg.CH_PROBE_START 0 then some (effProbeStart n)
  else if b = Reg.CH_RREF_LEARN 0 then some (effRrefLearn n)
  else if b = Reg.CH_A_DESIGN 0 then some (effDesign n false)
  else if b = Reg.CH_B_DESIGN 0 then some (effDesign n true)
  else if b = Reg.CH_INJ_START 0 then some (effInjStart n)
  else if b = Reg.CH_INJ_STOP 0 then some (effInjStop n)
  else if b = Reg.TAL_PRESET 0 then some (effTalPreset p n)
  else if b = Reg.TAL_IDX_PRESET_ARM 0 then some (effTalArm n)
  else if b = Reg.TAL_RESUME 0 then some (effTalResume n)
  else if b = Reg.EXC_RESTART 0 then some (effExcRestart (Fin.ofNat 4 u))
  else if b = Reg.SNAP_ARM 0 then some (effSnapArm (Fin.ofNat 3 u))
  else if b = Reg.BT_COMMIT_NOW then some effCommitNow
  else if b = Reg.CAL_START 0 then some (effCalStart n)
  else if b = Reg.CAL_CANCEL 0 then some (effCalCancel n)
  else if b = Reg.SET_CLEAR 0 then some (effSetClear n (setOfKey k))
  else if b = Reg.BT_ROW_LOAD then some effRowLoad
  else if b = Reg.BT_ROW_CLEAR then some effRowClear
  else none

/-- A burn that a host's command asks for: whether the OTP takes it is no state of the device (log entry 7). -/
def State.burns (s : State) : Bool := Config.unstated s.fresh % 2 = 1

/-- The commands of faults, seats, ports, the log, the update, security, power and the capture. -/
def cmdDevice (p : Port) (r : Route) (k : Key) (v : Int) (data : Bytes) : Option Eff :=
  let b := baseKey k
  let u := unitOf k
  let two : Fin 2 := Fin.ofNat 2 u
  let q : Fin 16 := Fin.ofNat 16 u
  let port : Port := Fin.ofNat 7 u
  if b = Reg.DEV_STORE then some (effStore v)
  else if b = Reg.PORT_HEARTBEAT 0 then some (effHeartbeat port)
  else if b = Reg.GRP_DISCARD 0 then some (effDiscard port)
  else if b = Reg.GRP_TIMED_CANCEL 0 then some (effTimedCancel port)
  else if b = Reg.CAN_RECOVER 0 then some (effCanRecover two)
  else if b = Reg.TIME_STEP then some (effTimeStep v)
  else if b = Reg.RXR_RELEASE 0 then some (effRxrRelease two v)
  else if b = Reg.TQ_PUSH 0 then some (effPush q data)
  else if b = Reg.TQ_FLUSH 0 then some (effFlush q)
  else if b = Reg.FLT_CLEAR 0 then some (effFltClear (srcOf u))
  else if b = Reg.FLT_CNT_RESET 0 then some (effFltCntReset u)
  else if b = Reg.FC_CLEAR_ALL then some (effClearAll p)
  else if b = Reg.FC_REINIT then some effFcReinit
  else if b = Reg.FC_FLOOR_REARM then some effFloorRearm
  else if b = Reg.RED_CLAIM then some effRedClaim
  else if b = Reg.RED_RELEASE then some effRedRelease
  else if b = Reg.LOG_COMPACT then some effLogCompact
  else if b = Reg.UPD_BEGIN then some (effUpdBegin p r v)
  else if b = Reg.UPD_DATA then some (effUpdData p r data)
  else if b = Reg.UPD_VERIFY then some effUpdVerify
  else if b = Reg.UPD_ACTIVATE then some effUpdActivate
  else if b = Reg.UPD_CONFIRM then some fun s => effUpdConfirm s.burns s.draw
  else if b = Reg.UPD_ABORT then some effUpdAbort
  else if b = Reg.LC_ADVANCE then some (effAdvance p v)
  else if b = Reg.KEY_OPERATOR then some (effKey false data)
  else if b = Reg.KEY_INTEGRATOR then some (effKey true data)
  else if b = Reg.AUTH_RESPONSE 0 then some (effResponse port data)
  else if b = Reg.AUTH_LOGOUT 0 then some (effLogout port)
  else if b = Reg.PWR_CMD then some (effPwr p v)
  else if b = Reg.PWR_OFF then some (effPwrOff p v)
  else if b = Reg.CAP_ARM then some effCapArm
  else if b = Reg.CAP_STOP then some effCapStop
  else none

/-- An accepted write of a WO or CMD object (R258). -/
def effCmd (p : Port) (r : Route) (k : Key) (v : Int) (data : Bytes) : Eff :=
  match cmdUnits p k, cmdDevice p r k v data with
  | some e, _ => e
  | none, some e => e
  | none, none => .ok

/-! ### An access of a port -/

/-- Steps 7 and 8 of R261 and the effect of a write. -/
def State.dictEffect (p : Port) (r : Route) (k : Key) (data : Bytes) (o : Obj) (v : Int) (s : State) : State × Option Nak :=
  if k = Reg.FENCE_LOCAL then s.fence p r .loc v.toNat
  else if k = Reg.FENCE_GLOBAL then s.fence p r .glob v.toNat
  else if k = Reg.FENCE_AT then s.fence p r .at_ v.toNat
  else if k = Reg.DEV_STATE_CMD then s.devCommand p v
  else if k = Reg.RESTORE_DEFAULTS then s.restore p false v
  else if k = Reg.RESTORE_STORED then s.restore p true v
  else
    orElseSame s <| match o.acc with
      | .rwf => effGroup p k v s
      | .rws => effRws p k v s
      | .rw => effRw p k v data s
      | _ => effCmd p r k v data s

/-- A write of any object by its address. -/
def State.dictWrite (s : State) (p : Port) (k : Key) (data : Bytes) (r : Route) : State × Option Nat :=
  s.writeWith p k data r (State.dictEffect p r k data)

/-- An access of a port with the way of its result: a write of `data`, or a read. -/
def State.perform (s : State) (p : Port) (k : Key) (data : Option Bytes) (r : Route) : State :=
  match data with
  | some d =>
    match s.dictWrite p k d r with
    | (s, some a) => s.answer r a []
    | (s, none) => s
  | none =>
    match s.readWith p k r (fun o s => s.readObj p k o) with
    | (s, some (a, d)) => s.answer r a d
    | (s, none) => s

/-- The address of an index and a sub-index. -/
def keyOf (index : BitVec 16) (sub : Byte) : Key := index.toNat * 256 + sub.toNat

end Sys2Proof.Machine
end

