-- ==== Sys2Proof/Machine/Dict.lean ====
section
/-!
DEFINITION. The commands of the object dictionary: writes without a row of their own (R258), commit groups and fences
(R267 to R272), device states (R263), store and restore (R273 to R275).
-/

namespace Sys2Proof.Machine

/-! ### Writes -/

/-- REGISTER_WRITE: a write of any object by its address (R258, R261). -/
def execRegisterWrite (p : Port) (index : BitVec 16) (sub : Byte) (data : Bytes) (s : State) :
    Host.Outcome State Fault Refusal :=
  done (s.perform p (keyOf index sub) (some data) .none)

/-- RWF_WRITE: a write held in the port's commit group (R267). -/
def execRwfWrite (p : Port) (index : BitVec 16) (sub : Byte) (data : Bytes) (s : State) :
    Host.Outcome State Fault Refusal :=
  done (s.perform p (keyOf index sub) (some data) .none)

/-- DIAG_COUNT_WRITE (R266). -/
def execDiagCountWrite (p : Port) (v : Int) (s : State) : Host.Outcome State Fault Refusal :=
  hostSet p Reg.DIAG_COUNT v effDiag s

/-! ### Fences -/

/-- A fence object written by a host (R268). -/
def hostFence (p : Port) (k : Key) (kind : FenceKind) (data : Bytes) (s : State) : Host.Outcome State Fault Refusal :=
  done (s.writeWith p k data .none fun _ v s => s.fence p .none kind v.toNat).1

def execFenceLocal (p : Port) (v : BitVec 32) (s : State) : Host.Outcome State Fault Refusal :=
  hostFence p Reg.FENCE_LOCAL .loc (leBytes 4 v.toNat) s

def execFenceGlobal (p : Port) (v : BitVec 32) (s : State) : Host.Outcome State Fault Refusal :=
  hostFence p Reg.FENCE_GLOBAL .glob (leBytes 4 v.toNat) s

def execFenceAt (p : Port) (v : BitVec 64) (s : State) : Host.Outcome State Fault Refusal :=
  hostFence p Reg.FENCE_AT .at_ (leBytes 8 v.toNat) s

/-- The accesses that a FENCE_GLOBAL held go on in the order of their arrival (R268). -/
def State.releaseHeld (s : State) : State :=
  let held := s.grp.held
  (s.modGrp fun g => { g with held := [] }).each held fun s h => s.perform h.port h.key h.data h.route

/-- GROUP_VISIBLE: the sealed group of port `p` becomes visible once the operations before it have taken effect, and
its fence replies (R268, R270). -/
def execGroupVisible (p : Port) (s : State) : Host.Outcome State Fault Refusal :=
  match s.grp.sealed.find? fun x => x.1.port = p with
  | none => done s
  | some (g, route) =>
    if s.alive && s.groupReady g then
      let s := s.modGrp fun x => { x with sealed := x.sealed.filter fun y => y.1.port ≠ p }
      let s := ((s.makeVisible p g.entries).groupFate g 1).answer route 0 []
      done (if g.all then s.releaseHeld else s)
    else done s

/-- TIMED_GROUP_DUE: the first timed group that is due is checked again, and becomes visible or fails (R269). -/
def execTimedGroupDue (s : State) : Host.Outcome State Fault Refusal :=
  match s.grp.timed.find? fun g => reached s.timeNow g.due with
  | none => done s
  | some g =>
    if !s.alive then done s
    else
      let s := s.modGrp fun x => { x with timed := x.timed.erase g }
      match s.groupFault g.port g.entries with
      | some (k, _) =>
        done (((s.groupFate g 6).modPort g.port fun x => { x with failObj := k }).pulse 1024)
      | none => done ((s.makeVisible g.port g.entries).groupFate g 1)

/-! ### Heartbeats and discards (R271) -/

/-- PORT_HEARTBEAT of port `q`, written by port `p`. -/
def execPortHeartbeat (p q : Port) (s : State) : Host.Outcome State Fault Refusal :=
  hostCmd p (Reg.PORT_HEARTBEAT q) (effHeartbeat q) s

/-- HEARTBEAT_EXPIRY: the open group goes, the session returns to Observer, and an Ethernet port forgets its learned peer
(R271, R283, R291). -/
def State.expire (s : State) (q : Port) : State :=
  let s := (s.discard q 4).modPort q fun x => { x with hb := .expired, role := .observer }
  if q = 2 ∨ q = 3 then s.modEth (Fin.ofNat 2 q.val) fun x => { x with peer := none, last := none } else s

def execHeartbeatExpiry (q : Port) (s : State) : Host.Outcome State Fault Refusal :=
  if s.alive && !s.mgmt.restarting && s.port[q].hb = .alive && s.reg (Reg.PORT_HB_TMO q) ≠ 0 then done (s.expire q)
  else done s

/-- GRP_DISCARD of port `q`'s open group. -/
def execGrpDiscard (p q : Port) (s : State) : Host.Outcome State Fault Refusal :=
  hostCmd p (Reg.GRP_DISCARD q) (effDiscard q) s

/-- GRP_TIMED_CANCEL of port `q`'s timed groups. -/
def execGrpTimedCancel (p q : Port) (s : State) : Host.Outcome State Fault Refusal :=
  hostCmd p (Reg.GRP_TIMED_CANCEL q) (effTimedCancel q) s

/-! ### Device states (R263, R264) -/

/-- DEV_STATE_CMD written by a host. -/
def hostDev (p : Port) (v : Int) (s : State) : Host.Outcome State Fault Refusal :=
  done (s.writeWith p Reg.DEV_STATE_CMD (dataAt Reg.DEV_STATE_CMD v) .none fun _ v s => s.devCommand p v).1

def execGoRun (p : Port) (s : State) : Host.Outcome State Fault Refusal := hostDev p 2 s

def execGoService (p : Port) (s : State) : Host.Outcome State Fault Refusal := hostDev p 3 s

def execGoConfig (p : Port) (s : State) : Host.Outcome State Fault Refusal := hostDev p 1 s

def execLeaveSafe (p : Port) (s : State) : Host.Outcome State Fault Refusal := hostDev p 4 s

/-! ### Store and restore (R273 to R275) -/

def execDevStore (p : Port) (v : BitVec 32) (s : State) : Host.Outcome State Fault Refusal :=
  hostSet p Reg.DEV_STORE (Int.ofNat v.toNat) effStore s

/-- STORE_RUN: the granted store, with the number of copies across which CFG_GEN changed (R274). -/
def execStoreRun (genChanges : Fin 5) (readBackOk : Bool) (s : State) : Host.Outcome State Fault Refusal :=
  if s.alive && s.serviceOn && s.sched[mramDomain].running = some .store then
    done ((s.storeRun genChanges.val readBackOk).schedEnd mramDomain)
  else done s

/-- A restore written by a host (R275). -/
def hostRestore (p : Port) (k : Key) (stored : Bool) (v : BitVec 32) (s : State) : Host.Outcome State Fault Refusal :=
  done (s.writeWith p k (leBytes 4 v.toNat) .none fun _ v s => s.restore p stored v).1

def execRestoreDefaults (p : Port) (v : BitVec 32) (s : State) : Host.Outcome State Fault Refusal :=
  hostRestore p Reg.RESTORE_DEFAULTS false v s

def execRestoreStored (p : Port) (v : BitVec 32) (s : State) : Host.Outcome State Fault Refusal :=
  hostRestore p Reg.RESTORE_STORED true v s

end Sys2Proof.Machine
end

