-- ==== Sys2Proof/Machine/Pins.lean ====
section
/-!
DEFINITION. The balls: what each drives (R355), the boundary-scan register in the order of R357, and the data register that
a TAP instruction selects (R289, R334, R358).
-/

namespace Sys2Proof.Machine

/-- The digital signal balls that have boundary-scan cells (R357, R358). `ethOut` is TXC, TX_CTL, TXD0 to TXD3, `ethIn` RXC,
RX_CTL, RXD0 to RXD3, `hspIn` SCK, CS_N, MOSI; the lines of `inc` and `emu` are A, B, Z. -/
inductive Ball where
  | ethOut (k : Fin 2) (i : Fin 6)
  | ethIn (k : Fin 2) (i : Fin 6)
  | mdc (k : Fin 2)
  | mdio (k : Fin 2)
  | hspIn (h : Fin 2) (i : Fin 3)
  | miso (h : Fin 2)
  | rdy (h : Fin 2)
  | canTx (c : Fin 2)
  | canRx (c : Fin 2)
  | refin
  | inc (n : Fin 16) (line : Fin 3)
  | emu (n : Fin 16) (line : Fin 3)
  | psw (n : Fin 16)
  | sync (i : Fin 2)
  | clmOut
  | clmIn (q : Fin 2)
  | okay
  | okin (q : Fin 2)
  | seat (i : Fin 2)
  | clksel
  | rstN
  deriving DecidableEq, Repr

/-- The balls of an Ethernet port in the order of R357. -/
def ethBalls (k : Fin 2) : List Ball :=
  (List.finRange 6).map (.ethOut k) ++ (List.finRange 6).map (.ethIn k)

/-- The balls in the rows of R357 from A to AC, each row from column 1. -/
def balls : List Ball :=
  ethBalls 0 ++ [.mdc 0, .mdio 0] ++ ethBalls 1 ++ [.canRx 0, .canTx 1, .canRx 1, .refin, .mdc 1, .mdio 1] ++
  (List.finRange 3).map (.hspIn 1) ++ [.miso 1] ++ (List.finRange 3).map (.hspIn 0) ++ [.rdy 1] ++
  [.miso 0, .rdy 0, .canTx 0] ++
  all16.map (.inc · 0) ++ [.psw 0, .psw 1, .psw 2, .psw 3, .psw 4, .psw 5] ++
  all16.map (.inc · 1) ++ [.psw 6, .psw 7, .psw 8, .psw 9, .psw 10, .psw 11] ++
  all16.map (.inc · 2) ++ [.psw 12, .psw 13, .psw 14, .psw 15, .sync 0, .sync 1] ++
  all16.map (.emu · 0) ++ [.clmOut, .clmIn 0, .clmIn 1, .okay, .okin 0, .okin 1] ++
  all16.map (.emu · 1) ++ [.seat 0, .seat 1] ++ all16.map (.emu · 2) ++ [.clksel, .rstN]

/-- Input, output and output enable; CLM_OUT and OKAY have an input cell alone (R358). -/
def Ball.cells : Ball → Nat
  | .clmOut | .okay => 1
  | _ => 3

/-- The first cell of a ball. -/
def Ball.cell (b : Ball) : Nat := (balls.takeWhile (· ≠ b)).foldl (fun n x => n + x.cells) 0

/-- What a ball drives: `signal` is the wave of a protocol whose bits the model holds as frames. -/
inductive BallOut where
  | hiz | low | high | signal
  deriving DecidableEq, Repr

def Level.ball : Level → BallOut
  | .hiz => .hiz
  | .low => .low
  | .high => .high

def outBit (b : Bool) : BallOut := if b then .high else .low

/-- A ball as the units drive it, in reset and OFF as R355 says (R337, R355). -/
def State.ballCore (s : State) (b : Ball) : BallOut :=
  let run : Bool := !s.sup.reset && s.sup.power ≠ .off
  if !s.sup.vio then .hiz
  else
    match b with
    | .okay => outBit s.okay
    | .clmOut => outBit (run && s.red.clmOut)
    | .emu n 0 => s.emu[n].a.ball
    | .emu n 1 => s.emu[n].b.ball
    | .emu n 2 => s.emu[n].z.ball
    | .psw n => s.psw[n].level.ball
    | .rdy h => outBit (s.hspRdy h)
    | .miso _ => if run then .signal else .hiz
    | .ethOut .. | .mdc _ => if run then .signal else .low
    | .mdio _ => if run then .signal else .hiz
    | .canTx c => if run && (s.can[c].state = .active || s.can[c].state = .passive) then .signal else .high
    | .ethIn .. | .hspIn .. | .canRx _ | .refin | .inc .. | .sync _ | .clmIn _ | .okin _ | .seat _ | .clksel | .rstN => .hiz

/-- The TX pair of a ThaeLink port (R355). -/
def State.lnkTx (s : State) (_k : Fin 2) : BallOut := if s.alive then .signal else .hiz

/-- TDO outside Shift-DR and Shift-IR, where every command leaves the TAP (R355). -/
def State.tdo (_ : State) : BallOut := .hiz

/-! ### The TAP -/

/-- The data registers of the TAP. -/
inductive TapReg where
  | boundary | idcode | floor | dict | bypass
  deriving DecidableEq, Repr

/-- EXTEST is open: debug level FULL, in CONFIG or SAFE (R334). -/
def State.extestOpen (s : State) : Bool := s.sec.debug = 2 && (s.dev.state = .config || s.dev.state = .safe)

/-- The data register that the instruction selects; what the debug level closes, and every other code, is BYPASS
(R289, R334; log entry 58). -/
def State.tapReg (s : State) : TapReg :=
  if s.tap.ir = 0x00 then (if s.extestOpen then .boundary else .bypass)
  else if s.tap.ir = 0x01 then .idcode
  else if s.tap.ir = 0x02 then (if s.sec.debug ≠ 0 then .boundary else .bypass)
  else if s.tap.ir = 0x20 then .floor
  else if s.tap.ir = 0x21 then (if s.alive && s.sec.debug ≠ 0 then .dict else .bypass)
  else .bypass

/-- The Mitten rules the ball, ahead of the boundary cells (R334). -/
def State.mittenBall (s : State) (b : Ball) : Bool :=
  match b with
  | .emu n _ => s.emuScoped n || s.allSafe
  | .psw n => s.pswScoped n || s.allSafe
  | .okay | .clmOut => true
  | _ => false

/-- What a ball drives: the update latches under EXTEST, but where the Mitten rules, and else its unit (R334, R358). -/
def State.ball (s : State) (b : Ball) : BallOut :=
  if s.tap.ir = 0x00 && s.extestOpen && s.sup.vio && !s.mittenBall b then
    let i := b.cell
    if s.tap.latch.getD (i + 2) false then outBit (s.tap.latch.getD (i + 1) false) else .hiz
  else s.ballCore b

/-- The level at a ball, where the model holds it: an input line, or what the ball drives. -/
def State.ballIn (s : State) (b : Ball) : Option Bool :=
  match b with
  | .clmIn q => some s.pt[q].line
  | .okin q => some s.pt[q].okin
  | .inc n 0 => some s.tal[n].a.stage1
  | .inc n 1 => some s.tal[n].b.stage1
  | .inc n 2 => some s.tal[n].z.stage1
  | .seat i => some (s.sup.strap.getLsbD i)
  | .clksel => some s.sup.clksel
  | b => match s.ball b with | .low => some false | .high => some true | _ => none

/-- The cells of a ball at Capture-DR: its level, what its unit drives, and whether it does; a level that the model does not
hold is a free value. -/
def State.captureBall (s : State) (b : Ball) : List Bool :=
  let i := b.cell
  let level := (s.ballIn b).getD (Config.cellBit s.fresh i)
  let core := s.ballCore b
  let value := match core with | .low => false | .high => true | _ => Config.cellBit s.fresh (i + 1)
  if b.cells = 1 then [level] else [level, value, core ≠ .hiz]

/-- The boundary-scan register as captured, cell 0 first (R358). -/
def State.captured (s : State) : List Bool := balls.flatMap s.captureBall

/-- Bits shifted in, the first in bit 0 of byte 0. -/
def bitList (b : Bytes) : List Bool := b.flatMap fun x => (List.range 8).map x.getLsbD

end Sys2Proof.Machine
end

