-- ==== Sys2Proof/Machine/Ports.lean ====
section
/-!
DEFINITION. What arrives at the ports: HSP frames and FLOOR (R284 to R288), the TAP (R289, R334), dictionary datagrams
(R291 to R293) and SDO transfers (R295).
-/

namespace Sys2Proof.Machine

/-! ### HSP frames (R284 to R286) -/

/-- The port of an HSP side: HSP0, HSP1, DBG (R260). -/
def hspPort (h : Fin 3) : Port := if h = 2 then 6 else ⟨h.val, by omega⟩

/-- The code of a discarded frame (R285). -/
def hspErrNum : HspErr → Nat
  | .hdrCrc => 1 | .payloadCrc => 2 | .length => 3 | .opcode => 4 | .busy => 5 | .truncated => 6

/-- The counter of a discarded frame (R311). -/
def hspCounter (h : Nat) : HspErr → Key
  | .hdrCrc => Reg.HSP_HDR_CRC_CNT h
  | .payloadCrc => Reg.HSP_PAY_CRC_CNT h
  | _ => Reg.HSP_FRAME_ERR_CNT h

/-- MISO during a frame other than a POLL: FFh; DBG has no MISO (R286). -/
def State.quietMiso (s : State) (h : Fin 3) : State :=
  if s.alive && h ≠ 2 then s.modHsp h fun x => { x with sent := [0xFF#8] } else s

/-- A frame that is discarded: the next POLL returns ERROR; the counters and HSPh_FRAME belong to HSP0 and HSP1
(R286, R310). -/
def State.hspDiscard (s : State) (h : Fin 3) (e : HspErr) : State :=
  let s := (s.quietMiso h).modHsp h fun x => { x with error := some (hspErrNum e) }
  if h = 2 then s else (s.bump (hspCounter h.val e)).pulse (972 + h.val)

/-- An earlier request of the side is still executing (R286). -/
def State.hspBusy (s : State) (h : Fin 3) : Bool := s.hsp[h].executing.isSome || s.portBusy (hspPort h)

/-- A READ or WRITE that has come in complete (R286). -/
def State.hspRequest (s : State) (h : Fin 3) (tag : Byte) (k : Key) (data : Option Bytes) : State :=
  let s := s.quietMiso h
  if !s.alive || !s.portOpen (hspPort h) then s
  else if s.hspBusy h then s.hspDiscard h .busy
  else
    let s := s.modHsp h fun x => { x with executing := some tag, reply := none, error := none }
    s.perform (hspPort h) k data (.hsp h tag)

/-- The tag of a frame that answers no request: the manual states none (log entry 7). -/
def State.freeTag (s : State) : Byte := BitVec.ofNat 8 (Config.unstated s.fresh)

/-- What a POLL returns: ERROR, the reply, WAIT or IDLE (R285, R286). -/
def State.pollFrame (s : State) (h : Fin 3) : Bytes :=
  let x := s.hsp[h]
  match x.error, x.reply, x.executing with
  | some e, _, _ => hspFrame 0xA s.freeTag (leBytes 4 e)
  | none, some (tag, abort, data), _ => hspFrame 8 tag (leBytes 4 abort ++ data)
  | none, none, some tag => hspFrame 9 tag []
  | none, none, none => hspFrame 0xB s.freeTag []

/-- A POLL: the frame goes out, and what it has fetched is not sent again (R286). -/
def State.poll (s : State) (h : Fin 3) : State :=
  let f := s.pollFrame h
  let x := s.hsp[h]
  let s := s.draw
  s.modHsp h fun y =>
    if x.error.isSome then { y with error := none, sent := f } else { y with reply := none, sent := f }

/-- HSP_READ. -/
def execHspRead (h : Fin 2) (tag : Byte) (index : BitVec 16) (sub : Byte) (s : State) : Host.Outcome State Fault Refusal :=
  done (s.hspRequest ⟨h.val, by omega⟩ tag (keyOf index sub) none)

/-- HSP_WRITE. -/
def execHspWrite (h : Fin 2) (tag : Byte) (index : BitVec 16) (sub : Byte) (data : Bytes) (s : State) :
    Host.Outcome State Fault Refusal :=
  done (s.hspRequest ⟨h.val, by omega⟩ tag (keyOf index sub) (some data))

/-- HSP_POLL. -/
def execHspPoll (h : Fin 2) (s : State) : Host.Outcome State Fault Refusal :=
  if s.alive then done (s.poll ⟨h.val, by omega⟩) else done s

/-- HSP_FRAME_ERROR: a frame is BUSY only while a request executes. -/
def execHspFrameError (h : Fin 2) (code : HspErr) (s : State) : Host.Outcome State Fault Refusal :=
  if s.alive && (code ≠ .busy || s.hspBusy ⟨h.val, by omega⟩) then done (s.hspDiscard ⟨h.val, by omega⟩ code) else done s

/-- FLOOR: the floor logic shifts out the block of R219; request, reply and heartbeat stay (R288). -/
def execFloor (h : Fin 2) (s : State) : Host.Outcome State Fault Refusal :=
  let b := s.floorBytes
  if s.oscOn then done (s.modHsp ⟨h.val, by omega⟩ fun x => { x with sent := b }) else done s

/-! ### The TAP (R289, R334, R358) -/

/-- A frame as an HSP side takes it in (R284 to R286). -/
inductive HspIn where
  | bad (e : HspErr)
  | poll
  | floor
  | read (tag : Byte) (k : Key)
  | write (tag : Byte) (k : Key) (data : Bytes)
  deriving DecidableEq, Repr

/-- LEN suits OP (R285). -/
def hspLenOk (op len : Nat) : Bool :=
  if op = 0 ∨ op = 3 then len = 0 else if op = 1 then len = 4 else 4 ≤ len && len ≤ 1028

/-- A shifted frame taken apart: header, opcode, length, completeness, CRC-16. -/
def hspParse (f : Bytes) : HspIn :=
  let head := f.take 3
  let op := leNat (f.take 1) / 16
  let len := leNat (f.take 1) % 8 * 256 + leNat (sliceB 1 1 f)
  let tag := f.getD 2 0#8
  let body := sliceB 4 len f
  let k := leNat (sliceB 0 2 body) * 256 + leNat (sliceB 2 1 body)
  if f.length < 4 then .bad .truncated
  else if f.getD 3 0#8 ≠ crc8 head then .bad .hdrCrc
  else if 3 < op then .bad .opcode
  else if !hspLenOk op len then .bad .length
  else if f.length < (if len = 0 then 4 else 6 + len) then .bad .truncated
  else if len ≠ 0 && sliceB (4 + len) 2 f ≠ beBytes 2 (crc16 body).toNat then .bad .payloadCrc
  else if op = 0 then .poll
  else if op = 3 then .floor
  else if op = 1 then .read tag k
  else .write tag k (body.drop 4)

/-- One pass through DICT: at Capture-DR what a POLL would return is loaded, at Update-DR the bits shifted in are one
frame (R289). -/
def State.dictPass (s : State) (frame : Bytes) : State :=
  let s := s.poll 2
  let sent := s.hsp[(2 : Fin 3)].sent
  let s := s.modTap fun t => { t with dict := sent }
  match hspParse frame with
  | .bad e => s.hspDiscard 2 e
  | .poll => s
  | .floor => s
  | .read tag k => s.hspRequest 2 tag k none
  | .write tag k data => s.hspRequest 2 tag k (some data)

/-- FLOOR: at Capture-DR the floor logic loads the block of R219 (R289). -/
def State.floorPass (s : State) : State :=
  let b := s.floorBytes
  if s.oscOn then s.modTap fun t => { t with floor := b } else s

/-- One pass of the TAP under an instruction: its data register is captured, shifted and updated. IDCODE and BYPASS hold
nothing that a pass changes (R289, R358). -/
def State.tapPass (s : State) (ir : Byte) (bits : Bytes) : State :=
  let s := s.modTap fun t => { t with ir := ir }
  match s.tapReg with
  | .boundary =>
    let c := s.captured
    s.draw.modTap fun t => { t with cells := c, latch := bitList bits }
  | .dict => s.dictPass bits
  | .floor => s.floorPass
  | .idcode | .bypass => s

/-- DBG_FLOOR_CAPTURE, in every debug level. -/
def execDbgFloorCapture (s : State) : Host.Outcome State Fault Refusal :=
  if s.floorOn then done (s.tapPass 0x20 []) else done s

/-- DBG_DICT_UPDATE: the instruction register with DICT, or another instruction, and one pass with the bits shifted in,
the first in bit 0 of byte 0 (R289, R334; log entry 58). -/
def execDbgDictUpdate (pass : TapPass) (s : State) : Host.Outcome State Fault Refusal :=
  if s.floorOn then done (s.tapPass pass.ir pass.bits) else done s

/-! ### Dictionary datagrams (R291 to R293) -/

/-- VER, OP, LEN and CRC of a request suit it (R292). -/
def dgrOk (b : Bytes) : Bool :=
  let len := leNat (sliceB 8 2 b)
  let op := leNat (sliceB 1 1 b)
  14 ≤ b.length && leNat (sliceB 0 1 b) = 1 && (op = 1 || op = 2) && (op = 2 || len = 0) && len ≤ 1024 &&
  b.length = 14 + len && leNat (sliceB (10 + len) 4 b) = (crc32 (b.take (10 + len))).toNat

/-- The port of an Ethernet session. -/
def ethPort (k : Fin 2) : Port := Fin.ofNat 7 (k.val + 2)

/-- The source of the first valid datagram becomes the peer (R283, R291). -/
def State.learnPeer (s : State) (k : Fin 2) (src : BitVec 32 × BitVec 16) : State :=
  if (s.dgrPeer k).isSome then s
  else (s.modEth k fun x => { x with peer := some src, last := none }).modPort (ethPort k) fun x => { x with role := .observer }

/-- A datagram of the peer: executed, answered again, or discarded (R293). -/
def State.peerDatagram (s : State) (k : Fin 2) (mac : BitVec 48) (ip : BitVec 32) (udp : BitVec 16) (b : Bytes) : State :=
  let x := s.eth[k]
  if x.executing.isSome || s.portBusy (ethPort k) then s.bump (Reg.DGR_DROP_CNT k)
  else
    match x.last.filter fun l => sliceB 2 2 l.1 = sliceB 2 2 b with
    | some (req, reply) =>
      if req = b then s.ethSend k (.udp mac ip udp reply) else s.bump (Reg.DGR_DROP_CNT k)
    | none =>
      let key := leNat (sliceB 4 2 b) * 256 + leNat (sliceB 6 1 b)
      let data := if leNat (sliceB 1 1 b) = 2 then some (sliceB 10 (leNat (sliceB 8 2 b)) b) else none
      (s.modEth k fun x => { x with executing := some b }).perform (ethPort k) key data (.dgr k mac ip udp b)

/-- DICT_DATAGRAM, in a frame that the destination filter passes (R290, R292). -/
def execDictDatagram (k : Fin 2) (head : EthHead) (srcIp : BitVec 32) (srcUdp : BitVec 16) (payload : Bytes) (s : State) :
    Host.Outcome State Fault Refusal :=
  if !s.ethOn k then done s
  else if !s.ethTakes k head.dst.toNat then done (s.bump (Reg.ETH_RX_DROP_CNT k))
  else if s.reg (Reg.ETH_IP k) = 0 then done (s.bump (Reg.ETH_RX_CNT k))
  else if !dgrOk payload then done (s.bump (Reg.ETH_RX_ERR_CNT k))
  else
    let s := (s.bump (Reg.ETH_RX_CNT k)).learnPeer k (srcIp, srcUdp)
    if s.dgrPeer k = some (srcIp, srcUdp) then done (s.peerDatagram k head.src srcIp srcUdp payload)
    else done (s.bump (Reg.DGR_FOREIGN_CNT k))

/-! ### SDO transfers (R295) -/

/-- The port of a CAN session. -/
def canPort (c : Fin 2) : Port := Fin.ofNat 7 (c.val + 4)

/-- The port serves SDO: it is on the bus and has a node-ID (R295, R311). -/
def State.sdoOn (s : State) (c : Fin 2) : Bool :=
  s.alive && s.portOpen (canPort c) && s.can[c].state ≠ .off && s.can[c].state ≠ .busOff

/-- An abort of the SDO transport: no access of the dictionary, but counted (R295, R311). -/
def State.sdoStop (s : State) (c : Fin 2) (k : Key) (code : Nat) : State :=
  ((s.modCan c fun x => { x with sdo := .idle }).bump (Reg.CAN_SDO_ABORT_CNT c)).canSend c (sdoAbort k code)

/-- The access that an SDO transfer makes. -/
def State.sdoAccess (s : State) (c : Fin 2) (k : Key) (data : Option Bytes) (seg : Option Bool) : State :=
  (s.modCan c fun x => { x with sdo := .idle, executing := true }).perform (canPort c) k data (.sdo c k seg)

/-- Initiate download: expedited, or the start of a segmented transfer. Without a size indicated, an expedited one carries
the object's length, up to four bytes (R295). -/
def State.sdoDownload (s : State) (c : Fin 2) (cmd : Nat) (k : Key) (d : Bytes) : State :=
  if bitN cmd 1 then
    let n := if bitN cmd 0 then 4 - cmd / 4 % 4 else min 4 (match findObj k with | some o => o.ty.len | none => 4)
    s.sdoAccess c k (some (d.take n)) none
  else (s.modCan c fun x => { x with sdo := .download k [] false }).canSend c (sdoFrame 0x60 k [])

/-- A download segment: seven bytes less those unused; the last one makes the write (R295). -/
def State.sdoPut (s : State) (c : Fin 2) (cmd : Nat) (d : Bytes) : State :=
  match s.can[c].sdo with
  | .download k got t =>
    if bitN cmd 4 ≠ t then s.sdoStop c k 0x05030000
    else
      let got := got ++ d.take (7 - cmd / 2 % 8)
      if bitN cmd 0 then s.sdoAccess c k (some got) (some t)
      else (s.modCan c fun x => { x with sdo := .download k got (!t) }).canSend c (leBytes 1 (0x20 + b2n t * 16) ++ leBytes 7 0)
  | .upload k _ _ => s.sdoStop c k 0x05040001
  | .idle => s.sdoStop c 0 0x05040001

/-- An upload segment (R295). -/
def State.sdoGet (s : State) (c : Fin 2) (cmd : Nat) : State :=
  match s.can[c].sdo with
  | .upload k rest t =>
    if bitN cmd 4 ≠ t then s.sdoStop c k 0x05030000
    else
      let last : Bool := rest.length ≤ 7
      let b := b2n t * 16 + (7 - min 7 rest.length) * 2 + b2n last
      (s.modCan c fun x => { x with sdo := if last then .idle else .upload k (rest.drop 7) (!t) }).canSend c
        (leBytes 1 b ++ padTo 7 (rest.take 7))
  | .download k _ _ => s.sdoStop c k 0x05040001
  | .idle => s.sdoStop c 0 0x05040001

/-- A classical frame of 8 bytes on the port's request identifier, by its command specifier (R295). -/
def State.sdoServe (s : State) (c : Fin 2) (f : Bytes) : State :=
  let cmd := leNat (f.take 1)
  let k := leNat (sliceB 1 2 f) * 256 + leNat (sliceB 3 1 f)
  match cmd / 32 with
  | 0 => s.sdoPut c cmd (f.drop 1)
  | 1 => s.sdoDownload c cmd k (f.drop 4)
  | 2 => s.sdoAccess c k none none
  | 3 => s.sdoGet c cmd
  | 4 => s.modCan c fun x => { x with sdo := .idle }
  | _ => s.sdoStop c k 0x05040001

/-- SDO_REQUEST. -/
def execSdoRequest (c : Fin 2) (frame : Bytes) (s : State) : Host.Outcome State Fault Refusal :=
  if !s.sdoOn c || frame.length ≠ 8 || s.can[c].executing || s.portBusy (canPort c) then done s
  else done (s.sdoServe c frame)

/-- SDO_SEGMENT_TIMEOUT. -/
def execSdoSegmentTimeout (c : Fin 2) (s : State) : Host.Outcome State Fault Refusal :=
  if !s.sdoOn c then done s
  else
    match s.can[c].sdo with
    | .idle => done s
    | .download k _ _ => done (s.sdoStop c k 0x05040000)
    | .upload k _ _ => done (s.sdoStop c k 0x05040000)

end Sys2Proof.Machine
end

