-- ==== Sys2Proof/Machine/Dispatch.lean ====
section
/-!
DEFINITION. The effect of a command on everything but the queue: one arm per row of the table, each a direct call of its
meaning.
-/

namespace Sys2Proof.Machine

open Sys2Proof

/-- The command's effect on the state. -/
def exec (i : Instr) (s : State) : Host.Outcome State Fault Refusal :=
  match i with
  | .sampleProcess ch xs xc => Sys2Proof.Machine.execSampleProcess ch xs xc s
  | .senseEstimate e x => Sys2Proof.Machine.execSenseEstimate e x s
  | .zeroCrossing e half => Sys2Proof.Machine.execZeroCrossing e half s
  | .foldbackChange e vexcMv => Sys2Proof.Machine.execFoldbackChange e vexcMv s
  | .excOcShutdown e => Sys2Proof.Machine.execExcOcShutdown e s
  | .excRestart p e => Sys2Proof.Machine.execExcRestart p e s
  | .excEnableWrite p e v => Sys2Proof.Machine.execExcEnableWrite p e v s
  | .excModeWrite p e v => Sys2Proof.Machine.execExcModeWrite p e v s
  | .excFreqWrite p e v => Sys2Proof.Machine.execExcFreqWrite p e v s
  | .excAmplWrite p e v => Sys2Proof.Machine.execExcAmplWrite p e v s
  | .chExcSelWrite p ch v => Sys2Proof.Machine.execChExcSelWrite p ch v s
  | .staticTrimWrite p ch o v => Sys2Proof.Machine.execStaticTrimWrite p ch o v s
  | .trimBoundaryApply ch => Sys2Proof.Machine.execTrimBoundaryApply ch s
  | .hatbandTrip ch pin above => Sys2Proof.Machine.execHatbandTrip ch pin above s
  | .hatbandRelease ch pin above => Sys2Proof.Machine.execHatbandRelease ch pin above s
  | .glvOverload g => Sys2Proof.Machine.execGlvOverload g s
  | .glvModeWrite p g v => Sys2Proof.Machine.execGlvModeWrite p g v s
  | .probePeriodDue ch => Sys2Proof.Machine.execProbePeriodDue ch s
  | .chProbeStart p ch => Sys2Proof.Machine.execChProbeStart p ch s
  | .probeRun ch => Sys2Proof.Machine.execProbeRun ch s
  | .probeComplete ch stepS baseS toneS stepC baseC toneC => Sys2Proof.Machine.execProbeComplete ch stepS baseS toneS stepC baseC toneC s
  | .chRrefLearn p ch => Sys2Proof.Machine.execChRrefLearn p ch s
  | .betaMeasRefresh ch => Sys2Proof.Machine.execBetaMeasRefresh ch s
  | .chBetaLearn p ch => Sys2Proof.Machine.execChBetaLearn p ch s
  | .chDesign p ch bankB => Sys2Proof.Machine.execChDesign p ch bankB s
  | .bankCoeffWrite p ch o v => Sys2Proof.Machine.execBankCoeffWrite p ch o v s
  | .chBankSwap p ch => Sys2Proof.Machine.execChBankSwap p ch s
  | .chBankSelWrite p ch v => Sys2Proof.Machine.execChBankSelWrite p ch v s
  | .chBankSwapAt p ch t => Sys2Proof.Machine.execChBankSwapAt p ch t s
  | .chBankSwapCancel p ch => Sys2Proof.Machine.execChBankSwapCancel p ch s
  | .timedSwapDue ch => Sys2Proof.Machine.execTimedSwapDue ch s
  | .bankSwapApply ch => Sys2Proof.Machine.execBankSwapApply ch s
  | .chInjStart p ch => Sys2Proof.Machine.execChInjStart p ch s
  | .injTestBegin ch => Sys2Proof.Machine.execInjTestBegin ch s
  | .chInjStop p ch => Sys2Proof.Machine.execChInjStop p ch s
  | .injDurationEnd ch => Sys2Proof.Machine.execInjDurationEnd ch s
  | .capArm p => Sys2Proof.Machine.execCapArm p s
  | .capStop p => Sys2Proof.Machine.execCapStop p s
  | .chEnableWrite p ch v => Sys2Proof.Machine.execChEnableWrite p ch v s
  | .settleSeed ch => Sys2Proof.Machine.execSettleSeed ch s
  | .warmSettleResume ch => Sys2Proof.Machine.execWarmSettleResume ch s
  | .settleComplete ch => Sys2Proof.Machine.execSettleComplete ch s
  | .chSettleTmo ch => Sys2Proof.Machine.execChSettleTmo ch s
  | .coastExit ch => Sys2Proof.Machine.execCoastExit ch s
  | .chCoastExpired ch => Sys2Proof.Machine.execChCoastExpired ch s
  | .autoRecover ch => Sys2Proof.Machine.execAutoRecover ch s
  | .chRecover p ch => Sys2Proof.Machine.execChRecover p ch s
  | .chHome p ch => Sys2Proof.Machine.execChHome p ch s
  | .calStart p ch => Sys2Proof.Machine.execCalStart p ch s
  | .calCancel p ch => Sys2Proof.Machine.execCalCancel p ch s
  | .calTriggerEval ch => Sys2Proof.Machine.execCalTriggerEval ch s
  | .calGrant ch => Sys2Proof.Machine.execCalGrant ch s
  | .calWindowOpen ch => Sys2Proof.Machine.execCalWindowOpen ch s
  | .calWindowClose ch => Sys2Proof.Machine.execCalWindowClose ch s
  | .calWindowTimeout ch => Sys2Proof.Machine.execCalWindowTimeout ch s
  | .calResume ch => Sys2Proof.Machine.execCalResume ch s
  | .calTimeout ch => Sys2Proof.Machine.execCalTimeout ch s
  | .calEvaluate ch => Sys2Proof.Machine.execCalEvaluate ch s
  | .rowApply ch => Sys2Proof.Machine.execRowApply ch s
  | .rowCopyComplete ch => Sys2Proof.Machine.execRowCopyComplete ch s
  | .beadCommit failedAttempts => Sys2Proof.Machine.execBeadCommit failedAttempts s
  | .btCommitNow p => Sys2Proof.Machine.execBtCommitNow p s
  | .beadScrub corrected uncorrectable => Sys2Proof.Machine.execBeadScrub corrected uncorrectable s
  | .btRowLoad p => Sys2Proof.Machine.execBtRowLoad p s
  | .btRowClear p => Sys2Proof.Machine.execBtRowClear p s
  | .setClear p ch set => Sys2Proof.Machine.execSetClear p ch set s
  | .syncEdge pin rising => Sys2Proof.Machine.execSyncEdge pin rising s
  | .snapTimeLatch => Sys2Proof.Machine.execSnapTimeLatch s
  | .snapArm p src => Sys2Proof.Machine.execSnapArm p src s
  | .snapConfigWrite p src o v => Sys2Proof.Machine.execSnapConfigWrite p src o v s
  | .pfEnableWrite p f v => Sys2Proof.Machine.execPfEnableWrite p f v s
  | .positionFrameLaunch f => Sys2Proof.Machine.execPositionFrameLaunch f s
  | .emuEnableWrite p n v => Sys2Proof.Machine.execEmuEnableWrite p n v s
  | .emuFirstValid n => Sys2Proof.Machine.execEmuFirstValid n s
  | .emuSrcWrite p n kind v => Sys2Proof.Machine.execEmuSrcWrite p n kind v s
  | .emuTallyRelease n => Sys2Proof.Machine.execEmuTallyRelease n s
  | .emuSafeExit n => Sys2Proof.Machine.execEmuSafeExit n s
  | .pswEnableWrite p n v => Sys2Proof.Machine.execPswEnableWrite p n v s
  | .pswSrcWrite p n v => Sys2Proof.Machine.execPswSrcWrite p n v s
  | .talSample n a b z => Sys2Proof.Machine.execTalSample n a b z s
  | .talEnableWrite p n v => Sys2Proof.Machine.execTalEnableWrite p n v s
  | .talLimitsWrite p n lo hi => Sys2Proof.Machine.execTalLimitsWrite p n lo hi s
  | .talPreset p n => Sys2Proof.Machine.execTalPreset p n s
  | .talIdxPresetArm p n => Sys2Proof.Machine.execTalIdxPresetArm p n s
  | .talResume p n => Sys2Proof.Machine.execTalResume p n s
  | .talSpeedTimeout n => Sys2Proof.Machine.execTalSpeedTimeout n s
  | .faultRaise id => Sys2Proof.Machine.execFaultRaise id s
  | .faultConditionGone id => Sys2Proof.Machine.execFaultConditionGone id s
  | .railError id => Sys2Proof.Machine.execRailError id s
  | .fltClear p id => Sys2Proof.Machine.execFltClear p id s
  | .fcClearAll p => Sys2Proof.Machine.execFcClearAll p s
  | .faultAutoClear id => Sys2Proof.Machine.execFaultAutoClear id s
  | .fltConfigWrite p id o v => Sys2Proof.Machine.execFltConfigWrite p id o v s
  | .fltForce p id v => Sys2Proof.Machine.execFltForce p id v s
  | .fltCntReset p id => Sys2Proof.Machine.execFltCntReset p id s
  | .fcReinit p => Sys2Proof.Machine.execFcReinit p s
  | .fcFloorRearm p => Sys2Proof.Machine.execFcFloorRearm p s
  | .fcSelftest pass => Sys2Proof.Machine.execFcSelftest pass s
  | .mgmtWdog => Sys2Proof.Machine.execMgmtWdog s
  | .mgmtLockstep => Sys2Proof.Machine.execMgmtLockstep s
  | .mgmtRestart r => Sys2Proof.Machine.execMgmtRestart r s
  | .mgmtRestartDone => Sys2Proof.Machine.execMgmtRestartDone s
  | .redModeWrite p v => Sys2Proof.Machine.execRedModeWrite p v s
  | .lnkUp k => Sys2Proof.Machine.execLnkUp k s
  | .lnkDown k => Sys2Proof.Machine.execLnkDown k s
  | .recordLatchSend => Sys2Proof.Machine.execRecordLatchSend s
  | .lineTestPulse => Sys2Proof.Machine.execLineTestPulse s
  | .recordReceive k bytes => Sys2Proof.Machine.execRecordReceive k bytes s
  | .partnerLost q => Sys2Proof.Machine.execPartnerLost q s
  | .releaseReceive k seat => Sys2Proof.Machine.execReleaseReceive k seat s
  | .clmInHigh q => Sys2Proof.Machine.execClmInHigh q s
  | .partnerClaimed q => Sys2Proof.Machine.execPartnerClaimed q s
  | .clmInFall q => Sys2Proof.Machine.execClmInFall q s
  | .okinChange q level => Sys2Proof.Machine.execOkinChange q level s
  | .claimAttemptStart => Sys2Proof.Machine.execClaimAttemptStart s
  | .guardComplete => Sys2Proof.Machine.execGuardComplete s
  | .arbitrateWindowEnd => Sys2Proof.Machine.execArbitrateWindowEnd s
  | .claimAssert => Sys2Proof.Machine.execClaimAssert s
  | .backoffEnd => Sys2Proof.Machine.execBackoffEnd s
  | .claimRelease => Sys2Proof.Machine.execClaimRelease s
  | .redClaim p => Sys2Proof.Machine.execRedClaim p s
  | .redRelease p => Sys2Proof.Machine.execRedRelease p s
  | .redNoActive => Sys2Proof.Machine.execRedNoActive s
  | .handoverDrop q => Sys2Proof.Machine.execHandoverDrop q s
  | .redCycleWrite p first v => Sys2Proof.Machine.execRedCycleWrite p first v s
  | .registerWrite p index sub data => Sys2Proof.Machine.execRegisterWrite p index sub data s
  | .rwfWrite p index sub data => Sys2Proof.Machine.execRwfWrite p index sub data s
  | .diagCountWrite p v => Sys2Proof.Machine.execDiagCountWrite p v s
  | .fenceLocal p v => Sys2Proof.Machine.execFenceLocal p v s
  | .fenceGlobal p v => Sys2Proof.Machine.execFenceGlobal p v s
  | .fenceAt p v => Sys2Proof.Machine.execFenceAt p v s
  | .groupVisible p => Sys2Proof.Machine.execGroupVisible p s
  | .timedGroupDue => Sys2Proof.Machine.execTimedGroupDue s
  | .portHeartbeat p q => Sys2Proof.Machine.execPortHeartbeat p q s
  | .heartbeatExpiry q => Sys2Proof.Machine.execHeartbeatExpiry q s
  | .grpDiscard p q => Sys2Proof.Machine.execGrpDiscard p q s
  | .grpTimedCancel p q => Sys2Proof.Machine.execGrpTimedCancel p q s
  | .goRun p => Sys2Proof.Machine.execGoRun p s
  | .goService p => Sys2Proof.Machine.execGoService p s
  | .goConfig p => Sys2Proof.Machine.execGoConfig p s
  | .leaveSafe p => Sys2Proof.Machine.execLeaveSafe p s
  | .bootComplete => Sys2Proof.Machine.execBootComplete s
  | .devStore p v => Sys2Proof.Machine.execDevStore p v s
  | .storeRun genChanges readBackOk => Sys2Proof.Machine.execStoreRun genChanges readBackOk s
  | .restoreDefaults p v => Sys2Proof.Machine.execRestoreDefaults p v s
  | .restoreStored p v => Sys2Proof.Machine.execRestoreStored p v s
  | .hspRead h tag index sub => Sys2Proof.Machine.execHspRead h tag index sub s
  | .hspWrite h tag index sub data => Sys2Proof.Machine.execHspWrite h tag index sub data s
  | .hspPoll h => Sys2Proof.Machine.execHspPoll h s
  | .hspFrameError h code => Sys2Proof.Machine.execHspFrameError h code s
  | .floor h => Sys2Proof.Machine.execFloor h s
  | .dbgFloorCapture => Sys2Proof.Machine.execDbgFloorCapture s
  | .dbgDictUpdate pass => Sys2Proof.Machine.execDbgDictUpdate pass s
  | .dictDatagram k head srcIp srcUdp payload => Sys2Proof.Machine.execDictDatagram k head srcIp srcUdp payload s
  | .arpRequest k targetIp head srcIp => Sys2Proof.Machine.execArpRequest k targetIp head srcIp s
  | .icmpEcho k dstIp head srcIp body => Sys2Proof.Machine.execIcmpEcho k dstIp head srcIp body s
  | .ptpFrameReceive k dst src rest => Sys2Proof.Machine.execPtpFrameReceive k dst src rest s
  | .ethFrameDiscard drop => Sys2Proof.Machine.execEthFrameDiscard drop s
  | .sdoRequest c frame => Sys2Proof.Machine.execSdoRequest c frame s
  | .sdoSegmentTimeout c => Sys2Proof.Machine.execSdoSegmentTimeout c s
  | .canRecover p c => Sys2Proof.Machine.execCanRecover p c s
  | .canBusoffRecovered c => Sys2Proof.Machine.execCanBusoffRecovered c s
  | .tqStageData p q data => Sys2Proof.Machine.execTqStageData p q data s
  | .tqPush p q desc => Sys2Proof.Machine.execTqPush p q desc s
  | .tqFlush p q => Sys2Proof.Machine.execTqFlush p q s
  | .tqFrameLaunch offer => Sys2Proof.Machine.execTqFrameLaunch offer s
  | .tqFrameComplete q tec rec => Sys2Proof.Machine.execTqFrameComplete q tec rec s
  | .rxrRelease p k v => Sys2Proof.Machine.execRxrRelease p k v s
  | .timeIncWrite p v => Sys2Proof.Machine.execTimeIncWrite p v s
  | .timeStep p v => Sys2Proof.Machine.execTimeStep p v s
  | .timeSlewWrite p v => Sys2Proof.Machine.execTimeSlewWrite p v s
  | .timeSlewDone => Sys2Proof.Machine.execTimeSlewDone s
  | .timeWrap => Sys2Proof.Machine.execTimeWrap s
  | .timeRef80Write p v => Sys2Proof.Machine.execTimeRef80Write p v s
  | .nrefRefresh => Sys2Proof.Machine.execNrefRefresh s
  | .sensorRefresh die railMv pllLock floorDev => Sys2Proof.Machine.execSensorRefresh die railMv pllLock floorDev s
  | .schedRequest d a commanded => Sys2Proof.Machine.execSchedRequest d a commanded s
  | .schedActivityEnd d => Sys2Proof.Machine.execSchedActivityEnd d s
  | .schedOverrun => Sys2Proof.Machine.execSchedOverrun s
  | .logAppend => Sys2Proof.Machine.execLogAppend s
  | .logCompact p => Sys2Proof.Machine.execLogCompact p s
  | .logCompactionDue => Sys2Proof.Machine.execLogCompactionDue s
  | .updBegin p v => Sys2Proof.Machine.execUpdBegin p v s
  | .updData p data => Sys2Proof.Machine.execUpdData p data s
  | .updVerify p => Sys2Proof.Machine.execUpdVerify p s
  | .updActivate p => Sys2Proof.Machine.execUpdActivate p s
  | .updQuietPoint => Sys2Proof.Machine.execUpdQuietPoint s
  | .updQuietTimeout => Sys2Proof.Machine.execUpdQuietTimeout s
  | .updConfirm p burnOk => Sys2Proof.Machine.execUpdConfirm p burnOk s
  | .updTrialTimeout burnOk => Sys2Proof.Machine.execUpdTrialTimeout burnOk s
  | .updAbort p => Sys2Proof.Machine.execUpdAbort p s
  | .lcAdvance p v => Sys2Proof.Machine.execLcAdvance p v s
  | .authChallenge p q => Sys2Proof.Machine.execAuthChallenge p q s
  | .authResponse p q data => Sys2Proof.Machine.execAuthResponse p q data s
  | .authLogout p q => Sys2Proof.Machine.execAuthLogout p q s
  | .authLockExpiry q => Sys2Proof.Machine.execAuthLockExpiry q s
  | .keyWrite p integrator data => Sys2Proof.Machine.execKeyWrite p integrator data s
  | .dbgLevelWrite p v => Sys2Proof.Machine.execDbgLevelWrite p v s
  | .pwrRun p => Sys2Proof.Machine.execPwrRun p s
  | .pwrQuiet p => Sys2Proof.Machine.execPwrQuiet p s
  | .pwrSafeHold c => Sys2Proof.Machine.execPwrSafeHold c s
  | .pwrOff p v => Sys2Proof.Machine.execPwrOff p v s
  | .vioPor => Sys2Proof.Machine.execVioPor s
  | .deviceReset c => Sys2Proof.Machine.execDeviceReset c s
  | .resetRelease strap clksel floorTestOk => Sys2Proof.Machine.execResetRelease strap clksel floorTestOk s
  | .pllLock => Sys2Proof.Machine.execPllLock s
  | .analogueHold => Sys2Proof.Machine.execAnalogueHold s
  | .exciterHold => Sys2Proof.Machine.execExciterHold s
  | .tapReset => Sys2Proof.Machine.execTapReset s
  | .analogueRestart => Sys2Proof.Machine.execAnalogueRestart s
  | .exciterHoldRelease => Sys2Proof.Machine.execExciterHoldRelease s
  | .vioPorRelease => Sys2Proof.Machine.execVioPorRelease s
  | .dictServiceReady => Sys2Proof.Machine.execDictServiceReady s
  | .copperTempValidityLoss ch => Sys2Proof.Machine.execCopperTempValidityLoss ch s
  | .ethLinkChange k speed => Sys2Proof.Machine.execEthLinkChange k speed s
  | .canBusError c tec rec => Sys2Proof.Machine.execCanBusError c tec rec s
  | .runControlHalt => Sys2Proof.Machine.execRunControlHalt s
  | .runControlResume => Sys2Proof.Machine.execRunControlResume s

end Sys2Proof.Machine
end

