-- ==== Sys2Proof/Safety.lean ====
section
/-!
DEFINITION. The terms in which claims about the block are stated: an accepted access, what a raised source may change
and what it leaves alone, and the invariants of the state.
-/

namespace Sys2Proof.Machine

/-! ### An accepted access -/

/-- A write of `data` to `k` by port `p` reaches the dictionary now and passes steps 1 to 6 of R261; the data spell `v`.
The access restarts the port's heartbeat first (R271). -/
def State.Admits (s : State) (p : Port) (k : Key) (data : Bytes) (v : Int) : Prop :=
  s.gate p = .ready ∧ ∃ o, (s.beat p).writeChecks p k data = .ok (o, v)

/-- A write that the dictionary refuses at one of the steps 1 to 6 of R261, for the reason `n`. -/
def State.Rejects (s : State) (p : Port) (k : Key) (data : Bytes) (n : Nak) : Prop :=
  s.gate p = .ready ∧ (s.beat p).writeChecks p k data = .error n

/-- A command object written with 1 is admitted (R258). -/
abbrev State.AdmitsCmd (s : State) (p : Port) (k : Key) : Prop := s.Admits p k [1#8] 1

/-- A read of `k` by port `p` reaches the dictionary now. -/
def State.Readable (s : State) (p : Port) (k : Key) : Prop := s.gate p = .ready ∧ ∃ o, State.readChecks p k = .ok o

/-- No DEVICE-SAFE entry is being asked for, as it is between two commands (R207); and an overflow of the log queue would
ask for none, because the device is in its safe entry or LOG_QUEUE_OVF has a milder reaction (R218, R339). -/
def State.Calm (s : State) : Prop :=
  s.floor.request = false ∧ (s.inSafe = true ∨ ((s.fltNow 1029).2.1 ≠ 3 ∧ (s.fltVisible 1029).2.1 ≠ 3))

/-- The reaction in effect of a source is no DEVICE-SAFE. -/
def State.Mild (s : State) (id : Nat) : Prop := (s.fltNow id).2.1 ≠ 3

/-- `t` is what a refused access of port `p` to `k` leaves of `s`: the restarted heartbeat, one more refusal counted, and
its diagnostic record in front of the older ones (R266). -/
def State.RefusedAs (s t : State) (p : Port) (k : Key) (n : Nak) : Prop :=
  t.reg Reg.DEV_REFUSE_CNT = satInc 32 (s.reg Reg.DEV_REFUSE_CNT) ∧
  (∀ j, j ≠ Reg.DEV_REFUSE_CNT → t.reg j = s.reg j) ∧
  t.dev.diag = (⟨n, p, s.dev.state, k, s.roleOf p, s.timeNow⟩ :: s.dev.diag).take 16 ∧
  t = { s.beat p with regs := t.regs, dev := { s.dev with diag := t.dev.diag } }

/-- `t` holds `v` at `k`, CFG_GEN has moved on by one, and every other register is as in `s` (R258, R270). -/
def State.Visible (s t : State) (k : Key) (v : Int) : Prop :=
  t.reg k = v ∧ t.reg Reg.CFG_GEN = (s.reg Reg.CFG_GEN + 1) % 2 ^ 32 ∧
  ∀ j, j ≠ k → j ≠ Reg.CFG_GEN → t.reg j = s.reg j

/-- The registers of `s` and `t` agree but for the listed ones. -/
def State.SameRegs (s t : State) (ks : List Key) : Prop := ∀ j, j ∉ ks → t.reg j = s.reg j

/-- `s` and `t` agree but for the object `k`, which holds `v` in `t`. -/
def State.OneReg (s t : State) (k : Key) (v : Int) : Prop := t.reg k = v ∧ s.SameRegs t [k]

/-- The object `k` holds `v` and has no further effect when it becomes visible to port `p`'s write. -/
def plainAt (p : Port) (k : Key) (v : Int) : Prop := ∀ (s : State) (old : Int), s.onVisible p k old v = s

/-- Entries of distinct objects without a further effect (R267). -/
def plainEntries (p : Port) (es : List Entry) : Prop :=
  (es.map fun e => e.1).Nodup ∧ ∀ e ∈ es, e.1 ≠ Reg.CFG_GEN ∧ plainAt p e.1 e.2

/-- `t` holds the entries `es`, CFG_GEN has moved on by one, and every other register is as in `s` (R270). -/
def State.Shows (s t : State) (es : List Entry) : Prop :=
  (∀ e ∈ es, t.reg e.1 = e.2) ∧ t.reg Reg.CFG_GEN = (s.reg Reg.CFG_GEN + 1) % 2 ^ 32 ∧
  ∀ j, j ≠ Reg.CFG_GEN → (∀ e ∈ es, j ≠ e.1) → t.reg j = s.reg j

/-- The group that a fence of port `p` seals (R268). -/
def State.fenceGroup (s : State) (p : Port) (kind : FenceKind) (v : Nat) : Group :=
  { port := p, tag := BitVec.ofNat 16 (v / 2 ^ 16 % 2 ^ 16), entries := s.port[p].group, due := BitVec.ofNat 32 (v / 2 ^ 32)
    all := kind = .glob, no := s.port[p].fences + 1 }

/-- The port after a fence that was accepted, with the result that its group has now (R268, R271). -/
def sealedPort (x : PortSt) (g : Group) (r : Option Nat) : PortSt :=
  { x with group := [], lastTag := g.tag, fences := g.no, lastResult := r.getD x.lastResult, tagResult := r.getD x.tagResult }

/-- What an admitted fence of port `p` with the value `v` leaves of `s` (R268): refused with the group open and unchanged;
timed; visible at once; or sealed until the operations before it have taken effect. -/
def State.Fenced (s t : State) (p : Port) (kind : FenceKind) (v : Nat) : Prop :=
  (∀ n k, (s.beat p).fenceFault p kind (v % 2 ^ 16) = some (n, k) →
    t = { s.beat p with regs := t.regs, port := t.port, dev := t.dev } ∧ (∀ q, q ≠ p → t.port[q] = s.port[q]) ∧
    t.port[p] = { (s.beat p).port[p] with lastResult := 3, failObj := k.getD s.port[p].failObj } ∧
    s.OneReg t Reg.DEV_REFUSE_CNT (satInc 32 (s.reg Reg.DEV_REFUSE_CNT))) ∧
  ((s.beat p).fenceFault p kind (v % 2 ^ 16) = none →
    (kind = .at_ →
      t = { s.beat p with port := t.port, grp := { s.grp with timed := s.grp.timed ++ [s.fenceGroup p kind v] } } ∧
      t.port[p] = sealedPort (s.beat p).port[p] (s.fenceGroup p kind v) (some 2) ∧ ∀ q, q ≠ p → t.port[q] = s.port[q]) ∧
    (kind ≠ .at_ → s.groupReady (s.fenceGroup p kind v) = false →
      t = { s.beat p with port := t.port, grp := { s.grp with sealed := s.grp.sealed ++ [(s.fenceGroup p kind v, .none)] } } ∧
      t.port[p] = sealedPort (s.beat p).port[p] (s.fenceGroup p kind v) none ∧ ∀ q, q ≠ p → t.port[q] = s.port[q]) ∧
    (kind ≠ .at_ → s.groupReady (s.fenceGroup p kind v) = true → t.port[p].lastResult = 1) ∧
    (kind ≠ .at_ → s.groupReady (s.fenceGroup p kind v) = true → plainEntries p s.port[p].group →
      s.Shows t s.port[p].group ∧ t = { s.beat p with regs := t.regs, port := t.port } ∧
      t.port[p] = sealedPort (s.beat p).port[p] (s.fenceGroup p kind v) (some 1) ∧ ∀ q, q ≠ p → t.port[q] = s.port[q]))

/-- A probe of channel `n` has been asked for at an idle domain: deferred, or granted and waiting for its run (R68). -/
def State.ProbeAsked (s t : State) (n : ChId) : Prop :=
  (∀ m, m ≠ n → t.front[m] = s.front[m]) ∧ (∀ d, d ≠ chDomain n → t.sched[d] = s.sched[d]) ∧
  ((s.ch[n].state ≠ .track ∧ s.ch[n].state ≠ .off) →
    t.front[n].probe = .deferredState ∧ t.sched = s.sched) ∧
  ((s.ch[n].state = .track ∨ s.ch[n].state = .off) →
    (s.probeFreqBad n = true → t.front[n].probe = .deferredFreq ∧ t.sched = s.sched) ∧
    (s.probeFreqBad n = false → t.front[n].probe = .pending ∧ t.sched[chDomain n].running = some .probe))

/-- Channel `n` has entered a state in which no probe may run: a probe of its that waited or ran is DEFERRED and has left
its domain (R68). -/
def State.ProbeLeft (s t : State) (n : ChId) : Prop :=
  (s.front[n].probe ≠ .pending → s.front[n].probe ≠ .running → t.front[n].probe = s.front[n].probe ∧ t.sched = s.sched) ∧
  (s.front[n].probe = .pending ∨ s.front[n].probe = .running →
    t.front[n].probe = .deferredState ∧ t.sched[chDomain n].running ≠ some .probe) ∧
  ∀ d, d ≠ chDomain n → t.sched[d] = s.sched[d]

/-! ### Power states (R336) -/

/-- What leaving RUN for QUIET or SAFE-HOLD does to the channels and exciters: every channel OFF with CH_ENABLE kept, no
probe, a driving exciter in its falling ramp, the Glove drivers high-impedance. -/
def State.Parked (s t : State) : Prop :=
  (∀ n : ChId, t.ch[n].state = .off ∧ t.front[n].probe = .idle ∧ t.reg (Reg.CH_ENABLE n) = s.reg (Reg.CH_ENABLE n)) ∧
  (∀ e : ExcId,
    (s.exc[e].state = .run → t.exc[e] = { s.exc[e] with state := .ramp, step := 16, rising := false }) ∧
    (s.exc[e].state = .ramp → t.exc[e] = { s.exc[e] with rising := false }) ∧
    (s.exc[e].driving = false → t.exc[e] = s.exc[e])) ∧
  ∀ g, t.glvOut g = .hiz

/-- The outputs at their safe levels in SAFE-HOLD, and a disabled one without a CHANNEL-SAFE scope high-impedance. -/
def State.HeldOutputs (s t : State) : Prop :=
  ∀ m : Fin 16, s.sup.booted = true →
    ((s.flag (Reg.EMU_ENABLE m) = true ∨ s.emuScoped m = true) →
      t.emu[m].a = safeLevel (s.regN (mitEmu m)) s.emu[m].a ∧ t.emu[m].b = safeLevel (s.regN (mitEmu m) / 4) s.emu[m].b ∧
      t.emu[m].z = safeLevel (s.regN (mitEmu m) / 16) s.emu[m].z) ∧
    ((s.flag (Reg.PSW_ENABLE m) = true ∨ s.pswScoped m = true) →
      t.psw[m].level = safeLevel (s.regN (mitPsw m)) s.psw[m].level) ∧
    (s.flag (Reg.EMU_ENABLE m) = false → s.emuScoped m = false →
      t.emu[m].a = .hiz ∧ t.emu[m].b = .hiz ∧ t.emu[m].z = .hiz) ∧
    (s.flag (Reg.PSW_ENABLE m) = false → s.pswScoped m = false → t.psw[m].level = .hiz)

/-- The outputs in QUIET that nothing of a higher rank rules: high-impedance, at their safe levels, or at the held count,
by the invalid-source action (R171, R175). -/
def State.QuietOutputs (s t : State) : Prop :=
  ∀ m : Fin 16, s.sup.booted = true → s.floor.deviceSafe = false →
    (s.flag (Reg.EMU_ENABLE m) = true → s.emuScoped m = false → s.emu[m].started = true →
      (s.flag (Reg.EMU_SEAT_GATE m) = true → s.isActive = true) →
      (s.reg (Reg.EMU_INVALID m) = 1 → t.emu[m].a = .hiz ∧ t.emu[m].b = .hiz ∧ t.emu[m].z = .hiz) ∧
      (s.reg (Reg.EMU_INVALID m) = 2 →
        t.emu[m].a = safeLevel (s.regN (mitEmu m)) s.emu[m].a ∧ t.emu[m].b = safeLevel (s.regN (mitEmu m) / 4) s.emu[m].b ∧
        t.emu[m].z = safeLevel (s.regN (mitEmu m) / 16) s.emu[m].z ∧ t.emu[m].safe = true) ∧
      (s.reg (Reg.EMU_INVALID m) = 0 → s.emu[m].safe = false →
        (t.emu[m].a, t.emu[m].b, t.emu[m].z) = s.linesOf m s.emu[m].c) ∧
      t.emu[m].c = s.emu[m].c) ∧
    (s.flag (Reg.PSW_ENABLE m) = true → s.pswScoped m = false → s.psw[m].started = true →
      (s.flag (Reg.PSW_SEAT_GATE m) = true → s.isActive = true) →
      (s.reg (Reg.PSW_INVALID m) = 1 → t.psw[m].level = .hiz) ∧
      (s.reg (Reg.PSW_INVALID m) = 2 → t.psw[m].level = safeLevel (s.regN (mitPsw m)) s.psw[m].level))

/-! ### Samples and zero crossings -/

/-- The normal step of channel `n` for a deviation and an injected value (R76). -/
def State.stepOf (s : State) (n : ChId) (e inj : Int) : StepOut :=
  normalStep (coefsOf s.reg n s.ch[n].bankB) (s.reg (Reg.CH_VEL_FS n)) (s.reg (Reg.CH_ACC_FS n)) s.ch[n].satVel s.ch[n].loop e inj

/-- Nothing waits for channel `n`'s sample boundary, no homing, alignment or end of a test, and the converters work. -/
def State.PlainSample (s : State) (n : ChId) : Prop :=
  s.front[n].homePort = none ∧ s.front[n].align = none ∧ s.sup.vanaHold = false ∧ s.ch[n].inj.stopping = none ∧
  (s.ch[n].inj.state = .running → s.testGoesOn n = true)

/-- The hatband leaves channel `n`'s sample in (R101). -/
def State.ClearHatband (s : State) (n : ChId) : Prop :=
  s.watch[n].hbTripS = false ∧ s.watch[n].hbTripC = false ∧ s.watch[n].hbLive = 0 ∧ s.watch[n].hbWait = 0

/-- The next SCLK edge holds one zero crossing, the one of exciter `e` at `half`, and no probe runs. -/
def State.OneCrossing (s : State) (e : ExcId) (half : Bool) : Prop :=
  s.alive = true ∧ s.exc[e].crosses half = true ∧ s.exc[e].ftw.toNat < 2 ^ 30 ∧ s.exc[e].crosses (!half) = false ∧
  (∀ (d : ExcId) (h : Bool), d ≠ e → s.exc[d].crosses h = false) ∧ ∀ n : ChId, s.front[n].probe ≠ .running

/-- The crossing is at the first of the edge's two LCLK edges. -/
def Exc.firstEdge (x : Exc) (half : Bool) : Bool := passes x.acc (x.acc + x.ftw) = some half

/-- Between `s` and `t` a DEVICE-SAFE entry has been made (R207). -/
def State.Entered (s t : State) : Prop := t.floor.deviceSafe ≠ s.floor.deviceSafe ∨ t.dev.state ≠ s.dev.state

/-- The exciter `x` that a DEVICE-SAFE entry stops where MIT_EXC says STOP (R207, R208). -/
def Exc.heldBy (x : Exc) : Exc :=
  if x.driving then
    { x with state := .held, restart := false, fold := false, pendFold := false, applied := 0, step := 0 }
  else x

/-- Exciter `e` of `t` is `x`, or what a DEVICE-SAFE entry made of it (R207, R208). -/
def State.ExcIs (s t : State) (e : ExcId) (x : Exc) : Prop :=
  ((s.Entered t ∧ s.reg (mitExc e) = 1) → t.exc[e] = x.heldBy) ∧
  (¬ (s.Entered t ∧ s.reg (mitExc e) = 1) → t.exc[e] = x)

/-- Sources that a DEVICE-SAFE entry itself may take back: RED_ABANDON, DBG_OPEN, FOLDBACK and CAL_RUN. -/
def takenBack (id : Nat) : Bool :=
  id = 913 || id = 1089 || ((List.finRange 4).any fun e => id = excSrc e 1) || all16.any fun n => id = chSrc n 16

/-- A DEVICE-SAFE hold has outlasted a device reset: the device is booted and not in SAFE. -/
def State.holdOutlasts (s : State) : Bool := s.floor.deviceSafe && s.sup.booted && !(s.dev.state = .safe)

/-! ### What raising a source changes -/

/-- The counters that a raised source, a lost log event, and what a DEVICE-SAFE entry ends may move. -/
def faultReg (k : Key) : Bool :=
  k == Reg.FC_LOG_LOST || k == Reg.RED_ABANDON_CNT || k == Reg.DBG_OPEN_CNT ||
  all16.any fun n => k == Reg.CH_INJ_ABORT n || k == Reg.CAL_CNT_ACCEPTED n || k == Reg.CAL_CNT_REJECTED n ||
    k == Reg.CAL_CNT_INSUFFICIENT n || k == Reg.CAL_CNT_ABORTED n

/-- What raising or clearing a source leaves alone: everything but the collector, the floor's capture, the ERR mark of
the next record, the trial's mark, the outputs, a capture that the fault triggers, and the count of lost log events. -/
structure RaiseFrame (s t : State) : Prop where
  pending : t.pending = s.pending
  now : t.now = s.now
  fresh : t.fresh = s.fresh
  frames : t.frames = s.frames
  ch : t.ch = s.ch
  watch : t.watch = s.watch
  front : t.front = s.front
  cal : t.cal = s.cal
  sets : t.sets = s.sets
  bead : t.bead = s.bead
  exc : t.exc = s.exc
  kelvin : t.kelvin = s.kelvin
  glv : t.glv = s.glv
  snap : t.snap = s.snap
  pf : t.pf = s.pf
  tal : t.tal = s.tal
  dev : t.dev = s.dev
  port : t.port = s.port
  grp : t.grp = s.grp
  store : t.store = s.store
  pt : t.pt = s.pt
  vote : t.vote = s.vote
  lnk : t.lnk = s.lnk
  hsp : t.hsp = s.hsp
  tap : t.tap = s.tap
  eth : t.eth = s.eth
  can : t.can = s.can
  tq : t.tq = s.tq
  time : t.time = s.time
  mgmt : t.mgmt = s.mgmt
  sched : t.sched = s.sched
  log : t.log = s.log
  sec : t.sec = s.sec
  sup : t.sup = s.sup
  red : t.red = { s.red with err := t.red.err }
  upd : t.upd = { s.upd with faulted := t.upd.faulted }
  deviceSafe : t.floor.deviceSafe = s.floor.deviceSafe
  counts : t.floor.testOk = s.floor.testOk ∧ t.floor.wdogCnt = s.floor.wdogCnt ∧ t.floor.safeCnt = s.floor.safeCnt
  osc : t.floor.oscLost = s.floor.oscLost ∧ t.floor.since = s.floor.since
  /-- While the device is in its safe entry no further one is asked for. -/
  held : s.inSafe = true → t.floor.request = s.floor.request
  reg : ∀ k, k ≠ Reg.FC_LOG_LOST → t.reg k = s.reg k
  wf : regsWf s.regs = true → regsWf t.regs = true

/-- What a command that raises sources leaves alone even when a DEVICE-SAFE entry follows (R207, R264). -/
structure SafeFrame (s t : State) : Prop where
  pending : t.pending = s.pending
  now : t.now = s.now
  fresh : t.fresh = s.fresh
  frames : t.frames = s.frames
  watch : t.watch = s.watch
  sets : t.sets = s.sets
  bead : t.bead = { s.bead with writing := t.bead.writing }
  kelvin : t.kelvin = s.kelvin
  glv : t.glv = s.glv
  snap : t.snap = s.snap
  pf : t.pf = s.pf
  tal : t.tal = s.tal
  port : t.port = s.port
  grp : t.grp = s.grp
  store : t.store = s.store
  pt : t.pt = s.pt
  vote : t.vote = s.vote
  hsp : t.hsp = s.hsp
  eth : t.eth = s.eth
  can : t.can = s.can
  tq : t.tq = s.tq
  time : t.time = s.time
  mgmt : t.mgmt = s.mgmt
  log : t.log = s.log
  sup : t.sup = s.sup
  upd : t.upd = { s.upd with faulted := t.upd.faulted }
  osc : t.floor.oscLost = s.floor.oscLost ∧ t.floor.since = s.floor.since
  /-- A device in its safe entry stays there, and no further entry is asked for. -/
  held : s.inSafe = true → t.inSafe = true ∧ (s.floor.request = false → t.floor.request = false)
  reg : ∀ k, faultReg k = false → t.reg k = s.reg k
  wf : regsWf s.regs = true → regsWf t.regs = true

/-! ### Invariants -/

/-- The queues and rings of the device hold no more than the manual gives them (R218, R266 to R268, R296, R298, R308,
R321). -/
def State.Bounded (s : State) : Prop :=
  s.fc.queue.length ≤ 256 ∧ s.dev.diag.length ≤ 16 ∧ s.log.recs.length ≤ 12288 ∧
  (∀ q : Fin 16, s.tq[q].descs.length ≤ 16 ∧ s.tq[q].compl.length ≤ 16) ∧ (∀ k : Fin 2, s.eth[k].ring.length ≤ 32) ∧
  s.grp.timed.length ≤ 16 ∧ (∀ p : Port, s.port[p].group.length ≤ 64) ∧ s.pendCount ≤ 128

/-- The register file is in its canonical form, so that equal contents are equal data. -/
def State.RegsCanonical (s : State) : Prop := regsWf s.regs = true

end Sys2Proof.Machine
end

