-- ==== Sys2Proof/WellFormed.lean ====
section
/-!
DEFINITION. The commands whose operands fit: the value of a written object fits the object's type, and data have a
length that the table's row can carry. Dispatch runs ill-formed commands too: a value that does not fit is cut to the
object's width, and data of a wrong length are refused as R261 step 3 says.
-/

namespace Sys2Proof

open Sys2Proof.Machine

/-- The value is one that the object's data can spell (R256). -/
def fits (k : Key) (v : Int) : Bool :=
  match findObj k with
  | some o => o.ty.value (o.ty.bytes v) = v
  | none => false

/-- The data have the length of the object's type (R256). -/
def fitsData (k : Key) (d : Bytes) : Bool :=
  match findObj k with
  | some o => d.length = o.ty.len
  | none => false

/-- The longest request frame payload of a port (R284, R292). -/
def maxData : Nat := 1024

/-- The operands of a command fit. -/
def Instr.wf (i : Instr) : Bool :=
  match i with
  | .excEnableWrite _ e v => fits (Reg.EXC_ENABLE e) v
  | .excModeWrite _ e v => fits (Reg.EXC_MODE e) v
  | .excFreqWrite _ e v => fits (Reg.EXC_FREQ e) v
  | .excAmplWrite _ e v => fits (Reg.EXC_AMPL e) v
  | .foldbackChange _ mv => mv < 2 ^ 16
  | .chExcSelWrite _ ch v => fits (Reg.CH_EXC_SEL ch) v
  | .staticTrimWrite _ ch o v => fits (trimKey o ch) v
  | .glvModeWrite _ g v => fits (glvMode g) v
  | .bankCoeffWrite _ ch o v => fits (bankObjKey o ch) v
  | .chBankSelWrite _ ch v => fits (Reg.CH_BANK_SEL ch) v
  | .chEnableWrite _ ch v => fits (Reg.CH_ENABLE ch) v
  | .snapConfigWrite _ src o v => fits (snapKey o src) v
  | .pfEnableWrite _ f v => fits (Reg.PF_ENABLE f) v
  | .emuEnableWrite _ n v => fits (Reg.EMU_ENABLE n) v
  | .emuSrcWrite _ n kind v => fits (if kind then Reg.EMU_SRC_KIND n else Reg.EMU_SRC n) v
  | .pswEnableWrite _ n v => fits (Reg.PSW_ENABLE n) v
  | .pswSrcWrite _ n v => fits (Reg.PSW_SRC n) v
  | .talEnableWrite _ n v => fits (Reg.TAL_ENABLE n) v
  | .talLimitsWrite _ n lo hi => fits (Reg.TAL_LIM_LO n) lo && fits (Reg.TAL_LIM_HI n) hi
  | .fltConfigWrite _ id o v => fits (fltKey o id.val) v
  | .fltForce _ id v => fits (Reg.FLT_FORCE id) v
  | .redModeWrite _ v => fits Reg.RED_MODE v
  | .recordReceive _ b => b.length = 1024
  | .redCycleWrite _ first v => fits (if first then Reg.RED_CYCLE_FIRST else Reg.RED_CYCLE) v
  | .registerWrite _ _ _ d | .rwfWrite _ _ _ d | .hspWrite _ _ _ _ d => d.length ≤ maxData
  | .diagCountWrite _ v => fits Reg.DIAG_COUNT v
  | .dictDatagram _ _ _ _ b | .icmpEcho _ _ _ _ b => b.length ≤ 1500
  | .ptpFrameReceive _ _ _ b => b.length ≤ 1506
  | .sdoRequest _ f => f.length = 8
  | .tqStageData _ q d => fitsData (Reg.TQ_STAGE_DATA q) d
  | .tqPush _ q d => fitsData (Reg.TQ_PUSH q) d
  | .rxrRelease _ k v => fits (Reg.RXR_RELEASE k) v
  | .timeIncWrite _ v => fits Reg.TIME_INC v
  | .timeStep _ v => fits Reg.TIME_STEP v
  | .timeSlewWrite _ v => fits Reg.TIME_SLEW v
  | .timeRef80Write _ v => fits Reg.TIME_REF80 v
  | .updBegin _ v => fits Reg.UPD_BEGIN v
  | .updData _ d => fitsData Reg.UPD_DATA d
  | .authResponse _ q d => fitsData (Reg.AUTH_RESPONSE q) d
  | .keyWrite _ integrator d => fitsData (if integrator then Reg.KEY_INTEGRATOR else Reg.KEY_OPERATOR) d
  | .dbgLevelWrite _ v => fits Reg.DBG_LEVEL v
  | .canBusError _ tec rec => tec ≤ 256 && rec ≤ 255
  | .tqFrameComplete _ tec rec => tec ≤ 255 && rec ≤ 255
  | .sampleProcess .. | .senseEstimate .. | .zeroCrossing .. | .excOcShutdown .. | .excRestart .. | .trimBoundaryApply ..
  | .hatbandTrip .. | .hatbandRelease .. | .glvOverload .. | .probePeriodDue .. | .chProbeStart .. | .probeRun ..
  | .probeComplete ..
  | .chRrefLearn .. | .betaMeasRefresh .. | .chBetaLearn .. | .chDesign .. | .chBankSwap .. | .chBankSwapAt ..
  | .chBankSwapCancel .. | .timedSwapDue .. | .bankSwapApply .. | .chInjStart .. | .injTestBegin .. | .chInjStop ..
  | .injDurationEnd .. | .capArm .. | .capStop .. | .settleSeed .. | .warmSettleResume .. | .settleComplete ..
  | .chSettleTmo .. | .coastExit .. | .chCoastExpired .. | .autoRecover .. | .chRecover .. | .chHome .. | .calStart ..
  | .calCancel .. | .calTriggerEval .. | .calGrant .. | .calWindowOpen .. | .calWindowClose .. | .calWindowTimeout ..
  | .calResume .. | .calTimeout .. | .calEvaluate .. | .rowApply .. | .rowCopyComplete .. | .beadCommit ..
  | .btCommitNow .. | .beadScrub .. | .btRowLoad .. | .btRowClear .. | .setClear .. | .syncEdge .. | .snapTimeLatch
  | .snapArm .. | .positionFrameLaunch .. | .emuFirstValid .. | .emuTallyRelease .. | .emuSafeExit .. | .talSample ..
  | .talPreset .. | .talIdxPresetArm .. | .talResume .. | .talSpeedTimeout .. | .faultRaise .. | .faultConditionGone ..
  | .railError .. | .fltClear .. | .fcClearAll .. | .faultAutoClear .. | .fltCntReset .. | .fcReinit .. | .fcFloorRearm ..
  | .fcSelftest .. | .mgmtWdog | .mgmtLockstep | .mgmtRestart .. | .mgmtRestartDone | .lnkUp .. | .lnkDown ..
  | .recordLatchSend | .lineTestPulse | .partnerLost .. | .releaseReceive .. | .clmInHigh .. | .partnerClaimed ..
  | .clmInFall .. | .okinChange .. | .claimAttemptStart | .guardComplete | .arbitrateWindowEnd | .claimAssert
  | .backoffEnd | .claimRelease | .redClaim .. | .redRelease .. | .redNoActive | .handoverDrop .. | .fenceLocal ..
  | .fenceGlobal .. | .fenceAt .. | .groupVisible .. | .timedGroupDue | .portHeartbeat .. | .heartbeatExpiry ..
  | .grpDiscard .. | .grpTimedCancel .. | .goRun .. | .goService .. | .goConfig .. | .leaveSafe .. | .bootComplete
  | .devStore .. | .storeRun .. | .restoreDefaults .. | .restoreStored .. | .hspRead .. | .hspPoll .. | .hspFrameError ..
  | .floor .. | .dbgFloorCapture | .dbgDictUpdate .. | .arpRequest .. | .ethFrameDiscard .. | .sdoSegmentTimeout ..
  | .canRecover .. | .canBusoffRecovered .. | .tqFlush .. | .tqFrameLaunch .. | .timeSlewDone
  | .timeWrap | .nrefRefresh | .sensorRefresh .. | .schedRequest .. | .schedActivityEnd .. | .schedOverrun | .logAppend
  | .logCompact .. | .logCompactionDue | .updVerify .. | .updActivate .. | .updQuietPoint | .updQuietTimeout
  | .updConfirm .. | .updTrialTimeout .. | .updAbort .. | .lcAdvance .. | .authChallenge .. | .authLogout ..
  | .authLockExpiry .. | .pwrRun .. | .pwrQuiet .. | .pwrSafeHold .. | .pwrOff .. | .vioPor | .deviceReset ..
  | .resetRelease .. | .pllLock | .analogueHold | .exciterHold | .tapReset | .analogueRestart | .exciterHoldRelease
  | .vioPorRelease | .dictServiceReady | .copperTempValidityLoss .. | .ethLinkChange .. | .runControlHalt
  | .runControlResume => true

end Sys2Proof
end

