-- ==== Sys2Proof/Certificates/Slice0/Obligations.lean ====
section
/-!
DEFINITION. The statements about the model, for the provers. A statement about a command names the state the command
meets (its conditions as the manual gives them) and says which next state it answers and what it leaves alone. A host's
command is stated on an access that the dictionary accepts (`State.Admits`); what a refused access leaves is
`State.RefusedAs`.
-/

open Sys2Proof Sys2Proof.Machine

/-- A step runs the command at the front of the queue on the queue's rest. -/
def Obligations.FrontCommandRuns : Prop :=
  ∀ (c : Instr) (rest : List Instr) (s : State),
    step { s with pending := c :: rest } = exec c { s with pending := rest }

/-- On an empty queue one SCLK edge passes: the time counter and the running accumulators advance. -/
def Obligations.IdleStepIsOneClockEdge : Prop :=
  ∀ s : State, s.pending = [] → s.Calm → (∀ (e : ExcId) (h : Bool), s.exc[e].crosses h = false) →
    (∀ n : ChId, s.front[n].probe ≠ .running) →
    ∃ t, step s = .next t ∧ t.now = s.now + 1 ∧ t = { s with now := t.now, time := t.time, exc := t.exc } ∧
      (s.alive = false → t.time = s.time ∧ t.exc = s.exc) ∧
      (s.alive = true →
        t.time.slew = s.time.slew - clampI (-0x40000) 0x40000 s.time.slew ∧
        t.time.count = BitVec.ofInt 56 (Int.ofNat s.time.count.toNat + s.reg Reg.TIME_INC +
          clampI (-0x40000) 0x40000 s.time.slew) ∧
        t.time.wraps = wrapS 32 (s.time.wraps + (Int.ofNat s.time.count.toNat + s.reg Reg.TIME_INC +
          clampI (-0x40000) 0x40000 s.time.slew) / 2 ^ 56) ∧
        t.time.nref = s.time.nref ∧ t.time.refValid = s.time.refValid ∧
        ∀ e : ExcId, t.exc[e] = { s.exc[e] with
          acc := if s.exc[e].state = .ramp ∨ s.exc[e].state = .run then s.exc[e].acc + s.exc[e].ftw + s.exc[e].ftw
            else s.exc[e].acc })

/-- The state after reset holds the values that the manual gives. -/
def Obligations.ResetLeavesTheStatedValues : Prop :=
  State.reset.dev.state = .boot ∧ State.reset.pending = [] ∧ State.reset.time.count = 0 ∧ State.reset.time.wraps = 0 ∧
  State.reset.time.nref = 0 ∧ State.reset.time.refValid = false ∧ State.reset.fc.srcs = [] ∧
  State.reset.reg Reg.TIME_INC = 0x4000000 ∧ State.reset.reg Reg.CFG_GEN = 0 ∧ State.reset.reg Reg.FC_WDOG_TMO = 50 ∧
  State.reset.floor.first = none ∧ State.reset.floor.deviceSafe = false ∧ State.reset.upd.state = .idle ∧
  (∀ e : ExcId, State.reset.exc[e].state = .off ∧ State.reset.reg (Reg.EXC_FREQ e) = 10000 ∧
    State.reset.reg (Reg.EXC_AMPL e) = 4000) ∧
  (∀ n : ChId, State.reset.ch[n].state = .off ∧ State.reset.cal[n].state = .idle ∧
    State.reset.reg (Reg.CH_EXC_SEL n) = n.val / 4 ∧ State.reset.reg (Reg.CH_GAIN_SIN n) = -2) ∧
  (∀ p : Port, State.reset.port[p].role = .observer ∧ State.reset.port[p].lastResult = 0 ∧ State.reset.port[p].group = [])

/-- The reset state meets the invariants. -/
def Obligations.ResetMeetsTheInvariants : Prop :=
  State.reset.Calm ∧ State.reset.RegsCanonical ∧ State.reset.Bounded

/-- After every step no DEVICE-SAFE entry is left waiting. -/
def Obligations.EveryStepSettlesDeviceSafe : Prop :=
  ∀ s t : State, step s = .next t → t.floor.request = false

/-- Every step keeps the register file in canonical form. -/
def Obligations.EveryStepKeepsRegistersCanonical : Prop :=
  ∀ s t : State, s.RegsCanonical → step s = .next t → t.RegsCanonical

/-- Every step keeps the queues within the sizes that the manual gives them. -/
def Obligations.EveryStepKeepsQueuesBounded : Prop :=
  ∀ s t : State, s.Bounded → step s = .next t → t.Bounded

/-- A refused write changes nothing but the refusal counter and the diagnostic records. -/
def Obligations.RefusedWriteLeavesOnlyItsMarks : Prop :=
  ∀ (p : Port) (index : BitVec 16) (sub : Byte) (data : Bytes) (n : Nak) (s : State), s.Calm →
    s.Rejects p (keyOf index sub) data n → n ≠ nakSched → (n = nakRole → keyOf index sub ≠ Reg.AUTH_RESPONSE p) →
    (∃ t, exec (.registerWrite p index sub data) s = .next t ∧ s.RefusedAs t p (keyOf index sub) n) ∧
    ∃ t, exec (.rwfWrite p index sub data) s = .next t ∧ s.RefusedAs t p (keyOf index sub) n

/-- A POS40 holds the carry count above the 24-bit angle and reads as one signed number. -/
def Obligations.Pos40LaysOutCarryAndAngle : Prop :=
  ∀ (th : BitVec 32) (carry : Int),
    leNat (leInt 5 (pos40 th carry)) / 2 ^ 24 = (carry % 2 ^ 16).toNat ∧
    leNat (leInt 5 (pos40 th carry)) % 2 ^ 24 = th.toNat / 256 ∧
    wrapS 40 (leNat (leInt 5 (pos40 th carry))) = pos40 th carry

/-- A TIME80 is 48 bits of seconds above nanoseconds below one second; a TIME32 is the nanosecond part. -/
def Obligations.Time80NanosecondsStayBelowOneSecond : Prop :=
  ∀ (n : Nat) (s : State) (x : Time32),
    time80 n / 2 ^ 32 = n / 10 ^ 9 % 2 ^ 48 ∧ time80 n % 2 ^ 32 = n % 10 ^ 9 ∧ s.stamp80 x % 2 ^ 32 ≤ 999999999 ∧
    (∀ q : State, q.timeNow.toNat = q.time.count.toNat / 2 ^ 24)

/-- Every HSP request frame, built with its header and payload checks, is taken apart into the request it carries. -/
def Obligations.HspRequestsParseBack : Prop :=
  (∀ (tag : Byte) (k : Nat), k < 2 ^ 24 →
    hspParse (hspFrame 1 tag (leBytes 2 (k / 256) ++ leBytes 1 (k % 256) ++ [0#8])) = .read tag k) ∧
  (∀ (tag : Byte) (k : Nat) (data : Bytes), k < 2 ^ 24 → data.length ≤ 1024 →
    hspParse (hspFrame 2 tag (leBytes 2 (k / 256) ++ leBytes 1 (k % 256) ++ [0#8] ++ data)) = .write tag k data) ∧
  (∀ tag : Byte, hspParse (hspFrame 0 tag []) = .poll ∧ hspParse (hspFrame 3 tag []) = .floor)

/-- Every ThaeLink record that a device builds is valid for its partner and reads back the latched fields. -/
def Obligations.SentRecordsAreValid : Prop :=
  ∀ (s : State) (x : Time32) (cycle : Nat) (first : Bool), cycle < 2 ^ 32 →
    recordOk (s.buildRecord x cycle first) = true ∧ recLatch (s.buildRecord x cycle first) = x ∧
    recSeq (s.buildRecord x cycle first) = s.red.seq ∧ recFirst (s.buildRecord x cycle first) = first ∧
    recActive (s.buildRecord x cycle first) = s.isActive ∧ recOkay (s.buildRecord x cycle first) = s.okay ∧
    recErr (s.buildRecord x cycle first) = s.recordErr x

/-- A sample steps its channel's loop by the rule of its state and releases a record with its instant. -/
def Obligations.SampleStepsTheLoopAndReleasesItsRecord : Prop :=
  ∀ (ch : ChId) (xs xc : BitVec 16) (s : State), s.lanesOn = true →
    ∃ t, exec (.sampleProcess ch xs xc) s = .next t ∧ t.ch[ch].out.time = s.t0 ch ∧
      t.time = s.time ∧ t.kelvin = s.kelvin ∧ t.tal = s.tal ∧ t.store = s.store ∧ t.port = s.port ∧
      (∀ m, m ≠ ch → t.ch[m].loop = s.ch[m].loop ∧ t.ch[m].state = s.ch[m].state ∧ t.ch[m].out = s.ch[m].out) ∧
      (s.ch[ch].state = .off → t.ch[ch].state = .off ∧ t.ch[ch].loop = s.ch[ch].loop ∧
        t.ch[ch].out.pos = s.ch[ch].out.pos ∧ t.ch[ch].out.vel = 0 ∧ t.ch[ch].out.acc = 0) ∧
      (s.PlainSample ch →
        (s.ch[ch].state = .invalid → t.ch[ch].state = .invalid ∧ t.ch[ch].loop = s.ch[ch].loop ∧
          t.ch[ch].out.pos = s.ch[ch].out.pos ∧ t.ch[ch].out.vel = 0 ∧ t.ch[ch].out.acc = 0) ∧
        (s.ch[ch].state = .coast →
          t.ch[ch].loop = (holdStep (s.reg (Reg.CH_VEL_FS ch)) s.ch[ch].loop).1 ∧
          t.ch[ch].out.pos = pos40 s.ch[ch].loop.th s.ch[ch].loop.carry) ∧
        (s.ch[ch].state = .settle →
          (s.front[ch].settle = .running → s.ClearHatband ch →
            t.ch[ch].loop = (s.stepOf ch (s.demod ch xs xc).e 0).loop) ∧
          (∀ k, s.front[ch].settle = .holding k → t.front[ch].settle = .holding (k - 1) ∧
            t.ch[ch].loop = (holdStep (s.reg (Reg.CH_VEL_FS ch)) s.ch[ch].loop).1) ∧
          (∀ k a b, s.front[ch].settle = .seeding k a b → t.ch[ch].loop = s.ch[ch].loop ∧
            t.ch[ch].out.pos = s.ch[ch].out.pos ∧ t.ch[ch].out.vel = 0 ∧
            (s.ClearHatband ch → k < periodSamples s.exc[s.excIx ch].freq →
              t.front[ch].settle = .seeding (k + 1) (a + (s.demod ch xs xc).sd) (b + (s.demod ch xs xc).cd))) ∧
          (s.front[ch].settle = .waiting → t.ch[ch].loop = s.ch[ch].loop ∧ t.ch[ch].out.pos = s.ch[ch].out.pos ∧
            (s.ClearHatband ch → s.exc[s.excIx ch].state = .run →
              senseWindow s.exc[s.excIx ch].freq ≤ s.kelvin[s.excIx ch].n →
              t.front[ch].settle = .seeding 1 (s.demod ch xs xc).sd (s.demod ch xs xc).cd))) ∧
        ((s.ch[ch].state = .track ∨ (s.ch[ch].state = .settle ∧ s.front[ch].settle = .running)) → ¬ s.ClearHatband ch →
          t.ch[ch].loop = (holdStep (s.reg (Reg.CH_VEL_FS ch)) s.ch[ch].loop).1 ∧ t.ch[ch].inj.n = s.ch[ch].inj.n ∧
          t.reg (Reg.CH_DISCARD_CNT ch) = satInc 32 (s.reg (Reg.CH_DISCARD_CNT ch)) ∧
          (s.ch[ch].state = .track → t.ch[ch].state = .coast ∨ t.ch[ch].state = .invalid)) ∧
        (s.ch[ch].state = .track → s.ClearHatband ch →
          t.ch[ch].loop = (s.stepOf ch (s.demod ch xs xc).e s.ch[ch].inj.value).loop ∧
          (s.ch[ch].inj.state = .running → t.ch[ch].inj.n = s.ch[ch].inj.n + 1) ∧
          (t.ch[ch].state = .track ∨ t.ch[ch].state = .coast →
            t.ch[ch].out.pos = pos40 s.ch[ch].loop.th s.ch[ch].loop.carry) ∧
          t.front[ch].betaN = s.front[ch].betaN + 1 ∧
          t.front[ch].betaQ = s.front[ch].betaQ + mul31 (2 * (s.demod ch xs xc).q)
            (mul31 (s.demod ch xs xc).s (s.demod ch xs xc).sin + mul31 (s.demod ch xs xc).c (s.demod ch xs xc).cos) ∧
          t.front[ch].betaI = s.front[ch].betaI + mul31 (2 * (s.demod ch xs xc).r)
            (mul31 (s.demod ch xs xc).s (s.demod ch xs xc).sin + mul31 (s.demod ch xs xc).c (s.demod ch xs xc).cos) ∧
          ∀ l : Loop, l = (s.stepOf ch (s.demod ch xs xc).e s.ch[ch].inj.value).loop →
            ∀ a b c : Nat, a = runOver (s.reg (Reg.CH_TRK_ERR_LIM ch) < Int.ofNat l.u.natAbs) s.watch[ch].trkRun →
            b = runOver (s.reg (Reg.CH_VEL_LIM ch) < Int.ofNat (word39 l.v).natAbs) s.watch[ch].velRun →
            c = runOver (s.reg (Reg.CH_ACC_LIM ch) < Int.ofNat (word39 l.a).natAbs) s.watch[ch].accRun →
            (t.ch[ch].state = .track →
              t.watch[ch].trkRun = a ∧ t.watch[ch].velRun = b ∧ t.watch[ch].accRun = c) ∧
            (t.ch[ch].state = .invalid ↔ s.regN (Reg.CH_TRK_ERR_N ch) ≤ a ∨ s.regN (Reg.CH_PLAUS_N ch) ≤ b ∨
              s.regN (Reg.CH_PLAUS_N ch) ≤ c)))

/-- A sense sample within a carrier period enters the window of W samples, and the estimate follows. -/
def Obligations.SenseSampleEntersTheWindowAndTheEstimate : Prop :=
  ∀ (e : ExcId) (x : BitVec 16) (s : State), s.Calm → s.lanesOn = true → s.sup.vanaHold = false →
    (s.kelvin[e].win.head?.all fun y => y.phi.toNat ≤ (s.phiAt e (lateSlot 0)).toNat) = true →
    ∃ t, exec (.senseEstimate e x) s = .next t ∧ t = { s with regs := t.regs, kelvin := t.kelvin } ∧
      (∀ d, d ≠ e → t.kelvin[d] = s.kelvin[d]) ∧
      t.kelvin[e].win = (({ x := divRound (x.toInt * (if s.reg (Reg.EXC_SENSE_RANGE e) = 0 then 12000000000
          else 30000000000)) 32768, phi := s.phiAt e (lateSlot 0) } : Sense) :: s.kelvin[e].win).take
          (senseWindow s.exc[e].freq) ∧
      t.kelvin[e].n = s.kelvin[e].n + 1 ∧
      (s.kelvin[e].lost = false →
        (t.kelvin[e].ehat, t.kelvin[e].psi) = senseOf (senseWindow s.exc[e].freq) t.kelvin[e].win) ∧
      (s.kelvin[e].lost = true → t.kelvin[e].ehat = s.kelvin[e].ehat ∧ t.kelvin[e].psi = s.kelvin[e].psi) ∧
      t.reg (Reg.EXC_SENSE_AMPL e) =
        clampI 0 (2 ^ 32 - 1) (divRound (senseOf (senseWindow s.exc[e].freq) t.kelvin[e].win).1 1000) ∧
      t.reg (Reg.EXC_SENSE_PHASE e) =
        Int.ofNat ((senseOf (senseWindow s.exc[e].freq) t.kelvin[e].win).2.toNat / 256) ∧
      s.SameRegs t [Reg.EXC_SENSE_AMPL e, Reg.EXC_SENSE_PHASE e]

/-- A zero crossing makes one of 16 ramp steps up or down, and applies pending changes unless a channel settles. -/
def Obligations.ZeroCrossingStepsTheRampAndAppliesChanges : Prop :=
  ∀ (e : ExcId) (half : Bool) (s : State), s.OneCrossing e half →
    ∃ t, exec (.zeroCrossing e half) s = .next t ∧ t.now = s.now + 1 ∧ t.time = s.timeEdge.time ∧ t.port = s.port ∧
      (∀ d, d ≠ e → s.ExcIs t d { s.exc[d] with
        acc := if s.exc[d].driving = true then s.exc[d].acc + s.exc[d].ftw + s.exc[d].ftw else s.exc[d].acc }) ∧
      ((s.exc[e].changing = false ∨ s.settling e = true) →
        (s.exc[e].state = .run → s.ExcIs t e { s.exc[e] with
          acc := s.exc[e].acc + s.exc[e].ftw + s.exc[e].ftw, applied := s.exc[e].full }) ∧
        (s.exc[e].state = .ramp → s.exc[e].rising = true → s.ExcIs t e { s.exc[e] with
          acc := s.exc[e].acc + s.exc[e].ftw + s.exc[e].ftw, step := s.exc[e].step + 1
          state := if s.exc[e].step + 1 < 16 then .ramp else .run
          applied := s.exc[e].full * Int.ofNat (s.exc[e].step + 1) / 16 }) ∧
        (s.exc[e].state = .ramp → s.exc[e].rising = false → 2 ≤ s.exc[e].step → s.ExcIs t e { s.exc[e] with
          acc := s.exc[e].acc + s.exc[e].ftw + s.exc[e].ftw, step := s.exc[e].step - 1
          applied := s.exc[e].full * Int.ofNat (s.exc[e].step - 1) / 16 }) ∧
        (s.exc[e].state = .ramp → s.exc[e].rising = false → s.exc[e].step < 2 → s.excWanted e = false →
          s.ExcIs t e { s.exc[e] with
            acc := if s.exc[e].firstEdge half = true then s.exc[e].acc + s.exc[e].ftw
              else s.exc[e].acc + s.exc[e].ftw + s.exc[e].ftw
            step := 0, state := .off, restart := false, fold := false, pendFold := false, applied := 0 }) ∧
        (s.exc[e].state = .ramp → s.exc[e].rising = false → s.exc[e].step < 2 → s.excWanted e = true → ¬ s.Entered t →
          t.exc[e].state = .ramp ∧ t.exc[e].step = 0 ∧ t.exc[e].rising = true ∧ t.exc[e].restart = false ∧
          t.exc[e].mode = s.reg (Reg.EXC_MODE e) ∧ t.exc[e].freq = s.reg (Reg.EXC_FREQ e) ∧
          t.exc[e].ampl = s.reg (Reg.EXC_AMPL e))) ∧
      (s.exc[e].state = .run → s.exc[e].changing = true → s.settling e = false →
        t.exc[e].freq = s.exc[e].pendFreq.getD s.exc[e].freq ∧ t.exc[e].ftw = ftwOf t.exc[e].freq ∧
        t.exc[e].ampl = s.exc[e].pendAmpl.getD s.exc[e].ampl ∧ t.exc[e].pendFreq = none ∧ t.exc[e].pendAmpl = none ∧
        t.exc[e].pendFold = false ∧
        (¬ (s.Entered t ∧ s.reg (mitExc e) = 1) → t.exc[e].state = .run ∧ t.exc[e].applied = t.exc[e].target ∧
          t.exc[e].acc = s.exc[e].acc + s.exc[e].ftw + (if s.exc[e].firstEdge half = true then t.exc[e].ftw else s.exc[e].ftw) ∧
          t.exc[e].fold = if s.exc[e].mode ≠ 1 then s.exc[e].fold
            else if s.exc[e].fold = true then !foldOff t.exc[e].ampl s.exc[e].vexc else foldOn t.exc[e].ampl s.exc[e].vexc) ∧
        ((s.Entered t ∧ s.reg (mitExc e) = 1) → t.exc[e].state = .held ∧ t.exc[e].applied = 0) ∧
        ∀ n, s.excIx n = e → s.ch[n].state = .track → t.exc[e].freq ≠ s.exc[e].freq →
          t.ch[n].state = .settle ∧ t.ch[n].reason = 3 ∧ t.front[n].warm = true)

/-- Fold-back follows VEXC with its 200 mV band, and the over-current limit shuts an exciter down. -/
def Obligations.FoldbackAndShutdownFollowTheSupplyAndTheLimit : Prop :=
  (∀ (e : ExcId) (v : Nat) (s : State), s.Calm → s.alive = true → s.Mild (excSrc e 1) →
    ∃ t, exec (.foldbackChange e v) s = .next t ∧ RaiseFrame { s with exc := t.exc } t ∧
      (∀ d, d ≠ e → t.exc[d] = s.exc[d]) ∧
      t.exc[e] = { s.exc[e] with vexc := Int.ofNat v, fold := t.exc[e].fold, pendFold := t.exc[e].pendFold } ∧
      (s.exc[e].driving = true → s.exc[e].mode = 1 →
        t.exc[e].fold = if s.exc[e].fold then !foldOff s.exc[e].ampl (Int.ofNat v)
          else foldOn s.exc[e].ampl (Int.ofNat v)) ∧
      ((s.exc[e].driving = false ∨ s.exc[e].mode ≠ 1) →
        t.exc[e].fold = s.exc[e].fold ∧ t.exc[e].pendFold = s.exc[e].pendFold)) ∧
  (∀ (e : ExcId) (s : State), s.Calm → s.floorOn = true → s.exc[e].driving = true →
    s.Mild (excSrc e 0) →
    ∃ t, exec (.excOcShutdown e) s = .next t ∧
      t.exc[e] = { s.exc[e] with
        state := .shutdown, restart := false, fold := false, pendFold := false, applied := 0, step := 0 } ∧
      (s.alive = true → s.sup.vexcHold = false → s.sup.vanaHold = false →
        t.excOut e = if s.exc[e].mode = 2 then .zero else .clamped) ∧
      (∀ d, d ≠ e → t.exc[d] = s.exc[d]) ∧ t.reg (Reg.EXC_OC_COUNT e) = satInc 32 (s.reg (Reg.EXC_OC_COUNT e)) ∧
      RaiseFrame ({ s with exc := t.exc }.bump (Reg.EXC_OC_COUNT e)) t ∧
      ((s.src (excSrc e 0)).cond = false → (s.src (excSrc e 0)).force = false → (s.fltNow (excSrc e 0)).1 ≠ 0 →
        (t.src (excSrc e 0)).state = .latched))

/-- Exciter writes are visible at once; starts, stops, frequency and amplitude follow the exciter's rules. -/
def Obligations.ExciterWritesAreVisibleAndWaitForTheCrossing : Prop :=
  (∀ (p : Port) (e : ExcId) (s : State), s.Calm →
    s.Admits p (Reg.EXC_ENABLE e) (dataAt (Reg.EXC_ENABLE e) 0) 0 →
    ∃ t, exec (.excEnableWrite p e 0) s = .next t ∧ s.Visible t (Reg.EXC_ENABLE e) 0 ∧
      t = { s.beat p with regs := t.regs, exc := t.exc } ∧ (∀ d, d ≠ e → t.exc[d] = s.exc[d]) ∧
      (s.exc[e].state = .run → t.exc[e] = { s.exc[e] with state := .ramp, step := 16, rising := false }) ∧
      (s.exc[e].state = .ramp → t.exc[e] = { s.exc[e] with rising := false }) ∧
      (s.exc[e].state ≠ .run → s.exc[e].state ≠ .ramp → t.exc[e] = s.exc[e])) ∧
  (∀ (p : Port) (e : ExcId) (s : State), s.Calm → s.Mild (excSrc e 1) →
    (s.floor.deviceSafe = false ∨ s.reg (mitExc e) ≠ 1) →
    (s.reg (Reg.EXC_MODE e) = 1 ∨ s.reg (Reg.EXC_MODE e) = 2) → s.lanesOn = true →
    s.sup.booted = true → s.Admits p (Reg.EXC_ENABLE e) (dataAt (Reg.EXC_ENABLE e) 1) 1 →
    ∃ t, exec (.excEnableWrite p e 1) s = .next t ∧ t.reg (Reg.EXC_ENABLE e) = 1 ∧
      (s.exc[e].state = .off → t.exc[e].state = .ramp ∧
        t.exc[e].acc = 0 ∧ t.exc[e].step = 0 ∧ t.exc[e].rising = true ∧ t.exc[e].mode = s.reg (Reg.EXC_MODE e) ∧
        t.exc[e].freq = s.reg (Reg.EXC_FREQ e) ∧ t.exc[e].ampl = s.reg (Reg.EXC_AMPL e)) ∧
      (s.exc[e].state = .ramp → t.exc[e] = { s.exc[e] with rising := !s.exc[e].restart }) ∧
      (s.exc[e].state = .shutdown ∨ s.exc[e].state = .held → t.exc[e] = s.exc[e])) ∧
  (∀ (p : Port) (e : ExcId) (v : Int) (s : State), s.Calm →
    s.Admits p (Reg.EXC_MODE e) (dataAt (Reg.EXC_MODE e) v) v →
    (((amplRange v).1 ≤ s.reg (Reg.EXC_AMPL e) ∧ s.reg (Reg.EXC_AMPL e) ≤ (amplRange v).2) →
      s.exc[e].state = .run → v ≠ s.reg (Reg.EXC_MODE e) →
      ∃ t, exec (.excModeWrite p e v) s = .next t ∧ s.Visible t (Reg.EXC_MODE e) v ∧
        t = { s.beat p with regs := t.regs, exc := t.exc } ∧ (∀ d, d ≠ e → t.exc[d] = s.exc[d]) ∧
        t.exc[e] = { s.exc[e] with state := .ramp, step := 16, rising := false, restart := true }) ∧
    ((s.reg (Reg.EXC_AMPL e) < (amplRange v).1 ∨ (amplRange v).2 < s.reg (Reg.EXC_AMPL e)) →
      ∃ t, exec (.excModeWrite p e v) s = .next t ∧ s.RefusedAs t p (Reg.EXC_MODE e) nakRange)) ∧
  (∀ (p : Port) (e : ExcId) (v : Int) (s : State), s.Calm →
    s.Admits p (Reg.EXC_FREQ e) (dataAt (Reg.EXC_FREQ e) v) v →
    (∀ n b, s.excIx n = e → bankAbove s.reg n b v = false) →
    ∃ t, exec (.excFreqWrite p e v) s = .next t ∧ t.reg (Reg.EXC_FREQ e) = v ∧
      t.exc[e] = { s.exc[e] with pendFreq := pendOf s.exc[e] s.exc[e].pendFreq s.exc[e].freq v } ∧
      (∀ d, d ≠ e → t.exc[d] = s.exc[d]) ∧
      ((∀ n, s.excIx n = e → s.front[n].probe = .idle) → s.Visible t (Reg.EXC_FREQ e) v ∧
        t = { s.beat p with regs := t.regs, exc := t.exc })) ∧
  (∀ (p : Port) (e : ExcId) (v : Int) (s : State), s.Calm →
    s.Admits p (Reg.EXC_AMPL e) (dataAt (Reg.EXC_AMPL e) v) v →
    ∃ t, exec (.excAmplWrite p e v) s = .next t ∧ s.Visible t (Reg.EXC_AMPL e) v ∧
      t = { s.beat p with regs := t.regs, exc := t.exc } ∧ (∀ d, d ≠ e → t.exc[d] = s.exc[d]) ∧
      t.exc[e] = { s.exc[e] with pendAmpl := pendOf s.exc[e] s.exc[e].pendAmpl s.exc[e].ampl v })

/-- A frequency below five times a recorded bandwidth of a channel on the exciter is refused. -/
def Obligations.ExcFreqBelowFiveBandwidthsIsRefused : Prop :=
  ∀ (p : Port) (e : ExcId) (v : Int) (s : State) (n : ChId) (b : Bool), s.Calm →
    s.Admits p (Reg.EXC_FREQ e) (dataAt (Reg.EXC_FREQ e) v) v → s.excIx n = e → bankAbove s.reg n b v = true →
    ∃ t, exec (.excFreqWrite p e v) s = .next t ∧ s.RefusedAs t p (Reg.EXC_FREQ e) nakLow ∧
      t.dev.diag.head? = some ⟨⟨0x06090032, 0xC⟩, p, s.dev.state, Reg.EXC_FREQ e, s.roleOf p, s.timeNow⟩

/-- EXC_RESTART leaves SHUTDOWN once the fault is cleared, and a channel whose exciter changes settles cold. -/
def Obligations.RestartAndRoutingOfExciters : Prop :=
  (∀ (p : Port) (e : ExcId) (s : State), s.Calm → s.AdmitsCmd p (Reg.EXC_RESTART e) →
    (s.exc[e].state = .shutdown → (s.src (excSrc e 0)).state = .idle →
      (s.floor.deviceSafe = true → s.reg (mitExc e) = 1 →
        ∃ t, exec (.excRestart p e) s = .next t ∧ t = { s.beat p with exc := t.exc } ∧
          t.exc[e] = { s.exc[e] with state := .held } ∧ ∀ d, d ≠ e → t.exc[d] = s.exc[d]) ∧
      ((s.floor.deviceSafe = false ∨ s.reg (mitExc e) ≠ 1) → s.excWanted e = false →
        ∃ t, exec (.excRestart p e) s = .next t ∧ t = { s.beat p with exc := t.exc } ∧
          t.exc[e] = { s.exc[e] with state := .off } ∧ ∀ d, d ≠ e → t.exc[d] = s.exc[d]) ∧
      (s.excWanted e = true → s.Mild (excSrc e 1) →
        ∃ t, exec (.excRestart p e) s = .next t ∧ t.exc[e].state = .ramp ∧ t.exc[e].acc = 0 ∧ t.exc[e].step = 0 ∧
          t.exc[e].freq = s.reg (Reg.EXC_FREQ e) ∧ t.exc[e].ampl = s.reg (Reg.EXC_AMPL e))) ∧
    ((s.exc[e].state ≠ .shutdown ∨ (s.src (excSrc e 0)).state ≠ .idle) →
      ∃ t, exec (.excRestart p e) s = .next t ∧ s.RefusedAs t p (Reg.EXC_RESTART e) nakCond)) ∧
  (∀ (p : Port) (n : ChId) (v : Int) (s : State), s.Calm →
    s.Admits p (Reg.CH_EXC_SEL n) (dataAt (Reg.CH_EXC_SEL n) v) v →
    ((∀ f ∈ s.freqsAt (excOf v), ∀ b, bankAbove s.reg n b f = false) → s.cal[n].state = .idle →
      ∃ t, exec (.chExcSelWrite p n v) s = .next t ∧ t.reg (Reg.CH_EXC_SEL n) = v ∧
        t.reg Reg.CFG_GEN = (s.reg Reg.CFG_GEN + 1) % 2 ^ 32 ∧
        s.SameRegs t [Reg.CH_EXC_SEL n, Reg.CFG_GEN, Reg.CH_INJ_ABORT n] ∧
        t = { s.beat p with regs := t.regs, ch := t.ch, watch := t.watch, front := t.front, sched := t.sched } ∧
        (∀ m, m ≠ n → t.ch[m] = s.ch[m] ∧ t.front[m] = s.front[m] ∧ t.watch[m] = s.watch[m]) ∧
        (s.ch[n].state = .off ∨ s.reg (Reg.CH_EXC_SEL n) = v → t.ch = s.ch ∧ t.front = s.front) ∧
        (s.ch[n].state ≠ .off → s.reg (Reg.CH_EXC_SEL n) ≠ v → t.ch[n].state = .settle ∧ t.ch[n].reason = 2 ∧
          t.ch[n].loop = s.ch[n].loop ∧ t.front[n].settle = .waiting ∧ t.front[n].warm = false)) ∧
    ((∀ f ∈ s.freqsAt (excOf v), ∀ b, bankAbove s.reg n b f = false) → s.cal[n].state ≠ .idle →
      ∃ t, exec (.chExcSelWrite p n v) s = .next t ∧ s.RefusedAs t p (Reg.CH_EXC_SEL n) nakCond) ∧
    ((∃ f ∈ s.freqsAt (excOf v), ∃ b, bankAbove s.reg n b f = true) →
      ∃ t, exec (.chExcSelWrite p n v) s = .next t ∧ s.RefusedAs t p (Reg.CH_EXC_SEL n) nakHigh))

/-- Gains, trims and phase wait for their sample boundary, and the measured phase can be learned. -/
def Obligations.TrimsWaitForTheirBoundaryAndThePhaseIsLearned : Prop :=
  (∀ (p : Port) (n : ChId) (o : TrimObj) (v : Int) (s : State), s.Calm →
    s.Admits p (trimKey o n) (dataAt (trimKey o n) v) v →
    ((isStatic o = false ∨ s.cal[n].state = .idle) →
      ∃ t, exec (.staticTrimWrite p n o v) s = .next t ∧ s.Visible t (trimKey o n) v ∧
        t = { s.beat p with regs := t.regs, ch := t.ch } ∧ t.ch[n] = { s.ch[n] with trimPending := true } ∧
        ∀ m, m ≠ n → t.ch[m] = s.ch[m]) ∧
    (isStatic o = true → s.cal[n].state ≠ .idle →
      ∃ t, exec (.staticTrimWrite p n o v) s = .next t ∧ s.RefusedAs t p (trimKey o n) nakCond)) ∧
  (∀ (n : ChId) (s : State), s.Calm → s.lanesOn = true → s.ch[n].trimPending = true →
    (s.exc[s.excIx n].driving = false ∨ s.ch[n].armed.isSome = true) →
    ∃ t, exec (.trimBoundaryApply n) s = .next t ∧ t = { s with ch := t.ch } ∧
      t.ch[n] = { s.ch[n] with
        trims := s.ch[n].armed.getD (s.visTrims n), armed := none
        trimPending := decide (s.ch[n].armed.getD (s.visTrims n) ≠ s.visTrims n) } ∧
      ∀ m, m ≠ n → t.ch[m] = s.ch[m]) ∧
  (∀ (n : ChId) (s : State), s.Calm → s.lanesOn = true → s.ch[n].state = .track → 65 ≤ s.front[n].betaPeriods →
    ∃ t, exec (.betaMeasRefresh n) s = .next t ∧ t = { s with regs := t.regs, front := t.front } ∧
      s.OneReg t (Reg.CH_BETA_MEAS n) (Int.ofNat ((BitVec.ofInt 32 (s.ch[n].trims.beta * 256) +
        atan2Phase s.front[n].betaQ s.front[n].betaI).toNat / 256)) ∧
      t.front[n].betaFresh = true ∧ ∀ m, m ≠ n → t.front[m] = s.front[m]) ∧
  (∀ (p : Port) (n : ChId) (s : State), s.Calm → s.AdmitsCmd p (Reg.CH_BETA_LEARN n) →
    (s.ch[n].state = .track → s.front[n].betaFresh = true →
      ∃ t, exec (.chBetaLearn p n) s = .next t ∧ t = { s.beat p with regs := t.regs, ch := t.ch } ∧
        s.OneReg t (Reg.CH_BETA n) (s.reg (Reg.CH_BETA_MEAS n)) ∧ t.ch[n] = { s.ch[n] with trimPending := true } ∧
        ∀ m, m ≠ n → t.ch[m] = s.ch[m]) ∧
    ((s.ch[n].state ≠ .track ∨ s.front[n].betaFresh = false) →
      ∃ t, exec (.chBetaLearn p n) s = .next t ∧ s.RefusedAs t p (Reg.CH_BETA_LEARN n) nakCond))

/-- Hatband comparators and Glove overloads are marked and unmarked as their events say. -/
def Obligations.HatbandsAndGloveDriversKeepTheirMarks : Prop :=
  (∀ (n : ChId) (pin : Pin) (above : Bool) (s : State), s.Calm → s.lanesOn = true → s.sup.vanaHold = false →
    (∃ t, exec (.hatbandTrip n pin above) s = .next t ∧ t = { s with watch := t.watch } ∧
      (∀ m, m ≠ n → t.watch[m] = s.watch[m]) ∧
      t.watch[n] = { s.watch[n] with
        hbLive := s.watch[n].hbLive ||| BitVec.ofNat 8 (2 ^ hbBit pin above)
        hbSticky := s.watch[n].hbSticky ||| BitVec.ofNat 8 (2 ^ hbBit pin above)
        hbTripS := s.watch[n].hbTripS || Pin.isSin pin, hbTripC := s.watch[n].hbTripC || !Pin.isSin pin }) ∧
    ∃ t, exec (.hatbandRelease n pin above) s = .next t ∧ t = { s with watch := t.watch } ∧
      (∀ m, m ≠ n → t.watch[m] = s.watch[m]) ∧
      t.watch[n] = { s.watch[n] with hbLive := s.watch[n].hbLive &&& ~~~(BitVec.ofNat 8 (2 ^ hbBit pin above)) }) ∧
  (∀ (g : Fin 8) (s : State), s.Calm → s.alive = true → s.reg (glvMode g) ≠ 0 → s.glv[g].overload = false →
    s.Mild (glvSrc g) →
    ∃ t, exec (.glvOverload g) s = .next t ∧ RaiseFrame { s with glv := t.glv } t ∧ t.glv[g].overload = true ∧
      t.glvOut g = .hiz ∧ ∀ h, h ≠ g → t.glv[h] = s.glv[h]) ∧
  (∀ (p : Port) (g : Fin 8) (v : Int) (s : State), s.Calm → s.Admits p (glvMode g) (dataAt (glvMode g) v) v →
    ∃ t, exec (.glvModeWrite p g v) s = .next t ∧ s.Visible t (glvMode g) v ∧
      t = { s.beat p with regs := t.regs, glv := t.glv } ∧ (∀ h, h ≠ g → t.glv[h] = s.glv[h]) ∧
      t.glv[g].overload = (s.glv[g].overload && !decide ((s.src (glvSrc g)).state = .idle)))

/-- A probe is deferred by state or by frequency, or granted at its idle domain, and its run pauses a calibration. -/
def Obligations.ProbesAreGrantedDeferredAndRun : Prop :=
  (∀ (n : ChId) (s : State), s.Calm → s.alive = true → s.reg (Reg.CH_PROBE_MODE n) = 1 →
    s.sched[chDomain n] = {} →
    ∃ t, exec (.probePeriodDue n) s = .next t ∧ t = { s with front := t.front, sched := t.sched } ∧
      s.ProbeAsked t n) ∧
  (∀ (p : Port) (n : ChId) (s : State), s.Calm → s.AdmitsCmd p (Reg.CH_PROBE_START n) →
    (s.reg (Reg.CH_PROBE_MODE n) ≠ 0 → s.sched[chDomain n] = {} →
      ∃ t, exec (.chProbeStart p n) s = .next t ∧ t = { s.beat p with front := t.front, sched := t.sched } ∧
        s.ProbeAsked t n ∧ t.front[n].learn = s.front[n].learn) ∧
    (s.reg (Reg.CH_PROBE_MODE n) = 0 →
      ∃ t, exec (.chProbeStart p n) s = .next t ∧ s.RefusedAs t p (Reg.CH_PROBE_START n) nakCond)) ∧
  (∀ (p : Port) (n : ChId) (s : State), s.Calm → s.AdmitsCmd p (Reg.CH_RREF_LEARN n) →
    s.reg (Reg.CH_PROBE_MODE n) ≠ 0 → s.sched[chDomain n] = {} →
    ∃ t, exec (.chRrefLearn p n) s = .next t ∧ t = { s.beat p with front := t.front, sched := t.sched } ∧
      s.ProbeAsked t n ∧ t.front[n].learn = true) ∧
  (∀ (n : ChId) (s : State), s.Calm → s.lanesOn = true → s.front[n].probe = .pending →
    s.sched[chDomain n].running = some .probe →
    (s.probeBar n = none →
      ∃ t, exec (.probeRun n) s = .next t ∧ t = { s with front := t.front, cal := t.cal } ∧
        t.front[n] = { s.front[n] with
          probe := .running, probeRun := { crossings := if s.exc[s.excIx n].state = .run then 0 else 1 } } ∧
        (∀ m, m ≠ n → t.front[m] = s.front[m] ∧ t.cal[m] = s.cal[m]) ∧
        (s.cal[n].state = .acquire →
          t.cal[n] = { s.cal[n] with state := .paused, pause := 5, window := none, gates := false }) ∧
        (s.cal[n].state ≠ .acquire → t.cal[n] = s.cal[n])) ∧
    (∀ b, s.probeBar n = some b →
      ∃ t, exec (.probeRun n) s = .next t ∧ t = { s with front := t.front, sched := t.sched } ∧
        t.front[n] = { s.front[n] with probe := b } ∧ (∀ m, m ≠ n → t.front[m] = s.front[m]) ∧
        t.sched[chDomain n].running ≠ some .probe ∧ ∀ d, d ≠ chDomain n → t.sched[d] = s.sched[d]))

/-- A probe publishes resistance, impedance and copper temperature, and a lost validity falls back. -/
def Obligations.ProbeResultsAndTemperatureSources : Prop :=
  (∀ (n : ChId) (vs us zs vc uc zc : Int) (s : State), s.Calm → s.lanesOn = true → s.front[n].probe = .running →
    s.Mild (chSrc n 14) → s.Mild (chSrc n 15) → ∀ r, r = s.front[n].probeRun → 72 < r.crossings →
    ∀ a b c d, a = rwOf n true (windowOf r.stepS r.stepN vs) (windowOf r.baseS r.baseN us) →
    b = rwOf n false (windowOf r.stepC r.stepN vc) (windowOf r.baseC r.baseN uc) →
    c = zwOf (windowOf r.toneSI r.toneN (zs * trigOne)) r.toneSQ → d = zwOf (windowOf r.toneCI r.toneN (zc * trigOne)) r.toneCQ →
    ∃ t, exec (.probeComplete n vs us zs vc uc zc) s = .next t ∧ t.front[n].probe = .idle ∧ t.front[n].probeRun = {} ∧
      t.reg (Reg.CH_RW_SIN n) = a ∧ t.reg (Reg.CH_RW_COS n) = b ∧
      t.reg (Reg.CH_ZW_SIN n) = c ∧ t.reg (Reg.CH_ZW_COS n) = d ∧ t.front[n].learn = false ∧
      (s.front[n].learn = true → t.reg (Reg.CH_RREF_SIN n) = a ∧ t.reg (Reg.CH_RREF_COS n) = b ∧
        t.reg (Reg.CH_ZREF_SIN n) = c ∧ t.reg (Reg.CH_ZREF_COS n) = d) ∧
      (s.front[n].learn = false → s.reg (Reg.CH_RREF_SIN n) ≠ 0 → s.reg (Reg.CH_RREF_COS n) ≠ 0 →
        t.reg (Reg.CH_TEMP_CU n) = clampI (-32768) 32767 (divRound
          (copperTemp (s.reg (Reg.CH_TREF n)) a (s.reg (Reg.CH_RREF_SIN n)) +
            copperTemp (s.reg (Reg.CH_TREF n)) b (s.reg (Reg.CH_RREF_COS n))) 2)) ∧
      s.SameRegs t [Reg.CH_RW_SIN n, Reg.CH_RW_COS n, Reg.CH_ZW_SIN n, Reg.CH_ZW_COS n, Reg.CH_RREF_SIN n,
        Reg.CH_RREF_COS n, Reg.CH_ZREF_SIN n, Reg.CH_ZREF_COS n, Reg.CH_TEMP_CU n, Reg.CH_TEMP_USED n,
        Reg.CH_TEMP n, Reg.FC_LOG_LOST] ∧
      RaiseFrame { s with regs := t.regs, front := t.front, sched := t.sched, cal := t.cal } t ∧
      ∀ m, m ≠ n → t.front[m] = s.front[m] ∧ t.cal[m] = s.cal[m]) ∧
  (∀ (n : ChId) (s : State), s.Calm → s.alive = true → s.serviceOn = true → s.front[n].cuOk = true →
    ∃ t, exec (.copperTempValidityLoss n) s = .next t ∧ t = { s with regs := t.regs, front := t.front } ∧
      t.front[n] = { s.front[n] with cuOk := false } ∧ (∀ m, m ≠ n → t.front[m] = s.front[m]) ∧
      (s.reg (Reg.CH_TEMP_USED n) ≠ 0 → t.regs = s.regs) ∧
      (s.reg (Reg.CH_TEMP_USED n) = 0 → t.reg (Reg.CH_TEMP_USED n) = s.reg (Reg.CH_TEMP_FALLBACK n) ∧
        (s.reg (Reg.CH_TEMP_FALLBACK n) = 1 → t.reg (Reg.CH_TEMP n) = s.dieOf n) ∧
        (s.reg (Reg.CH_TEMP_FALLBACK n) = 2 → t.reg (Reg.CH_TEMP n) = s.reg (Reg.CH_TEMP_EXT n)) ∧
        s.SameRegs t [Reg.CH_TEMP_USED n, Reg.CH_TEMP n]))

/-- A design or coefficient write changes an inactive bank within its limits, and is refused on an active one. -/
def Obligations.BankChangesReachInactiveBanksOnly : Prop :=
  (∀ (p : Port) (n : ChId) (b : Bool) (s : State) (f z : Int), s.Calm →
    s.AdmitsCmd p (if b then Reg.CH_B_DESIGN n else Reg.CH_A_DESIGN n) →
    f = s.reg (if b then Reg.CH_B_BW_SET n else Reg.CH_A_BW_SET n) →
    z = s.reg (if b then Reg.CH_B_ZETA_SET n else Reg.CH_A_ZETA_SET n) → 50 ≤ f → f ≤ 8000 → 700 ≤ z → z ≤ 1500 →
    (s.bankBusy n b = false →
      s.bankCheck (overlay s.reg (bankEntries n b (designOf f z (s.reg (Reg.CH_VEL_FS n))))) n = .ok () →
      ∃ t, exec (.chDesign p n b) s = .next t ∧ t = { s.beat p with regs := t.regs } ∧
        (∀ i : Fin 8, t.reg (bankKey b (i.val + 1) n) = (designOf f z (s.reg (Reg.CH_VEL_FS n))).getD i.val 0) ∧
        s.SameRegs t ((List.range 8).map fun i => bankKey b (i + 1) n)) ∧
    (s.bankBusy n b = true →
      ∃ t, exec (.chDesign p n b) s = .next t ∧
        s.RefusedAs t p (if b then Reg.CH_B_DESIGN n else Reg.CH_A_DESIGN n) nakCond)) ∧
  (∀ (p : Port) (n : ChId) (o : BankObj) (v : Int) (s : State), s.Calm →
    s.Admits p (bankObjKey o n) (dataAt (bankObjKey o n) v) v →
    (bankObjCheck o n s (overlay s.reg [(bankObjKey o n, v)]) (bankObjKey o n) v = .ok () →
      ∃ t, exec (.bankCoeffWrite p n o v) s = .next t ∧ s.Visible t (bankObjKey o n) v ∧
        t = { s.beat p with regs := t.regs }) ∧
    ((∃ b c, (o = .mant b c ∨ o = .shift b c) ∧ s.bankBusy n b = true) ∨ ((o = .velFs ∨ o = .accFs) ∧ s.ch[n].state ≠ .off) →
      ∃ t, exec (.bankCoeffWrite p n o v) s = .next t ∧ s.RefusedAs t p (bankObjKey o n) nakCond))

/-- Swaps are armed by command, fence or instant, and a due swap exchanges the banks at a sample boundary. -/
def Obligations.BankSwapsAreArmedAndApplied : Prop :=
  (∀ (p : Port) (n : ChId) (s : State), s.Calm → s.AdmitsCmd p (Reg.CH_BANK_SWAP n) →
    (s.ch[n].swap = .none → ∃ t, exec (.chBankSwap p n) s = .next t ∧ t = { s.beat p with ch := t.ch } ∧
      t.ch[n] = { s.ch[n] with swap := .sample p } ∧ ∀ m, m ≠ n → t.ch[m] = s.ch[m]) ∧
    (s.ch[n].swap ≠ .none → ∃ t, exec (.chBankSwap p n) s = .next t ∧ s.RefusedAs t p (Reg.CH_BANK_SWAP n) nakCond)) ∧
  (∀ (p : Port) (n : ChId) (v : Int) (s : State), s.Calm →
    s.Admits p (Reg.CH_BANK_SEL n) (dataAt (Reg.CH_BANK_SEL n) v) v →
    ((v = s.otherBank n → s.ch[n].swap = .none) →
      ∃ t, exec (.chBankSelWrite p n v) s = .next t ∧ s.Visible t (Reg.CH_BANK_SEL n) (if v = s.otherBank n then v else s.reg (Reg.CH_BANK_SEL n)) ∧
        t = { s.beat p with regs := t.regs, ch := t.ch } ∧ (∀ m, m ≠ n → t.ch[m] = s.ch[m]) ∧
        t.ch[n] = if v = s.otherBank n then { s.ch[n] with swap := .fence p } else s.ch[n]) ∧
    (v = s.otherBank n → s.ch[n].swap ≠ .none →
      ∃ t, exec (.chBankSelWrite p n v) s = .next t ∧ s.RefusedAs t p (Reg.CH_BANK_SEL n) nakCond)) ∧
  (∀ (p : Port) (n : ChId) (x : Time32) (s : State), s.Calm →
    s.Admits p (Reg.CH_BANK_SWAP_AT n) (dataAt (Reg.CH_BANK_SWAP_AT n) (Int.ofNat x.toNat)) (Int.ofNat x.toNat) →
    s.ch[n].swap = .none →
    ∃ t, exec (.chBankSwapAt p n x) s = .next t ∧ t = { s.beat p with regs := t.regs, ch := t.ch } ∧
      s.OneReg t (Reg.CH_BANK_SWAP_AT n) (Int.ofNat x.toNat) ∧ t.ch[n] = { s.ch[n] with swap := .time x false } ∧
      ∀ m, m ≠ n → t.ch[m] = s.ch[m]) ∧
  (∀ (p : Port) (n : ChId) (x : Time32) (due : Bool) (s : State), s.Calm → s.AdmitsCmd p (Reg.CH_BANK_SWAP_CANCEL n) →
    s.ch[n].swap = .time x due →
    ∃ t, exec (.chBankSwapCancel p n) s = .next t ∧ t = { s.beat p with ch := t.ch } ∧
      t.ch[n] = { s.ch[n] with swap := .none } ∧ ∀ m, m ≠ n → t.ch[m] = s.ch[m]) ∧
  (∀ (n : ChId) (x : Time32) (s : State), s.Calm → s.lanesOn = true → s.ch[n].swap = .time x false →
    reached (s.t0 n) x = true →
    ∃ t, exec (.timedSwapDue n) s = .next t ∧ t = { s with ch := t.ch } ∧
      t.ch[n] = { s.ch[n] with swap := .time x true } ∧ ∀ m, m ≠ n → t.ch[m] = s.ch[m]) ∧
  (∀ (n : ChId) (s : State), s.Calm → s.lanesOn = true → s.ch[n].swap.due = true → s.Mild (chSrc n 13) →
    ∃ t, exec (.bankSwapApply n) s = .next t ∧ t.ch[n].bankB = !s.ch[n].bankB ∧ t.ch[n].swap = .none ∧
      t.reg (Reg.CH_BANK_ACTIVE n) = b2i (!s.ch[n].bankB) ∧ t.reg (Reg.CH_BANK_SEL n) = b2i (!s.ch[n].bankB) ∧
      t.reg (Reg.CH_SWAP_COUNT n) = satInc 32 (s.reg (Reg.CH_SWAP_COUNT n)) ∧
      s.SameRegs t [Reg.CH_BANK_ACTIVE n, Reg.CH_BANK_SEL n, Reg.CH_SWAP_COUNT n, Reg.FC_LOG_LOST] ∧
      RaiseFrame { s with regs := t.regs, ch := t.ch } t ∧ (∀ m, m ≠ n → t.ch[m] = s.ch[m]) ∧
      (s.ch[n].state = .off → t.ch[n].loop = s.ch[n].loop) ∧
      (s.ch[n].state ≠ .off → t.ch[n].loop = { s.ch[n].loop with
        i := (swapI s.ch[n].loop.i (coefsOf s.reg n s.ch[n].bankB) (coefsOf s.reg n (!s.ch[n].bankB))).1 }))

/-- Loop tests are granted, begin, stop and end as commanded, and a capture is armed and stopped. -/
def Obligations.LoopTestsAndCapturesFollowTheirCommands : Prop :=
  (∀ (p : Port) (n : ChId) (s : State), s.Calm → s.AdmitsCmd p (Reg.CH_INJ_START n) →
    (s.testAllowed n = true → s.sched[chDomain n] = {} →
      ∃ t, exec (.chInjStart p n) s = .next t ∧ t = { s.beat p with ch := t.ch, sched := t.sched } ∧
        t.ch[n] = { s.ch[n] with inj := { s.injParams n with state := .running } } ∧
        t.sched[chDomain n].running = some .test ∧
        (∀ m, m ≠ n → t.ch[m] = s.ch[m]) ∧ ∀ d, d ≠ chDomain n → t.sched[d] = s.sched[d]) ∧
    (∀ a, s.sched[chDomain n].running = some a → s.testAllowed n = true → a ≠ .test →
      s.sched[chDomain n].edge = none → s.sched[chDomain n].pending = none → s.ch[n].inj.state ≠ .running →
      ∃ t, exec (.chInjStart p n) s = .next t ∧ t = { s.beat p with ch := t.ch, sched := t.sched } ∧
        t.ch[n] = { s.ch[n] with inj := { s.ch[n].inj with state := .pending } } ∧
        t.sched[chDomain n] = { s.sched[chDomain n] with pending := some .test } ∧
        (∀ m, m ≠ n → t.ch[m] = s.ch[m]) ∧ ∀ d, d ≠ chDomain n → t.sched[d] = s.sched[d]) ∧
    (s.testAllowed n = false →
      ∃ t, exec (.chInjStart p n) s = .next t ∧ s.RefusedAs t p (Reg.CH_INJ_START n) nakCond)) ∧
  (∀ (n : ChId) (s : State), s.Calm → s.lanesOn = true → s.ch[n].inj.state = .pending →
    s.sched[chDomain n].running = none → s.sched[chDomain n].pending = some .test →
    (s.testAllowed n = true →
      ∃ t, exec (.injTestBegin n) s = .next t ∧ t = { s with ch := t.ch, sched := t.sched } ∧
        (∀ m, m ≠ n → t.ch[m] = s.ch[m]) ∧ t.ch[n] = { s.ch[n] with inj := { s.injParams n with state := .running } } ∧
        t.sched[chDomain n] =
          { s.sched[chDomain n] with running := some .test, pending := none, since := s.now, edge := none } ∧
        ∀ d, d ≠ chDomain n → t.sched[d] = s.sched[d]) ∧
    (s.testAllowed n = false →
      ∃ t, exec (.injTestBegin n) s = .next t ∧ t = { s with regs := t.regs, ch := t.ch, sched := t.sched } ∧
        t.ch[n] = { s.ch[n] with inj := { s.ch[n].inj with state := .aborted } } ∧ (∀ m, m ≠ n → t.ch[m] = s.ch[m]) ∧
        s.OneReg t (Reg.CH_INJ_ABORT n) (if s.ch[n].state = .track then 2 else 4) ∧
        t.sched[chDomain n].pending = none ∧ ∀ d, d ≠ chDomain n → t.sched[d] = s.sched[d])) ∧
  (∀ (p : Port) (n : ChId) (s : State), s.Calm → s.AdmitsCmd p (Reg.CH_INJ_STOP n) →
    ∃ t, exec (.chInjStop p n) s = .next t ∧ (∀ m, m ≠ n → t.ch[m] = s.ch[m]) ∧
      (s.ch[n].inj.state = .pending → t.ch[n].inj.state = .aborted ∧ s.OneReg t (Reg.CH_INJ_ABORT n) 1) ∧
      (s.ch[n].inj.state = .running → t = { s.beat p with ch := t.ch } ∧
        t.ch[n].inj.stopping = some (s.ch[n].inj.stopping.getD (true, 1))) ∧
      (s.ch[n].inj.state ≠ .pending → s.ch[n].inj.state ≠ .running → t = s.beat p)) ∧
  (∀ (n : ChId) (s : State), s.Calm → s.lanesOn = true → s.ch[n].inj.state = .running →
    s.ch[n].inj.stopping = none →
    ∃ t, exec (.injDurationEnd n) s = .next t ∧ t = { s with ch := t.ch } ∧ (∀ m, m ≠ n → t.ch[m] = s.ch[m]) ∧
      t.ch[n] = { s.ch[n] with inj := { s.ch[n].inj with stopping := some (false, 0) } }) ∧
  (∀ (p : Port) (s : State), s.Calm → s.AdmitsCmd p Reg.CAP_ARM →
    ∃ t, exec (.capArm p) s = .next t ∧ t = { s.beat p with cap := t.cap, front := t.front } ∧
      (∀ n : ChId, t.front[n] = { s.front[n] with capN := 0 }) ∧ t.cap.recs = [] ∧ t.cap.trigger = s.reg Reg.CAP_TRIGGER ∧
      t.cap.ring = decide (s.reg Reg.CAP_MODE = 1) ∧ t.cap.post = s.regN Reg.CAP_POST ∧
      (∀ n : ChId, t.cap.mask.contains n.val = s.flag (Reg.CH_CAP_EN n)) ∧
      (s.reg Reg.CAP_TRIGGER ≠ 0 → t.cap.state = if s.reg Reg.CAP_MODE = 1 then .running else .armed) ∧
      (s.reg Reg.CAP_TRIGGER = 0 →
        t.cap.state = if s.reg Reg.CAP_MODE = 1 ∧ s.regN Reg.CAP_POST = 0 then .done else .triggered)) ∧
  (∀ (p : Port) (s : State), s.Calm → s.AdmitsCmd p Reg.CAP_STOP →
    ∃ t, exec (.capStop p) s = .next t ∧ t = { s.beat p with cap := { s.cap with state := .idle } })

/-- A channel is enabled into a cold SETTLE, seeded from its means, resumed from its hold and taken into TRACK. -/
def Obligations.ChannelsSettleColdSeedAndTrack : Prop :=
  (∀ (p : Port) (n : ChId) (s : State), s.Calm → s.Admits p (Reg.CH_ENABLE n) (dataAt (Reg.CH_ENABLE n) 1) 1 →
    (s.ch[n].state = .off → s.lanesOn = true →
      ∃ t, exec (.chEnableWrite p n 1) s = .next t ∧ s.Visible t (Reg.CH_ENABLE n) 1 ∧
        t = { s.beat p with regs := t.regs, ch := t.ch, watch := t.watch, front := t.front, sched := t.sched } ∧
        t.ch[n] = { s.ch[n] with state := .settle, reason := 1 } ∧ t.front[n].settle = .waiting ∧
        t.front[n].warm = false ∧ s.ProbeLeft t n ∧ ∀ m, m ≠ n → t.ch[m] = s.ch[m] ∧ t.front[m] = s.front[m] ∧ t.watch[m] = s.watch[m]) ∧
    (s.ch[n].state ≠ .off →
      ∃ t, exec (.chEnableWrite p n 1) s = .next t ∧ s.Visible t (Reg.CH_ENABLE n) 1 ∧
        t = { s.beat p with regs := t.regs })) ∧
  (∀ (p : Port) (n : ChId) (s : State), s.Admits p (Reg.CH_ENABLE n) (dataAt (Reg.CH_ENABLE n) 0) 0 →
    s.ch[n].state ≠ .off →
    ∃ t, exec (.chEnableWrite p n 0) s = .next t ∧ t.reg (Reg.CH_ENABLE n) = 0 ∧ t.ch[n].state = .off ∧
      t.ch[n].reason = 1 ∧ t.ch[n].loop = s.ch[n].loop ∧ t.ch[n].out = s.ch[n].out ∧
      (∀ m, m ≠ n → t.ch[m].state = s.ch[m].state ∧ t.ch[m].loop = s.ch[m].loop) ∧
      (s.Calm → s.ch[n].state ≠ .track → s.cal[n].state = .idle → s.front[n].probe = .idle →
        s.Visible t (Reg.CH_ENABLE n) 0 ∧
          t = { s.beat p with regs := t.regs, ch := t.ch, watch := t.watch, front := t.front } ∧
          t.front[n] = { s.front[n] with homePort := none, align := none } ∧ ∀ m, m ≠ n → t.front[m] = s.front[m])) ∧
  (∀ (n : ChId) (s : State), s.Calm → s.lanesOn = true → s.ch[n].state = .settle →
    ∀ k a b, s.front[n].settle = .seeding k a b → periodSamples s.exc[s.excIx n].freq ≤ k → s.seedFrom n = none →
    ∃ t, exec (.settleSeed n) s = .next t ∧
      t = { s with regs := t.regs, ch := t.ch, watch := t.watch, front := t.front } ∧ s.OneReg t (Reg.CH_HOMED n) 0 ∧
      t.ch[n].loop = (⟨atan2Phase a b,
        wrapS 16 (nearestTurn (Int.ofNat ((atan2Phase a b).toNat / 256)) s.ch[n].out.pos), 0, 0, 0, 0, 0⟩ : Loop) ∧
      t.ch[n].state = .settle ∧ t.watch[n].win = [] ∧ t.front[n].settle = .running ∧
      ∀ m, m ≠ n → t.ch[m] = s.ch[m] ∧ t.front[m] = s.front[m] ∧ t.watch[m] = s.watch[m]) ∧
  (∀ (n : ChId) (s : State), s.Calm → s.lanesOn = true → s.ch[n].state = .settle →
    ∀ k a b, s.front[n].settle = .seeding k a b → periodSamples s.exc[s.excIx n].freq ≤ k →
    ∀ q r, s.seedFrom n = some (q, r) →
    ∀ c, c = wrapS 16 (nearestTurn (Int.ofNat ((atan2Phase a b).toNat / 256)) (s.blockPos r n s.ch[n].out.time)) →
    ∃ t, exec (.settleSeed n) s = .next t ∧ t.front[n].settle = .running ∧ t.reg (Reg.CH_HOMED n) = blockHomed r n ∧
      t.reg (Reg.CH_HOME_OFS n) = blockInt r n 40 2 ∧ t.ch[n].state = .settle ∧
      t.ch[n].loop = { s.ch[n].loop with
        th := atan2Phase a b, carry := c, w := 0, u := 0, v := blockInt r n 30 5, a := blockInt r n 35 5
        i := seedI (coefsOf s.reg n s.ch[n].bankB) (blockInt r n 30 5) } ∧
      ∀ m, m ≠ n → t.ch[m] = s.ch[m] ∧ t.front[m] = s.front[m] ∧ t.watch[m] = s.watch[m]) ∧
  (∀ (n : ChId) (s : State), s.Calm → s.ch[n].state = .settle → s.front[n].settle = .holding 0 →
    ∃ t, exec (.warmSettleResume n) s = .next t ∧ t = { s with front := t.front } ∧
      t.front[n] = { s.front[n] with settle := .running, settlePeriods := 0, settleClean := false } ∧
      ∀ m, m ≠ n → t.front[m] = s.front[m]) ∧
  (∀ (n : ChId) (s : State), s.Calm → s.lanesOn = true → s.ch[n].state = .settle → s.front[n].settle = .running →
    s.regN (Reg.CH_SETTLE_N n) ≤ s.front[n].settlePeriods → s.exc[s.excIx n].changing = false →
    s.front[n].probe ≠ .deferredState → s.front[n].probe ≠ .deferredFreq →
    ∃ t, exec (.settleComplete n) s = .next t ∧ t = { s with ch := t.ch, watch := t.watch } ∧
      t.ch[n] = { s.ch[n] with state := .track, reason := 16 } ∧
      ∀ m, m ≠ n → t.ch[m] = s.ch[m] ∧ t.watch[m] = s.watch[m])

/-- A settle timeout and a used-up coast budget end in INVALID, and COAST is left as its cause ends. -/
def Obligations.TimeoutsAndCoastEndsMoveTheChannel : Prop :=
  (∀ (n : ChId) (s : State), s.Calm → s.lanesOn = true → s.ch[n].state = .settle → s.Mild (chSrc n 8) →
    s.exc[s.excIx n].changing = false →
    ∃ t, exec (.chSettleTmo n) s = .next t ∧ t.ch[n].state = .invalid ∧ t.ch[n].reason = 14 ∧
      t.ch[n].sticky[12] = true ∧ t.ch[n].loop = s.ch[n].loop ∧ (∀ m, m ≠ n → t.ch[m] = s.ch[m]) ∧
      t.reg (Reg.CH_INVALID_CNT n) = satInc 32 (s.reg (Reg.CH_INVALID_CNT n)) ∧
      s.SameRegs t [Reg.CH_INVALID_CNT n, Reg.FC_LOG_LOST] ∧
      s.ProbeLeft t n ∧ (∀ m, m ≠ n → t.front[m] = s.front[m]) ∧
      RaiseFrame { s with regs := t.regs, ch := t.ch, watch := t.watch, front := t.front, sched := t.sched } t) ∧
  (∀ (n : ChId) (s : State), s.Calm → s.lanesOn = true → s.ch[n].state = .coast → s.Mild (chSrc n 7) →
    s.regN (Reg.CH_COAST_LIM n) * 1000 ≤ s.watch[n].coastUsed * 120 →
    ∃ t, exec (.chCoastExpired n) s = .next t ∧ t.ch[n].state = .invalid ∧ t.ch[n].reason = 13 ∧
      t.ch[n].sticky[11] = true ∧ t.ch[n].loop = s.ch[n].loop ∧ (∀ m, m ≠ n → t.ch[m] = s.ch[m]) ∧
      t.reg (Reg.CH_INVALID_CNT n) = satInc 32 (s.reg (Reg.CH_INVALID_CNT n)) ∧
      s.SameRegs t [Reg.CH_INVALID_CNT n, Reg.FC_LOG_LOST] ∧
      s.ProbeLeft t n ∧ (∀ m, m ≠ n → t.front[m] = s.front[m]) ∧
      RaiseFrame { s with regs := t.regs, ch := t.ch, watch := t.watch, front := t.front, sched := t.sched } t) ∧
  (∀ (n : ChId) (s : State), s.Calm → s.lanesOn = true → s.ch[n].state = .coast → s.watch[n].coastCause = true →
    s.exitOk n = true → s.front[n].probe ≠ .deferredState → s.front[n].probe ≠ .deferredFreq →
    ∃ t, exec (.coastExit n) s = .next t ∧
      t = { s with ch := t.ch, watch := t.watch, front := t.front, sched := t.sched } ∧
      (∀ m, m ≠ n → t.ch[m] = s.ch[m] ∧ t.front[m] = s.front[m] ∧ t.watch[m] = s.watch[m]) ∧
      (s.watch[n].freqChanged = true → t.ch[n] = { s.ch[n] with state := .settle, reason := 3 } ∧
        t.front[n].settle = .holding (senseWindow s.exc[s.excIx n].freq) ∧ t.front[n].warm = true ∧ s.ProbeLeft t n) ∧
      (s.watch[n].freqChanged = false → t.sched = s.sched) ∧
      (s.watch[n].freqChanged = false → ((s.users (s.excIx n)).any fun m => s.watch[m].excWait) = true →
        t.ch = s.ch ∧ t.front = s.front ∧ t.watch[n].excWait = true ∧ t.watch[n].coastCause = false) ∧
      (s.watch[n].freqChanged = false → ((s.users (s.excIx n)).any fun m => s.watch[m].excWait) = false →
        t.ch[n] = { s.ch[n] with state := .track, reason := 17 } ∧ t.front = s.front))

/-- INVALID is left for a cold SETTLE by command or automatically, and CH_HOME waits for the sample boundary. -/
def Obligations.InvalidIsLeftColdAndHomingIsArmed : Prop :=
  (∀ (n : ChId) (s : State), s.Calm → s.lanesOn = true → s.ch[n].state = .invalid →
    s.flag (Reg.CH_AUTO_RECOVER n) = true → s.exitBase n = true →
    ∃ t, exec (.autoRecover n) s = .next t ∧
      t = { s with ch := t.ch, watch := t.watch, front := t.front, sched := t.sched } ∧
      t.ch[n] = { s.ch[n] with state := .settle, reason := 15 } ∧ t.front[n].settle = .waiting ∧
      t.front[n].warm = false ∧ s.ProbeLeft t n ∧ ∀ m, m ≠ n → t.ch[m] = s.ch[m] ∧ t.front[m] = s.front[m] ∧ t.watch[m] = s.watch[m]) ∧
  (∀ (p : Port) (n : ChId) (s : State), s.Calm → s.AdmitsCmd p (Reg.CH_RECOVER n) →
    (s.ch[n].state = .invalid → s.exitBase n = true →
      ∃ t, exec (.chRecover p n) s = .next t ∧
        t = { s.beat p with ch := t.ch, watch := t.watch, front := t.front, sched := t.sched } ∧
        t.ch[n] = { s.ch[n] with state := .settle, reason := 15 } ∧ t.front[n].settle = .waiting ∧
        t.front[n].warm = false ∧ s.ProbeLeft t n ∧ ∀ m, m ≠ n → t.ch[m] = s.ch[m] ∧ t.front[m] = s.front[m] ∧ t.watch[m] = s.watch[m]) ∧
    ((s.ch[n].state ≠ .invalid ∨ s.exitBase n = false) →
      ∃ t, exec (.chRecover p n) s = .next t ∧ s.RefusedAs t p (Reg.CH_RECOVER n) nakCond)) ∧
  (∀ (p : Port) (n : ChId) (s : State), s.Calm → s.AdmitsCmd p (Reg.CH_HOME n) →
    (s.ch[n].state = .track →
      ∃ t, exec (.chHome p n) s = .next t ∧ t = { s.beat p with front := t.front } ∧
        t.front[n] = { s.front[n] with homePort := some p } ∧ ∀ m, m ≠ n → t.front[m] = s.front[m]) ∧
    (s.ch[n].state ≠ .track → ∃ t, exec (.chHome p n) s = .next t ∧ s.RefusedAs t p (Reg.CH_HOME n) nakCond))

/-- A run is requested by command or trigger, granted with its configuration, cancelled or ended by drift. -/
def Obligations.CalibrationRunsAreRequestedGrantedAndCancelled : Prop :=
  (∀ (p : Port) (n : ChId) (s : State), s.Calm → s.AdmitsCmd p (Reg.CAL_START n) →
    (s.updWaits = false → (s.reg (Reg.CAL_KIND n) ≠ 1 ∨ s.reg (Reg.CAL_SCOPE n) ≠ 1) →
      (s.cal[n].state ≠ .idle ∨ (s.dev.state ≠ .run ∧ s.dev.state ≠ .service) ∨ s.ch[n].state = .off ∨
        s.kindAllowed n = false) →
      ∃ t, exec (.calStart p n) s = .next t ∧ s.RefusedAs t p (Reg.CAL_START n) nakCond) ∧
    (s.updWaits = false → (s.reg (Reg.CAL_KIND n) ≠ 1 ∨ s.reg (Reg.CAL_SCOPE n) ≠ 1) → s.cal[n].state = .idle →
      (s.dev.state = .run ∨ s.dev.state = .service) → s.ch[n].state ≠ .off → s.kindAllowed n = true →
      s.sched[chDomain n].pending = none →
      ∃ t, exec (.calStart p n) s = .next t ∧ t = { s.beat p with regs := t.regs, cal := t.cal, sched := t.sched } ∧
        s.OneReg t (Reg.CAL_CNT_STARTED n) (satInc 32 (s.reg (Reg.CAL_CNT_STARTED n))) ∧
        t.cal[n] = { s.cal[n] with state := .pending, trigger := 3, commanded := true, repeatDue := false } ∧
        t.sched[chDomain n] = { s.sched[chDomain n] with pending := some .cal } ∧
        (∀ d, d ≠ chDomain n → t.sched[d] = s.sched[d]) ∧ ∀ m, m ≠ n → t.cal[m] = s.cal[m]) ∧
    (s.updWaits = true → ∃ t, exec (.calStart p n) s = .next t ∧ s.RefusedAs t p (Reg.CAL_START n) nakMgmt) ∧
    (s.updWaits = false → s.reg (Reg.CAL_KIND n) = 1 → s.reg (Reg.CAL_SCOPE n) = 1 →
      ∃ t, exec (.calStart p n) s = .next t ∧ s.RefusedAs t p (Reg.CAL_START n) nakRange)) ∧
  (∀ (p : Port) (n : ChId) (s : State), s.Calm → s.AdmitsCmd p (Reg.CAL_CANCEL n) →
    ((s.cal[n].state = .pending ∨ s.cal[n].state = .acquire ∨ s.cal[n].state = .paused) → s.Mild (chSrc n 16) →
      ∃ t, exec (.calCancel p n) s = .next t ∧ t.cal[n].state = .idle ∧ t.cal[n].result = 5 ∧ t.cal[n].detail = 1 ∧
        t.cal[n].holdUntil = s.cal[n].holdUntil ∧ t.cal[n].window = none ∧ (∀ m, m ≠ n → t.cal[m] = s.cal[m]) ∧
        t.reg (Reg.CAL_CNT_ABORTED n) = satInc 32 (s.reg (Reg.CAL_CNT_ABORTED n)) ∧
        s.SameRegs t [Reg.CAL_CNT_ABORTED n, Reg.FC_LOG_LOST] ∧
        (∀ d, d ≠ chDomain n → t.sched[d] = s.sched[d]) ∧
        RaiseFrame { s.beat p with regs := t.regs, cal := t.cal, sched := t.sched } t) ∧
    ((s.cal[n].state ≠ .pending ∧ s.cal[n].state ≠ .acquire ∧ s.cal[n].state ≠ .paused) →
      ∃ t, exec (.calCancel p n) s = .next t ∧ s.RefusedAs t p (Reg.CAL_CANCEL n) nakCond)) ∧
  (∀ (n : ChId) (x : Nat) (s : State), s.Calm → s.alive = true → s.serviceOn = true → s.cal[n].repeatDue = false →
    s.calAuto n = true → s.calTrigger n = some x → s.updWaits = false → s.sched[chDomain n].pending = none →
    ∃ t, exec (.calTriggerEval n) s = .next t ∧ t = { s with regs := t.regs, cal := t.cal, sched := t.sched } ∧
      s.OneReg t (Reg.CAL_CNT_STARTED n) (satInc 32 (s.reg (Reg.CAL_CNT_STARTED n))) ∧
      t.cal[n] = { s.cal[n] with state := .pending, trigger := x, commanded := false } ∧
      t.sched[chDomain n] = { s.sched[chDomain n] with pending := some .cal } ∧ ∀ m, m ≠ n → t.cal[m] = s.cal[m]) ∧
  (∀ (n : ChId) (s : State), s.Calm → s.alive = true → s.serviceOn = true → s.cal[n].state = .idle →
    s.cal[n].repeatDue = true → (s.dev.state = .run ∨ s.dev.state = .service) → s.updWaits = false →
    s.sched[chDomain n].pending = none →
    ∃ t, exec (.calTriggerEval n) s = .next t ∧ t = { s with regs := t.regs, cal := t.cal, sched := t.sched } ∧
      t.cal[n] = { s.cal[n] with state := .pending, trigger := 5, repeatDue := false } ∧
      ∀ m, m ≠ n → t.cal[m] = s.cal[m]) ∧
  (∀ (n : ChId) (s : State), s.Calm → s.alive = true → s.serviceOn = true → s.Mild (chSrc n 16) →
    (s.cal[n].state = .acquire ∨ s.cal[n].state = .paused ∨ s.cal[n].state = .evaluate) →
    s.cal[n].cfg.tempTol.toNat < (s.reg (Reg.CH_TEMP n) - s.cal[n].tStart).natAbs → s.flag Reg.CAL_AUTO_ALL = false →
    ∃ t, exec (.calTriggerEval n) s = .next t ∧ t.cal[n].state = .idle ∧ t.cal[n].result = 5 ∧ t.cal[n].detail = 3 ∧
      t.reg (Reg.CAL_CNT_ABORTED n) = satInc 32 (s.reg (Reg.CAL_CNT_ABORTED n)) ∧ t.bead = s.bead ∧ t.sets = s.sets) ∧
  (∀ (n : ChId) (auto fits : Bool) (s : State), s.Calm → s.alive = true → s.serviceOn = true → s.unitGranted n = true →
    auto = (s.cal[n].trigger = 1 || s.cal[n].trigger = 2 || s.cal[n].trigger = 4) →
    fits = (s.kindAllowed n && !(s.reg (Reg.CAL_KIND n) = 1 && s.reg (Reg.CAL_SCOPE n) = 1) &&
      (s.dev.state = .run || s.dev.state = .service)) →
    (fits = true → s.ch[n].state ≠ .off → (auto = true → (s.calTrigger n).isSome = true) →
      ∃ t, exec (.calGrant n) s = .next t ∧ t = { s with regs := t.regs, cal := t.cal, sched := t.sched } ∧
        (∀ m, m ≠ n → t.cal[m] = s.cal[m]) ∧ t.cal[n].cfg = s.calCfg n ∧ t.cal[n].target = s.governing n ∧
        t.cal[n].tStart = s.reg (Reg.CH_TEMP n) ∧ t.cal[n].stats = [] ∧ t.cal[n].numObs = 0 ∧ t.cal[n].window = none ∧
        t.cal[n].granted = true ∧
        (t.cal[n].state, t.cal[n].pause) = (if s.ch[n].state = .track then (.acquire, 3) else (.paused, 4)) ∧
        t.sched[chDomain n].running = some .cal ∧ t.sched[chDomain n].pending = none ∧
        (∀ d, d ≠ chDomain n → t.sched[d] = s.sched[d]) ∧
        t.reg (Reg.CAL_COVERED n) = 0 ∧ t.reg (Reg.CAL_SCOPE_NODES n) = Int.ofNat (scopeNodes (s.calCfg n)).length ∧
        s.SameRegs t [Reg.CAL_COVERED n, Reg.CAL_SCOPE_NODES n]) ∧
    (auto = true → (fits = false ∨ (s.calTrigger n).isSome = false) →
      ∃ t, exec (.calGrant n) s = .next t ∧ t = { s with cal := t.cal, sched := t.sched } ∧
        t.cal[n] = { s.cal[n] with state := .idle, granted := false } ∧ (∀ m, m ≠ n → t.cal[m] = s.cal[m]) ∧
        t.sched[chDomain n] = { s.sched[chDomain n] with pending := none, suspended := false }) ∧
    ((s.ch[n].state = .off ∨ fits = false) → (auto = true → (s.calTrigger n).isSome = true ∧ fits = true) →
      s.Mild (chSrc n 16) →
      ∃ t, exec (.calGrant n) s = .next t ∧ t.cal[n].state = .idle ∧ t.cal[n].result = 5 ∧
        t.cal[n].detail = (if s.ch[n].state = .off then 2 else 4) ∧ (∀ m, m ≠ n → t.cal[m] = s.cal[m]) ∧
        RaiseFrame { s with regs := t.regs, cal := t.cal, sched := t.sched } t))

/-- Windows of a run open with the gates, close with a fit or are discarded, and coverage leads to EVALUATE. -/
def Obligations.WindowsOpenCloseAndTimeOut : Prop :=
  (∀ (n : ChId) (s : State), s.Calm → s.lanesOn = true →
    (s.cal[n].state = .acquire → s.cal[n].gates = true → s.cal[n].window = none →
      ∃ t, exec (.calWindowOpen n) s = .next t ∧ t = { s with cal := t.cal } ∧ (∀ m, m ≠ n → t.cal[m] = s.cal[m]) ∧
        t.cal[n] = { s.cal[n] with window := some [], winN := 0, pause := 0 }) ∧
    (s.cal[n].state = .acquire → s.cal[n].window ≠ none →
      ∃ t, exec (.calWindowTimeout n) s = .next t ∧ t = { s with cal := t.cal } ∧ (∀ m, m ≠ n → t.cal[m] = s.cal[m]) ∧
        t.cal[n] = { s.cal[n] with window := none, pause := 3 }) ∧
    (s.cal[n].state = .paused → s.cal[n].gates = true → s.ch[n].state = .track → s.noProbe n = true →
      s.sched[chDomain n].suspended = false →
      ∃ t, exec (.calResume n) s = .next t ∧ t = { s with cal := t.cal } ∧ (∀ m, m ≠ n → t.cal[m] = s.cal[m]) ∧
        t.cal[n] = { s.cal[n] with state := .acquire, pause := 3 })) ∧
  (∀ (n : ChId) (os : List Obs) (s : State), s.Calm → s.lanesOn = true → s.cal[n].state = .acquire →
    s.cal[n].window = some os → s.cal[n].travelled = true →
    ∃ t, exec (.calWindowClose n) s = .next t ∧
      t = { s with regs := t.regs, cal := t.cal, sched := t.sched } ∧
      (∀ m, m ≠ n → t.cal[m] = s.cal[m]) ∧ t.cal[n].window = none ∧ t.cal[n].candidate = s.cal[n].candidate ∧
      (((fitOf os.reverse).d = 0 ∨ (fitOf os.reverse).within os.reverse s.cal[n].cfg.winResid = false) →
        t.cal[n].stats = s.cal[n].stats ∧ t.cal[n].numObs = s.cal[n].numObs) ∧
      ((fitOf os.reverse).d ≠ 0 → (fitOf os.reverse).within os.reverse s.cal[n].cfg.winResid = true →
        t.cal[n].stats = (s.cal[n].accept (fitOf os.reverse) os.reverse).stats) ∧
      t.reg (Reg.CAL_COVERED n) = Int.ofNat t.cal[n].coveredCount ∧
      t.cal[n].state = (if t.cal[n].coveredCount = (scopeNodes s.cal[n].cfg).length then .evaluate else .acquire) ∧
      s.SameRegs t [Reg.CAL_COVERED n, Reg.CAL_T_MEAN n]) ∧
  (∀ (n : ChId) (s : State), s.Calm → s.alive = true → s.acquiring n = true → s.Mild (chSrc n 16) →
    ∃ t, exec (.calTimeout n) s = .next t ∧ t.cal[n].state = .idle ∧ t.cal[n].result = 4 ∧ t.cal[n].detail = 32 ∧
      t.cal[n].holdUntil = s.now + s.cal[n].cfg.retryHold.toNat * 250000000 ∧ (∀ m, m ≠ n → t.cal[m] = s.cal[m]) ∧
      t.reg (Reg.CAL_CNT_INSUFFICIENT n) = satInc 32 (s.reg (Reg.CAL_CNT_INSUFFICIENT n)) ∧
      s.SameRegs t [Reg.CAL_CNT_INSUFFICIENT n, Reg.FC_LOG_LOST] ∧
      RaiseFrame { s with regs := t.regs, cal := t.cal, sched := t.sched } t)

/-- An evaluated run is rejected with its check, staged for its lane, or kept as the candidate of a repeat. -/
def Obligations.EvaluationRejectsAcceptsOrWaitsForARepeat : Prop :=
  ∀ (n : ChId) (s : State), s.Calm → s.alive = true → s.serviceOn = true → s.cal[n].state = .evaluate →
    (∀ d : Nat, (s.calRange n (s.calResult n) = some d ∨ (s.calRange n (s.calResult n) = none ∧
        s.cal[n].cfg.accept ≠ 1 ∧ s.calLimits n (s.calResult n) = some d)) → s.Mild (chSrc n 16) →
      ∃ t, exec (.calEvaluate n) s = .next t ∧ t.cal[n].state = .idle ∧ t.cal[n].result = 3 ∧ t.cal[n].detail = d ∧
        t.cal[n].qRun = (s.calResult n).q ∧ t.bead = s.bead ∧ t.sets = s.sets ∧ t.ch = s.ch ∧
        t.reg (Reg.CAL_CNT_REJECTED n) = satInc 32 (s.reg (Reg.CAL_CNT_REJECTED n))) ∧
    (s.calRange n (s.calResult n) = none → s.cal[n].cfg.accept = 0 → s.calLimits n (s.calResult n) = none →
      ∃ t, exec (.calEvaluate n) s = .next t ∧ t = { s with regs := t.regs, cal := t.cal, bead := t.bead } ∧
        t.cal[n].state = .apply ∧ t.cal[n].qRun = (s.calResult n).q ∧ t.bead.working = s.bead.working ∧
        t.bead.gens = s.bead.gens ∧ (∀ m, m ≠ n → t.cal[m] = s.cal[m]) ∧
        (s.bead.staging[quadOf n] = none → s.bead.waiting = [] →
          ∃ x, t.bead.staging[quadOf n] = some x ∧ x.ch = n ∧ x.set = s.cal[n].target ∧ x.inUse = false ∧
            x.beads = s.rowBeads n (s.calResult n) ∧ x.record.calibrated = true ∧ t.bead.waiting = [])) ∧
    (s.calRange n (s.calResult n) = none → s.cal[n].cfg.accept ≠ 0 → s.cal[n].candidate = none →
      (s.cal[n].cfg.accept = 1 ∨ s.calLimits n (s.calResult n) = none) →
      ∃ t, exec (.calEvaluate n) s = .next t ∧ t.cal[n].result = 2 ∧ t.cal[n].candidate = some (s.calResult n) ∧
        t.bead = s.bead ∧ t.sets = s.sets ∧ t.ch = s.ch) ∧
    (∀ old : CalResult, s.calRange n (s.calResult n) = none → s.cal[n].cfg.accept ≠ 0 → s.cal[n].candidate = some old →
      (s.cal[n].cfg.accept = 1 ∨ s.calLimits n (s.calResult n) = none) →
      (agreeResults s.cal[n].cfg.repeatTol old (s.calResult n) = true →
        ∃ t, exec (.calEvaluate n) s = .next t ∧ t = { s with regs := t.regs, cal := t.cal, bead := t.bead } ∧
          t.cal[n].state = .apply ∧ t.cal[n].candidate = none ∧ t.bead.working = s.bead.working ∧
          t.bead.gens = s.bead.gens ∧ (∀ m, m ≠ n → t.cal[m] = s.cal[m]) ∧
          (s.bead.staging[quadOf n] = none → s.bead.waiting = [] →
            ∃ x, t.bead.staging[quadOf n] = some x ∧ x.ch = n ∧ x.inUse = false ∧
              x.beads = s.rowBeads n (meanResults old (s.calResult n)))) ∧
      (agreeResults s.cal[n].cfg.repeatTol old (s.calResult n) = false → s.Mild (chSrc n 16) →
        ∃ t, exec (.calEvaluate n) s = .next t ∧ t.cal[n].state = .idle ∧ t.cal[n].result = 3 ∧ t.cal[n].detail = 22 ∧
          t.cal[n].candidate = some (s.calResult n) ∧ t.bead = s.bead ∧ t.sets = s.sets ∧ t.ch = s.ch ∧
          t.reg (Reg.CAL_CNT_REJECTED n) = satInc 32 (s.reg (Reg.CAL_CNT_REJECTED n))))

/-- A staged row takes effect at its boundary, and its copy leaves every other bead of the table unchanged. -/
def Obligations.StagedRowsTakeEffectAndAreCopied : Prop :=
  (∀ (n : ChId) (s : State), s.Calm → s.lanesOn = true → s.commitWrites = false →
    ∀ x, s.bead.staging[quadOf n] = some x → x.ch = n → x.inUse = false →
    (x.trims.isSome = true → x.armed = false → s.exc[s.excIx n].driving = true → exec (.rowApply n) s = .next s) ∧
    ((x.trims = none ∨ x.armed = true ∨ s.exc[s.excIx n].driving = false) →
    ∃ t, exec (.rowApply n) s = .next t ∧ t.bead.staging[quadOf n] = some { x with inUse := true } ∧
      t.bead.working = s.bead.working ∧ t.sets[setIx n (setNo x.set)].calibrated = x.record.calibrated ∧
      t.sets[setIx n (setNo x.set)].tRun = x.record.tRun ∧
      (∀ m k, m ≠ n → t.sets[setIx m k] = s.sets[setIx m k]) ∧
      (x.source = 2 → x.trims = none → t = { s with bead := t.bead, sets := t.sets } ∧
        t.sets[setIx n (setNo x.set)] = x.record ∧
        ∀ k, k ≠ setNo x.set → t.sets[setIx n k] = s.sets[setIx n k]) ∧
      (x.source ≤ 1 → s.cal[n].state = .apply → t.cal[n].state = .commit ∧ t.cal[n].result = 1 ∧
        t.sets[setIx n (setNo x.set)].count = (satInc 32 (Int.ofNat s.sets[setIx n (setNo x.set)].count)).toNat ∧
        t.reg Reg.CFG_GEN = (s.reg Reg.CFG_GEN + 1) % 2 ^ 32 ∧
        t.reg (Reg.CAL_CNT_ACCEPTED n) = satInc 32 (s.reg (Reg.CAL_CNT_ACCEPTED n))) ∧
      ∀ tr, x.trims = some tr → t.reg (Reg.CH_OFS_SIN n) = tr.ofsSin ∧ t.reg (Reg.CH_OFS_COS n) = tr.ofsCos ∧
        t.reg (Reg.CH_FGAIN_SIN n) = tr.fgainSin ∧ t.reg (Reg.CH_FGAIN_COS n) = tr.fgainCos ∧
        t.reg (Reg.CH_QUAD_TRIM n) = tr.quad ∧ t.ch[n].trims.ofsSin = tr.ofsSin ∧ t.ch[n].trims.quad = tr.quad)) ∧
  (∀ (n : ChId) (s : State), s.lanesOn = true → ∀ x, s.bead.staging[quadOf n] = some x → x.ch = n →
    x.inUse = true → x.beads.length = 1024 →
    ∃ t, exec (.rowCopyComplete n) s = .next t ∧
      (∀ j, j < 1024 → t.bead.working.word (beadAddr n x.set j) = x.beads.getD j 0) ∧
      (∀ a, (a < beadAddr n x.set 0 ∨ beadAddr n x.set 0 + 4096 ≤ a) →
        SMap.find 0 t.bead.working a = SMap.find 0 s.bead.working a) ∧
      t.bead.gens = s.bead.gens ∧ t.bead.hostRow = s.bead.hostRow ∧ t.sets = s.sets ∧
      (s.bead.waiting = [] → t.bead.staging[quadOf n] = none))

/-- Commits write the older generation, the scrub counts, and host rows are staged, cleared and disowned. -/
def Obligations.CommitsScrubAndHostRows : Prop :=
  (∀ (f : Fin 4) (s : State), s.Calm → s.alive = true → s.serviceOn = true → s.commitWrites = true →
    (f.val < 3 →
      ∃ t, exec (.beadCommit f) s = .next t ∧ t.bead.working = s.bead.working ∧ t.bead.commitFailed = false ∧
        (∃ g : Fin 2, newestGen s.bead.gens ≠ some g ∧ t.bead.gens[g].valid = true ∧ t.bead.gens[g].torn = false ∧
          t.bead.gens[g].crc = beadCrc s.commitCopy.beads ∧
          t.bead.gens[g].beads = s.commitCopy.beads ∧ t.bead.gens[g].sets = s.commitCopy.sets ∧
          t.bead.gens[g].trims = s.commitCopy.trims ∧
          (∀ h, newestGen s.bead.gens = some h → t.bead.gens[g].counter = (s.bead.gens[h].counter + 1) % 2 ^ 32) ∧
          ∀ h, h ≠ g → t.bead.gens[h] = s.bead.gens[h]) ∧
        t.reg Reg.BT_COMMIT_CNT = satInc 32 (s.reg Reg.BT_COMMIT_CNT) ∧
        t.reg Reg.BT_COMMIT_FAIL_CNT = satAdd 32 (s.reg Reg.BT_COMMIT_FAIL_CNT) (Int.ofNat f.val) ∧
        s.SameRegs t [Reg.BT_COMMIT_CNT, Reg.BT_COMMIT_FAIL_CNT] ∧
        ∀ n : ChId, s.cal[n].state = .commit → t.cal[n].state = .idle) ∧
    (f.val = 3 → s.Mild 36 →
      ∃ t, exec (.beadCommit f) s = .next t ∧ t.bead.working = s.bead.working ∧ t.bead.commitFailed = true ∧
        t.reg Reg.BT_COMMIT_CNT = s.reg Reg.BT_COMMIT_CNT ∧
        (∀ g, newestGen s.bead.gens = some g → t.bead.gens[g] = s.bead.gens[g]) ∧
        (t.src 36).cond = true)) ∧
  (∀ (p : Port) (s : State), s.Calm → s.AdmitsCmd p Reg.BT_COMMIT_NOW →
    (s.updWaits = false → s.sched[mramDomain] = {} →
      ∃ t, exec (.btCommitNow p) s = .next t ∧ t = { s.beat p with sched := t.sched, bead := t.bead } ∧
        t.bead = { s.bead with
          writing := some { beads := s.bead.working, sets := s.sets.toList, trims := s.allTrims } } ∧
        t.sched[mramDomain].running = some .beadCommit ∧ ∀ d, d ≠ mramDomain → t.sched[d] = s.sched[d]) ∧
    (s.updWaits = true → ∃ t, exec (.btCommitNow p) s = .next t ∧ s.RefusedAs t p Reg.BT_COMMIT_NOW nakMgmt)) ∧
  (∀ (cs : List (Fin 131072)) (s : State), s.alive = true → 0 ≤ s.reg Reg.BT_ECC_CE_CNT →
    s.reg Reg.BT_ECC_CE_CNT ≤ 2 ^ 32 - 1 →
    ∃ t, exec (.beadScrub cs []) s = .next t ∧ t.bead = s.bead ∧ t.sets = s.sets ∧
      t.reg Reg.BT_ECC_CE_CNT = min (2 ^ 32 - 1) (s.reg Reg.BT_ECC_CE_CNT + Int.ofNat cs.length)) ∧
  (∀ (i : Fin 131072) (s : State), s.alive = true →
    ∃ t, exec (.beadScrub [] [i]) s = .next t ∧ t.bead.bad = i.val :: s.bead.bad ∧
      t.bead.working = s.bead.working ∧ t.bead.gens = s.bead.gens ∧ t.sets = s.sets ∧
      t.reg Reg.BT_ECC_UE_CNT = satInc 32 (s.reg Reg.BT_ECC_UE_CNT)) ∧
  (∀ (p : Port) (s : State) (n : ChId) (k : Nat), s.Calm → s.AdmitsCmd p Reg.BT_ROW_LOAD →
    n = chOf (s.reg Reg.BT_WIN_CH) → k = s.regN Reg.BT_WIN_SET % 8 →
    ((s.dev.state = .config ∨ s.dev.state = .service) → s.cal[n].state = .idle →
      inCell s.reg k (s.reg Reg.BT_ROW_TEMP) = true → s.bead.staging[quadOf n] = none → s.bead.waiting = [] →
      ∃ t, exec (.btRowLoad p) s = .next t ∧ t = { s.beat p with bead := { s.bead with staging := t.bead.staging } } ∧
        ∃ x, t.bead.staging[quadOf n] = some x ∧ x.ch = n ∧ x.set = k ∧ x.beads = rowOf s.bead.hostRow 0 ∧
          x.source = 2 ∧ x.trims = none ∧ x.inUse = false ∧ x.record.calibrated = true ∧ x.record.hostLoaded = true ∧
          x.record.tRun = s.reg Reg.BT_ROW_TEMP) ∧
    ((s.dev.state ≠ .config ∧ s.dev.state ≠ .service) →
      ∃ t, exec (.btRowLoad p) s = .next t ∧ s.RefusedAs t p Reg.BT_ROW_LOAD nakCond)) ∧
  (∀ (p : Port) (s : State), s.Calm → s.AdmitsCmd p Reg.BT_ROW_CLEAR →
    ∃ t, exec (.btRowClear p) s = .next t ∧ t = { s.beat p with bead := { s.bead with hostRow := [] } }) ∧
  (∀ (p : Port) (n : ChId) (k : Fin 8) (s : State), s.Calm → s.AdmitsCmd p (Reg.SET_CLEAR n + 0x100 * k) →
    ((s.dev.state = .config ∨ s.dev.state = .service) →
      ∃ t, exec (.setClear p n k) s = .next t ∧ t = { s.beat p with sets := t.sets } ∧
        t.sets[setIx n k] = { s.sets[setIx n k] with calibrated := false } ∧
        ∀ i, i ≠ setIx n k → t.sets[i] = s.sets[i]) ∧
    ((s.dev.state ≠ .config ∧ s.dev.state ≠ .service) →
      ∃ t, exec (.setClear p n k) s = .next t ∧ s.RefusedAs t p (Reg.SET_CLEAR n + 0x100 * k) nakCond))

/-- A snapshot event latches every channel once a frame or counts as missed, and a changed setting disarms. -/
def Obligations.SnapshotsLatchMissAndReturnToIdle : Prop :=
  (∀ (pin : Fin 2) (rising : Bool) (s : State), s.Calm → s.alive = true →
    (s.reg (Reg.SNAP_EDGE (syncSrc pin)) = 2 ∨ s.reg (Reg.SNAP_EDGE (syncSrc pin)) = (if rising then 0 else 1)) →
    ((s.snap[syncSrc pin].state = .armed ∨ s.reg (Reg.SNAP_MODE (syncSrc pin)) = 1) →
      s.snap[syncSrc pin].frame ≠ some s.frames →
      ∃ t, exec (.syncEdge pin rising) s = .next t ∧ t = { s with snap := t.snap } ∧
        t.snap[syncSrc pin] = { state := .latched, seq := s.snap[syncSrc pin].seq + 1, event := s.timeNow - 2
                                recs := Vector.ofFn fun n => s.snapRec (syncSrc pin) n (s.timeNow - 2)
                                frame := some s.frames } ∧
        ∀ k, k ≠ syncSrc pin → t.snap[k] = s.snap[k]) ∧
    (((s.snap[syncSrc pin].state ≠ .armed ∧ s.reg (Reg.SNAP_MODE (syncSrc pin)) ≠ 1) ∨
        s.snap[syncSrc pin].frame = some s.frames) →
      ∃ t, exec (.syncEdge pin rising) s = .next t ∧ t = { s with regs := t.regs } ∧
        s.OneReg t (Reg.SNAP_MISSED (syncSrc pin)) (satInc 32 (s.reg (Reg.SNAP_MISSED (syncSrc pin)))))) ∧
  (∀ s : State, s.Calm → s.alive = true → reached s.timeNow (t32 (s.reg (Reg.SNAP_TIME 2))) = true →
    (s.snap[(2 : Fin 3)].state = .armed ∨ (s.reg (Reg.SNAP_MODE 2) = 1 ∧ s.reg (Reg.SNAP_PERIOD 2) ≠ 0)) →
    s.snap[(2 : Fin 3)].frame ≠ some s.frames →
    ∃ t, exec .snapTimeLatch s = .next t ∧ t = { s with snap := t.snap, regs := t.regs } ∧
      t.snap[(2 : Fin 3)].state = .latched ∧ t.snap[(2 : Fin 3)].seq = s.snap[(2 : Fin 3)].seq + 1 ∧
      t.snap[(2 : Fin 3)].event = t32 (s.reg (Reg.SNAP_TIME 2)) ∧
      (∀ n : ChId, t.snap[(2 : Fin 3)].recs[n] = s.snapRec 2 n (t32 (s.reg (Reg.SNAP_TIME 2)))) ∧
      (s.reg (Reg.SNAP_PERIOD 2) = 0 → t.regs = s.regs) ∧
      (s.reg (Reg.SNAP_PERIOD 2) ≠ 0 →
        s.OneReg t (Reg.SNAP_TIME 2) ((s.reg (Reg.SNAP_TIME 2) + s.reg (Reg.SNAP_PERIOD 2)) % 2 ^ 32))) ∧
  (∀ (p : Port) (k : Fin 3) (s : State), s.Calm → s.AdmitsCmd p (Reg.SNAP_ARM k) →
    ∃ t, exec (.snapArm p k) s = .next t ∧ t = { s.beat p with snap := t.snap } ∧
      t.snap[k] = { s.snap[k] with state := .armed } ∧ ∀ j, j ≠ k → t.snap[j] = s.snap[j]) ∧
  (∀ (p : Port) (k : Fin 3) (o : SnapObj) (v : Int) (s : State), s.Calm →
    s.Admits p (snapKey o k) (dataAt (snapKey o k) v) v →
    ∃ t, exec (.snapConfigWrite p k o v) s = .next t ∧ t = { s.beat p with regs := t.regs, snap := t.snap } ∧
      s.OneReg t (snapKey o k) v ∧ (∀ j, j ≠ k → t.snap[j] = s.snap[j]) ∧
      t.snap[k] = if s.reg (snapKey o k) = v then s.snap[k] else { s.snap[k] with state := .idle })

/-- An emulator starts on its target, follows its releases, holds C on a lost source and leaves safe levels. -/
def Obligations.EmulatorsStartFollowAndLeaveSafeLevels : Prop :=
  (∀ (p : Port) (n : Fin 16) (v : Int) (s : State), s.Calm →
    s.Admits p (Reg.EMU_ENABLE n) (dataAt (Reg.EMU_ENABLE n) v) v → s.reg (Reg.EMU_ENABLE n) ≠ v →
    ∃ t, exec (.emuEnableWrite p n v) s = .next t ∧ s.Visible t (Reg.EMU_ENABLE n) v ∧
      t = { s.beat p with regs := t.regs, emu := t.emu } ∧ (∀ m, m ≠ n → t.emu[m] = s.emu[m]) ∧
      t.emu[n].started = false ∧ t.emu[n].valid = false ∧ t.emu[n].c = s.emu[n].c ∧ t.emu[n].catchup = none ∧
      t.emu[n].tp = s.ch[s.emuSource n].out.pos ∧ t.emu[n].ct = t.emuTarget n ∧
      (s.emuScoped n = false → (v = 0 ∨ s.allSafe = false) →
        t.emu[n].a = .hiz ∧ t.emu[n].b = .hiz ∧ t.emu[n].z = .hiz)) ∧
  (∀ (n : Fin 16) (s : State), s.Calm → s.alive = true → s.flag (Reg.EMU_ENABLE n) = true →
    s.emu[n].started = false → s.emuSrcValid n = true → s.sup.power ≠ .quiet →
    ∃ t, exec (.emuFirstValid n) s = .next t ∧ t = { s with emu := t.emu } ∧ (∀ m, m ≠ n → t.emu[m] = s.emu[m]) ∧
      t.emu[n].started = true ∧ t.emu[n].valid = true ∧ t.emu[n].c = t.emu[n].ct ∧ t.emu[n].ct = t.emuTarget n ∧
      t.emu[n].tp = (if s.emu[n].rebase then s.ch[s.emuSource n].out.pos else s.emu[n].tp) ∧ t.emu[n].catchup = none ∧
      (t.emuDrive n = .follow → (t.emu[n].a, t.emu[n].b, t.emu[n].z) = t.linesOf n t.emu[n].c)) ∧
  (∀ (p : Port) (n : Fin 16) (kind : Bool) (v : Int) (s : State) (k : Key), s.Calm →
    k = (if kind then Reg.EMU_SRC_KIND n else Reg.EMU_SRC n) → s.Admits p k (dataAt k v) v → s.reg k ≠ v →
    ∃ t, exec (.emuSrcWrite p n kind v) s = .next t ∧ s.Visible t k v ∧
      t = { s.beat p with regs := t.regs, emu := t.emu } ∧ (∀ m, m ≠ n → t.emu[m] = s.emu[m]) ∧
      t.emu[n].valid = false ∧ t.emu[n].rebase = true ∧ t.emu[n].catchup = none ∧ t.emu[n].c = s.emu[n].c) ∧
  (∀ (n : Fin 16) (s : State), s.Calm → s.alive = true → s.flag (Reg.EMU_ENABLE n) = true → s.emuTally n = true →
    (s.src (emuSrc n 0)).cond = false →
    (s.emu[n].started = false →
      ∃ t, exec (.emuTallyRelease n) s = .next t ∧ t = { s with emu := t.emu } ∧ (∀ m, m ≠ n → t.emu[m] = s.emu[m]) ∧
        t.emu[n] = { s.emu[n] with ct := t.emu[n].ct, rebase := t.emu[n].rebase, wave := [] } ∧
        (s.emuLive n = true → t.emu[n].ct = s.emuTarget n)) ∧
    (s.emu[n].started = true → s.emuLive n = false →
      ∃ t, exec (.emuTallyRelease n) s = .next t ∧ t = { s with emu := t.emu } ∧ t.emu[n].valid = false ∧
        t.emu[n].c = s.emu[n].c ∧ t.emu[n].catchup = none ∧ ∀ m, m ≠ n → t.emu[m] = s.emu[m]) ∧
    (s.emu[n].started = true → s.emuLive n = true → s.emu[n].valid = false → s.emu[n].safe = false →
      ∃ t, exec (.emuTallyRelease n) s = .next t ∧ t.emu[n].valid = true ∧ t.emu[n].ct = s.emuTarget n ∧
        (s.emu[n].a = .hiz → s.emu[n].b = .hiz → t.emuDrive n = .follow → s.emu[n].jump = false →
          ∃ rest, t.emu[n].wave = (0, (s.linesOf n s.emu[n].c).1, .hiz, (s.linesOf n s.emu[n].c).2.2) ::
            (6, s.linesOf n s.emu[n].c) :: rest ∧ ∀ x ∈ rest, s.regN (Reg.EMU_MIN_SEP n) ≤ x.1)) ∧
    (s.emu[n].started = true → s.emuLive n = true → s.emu[n].valid = true → s.emu[n].safe = false →
      s.emu[n].jump = true →
      ∃ t, exec (.emuTallyRelease n) s = .next t ∧ t = { s with emu := t.emu } ∧ t.emu[n].c = s.emuTarget n ∧
        t.emu[n].ct = s.emuTarget n ∧ t.emu[n].jump = false ∧ ∀ m, m ≠ n → t.emu[m] = s.emu[m]) ∧
    (s.emu[n].started = true → s.emuLive n = true → s.emu[n].valid = true → s.emu[n].safe = false →
      s.emu[n].jump = false → s.emu[n].left ≤ 4 → s.emu[n].catchup = none →
      Int.ofNat (s.emuTarget n - s.emu[n].c).natAbs ≤ s.reg (Reg.EMU_JUMP n) →
      ∃ t, exec (.emuTallyRelease n) s = .next t ∧ t = { s with emu := t.emu } ∧ t.emu[n].ct = s.emuTarget n ∧
        t.emu[n].valid = true ∧ t.emu[n].catchup = none ∧
        t.emu[n].c = (s.emu[n].schedule (s.regN (Reg.EMU_MIN_SEP n)) 12 (s.emuTarget n - s.emu[n].c)).c ∧
        (s.emuDrive n = .follow → (t.emu[n].a, t.emu[n].b, t.emu[n].z) = s.linesOf n t.emu[n].c ∧
          t.emu[n].wave = s.stepWave n s.emu[n].c (signI (s.emuTarget n - s.emu[n].c))
            (s.emu[n].steps (s.regN (Reg.EMU_MIN_SEP n)) 12 (s.emuTarget n - s.emu[n].c).natAbs)) ∧
        ∀ m, m ≠ n → t.emu[m] = s.emu[m]) ∧
    (s.emu[n].started = true → s.emuLive n = true → s.emu[n].valid = true → s.emu[n].safe = false →
      s.emu[n].jump = false → s.emu[n].left ≤ 4 → s.emu[n].catchup = none →
      s.reg (Reg.EMU_JUMP n) < Int.ofNat (s.emuTarget n - s.emu[n].c).natAbs →
      ∃ t, exec (.emuTallyRelease n) s = .next t ∧ t = { s with emu := t.emu, regs := t.regs } ∧
        s.OneReg t (Reg.EMU_CU_CNT n) (satInc 32 (s.reg (Reg.EMU_CU_CNT n))) ∧ t.emu[n].ct = s.emuTarget n ∧
        t.emu[n].c = s.emu[n].c ∧ t.emu[n].catchup = some (newProfile (s.emuLimits n) (s.emuTarget n - s.emu[n].c)) ∧
        ∀ m, m ≠ n → t.emu[m] = s.emu[m])) ∧
  (∀ (n : Fin 16) (xs xc : BitVec 16) (s : State) (ch : ChId), s.lanesOn = true → s.flag (Reg.EMU_ENABLE n) = true →
    s.emuTally n = false → s.emuSource n = ch →
    ∃ t, exec (.sampleProcess ch xs xc) s = .next t ∧
      t.emu[n].tp = (if s.emu[n].rebase then (if t.chValid ch then t.ch[ch].out.pos else s.emu[n].tp)
        else wrapS 64 (s.emu[n].tp + wrapS 40 (t.ch[ch].out.pos - s.emu[n].prev))) ∧
      t.emu[n].rebase = (s.emu[n].rebase && !t.chValid ch) ∧
      (t.emu[n].rebase = false → t.emu[n].ct = t.emuTarget n) ∧ t.emu[n].started = s.emu[n].started ∧
      (s.emu[n].started = true → t.chValid ch = false → t.emu[n].valid = false ∧ t.emu[n].catchup = none ∧
        t.emu[n].c = s.emu[n].c) ∧
      (s.emu[n].started = true → t.chValid ch = true → s.emu[n].valid = true → s.emu[n].safe = false →
        t.emu[n].safe = false → s.emu[n].jump = false → t.emu[n].jump = false →
        t.emu[n].valid = true ∧ t.emu[n].catchup =
          (catchUp (s.emuLimits n) (s.reg (Reg.EMU_JUMP n)) 120 s.emu[n] t.emu[n].ct).1 ∧
        t.emu[n].c = (s.emu[n].schedule (s.regN (Reg.EMU_MIN_SEP n)) 60
          (catchUp (s.emuLimits n) (s.reg (Reg.EMU_JUMP n)) 120 s.emu[n] t.emu[n].ct).2).c ∧
        (t.emuDrive n = .follow → (abOf t.emu[n].c).1 = (t.emu[n].a == .high) ∧
          (abOf t.emu[n].c).2 = (t.emu[n].b == .high)))) ∧
  (∀ (l : Limits) (jump : Int) (ns : Nat) (e : Emu) (ct : Int),
    (e.catchup = none → Int.ofNat (ct - e.c).natAbs ≤ jump → catchUp l jump ns e ct = (none, ct - e.c)) ∧
    (e.catchup = none → jump < Int.ofNat (ct - e.c).natAbs → catchUp l jump ns e ct = (some (newProfile l (ct - e.c)), 0)) ∧
    (∀ p, e.catchup = some p → Int.ofNat (ct - e.ct).natAbs ≤ jump →
      ((p.advance ns).phases = [] → catchUp l jump ns e ct = (none, ct - e.c)) ∧
      ((p.advance ns).phases ≠ [] →
        catchUp l jump ns e ct = (some (p.advance ns), ct - p.d + roundR (p.advance ns).s - e.c))) ∧
    (∀ p, e.catchup = some p → jump < Int.ofNat (ct - e.ct).natAbs →
      ((catchUp l jump ns e ct).1.all fun q => q.d = p.d + (ct - e.ct)) = true)) ∧
  (∀ (n : Fin 16) (s : State), s.Calm → s.floorOn = true → s.emu[n].safe = true → s.emuHeld n = false →
    s.sup.power = .run → (s.emu[n].started && !s.emu[n].valid && decide (s.reg (Reg.EMU_INVALID n) = 2)) = false →
    ∃ t, exec (.emuSafeExit n) s = .next t ∧ t = { s with emu := t.emu } ∧ (∀ m, m ≠ n → t.emu[m] = s.emu[m]) ∧
      t.emu[n].safe = false ∧ t.emu[n].left = 0 ∧
      t.emu[n].c = match countOfLines s.emu[n].a s.emu[n].b with
        | some k => nearestCount s.emu[n].c k
        | none => s.emu[n].c)

/-- A position switch restarts with its enable, evaluates each released sample, and holds over a change of source. -/
def Obligations.PositionSwitchesRestartAndChangeSource : Prop :=
  (∀ (p : Port) (n : Fin 16) (v : Int) (s : State), s.Calm →
    s.Admits p (Reg.PSW_ENABLE n) (dataAt (Reg.PSW_ENABLE n) v) v → s.reg (Reg.PSW_ENABLE n) ≠ v →
    ∃ t, exec (.pswEnableWrite p n v) s = .next t ∧ s.Visible t (Reg.PSW_ENABLE n) v ∧
      t = { s.beat p with regs := t.regs, psw := t.psw } ∧ (∀ m, m ≠ n → t.psw[m] = s.psw[m]) ∧
      t.psw[n].started = false ∧ t.psw[n].valid = false ∧ t.psw[n].active = false ∧ t.psw[n].first = true ∧
      (s.pswScoped n = false → (v = 0 ∨ s.allSafe = false) → t.psw[n].level = .hiz)) ∧
  (∀ (p : Port) (n : Fin 16) (v : Int) (s : State), s.Calm →
    s.Admits p (Reg.PSW_SRC n) (dataAt (Reg.PSW_SRC n) v) v →
    ∃ t, exec (.pswSrcWrite p n v) s = .next t ∧ s.Visible t (Reg.PSW_SRC n) v ∧
      t = { s.beat p with regs := t.regs, psw := t.psw } ∧ (∀ m, m ≠ n → t.psw[m] = s.psw[m]) ∧
      t.psw[n] = if s.reg (Reg.PSW_SRC n) = v then s.psw[n] else { s.psw[n] with switching := true, first := true }) ∧
  (∀ (n : Fin 16) (xs xc : BitVec 16) (s : State) (ch : ChId), s.lanesOn = true → s.flag (Reg.PSW_ENABLE n) = true →
    s.reg (Reg.PSW_SRC n) = Int.ofNat ch.val →
    ∃ t, exec (.sampleProcess ch xs xc) s = .next t ∧ t.psw[n].switching = false ∧ t.psw[n].valid = t.chValid ch ∧
      t.psw[n].first = !t.chValid ch ∧
      (t.chValid ch = true → t.psw[n].started = true ∧
        t.psw[n].active = inWindow (s.reg (Reg.PSW_MODE n)) (s.reg (Reg.PSW_LO n)) (s.reg (Reg.PSW_HI n))
          (if s.psw[n].first = false ∧ s.psw[n].active = true then s.reg (Reg.PSW_BRIM n) else 0) t.ch[ch].out.pos ∧
        t.reg (Reg.PSW_TOGGLE_CNT n) = (if t.psw[n].active = s.psw[n].active then s.reg (Reg.PSW_TOGGLE_CNT n)
          else satInc 32 (s.reg (Reg.PSW_TOGGLE_CNT n))) ∧
        (t.pswDrive n = .follow →
          t.psw[n].level = if t.psw[n].active = s.flag (Reg.PSW_POLARITY n) then .high else .low)) ∧
      (t.chValid ch = false → t.psw[n].active = s.psw[n].active ∧ t.psw[n].started = s.psw[n].started ∧
        t.reg (Reg.PSW_TOGGLE_CNT n) = s.reg (Reg.PSW_TOGGLE_CNT n) ∧
        (t.pswDrive n = .safe → s.psw[n].started = true → s.reg (Reg.PSW_INVALID n) = 2 → s.pswHeld n = false →
          t.pswHeld n = false → s.psw[n].level = (s.pswLevels n).level →
          t.psw[n].level = safeLevel (s.regN (mitPsw n)) s.psw[n].level) ∧
        (t.pswDrive n = .follow → s.psw[n].level = (s.pswLevels n).level → t.psw[n].level = s.psw[n].level)) ∧
      (t.pswDrive n = .hiz → t.psw[n].level = .hiz)) ∧
  (∀ lo hi b p : Int, lo ≤ hi → 0 ≤ b →
    (inWindow 1 lo hi b p = true ↔ lo - b ≤ p ∧ p ≤ hi + b) ∧
    (0 ≤ lo → hi < 2 ^ 24 → 0 ≤ p → p < 2 ^ 24 → b = 0 → (inWindow 0 lo hi 0 p = true ↔ lo ≤ p ∧ p ≤ hi) ∧
      (lo < hi → (inWindow 0 hi lo 0 p = true ↔ hi ≤ p ∨ p ≤ lo))))

/-- A Tally sample filters its lines, counts a decoded step, marks an illegal one and checks an index edge. -/
def Obligations.TallySamplesDecodeAndCount : Prop :=
  ∀ (n : Fin 16) (a b z : Bool) (s : State) (d : Decoded), s.Calm → s.alive = true → s.flag (Reg.TAL_ENABLE n) = true →
    d = decodeAb s.tal[n].a.level s.tal[n].b.level (s.tal[n].a.clock (s.regN (Reg.TAL_FILT n)) a).level
      (s.tal[n].b.clock (s.regN (Reg.TAL_FILT n)) b).level (s.flag (Reg.TAL_DIR n)) →
    ∃ t, exec (.talSample n a b z) s = .next t ∧ (∀ m, m ≠ n → t.tal[m] = s.tal[m]) ∧
      t.tal[n].a = s.tal[n].a.clock (s.regN (Reg.TAL_FILT n)) a ∧
      t.tal[n].b = s.tal[n].b.clock (s.regN (Reg.TAL_FILT n)) b ∧
      t.tal[n].z = s.tal[n].z.clock (s.regN (Reg.TAL_FILT n)) z ∧ t.tal[n].div = s.divOut n ∧
      t.time = s.time ∧ t.port = s.port ∧ t.kelvin = s.kelvin ∧ t.tq = s.tq ∧
      (s.tal[n].preset.isSome = true → t.tal[n].count = s.presetVal n ∧ t.tal[n].preset = none) ∧
      (d = .none → t.tal[n].raw = s.tal[n].raw ∧ t.reg (Reg.TAL_EDGE_TIME n) = s.reg (Reg.TAL_EDGE_TIME n)) ∧
      (d = .none → s.reg (Reg.TAL_IDX_MODE n) = 0 → s.tal[n].preset = none →
        t = { s with tal := t.tal } ∧ t.tal[n].count = s.tal[n].count) ∧
      (∀ k, d = .step k → t.tal[n].raw = wrapS 64 (s.tal[n].raw + k) ∧ t.tal[n].back = some (decide (k < 0)) ∧
        t.reg (Reg.TAL_EDGE_TIME n) =
          Int.ofNat (s.timeNow - BitVec.ofNat 32 ((s.regN (Reg.TAL_FILT n) + 1) * 4)).toNat ∧
        (s.reg (Reg.TAL_IDX_MODE n) = 0 → s.tal[n].preset = none →
          t.tal[n].count = (s.tal[n].countStep (s.reg (Reg.TAL_LIM_LO n)) (s.reg (Reg.TAL_LIM_HI n)) k).count)) ∧
      (d = .illegal → t.tal[n].raw = s.tal[n].raw ∧ t.tal[n].illegal = true ∧ t.tal[n].hist = [] ∧
        t.reg (Reg.TAL_ILLEGAL_CNT n) = satInc 32 (s.reg (Reg.TAL_ILLEGAL_CNT n)) ∧
        (s.bit (Reg.TAL_INVALID_ON n) 0 = true → t.tal[n].fault = true)) ∧
      ∀ k : Int, k = (match d with | .step j => j | _ => 0) →
        ∀ back : Option Bool, back = (match d with | .step j => some (decide (j < 0)) | _ => s.tal[n].back) →
        ∀ edge : Bool, edge = (decide (s.reg (Reg.TAL_IDX_MODE n) ≠ 0) && indexEdge (s.tal[n].z.level ^^ s.flag (Reg.TAL_Z_POL n))
          ((s.tal[n].z.clock (s.regN (Reg.TAL_FILT n)) z).level ^^ s.flag (Reg.TAL_Z_POL n)) back) →
        ∀ raw : Int, raw = (if k = 0 then s.tal[n].raw else wrapS 64 (s.tal[n].raw + k)) →
        ∀ x : Int, x = (if back = some true then raw + 1 else raw) →
        ∀ c : Int, c = (if k = 0 then s.tal[n].count
          else (s.tal[n].countStep (s.reg (Reg.TAL_LIM_LO n)) (s.reg (Reg.TAL_LIM_HI n)) k).count) →
        (edge = false → t.tal[n].xref = s.tal[n].xref ∧ t.tal[n].seen = s.tal[n].seen ∧
          t.tal[n].armed = s.tal[n].armed ∧ t.reg (Reg.TAL_IDX_CNT n) = s.reg (Reg.TAL_IDX_CNT n) ∧
          (s.tal[n].preset = none → t.tal[n].count = c)) ∧
        (edge = true → t.tal[n].xref = some x ∧ t.tal[n].seen = true ∧ t.tal[n].armed = false ∧
          t.reg (Reg.TAL_IDX_RAW n) = x ∧
          (s.tal[n].armed = true → t.tal[n].count = s.presetVal n) ∧
          (s.tal[n].xref = none → t.tal[n].mismatch = s.tal[n].mismatch ∧ t.tal[n].beyond = s.tal[n].beyond ∧
            t.reg (Reg.TAL_IDX_CNT n) = s.reg (Reg.TAL_IDX_CNT n) ∧
            (s.tal[n].armed = false → s.tal[n].preset = none → t.tal[n].count = c)) ∧
          ∀ r : Int, s.tal[n].xref = some r →
            ∀ e : Int, e = x - r - 4 * s.reg (Reg.TAL_LINES n) * bestTurn (x - r) (4 * s.reg (Reg.TAL_LINES n)) →
            t.reg (Reg.TAL_IDX_CNT n) = satInc 32 (s.reg (Reg.TAL_IDX_CNT n)) ∧
            t.reg (Reg.TAL_IDX_ERR n) = clampI (-(2 ^ 31)) (2 ^ 31 - 1) e ∧
            t.tal[n].mismatch = (s.tal[n].mismatch || decide (e ≠ 0)) ∧
            t.tal[n].beyond = (s.tal[n].beyond || decide (s.regN (Reg.TAL_IDX_TOL n) < e.natAbs ∧ e ≠ 0)) ∧
            t.reg (Reg.TAL_MISMATCH_CNT n) = (if e = 0 then s.reg (Reg.TAL_MISMATCH_CNT n)
              else satInc 32 (s.reg (Reg.TAL_MISMATCH_CNT n))) ∧
            (s.regN (Reg.TAL_IDX_TOL n) < e.natAbs → e ≠ 0 → s.bit (Reg.TAL_INVALID_ON n) 1 = true →
              t.tal[n].fault = true) ∧
            (s.tal[n].armed = false → s.tal[n].preset = none → t.tal[n].count =
              if e ≠ 0 ∧ e.natAbs ≤ s.regN (Reg.TAL_IDX_TOL n) ∧ s.reg (Reg.TAL_IDX_MODE n) = 2 then
                clampI (s.reg (Reg.TAL_LIM_LO n)) (s.reg (Reg.TAL_LIM_HI n)) (c - e)
              else c))

/-- Tally inputs are enabled afresh, limited, preset, armed, resumed and timed out by their commands. -/
def Obligations.TallyCommandsSetTheCounter : Prop :=
  (∀ (p : Port) (n : Fin 16) (s : State), s.Calm →
    s.Admits p (Reg.TAL_ENABLE n) (dataAt (Reg.TAL_ENABLE n) 1) 1 → s.reg (Reg.TAL_ENABLE n) ≠ 1 →
    ∃ t, exec (.talEnableWrite p n 1) s = .next t ∧ t = { s.beat p with regs := t.regs, tal := t.tal } ∧
      t.reg (Reg.TAL_ENABLE n) = 1 ∧ t.reg (Reg.TAL_SPEED n) = 0 ∧
      t.reg Reg.CFG_GEN = (s.reg Reg.CFG_GEN + 1) % 2 ^ 32 ∧
      s.SameRegs t [Reg.TAL_ENABLE n, Reg.TAL_SPEED n, Reg.CFG_GEN] ∧ (∀ m, m ≠ n → t.tal[m] = s.tal[m]) ∧
      t.tal[n].raw = 0 ∧ t.tal[n].count = clampI (s.reg (Reg.TAL_LIM_LO n)) (s.reg (Reg.TAL_LIM_HI n)) 0 ∧
      t.tal[n].fault = false ∧ t.tal[n].xref = none ∧ t.tal[n].hist = [] ∧ t.talValid n = true) ∧
  (∀ (p : Port) (n : Fin 16) (s : State), s.Calm →
    s.Admits p (Reg.TAL_ENABLE n) (dataAt (Reg.TAL_ENABLE n) 0) 0 → s.reg (Reg.TAL_ENABLE n) ≠ 0 →
    ∃ t, exec (.talEnableWrite p n 0) s = .next t ∧ s.Visible t (Reg.TAL_ENABLE n) 0 ∧
      t = { s.beat p with regs := t.regs, tal := t.tal, emu := t.emu } ∧ t.tal[n].count = s.tal[n].count ∧
      t.tal[n].fault = false ∧ t.tal[n].preset = none ∧ t.tal[n].armed = s.tal[n].armed ∧ t.talValid n = false ∧ ∀ m, m ≠ n → t.tal[m] = s.tal[m]) ∧
  (∀ (p : Port) (n : Fin 16) (lo hi : Int) (s : State), s.Calm → -(2 ^ 31) ≤ hi → hi < 2 ^ 31 →
    s.Admits p (Reg.TAL_LIM_LO n) (dataAt (Reg.TAL_LIM_LO n) lo) lo →
    (lo < hi →
      ∃ t, exec (.talLimitsWrite p n lo hi) s = .next t ∧ t.reg (Reg.TAL_LIM_LO n) = lo ∧
        t.reg (Reg.TAL_LIM_HI n) = hi ∧ t.reg Reg.CFG_GEN = (s.reg Reg.CFG_GEN + 1) % 2 ^ 32 ∧
        t.tal[n].count = clampI lo hi s.tal[n].count ∧ t = { s.beat p with regs := t.regs, tal := t.tal } ∧
        s.SameRegs t [Reg.TAL_LIM_LO n, Reg.TAL_LIM_HI n, Reg.CFG_GEN] ∧
        (hi < s.tal[n].count → t.tal[n].atHi = true ∧ t.tal[n].sHi = true) ∧
        (s.tal[n].count < lo → t.tal[n].atLo = true ∧ t.tal[n].sLo = true) ∧
        t.tal[n].raw = s.tal[n].raw ∧ ∀ m, m ≠ n → t.tal[m] = s.tal[m]) ∧
    (hi ≤ lo → ∃ t, exec (.talLimitsWrite p n lo hi) s = .next t ∧ s.RefusedAs t p (Reg.TAL_LIM_LO n) nakRange)) ∧
  (∀ (p : Port) (n : Fin 16) (s : State), s.Calm → s.AdmitsCmd p (Reg.TAL_PRESET n) →
    (s.reg (Reg.TAL_LIM_LO n) ≤ s.reg (Reg.TAL_PRESET_VAL n) → s.reg (Reg.TAL_PRESET_VAL n) ≤ s.reg (Reg.TAL_LIM_HI n) →
      ∃ t, exec (.talPreset p n) s = .next t ∧ t = { s.beat p with tal := t.tal } ∧
        t.tal[n] = { s.tal[n] with preset := some p } ∧ ∀ m, m ≠ n → t.tal[m] = s.tal[m]) ∧
    (s.reg (Reg.TAL_LIM_LO n) ≤ s.reg (Reg.TAL_LIM_HI n) → (s.reg (Reg.TAL_PRESET_VAL n) < s.reg (Reg.TAL_LIM_LO n) ∨
        s.reg (Reg.TAL_LIM_HI n) < s.reg (Reg.TAL_PRESET_VAL n)) →
      ∃ t, exec (.talPreset p n) s = .next t ∧ s.RefusedAs t p (Reg.TAL_PRESET n) nakRange)) ∧
  (∀ (p : Port) (n : Fin 16) (s : State), s.Calm → s.AdmitsCmd p (Reg.TAL_IDX_PRESET_ARM n) →
    ∃ t, exec (.talIdxPresetArm p n) s = .next t ∧ t = { s.beat p with tal := t.tal } ∧
      t.tal[n] = { s.tal[n] with armed := true } ∧ ∀ m, m ≠ n → t.tal[m] = s.tal[m]) ∧
  (∀ (p : Port) (n : Fin 16) (s : State), s.Calm → s.AdmitsCmd p (Reg.TAL_RESUME n) →
    (s.flag (Reg.TAL_ENABLE n) = true → s.tal[n].fault = true →
      ∃ t, exec (.talResume p n) s = .next t ∧ t = { s.beat p with tal := t.tal } ∧
        t.tal[n] = { s.tal[n] with fault := false } ∧ t.talValid n = true ∧ ∀ m, m ≠ n → t.tal[m] = s.tal[m]) ∧
    ((s.flag (Reg.TAL_ENABLE n) = false ∨ s.tal[n].fault = false) →
      ∃ t, exec (.talResume p n) s = .next t ∧ s.RefusedAs t p (Reg.TAL_RESUME n) nakCond)) ∧
  (∀ (n : Fin 16) (s : State), s.Calm → s.alive = true → s.flag (Reg.TAL_ENABLE n) = true →
    (s.reg (Reg.TAL_SPD_TMO n) * 1000 ≤ s.ext - s.tal[n].edgeExt → s.talSpeed n = 0 ∧
      ∃ t, exec (.talSpeedTimeout n) s = .next t ∧ t = { s with tal := t.tal } ∧
        t.tal[n] = { s.tal[n] with timedOut := true } ∧ t.talSpeed n = 0 ∧ ∀ m, m ≠ n → t.tal[m] = s.tal[m]) ∧
    (s.ext - s.tal[n].edgeExt < s.reg (Reg.TAL_SPD_TMO n) * 1000 → exec (.talSpeedTimeout n) s = .next s))

/-- A raised source with reaction DEVICE-SAFE takes the device to SAFE, releases the claim and stops exciters. -/
def Obligations.DeviceSafeEntryReleasesStopsAndHolds : Prop :=
  ∀ (id : SrcId) (s : State), s.Calm → s.railsOn = true → assigned id.val = true → (s.src id).cond = false →
    (s.src id).force = false → (s.fltNow id).2.1 = 3 → s.floor.deviceSafe = false →
    (s.sup.reset = true → ∃ t, exec (.faultRaise id) s = .next t ∧ t.floor.deviceSafe = true ∧
      t.floor.safeCnt = min (s.floor.safeCnt + 1) 0xFFFF ∧ (t.src id).cond = true ∧ t.floor.request = false ∧
      t.ch = s.ch ∧ t.exc = s.exc ∧ t.dev = s.dev ∧ t.time = s.time) ∧
    (s.sup.reset = false → s.floor.oscLost = false → id.val ≠ 6 →
    ∃ t, exec (.faultRaise id) s = .next t ∧ t.floor.deviceSafe = true ∧ t.Calm ∧
      t.floor.safeCnt = min (s.floor.safeCnt + 1) 0xFFFF ∧ t.floor.first.isSome = true ∧
      t.red.clmOut = false ∧ t.red.state = .safe ∧ t.dev.state = .safe ∧ SafeFrame s t ∧
      (∀ e : ExcId, s.reg (mitExc e) = 1 → (s.exc[e].state = .ramp ∨ s.exc[e].state = .run) →
        t.exc[e] = { s.exc[e] with
          state := .held, step := 0, restart := false, applied := 0, fold := false, pendFold := false }) ∧
      (∀ e : ExcId, (s.reg (mitExc e) ≠ 1 ∨ (s.exc[e].state ≠ .ramp ∧ s.exc[e].state ≠ .run)) → t.exc[e] = s.exc[e]))

/-- A source becomes ACTIVE with its condition, LATCHED or IDLE after it, and IDLE when it is cleared. -/
def Obligations.SourcesRaiseLatchAndClear : Prop :=
  (∀ (id : SrcId) (s : State), s.Calm → s.railsOn = true → assigned id.val = true →
    ((s.src id).cond = false → (s.src id).force = false → s.Mild id →
      ∃ t, exec (.faultRaise id) s = .next t ∧ RaiseFrame { s with floor := { s.floor with oscLost := t.floor.oscLost, since := t.floor.since } } t ∧
        (id.val ≠ 6 → t.floor.oscLost = s.floor.oscLost ∧ t.floor.since = s.floor.since) ∧ (t.src id).cond = true ∧ (t.src id).state = .active ∧
        (s.sup.reset = false → (t.src id).last = some (s.timeNow, s.time.wraps) ∧
          (id.val ≠ 1029 → Int.ofNat (t.src id).count = satInc 32 (Int.ofNat (s.src id).count)))) ∧
    (((s.src id).cond = true ∨ (s.src id).force = true) → id.val ≠ 6 →
      ∃ t, exec (.faultRaise id) s = .next t ∧ t = { s with fc := t.fc } ∧
        t.src id = { s.src id with cond := true } ∧ ∀ j, j ≠ id.val → t.src j = s.src j)) ∧
  (∀ (id : SrcId) (s : State), s.Calm → s.railsOn = true →
    ((s.src id).cond = true →
      ∃ t, exec (.faultConditionGone id) s = .next t ∧ RaiseFrame { s with floor := t.floor } t ∧ (t.src id).cond = false ∧
        t.floor = (if id.val = 6 then { s.floor with
          oscLost := false, since := if s.floor.oscLost then s.now - s.floor.since else s.floor.since
          first := s.floor.first.orElse fun _ => s.floor.late, late := none } else s.floor) ∧
        (t.src id).state = (if (s.src id).force = true ∨ (s.src id).state ≠ .active then (s.src id).state
          else if (s.fltNow id).1 = 0 then .idle else .latched)) ∧
    ((s.src id).cond = false → id.val ≠ 6 → exec (.faultConditionGone id) s = .next s)) ∧
  (∀ (id : SrcId) (s : State), s.Calm → s.railsOn = true →
    (assigned id.val = true →
      ∃ t, exec (.railError id) s = .next t ∧ SafeFrame s t ∧ (s.floor.oscLost = false → t.floor.first.isSome = true) ∧
        ((s.fltNow 0).2.1 = 3 → (s.src 0).cond = false → (s.src 0).force = false → t.floor.deviceSafe = true) ∧
        ((s.Entered t → takenBack id.val = false) → (t.src id).rail = true ∧ (t.src id).cond = true) ∧
        (t.src 0).cond = true) ∧
    (assigned id.val = false → exec (.railError id) s = .next s)) ∧
  (∀ (p : Port) (id : SrcId) (s : State), s.Calm → s.AdmitsCmd p (Reg.FLT_CLEAR id) →
    ((s.src id).state = .latched → s.clearable id = true →
      ∃ t, exec (.fltClear p id) s = .next t ∧ (t.src id).state = .idle ∧
        (s.holdOutlasts = false → RaiseFrame (s.beat p) t) ∧ (s.holdOutlasts = true → t.floor.deviceSafe = t.safeHeld)) ∧
    ((s.src id).state = .idle → exec (.fltClear p id) s = .next (s.beat p)) ∧
    (((s.src id).state = .active ∨ ((s.src id).state = .latched ∧ s.clearable id = false)) →
      ∃ t, exec (.fltClear p id) s = .next t ∧ s.RefusedAs t p (Reg.FLT_CLEAR id) nakCond)) ∧
  (∀ (p : Port) (s : State), s.Calm → s.AdmitsCmd p Reg.FC_CLEAR_ALL →
    ∃ t, exec (.fcClearAll p) s = .next t ∧ (s.holdOutlasts = false → RaiseFrame (s.beat p) t) ∧
      (s.holdOutlasts = true → t.floor.deviceSafe = t.safeHeld) ∧
      (∀ id, id ≠ 1029 → (s.src id).state = .latched → s.clearable id = true →
        (s.roleOf p).atLeast (if (s.fltNow id).1 = 2 then .integrator else .operator) = true →
        (t.src id).state = .idle) ∧
      ∀ id, id ≠ 1029 → ((s.src id).state ≠ .latched ∨ s.clearable id = false ∨
        (s.roleOf p).atLeast (if (s.fltNow id).1 = 2 then .integrator else .operator) = false) →
        (t.src id).state = (s.src id).state) ∧
  (∀ (id : SrcId) (s : State), s.Calm → s.alive = true →
    ((s.fltNow id).1 = 1 → (s.src id).state = .latched → s.flag (Reg.FLT_AUTO_CLEAR id) = true →
      ∃ t, exec (.faultAutoClear id) s = .next t ∧ (t.src id).state = .idle ∧
        (s.holdOutlasts = false → RaiseFrame s t) ∧ (s.holdOutlasts = true → t.floor.deviceSafe = t.safeHeld)) ∧
    (((s.fltNow id).1 ≠ 1 ∨ (s.src id).state ≠ .latched ∨ s.flag (Reg.FLT_AUTO_CLEAR id) = false) →
      exec (.faultAutoClear id) s = .next s))

/-- A source's class, reaction and route follow the writes, the force bit holds it, and its counters reset. -/
def Obligations.SourceConfigurationForceAndCounters : Prop :=
  (∀ (p : Port) (id : SrcId) (o : FltField) (v : Int) (s : State) (k : Key), s.Calm → k = fltKey o id →
    s.Admits p k (dataAt k v) v →
    (checkFlt p o id s (overlay s.reg [(k, v)]) k v = .ok () →
      (o = .autoClear → ∃ t, exec (.fltConfigWrite p id o v) s = .next t ∧ s.Visible t k v ∧
        t = { s.beat p with regs := t.regs }) ∧
      (o ≠ .autoClear → (s.src id).state = .idle →
        ∃ t, exec (.fltConfigWrite p id o v) s = .next t ∧ s.Visible t k v ∧
          t = { s.beat p with regs := t.regs, fc := t.fc } ∧ t.fltNow id = t.fltVisible id ∧
          ∀ j, j ≠ id.val → t.src j = s.src j) ∧
      (o ≠ .autoClear → (s.src id).state ≠ .idle → (s.fltNow id).2.1 < 2 → (s.fltVisible id).2.1 < 2 →
        (o = .reaction → v < 2) →
        ∃ t, exec (.fltConfigWrite p id o v) s = .next t ∧ s.Visible t k v ∧
          t = { s.beat p with regs := t.regs, fc := t.fc } ∧
          t.fltNow id = (max (s.fltNow id).1 (t.fltVisible id).1, max (s.fltNow id).2.1 (t.fltVisible id).2.1,
            (s.fltNow id).2.2 || (t.fltVisible id).2.2))) ∧
    (o ≠ .autoClear → fixedSrc id = true →
      ∃ t, exec (.fltConfigWrite p id o v) s = .next t ∧ s.RefusedAs t p k nakRange)) ∧
  (∀ (p : Port) (id : SrcId) (s : State), s.Calm → s.Admits p (Reg.FLT_FORCE id) (dataAt (Reg.FLT_FORCE id) 1) 1 →
    (assigned id.val = true → s.forceAllowed p = true → s.Mild id → (s.src id).cond = false → (s.src id).force = false →
      ∃ t, exec (.fltForce p id 1) s = .next t ∧ RaiseFrame (s.beat p) t ∧ (t.src id).force = true ∧
        (t.src id).state = .active) ∧
    (assigned id.val = true → s.forceAllowed p = false →
      ∃ t, exec (.fltForce p id 1) s = .next t ∧ s.RefusedAs t p (Reg.FLT_FORCE id) nakCond)) ∧
  (∀ (p : Port) (id : SrcId) (s : State), s.Calm → s.Admits p (Reg.FLT_FORCE id) (dataAt (Reg.FLT_FORCE id) 0) 0 →
    assigned id.val = true → (s.src id).state = .active → (s.src id).cond = false →
    ∃ t, exec (.fltForce p id 0) s = .next t ∧ RaiseFrame (s.beat p) t ∧ (t.src id).force = false ∧
      (t.src id).state = if (s.fltNow id).1 = 0 then .idle else .latched) ∧
  (∀ (p : Port) (id : SrcId) (s : State), s.Calm → s.AdmitsCmd p (Reg.FLT_CNT_RESET id) →
    ∃ t, exec (.fltCntReset p id) s = .next t ∧ t = { s.beat p with fc := t.fc } ∧
      t.src id = { s.src id with count := 0, first := none, last := none } ∧ ∀ j, j ≠ id.val → t.src j = s.src j)

/-- FC_REINIT reloads the collector in SAFE only, the floor rearms once its source is IDLE, and the self-test raises.
-/
def Obligations.CollectorReinitRearmAndSelfTest : Prop :=
  (∀ (p : Port) (s : State), s.Calm → s.AdmitsCmd p Reg.FC_REINIT →
    (s.dev.state = .safe →
      ∃ t, exec (.fcReinit p) s = .next t ∧ t.fc.copyOk = !(s.src 1).cond ∧ t.dev.state = .safe ∧
        (∀ k, isFltConfig k = true → t.reg k = s.stored k) ∧
        ∀ k, isFltConfig k = false → faultReg k = false → t.reg k = s.reg k) ∧
    (s.dev.state ≠ .safe → ∃ t, exec (.fcReinit p) s = .next t ∧ s.RefusedAs t p Reg.FC_REINIT nakCond)) ∧
  (∀ (p : Port) (s : State), s.Calm → s.AdmitsCmd p Reg.FC_FLOOR_REARM →
    ((s.floor.first.all fun x => (s.src x.id).state = .idle) = true →
      ∃ t, exec (.fcFloorRearm p) s = .next t ∧ t = { s.beat p with floor := { s.floor with first := none } }) ∧
    ((s.floor.first.all fun x => (s.src x.id).state = .idle) = false →
      ∃ t, exec (.fcFloorRearm p) s = .next t ∧ s.RefusedAs t p Reg.FC_FLOOR_REARM nakCond)) ∧
  (∀ s : State, s.Calm → s.alive = true →
    (∃ t, exec (.fcSelftest true) s = .next t ∧ RaiseFrame (s.bump Reg.FC_SELFTEST_CNT) t ∧
      t.reg Reg.FC_SELFTEST_CNT = satInc 32 (s.reg Reg.FC_SELFTEST_CNT) ∧ (t.src 2).cond = false) ∧
    ∃ t, exec (.fcSelftest false) s = .next t ∧ SafeFrame s t ∧ (t.src 2).cond = true ∧
      ((s.src 2).cond = false → (s.src 2).force = false → (s.fltNow 2).2.1 = 3 → t.floor.deviceSafe = true))

/-- A management restart is counted with its reason, and lanes, time, Tally inputs and beads go on. -/
def Obligations.ManagementRestartsAreCountedAndTheHardwareGoesOn : Prop :=
  (∀ s : State, s.Calm → s.oscOn = true → s.sup.reset = false → s.tap.halted = false → s.upd.state ≠ .trial →
    (s.restartSpaced = false →
      ∃ t, exec .mgmtWdog s = .next t ∧ t.mgmt.restarting = true ∧ t.mgmt.reason = 1 ∧ t.mgmt.restartAt = s.now ∧
        t.mgmt.service = s.mgmt.service ∧ t.floor.wdogCnt = min (s.floor.wdogCnt + 1) 255 ∧
        t.reg Reg.MGMT_RESTART_CNT = satInc 32 (s.reg Reg.MGMT_RESTART_CNT) ∧ t.time = s.time ∧ t.tal = s.tal ∧
        t.bead.working = s.bead.working ∧ t.sets = s.sets ∧
        ∀ n : ChId, t.ch[n].loop = s.ch[n].loop ∧ t.ch[n].state = s.ch[n].state) ∧
    (s.restartSpaced = true → ∃ t, exec .mgmtWdog s = .next t ∧ SafeFrame { s with mgmt := t.mgmt } t ∧
      t.mgmt = { s.mgmt with due := some .watchdog })) ∧
  (∀ s : State, s.Calm → s.alive = true → s.restartSpaced = true →
    ∃ t, exec .mgmtLockstep s = .next t ∧ SafeFrame { s with mgmt := t.mgmt } t ∧
      t.mgmt = { s.mgmt with due := some .lockstep }) ∧
  (∀ (r : RestartReason) (s : State), s.Calm → s.alive = true → (s.mgmt.due ≠ some r ∨ s.restartSpaced = true) →
    exec (.mgmtRestart r) s = .next s) ∧
  (∀ s : State, s.Calm → s.alive = true → s.restartSpaced = false → s.upd.state ≠ .trial →
    (∃ t, exec .mgmtLockstep s = .next t ∧ t.mgmt.restarting = true ∧ t.mgmt.reason = 2 ∧ t.mgmt.restartAt = s.now ∧
      t.floor.wdogCnt = min (s.floor.wdogCnt + 1) 255 ∧ t.time = s.time ∧ t.bead.working = s.bead.working ∧
      t.reg Reg.MGMT_RESTART_CNT = satInc 32 (s.reg Reg.MGMT_RESTART_CNT) ∧
      ∀ n : ChId, t.ch[n].loop = s.ch[n].loop ∧ t.ch[n].state = s.ch[n].state) ∧
    (s.mgmt.due = some .watchdog →
      ∃ t, exec (.mgmtRestart .watchdog) s = .next t ∧ t.mgmt.restarting = true ∧ t.mgmt.reason = 1 ∧ t.mgmt.due = none ∧
        t.mgmt.restartAt = s.now ∧ t.reg Reg.MGMT_RESTART_CNT = satInc 32 (s.reg Reg.MGMT_RESTART_CNT) ∧
        t.time = s.time ∧ ∀ n : ChId, t.ch[n].loop = s.ch[n].loop ∧ t.ch[n].state = s.ch[n].state)) ∧
  (∀ s : State, s.Calm → s.alive = true → s.mgmt.restarting = true →
    ∃ t, exec .mgmtRestartDone s = .next t ∧
      t = { s with mgmt := t.mgmt, sched := t.sched, bead := { s.bead with writing := t.bead.writing } } ∧
      (s.beadsDiffer = false → t.sched = s.sched ∧ t.bead = s.bead) ∧
      (s.beadsDiffer = true → s.updWaits = false → s.sched[mramDomain].running = none →
        s.sched[mramDomain].pending ≠ some .beadCommit → t.sched[mramDomain].running = some .beadCommit) ∧
      t.mgmt = { s.mgmt with restarting := false } ∧ ∀ d, d ≠ mramDomain → t.sched[d] = s.sched[d])

/-- RED_MODE, the record grid and the links change as commanded, and LNKk_DOWN follows the port. -/
def Obligations.SeatModeGridAndLinksFollowTheirCommands : Prop :=
  (∀ (p : Port) (v : Int) (s : State), s.Calm → s.Admits p Reg.RED_MODE (dataAt Reg.RED_MODE v) v →
    s.Mild 896 → s.Mild 897 →
    ∃ t, exec (.redModeWrite p v) s = .next t ∧ t.reg Reg.RED_MODE = v ∧
      t.reg Reg.CFG_GEN = (s.reg Reg.CFG_GEN + 1) % 2 ^ 32 ∧
      s.SameRegs t [Reg.RED_MODE, Reg.CFG_GEN, Reg.FC_LOG_LOST] ∧ RaiseFrame { s.beat p with regs := t.regs } t ∧
      ∀ k : Fin 2, (t.src (896 + k.val)).cond = (t.linkNeeded k && decide (t.lnk[k].state = .down))) ∧
  (∀ (p : Port) (first : Bool) (v : Int) (s : State) (k : Key), s.Calm →
    k = (if first then Reg.RED_CYCLE_FIRST else Reg.RED_CYCLE) → s.Admits p k (dataAt k v) v →
    ∃ t, exec (.redCycleWrite p first v) s = .next t ∧ s.Visible t k v ∧
      (t.red.nextLatch, t.red.latchNo) = gridNext (t32 (t.reg Reg.RED_CYCLE_FIRST)) (t.regN Reg.RED_CYCLE) s.timeNow ∧
      t = { s.beat p with regs := t.regs, red := { s.red with nextLatch := t.red.nextLatch, latchNo := t.red.latchNo } }) ∧
  (∀ (k : Fin 2) (s : State), s.Calm → s.alive = true → s.lnk[k].state ≠ .up →
    ∃ t, exec (.lnkUp k) s = .next t ∧ RaiseFrame { s with lnk := t.lnk, pt := t.pt } t ∧
      t.lnk[k] = { s.lnk[k] with state := .up, first := true } ∧ (∀ j, j ≠ k → t.lnk[j] = s.lnk[j]) ∧
      (t.src (896 + k.val)).cond = false ∧
      ∀ q : Fin 2, t.pt[q] =
        { s.pt[q] with e3 := if s.hasPartner q = true ∧ s.e3Now q = true then some s.ext else s.pt[q].e3 }) ∧
  (∀ (k : Fin 2) (s : State), s.Calm → s.alive = true → s.lnk[k].state ≠ .down → s.Mild 896 → s.Mild 897 →
    ∃ t, exec (.lnkDown k) s = .next t ∧ RaiseFrame { s with lnk := t.lnk, regs := t.regs, fresh := t.fresh } t ∧
      t.lnk[k] = { s.lnk[k] with state := .down } ∧ (∀ j, j ≠ k → t.lnk[j] = s.lnk[j]) ∧
      t.reg (Reg.LNK_DOWN_CNT k) = satInc 32 (s.reg (Reg.LNK_DOWN_CNT k)) ∧
      (∃ j : Nat, t.reg (Reg.LNK_CODE_ERR_CNT k) = min (s.reg (Reg.LNK_CODE_ERR_CNT k) + Int.ofNat j) (2 ^ 32 - 1)) ∧
      s.SameRegs t [Reg.LNK_DOWN_CNT k, Reg.LNK_CODE_ERR_CNT k, Reg.FC_LOG_LOST] ∧
      (t.src (896 + k.val)).cond = s.linkNeeded k)

/-- Records leave on the grid, a valid one is taken in as the partner's, and a missing one is a fault. -/
def Obligations.RecordsAreLatchedTakenInAndMissed : Prop :=
  (∀ s : State, s.Calm → s.alive = true → s.sup.booted = true → reached s.timeNow s.red.nextLatch = true →
    (s.recordDue = false →
      ∃ t, exec .recordLatchSend s = .next t ∧ t = { s with red := { s.red with
        nextLatch := s.red.nextLatch + BitVec.ofNat 32 (s.regN Reg.RED_CYCLE), latchNo := s.red.latchNo + 1 } }) ∧
    (s.recordDue = true → s.sup.power ≠ .quiet →
      ∃ t, exec .recordLatchSend s = .next t ∧
        t = { s with lnk := t.lnk, red := t.red, bead := { s.bead with deltas := [] } } ∧
        t.red = { s.red with
          nextLatch := s.red.nextLatch + BitVec.ofNat 32 (s.regN Reg.RED_CYCLE), latchNo := s.red.latchNo + 1
          seq := s.red.seq + 1, err := false, own := t.red.own, targets := t.red.targets } ∧
        ∀ k : Fin 2, t.lnk[k] = if s.lnk[k].state = .up then { s.lnk[k] with
          sent := s.buildRecord s.red.nextLatch (s.regN Reg.RED_CYCLE) s.lnk[k].first, first := false } else s.lnk[k])) ∧
  (∀ s : State, s.Calm → s.alive = true → s.sup.booted = true → (s.red.state = .standby ∨ s.red.state = .backoff) →
    ∃ t, exec .lineTestPulse s = .next t ∧ t = { s with red := { s.red with tpCount := s.red.tpCount + 1 } }) ∧
  (∀ (k : Fin 2) (bytes : Bytes) (s : State), s.Calm → s.alive = true → s.lnk[k].state = .up →
    (recordOk bytes = false → s.Mild (898 + k.val) →
      ∃ t, exec (.recordReceive k bytes) s = .next t ∧ RaiseFrame (s.bump (Reg.LNK_CRC_CNT k)) t ∧
        t.reg (Reg.LNK_CRC_CNT k) = satInc 32 (s.reg (Reg.LNK_CRC_CNT k))) ∧
    (recordOk bytes = true → ∀ q : Fin 2, s.linkPartner k = some q →
      (s.isCopy q bytes = true →
        ∃ t, exec (.recordReceive k bytes) s = .next t ∧ t = { s with regs := t.regs } ∧
          s.OneReg t (Reg.LNK_REC_CNT k) (satInc 32 (s.reg (Reg.LNK_REC_CNT k)))) ∧
      (s.isCopy q bytes = false → fieldB bytes 1 1 % 4 = s.seatNo → (s.fltNow 908).2.1 = 3 → (s.src 908).cond = false →
        (s.src 908).force = false →
        ∃ t, exec (.recordReceive k bytes) s = .next t ∧ t.floor.deviceSafe = true ∧
          (t.src 908).count = (satInc 32 (Int.ofNat (s.src 908).count)).toNat) ∧
      (s.isCopy q bytes = false → fieldB bytes 1 1 % 4 ≠ s.seatNo → s.Mild 900 → s.Mild 910 → s.Mild 912 → s.Mild (903 + q.val) →
        s.Mild (905 + q.val) → (∀ n : ChId, s.Mild (chSrc n 19)) →
        ∃ t, exec (.recordReceive k bytes) s = .next t ∧
          RaiseFrame { s with regs := t.regs, pt := t.pt, vote := t.vote, front := t.front, red := { s.red with
            armed := t.red.armed } } t ∧
          (∀ j, j ≠ q → t.pt[j] = s.pt[j]) ∧ t.pt[q].present = true ∧ t.pt[q].record = some bytes ∧
          t.pt[q].rxAt = s.ext ∧ (t.src (901 + q.val)).cond = false ∧
          t.reg (Reg.LNK_REC_CNT k) = satInc 32 (s.reg (Reg.LNK_REC_CNT k)) ∧
          s.SameRegs t [Reg.LNK_REC_CNT k, Reg.PT_SEQ_GAP_CNT q, Reg.PT_ERR_CNT q, Reg.FC_LOG_LOST] ∧
          t.pt[q].aligned = true ∧ t.pt[q].good = (if recErr bytes then s.pt[q].good else some bytes) ∧
          (recErr bytes = true → t.reg (Reg.PT_ERR_CNT q) = satInc 32 (s.reg (Reg.PT_ERR_CNT q)) ∧ t.vote = s.vote ∧
            t.front = s.front ∧ t.pt[q].e1 = s.pt[q].e1 ∧ t.pt[q].offset = s.pt[q].offset ∧ t.red.armed = s.red.armed) ∧
          (recErr bytes = false → recActive bytes = false →
            t.pt[q].e1 = some (match s.pt[q].e1 with
              | some u => max u (s.extOf (recLatch bytes))
              | none => s.extOf (recLatch bytes))) ∧
          (recErr bytes = false → ∀ n : ChId,
            (t.front[n] = if recActive bytes = true ∧ s.isActive = false ∧ s.red.state ≠ .safe ∧
                s.bit Reg.RED_ALIGN_MASK n = true ∧ s.ch[n].state = .track ∧ blockState bytes n = 2 then
              { s.front[n] with align := some (s.blockPos bytes n s.ch[n].out.time, blockHomed bytes n,
                  blockInt bytes n 40 2, q) } else s.front[n]) ∧
            (s.bit Reg.RED_VOTE_MASK n = false → t.vote[n] = ({} : Vote)) ∧
            (s.bit Reg.RED_VOTE_MASK n = true → ∀ x : Option Nat,
              x = (if recValid bytes n = true ∧ s.chValid n = true ∧
                  s.nearBy (blockTime bytes n) s.ch[n].out.time = true then
                some (if s.reg Reg.RED_VOTE_TOL <
                    Int.ofNat (wrapS 40 (s.blockPos bytes n s.ch[n].out.time - s.ch[n].out.pos)).natAbs
                  then (if q = 0 then s.vote[n].own0 else s.vote[n].own1).getD 0 + 1 else 0)
                else if q = 0 then s.vote[n].own0 else s.vote[n].own1) →
              (if q = 0 then t.vote[n].own0 else t.vote[n].own1) = x ∧
              (if q = 0 then t.vote[n].own1 else t.vote[n].own0) = (if q = 0 then s.vote[n].own1 else s.vote[n].own0) ∧
              (s.reg Reg.RED_MODE ≠ 1 → t.vote[n].pair = s.vote[n].pair) ∧
              ∀ c, s.reg Reg.RED_MODE = 1 → s.pt[if q = 0 then (1 : Fin 2) else 0].good = some c →
                t.vote[n].pair = if recValid bytes n = true ∧ recValid c n = true ∧
                    s.nearBy (blockTime bytes n) (blockTime c n) = true then
                  some (if s.reg Reg.RED_VOTE_TOL <
                      Int.ofNat (wrapS 40 (s.blockPos bytes n (blockTime c n) - blockInt c n 0 5)).natAbs
                    then s.vote[n].pair.getD 0 + 1 else 0)
                  else s.vote[n].pair) ∧
            (t.src (chSrc n 19)).cond = (decide (s.reg Reg.RED_MODE = 1) && s.disagrees t.vote[n].own0 &&
              s.disagrees t.vote[n].own1 && s.agrees t.vote[n].pair)) ∧
          (recErr bytes = false → (t.src 910).cond = all16.any fun n => s.disagrees t.vote[n].own0 &&
            (decide (s.reg Reg.RED_MODE ≠ 1) || (s.disagrees t.vote[n].own1 && s.disagrees t.vote[n].pair)))))) ∧
  (∀ (n : ChId) (xs xc : BitVec 16) (s : State), s.lanesOn = true →
    s.ch[n].state = .track → s.front[n].homePort = none →
    ∀ (target homed ofs : Int) (q : Fin 2), s.front[n].align = some (target, homed, ofs, q) →
    ∀ c : Int, c = wrapS 16 (nearestTurn (Int.ofNat (s.ch[n].loop.th.toNat / 256)) target) →
    ∃ t, exec (.sampleProcess n xs xc) s = .next t ∧ t.front[n].align = none ∧ t.reg (Reg.CH_HOMED n) = homed ∧
      t.reg (Reg.CH_HOME_OFS n) = ofs ∧
      t.reg (Reg.PT_ALIGN_CNT q) = (if c = s.ch[n].loop.carry then s.reg (Reg.PT_ALIGN_CNT q)
        else satInc 32 (s.reg (Reg.PT_ALIGN_CNT q))) ∧
      (t.ch[n].state = .track → t.ch[n].out.pos = pos40 s.ch[n].loop.th c)) ∧
  (∀ (q : Fin 2) (s : State), s.Calm → s.alive = true → s.sup.booted = true → s.hasPartner q = true →
    s.Mild (901 + q.val) →
    ∃ t, exec (.partnerLost q) s = .next t ∧ RaiseFrame { s with pt := t.pt } t ∧
      t.pt[q] = { s.pt[q] with present := false, aligned := false } ∧ (∀ j, j ≠ q → t.pt[j] = s.pt[j]) ∧
      (t.src (901 + q.val)).cond = true) ∧
  (∀ (k : Fin 2) (seat : Fin 4) (q : Fin 2) (s : State), s.Calm → s.alive = true → s.lnk[k].state = .up →
    s.linkPartner k = some q →
    ∃ t, exec (.releaseReceive k seat) s = .next t ∧ t = { s with pt := t.pt } ∧ (∀ j, j ≠ q → t.pt[j] = s.pt[j]) ∧
      t.pt[q] = if s.partnerSeat q = seat.val then { s.pt[q] with e2 := some s.ext } else s.pt[q])

/-- A partner's claim line rising, held and falling, and its OKAY line, move what the sequencer knows. -/
def Obligations.PartnerLinesGiveClaimsAndEvidence : Prop :=
  (∀ (q : Fin 2) (s : State), s.Calm →
    ((s.alive = false ∨ s.hasPartner q = false) →
      ∃ t, exec (.clmInHigh q) s = .next t ∧ t = { s with pt := t.pt } ∧ t.pt[q] = { s.pt[q] with line := true } ∧
        ∀ j, j ≠ q → t.pt[j] = s.pt[j]) ∧
    (s.alive = true → s.hasPartner q = true →
      ∃ t, exec (.clmInHigh q) s = .next t ∧ RaiseFrame { s with pt := t.pt, red := t.red } t ∧
        t.pt[q] = { s.pt[q] with line := true, counted := true, seen := s.pt[q].seen + 1, riseAt := s.ext } ∧
        (∀ j, j ≠ q → t.pt[j] = s.pt[j]) ∧
        (s.red.state ≠ .arbitrate → t.red = s.red) ∧
        (s.red.state = .arbitrate → s.red.step3 = true → t.red.state = .backoff ∧ t.red.clmOut = s.red.clmOut) ∧
        (s.red.state = .arbitrate → s.red.step3 = false →
          t.red = { s.red with sawHigher := s.red.sawHigher || decide (s.partnerSeat q < s.seatNo) }))) ∧
  (∀ (q : Fin 2) (s : State), s.Calm → s.alive = true → s.hasPartner q = true → s.pt[q].line = true →
    s.pt[q].claimed = false → (s.attempting = true → s.red.attempt = true → s.Mild 913) →
    ∃ t, exec (.partnerClaimed q) s = .next t ∧ RaiseFrame { s with pt := t.pt, red := t.red, regs := t.regs } t ∧
      t.pt[q] = { s.pt[q] with
        claimed := true, counted := false, seen := if s.pt[q].counted then s.pt[q].seen - 1 else s.pt[q].seen
        origin := max s.pt[q].riseAt s.red.runEntry } ∧
      (∀ j, j ≠ q → t.pt[j] = s.pt[j]) ∧ t.red.yielding = false ∧ t.red.clmOut = s.red.clmOut ∧
      t.red.armed = (s.red.armed || decide (s.dev.state = .run)) ∧
      s.SameRegs t [Reg.RED_ABANDON_CNT, Reg.FC_LOG_LOST] ∧
      t.red.state = if s.attempting then .standby else s.red.state) ∧
  (∀ (q : Fin 2) (s : State), s.Calm → s.alive = true → s.hasPartner q = true → s.pt[q].line = true →
    ∃ t, exec (.clmInFall q) s = .next t ∧ t = { s with pt := t.pt, red := { s.red with former := t.red.former } } ∧
      t.pt[q] = { s.pt[q] with line := false, counted := false, claimed := false, fallAt := s.ext } ∧ (∀ j, j ≠ q → t.pt[j] = s.pt[j]) ∧
      t.red.former = if s.pt[q].claimed then some q else s.red.former) ∧
  (∀ (q : Fin 2) (level : Bool) (s : State), s.Calm →
    ∃ t, exec (.okinChange q level) s = .next t ∧ t = { s with pt := t.pt } ∧ (∀ j, j ≠ q → t.pt[j] = s.pt[j]) ∧
      t.pt[q] = { s.pt[q] with
        okin := level
        e3 := if s.alive = true ∧ s.hasPartner q = true ∧ s.e3Now q = true then some s.ext else s.pt[q].e3 })

/-- STANDBY, GUARD, ARBITRATE, BACKOFF and the claim follow eligibility, the lines and the evidence. -/
def Obligations.ClaimSequencerMovesThroughItsStates : Prop :=
  (∀ s : State, s.Calm → s.alive = true → s.red.state = .standby →
    (s.eligible = true → s.anyClaimed = false →
      ∃ t, exec .claimAttemptStart s = .next t ∧ SafeFrame s t ∧ t.red.state = .guard ∧ t.red.attempt = true ∧
        t.red.clmOut = s.red.clmOut ∧ (∀ n : ChId, s.feedsOutput n = false → t.ch[n] = s.ch[n]) ∧
        (∀ n : ChId, s.feedsOutput n = true → s.ch[n].inj.state = .pending → t.ch[n].inj.state = .aborted ∧
          t.reg (Reg.CH_INJ_ABORT n) = 2) ∧
        ∀ n : ChId, s.feedsOutput n = true → s.ch[n].inj.state = .running → s.ch[n].inj.stopping = none →
          t.ch[n].inj.stopping = some (true, 2)) ∧
    ((s.eligible = false ∨ s.anyClaimed = true) → exec .claimAttemptStart s = .next s)) ∧
  (∀ s : State, s.Calm → s.alive = true → s.red.state = .guard →
    ((s.eligible = false ∨ s.anyClaimed = true) → (s.red.attempt = true → s.Mild 913) →
      ∃ t, exec .guardComplete s = .next t ∧ RaiseFrame { s with red := t.red, regs := t.regs } t ∧
        t.red.state = .standby ∧ t.red.clmOut = s.red.clmOut ∧ t.red.attempt = false ∧
        s.SameRegs t [Reg.RED_ABANDON_CNT, Reg.FC_LOG_LOST] ∧
        (s.red.attempt = true → t.reg Reg.RED_ABANDON_CNT = satInc 32 (s.reg Reg.RED_ABANDON_CNT))) ∧
    (s.eligible = true → s.anyClaimed = false → (s.pathClear && !s.testsLeft) = true →
      ∃ t, exec .guardComplete s = .next t ∧ RaiseFrame { s with red := t.red } t ∧ t.red.state = .arbitrate ∧
        t.red.tpCount = s.red.tpCount + 1 ∧ t.red.step3 = false ∧ t.red.sawHigher = false ∧
        t.red.clmOut = s.red.clmOut) ∧
    (s.eligible = true → s.anyClaimed = false → (s.pathClear && !s.testsLeft) = false →
      exec .guardComplete s = .next s)) ∧
  (∀ s : State, s.Calm → s.alive = true → s.red.state = .arbitrate → s.red.step3 = false →
    ((s.eligible = false ∨ s.anyClaimed = true ∨ (s.partners.any fun q => s.pt[q].line) = true) →
      (s.red.attempt = true → s.Mild 913) →
      ∃ t, exec .arbitrateWindowEnd s = .next t ∧ RaiseFrame { s with red := t.red, regs := t.regs } t ∧
        t.red.state = .standby ∧ t.red.clmOut = s.red.clmOut ∧ t.red.sawHigher = false) ∧
    (s.eligible = true → s.anyClaimed = false → (s.partners.any fun q => s.pt[q].line) = false →
      (s.red.sawHigher = true →
        ∃ t, exec .arbitrateWindowEnd s = .next t ∧ RaiseFrame { s with red := t.red } t ∧ t.red.state = .backoff ∧
          t.red.sawHigher = false ∧ t.red.clmOut = s.red.clmOut) ∧
      (s.red.sawHigher = false → exec .arbitrateWindowEnd s = .next { s with red := { s.red with step3 := true } }))) ∧
  (∀ s : State, s.Calm → s.alive = true → s.red.state = .arbitrate → s.red.step3 = true → s.eligible = true →
    s.anyClaimed = false →
    (s.pathClear = true → s.Mild 914 →
      ∃ t, exec .claimAssert s = .next t ∧ t.red.clmOut = true ∧ t.red.state = .active ∧ t.red.former = none ∧
        t.red.claimPending = false ∧ t.reg Reg.RED_CLAIM_CNT = satInc 32 (s.reg Reg.RED_CLAIM_CNT) ∧
        (∀ j, faultReg j = false → j ≠ Reg.RED_CLAIM_CNT → (∀ n : Fin 16, j ≠ Reg.EMU_CU_CNT n) → t.reg j = s.reg j) ∧
        (∀ n : ChId, t.ch[n].loop = s.ch[n].loop ∧ t.ch[n].state = s.ch[n].state ∧
          (s.feedsOutput n = true → t.ch[n].inj.state ≠ .running ∧ t.ch[n].inj.state ≠ .pending) ∧
          (s.feedsOutput n = false → t.ch[n] = s.ch[n])) ∧
        (∀ q : Fin 2, s.red.former = some q → ∀ b, s.pt[q].good = some b →
          s.ext - s.extOf (recLatch b) ≤ 2 * s.reg Reg.RED_CYCLE → ∀ (n : Fin 16) (x : Int),
          nearestTarget s.red.targets (recLatch b) n.val = some x → s.flag (Reg.EMU_ENABLE n) = true →
          s.flag (Reg.EMU_SEAT_GATE n) = true → s.emuTally n = false → s.bit Reg.RED_ALIGN_MASK (s.emuSource n) = true →
          s.emu[n].started = true →
          t.emu[n].c = wrapS 64 (s.emu[n].c + wrapS 32 (blockInt b n 44 4 + (s.emu[n].ct - x) - s.emu[n].c))) ∧
        RaiseFrame { s with
          red := t.red, regs := t.regs, ch := t.ch, sched := t.sched, sec := { s.sec with debug := t.sec.debug }
          tap := t.tap } t) ∧
    (s.pathClear = false → exec .claimAssert s = .next s)) ∧
  (∀ s : State, s.Calm → s.alive = true → s.red.state = .backoff →
    ((s.eligible = false ∨ s.anyClaimed = true) → (s.red.attempt = true → s.Mild 913) →
      ∃ t, exec .backoffEnd s = .next t ∧ RaiseFrame { s with red := t.red, regs := t.regs } t ∧
        t.red.state = .standby ∧ t.red.clmOut = s.red.clmOut) ∧
    (s.eligible = true → s.anyClaimed = false →
      ∃ t, exec .backoffEnd s = .next t ∧
        RaiseFrame { s with red := t.red, ch := t.ch, sched := t.sched, regs := t.regs } t ∧ t.red.state = .guard ∧
        (∀ n : ChId, s.feedsOutput n = false → t.ch[n] = s.ch[n]) ∧
        (∀ n : ChId, s.feedsOutput n = true → s.ch[n].inj.state = .running → s.ch[n].inj.stopping = none →
          t.ch[n].inj.stopping = some (true, 2)) ∧ t.red.clmOut = s.red.clmOut))

/-- The claim is released, yielded or missed, and frames of the old ACTIVE seat are dropped. -/
def Obligations.ClaimsAreReleasedYieldedAndMissed : Prop :=
  (∀ s : State, s.Calm →
    (s.floorOn = true → s.eligible = false → s.isActive = true →
      ∃ t, exec .claimRelease s = .next t ∧ RaiseFrame { s with red := t.red, lnk := t.lnk } t ∧ t.red.clmOut = false ∧
        t.red.state = .standby ∧ ∀ k : Fin 2, t.lnk[k] =
          if s.lnk[k].state = .up then { s.lnk[k] with releases := s.lnk[k].releases + 3 } else s.lnk[k]) ∧
    (s.alive = true → s.eligible = false → s.attempting = true → (s.red.attempt = true → s.Mild 913) →
      ∃ t, exec .claimRelease s = .next t ∧ RaiseFrame { s with red := t.red, regs := t.regs } t ∧
        t.red.state = .standby ∧ t.red.clmOut = s.red.clmOut ∧ s.SameRegs t [Reg.RED_ABANDON_CNT, Reg.FC_LOG_LOST]) ∧
    (s.eligible = true → exec .claimRelease s = .next s)) ∧
  (∀ (p : Port) (s : State), s.Calm → s.AdmitsCmd p Reg.RED_CLAIM →
    ∃ t, exec (.redClaim p) s = .next t ∧
      t = { s.beat p with red := { s.red with yielding := false, claimPending := !s.isActive } }) ∧
  (∀ (p : Port) (s : State), s.Calm → s.AdmitsCmd p Reg.RED_RELEASE →
    (s.red.attempt = true → s.Mild 913) →
    ∃ t, exec (.redRelease p) s = .next t ∧ t.red.yielding = true ∧ t.red.claimPending = false ∧
      RaiseFrame { s.beat p with red := t.red, lnk := t.lnk, regs := t.regs } t ∧
      s.SameRegs t [Reg.RED_ABANDON_CNT, Reg.FC_LOG_LOST] ∧ (s.isActive = true → t.red.clmOut = false) ∧
      (∀ k : Fin 2, t.lnk[k] =
        if s.lnk[k].state = .up then { s.lnk[k] with releases := s.lnk[k].releases + 3 } else s.lnk[k]) ∧
      t.red.state = if s.red.state = .safe then .safe else .standby) ∧
  (∀ s : State, s.Calm → s.alive = true → s.dev.state = .run →
    (s.red.armed = true → s.isActive = false → s.eligible = false → (s.fltNow 909).2.1 = 3 →
      (s.src 909).cond = false → (s.src 909).force = false → s.floor.deviceSafe = false →
      (s.partners.any fun q => (s.lineTrusted q && s.pt[q].claimed) || s.seesActive q) = false →
      ∃ t, exec .redNoActive s = .next t ∧ SafeFrame s t ∧ t.dev.state = .safe ∧ t.floor.deviceSafe = true ∧
        t.red.clmOut = false ∧ (t.src 909).count = (satInc 32 (Int.ofNat (s.src 909).count)).toNat) ∧
    ((s.red.armed = false ∨ s.isActive = true ∨
        (s.partners.any fun q => (s.lineTrusted q && s.pt[q].claimed) || s.seesActive q) = true) →
      exec .redNoActive s = .next s)) ∧
  (∀ (q : Fin 16) (s : State) (out : List Desc), s.Calm → s.alive = true → s.Mild 911 →
    out = (if s.tq[q].sending then s.tq[q].descs.drop 1 else s.tq[q].descs).filter s.pastWindow →
    ∃ t, exec (.handoverDrop q) s = .next t ∧ (∀ j, j ≠ q → t.tq[j] = s.tq[j]) ∧
      RaiseFrame { s with tq := t.tq, eth := t.eth, can := t.can, fresh := t.fresh, regs := t.regs } t ∧
      s.SameRegs t [Reg.RED_HANDOVER_DROP_CNT, Reg.FC_LOG_LOST] ∧ (out = [] → t.tq = s.tq ∧ t.regs = s.regs) ∧
      ∀ d, out = [d] → t.tq[q].descs = s.tq[q].descs.erase d ∧
        t.reg Reg.RED_HANDOVER_DROP_CNT = satInc 32 (s.reg Reg.RED_HANDOVER_DROP_CNT) ∧
        ∃ c, t.tq[q].compl = (c :: s.tq[q].compl).take 16 ∧ sliceB 2 1 c = [5#8])

/-- A write is visible at once or held in its group, and a fence makes the group visible whole or not at all. -/
def Obligations.WritesGroupsAndFencesTakeEffectTogether : Prop :=
  (∀ (p : Port) (index : BitVec 16) (sub : Byte) (data : Bytes) (v : Int) (k : Key) (o : Obj) (s : State), s.Calm →
    k = keyOf index sub → s.Admits p k data v → findObj k = some o →
    (o.acc = .rws → ownCheck p (s.beat p) (overlay s.reg [(k, v)]) k v = .ok () →
      (∃ t, exec (.registerWrite p index sub data) s = .next t ∧
        t = ((((s.beat p).setReg k v).onVisible p k (s.reg k) v).cfgGen).settled) ∧
      (plainAt p k v → k ≠ Reg.CFG_GEN →
        ∃ t, exec (.registerWrite p index sub data) s = .next t ∧ s.Visible t k v ∧ t = { s.beat p with regs := t.regs })) ∧
    (o.acc = .rws → ∀ n, ownCheck p (s.beat p) (overlay s.reg [(k, v)]) k v = .error n → n ≠ nakSched → n ≠ nakRole →
      ∃ t, exec (.registerWrite p index sub data) s = .next t ∧ s.RefusedAs t p k n) ∧
    (o.acc = .rwf → ((s.port[p].group.any fun e => e.1 = k) = true ∨ s.groupFull p = false) →
      ∃ t, exec (.rwfWrite p index sub data) s = .next t ∧ t = { s.beat p with port := t.port } ∧
        t.port[p] = { (s.beat p).port[p] with group := putEntry s.port[p].group k v } ∧
        ∀ q, q ≠ p → t.port[q] = s.port[q]) ∧
    (o.acc = .rwf → (s.port[p].group.any fun e => e.1 = k) = false → s.groupFull p = true →
      ∃ t, exec (.rwfWrite p index sub data) s = .next t ∧ s.RefusedAs t p k nakInflight)) ∧
  (∀ (p : Port) (v : Int) (s : State), s.Calm → s.Admits p Reg.DIAG_COUNT (dataAt Reg.DIAG_COUNT v) v →
    (v = 0 → ∃ t, exec (.diagCountWrite p v) s = .next t ∧ t = { s.beat p with dev := { s.dev with diag := [] } }) ∧
    (v ≠ 0 → ∃ t, exec (.diagCountWrite p v) s = .next t ∧ s.RefusedAs t p Reg.DIAG_COUNT nakRange)) ∧
  (∀ (p : Port) (v : BitVec 32) (s : State), s.Calm →
    s.Admits p Reg.FENCE_LOCAL (leBytes 4 v.toNat) (Int.ofNat v.toNat) →
    ∃ t, exec (.fenceLocal p v) s = .next t ∧ s.Fenced t p .loc v.toNat) ∧
  (∀ (p : Port) (v : BitVec 32) (s : State), s.Calm →
    s.Admits p Reg.FENCE_GLOBAL (leBytes 4 v.toNat) (Int.ofNat v.toNat) →
    ∃ t, exec (.fenceGlobal p v) s = .next t ∧ s.Fenced t p .glob v.toNat) ∧
  (∀ (p : Port) (v : BitVec 64) (s : State), s.Calm → s.Admits p Reg.FENCE_AT (leBytes 8 v.toNat) (Int.ofNat v.toNat) →
    ∃ t, exec (.fenceAt p v) s = .next t ∧ s.Fenced t p .at_ v.toNat) ∧
  (∀ (p : Port) (g : Group) (r : Route) (s : State), s.Calm → s.alive = true →
    (s.grp.sealed.find? fun x => x.1.port = p) = some (g, r) →
    (s.groupReady g = false → exec (.groupVisible p) s = .next s) ∧
    (s.groupReady g = true → (g.all = true → s.grp.held = []) →
      ∃ t, exec (.groupVisible p) s = .next t ∧ t.port[p].lastResult = 1 ∧
        (r = .none → plainEntries p g.entries → s.Shows t g.entries ∧ (∀ q, q ≠ p → t.port[q] = s.port[q]) ∧
          (g.port = p → t.port[p] = { s.port[p] with
            lastResult := 1, tagResult := if s.port[p].fences = g.no then 1 else s.port[p].tagResult }) ∧
          t = { s with
            regs := t.regs, port := t.port
            grp := { s.grp with sealed := s.grp.sealed.filter fun y => y.1.port ≠ p } }))) ∧
  (∀ (g : Group) (s : State), s.Calm → s.alive = true →
    (s.grp.timed.find? fun x => reached s.timeNow x.due) = some g →
    (∀ k n, (s.modGrp fun x => { x with timed := x.timed.erase g }).groupFault g.port g.entries = some (k, n) →
      s.Mild 1024 →
      ∃ t, exec .timedGroupDue s = .next t ∧ t.port[g.port].lastResult = 6 ∧ t.port[g.port].failObj = k ∧
        t.grp = { s.grp with timed := s.grp.timed.erase g } ∧ RaiseFrame { s with port := t.port, grp := t.grp } t) ∧
    ((s.modGrp fun x => { x with timed := x.timed.erase g }).groupFault g.port g.entries = none →
      ∃ t, exec .timedGroupDue s = .next t ∧ t.port[g.port].lastResult = 1 ∧
        (plainEntries g.port g.entries → s.Shows t g.entries ∧ (∀ q, q ≠ g.port → t.port[q] = s.port[q]) ∧
          t.port[g.port] = { s.port[g.port] with
            lastResult := 1, tagResult := if s.port[g.port].fences = g.no then 1 else s.port[g.port].tagResult } ∧
          t = { s with regs := t.regs, port := t.port, grp := { s.grp with timed := s.grp.timed.erase g } }))) ∧
  ∀ (g : Group) (s : State), s.Calm → s.alive = true → (s.grp.timed.any fun x => reached s.timeNow x.due) = false →
    exec .timedGroupDue s = .next s

/-- Heartbeats, discards, device states and the end of BOOT take the effects that their commands name. -/
def Obligations.PortsAndDeviceStatesFollowTheirCommands : Prop :=
  (∀ (p q : Port) (s : State), s.Calm → s.AdmitsCmd p (Reg.PORT_HEARTBEAT q) →
    ∃ t, exec (.portHeartbeat p q) s = .next t ∧ t = (s.beat p).beat q) ∧
  (∀ (q : Port) (s : State), s.Calm → s.alive = true → s.mgmt.restarting = false → s.port[q].hb = .alive →
    s.reg (Reg.PORT_HB_TMO q) ≠ 0 →
    ∃ t, exec (.heartbeatExpiry q) s = .next t ∧ t = { s with port := t.port, eth := t.eth, regs := t.regs } ∧
      (∀ j, j ≠ q → t.port[j] = s.port[j]) ∧
      t.port[q] = { s.port[q] with
        hb := .expired, role := .observer, group := []
        lastResult := if s.port[q].group = [] then s.port[q].lastResult else 4 } ∧
      (s.port[q].group = [] → t.regs = s.regs) ∧
      (s.port[q].group ≠ [] → s.OneReg t (Reg.GRP_DISCARD_CNT q) (satInc 32 (s.reg (Reg.GRP_DISCARD_CNT q)))) ∧
      ∀ k : Fin 2, t.eth[k] = if ethPort k = q then { s.eth[k] with peer := none, last := none } else s.eth[k]) ∧
  (∀ (p q : Port) (s : State), s.Calm → s.AdmitsCmd p (Reg.GRP_DISCARD q) →
    ∃ t, exec (.grpDiscard p q) s = .next t ∧ t = { s.beat p with port := t.port, regs := t.regs } ∧
      (∀ j, j ≠ q → t.port[j] = (s.beat p).port[j]) ∧
      t.port[q] = { (s.beat p).port[q] with
        group := [], lastResult := if s.port[q].group = [] then s.port[q].lastResult else 5 } ∧
      (s.port[q].group = [] → t.regs = s.regs) ∧
      (s.port[q].group ≠ [] → s.OneReg t (Reg.GRP_DISCARD_CNT q) (satInc 32 (s.reg (Reg.GRP_DISCARD_CNT q))))) ∧
  (∀ (p q : Port) (s : State), s.Calm → s.AdmitsCmd p (Reg.GRP_TIMED_CANCEL q) →
    ∃ t, exec (.grpTimedCancel p q) s = .next t ∧
      t = { s.beat p with port := t.port, grp := { s.grp with timed := s.grp.timed.filter fun g => g.port ≠ q } } ∧
      (∀ j, j ≠ q → t.port[j] = (s.beat p).port[j]) ∧
      ((s.grp.timed.any fun g => g.port = q) = true → t.port[q].lastResult = 5) ∧
      ((s.grp.timed.any fun g => g.port = q) = false → t.port = (s.beat p).port)) ∧
  (∀ (p : Port) (s : State), s.Calm → (s.red.attempt = true → s.Mild 913) → (∀ n : ChId, s.Mild (chSrc n 16)) →
    (s.Admits p Reg.DEV_STATE_CMD (dataAt Reg.DEV_STATE_CMD 2) 2 →
      (s.dev.state = .run → exec (.goRun p) s = .next (s.beat p)) ∧
      (s.dev.state ≠ .run → (!s.fatal && !s.seatMismatch && s.sup.power = .run) = true →
        ∃ t, exec (.goRun p) s = .next t ∧ t.dev.state = .run ∧ t.dev.reason = 2 ∧ t.red.runEntry = s.ext ∧
          SafeFrame { s.beat p with pt := t.pt } t ∧ (∀ q : Fin 2, t.pt[q] = { s.pt[q] with origin := s.ext }) ∧
          t.exc = s.exc ∧ ∀ n : ChId, t.ch[n].state = s.ch[n].state ∧ t.ch[n].loop = s.ch[n].loop) ∧
      (s.dev.state ≠ .run → (!s.fatal && !s.seatMismatch && s.sup.power = .run) = false →
        ∃ t, exec (.goRun p) s = .next t ∧ s.RefusedAs t p Reg.DEV_STATE_CMD nakCond)) ∧
    (s.Admits p Reg.DEV_STATE_CMD (dataAt Reg.DEV_STATE_CMD 3) 3 →
      ∃ t, exec (.goService p) s = .next t ∧ t.dev.state = .service ∧ SafeFrame (s.beat p) t ∧ t.exc = s.exc ∧
        (∀ n : ChId, t.ch[n].state = s.ch[n].state ∧ t.ch[n].loop = s.ch[n].loop) ∧
        (s.dev.state = .run → t.red.state = .standby ∧ t.red.armed = false ∧ (s.isActive = true → t.red.clmOut = false))) ∧
    (s.Admits p Reg.DEV_STATE_CMD (dataAt Reg.DEV_STATE_CMD 1) 1 →
      ∃ t, exec (.goConfig p) s = .next t ∧ t.dev.state = .config ∧ SafeFrame (s.beat p) t ∧ t.exc = s.exc ∧
        (∀ n : ChId, t.ch[n].state = s.ch[n].state ∧ t.ch[n].loop = s.ch[n].loop) ∧
        (s.dev.state = .run → t.red.state = .standby ∧ t.red.armed = false ∧ (s.isActive = true → t.red.clmOut = false))) ∧
    (s.Admits p Reg.DEV_STATE_CMD (dataAt Reg.DEV_STATE_CMD 4) 4 →
      ((!s.safeHeld && s.sup.power = .run) = true →
        ∃ t, exec (.leaveSafe p) s = .next t ∧ t.dev.state = .config ∧ t.floor.deviceSafe = false ∧
          t.red.state = .standby ∧ t.time = s.time ∧ t.tal = s.tal ∧ t.tq = s.tq ∧ t.store = s.store ∧ t.sets = s.sets ∧
          t.grp = s.grp ∧ (∀ e : ExcId, t.exc[e].state ≠ .held) ∧
          ∀ n : ChId, t.ch[n].state = s.ch[n].state ∧ t.ch[n].loop = s.ch[n].loop) ∧
      ((!s.safeHeld && s.sup.power = .run) = false →
        ∃ t, exec (.leaveSafe p) s = .next t ∧ s.RefusedAs t p Reg.DEV_STATE_CMD nakCond))) ∧
  (∀ (p : Port) (s : State), s.Calm → s.inSafe = false → s.dev.state = .run → s.red.attempt = true → s.red.clmOut = false →
    s.isActive = false → (s.fltNow 913).2.1 = 3 → (s.src 913).cond = false → (s.src 913).force = false →
    s.reg Reg.DEV_REFUSE_CNT < 2 ^ 32 - 1 →
    (s.Admits p Reg.DEV_STATE_CMD (dataAt Reg.DEV_STATE_CMD 3) 3 →
      ∃ t, exec (.goService p) s = .next t ∧ t.dev.state = .safe ∧ t.floor.deviceSafe = true ∧ t.floor.request = false ∧
        t.reg Reg.DEV_REFUSE_CNT = s.reg Reg.DEV_REFUSE_CNT + 1 ∧ (t.dev.diag.head?.map fun d => d.nak) = some nakCond) ∧
    (s.Admits p Reg.DEV_STATE_CMD (dataAt Reg.DEV_STATE_CMD 1) 1 →
      ∃ t, exec (.goConfig p) s = .next t ∧ t.dev.state = .safe ∧ t.floor.deviceSafe = true ∧ t.floor.request = false ∧
        t.reg Reg.DEV_REFUSE_CNT = s.reg Reg.DEV_REFUSE_CNT + 1 ∧ (t.dev.diag.head?.map fun d => d.nak) = some nakCond)) ∧
  (∀ s : State, s.Calm → s.alive = true → s.mgmt.service = true → s.sup.booted = false → s.dev.state = .boot →
    ∃ t, exec .bootComplete s = .next t ∧ t.sup.booted = true ∧ t.dev.state ≠ .boot ∧
      t.store.gens = s.store.gens.map StoreGen.checked ∧
      (newestStore t.store.gens = none → t.store.source = 2) ∧
      (∀ g, newestStore t.store.gens = some g →
        t.store.source = b2n t.store.gens[if g = 0 then (1 : Fin 2) else 0].torn) ∧
      t.bead.gens = s.bead.gens.map BeadGen.checked ∧
      (∀ g, newestGen t.bead.gens = some g → t.bead.working = t.bead.gens[g].beads) ∧
      (t.dev.state ≠ .safe → t.dev.state = (if (t.flag Reg.DEV_AUTORUN && (s.sec.lifecycle = 1 || s.sec.lifecycle = 2) &&
        t.store.source = 0 && !t.seatMismatch && !t.fatal) = true then .run else .config) ∧
        (t.floor.deviceSafe = true → t.safeHeld = true)) ∧
      (s.sec.lifecycle = 3 → (t.src 1088).cond = true ∧ (s.sup.power = .run → t.sup.power = .safeHold)))

/-- A store writes the older generation whole, and a restore makes every stored object visible or none. -/
def Obligations.StoreAndRestoreMoveTheWholeConfiguration : Prop :=
  (∀ (p : Port) (v : BitVec 32) (s : State), s.Calm →
    s.Admits p Reg.DEV_STORE (dataAt Reg.DEV_STORE (Int.ofNat v.toNat)) (Int.ofNat v.toNat) →
    (v = 0x65766173 → s.updWaits = false → s.sched[mramDomain].running = none →
      ∃ t, exec (.devStore p v) s = .next t ∧ t = { s.beat p with sched := t.sched } ∧
        t.sched[mramDomain].running = some .store ∧ ∀ d, d ≠ mramDomain → t.sched[d] = s.sched[d]) ∧
    (v = 0x65766173 → s.updWaits = false → s.sched[mramDomain].running.isSome = true →
      s.sched[mramDomain].pending = none →
      ∃ t, exec (.devStore p v) s = .next t ∧ t = { s.beat p with sched := t.sched } ∧
        t.sched[mramDomain] = { s.sched[mramDomain] with pending := some .store }) ∧
    (v ≠ 0x65766173 → ∃ t, exec (.devStore p v) s = .next t ∧ s.RefusedAs t p Reg.DEV_STORE nakSignature)) ∧
  (∀ (n : Fin 5) (ok : Bool) (s : State), s.Calm → s.alive = true → s.serviceOn = true →
    s.sched[mramDomain].running = some .store → s.Mild 1025 →
    ∃ t, exec (.storeRun n ok) s = .next t ∧ RaiseFrame { s with store := t.store, sched := t.sched } t ∧
      (s.sched[mramDomain].suspended = false → s.upd.state ≠ .waitQuiet →
        t.sched[mramDomain].running = s.sched[mramDomain].pending) ∧
      (n.val = 4 → t.store = { s.store with state := 3, detail := 1 }) ∧
      (n.val < 4 → ok = false → t.store.state = 3 ∧ t.store.detail = 2 ∧ (t.src 1025).cond = true ∧
        ∀ g, newestStore s.store.gens = some g → newestStore t.store.gens = some g ∧ t.store.gens[g] = s.store.gens[g]) ∧
      (n.val < 4 → ok = true → t.store.state = 0 ∧ t.store.detail = 0 ∧ (t.src 1025).cond = false ∧
        (newestStore s.store.gens = none →
          t.store.gens[(0 : Fin 2)] = { valid := true, counter := 1, crc := storeCrc s.storedValues, values := s.storedValues }) ∧
        ∀ g : Fin 2, newestStore s.store.gens = some g →
          t.store.gens[g] = s.store.gens[g] ∧
          t.store.gens[if g = 0 then (1 : Fin 2) else 0] = { valid := true, values := s.storedValues
                                                             crc := storeCrc s.storedValues
                                                             counter := (s.store.gens[g].counter + 1) % 2 ^ 32 })) ∧
  (∀ (p : Port) (v : BitVec 32) (s : State) (es : List Entry), s.Calm →
    s.Admits p Reg.RESTORE_DEFAULTS (leBytes 4 v.toNat) (Int.ofNat v.toNat) → es = s.restoreEntries regDefault [] →
    (v = 0x64616F6C → (s.beat p).groupFault p es = none →
      (∃ t, exec (.restoreDefaults p v) s = .next t ∧ t = ((s.beat p).makeVisible p es).settled) ∧
      (plainEntries p es → ∃ t, exec (.restoreDefaults p v) s = .next t ∧ s.Shows t es ∧
        t = { s.beat p with regs := t.regs } ∧ ∀ k, isStored k = true → t.reg k = regDefault k)) ∧
    (v = 0x64616F6C → ∀ k n, (s.beat p).groupFault p es = some (k, n) →
      ∃ t, exec (.restoreDefaults p v) s = .next t ∧ t.port[p].failObj = k ∧
        s.OneReg t Reg.DEV_REFUSE_CNT (satInc 32 (s.reg Reg.DEV_REFUSE_CNT)) ∧
        t = { s.beat p with regs := t.regs, port := t.port, dev := t.dev }) ∧
    (v ≠ 0x64616F6C →
      ∃ t, exec (.restoreDefaults p v) s = .next t ∧ s.RefusedAs t p Reg.RESTORE_DEFAULTS nakSignature)) ∧
  (∀ (p : Port) (v : BitVec 32) (s : State) (es : List Entry), s.Calm →
    s.Admits p Reg.RESTORE_STORED (leBytes 4 v.toNat) (Int.ofNat v.toNat) → es = s.restoreEntries s.stored s.storedKeys →
    (v = 0x64616F6C → (newestStore s.store.gens).isSome = true → (s.beat p).groupFault p es = none →
      (∃ t, exec (.restoreStored p v) s = .next t ∧ t = ((s.beat p).makeVisible p es).settled) ∧
      (plainEntries p es → ∃ t, exec (.restoreStored p v) s = .next t ∧ s.Shows t es ∧
        t = { s.beat p with regs := t.regs } ∧ ∀ k, isStored k = true → t.reg k = s.stored k)) ∧
    (v = 0x64616F6C → (newestStore s.store.gens).isSome = false →
      ∃ t, exec (.restoreStored p v) s = .next t ∧ s.RefusedAs t p Reg.RESTORE_STORED nakCond) ∧
    (v ≠ 0x64616F6C →
      ∃ t, exec (.restoreStored p v) s = .next t ∧ s.RefusedAs t p Reg.RESTORE_STORED nakSignature))

/-- Each HSP request is answered once by a POLL, the FLOOR frame by the floor, and DBG by its data registers. -/
def Obligations.HostSerialPortsAndTheTapAnswer : Prop :=
  (∀ (h : Fin 2) (hh : Fin 3) (tag : Byte) (index : BitVec 16) (sub : Byte) (k : Key) (s : State), s.Calm →
    hh.val = h.val → k = keyOf index sub → s.hspBusy hh = false → s.gate (hspPort hh) = .ready →
    (∀ n, State.readChecks (hspPort hh) k = .error n →
      ∃ t, exec (.hspRead h tag index sub) s = .next t ∧ t.hsp[hh] = { s.hsp[hh] with
        executing := none, error := none, sent := [0xFF#8], reply := some (tag, n.abort, []) } ∧ (∀ j, j ≠ hh → t.hsp[j] = s.hsp[j]) ∧
        s.OneReg t Reg.DEV_REFUSE_CNT (satInc 32 (s.reg Reg.DEV_REFUSE_CNT)) ∧
        t = { s.beat (hspPort hh) with regs := t.regs, hsp := t.hsp, dev := t.dev }) ∧
    (∀ o u d, State.readChecks (hspPort hh) k = .ok o →
      (((s.quietMiso hh).modHsp hh fun x => { x with executing := some tag, reply := none, error := none }).beat (hspPort hh)).readObj
        (hspPort hh) k o = .ok (u, d) → u.Calm →
      ∃ t, exec (.hspRead h tag index sub) s = .next t ∧
        t = u.modHsp hh fun x => { x with executing := none, reply := some (tag, 0, d) })) ∧
  (∀ (h : Fin 2) (hh : Fin 3) (tag : Byte) (index : BitVec 16) (sub : Byte) (data : Bytes) (k : Key) (s : State),
    s.Calm → hh.val = h.val → k = keyOf index sub → s.hspBusy hh = false → s.gate (hspPort hh) = .ready →
    (∀ n, (s.beat (hspPort hh)).writeChecks (hspPort hh) k data = .error n → n ≠ nakSched → n ≠ nakRole →
      ∃ t, exec (.hspWrite h tag index sub data) s = .next t ∧ t.hsp[hh] = { s.hsp[hh] with
        executing := none, error := none, sent := [0xFF#8], reply := some (tag, n.abort, []) } ∧ (∀ j, j ≠ hh → t.hsp[j] = s.hsp[j]) ∧
        s.OneReg t Reg.DEV_REFUSE_CNT (satInc 32 (s.reg Reg.DEV_REFUSE_CNT)) ∧
        t = { s.beat (hspPort hh) with regs := t.regs, hsp := t.hsp, dev := t.dev }) ∧
    (∀ o v, (s.beat (hspPort hh)).writeChecks (hspPort hh) k data = .ok (o, v) → findObj k = some o → o.acc = .rws →
      ownCheck (hspPort hh) (((s.quietMiso hh).modHsp hh fun x => { x with executing := some tag, reply := none, error := none }).beat
        (hspPort hh)) (overlay s.reg [(k, v)]) k v = .ok () → plainAt (hspPort hh) k v → k ≠ Reg.CFG_GEN →
      ∃ t, exec (.hspWrite h tag index sub data) s = .next t ∧ s.Visible t k v ∧
        t.hsp[hh] = { s.hsp[hh] with
          executing := none, error := none, sent := [0xFF#8], reply := some (tag, 0, []) } ∧
        (∀ j, j ≠ hh → t.hsp[j] = s.hsp[j]) ∧ t = { s.beat (hspPort hh) with regs := t.regs, hsp := t.hsp })) ∧
  (∀ (h : Fin 2) (hh : Fin 3) (tag : Byte) (index : BitVec 16) (sub : Byte) (data : Bytes) (s : State), s.Calm →
    hh.val = h.val → s.alive = true → s.hspBusy hh = true → s.Mild (972 + h.val) →
    ∃ t, exec (.hspRead h tag index sub) s = .next t ∧ exec (.hspWrite h tag index sub data) s = .next t ∧
      RaiseFrame { s with hsp := t.hsp, regs := t.regs } t ∧ t.hsp[hh] = { s.hsp[hh] with error := some 5, sent := [0xFF#8] } ∧
      (∀ j, j ≠ hh → t.hsp[j] = s.hsp[j]) ∧ s.SameRegs t [Reg.HSP_FRAME_ERR_CNT h.val, Reg.FC_LOG_LOST] ∧
      t.reg (Reg.HSP_FRAME_ERR_CNT h.val) = satInc 32 (s.reg (Reg.HSP_FRAME_ERR_CNT h.val))) ∧
  (∀ (h : Fin 2) (hh : Fin 3) (s : State), s.Calm → hh.val = h.val → s.alive = true →
    ∃ t, exec (.hspPoll h) s = .next t ∧ t = { s with hsp := t.hsp, fresh := s.fresh + 1 } ∧
      (∀ j, j ≠ hh → t.hsp[j] = s.hsp[j]) ∧
      (∀ e, s.hsp[hh].error = some e → t.hsp[hh] = { s.hsp[hh] with error := none, sent := t.hsp[hh].sent } ∧
        ∃ tag, t.hsp[hh].sent = hspFrame 0xA tag (leBytes 4 e)) ∧
      (s.hsp[hh].error = none → t.hsp[hh] = { s.hsp[hh] with reply := none, sent := t.hsp[hh].sent } ∧
        (∀ tag a d, s.hsp[hh].reply = some (tag, a, d) → t.hsp[hh].sent = hspFrame 8 tag (leBytes 4 a ++ d)) ∧
        (∀ tag, s.hsp[hh].reply = none → s.hsp[hh].executing = some tag → t.hsp[hh].sent = hspFrame 9 tag []) ∧
        (s.hsp[hh].reply = none → s.hsp[hh].executing = none → ∃ tag, t.hsp[hh].sent = hspFrame 0xB tag []))) ∧
  (∀ (h : Fin 2) (hh : Fin 3) (code : HspErr) (s : State), s.Calm → hh.val = h.val → s.alive = true →
    (code = .busy → s.hspBusy hh = true) → s.Mild (972 + h.val) →
    ∃ t, exec (.hspFrameError h code) s = .next t ∧ RaiseFrame { s with hsp := t.hsp, regs := t.regs } t ∧
      t.hsp[hh] = { s.hsp[hh] with error := some (hspErrNum code), sent := [0xFF#8] } ∧ (∀ j, j ≠ hh → t.hsp[j] = s.hsp[j]) ∧
      t.reg (hspCounter h.val code) = satInc 32 (s.reg (hspCounter h.val code)) ∧
      s.SameRegs t [hspCounter h.val code, Reg.FC_LOG_LOST]) ∧
  (∀ (h : Fin 2) (hh : Fin 3) (s : State), s.Calm → hh.val = h.val →
    (s.oscOn = true → ∃ t, exec (.floor h) s = .next t ∧ t = { s with hsp := t.hsp } ∧
      t.hsp[hh] = { s.hsp[hh] with sent := s.floorBytes } ∧ ∀ j, j ≠ hh → t.hsp[j] = s.hsp[j]) ∧
    (s.oscOn = false → exec (.floor h) s = .next s) ∧
    (s.floorOn = true → exec .dbgFloorCapture s = .next { s with tap := { s.tap with
      ir := 0x20, floor := if s.oscOn = true then s.floorBytes else s.tap.floor } }) ∧
    (s.floorOn = false → exec .dbgFloorCapture s = .next s)) ∧
  (∀ (ir : Byte) (bits : Bytes) (s u : State), s.Calm → s.floorOn = true → u = { s with tap := { s.tap with ir := ir } } →
    (ir = 0x20 → exec (.dbgDictUpdate ⟨ir, bits⟩) s = .next { u with tap := { u.tap with
      floor := if s.oscOn = true then s.floorBytes else s.tap.floor } }) ∧
    (ir ∉ [0x00#8, 0x02#8, 0x20#8, 0x21#8] → exec (.dbgDictUpdate ⟨ir, bits⟩) s = .next u) ∧
    ((ir = 0x00 ∧ s.sec.debug = 2 ∧ (s.dev.state = .config ∨ s.dev.state = .safe)) ∨ (ir = 0x02 ∧ s.sec.debug ≠ 0) →
      exec (.dbgDictUpdate ⟨ir, bits⟩) s = .next { u with
        fresh := s.fresh + 1, tap := { u.tap with cells := u.captured, latch := bitList bits } }) ∧
    ((ir = 0x00 ∧ ¬(s.sec.debug = 2 ∧ (s.dev.state = .config ∨ s.dev.state = .safe))) ∨ (ir = 0x02 ∧ s.sec.debug = 0) →
      exec (.dbgDictUpdate ⟨ir, bits⟩) s = .next u) ∧
    (ir = 0x21 → (s.alive = false ∨ s.sec.debug = 0) → exec (.dbgDictUpdate ⟨ir, bits⟩) s = .next u) ∧
    (ir = 0x21 → s.alive = true → s.sec.debug ≠ 0 →
      (∀ e, hspParse bits = .bad e → ∃ t, exec (.dbgDictUpdate ⟨ir, bits⟩) s = .next t ∧
        t = { u with hsp := t.hsp, fresh := s.fresh + 1, tap := { u.tap with dict := s.pollFrame 2 } } ∧
        t.hsp[(2 : Fin 3)].error = some (hspErrNum e)) ∧
      ((hspParse bits = .poll ∨ hspParse bits = .floor) → ∃ t, exec (.dbgDictUpdate ⟨ir, bits⟩) s = .next t ∧
        t = { u with hsp := t.hsp, fresh := s.fresh + 1, tap := { u.tap with dict := s.pollFrame 2 } } ∧
        t.hsp[(2 : Fin 3)].sent = s.pollFrame 2) ∧
      (∀ tag k n, hspParse bits = .read tag k → s.hspBusy 2 = false → s.gate 6 = .ready →
        State.readChecks 6 k = .error n → ∃ t, exec (.dbgDictUpdate ⟨ir, bits⟩) s = .next t ∧
          t.tap.dict = s.pollFrame 2 ∧ t.hsp[(2 : Fin 3)].reply = some (tag, n.abort, [])) ∧
      (∀ tag k d, hspParse bits = .write tag k d → s.sec.debug = 1 →
        ∃ t, exec (.dbgDictUpdate ⟨ir, bits⟩) s = .next t ∧ s.SameRegs t [Reg.DEV_REFUSE_CNT] ∧
          t.port[(6 : Port)].group = s.port[(6 : Port)].group ∧ t.ch = s.ch ∧ t.dev.state = s.dev.state)))

/-- Datagrams, ARP, echo, PTP frames, SDO transfers and CAN errors are answered or counted as the ports say. -/
def Obligations.EthernetAndCanAnswerCountAndRecover : Prop :=
  (∀ (k : Fin 2) (r : Reply) (s : State),
    (s.ethSend k r) = { s with eth := (s.ethSend k r).eth } ∧ (∀ j, j ≠ k → (s.ethSend k r).eth[j] = s.eth[j]) ∧
    (s.ethSend k r).eth[k] = if s.netDue ⟨k.val, by omega⟩ then { s.eth[k] with waiting := s.eth[k].waiting ++ [r] }
      else { s.eth[k] with sent := some r }) ∧
  (∀ (c : Fin 2) (b : Bytes) (s : State),
    (s.canSend c b) = { s with can := (s.canSend c b).can } ∧ (∀ j, j ≠ c → (s.canSend c b).can[j] = s.can[j]) ∧
    (s.canSend c b).can[c] = if s.netDue ⟨c.val + 2, by omega⟩ then { s.can[c] with waiting := s.can[c].waiting ++ [b] }
      else { s.can[c] with sent := b, sentId := 0x580 + s.regN (Reg.CAN_NODE_ID c) }) ∧
  (∀ (k : Fin 2) (dst mac : BitVec 48) (ip : BitVec 32) (udp : BitVec 16) (b : Bytes) (s : State), s.Calm →
    s.ethOn k = true → s.ethTakes k dst.toNat = true → s.reg (Reg.ETH_IP k) ≠ 0 →
    (dgrOk b = false → ∃ t, exec (.dictDatagram k ⟨dst, mac⟩ ip udp b) s = .next t ∧ t = { s with regs := t.regs } ∧
      s.OneReg t (Reg.ETH_RX_ERR_CNT k) (satInc 32 (s.reg (Reg.ETH_RX_ERR_CNT k)))) ∧
    (dgrOk b = true → ∀ a, s.dgrPeer k = some a → a ≠ (ip, udp) →
      ∃ t, exec (.dictDatagram k ⟨dst, mac⟩ ip udp b) s = .next t ∧ t = (s.bump (Reg.ETH_RX_CNT k)).bump (Reg.DGR_FOREIGN_CNT k)) ∧
    (dgrOk b = true → s.dgrPeer k = some (ip, udp) →
      ((s.eth[k].executing.isSome || s.portBusy (ethPort k)) = true →
        ∃ t, exec (.dictDatagram k ⟨dst, mac⟩ ip udp b) s = .next t ∧ t = (s.bump (Reg.ETH_RX_CNT k)).bump (Reg.DGR_DROP_CNT k)) ∧
      ((s.eth[k].executing.isSome || s.portBusy (ethPort k)) = false → ∀ req rep, s.eth[k].last = some (req, rep) →
        sliceB 2 2 req = sliceB 2 2 b →
        (req = b → ∃ t, exec (.dictDatagram k ⟨dst, mac⟩ ip udp b) s = .next t ∧
          t = (s.bump (Reg.ETH_RX_CNT k)).ethSend k (.udp mac ip udp rep)) ∧
        (req ≠ b → ∃ t, exec (.dictDatagram k ⟨dst, mac⟩ ip udp b) s = .next t ∧
          t = (s.bump (Reg.ETH_RX_CNT k)).bump (Reg.DGR_DROP_CNT k)))) ∧
    (dgrOk b = true → leNat (sliceB 1 1 b) = 1 → s.gate (ethPort k) = .ready → s.eth[k].executing = none →
      (s.dgrPeer k = none ∨ s.dgrPeer k = some (ip, udp) ∧ ∀ l, s.eth[k].last = some l → sliceB 2 2 l.1 ≠ sliceB 2 2 b) →
      ∃ t, exec (.dictDatagram k ⟨dst, mac⟩ ip udp b) s = .next t ∧ t.eth[k].executing = none ∧
        t.eth[k].peer = (if s.dgrPeer k = none then some (ip, udp) else s.eth[k].peer) ∧
        t.reg (Reg.ETH_RX_CNT k) = satInc 32 (s.reg (Reg.ETH_RX_CNT k)) ∧
        ∃ abort data, t.eth[k].last = some (b, dgrReply b abort data))) ∧
  (∀ (k : Fin 2) (target : BitVec 32) (dst mac : BitVec 48) (ip : BitVec 32) (udp : BitVec 16) (body : Bytes) (s : State),
    s.Calm → s.ethOn k = true →
    (s.ethTakes k dst.toNat = false →
      exec (.arpRequest k target ⟨dst, mac⟩ ip) s = .next (s.bump (Reg.ETH_RX_DROP_CNT k)) ∧
      exec (.icmpEcho k target ⟨dst, mac⟩ ip body) s = .next (s.bump (Reg.ETH_RX_DROP_CNT k)) ∧
      exec (.dictDatagram k ⟨dst, mac⟩ ip udp body) s = .next (s.bump (Reg.ETH_RX_DROP_CNT k))) ∧
    (s.ethTakes k dst.toNat = true →
      exec (.arpRequest k target ⟨dst, mac⟩ ip) s = .next (if s.ethAnswers k target
        then (s.bump (Reg.ETH_RX_CNT k)).ethSend k (.arp mac ip) else s.bump (Reg.ETH_RX_CNT k)) ∧
      exec (.icmpEcho k target ⟨dst, mac⟩ ip body) s = .next (if s.ethAnswers k target
        then (s.bump (Reg.ETH_RX_CNT k)).ethSend k (.echo mac ip body) else s.bump (Reg.ETH_RX_CNT k)) ∧
      (s.reg (Reg.ETH_IP k) = 0 →
        exec (.dictDatagram k ⟨dst, mac⟩ ip udp body) s = .next (s.bump (Reg.ETH_RX_CNT k)))) ∧
    exec (.ethFrameDiscard ⟨k, .filtered⟩) s = .next (s.bump (Reg.ETH_RX_DROP_CNT k)) ∧
    exec (.ethFrameDiscard ⟨k, .fcs⟩) s = .next (s.bump (Reg.ETH_RX_ERR_CNT k)) ∧
    (s.Mild (970 + k.val) → ∃ t, exec (.ethFrameDiscard ⟨k, .overrun⟩) s = .next t ∧ RaiseFrame { s with regs := t.regs } t ∧
      t.reg (Reg.ETH_RX_DROP_CNT k) = satInc 32 (s.reg (Reg.ETH_RX_DROP_CNT k)) ∧
      s.SameRegs t [Reg.ETH_RX_DROP_CNT k, Reg.FC_LOG_LOST])) ∧
  (∀ (k : Fin 2) (dst src : BitVec 48) (rest : Bytes) (s : State), s.Calm → s.ethOn k = true →
    ∀ frame, frame = beBytes 6 dst.toNat ++ beBytes 6 src.toNat ++ rest →
    ((1518 < frame.length ∨ (ptpOffset frame).isNone = true) →
      exec (.ptpFrameReceive k dst src rest) s = .next (s.bump (Reg.ETH_RX_ERR_CNT k))) ∧
    (frame.length ≤ 1518 → (ptpOffset frame).isSome = true →
      ((s.ethTakes k dst.toNat && s.flag (Reg.PTP_ENABLE k)) = false →
        exec (.ptpFrameReceive k dst src rest) s = .next (s.bump (Reg.ETH_RX_DROP_CNT k))) ∧
      ((s.ethTakes k dst.toNat && s.flag (Reg.PTP_ENABLE k)) = true →
        (s.eth[k].ring.length < 32 →
          ∃ t, exec (.ptpFrameReceive k dst src rest) s = .next t ∧ t = { s with regs := t.regs, eth := t.eth } ∧
            t.eth[k] = { s.eth[k] with ring := s.eth[k].ring ++ [s.ringEntry k frame] } ∧
            (∀ j, j ≠ k → t.eth[j] = s.eth[j]) ∧ s.SameRegs t [Reg.ETH_RX_CNT k, Reg.PTP_RX_CNT k] ∧
            t.reg (Reg.PTP_RX_CNT k) = satInc 32 (s.reg (Reg.PTP_RX_CNT k))) ∧
        (32 ≤ s.eth[k].ring.length → s.Mild (994 + k.val) →
          ∃ t, exec (.ptpFrameReceive k dst src rest) s = .next t ∧ RaiseFrame { s with regs := t.regs } t ∧
            t.reg (Reg.RXR_OVF_CNT k) = satInc 32 (s.reg (Reg.RXR_OVF_CNT k)))))) ∧
  (∀ (k : Fin 2) (speed : Fin 4) (s : State), s.Calm → s.alive = true → s.Mild (968 + k.val) →
    ∃ t, exec (.ethLinkChange k speed) s = .next t ∧ RaiseFrame { s with eth := t.eth } t ∧
      t.eth[k] = { s.eth[k] with inband := speed.val } ∧
      t.ethLink k = (if s.regN (Reg.ETH_SPEED k) = 0 ∨ speed = 0 then speed.val else s.regN (Reg.ETH_SPEED k)) ∧
      (∀ j, j ≠ k → t.eth[j] = s.eth[j]) ∧
      (t.src (968 + k.val)).cond = (s.flag (Reg.ETH_ENABLE k) && decide (t.ethLink k = 0))) ∧
  (∀ (c : Fin 2) (f : Bytes) (cmd : Nat) (s : State), s.Calm → s.sdoOn c = true → f.length = 8 →
    s.can[c].executing = false → s.portBusy (canPort c) = false → cmd = leNat (f.take 1) →
    (cmd / 32 = 4 → exec (.sdoRequest c f) s = .next (s.modCan c fun x => { x with sdo := .idle })) ∧
    ((cmd / 32 = 0 ∨ cmd / 32 = 3) → s.can[c].sdo = .idle →
      exec (.sdoRequest c f) s = .next (s.sdoStop c 0 0x05040001)) ∧
    (cmd / 32 = 1 → bitN cmd 1 = false → ∀ k, k = leNat (sliceB 1 2 f) * 256 + leNat (sliceB 3 1 f) →
      exec (.sdoRequest c f) s =
        .next ((s.modCan c fun x => { x with sdo := .download k [] false }).canSend c (sdoFrame 0x60 k []))) ∧
    (cmd / 32 = 0 → ∀ k got tg, s.can[c].sdo = .download k got tg →
      (bitN cmd 4 ≠ tg → exec (.sdoRequest c f) s = .next (s.sdoStop c k 0x05030000)) ∧
      (bitN cmd 4 = tg → bitN cmd 0 = false → exec (.sdoRequest c f) s =
        .next ((s.modCan c fun x => { x with sdo := .download k (got ++ (f.drop 1).take (7 - cmd / 2 % 8)) (!tg) }).canSend c
          (leBytes 1 (0x20 + b2n tg * 16) ++ leBytes 7 0)))) ∧
    (cmd / 32 = 3 → ∀ k rest tg, s.can[c].sdo = .upload k rest tg → bitN cmd 4 = tg →
      exec (.sdoRequest c f) s = .next ((s.modCan c fun x =>
        { x with sdo := if rest.length ≤ 7 then .idle else .upload k (rest.drop 7) (!tg) }).canSend c
          (leBytes 1 (b2n tg * 16 + (7 - min 7 rest.length) * 2 + b2n (decide (rest.length ≤ 7))) ++
            padTo 7 (rest.take 7)))) ∧
    (cmd / 32 = 2 → s.gate (canPort c) = .ready → ∀ k, k = leNat (sliceB 1 2 f) * 256 + leNat (sliceB 3 1 f) →
      ∀ n, State.readChecks (canPort c) k = .error n →
      ∃ t, exec (.sdoRequest c f) s = .next t ∧ t.can[c].executing = false ∧ t.can[c].sdo = .idle ∧
        s.OneReg t Reg.DEV_REFUSE_CNT (satInc 32 (s.reg Reg.DEV_REFUSE_CNT)) ∧
        (s.netDue ⟨c.val + 2, by omega⟩ = false → t.can[c].sent = sdoAbort k n.abort)) ∧
    (cmd / 32 = 2 → s.gate (canPort c) = .ready → ∀ k, k = leNat (sliceB 1 2 f) * 256 + leNat (sliceB 3 1 f) →
      ∀ o u d, State.readChecks (canPort c) k = .ok o → ((s.modCan c fun x => { x with sdo := .idle, executing := true }).beat
        (canPort c)).readObj (canPort c) k o = .ok (u, d) → u.Calm → d ≠ [] →
      (d.length ≤ 4 → exec (.sdoRequest c f) s =
        .next ((u.modCan c fun x => { x with executing := false }).canSend c (sdoFrame (0x43 + (4 - d.length) * 4) k d))) ∧
      (4 < d.length → exec (.sdoRequest c f) s = .next ((u.modCan c fun x =>
        { x with executing := false, sdo := .upload k d false }).canSend c (sdoFrame 0x41 k (leBytes 4 d.length))))) ∧
    (cmd / 32 = 1 → bitN cmd 1 = true → bitN cmd 0 = true → s.gate (canPort c) = .ready →
      ∀ k, k = leNat (sliceB 1 2 f) * 256 + leNat (sliceB 3 1 f) → ∀ d, d = (f.drop 4).take (4 - cmd / 4 % 4) →
      (∀ n, (s.beat (canPort c)).writeChecks (canPort c) k d = .error n → n ≠ nakSched → n ≠ nakRole →
        ∃ t, exec (.sdoRequest c f) s = .next t ∧ t.can[c].executing = false ∧ t.can[c].sdo = .idle ∧
          s.OneReg t Reg.DEV_REFUSE_CNT (satInc 32 (s.reg Reg.DEV_REFUSE_CNT)) ∧
          (s.netDue ⟨c.val + 2, by omega⟩ = false → t.can[c].sent = sdoAbort k n.abort)) ∧
      (∀ o v, (s.beat (canPort c)).writeChecks (canPort c) k d = .ok (o, v) → findObj k = some o → o.acc = .rws →
        ownCheck (canPort c) ((s.modCan c fun x => { x with sdo := .idle, executing := true }).beat (canPort c))
          (overlay s.reg [(k, v)]) k v = .ok () → plainAt (canPort c) k v → k ≠ Reg.CFG_GEN →
        ∃ t, exec (.sdoRequest c f) s = .next t ∧ s.Visible t k v ∧
          t = { s.beat (canPort c) with regs := t.regs, can := t.can } ∧ (∀ j, j ≠ c → t.can[j] = s.can[j]) ∧
          t.can[c].executing = false ∧ t.can[c].sdo = .idle ∧
          (s.netDue ⟨c.val + 2, by omega⟩ = false → t.can[c].sent = sdoFrame 0x60 k []))) ∧
    (5 ≤ cmd / 32 → ∀ k, k = leNat (sliceB 1 2 f) * 256 + leNat (sliceB 3 1 f) →
      exec (.sdoRequest c f) s = .next (s.sdoStop c k 0x05040001))) ∧
  (∀ (c : Fin 2) (s : State), s.Calm → s.sdoOn c = true →
    (s.can[c].sdo = .idle → exec (.sdoSegmentTimeout c) s = .next s) ∧
    (∀ k x tg, (s.can[c].sdo = .download k x tg ∨ s.can[c].sdo = .upload k x tg) →
      exec (.sdoSegmentTimeout c) s = .next (s.sdoStop c k 0x05040000))) ∧
  (∀ (c : Fin 2) (k : Key) (code : Nat) (s : State),
    (s.sdoStop c k code).reg (Reg.CAN_SDO_ABORT_CNT c) = satInc 32 (s.reg (Reg.CAN_SDO_ABORT_CNT c)) ∧
    (s.sdoStop c k code).can[c].sdo = .idle ∧
    (s.netDue ⟨c.val + 2, by omega⟩ = false → (s.sdoStop c k code).can[c].sent = sdoAbort k code)) ∧
  (∀ (p : Port) (c : Fin 2) (s : State), s.Calm → s.AdmitsCmd p (Reg.CAN_RECOVER c) →
    exec (.canRecover p c) s = .next ((s.beat p).modCan c fun x =>
      { x with recovering := x.recovering || decide (x.state = .busOff) })) ∧
  (∀ (c : Fin 2) (s : State), s.Calm → s.alive = true →
    (s.can[c].state = .busOff → (s.can[c].recovering || s.flag (Reg.CAN_BOFF_AUTO c)) = true →
      ∃ t, exec (.canBusoffRecovered c) s = .next t ∧ RaiseFrame { s with can := t.can } t ∧
        t.can[c] = { s.can[c] with state := .active, tec := 0, recErr := 0, recovering := false } ∧
        (∀ j, j ≠ c → t.can[j] = s.can[j]) ∧ (t.src (974 + c.val)).cond = false) ∧
    (∀ tec rec : Nat, s.can[c].state ≠ .off → s.can[c].state ≠ .busOff → s.Mild (974 + c.val) → s.Mild (976 + c.val) →
      ∃ t, exec (.canBusError c tec rec) s = .next t ∧ RaiseFrame { s with can := t.can, regs := t.regs, tq := t.tq } t ∧
        (∀ q, t.tq[q] = if netOf q = ⟨c.val + 2, by omega⟩ then { s.tq[q] with sending := false } else s.tq[q]) ∧
        (∀ j, j ≠ c → t.can[j] = s.can[j]) ∧
        t.can[c] = { s.can[c] with
          state := if 256 ≤ tec then .busOff else if 128 ≤ tec ∨ 128 ≤ rec then .passive else .active
          tec := min tec 255, recErr := min rec 255, recovering := false } ∧
        s.SameRegs t [Reg.CAN_BOFF_CNT c, Reg.FC_LOG_LOST] ∧
        (256 ≤ tec → t.reg (Reg.CAN_BOFF_CNT c) = satInc 32 (s.reg (Reg.CAN_BOFF_CNT c)) ∧
          (t.src (974 + c.val)).cond = true) ∧
        (tec < 256 → (t.src (976 + c.val)).cond = (decide (128 ≤ tec) || decide (128 ≤ rec)))))

/-- Frames are staged, pushed, launched, completed and flushed, and streams place theirs on their grid. -/
def Obligations.QueuesLaunchCompleteAndStream : Prop :=
  (∀ (p : Port) (q : Fin 16) (data : Bytes) (v : Int) (s : State) (o : Nat), s.Calm → s.Admits p (Reg.TQ_STAGE_DATA q) data v →
    o = s.regN (Reg.TQ_STAGE_OFS q) →
    ∃ t, exec (.tqStageData p q data) s = .next t ∧ t = { s.beat p with tq := t.tq, regs := t.regs } ∧
      s.OneReg t (Reg.TQ_STAGE_OFS q) (Int.ofNat ((o + 256) % 1024)) ∧ (∀ j, j ≠ q → t.tq[j] = s.tq[j]) ∧
      t.tq[q] = { s.tq[q] with staging := t.tq[q].staging } ∧
      ∀ i, SMap.find 0#8 t.tq[q].staging i =
        if o ≤ i ∧ i < o + data.length then data.getD (i - o) 0#8 else SMap.find 0#8 s.tq[q].staging i) ∧
  (∀ (p : Port) (q : Fin 16) (desc : Bytes) (v : Int) (s : State) (d : Desc), s.Calm → s.Admits p (Reg.TQ_PUSH q) desc v →
    d.raw = descMask desc → d.frame = s.tq[q].staging.load 0 d.len → d.stream = none → d.active = false → d.header = 0 →
    d.instant = s.instantOf d.launch (bitN (leNat (sliceB 6 1 (descMask desc))) 0) →
    (descOk q (descMask desc) = true → (!s.streamOwns q && decide (s.tq[q].descs.length < 16)) = true →
      ∃ t, exec (.tqPush p q desc) s = .next t ∧ t = { s.beat p with tq := t.tq } ∧ (∀ j, j ≠ q → t.tq[j] = s.tq[j]) ∧
        t.tq[q] = { s.tq[q] with descs := s.tq[q].descs ++ [d] }) ∧
    (descOk q (descMask desc) = true → (!s.streamOwns q && decide (s.tq[q].descs.length < 16)) = false →
      ∃ t, exec (.tqPush p q desc) s = .next t ∧ s.RefusedAs t p (Reg.TQ_PUSH q) nakCond) ∧
    (descOk q (descMask desc) = false →
      ∃ t, exec (.tqPush p q desc) s = .next t ∧ s.RefusedAs t p (Reg.TQ_PUSH q) nakRange)) ∧
  (∀ (p : Port) (q : Fin 16) (s : State), s.Calm → s.AdmitsCmd p (Reg.TQ_FLUSH q) →
    ∃ t, exec (.tqFlush p q) s = .next t ∧
      t = { s.beat p with tq := t.tq, eth := t.eth, can := t.can, fresh := t.fresh } ∧ (∀ j, j ≠ q → t.tq[j] = s.tq[j]) ∧
      t.tq[q].descs = (if s.tq[q].sending then s.tq[q].descs.take 1 else []) ∧ t.tq[q].sending = s.tq[q].sending ∧
      ∀ i, i < 16 → i < (if s.tq[q].sending then s.tq[q].descs.drop 1 else s.tq[q].descs).length →
        ∃ c, t.tq[q].compl[i]? = some c ∧ sliceB 2 1 c = [3#8]) ∧
  (∀ (net : Fin 4) (wins : Bool) (q : Fin 16) (d : Desc) (rest : List Desc) (late : Bool) (s : State), s.Calm → s.alive = true →
    s.netReady net = true → s.presents net = some q → s.tq[q].descs = d :: rest → s.Mild (978 + q.val) → s.Mild 911 →
    late = decide (s.reg (Reg.TQ_LATE_TOL q) < s.ext - d.instant) →
    ∃ t, exec (.tqFrameLaunch ⟨net, wins⟩) s = .next t ∧ (∀ j, j ≠ q → t.tq[j] = s.tq[j]) ∧
      RaiseFrame { s with tq := t.tq, regs := t.regs, eth := t.eth, can := t.can, fresh := t.fresh } t ∧
      s.SameRegs t [Reg.TQ_LATE_CNT q, Reg.RED_HANDOVER_DROP_CNT, Reg.FC_LOG_LOST] ∧
      (late = true → s.tq[q].late = false → t.reg (Reg.TQ_LATE_CNT q) = satInc 32 (s.reg (Reg.TQ_LATE_CNT q))) ∧
      (s.pastWindow d = true → t.tq[q].descs = rest ∧ t.tq[q].sending = false ∧
        ∃ c, t.tq[q].compl = (c :: s.tq[q].compl).take 16 ∧ sliceB 2 1 c = [5#8]) ∧
      (s.pastWindow d = false → late = true → s.reg (Reg.TQ_LATE_POLICY q) = 1 → t.tq[q].descs = rest ∧
        t.tq[q].sending = false ∧ ∃ c, t.tq[q].compl = (c :: s.tq[q].compl).take 16 ∧ sliceB 2 1 c = [2#8]) ∧
      (s.pastWindow d = false → (late = false ∨ s.reg (Reg.TQ_LATE_POLICY q) ≠ 1) → t.tq[q] = { s.tq[q] with
        sending := wins || isEth q, late := late, egress := (s.egressStamp q).1, egressFrac := (s.egressStamp q).2
        unstamped := d.oneStep && !((oneStepType d.frame).isSome && s.flag (Reg.PTP_ENABLE (portOf (netOf q)))) })) ∧
  (∀ (net : Fin 4) (wins : Bool) (s : State), s.Calm →
    (s.presents net = none → exec (.tqFrameLaunch ⟨net, wins⟩) s = .next s) ∧
    (∀ q : Fin 16, netOf q = net → s.tq[q].sending = true → s.presents net = none) ∧
    ∀ q : Fin 16, s.presents net = some q →
      netOf q = net ∧ s.headDue q = true ∧ ∀ r : Fin 16, netOf r = net → s.headDue r = true → q ≤ r) ∧
  (∀ (q : Fin 16) (tec rec : Nat) (d : Desc) (rest : List Desc) (c : Fin 2) (s : State),
    s.Calm → s.alive = true → s.tq[q].descs = d :: rest → s.tq[q].sending = true → c = portOf (netOf q) →
    ∃ t, exec (.tqFrameComplete q tec rec) s = .next t ∧
      (isEth q = true → t = { s with tq := t.tq, regs := t.regs, eth := t.eth } ∧ ∀ k, k ≠ c → t.eth[k] = s.eth[k]) ∧
      (isEth q = false → RaiseFrame { s with tq := t.tq, regs := t.regs, can := t.can } t ∧ (∀ k, k ≠ c → t.can[k] = s.can[k]) ∧
        t.can[c].tec = min s.can[c].tec tec ∧ t.can[c].recErr = min s.can[c].recErr rec ∧
        t.can[c].state = (if s.can[c].state = .passive ∧ t.can[c].tec < 128 ∧ t.can[c].recErr < 128 then .active
          else s.can[c].state) ∧
        (t.can[c].state = s.can[c].state → t.fc = s.fc) ∧
        (t.can[c].state ≠ s.can[c].state → (t.src (976 + c.val)).cond = false)) ∧
      (∀ j, j ≠ q → t.tq[j] = s.tq[j]) ∧ t.reg (Reg.TQ_SENT_CNT q) = satInc 32 (s.reg (Reg.TQ_SENT_CNT q)) ∧
      s.SameRegs t [Reg.TQ_SENT_CNT q, Reg.FC_LOG_LOST] ∧ t.tq[q].descs = rest ∧
      t.tq[q].sending = false ∧ t.tq[q].compl = ((leBytes 2 d.tag ++
        leBytes 1 (if s.tq[q].unstamped then 4 else if s.tq[q].late then 1 else 0) ++ leBytes 1 0 ++ leBytes 4 s.tq[q].egress.toNat ++
        leBytes 2 s.tq[q].egressFrac ++ leBytes 2 d.len ++ leBytes 4 d.launch.toNat) :: s.tq[q].compl).take 16 ∧
      (d.oneStep = false → t.tq[q].wire = if isEth q then ethWire d.frame else d.frame) ∧
      (d.oneStep = true → s.tq[q].unstamped = false → t.tq[q].wire = if isEth q
        then ethWire (insertStamp d.frame (s.tq[q].egress - d.launch).toInt s.tq[q].egressFrac)
        else insertStamp d.frame (s.tq[q].egress - d.launch).toInt s.tq[q].egressFrac)) ∧
  (∀ (p : Port) (k : Fin 2) (v : Int) (s : State), s.Calm →
    s.Admits p (Reg.RXR_RELEASE k) (dataAt (Reg.RXR_RELEASE k) v) v →
    (v ≤ Int.ofNat s.eth[k].ring.length → ∃ t, exec (.rxrRelease p k v) s = .next t ∧
      t = { s.beat p with eth := t.eth } ∧ t.eth[k] = { s.eth[k] with ring := s.eth[k].ring.drop v.toNat } ∧
      ∀ j, j ≠ k → t.eth[j] = s.eth[j]) ∧
    (Int.ofNat s.eth[k].ring.length < v →
      ∃ t, exec (.rxrRelease p k v) s = .next t ∧ s.RefusedAs t p (Reg.RXR_RELEASE k) nakHigh)) ∧
  (∀ (p : Port) (f : Fin 8) (v : Int) (s : State), s.Calm →
    s.Admits p (Reg.PF_ENABLE f) (dataAt (Reg.PF_ENABLE f) v) v →
    (checkPf f s (overlay s.reg [(Reg.PF_ENABLE f, v)]) (Reg.PF_ENABLE f) v = .ok () →
      (v = 0 ∨ s.reg (Reg.PF_ENABLE f) = v → ∃ t, exec (.pfEnableWrite p f v) s = .next t ∧
        s.Visible t (Reg.PF_ENABLE f) v ∧ t = { s.beat p with regs := t.regs }) ∧
      (v ≠ 0 → s.reg (Reg.PF_ENABLE f) ≠ v → ∃ t, exec (.pfEnableWrite p f v) s = .next t ∧
        t = { s.beat p with regs := t.regs, pf := t.pf } ∧ t.reg (Reg.PF_ENABLE f) = v ∧ t.reg (Reg.PF_SEQ f) = 0 ∧
        t.reg Reg.CFG_GEN = (s.reg Reg.CFG_GEN + 1) % 2 ^ 32 ∧
        s.SameRegs t [Reg.PF_ENABLE f, Reg.PF_SEQ f, Reg.CFG_GEN] ∧ (∀ j, j ≠ f → t.pf[j] = s.pf[j]) ∧
        t.pf[f].next = (gridNext (t32 (s.reg (Reg.PF_FIRST f))) (s.regN (Reg.PF_PERIOD f)) s.timeNow).1)) ∧
    (∀ n, checkPf f s (overlay s.reg [(Reg.PF_ENABLE f, v)]) (Reg.PF_ENABLE f) v = .error n →
      ∃ t, exec (.pfEnableWrite p f v) s = .next t ∧ s.RefusedAs t p (Reg.PF_ENABLE f) n)) ∧
  (∀ (f : Fin 8) (q : Fin 16) (s : State), s.Calm → s.alive = true → s.flag (Reg.PF_ENABLE f) = true →
    reached s.timeNow s.pf[f].next = true → q = chOf (s.reg (Reg.PF_QUEUE f)) →
    (s.tq[q].descs.length < 16 → ∃ t, exec (.positionFrameLaunch f) s = .next t ∧
      t = { s with tq := t.tq, regs := t.regs, pf := t.pf } ∧
      t.tq[q] = { s.tq[q] with descs := s.tq[q].descs ++ [s.streamDesc f q s.pf[f].next] } ∧
      (∀ j, j ≠ q → t.tq[j] = s.tq[j]) ∧ s.OneReg t (Reg.PF_SEQ f) ((s.reg (Reg.PF_SEQ f) + 1) % 2 ^ 32) ∧
      t.pf[f].next = s.pf[f].next + BitVec.ofNat 32 (s.regN (Reg.PF_PERIOD f)) ∧ ∀ j, j ≠ f → t.pf[j] = s.pf[j]) ∧
    (16 ≤ s.tq[q].descs.length → s.Mild (960 + f.val) → ∃ t, exec (.positionFrameLaunch f) s = .next t ∧
      RaiseFrame { s with regs := t.regs, pf := t.pf } t ∧ s.SameRegs t [Reg.PF_SKIP_CNT f, Reg.FC_LOG_LOST] ∧
      t.reg (Reg.PF_SKIP_CNT f) = satInc 32 (s.reg (Reg.PF_SKIP_CNT f)) ∧
      t.pf[f].next = s.pf[f].next + BitVec.ofNat 32 (s.regN (Reg.PF_PERIOD f)) ∧ ∀ j, j ≠ f → t.pf[j] = s.pf[j]))

/-- Time is set, stepped, slewed and wraps; sensors are read; the scheduler grants, merges, defers or refuses. -/
def Obligations.TimeSensorsAndTheSchedulerFollowTheirRules : Prop :=
  (∀ (p : Port) (v : Int) (s : State), s.Calm →
    (s.Admits p Reg.TIME_INC (dataAt Reg.TIME_INC v) v → ∃ t, exec (.timeIncWrite p v) s = .next t ∧
      s.OneReg t Reg.TIME_INC v ∧ t = { s.beat p with regs := t.regs }) ∧
    (s.Admits p Reg.TIME_SLEW (dataAt Reg.TIME_SLEW v) v → ∃ t, exec (.timeSlewWrite p v) s = .next t ∧
      s.OneReg t Reg.TIME_SLEW v ∧
      t = { s.beat p with regs := t.regs, time := { s.time with slew := v * 2 ^ 24 } }) ∧
    (s.Admits p Reg.TIME_REF80 (dataAt Reg.TIME_REF80 v) v → ∃ t, exec (.timeRef80Write p v) s = .next t ∧
      s.OneReg t Reg.TIME_REF80 v ∧ t = { s.beat p with
        regs := t.regs
        time := { s.time with nref := (extendNs s.timeNow (ns80 v.toNat)).toNat, refValid := true } }) ∧
    (s.Admits p Reg.TIME_STEP (dataAt Reg.TIME_STEP v) v → s.Mild 996 → ∃ t, exec (.timeStep p v) s = .next t ∧
      RaiseFrame { s.beat p with time := t.time, regs := t.regs } t ∧ t.ext = wrapS 64 (s.ext + v) ∧
      t.time.slew = s.time.slew ∧ t.timeFrac = s.timeFrac ∧
      t.time.nref = (Int.ofNat (extendNs s.timeNow s.time.nref).toNat + v).toNat ∧
      t.reg Reg.TIME_STEP_CNT = satInc 32 (s.reg Reg.TIME_STEP_CNT) ∧
      s.SameRegs t [Reg.TIME_STEP_CNT, Reg.FC_LOG_LOST])) ∧
  (∀ s : State, s.Calm → s.alive = true →
    (s.pending = [] → (s.edgeCarries = true → exec .timeWrap s = step s) ∧
      (s.time.slew ≠ 0 → slewPart s.time.slew = s.time.slew → exec .timeSlewDone s = step s)) ∧
    (s.edgeCarries = true → ∃ t, exec .timeWrap s = .next t ∧ t.now = s.now + 1 ∧
      t.time.wraps = wrapS 32 (s.time.wraps +
        (Int.ofNat s.time.count.toNat + (s.reg Reg.TIME_INC + slewPart s.time.slew)) / 2 ^ 56)) ∧
    (s.edgeCarries = false → exec .timeWrap s = .next s) ∧
    (s.time.slew ≠ 0 → slewPart s.time.slew = s.time.slew → ∃ t, exec .timeSlewDone s = .next t ∧
      t.now = s.now + 1 ∧ t.time.slew = 0) ∧
    ((s.time.slew = 0 ∨ slewPart s.time.slew ≠ s.time.slew) → exec .timeSlewDone s = .next s) ∧
    (s.serviceOn = true → exec .nrefRefresh s =
      .next { s with time := { s.time with nref := (extendNs s.timeNow s.time.nref).toNat } })) ∧
  (∀ (die : Vector Int 4) (mv : Vector Nat 5) (lock : Bool) (dev : Int) (s : State), s.Calm → s.alive = true →
    s.serviceOn = true → s.Mild 1035 →
    ∃ t, exec (.sensorRefresh die mv lock dev) s = .next t ∧ t.mgmt.tempDie = die ∧ t.mgmt.railMv = mv ∧
      t.mgmt.pllLock = lock ∧ t.mgmt.floorDev = dev ∧
      t.mgmt.sensorBad = (if dieDiffer die then s.mgmt.sensorBad + 1 else 0) ∧
      t.mgmt.tempMax = die.toList.foldl max (if s.mgmt.tempRead then s.mgmt.tempMax else die[0]) ∧ t.mgmt.tempRead = true ∧ t.mgmt.service = s.mgmt.service ∧
      RaiseFrame { s with mgmt := t.mgmt, regs := t.regs } t ∧
      (∀ n : ChId, s.reg (Reg.CH_TEMP_USED n) = 1 → t.reg (Reg.CH_TEMP n) = t.dieOf n) ∧
      ∀ j, j ≠ Reg.FC_LOG_LOST → (∀ n : ChId, j ≠ Reg.CH_TEMP n) → t.reg j = s.reg j) ∧
  (∀ (n : ChId) (s : State), s.Calm → s.alive = true →
    (∀ u, s.probeAsk n = .ok u → u.Calm → exec (.schedRequest (.chan n) .probe true) s = .next u ∧
      exec (.schedRequest (.chan n) .probe false) s = .next u) ∧
    (effInjStart n s = .error nakSched →
      exec (.schedRequest (.chan n) .test true) s = .next (s.bump Reg.SCH_REFUSE_CNT)) ∧
    (∀ u, effInjStart n s = .ok u → u.Calm → exec (.schedRequest (.chan n) .test true) s = .next u) ∧
    (∀ u, effCalStart n s = .ok u → u.Calm → exec (.schedRequest (.chan n) .cal true) s = .next u)) ∧
  (∀ (a : Activity) (b : Bool) (s : State), s.Calm → s.alive = true → (a = .beadCommit ∨ a = .logCompact) →
    s.updWaits = false →
    (s.sched[mramDomain].running = none → s.sched[mramDomain].pending ≠ some a →
      ∃ t, exec (.schedRequest .mram a b) s = .next t ∧ t = { s with sched := t.sched, bead := t.bead } ∧
        t.sched[mramDomain] = { s.sched[mramDomain] with running := some a, since := s.now, edge := some s.now } ∧
        t.bead = { s.bead with
          writing := if a = .beadCommit
            then some { beads := s.bead.working, sets := s.sets.toList, trims := s.allTrims } else s.bead.writing } ∧
        ∀ d, d ≠ mramDomain → t.sched[d] = s.sched[d]) ∧
    (∀ c, s.sched[mramDomain].running = some c → s.sched[mramDomain].edge = some s.now → prioOf a < prioOf c →
      s.sched[mramDomain].pending = none →
      ∃ t, exec (.schedRequest .mram a b) s = .next t ∧ t = { s with sched := t.sched, bead := t.bead } ∧
        t.sched[mramDomain] = { s.sched[mramDomain] with running := some a, pending := some c } ∧
        ∀ d, d ≠ mramDomain → t.sched[d] = s.sched[d]) ∧
    ((s.sched[mramDomain].running = some a ∨ s.sched[mramDomain].pending = some a) →
      exec (.schedRequest .mram a b) s = .next s) ∧
    (s.sched[mramDomain].running ≠ none → s.sched[mramDomain].running ≠ some a → s.sched[mramDomain].pending = none →
      s.sched[mramDomain].edge ≠ some s.now →
      ∃ t, exec (.schedRequest .mram a b) s = .next t ∧ t = { s with sched := t.sched } ∧
        t.sched[mramDomain] = { s.sched[mramDomain] with pending := some a } ∧
        ∀ d, d ≠ mramDomain → t.sched[d] = s.sched[d]) ∧
    (s.sched[mramDomain].running ≠ none → s.sched[mramDomain].running ≠ some a →
      (∃ c, s.sched[mramDomain].pending = some c ∧ c ≠ a) →
      exec (.schedRequest .mram a b) s = .next (if b then s.bump Reg.SCH_REFUSE_CNT else s))) ∧
  (∀ s : State, s.Calm → s.alive = true → s.sched[mramDomain].suspended = false → s.upd.state ≠ .waitQuiet →
    s.sched[mramDomain].pending ∉ [some .cal, some .test] →
    (s.sched[mramDomain].running = some .logCompact →
      ∃ t, exec (.schedActivityEnd .mram) s = .next t ∧
        t = { s with sched := t.sched, regs := t.regs, bead := t.bead, fresh := s.fresh + 1 } ∧
        t.bead = { s.bead with
          writing := if s.sched[mramDomain].pending = some .beadCommit
            then some { beads := s.bead.working, sets := s.sets.toList, trims := s.allTrims } else s.bead.writing } ∧
        s.SameRegs t [Reg.LOG_REWRITE_CNT] ∧
        t.sched[mramDomain].running = s.sched[mramDomain].pending ∧ t.sched[mramDomain].pending = none) ∧
    (∀ b rest, s.sched[mramDomain].running = some .fwBlock → s.upd.blocks = b :: rest → b.length = none →
      s.upd.state = .receiving → b.route = .none →
      ∃ t, exec (.schedActivityEnd .mram) s = .next t ∧ t = { s with sched := t.sched, upd := t.upd, bead := t.bead } ∧
        t.upd.blocks = rest ∧ t.upd.offset = s.upd.offset + 1024 ∧
        t.upd.banks[s.spare].image = s.upd.banks[s.spare].image ++ b.data ∧
        t.sched[mramDomain].running = s.sched[mramDomain].pending)) ∧
  (∀ s : State, s.Calm → s.alive = true →
    ((∃ a, s.sched[mramDomain].running = some a ∧ holdBound a * 10 ^ 6 < s.since s.sched[mramDomain].since) → s.Mild 1034 →
      ∃ t, exec .schedOverrun s = .next t ∧ RaiseFrame s t ∧
        ((s.src 1034).cond = false → (s.src 1034).force = false →
          (t.src 1034).count = (satInc 32 (Int.ofNat (s.src 1034).count)).toNat)) ∧
    ((∀ a, s.sched[mramDomain].running = some a → s.since s.sched[mramDomain].since ≤ holdBound a * 10 ^ 6) →
      exec .schedOverrun s = .next s))

/-- The log takes its queue in order, and an update goes from BEGIN to its confirmation, revert or abort. -/
def Obligations.LogAndUpdateGoThroughTheirSteps : Prop :=
  (∀ s : State, s.Calm →
    (s.fc.queue = [] → exec .logAppend s = .next s) ∧
    (∀ e rest, s.fc.queue = e :: rest → s.alive = true → s.serviceOn = true →
      ∃ t, exec .logAppend s = .next t ∧ t = { s with fc := { s.fc with queue := rest }, log := t.log } ∧
        t.log.recs = ((s.log.nextSeq, s.logRecord e) :: s.log.recs).take 12288 ∧
        t.log.nextSeq = (s.log.nextSeq + 1) % 2 ^ 32)) ∧
  (∀ (p : Port) (s : State), s.Calm → s.sched[mramDomain].running = none →
    s.sched[mramDomain].pending ≠ some .logCompact →
    (s.AdmitsCmd p Reg.LOG_COMPACT → s.updWaits = false →
      ∃ t, exec (.logCompact p) s = .next t ∧ t = { s.beat p with sched := t.sched } ∧
        t.sched[mramDomain].running = some .logCompact) ∧
    (s.AdmitsCmd p Reg.LOG_COMPACT → s.updWaits = true →
      ∃ t, exec (.logCompact p) s = .next t ∧ s.RefusedAs t p Reg.LOG_COMPACT nakMgmt) ∧
    (s.alive = true → s.serviceOn = true → s.updWaits = false →
      ∃ t, exec .logCompactionDue s = .next t ∧ t = { s with sched := t.sched } ∧
        t.sched[mramDomain].running = some .logCompact)) ∧
  (∀ (p : Port) (v : Int) (s : State), s.Calm → s.Admits p Reg.UPD_BEGIN (dataAt Reg.UPD_BEGIN v) v →
    ((s.upd.state = .idle ∨ s.upd.state = .failed) → s.sched[mramDomain].running = none →
      ∃ t, exec (.updBegin p v) s = .next t ∧ t = { s.beat p with sched := t.sched, upd := t.upd } ∧
        t.upd = { s.upd with blocks := s.upd.blocks ++ [⟨p, some v.toNat, [], .none⟩] } ∧
        t.sched[mramDomain].running = some .fwBlock) ∧
    (s.upd.state ≠ .idle → s.upd.state ≠ .failed →
      ∃ t, exec (.updBegin p v) s = .next t ∧ s.RefusedAs t p Reg.UPD_BEGIN nakCond)) ∧
  (∀ (b : UpdBlock) (rest : List UpdBlock) (n : Nat) (s : State), s.Calm → s.alive = true →
    s.sched[mramDomain].running = some .fwBlock → s.upd.blocks = b :: rest → b.length = some n → b.route = .none →
    ∃ t, exec (.schedActivityEnd .mram) s = .next t ∧ RaiseFrame { s with sched := t.sched, upd := t.upd } t ∧
      t.upd.state = .receiving ∧ t.upd.len = n ∧ t.upd.offset = 0 ∧ t.upd.blocks = rest ∧
      t.upd.banks[s.spare] = ({} : Bank) ∧ t.upd.bank = s.upd.bank) ∧
  (∀ (p : Port) (data : Bytes) (v : Int) (s : State) (w : Nat), s.Calm → s.Admits p Reg.UPD_DATA data v →
    w = (s.upd.blocks.filter fun b => b.length.isNone).length →
    (s.upd.state = .receiving → s.upd.offset + 1024 * (w + 1) ≤ s.upd.len → s.sched[mramDomain].running = none →
      ∃ t, exec (.updData p data) s = .next t ∧ t = { s.beat p with sched := t.sched, upd := t.upd } ∧
        t.upd = { s.upd with blocks := s.upd.blocks ++ [⟨p, none, data, .none⟩] } ∧
        t.sched[mramDomain].running = some .fwBlock) ∧
    (s.upd.state = .receiving → s.upd.len < s.upd.offset + 1024 * (w + 1) →
      ∃ t, exec (.updData p data) s = .next t ∧ s.RefusedAs t p Reg.UPD_DATA nakHigh) ∧
    (s.upd.state ≠ .receiving →
      ∃ t, exec (.updData p data) s = .next t ∧ s.RefusedAs t p Reg.UPD_DATA nakCond)) ∧
  (∀ (p : Port) (s : State), s.Calm → s.AdmitsCmd p Reg.UPD_VERIFY →
    ((s.upd.state = .receiving ∧ s.upd.len ≤ s.upd.offset) → s.Mild 1030 →
      ∃ t, exec (.updVerify p) s = .next t ∧ RaiseFrame { s.beat p with upd := t.upd } t ∧
        t.upd.bank = s.upd.bank ∧ t.upd.offset = s.upd.offset ∧
        (∀ d, imageFault s.upd.banks[s.spare].image s.upd.len s.upd.otp = some d →
          t.upd.state = .failed ∧ t.upd.detail = d ∧ t.upd.banks = s.upd.banks) ∧
        (imageFault s.upd.banks[s.spare].image s.upd.len s.upd.otp = none →
          t.upd.state = .verified ∧ t.upd.detail = 0 ∧
          t.upd.banks[s.spare] = { s.upd.banks[s.spare] with valid := true })) ∧
    (¬ (s.upd.state = .receiving ∧ s.upd.len ≤ s.upd.offset) →
      ∃ t, exec (.updVerify p) s = .next t ∧ s.RefusedAs t p Reg.UPD_VERIFY nakCond)) ∧
  (∀ (p : Port) (s : State), s.Calm → s.AdmitsCmd p Reg.UPD_ACTIVATE →
    ((s.upd.state = .verified ∧ s.upd.otp ≤ s.upd.banks[s.spare].sec) →
      ∃ t, exec (.updActivate p) s = .next t ∧ RaiseFrame { s.beat p with upd := t.upd } t ∧ t.upd.state = .waitQuiet ∧
        t.upd.bank = s.upd.bank ∧ t.upd.banks = s.upd.banks) ∧
    (¬ (s.upd.state = .verified ∧ s.upd.otp ≤ s.upd.banks[s.spare].sec) →
      ∃ t, exec (.updActivate p) s = .next t ∧ s.RefusedAs t p Reg.UPD_ACTIVATE nakCond)) ∧
  (∀ s : State, s.Calm → s.alive = true → s.upd.state = .waitQuiet →
    (s.restartSpaced = true → exec .updQuietPoint s = .next s) ∧
    (s.serviceOn = true → s.quiet = true → s.restartSpaced = false →
      ∃ t, exec .updQuietPoint s = .next t ∧ t.upd.bank = (!s.upd.bank) ∧ t.upd.state = .trial ∧ t.upd.detail = 0 ∧
        t.mgmt.restarting = true ∧ t.mgmt.reason = 3 ∧ t.time = s.time ∧ t.tal = s.tal ∧
        t.upd.sel[newestSel t.upd.sel] =
          { valid := true, active := !s.upd.bank, previous := s.upd.bank, trial := true
            counter := s.upd.sel[newestSel s.upd.sel].counter + 1
            crc := selCrc (!s.upd.bank) s.upd.bank true (s.upd.sel[newestSel s.upd.sel].counter + 1) } ∧
        ∀ n : ChId, t.ch[n].loop = s.ch[n].loop ∧ t.ch[n].state = s.ch[n].state) ∧
    (s.quiet = false → exec .updQuietPoint s = .next s) ∧
    (∃ t, exec .updQuietTimeout s = .next t ∧
      RaiseFrame { s with upd := t.upd, sched := t.sched, bead := { s.bead with writing := t.bead.writing } } t ∧
      t.upd = { s.upd with state := .failed, detail := 5 } ∧
      ∀ a, s.sched[mramDomain].running = none → s.sched[mramDomain].suspended = false →
        s.sched[mramDomain].pending = some a → waitsGrant a = false →
        t.sched[mramDomain].running = some a ∧ t.sched[mramDomain].pending = none)) ∧
  (∀ (p : Port) (burnOk : Bool) (s : State) (sec : Nat), s.Calm → sec = min 64 s.upd.banks[bankIx s.upd.bank].sec →
    (s.upd.state = .trial → (s.upd.otp < sec → burnOk = false → s.Mild 1033) →
      (s.AdmitsCmd p Reg.UPD_CONFIRM → ∃ t, exec (.updConfirm p burnOk) s = .next t ∧
        RaiseFrame { s.beat p with upd := t.upd, regs := t.regs } t ∧ t.upd.state = .idle ∧ t.upd.bank = s.upd.bank ∧
        (t.upd.sel[newestSel t.upd.sel]).active = s.upd.bank ∧ (t.upd.sel[newestSel t.upd.sel]).trial = false ∧
        (s.upd.otp < sec ∧ burnOk = false → t.upd.detail = 8 ∧ t.upd.otp = s.upd.otp) ∧
        (¬ (s.upd.otp < sec ∧ burnOk = false) → t.upd.detail = 0 ∧ t.upd.otp = max s.upd.otp sec)) ∧
      (s.alive = true → s.flag Reg.UPD_AUTO_CONFIRM = true → s.upd.faulted = false →
        ∃ t, exec (.updTrialTimeout burnOk) s = .next t ∧ RaiseFrame { s with upd := t.upd, regs := t.regs } t ∧
          t.upd.state = .idle ∧ t.upd.bank = s.upd.bank ∧ (t.upd.sel[newestSel t.upd.sel]).trial = false) ∧
      (s.alive = true → (s.flag Reg.UPD_AUTO_CONFIRM = false ∨ s.upd.faulted = true) →
        ∃ t, exec (.updTrialTimeout burnOk) s = .next t ∧ t.upd.state = .failed ∧ t.upd.detail = 7 ∧
          t.upd.bank = (s.upd.sel[newestSel s.upd.sel]).previous ∧
          (s.restartSpaced = true → t.mgmt = { s.mgmt with due := some .revert }) ∧
          (s.restartSpaced = false → t.mgmt.restarting = true ∧ t.mgmt.reason = 4) ∧
          t.time = s.time ∧ ∀ n : ChId, t.ch[n].loop = s.ch[n].loop ∧ t.ch[n].state = s.ch[n].state)) ∧
    (s.upd.state ≠ .trial → s.AdmitsCmd p Reg.UPD_CONFIRM →
      ∃ t, exec (.updConfirm p burnOk) s = .next t ∧ s.RefusedAs t p Reg.UPD_CONFIRM nakCond)) ∧
  (∀ (p : Port) (s : State), s.Calm → s.AdmitsCmd p Reg.UPD_ABORT →
    ((s.upd.state = .receiving ∨ s.upd.state = .verified ∨ s.upd.state = .waitQuiet ∨ s.upd.state = .failed) →
      ∃ t, exec (.updAbort p) s = .next t ∧ RaiseFrame { s.beat p with
        upd := t.upd, sched := t.sched, bead := { s.bead with writing := t.bead.writing } } t ∧
        t.upd.state = .idle ∧ t.upd.banks[s.spare] = ({} : Bank) ∧ t.upd.bank = s.upd.bank) ∧
    ((s.upd.state = .idle ∨ s.upd.state = .verifying ∨ s.upd.state = .trial) →
      ∃ t, exec (.updAbort p) s = .next t ∧ s.RefusedAs t p Reg.UPD_ABORT nakCond))

/-- Lifecycle, roles, keys, debug level, run control and power change where their conditions hold, else not. -/
def Obligations.SecurityDebugAndPowerChangeByTheirConditions : Prop :=
  (∀ (p : Port) (v : BitVec 32) (s : State), s.Calm →
    s.Admits p Reg.LC_ADVANCE (dataAt Reg.LC_ADVANCE (Int.ofNat v.toNat)) (Int.ofNat v.toNat) →
    (lcSignature s.sec.lifecycle = some (Int.ofNat v.toNat) → s.lcReady = true →
      (s.sec.lifecycle < 2 → ∃ t, exec (.lcAdvance p v) s = .next t ∧
        RaiseFrame { s.beat p with sec := t.sec, port := t.port, tap := t.tap, regs := t.regs } t ∧
        t.sec = { s.sec with lifecycle := s.sec.lifecycle + 1, debug := 0 } ∧ s.SameRegs t [Reg.LC_TIME, Reg.FC_LOG_LOST] ∧
        t.reg Reg.LC_TIME = Int.ofNat s.now80 ∧ ∀ q : Port, t.port[q] = { (s.beat p).port[q] with role := .observer }) ∧
      (s.sec.lifecycle = 2 → ∃ t, exec (.lcAdvance p v) s = .next t ∧ t.sec.lifecycle = 3 ∧ (t.src 1088).cond = true ∧
        (s.sup.power = .run ∨ s.sup.power = .quiet → t.sup.power = .safeHold) ∧
        ∀ q : Port, t.port[q].role = .observer)) ∧
    (lcSignature s.sec.lifecycle ≠ some (Int.ofNat v.toNat) →
      ∃ t, exec (.lcAdvance p v) s = .next t ∧ s.RefusedAs t p Reg.LC_ADVANCE nakSignature) ∧
    (lcSignature s.sec.lifecycle = some (Int.ofNat v.toNat) → s.lcReady = false →
      ∃ t, exec (.lcAdvance p v) s = .next t ∧ s.RefusedAs t p Reg.LC_ADVANCE nakCond)) ∧
  (∀ (p q : Port) (s : State), s.Calm → s.gate p = .ready →
    (p = q → ∃ t, exec (.authChallenge p q) s = .next t ∧ t = { s.beat p with sec := t.sec, port := t.port } ∧
      t.sec = { s.sec with nonceNo := s.sec.nonceNo + 1 } ∧
      t.port[p] = { (s.beat p).port[p] with nonce := some (nonceOf s.sec.nonceNo, s.now) } ∧
      ∀ j, j ≠ p → t.port[j] = s.port[j]) ∧
    (p ≠ q → ∃ t, exec (.authChallenge p q) s = .next t ∧ s.RefusedAs t p (Reg.AUTH_CHALLENGE q) nakAccess)) ∧
  (∀ (p : Port) (data : Bytes) (v : Int) (s : State), s.Calm → s.Admits p (Reg.AUTH_RESPONSE p) data v →
    (∀ r, (s.beat p).responseRole p data = some r → ∃ t, exec (.authResponse p p data) s = .next t ∧
      RaiseFrame { s.beat p with port := t.port } t ∧ (∀ j, j ≠ p → t.port[j] = s.port[j]) ∧
      t.port[p] = { (s.beat p).port[p] with role := r, nonce := none }) ∧
    ((s.beat p).responseRole p data = none → s.Mild 1090 → s.Mild 1091 →
      ∃ t, exec (.authResponse p p data) s = .next t ∧
        RaiseFrame { s.beat p with port := t.port, dev := t.dev, regs := t.regs } t ∧ t.port[p].role = s.port[p].role ∧
        t.port[p].nonce = none ∧ (∀ j, j ≠ p → t.port[j] = s.port[j]) ∧
        s.SameRegs t [Reg.AUTH_FAIL_CNT p, Reg.DEV_REFUSE_CNT, Reg.FC_LOG_LOST] ∧
        t.reg (Reg.AUTH_FAIL_CNT p) = satInc 32 (s.reg (Reg.AUTH_FAIL_CNT p)) ∧
        t.reg Reg.DEV_REFUSE_CNT = satInc 32 (s.reg Reg.DEV_REFUSE_CNT))) ∧
  (∀ (p q : Port) (s : State), s.Calm → s.AdmitsCmd p (Reg.AUTH_LOGOUT q) →
    exec (.authLogout p q) s = .next ((s.beat p).modPort q fun x => { x with role := .observer })) ∧
  (∀ (q : Port) (s : State), s.Calm → s.alive = true →
    (s.port[q].lockUntil = none → exec (.authLockExpiry q) s = .next s) ∧
    (s.port[q].lockUntil ≠ none → ∃ t, exec (.authLockExpiry q) s = .next t ∧ RaiseFrame { s with port := t.port } t ∧
      t.port[q] = { s.port[q] with lockUntil := none } ∧ (∀ j, j ≠ q → t.port[j] = s.port[j]) ∧
      ((∀ j : Port, j ≠ q → s.port[j].lockUntil = none) → (t.src 1091).cond = false))) ∧
  (∀ (p : Port) (b : Bool) (data : Bytes) (v : Int) (k : Key) (s : State), s.Calm →
    k = (if b then Reg.KEY_INTEGRATOR else Reg.KEY_OPERATOR) → s.Admits p k data v →
    ∃ t, exec (.keyWrite p b data) s = .next t ∧ t = { s.beat p with
      sec := if b then { s.sec with keyIntegrator := some data, crcIntegrator := crc32 data }
        else { s.sec with keyOperator := some data, crcOperator := crc32 data } }) ∧
  (∀ (p : Port) (v : Int) (s : State), s.Calm → s.Admits p Reg.DBG_LEVEL (dataAt Reg.DBG_LEVEL v) v →
    ((p = 6 ∧ Int.ofNat s.sec.debug < v ∨ v = 2 ∧ s.fullAdmitted = false) →
      ∃ t, exec (.dbgLevelWrite p v) s = .next t ∧ s.RefusedAs t p Reg.DBG_LEVEL nakCond) ∧
    (¬ (p = 6 ∧ Int.ofNat s.sec.debug < v) → (v = 2 → s.fullAdmitted = true) → s.Mild 1089 →
      ∃ t, exec (.dbgLevelWrite p v) s = .next t ∧
        RaiseFrame { s.beat p with sec := t.sec, tap := t.tap, regs := t.regs } t ∧
        t.sec = { s.sec with debug := v.toNat } ∧ s.SameRegs t [Reg.DBG_OPEN_CNT, Reg.FC_LOG_LOST] ∧
        (s.sec.debug ≠ 2 → v = 2 → t.reg Reg.DBG_OPEN_CNT = satInc 32 (s.reg Reg.DBG_OPEN_CNT) ∧
          (t.src 1089).cond = true) ∧
        (v ≠ 2 → t.reg Reg.DBG_OPEN_CNT = s.reg Reg.DBG_OPEN_CNT) ∧
        (s.sec.debug ≠ v.toNat → v ≠ 2 → (t.src 1089).cond = false ∧ t.tap.halted = false))) ∧
  (∀ s : State, s.Calm →
    (s.runControl = true → exec .runControlHalt s = .next { s with tap := { s.tap with halted := true } } ∧
      exec .runControlResume s = .next { s with tap := { s.tap with halted := false } }) ∧
    (s.runControl = false → exec .runControlHalt s = .next s ∧ exec .runControlResume s = .next s)) ∧
  (∀ (p : Port) (s : State), s.Calm →
    (s.Admits p Reg.PWR_CMD (dataAt Reg.PWR_CMD 0) 0 →
      (s.sup.power = .run → exec (.pwrRun p) s = .next (s.beat p)) ∧
      (s.sup.power ≠ .run → ∃ t, exec (.pwrRun p) s = .next t ∧ t.sup.power = .run ∧ t.sup.powerReason = 1 ∧
        (∀ n : ChId, s.ch[n].state = .off → (s.flag (Reg.CH_ENABLE n) = true → t.ch[n].state = .settle ∧ t.ch[n].reason = 1) ∧
          (s.flag (Reg.CH_ENABLE n) = false → t.ch[n].state = .off)) ∧
        ∀ e : ExcId, s.exc[e].state = .off → t.excWanted e = true → t.exc[e].state = .ramp ∧ t.exc[e].acc = 0)) ∧
    (s.Admits p Reg.PWR_CMD (dataAt Reg.PWR_CMD 1) 1 →
      (s.sup.power = .run → (s.dev.state = .config ∨ s.dev.state = .safe) → s.mramIdle = true →
        ∃ t, exec (.pwrQuiet p) s = .next t ∧ t.sup.power = .quiet ∧ t.sup.powerReason = 1 ∧
          ((∀ n : ChId, s.Mild (chSrc n 16)) → s.Parked t ∧ s.QuietOutputs t)) ∧
      (s.sup.power = .run → (s.dev.state = .config ∨ s.dev.state = .safe) → s.mramIdle = false →
        ∃ t, exec (.pwrQuiet p) s = .next t ∧ s.RefusedAs t p Reg.PWR_CMD nakSched) ∧
      (s.sup.power ≠ .quiet → ¬ (s.sup.power = .run ∧ (s.dev.state = .config ∨ s.dev.state = .safe)) →
        ∃ t, exec (.pwrQuiet p) s = .next t ∧ s.RefusedAs t p Reg.PWR_CMD nakCond)) ∧
    (s.Admits p Reg.PWR_CMD (dataAt Reg.PWR_CMD 2) 2 →
      (s.sup.power ≠ .safeHold → s.dev.state = .safe → ∃ t, exec (.pwrSafeHold (.command p)) s = .next t ∧
        t.sup.power = .safeHold ∧ t.sup.powerReason = 1 ∧
        ((∀ n : ChId, s.Mild (chSrc n 16)) → (s.sup.power = .run → s.Parked t) ∧ s.HeldOutputs t)) ∧
      (s.sup.power ≠ .safeHold → s.dev.state ≠ .safe →
        ∃ t, exec (.pwrSafeHold (.command p)) s = .next t ∧ s.RefusedAs t p Reg.PWR_CMD nakCond)) ∧
    (s.alive = true → (s.sup.power = .run ∨ s.sup.power = .quiet) →
      ((s.src 20).state = .active → s.flag Reg.PWR_AUTO_HOLD = true → ∃ t, exec (.pwrSafeHold .tempLimit) s = .next t ∧
        t.sup.power = .safeHold ∧ t.sup.powerReason = 2 ∧
        ((∀ n : ChId, s.Mild (chSrc n 16)) → (s.sup.power = .run → s.Parked t) ∧ s.HeldOutputs t)) ∧
      (s.sec.lifecycle = 3 → ∃ t, exec (.pwrSafeHold .retired) s = .next t ∧ t.sup.power = .safeHold ∧
        t.sup.powerReason = 3 ∧
        ((∀ n : ChId, s.Mild (chSrc n 16)) → (s.sup.power = .run → s.Parked t) ∧ s.HeldOutputs t)))) ∧
  (∀ (p : Port) (v : BitVec 32) (s : State), s.Calm →
    s.Admits p Reg.PWR_OFF (dataAt Reg.PWR_OFF (Int.ofNat v.toNat)) (Int.ofNat v.toNat) →
    (v = 0x746C6168 → s.dev.state = .safe → s.mramIdle = true → s.sup.power ≠ .off →
      ∃ t, exec (.pwrOff p v) s = .next t ∧ t.sup.power = .off ∧ t.red.clmOut = false ∧
        (∀ m : Fin 16, t.emu[m].a = .hiz ∧ t.emu[m].b = .hiz ∧ t.emu[m].z = .hiz ∧ t.psw[m].level = .hiz) ∧
        (∀ g, t.glvOut g = .hiz) ∧ (∀ e : ExcId, t.exc[e].driving = false ∧ t.excOut e = .clamped) ∧
        (∀ k : Fin 2, t.lnk[k].state = .down) ∧ t.alive = false) ∧
    (v = 0x746C6168 → s.dev.state = .safe → s.mramIdle = false →
      ∃ t, exec (.pwrOff p v) s = .next t ∧ s.RefusedAs t p Reg.PWR_OFF nakSched) ∧
    (v = 0x746C6168 → s.dev.state ≠ .safe →
      ∃ t, exec (.pwrOff p v) s = .next t ∧ s.RefusedAs t p Reg.PWR_OFF nakCond) ∧
    (v ≠ 0x746C6168 → ∃ t, exec (.pwrOff p v) s = .next t ∧ s.RefusedAs t p Reg.PWR_OFF nakSignature))

/-- Resets leave the MRAM and the floor as the manual says, and releases, locks and holds act on their domain alone.
-/
def Obligations.ResetsReleasesAndHoldsOfTheSupplies : Prop :=
  (∀ s : State, s.Calm →
    (∃ t, exec .vioPor s = .next t ∧ t = { s.afterReset with sup := { s.afterReset.sup with vio := false } }) ∧
    (s.sup.vio = true → exec .vioPorRelease s = .next s) ∧
    (s.sup.vio = false → ∃ t, exec .vioPorRelease s = .next t ∧ t = { s.afterReset with
      floor := { State.reset.floor with since := s.now }, sup := { s.afterReset.sup with vio := true } }) ∧
    (∀ c, s.floorOn = true → ∃ t, exec (.deviceReset c) s = .next t ∧
      t = { s.afterReset with floor := s.floor, fc := { State.reset.fc with srcs := t.fc.srcs } } ∧
      (SMap.wf (fun _ => {}) s.fc.srcs = true → ∀ id,
        ((s.src id).state = .idle → (t.src id).state = .idle ∧ (t.src id).cond = false) ∧
        ((s.src id).state = .latched → (t.src id).state = .latched ∧ t.fltNow id = s.fltNow id ∧
          (t.src id).emus = (s.src id).emus ∧ (t.src id).psws = (s.src id).psws) ∧
        ((s.src id).state = .active → (s.src id).cond = true → (id < 16 ∨ (s.src id).rail = true) →
          (t.src id).state = .active ∧ (t.src id).cond = true ∧ t.fltNow id = s.fltNow id) ∧
        ((s.src id).state = .active → ¬ ((s.src id).cond = true ∧ (id < 16 ∨ (s.src id).rail = true)) →
          (t.src id).cond = false ∧ (t.src id).state = if (s.fltNow id).1 = 0 then .idle else .latched))) ∧
    (∀ c, s.floorOn = false → exec (.deviceReset c) s = .next s)) ∧
  (∀ s : State, s.afterReset.dev = State.reset.dev ∧ s.afterReset.regs = State.reset.regs ∧
    s.afterReset.time = State.reset.time ∧ s.afterReset.floor = State.reset.floor ∧ s.afterReset.fc = State.reset.fc ∧
    s.afterReset.port = State.reset.port ∧ s.afterReset.ch = State.reset.ch ∧ s.afterReset.red = State.reset.red ∧
    s.afterReset.tq = State.reset.tq ∧ s.afterReset.grp = State.reset.grp ∧ s.afterReset.sec.debug = 0 ∧
    s.afterReset.log = s.log ∧ s.afterReset.bead.gens = s.bead.gens ∧ s.afterReset.store.gens = s.store.gens ∧
    s.afterReset.upd.banks = s.upd.banks ∧ s.afterReset.upd.sel = s.upd.sel ∧ s.afterReset.upd.otp = s.upd.otp ∧
    s.afterReset.sec.lifecycle = s.sec.lifecycle ∧ s.afterReset.sec.keyOperator = s.sec.keyOperator ∧
    s.afterReset.sec.keyIntegrator = s.sec.keyIntegrator ∧
    s.afterReset.sup.power = (if s.sec.lifecycle = 3 then .safeHold else .run) ∧
    (∀ q : Fin 2, s.afterReset.pt[q].line = s.pt[q].line ∧ s.afterReset.pt[q].okin = s.pt[q].okin ∧
      s.afterReset.pt[q].claimed = State.reset.pt[q].claimed) ∧
    (∀ k : Fin 2, s.afterReset.eth[k] = { State.reset.eth[k] with inband := s.eth[k].inband }) ∧
    ∀ e : ExcId, s.afterReset.exc[e] = { State.reset.exc[e] with vexc := s.exc[e].vexc }) ∧
  (∀ s : State,
    (s.sup.vio = false → ∀ b, s.ballCore b = .hiz) ∧
    (s.sup.vio = true → s.sup.reset = true → s.ballCore .okay = .low ∧ s.ballCore .clmOut = .low ∧
      (∀ h, s.ballCore (.rdy h) = .low ∧ s.ballCore (.miso h) = .hiz) ∧ (∀ c, s.ballCore (.canTx c) = .high) ∧
      ∀ k i, s.ballCore (.ethOut k i) = .low ∧ s.ballCore (.mdc k) = .low ∧ s.ballCore (.mdio k) = .hiz) ∧
    ((s.sup.vexcHold = true ∨ s.sup.vanaHold = true) → ∀ e, s.excOut e = .clamped)) ∧
  (∀ (strap : BitVec 2) (clk ok : Bool) (s : State) (r : BankSel), s.Calm → s.floorOn = true → s.sup.reset = true →
    r = (s.upd.sel.map BankSel.checked)[newestSel (s.upd.sel.map BankSel.checked)] →
    ∃ t, exec (.resetRelease strap clk ok) s = .next t ∧
      t.sup = { s.sup with reset := false, strap := strap, clksel := clk } ∧ t.red.seat = strap ∧ t.floor.testOk = ok ∧
      t.time = s.time ∧ t.log = s.log ∧ t.store = s.store ∧ (strap = 3 → (t.src 907).cond = true) ∧
      (s.sup.vanaHold = true → (t.src 9).cond = true) ∧
      t.upd.bank = (if s.bootable (if r.trial then r.previous else r.active) = false ∧
          s.bootable (!(if r.trial then r.previous else r.active)) = true
        then !(if r.trial then r.previous else r.active) else if r.trial then r.previous else r.active)) ∧
  (∀ s : State, s.Calm → s.floorOn = true → s.sup.reset = false → s.sup.pll = false →
    ∃ t, exec .pllLock s = .next t ∧ RaiseFrame { s with sup := { s.sup with pll := true }, lnk := t.lnk } t ∧
      (t.src 4).cond = false ∧ (t.src 5).cond = false ∧
      ∀ k : Fin 2, t.lnk[k] = { s.lnk[k] with state := .aligning }) ∧
  (∀ s : State, s.Calm → s.alive = true → s.mgmt.service = false →
    (s.bootable s.upd.bank = true → s.Mild 1028 →
      ∃ t, exec .dictServiceReady s = .next t ∧
        RaiseFrame { s with mgmt := { s.mgmt with service := true, restartAt := s.now }, log := t.log, sec := t.sec, regs := t.regs } t ∧
        t.sec = { s.sec with
          keyOperator := s.sec.keyOperator.filter fun k => s.sec.crcOperator = crc32 k
          keyIntegrator := s.sec.keyIntegrator.filter fun k => s.sec.crcIntegrator = crc32 k } ∧
        t.log.recs = s.log.recs.filter (fun x => logOk x.2) ∧
        (∀ x ∈ t.log.recs.head?, t.log.nextSeq = (x.1 + 1) % 2 ^ 32) ∧
        s.SameRegs t [Reg.LOG_BAD_CNT, Reg.FC_LOG_LOST] ∧
        ((s.log.recs.drop 1).all (fun x => logOk x.2) = true → t.regs = s.regs ∧ t.fc = s.fc) ∧
        ((s.log.recs.drop 1).all (fun x => logOk x.2) = false → t.reg Reg.LOG_BAD_CNT =
          satAdd 32 (s.reg Reg.LOG_BAD_CNT) (Int.ofNat ((s.log.recs.drop 1).countP fun x => !logOk x.2)))) ∧
    (s.bootable s.upd.bank = false → exec .dictServiceReady s = .next s)) ∧
  (∀ s : State, s.Calm →
    exec .analogueHold s = .next { s with sup := { s.sup with vanaHold := true } } ∧
    exec .analogueRestart s = .next { s with sup := { s.sup with vanaHold := false } } ∧
    exec .exciterHold s = .next { s with sup := { s.sup with vexcHold := true } } ∧
    exec .exciterHoldRelease s = .next { s with sup := { s.sup with vexcHold := false } } ∧
    exec .tapReset s = .next { s with tap := { State.reset.tap with halted := s.tap.halted } })

/-- CLM_OUT goes high by CLAIM_ASSERT alone, in step 3 of ARBITRATE, eligible, with every partner RELEASED. -/
def Obligations.OnlyTheClaimSequencerRaisesTheClaimLine : Prop :=
  (∀ (c : Instr) (s t : State), exec c s = .next t → s.red.clmOut = false → t.red.clmOut = true →
    c = .claimAssert ∧ s.alive = true ∧ s.red.state = .arbitrate ∧ s.red.step3 = true ∧ s.eligible = true ∧
    s.anyClaimed = false ∧ s.pathClear = true) ∧
  ∀ s t : State, s.pending = [] → step s = .next t → t.red.clmOut = true → s.red.clmOut = true
end

