-- ==== Sys2Proof/Laws/Bytes.lean ====
section
/-!
SUPPORT. Little-endian bytes and the validity of a record.
-/

namespace Sys2Proof.Machine

/-- Little-endian bytes have the length they are given. -/
theorem leBytes_length (n x : Nat) : (leBytes n x).length = n := by
  induction n generalizing x with
  | zero => rfl
  | succ k ih => simp [leBytes, ih]

/-- The number that `n` little-endian bytes spell. -/
theorem leNat_leBytes (n x : Nat) : leNat (leBytes n x) = x % 256 ^ n := by
  induction n generalizing x with
  | zero => simp [leBytes, leNat, Nat.mod_one]
  | succ k ih =>
    simp only [leBytes, leNat, ih, BitVec.toNat_ofNat]
    rw [show (256 : Nat) ^ (k + 1) = 256 * 256 ^ k from pow_succ' _ _, Nat.mod_mul (x := x) (a := 256)]

/-- 1,020 bytes of format 1 with their CRC are a valid record (R243). -/
theorem recordOk_of_body (body : Bytes) (h : body.length = 1020) (h0 : fieldB body 0 1 = 1) :
    recordOk (body ++ leBytes 4 (crc32 body).toNat) = true := by
  have h4 : (leBytes 4 (crc32 body).toNat).take 4 = leBytes 4 (crc32 body).toNat :=
    List.take_of_length_le (by simp [leBytes_length])
  have h1 : (body ++ leBytes 4 (crc32 body).toNat).take 1 = body.take 1 := by
    rw [List.take_append_of_le_length (by omega)]
  simp only [fieldB, sliceB, List.drop_zero] at h0
  simp [recordOk, fieldB, sliceB, leBytes_length, h, h1, h0, List.drop_append, h4, leNat_leBytes]
  omega

end Sys2Proof.Machine
end

