-- ==== Sys2Proof/Laws/State.lean ====
section
/-!
SUPPORT. What each named update of State leaves alone: one lemma for each field and each update, true by definition; and
the register file under each update.
-/

namespace Sys2Proof.Machine

/-! ### One element of a vector -/

@[simp] theorem vmod_self {α : Type} {n : Nat} (v : Vector α n) (i : Fin n) (f : α → α) :
    (vmod v i f)[i.val] = f v[i.val] := by
  simp [vmod]

theorem vmod_ne {α : Type} {n : Nat} (v : Vector α n) {i j : Fin n} (f : α → α) (h : i ≠ j) :
    (vmod v i f)[j.val] = v[j.val] := by
  have h' : i.val ≠ j.val := fun e => h (Fin.ext e)
  simp [vmod, h']

/-- An element of a vector after one element's change. -/
theorem vmod_get {α : Type} {n : Nat} (v : Vector α n) (i j : Fin n) (f : α → α) :
    (vmod v i f)[j.val] = if i = j then f v[i.val] else v[j.val] := by
  by_cases h : i = j
  · subst h; simp
  · simp [h, vmod_ne v f h]

/-! ### The updates of one field -/

/-! `modCh` changes `ch` only. -/

@[simp] theorem State.modCh_pending (s : State) (n : ChId) (f : Chan → Chan) : (s.modCh n f).pending = s.pending := rfl
@[simp] theorem State.modCh_now (s : State) (n : ChId) (f : Chan → Chan) : (s.modCh n f).now = s.now := rfl
@[simp] theorem State.modCh_fresh (s : State) (n : ChId) (f : Chan → Chan) : (s.modCh n f).fresh = s.fresh := rfl
@[simp] theorem State.modCh_frames (s : State) (n : ChId) (f : Chan → Chan) : (s.modCh n f).frames = s.frames := rfl
@[simp] theorem State.modCh_regs (s : State) (n : ChId) (f : Chan → Chan) : (s.modCh n f).regs = s.regs := rfl
@[simp] theorem State.modCh_watch (s : State) (n : ChId) (f : Chan → Chan) : (s.modCh n f).watch = s.watch := rfl
@[simp] theorem State.modCh_front (s : State) (n : ChId) (f : Chan → Chan) : (s.modCh n f).front = s.front := rfl
@[simp] theorem State.modCh_cal (s : State) (n : ChId) (f : Chan → Chan) : (s.modCh n f).cal = s.cal := rfl
@[simp] theorem State.modCh_sets (s : State) (n : ChId) (f : Chan → Chan) : (s.modCh n f).sets = s.sets := rfl
@[simp] theorem State.modCh_bead (s : State) (n : ChId) (f : Chan → Chan) : (s.modCh n f).bead = s.bead := rfl
@[simp] theorem State.modCh_cap (s : State) (n : ChId) (f : Chan → Chan) : (s.modCh n f).cap = s.cap := rfl
@[simp] theorem State.modCh_exc (s : State) (n : ChId) (f : Chan → Chan) : (s.modCh n f).exc = s.exc := rfl
@[simp] theorem State.modCh_kelvin (s : State) (n : ChId) (f : Chan → Chan) : (s.modCh n f).kelvin = s.kelvin := rfl
@[simp] theorem State.modCh_glv (s : State) (n : ChId) (f : Chan → Chan) : (s.modCh n f).glv = s.glv := rfl
@[simp] theorem State.modCh_emu (s : State) (n : ChId) (f : Chan → Chan) : (s.modCh n f).emu = s.emu := rfl
@[simp] theorem State.modCh_psw (s : State) (n : ChId) (f : Chan → Chan) : (s.modCh n f).psw = s.psw := rfl
@[simp] theorem State.modCh_snap (s : State) (n : ChId) (f : Chan → Chan) : (s.modCh n f).snap = s.snap := rfl
@[simp] theorem State.modCh_pf (s : State) (n : ChId) (f : Chan → Chan) : (s.modCh n f).pf = s.pf := rfl
@[simp] theorem State.modCh_tal (s : State) (n : ChId) (f : Chan → Chan) : (s.modCh n f).tal = s.tal := rfl
@[simp] theorem State.modCh_fc (s : State) (n : ChId) (f : Chan → Chan) : (s.modCh n f).fc = s.fc := rfl
@[simp] theorem State.modCh_floor (s : State) (n : ChId) (f : Chan → Chan) : (s.modCh n f).floor = s.floor := rfl
@[simp] theorem State.modCh_dev (s : State) (n : ChId) (f : Chan → Chan) : (s.modCh n f).dev = s.dev := rfl
@[simp] theorem State.modCh_port (s : State) (n : ChId) (f : Chan → Chan) : (s.modCh n f).port = s.port := rfl
@[simp] theorem State.modCh_grp (s : State) (n : ChId) (f : Chan → Chan) : (s.modCh n f).grp = s.grp := rfl
@[simp] theorem State.modCh_store (s : State) (n : ChId) (f : Chan → Chan) : (s.modCh n f).store = s.store := rfl
@[simp] theorem State.modCh_red (s : State) (n : ChId) (f : Chan → Chan) : (s.modCh n f).red = s.red := rfl
@[simp] theorem State.modCh_pt (s : State) (n : ChId) (f : Chan → Chan) : (s.modCh n f).pt = s.pt := rfl
@[simp] theorem State.modCh_vote (s : State) (n : ChId) (f : Chan → Chan) : (s.modCh n f).vote = s.vote := rfl
@[simp] theorem State.modCh_lnk (s : State) (n : ChId) (f : Chan → Chan) : (s.modCh n f).lnk = s.lnk := rfl
@[simp] theorem State.modCh_hsp (s : State) (n : ChId) (f : Chan → Chan) : (s.modCh n f).hsp = s.hsp := rfl
@[simp] theorem State.modCh_tap (s : State) (n : ChId) (f : Chan → Chan) : (s.modCh n f).tap = s.tap := rfl
@[simp] theorem State.modCh_eth (s : State) (n : ChId) (f : Chan → Chan) : (s.modCh n f).eth = s.eth := rfl
@[simp] theorem State.modCh_can (s : State) (n : ChId) (f : Chan → Chan) : (s.modCh n f).can = s.can := rfl
@[simp] theorem State.modCh_tq (s : State) (n : ChId) (f : Chan → Chan) : (s.modCh n f).tq = s.tq := rfl
@[simp] theorem State.modCh_time (s : State) (n : ChId) (f : Chan → Chan) : (s.modCh n f).time = s.time := rfl
@[simp] theorem State.modCh_mgmt (s : State) (n : ChId) (f : Chan → Chan) : (s.modCh n f).mgmt = s.mgmt := rfl
@[simp] theorem State.modCh_sched (s : State) (n : ChId) (f : Chan → Chan) : (s.modCh n f).sched = s.sched := rfl
@[simp] theorem State.modCh_log (s : State) (n : ChId) (f : Chan → Chan) : (s.modCh n f).log = s.log := rfl
@[simp] theorem State.modCh_upd (s : State) (n : ChId) (f : Chan → Chan) : (s.modCh n f).upd = s.upd := rfl
@[simp] theorem State.modCh_sec (s : State) (n : ChId) (f : Chan → Chan) : (s.modCh n f).sec = s.sec := rfl
@[simp] theorem State.modCh_sup (s : State) (n : ChId) (f : Chan → Chan) : (s.modCh n f).sup = s.sup := rfl
@[simp] theorem State.modCh_reg (s : State) (n : ChId) (f : Chan → Chan) (k : Key) : (s.modCh n f).reg k = s.reg k := rfl

/-! `modWatch` changes `watch` only. -/

@[simp] theorem State.modWatch_pending (s : State) (n : ChId) (f : Watch → Watch) : (s.modWatch n f).pending = s.pending := rfl
@[simp] theorem State.modWatch_now (s : State) (n : ChId) (f : Watch → Watch) : (s.modWatch n f).now = s.now := rfl
@[simp] theorem State.modWatch_fresh (s : State) (n : ChId) (f : Watch → Watch) : (s.modWatch n f).fresh = s.fresh := rfl
@[simp] theorem State.modWatch_frames (s : State) (n : ChId) (f : Watch → Watch) : (s.modWatch n f).frames = s.frames := rfl
@[simp] theorem State.modWatch_regs (s : State) (n : ChId) (f : Watch → Watch) : (s.modWatch n f).regs = s.regs := rfl
@[simp] theorem State.modWatch_ch (s : State) (n : ChId) (f : Watch → Watch) : (s.modWatch n f).ch = s.ch := rfl
@[simp] theorem State.modWatch_front (s : State) (n : ChId) (f : Watch → Watch) : (s.modWatch n f).front = s.front := rfl
@[simp] theorem State.modWatch_cal (s : State) (n : ChId) (f : Watch → Watch) : (s.modWatch n f).cal = s.cal := rfl
@[simp] theorem State.modWatch_sets (s : State) (n : ChId) (f : Watch → Watch) : (s.modWatch n f).sets = s.sets := rfl
@[simp] theorem State.modWatch_bead (s : State) (n : ChId) (f : Watch → Watch) : (s.modWatch n f).bead = s.bead := rfl
@[simp] theorem State.modWatch_cap (s : State) (n : ChId) (f : Watch → Watch) : (s.modWatch n f).cap = s.cap := rfl
@[simp] theorem State.modWatch_exc (s : State) (n : ChId) (f : Watch → Watch) : (s.modWatch n f).exc = s.exc := rfl
@[simp] theorem State.modWatch_kelvin (s : State) (n : ChId) (f : Watch → Watch) : (s.modWatch n f).kelvin = s.kelvin := rfl
@[simp] theorem State.modWatch_glv (s : State) (n : ChId) (f : Watch → Watch) : (s.modWatch n f).glv = s.glv := rfl
@[simp] theorem State.modWatch_emu (s : State) (n : ChId) (f : Watch → Watch) : (s.modWatch n f).emu = s.emu := rfl
@[simp] theorem State.modWatch_psw (s : State) (n : ChId) (f : Watch → Watch) : (s.modWatch n f).psw = s.psw := rfl
@[simp] theorem State.modWatch_snap (s : State) (n : ChId) (f : Watch → Watch) : (s.modWatch n f).snap = s.snap := rfl
@[simp] theorem State.modWatch_pf (s : State) (n : ChId) (f : Watch → Watch) : (s.modWatch n f).pf = s.pf := rfl
@[simp] theorem State.modWatch_tal (s : State) (n : ChId) (f : Watch → Watch) : (s.modWatch n f).tal = s.tal := rfl
@[simp] theorem State.modWatch_fc (s : State) (n : ChId) (f : Watch → Watch) : (s.modWatch n f).fc = s.fc := rfl
@[simp] theorem State.modWatch_floor (s : State) (n : ChId) (f : Watch → Watch) : (s.modWatch n f).floor = s.floor := rfl
@[simp] theorem State.modWatch_dev (s : State) (n : ChId) (f : Watch → Watch) : (s.modWatch n f).dev = s.dev := rfl
@[simp] theorem State.modWatch_port (s : State) (n : ChId) (f : Watch → Watch) : (s.modWatch n f).port = s.port := rfl
@[simp] theorem State.modWatch_grp (s : State) (n : ChId) (f : Watch → Watch) : (s.modWatch n f).grp = s.grp := rfl
@[simp] theorem State.modWatch_store (s : State) (n : ChId) (f : Watch → Watch) : (s.modWatch n f).store = s.store := rfl
@[simp] theorem State.modWatch_red (s : State) (n : ChId) (f : Watch → Watch) : (s.modWatch n f).red = s.red := rfl
@[simp] theorem State.modWatch_pt (s : State) (n : ChId) (f : Watch → Watch) : (s.modWatch n f).pt = s.pt := rfl
@[simp] theorem State.modWatch_vote (s : State) (n : ChId) (f : Watch → Watch) : (s.modWatch n f).vote = s.vote := rfl
@[simp] theorem State.modWatch_lnk (s : State) (n : ChId) (f : Watch → Watch) : (s.modWatch n f).lnk = s.lnk := rfl
@[simp] theorem State.modWatch_hsp (s : State) (n : ChId) (f : Watch → Watch) : (s.modWatch n f).hsp = s.hsp := rfl
@[simp] theorem State.modWatch_tap (s : State) (n : ChId) (f : Watch → Watch) : (s.modWatch n f).tap = s.tap := rfl
@[simp] theorem State.modWatch_eth (s : State) (n : ChId) (f : Watch → Watch) : (s.modWatch n f).eth = s.eth := rfl
@[simp] theorem State.modWatch_can (s : State) (n : ChId) (f : Watch → Watch) : (s.modWatch n f).can = s.can := rfl
@[simp] theorem State.modWatch_tq (s : State) (n : ChId) (f : Watch → Watch) : (s.modWatch n f).tq = s.tq := rfl
@[simp] theorem State.modWatch_time (s : State) (n : ChId) (f : Watch → Watch) : (s.modWatch n f).time = s.time := rfl
@[simp] theorem State.modWatch_mgmt (s : State) (n : ChId) (f : Watch → Watch) : (s.modWatch n f).mgmt = s.mgmt := rfl
@[simp] theorem State.modWatch_sched (s : State) (n : ChId) (f : Watch → Watch) : (s.modWatch n f).sched = s.sched := rfl
@[simp] theorem State.modWatch_log (s : State) (n : ChId) (f : Watch → Watch) : (s.modWatch n f).log = s.log := rfl
@[simp] theorem State.modWatch_upd (s : State) (n : ChId) (f : Watch → Watch) : (s.modWatch n f).upd = s.upd := rfl
@[simp] theorem State.modWatch_sec (s : State) (n : ChId) (f : Watch → Watch) : (s.modWatch n f).sec = s.sec := rfl
@[simp] theorem State.modWatch_sup (s : State) (n : ChId) (f : Watch → Watch) : (s.modWatch n f).sup = s.sup := rfl
@[simp] theorem State.modWatch_reg (s : State) (n : ChId) (f : Watch → Watch) (k : Key) : (s.modWatch n f).reg k = s.reg k := rfl

/-! `modFront` changes `front` only. -/

@[simp] theorem State.modFront_pending (s : State) (n : ChId) (f : Front → Front) : (s.modFront n f).pending = s.pending := rfl
@[simp] theorem State.modFront_now (s : State) (n : ChId) (f : Front → Front) : (s.modFront n f).now = s.now := rfl
@[simp] theorem State.modFront_fresh (s : State) (n : ChId) (f : Front → Front) : (s.modFront n f).fresh = s.fresh := rfl
@[simp] theorem State.modFront_frames (s : State) (n : ChId) (f : Front → Front) : (s.modFront n f).frames = s.frames := rfl
@[simp] theorem State.modFront_regs (s : State) (n : ChId) (f : Front → Front) : (s.modFront n f).regs = s.regs := rfl
@[simp] theorem State.modFront_ch (s : State) (n : ChId) (f : Front → Front) : (s.modFront n f).ch = s.ch := rfl
@[simp] theorem State.modFront_watch (s : State) (n : ChId) (f : Front → Front) : (s.modFront n f).watch = s.watch := rfl
@[simp] theorem State.modFront_cal (s : State) (n : ChId) (f : Front → Front) : (s.modFront n f).cal = s.cal := rfl
@[simp] theorem State.modFront_sets (s : State) (n : ChId) (f : Front → Front) : (s.modFront n f).sets = s.sets := rfl
@[simp] theorem State.modFront_bead (s : State) (n : ChId) (f : Front → Front) : (s.modFront n f).bead = s.bead := rfl
@[simp] theorem State.modFront_cap (s : State) (n : ChId) (f : Front → Front) : (s.modFront n f).cap = s.cap := rfl
@[simp] theorem State.modFront_exc (s : State) (n : ChId) (f : Front → Front) : (s.modFront n f).exc = s.exc := rfl
@[simp] theorem State.modFront_kelvin (s : State) (n : ChId) (f : Front → Front) : (s.modFront n f).kelvin = s.kelvin := rfl
@[simp] theorem State.modFront_glv (s : State) (n : ChId) (f : Front → Front) : (s.modFront n f).glv = s.glv := rfl
@[simp] theorem State.modFront_emu (s : State) (n : ChId) (f : Front → Front) : (s.modFront n f).emu = s.emu := rfl
@[simp] theorem State.modFront_psw (s : State) (n : ChId) (f : Front → Front) : (s.modFront n f).psw = s.psw := rfl
@[simp] theorem State.modFront_snap (s : State) (n : ChId) (f : Front → Front) : (s.modFront n f).snap = s.snap := rfl
@[simp] theorem State.modFront_pf (s : State) (n : ChId) (f : Front → Front) : (s.modFront n f).pf = s.pf := rfl
@[simp] theorem State.modFront_tal (s : State) (n : ChId) (f : Front → Front) : (s.modFront n f).tal = s.tal := rfl
@[simp] theorem State.modFront_fc (s : State) (n : ChId) (f : Front → Front) : (s.modFront n f).fc = s.fc := rfl
@[simp] theorem State.modFront_floor (s : State) (n : ChId) (f : Front → Front) : (s.modFront n f).floor = s.floor := rfl
@[simp] theorem State.modFront_dev (s : State) (n : ChId) (f : Front → Front) : (s.modFront n f).dev = s.dev := rfl
@[simp] theorem State.modFront_port (s : State) (n : ChId) (f : Front → Front) : (s.modFront n f).port = s.port := rfl
@[simp] theorem State.modFront_grp (s : State) (n : ChId) (f : Front → Front) : (s.modFront n f).grp = s.grp := rfl
@[simp] theorem State.modFront_store (s : State) (n : ChId) (f : Front → Front) : (s.modFront n f).store = s.store := rfl
@[simp] theorem State.modFront_red (s : State) (n : ChId) (f : Front → Front) : (s.modFront n f).red = s.red := rfl
@[simp] theorem State.modFront_pt (s : State) (n : ChId) (f : Front → Front) : (s.modFront n f).pt = s.pt := rfl
@[simp] theorem State.modFront_vote (s : State) (n : ChId) (f : Front → Front) : (s.modFront n f).vote = s.vote := rfl
@[simp] theorem State.modFront_lnk (s : State) (n : ChId) (f : Front → Front) : (s.modFront n f).lnk = s.lnk := rfl
@[simp] theorem State.modFront_hsp (s : State) (n : ChId) (f : Front → Front) : (s.modFront n f).hsp = s.hsp := rfl
@[simp] theorem State.modFront_tap (s : State) (n : ChId) (f : Front → Front) : (s.modFront n f).tap = s.tap := rfl
@[simp] theorem State.modFront_eth (s : State) (n : ChId) (f : Front → Front) : (s.modFront n f).eth = s.eth := rfl
@[simp] theorem State.modFront_can (s : State) (n : ChId) (f : Front → Front) : (s.modFront n f).can = s.can := rfl
@[simp] theorem State.modFront_tq (s : State) (n : ChId) (f : Front → Front) : (s.modFront n f).tq = s.tq := rfl
@[simp] theorem State.modFront_time (s : State) (n : ChId) (f : Front → Front) : (s.modFront n f).time = s.time := rfl
@[simp] theorem State.modFront_mgmt (s : State) (n : ChId) (f : Front → Front) : (s.modFront n f).mgmt = s.mgmt := rfl
@[simp] theorem State.modFront_sched (s : State) (n : ChId) (f : Front → Front) : (s.modFront n f).sched = s.sched := rfl
@[simp] theorem State.modFront_log (s : State) (n : ChId) (f : Front → Front) : (s.modFront n f).log = s.log := rfl
@[simp] theorem State.modFront_upd (s : State) (n : ChId) (f : Front → Front) : (s.modFront n f).upd = s.upd := rfl
@[simp] theorem State.modFront_sec (s : State) (n : ChId) (f : Front → Front) : (s.modFront n f).sec = s.sec := rfl
@[simp] theorem State.modFront_sup (s : State) (n : ChId) (f : Front → Front) : (s.modFront n f).sup = s.sup := rfl
@[simp] theorem State.modFront_reg (s : State) (n : ChId) (f : Front → Front) (k : Key) : (s.modFront n f).reg k = s.reg k := rfl

/-! `modCal` changes `cal` only. -/

@[simp] theorem State.modCal_pending (s : State) (n : ChId) (f : Cal → Cal) : (s.modCal n f).pending = s.pending := rfl
@[simp] theorem State.modCal_now (s : State) (n : ChId) (f : Cal → Cal) : (s.modCal n f).now = s.now := rfl
@[simp] theorem State.modCal_fresh (s : State) (n : ChId) (f : Cal → Cal) : (s.modCal n f).fresh = s.fresh := rfl
@[simp] theorem State.modCal_frames (s : State) (n : ChId) (f : Cal → Cal) : (s.modCal n f).frames = s.frames := rfl
@[simp] theorem State.modCal_regs (s : State) (n : ChId) (f : Cal → Cal) : (s.modCal n f).regs = s.regs := rfl
@[simp] theorem State.modCal_ch (s : State) (n : ChId) (f : Cal → Cal) : (s.modCal n f).ch = s.ch := rfl
@[simp] theorem State.modCal_watch (s : State) (n : ChId) (f : Cal → Cal) : (s.modCal n f).watch = s.watch := rfl
@[simp] theorem State.modCal_front (s : State) (n : ChId) (f : Cal → Cal) : (s.modCal n f).front = s.front := rfl
@[simp] theorem State.modCal_sets (s : State) (n : ChId) (f : Cal → Cal) : (s.modCal n f).sets = s.sets := rfl
@[simp] theorem State.modCal_bead (s : State) (n : ChId) (f : Cal → Cal) : (s.modCal n f).bead = s.bead := rfl
@[simp] theorem State.modCal_cap (s : State) (n : ChId) (f : Cal → Cal) : (s.modCal n f).cap = s.cap := rfl
@[simp] theorem State.modCal_exc (s : State) (n : ChId) (f : Cal → Cal) : (s.modCal n f).exc = s.exc := rfl
@[simp] theorem State.modCal_kelvin (s : State) (n : ChId) (f : Cal → Cal) : (s.modCal n f).kelvin = s.kelvin := rfl
@[simp] theorem State.modCal_glv (s : State) (n : ChId) (f : Cal → Cal) : (s.modCal n f).glv = s.glv := rfl
@[simp] theorem State.modCal_emu (s : State) (n : ChId) (f : Cal → Cal) : (s.modCal n f).emu = s.emu := rfl
@[simp] theorem State.modCal_psw (s : State) (n : ChId) (f : Cal → Cal) : (s.modCal n f).psw = s.psw := rfl
@[simp] theorem State.modCal_snap (s : State) (n : ChId) (f : Cal → Cal) : (s.modCal n f).snap = s.snap := rfl
@[simp] theorem State.modCal_pf (s : State) (n : ChId) (f : Cal → Cal) : (s.modCal n f).pf = s.pf := rfl
@[simp] theorem State.modCal_tal (s : State) (n : ChId) (f : Cal → Cal) : (s.modCal n f).tal = s.tal := rfl
@[simp] theorem State.modCal_fc (s : State) (n : ChId) (f : Cal → Cal) : (s.modCal n f).fc = s.fc := rfl
@[simp] theorem State.modCal_floor (s : State) (n : ChId) (f : Cal → Cal) : (s.modCal n f).floor = s.floor := rfl
@[simp] theorem State.modCal_dev (s : State) (n : ChId) (f : Cal → Cal) : (s.modCal n f).dev = s.dev := rfl
@[simp] theorem State.modCal_port (s : State) (n : ChId) (f : Cal → Cal) : (s.modCal n f).port = s.port := rfl
@[simp] theorem State.modCal_grp (s : State) (n : ChId) (f : Cal → Cal) : (s.modCal n f).grp = s.grp := rfl
@[simp] theorem State.modCal_store (s : State) (n : ChId) (f : Cal → Cal) : (s.modCal n f).store = s.store := rfl
@[simp] theorem State.modCal_red (s : State) (n : ChId) (f : Cal → Cal) : (s.modCal n f).red = s.red := rfl
@[simp] theorem State.modCal_pt (s : State) (n : ChId) (f : Cal → Cal) : (s.modCal n f).pt = s.pt := rfl
@[simp] theorem State.modCal_vote (s : State) (n : ChId) (f : Cal → Cal) : (s.modCal n f).vote = s.vote := rfl
@[simp] theorem State.modCal_lnk (s : State) (n : ChId) (f : Cal → Cal) : (s.modCal n f).lnk = s.lnk := rfl
@[simp] theorem State.modCal_hsp (s : State) (n : ChId) (f : Cal → Cal) : (s.modCal n f).hsp = s.hsp := rfl
@[simp] theorem State.modCal_tap (s : State) (n : ChId) (f : Cal → Cal) : (s.modCal n f).tap = s.tap := rfl
@[simp] theorem State.modCal_eth (s : State) (n : ChId) (f : Cal → Cal) : (s.modCal n f).eth = s.eth := rfl
@[simp] theorem State.modCal_can (s : State) (n : ChId) (f : Cal → Cal) : (s.modCal n f).can = s.can := rfl
@[simp] theorem State.modCal_tq (s : State) (n : ChId) (f : Cal → Cal) : (s.modCal n f).tq = s.tq := rfl
@[simp] theorem State.modCal_time (s : State) (n : ChId) (f : Cal → Cal) : (s.modCal n f).time = s.time := rfl
@[simp] theorem State.modCal_mgmt (s : State) (n : ChId) (f : Cal → Cal) : (s.modCal n f).mgmt = s.mgmt := rfl
@[simp] theorem State.modCal_sched (s : State) (n : ChId) (f : Cal → Cal) : (s.modCal n f).sched = s.sched := rfl
@[simp] theorem State.modCal_log (s : State) (n : ChId) (f : Cal → Cal) : (s.modCal n f).log = s.log := rfl
@[simp] theorem State.modCal_upd (s : State) (n : ChId) (f : Cal → Cal) : (s.modCal n f).upd = s.upd := rfl
@[simp] theorem State.modCal_sec (s : State) (n : ChId) (f : Cal → Cal) : (s.modCal n f).sec = s.sec := rfl
@[simp] theorem State.modCal_sup (s : State) (n : ChId) (f : Cal → Cal) : (s.modCal n f).sup = s.sup := rfl
@[simp] theorem State.modCal_reg (s : State) (n : ChId) (f : Cal → Cal) (k : Key) : (s.modCal n f).reg k = s.reg k := rfl

/-! `modExc` changes `exc` only. -/

@[simp] theorem State.modExc_pending (s : State) (e : ExcId) (f : Exc → Exc) : (s.modExc e f).pending = s.pending := rfl
@[simp] theorem State.modExc_now (s : State) (e : ExcId) (f : Exc → Exc) : (s.modExc e f).now = s.now := rfl
@[simp] theorem State.modExc_fresh (s : State) (e : ExcId) (f : Exc → Exc) : (s.modExc e f).fresh = s.fresh := rfl
@[simp] theorem State.modExc_frames (s : State) (e : ExcId) (f : Exc → Exc) : (s.modExc e f).frames = s.frames := rfl
@[simp] theorem State.modExc_regs (s : State) (e : ExcId) (f : Exc → Exc) : (s.modExc e f).regs = s.regs := rfl
@[simp] theorem State.modExc_ch (s : State) (e : ExcId) (f : Exc → Exc) : (s.modExc e f).ch = s.ch := rfl
@[simp] theorem State.modExc_watch (s : State) (e : ExcId) (f : Exc → Exc) : (s.modExc e f).watch = s.watch := rfl
@[simp] theorem State.modExc_front (s : State) (e : ExcId) (f : Exc → Exc) : (s.modExc e f).front = s.front := rfl
@[simp] theorem State.modExc_cal (s : State) (e : ExcId) (f : Exc → Exc) : (s.modExc e f).cal = s.cal := rfl
@[simp] theorem State.modExc_sets (s : State) (e : ExcId) (f : Exc → Exc) : (s.modExc e f).sets = s.sets := rfl
@[simp] theorem State.modExc_bead (s : State) (e : ExcId) (f : Exc → Exc) : (s.modExc e f).bead = s.bead := rfl
@[simp] theorem State.modExc_cap (s : State) (e : ExcId) (f : Exc → Exc) : (s.modExc e f).cap = s.cap := rfl
@[simp] theorem State.modExc_kelvin (s : State) (e : ExcId) (f : Exc → Exc) : (s.modExc e f).kelvin = s.kelvin := rfl
@[simp] theorem State.modExc_glv (s : State) (e : ExcId) (f : Exc → Exc) : (s.modExc e f).glv = s.glv := rfl
@[simp] theorem State.modExc_emu (s : State) (e : ExcId) (f : Exc → Exc) : (s.modExc e f).emu = s.emu := rfl
@[simp] theorem State.modExc_psw (s : State) (e : ExcId) (f : Exc → Exc) : (s.modExc e f).psw = s.psw := rfl
@[simp] theorem State.modExc_snap (s : State) (e : ExcId) (f : Exc → Exc) : (s.modExc e f).snap = s.snap := rfl
@[simp] theorem State.modExc_pf (s : State) (e : ExcId) (f : Exc → Exc) : (s.modExc e f).pf = s.pf := rfl
@[simp] theorem State.modExc_tal (s : State) (e : ExcId) (f : Exc → Exc) : (s.modExc e f).tal = s.tal := rfl
@[simp] theorem State.modExc_fc (s : State) (e : ExcId) (f : Exc → Exc) : (s.modExc e f).fc = s.fc := rfl
@[simp] theorem State.modExc_floor (s : State) (e : ExcId) (f : Exc → Exc) : (s.modExc e f).floor = s.floor := rfl
@[simp] theorem State.modExc_dev (s : State) (e : ExcId) (f : Exc → Exc) : (s.modExc e f).dev = s.dev := rfl
@[simp] theorem State.modExc_port (s : State) (e : ExcId) (f : Exc → Exc) : (s.modExc e f).port = s.port := rfl
@[simp] theorem State.modExc_grp (s : State) (e : ExcId) (f : Exc → Exc) : (s.modExc e f).grp = s.grp := rfl
@[simp] theorem State.modExc_store (s : State) (e : ExcId) (f : Exc → Exc) : (s.modExc e f).store = s.store := rfl
@[simp] theorem State.modExc_red (s : State) (e : ExcId) (f : Exc → Exc) : (s.modExc e f).red = s.red := rfl
@[simp] theorem State.modExc_pt (s : State) (e : ExcId) (f : Exc → Exc) : (s.modExc e f).pt = s.pt := rfl
@[simp] theorem State.modExc_vote (s : State) (e : ExcId) (f : Exc → Exc) : (s.modExc e f).vote = s.vote := rfl
@[simp] theorem State.modExc_lnk (s : State) (e : ExcId) (f : Exc → Exc) : (s.modExc e f).lnk = s.lnk := rfl
@[simp] theorem State.modExc_hsp (s : State) (e : ExcId) (f : Exc → Exc) : (s.modExc e f).hsp = s.hsp := rfl
@[simp] theorem State.modExc_tap (s : State) (e : ExcId) (f : Exc → Exc) : (s.modExc e f).tap = s.tap := rfl
@[simp] theorem State.modExc_eth (s : State) (e : ExcId) (f : Exc → Exc) : (s.modExc e f).eth = s.eth := rfl
@[simp] theorem State.modExc_can (s : State) (e : ExcId) (f : Exc → Exc) : (s.modExc e f).can = s.can := rfl
@[simp] theorem State.modExc_tq (s : State) (e : ExcId) (f : Exc → Exc) : (s.modExc e f).tq = s.tq := rfl
@[simp] theorem State.modExc_time (s : State) (e : ExcId) (f : Exc → Exc) : (s.modExc e f).time = s.time := rfl
@[simp] theorem State.modExc_mgmt (s : State) (e : ExcId) (f : Exc → Exc) : (s.modExc e f).mgmt = s.mgmt := rfl
@[simp] theorem State.modExc_sched (s : State) (e : ExcId) (f : Exc → Exc) : (s.modExc e f).sched = s.sched := rfl
@[simp] theorem State.modExc_log (s : State) (e : ExcId) (f : Exc → Exc) : (s.modExc e f).log = s.log := rfl
@[simp] theorem State.modExc_upd (s : State) (e : ExcId) (f : Exc → Exc) : (s.modExc e f).upd = s.upd := rfl
@[simp] theorem State.modExc_sec (s : State) (e : ExcId) (f : Exc → Exc) : (s.modExc e f).sec = s.sec := rfl
@[simp] theorem State.modExc_sup (s : State) (e : ExcId) (f : Exc → Exc) : (s.modExc e f).sup = s.sup := rfl
@[simp] theorem State.modExc_reg (s : State) (e : ExcId) (f : Exc → Exc) (k : Key) : (s.modExc e f).reg k = s.reg k := rfl

/-! `modKelvin` changes `kelvin` only. -/

@[simp] theorem State.modKelvin_pending (s : State) (e : ExcId) (f : Kelvin → Kelvin) : (s.modKelvin e f).pending = s.pending := rfl
@[simp] theorem State.modKelvin_now (s : State) (e : ExcId) (f : Kelvin → Kelvin) : (s.modKelvin e f).now = s.now := rfl
@[simp] theorem State.modKelvin_fresh (s : State) (e : ExcId) (f : Kelvin → Kelvin) : (s.modKelvin e f).fresh = s.fresh := rfl
@[simp] theorem State.modKelvin_frames (s : State) (e : ExcId) (f : Kelvin → Kelvin) : (s.modKelvin e f).frames = s.frames := rfl
@[simp] theorem State.modKelvin_regs (s : State) (e : ExcId) (f : Kelvin → Kelvin) : (s.modKelvin e f).regs = s.regs := rfl
@[simp] theorem State.modKelvin_ch (s : State) (e : ExcId) (f : Kelvin → Kelvin) : (s.modKelvin e f).ch = s.ch := rfl
@[simp] theorem State.modKelvin_watch (s : State) (e : ExcId) (f : Kelvin → Kelvin) : (s.modKelvin e f).watch = s.watch := rfl
@[simp] theorem State.modKelvin_front (s : State) (e : ExcId) (f : Kelvin → Kelvin) : (s.modKelvin e f).front = s.front := rfl
@[simp] theorem State.modKelvin_cal (s : State) (e : ExcId) (f : Kelvin → Kelvin) : (s.modKelvin e f).cal = s.cal := rfl
@[simp] theorem State.modKelvin_sets (s : State) (e : ExcId) (f : Kelvin → Kelvin) : (s.modKelvin e f).sets = s.sets := rfl
@[simp] theorem State.modKelvin_bead (s : State) (e : ExcId) (f : Kelvin → Kelvin) : (s.modKelvin e f).bead = s.bead := rfl
@[simp] theorem State.modKelvin_cap (s : State) (e : ExcId) (f : Kelvin → Kelvin) : (s.modKelvin e f).cap = s.cap := rfl
@[simp] theorem State.modKelvin_exc (s : State) (e : ExcId) (f : Kelvin → Kelvin) : (s.modKelvin e f).exc = s.exc := rfl
@[simp] theorem State.modKelvin_glv (s : State) (e : ExcId) (f : Kelvin → Kelvin) : (s.modKelvin e f).glv = s.glv := rfl
@[simp] theorem State.modKelvin_emu (s : State) (e : ExcId) (f : Kelvin → Kelvin) : (s.modKelvin e f).emu = s.emu := rfl
@[simp] theorem State.modKelvin_psw (s : State) (e : ExcId) (f : Kelvin → Kelvin) : (s.modKelvin e f).psw = s.psw := rfl
@[simp] theorem State.modKelvin_snap (s : State) (e : ExcId) (f : Kelvin → Kelvin) : (s.modKelvin e f).snap = s.snap := rfl
@[simp] theorem State.modKelvin_pf (s : State) (e : ExcId) (f : Kelvin → Kelvin) : (s.modKelvin e f).pf = s.pf := rfl
@[simp] theorem State.modKelvin_tal (s : State) (e : ExcId) (f : Kelvin → Kelvin) : (s.modKelvin e f).tal = s.tal := rfl
@[simp] theorem State.modKelvin_fc (s : State) (e : ExcId) (f : Kelvin → Kelvin) : (s.modKelvin e f).fc = s.fc := rfl
@[simp] theorem State.modKelvin_floor (s : State) (e : ExcId) (f : Kelvin → Kelvin) : (s.modKelvin e f).floor = s.floor := rfl
@[simp] theorem State.modKelvin_dev (s : State) (e : ExcId) (f : Kelvin → Kelvin) : (s.modKelvin e f).dev = s.dev := rfl
@[simp] theorem State.modKelvin_port (s : State) (e : ExcId) (f : Kelvin → Kelvin) : (s.modKelvin e f).port = s.port := rfl
@[simp] theorem State.modKelvin_grp (s : State) (e : ExcId) (f : Kelvin → Kelvin) : (s.modKelvin e f).grp = s.grp := rfl
@[simp] theorem State.modKelvin_store (s : State) (e : ExcId) (f : Kelvin → Kelvin) : (s.modKelvin e f).store = s.store := rfl
@[simp] theorem State.modKelvin_red (s : State) (e : ExcId) (f : Kelvin → Kelvin) : (s.modKelvin e f).red = s.red := rfl
@[simp] theorem State.modKelvin_pt (s : State) (e : ExcId) (f : Kelvin → Kelvin) : (s.modKelvin e f).pt = s.pt := rfl
@[simp] theorem State.modKelvin_vote (s : State) (e : ExcId) (f : Kelvin → Kelvin) : (s.modKelvin e f).vote = s.vote := rfl
@[simp] theorem State.modKelvin_lnk (s : State) (e : ExcId) (f : Kelvin → Kelvin) : (s.modKelvin e f).lnk = s.lnk := rfl
@[simp] theorem State.modKelvin_hsp (s : State) (e : ExcId) (f : Kelvin → Kelvin) : (s.modKelvin e f).hsp = s.hsp := rfl
@[simp] theorem State.modKelvin_tap (s : State) (e : ExcId) (f : Kelvin → Kelvin) : (s.modKelvin e f).tap = s.tap := rfl
@[simp] theorem State.modKelvin_eth (s : State) (e : ExcId) (f : Kelvin → Kelvin) : (s.modKelvin e f).eth = s.eth := rfl
@[simp] theorem State.modKelvin_can (s : State) (e : ExcId) (f : Kelvin → Kelvin) : (s.modKelvin e f).can = s.can := rfl
@[simp] theorem State.modKelvin_tq (s : State) (e : ExcId) (f : Kelvin → Kelvin) : (s.modKelvin e f).tq = s.tq := rfl
@[simp] theorem State.modKelvin_time (s : State) (e : ExcId) (f : Kelvin → Kelvin) : (s.modKelvin e f).time = s.time := rfl
@[simp] theorem State.modKelvin_mgmt (s : State) (e : ExcId) (f : Kelvin → Kelvin) : (s.modKelvin e f).mgmt = s.mgmt := rfl
@[simp] theorem State.modKelvin_sched (s : State) (e : ExcId) (f : Kelvin → Kelvin) : (s.modKelvin e f).sched = s.sched := rfl
@[simp] theorem State.modKelvin_log (s : State) (e : ExcId) (f : Kelvin → Kelvin) : (s.modKelvin e f).log = s.log := rfl
@[simp] theorem State.modKelvin_upd (s : State) (e : ExcId) (f : Kelvin → Kelvin) : (s.modKelvin e f).upd = s.upd := rfl
@[simp] theorem State.modKelvin_sec (s : State) (e : ExcId) (f : Kelvin → Kelvin) : (s.modKelvin e f).sec = s.sec := rfl
@[simp] theorem State.modKelvin_sup (s : State) (e : ExcId) (f : Kelvin → Kelvin) : (s.modKelvin e f).sup = s.sup := rfl
@[simp] theorem State.modKelvin_reg (s : State) (e : ExcId) (f : Kelvin → Kelvin) (k : Key) : (s.modKelvin e f).reg k = s.reg k := rfl

/-! `modGlv` changes `glv` only. -/

@[simp] theorem State.modGlv_pending (s : State) (g : Fin 8) (f : Glv → Glv) : (s.modGlv g f).pending = s.pending := rfl
@[simp] theorem State.modGlv_now (s : State) (g : Fin 8) (f : Glv → Glv) : (s.modGlv g f).now = s.now := rfl
@[simp] theorem State.modGlv_fresh (s : State) (g : Fin 8) (f : Glv → Glv) : (s.modGlv g f).fresh = s.fresh := rfl
@[simp] theorem State.modGlv_frames (s : State) (g : Fin 8) (f : Glv → Glv) : (s.modGlv g f).frames = s.frames := rfl
@[simp] theorem State.modGlv_regs (s : State) (g : Fin 8) (f : Glv → Glv) : (s.modGlv g f).regs = s.regs := rfl
@[simp] theorem State.modGlv_ch (s : State) (g : Fin 8) (f : Glv → Glv) : (s.modGlv g f).ch = s.ch := rfl
@[simp] theorem State.modGlv_watch (s : State) (g : Fin 8) (f : Glv → Glv) : (s.modGlv g f).watch = s.watch := rfl
@[simp] theorem State.modGlv_front (s : State) (g : Fin 8) (f : Glv → Glv) : (s.modGlv g f).front = s.front := rfl
@[simp] theorem State.modGlv_cal (s : State) (g : Fin 8) (f : Glv → Glv) : (s.modGlv g f).cal = s.cal := rfl
@[simp] theorem State.modGlv_sets (s : State) (g : Fin 8) (f : Glv → Glv) : (s.modGlv g f).sets = s.sets := rfl
@[simp] theorem State.modGlv_bead (s : State) (g : Fin 8) (f : Glv → Glv) : (s.modGlv g f).bead = s.bead := rfl
@[simp] theorem State.modGlv_cap (s : State) (g : Fin 8) (f : Glv → Glv) : (s.modGlv g f).cap = s.cap := rfl
@[simp] theorem State.modGlv_exc (s : State) (g : Fin 8) (f : Glv → Glv) : (s.modGlv g f).exc = s.exc := rfl
@[simp] theorem State.modGlv_kelvin (s : State) (g : Fin 8) (f : Glv → Glv) : (s.modGlv g f).kelvin = s.kelvin := rfl
@[simp] theorem State.modGlv_emu (s : State) (g : Fin 8) (f : Glv → Glv) : (s.modGlv g f).emu = s.emu := rfl
@[simp] theorem State.modGlv_psw (s : State) (g : Fin 8) (f : Glv → Glv) : (s.modGlv g f).psw = s.psw := rfl
@[simp] theorem State.modGlv_snap (s : State) (g : Fin 8) (f : Glv → Glv) : (s.modGlv g f).snap = s.snap := rfl
@[simp] theorem State.modGlv_pf (s : State) (g : Fin 8) (f : Glv → Glv) : (s.modGlv g f).pf = s.pf := rfl
@[simp] theorem State.modGlv_tal (s : State) (g : Fin 8) (f : Glv → Glv) : (s.modGlv g f).tal = s.tal := rfl
@[simp] theorem State.modGlv_fc (s : State) (g : Fin 8) (f : Glv → Glv) : (s.modGlv g f).fc = s.fc := rfl
@[simp] theorem State.modGlv_floor (s : State) (g : Fin 8) (f : Glv → Glv) : (s.modGlv g f).floor = s.floor := rfl
@[simp] theorem State.modGlv_dev (s : State) (g : Fin 8) (f : Glv → Glv) : (s.modGlv g f).dev = s.dev := rfl
@[simp] theorem State.modGlv_port (s : State) (g : Fin 8) (f : Glv → Glv) : (s.modGlv g f).port = s.port := rfl
@[simp] theorem State.modGlv_grp (s : State) (g : Fin 8) (f : Glv → Glv) : (s.modGlv g f).grp = s.grp := rfl
@[simp] theorem State.modGlv_store (s : State) (g : Fin 8) (f : Glv → Glv) : (s.modGlv g f).store = s.store := rfl
@[simp] theorem State.modGlv_red (s : State) (g : Fin 8) (f : Glv → Glv) : (s.modGlv g f).red = s.red := rfl
@[simp] theorem State.modGlv_pt (s : State) (g : Fin 8) (f : Glv → Glv) : (s.modGlv g f).pt = s.pt := rfl
@[simp] theorem State.modGlv_vote (s : State) (g : Fin 8) (f : Glv → Glv) : (s.modGlv g f).vote = s.vote := rfl
@[simp] theorem State.modGlv_lnk (s : State) (g : Fin 8) (f : Glv → Glv) : (s.modGlv g f).lnk = s.lnk := rfl
@[simp] theorem State.modGlv_hsp (s : State) (g : Fin 8) (f : Glv → Glv) : (s.modGlv g f).hsp = s.hsp := rfl
@[simp] theorem State.modGlv_tap (s : State) (g : Fin 8) (f : Glv → Glv) : (s.modGlv g f).tap = s.tap := rfl
@[simp] theorem State.modGlv_eth (s : State) (g : Fin 8) (f : Glv → Glv) : (s.modGlv g f).eth = s.eth := rfl
@[simp] theorem State.modGlv_can (s : State) (g : Fin 8) (f : Glv → Glv) : (s.modGlv g f).can = s.can := rfl
@[simp] theorem State.modGlv_tq (s : State) (g : Fin 8) (f : Glv → Glv) : (s.modGlv g f).tq = s.tq := rfl
@[simp] theorem State.modGlv_time (s : State) (g : Fin 8) (f : Glv → Glv) : (s.modGlv g f).time = s.time := rfl
@[simp] theorem State.modGlv_mgmt (s : State) (g : Fin 8) (f : Glv → Glv) : (s.modGlv g f).mgmt = s.mgmt := rfl
@[simp] theorem State.modGlv_sched (s : State) (g : Fin 8) (f : Glv → Glv) : (s.modGlv g f).sched = s.sched := rfl
@[simp] theorem State.modGlv_log (s : State) (g : Fin 8) (f : Glv → Glv) : (s.modGlv g f).log = s.log := rfl
@[simp] theorem State.modGlv_upd (s : State) (g : Fin 8) (f : Glv → Glv) : (s.modGlv g f).upd = s.upd := rfl
@[simp] theorem State.modGlv_sec (s : State) (g : Fin 8) (f : Glv → Glv) : (s.modGlv g f).sec = s.sec := rfl
@[simp] theorem State.modGlv_sup (s : State) (g : Fin 8) (f : Glv → Glv) : (s.modGlv g f).sup = s.sup := rfl
@[simp] theorem State.modGlv_reg (s : State) (g : Fin 8) (f : Glv → Glv) (k : Key) : (s.modGlv g f).reg k = s.reg k := rfl

/-! `modEmu` changes `emu` only. -/

@[simp] theorem State.modEmu_pending (s : State) (n : Fin 16) (f : Emu → Emu) : (s.modEmu n f).pending = s.pending := rfl
@[simp] theorem State.modEmu_now (s : State) (n : Fin 16) (f : Emu → Emu) : (s.modEmu n f).now = s.now := rfl
@[simp] theorem State.modEmu_fresh (s : State) (n : Fin 16) (f : Emu → Emu) : (s.modEmu n f).fresh = s.fresh := rfl
@[simp] theorem State.modEmu_frames (s : State) (n : Fin 16) (f : Emu → Emu) : (s.modEmu n f).frames = s.frames := rfl
@[simp] theorem State.modEmu_regs (s : State) (n : Fin 16) (f : Emu → Emu) : (s.modEmu n f).regs = s.regs := rfl
@[simp] theorem State.modEmu_ch (s : State) (n : Fin 16) (f : Emu → Emu) : (s.modEmu n f).ch = s.ch := rfl
@[simp] theorem State.modEmu_watch (s : State) (n : Fin 16) (f : Emu → Emu) : (s.modEmu n f).watch = s.watch := rfl
@[simp] theorem State.modEmu_front (s : State) (n : Fin 16) (f : Emu → Emu) : (s.modEmu n f).front = s.front := rfl
@[simp] theorem State.modEmu_cal (s : State) (n : Fin 16) (f : Emu → Emu) : (s.modEmu n f).cal = s.cal := rfl
@[simp] theorem State.modEmu_sets (s : State) (n : Fin 16) (f : Emu → Emu) : (s.modEmu n f).sets = s.sets := rfl
@[simp] theorem State.modEmu_bead (s : State) (n : Fin 16) (f : Emu → Emu) : (s.modEmu n f).bead = s.bead := rfl
@[simp] theorem State.modEmu_cap (s : State) (n : Fin 16) (f : Emu → Emu) : (s.modEmu n f).cap = s.cap := rfl
@[simp] theorem State.modEmu_exc (s : State) (n : Fin 16) (f : Emu → Emu) : (s.modEmu n f).exc = s.exc := rfl
@[simp] theorem State.modEmu_kelvin (s : State) (n : Fin 16) (f : Emu → Emu) : (s.modEmu n f).kelvin = s.kelvin := rfl
@[simp] theorem State.modEmu_glv (s : State) (n : Fin 16) (f : Emu → Emu) : (s.modEmu n f).glv = s.glv := rfl
@[simp] theorem State.modEmu_psw (s : State) (n : Fin 16) (f : Emu → Emu) : (s.modEmu n f).psw = s.psw := rfl
@[simp] theorem State.modEmu_snap (s : State) (n : Fin 16) (f : Emu → Emu) : (s.modEmu n f).snap = s.snap := rfl
@[simp] theorem State.modEmu_pf (s : State) (n : Fin 16) (f : Emu → Emu) : (s.modEmu n f).pf = s.pf := rfl
@[simp] theorem State.modEmu_tal (s : State) (n : Fin 16) (f : Emu → Emu) : (s.modEmu n f).tal = s.tal := rfl
@[simp] theorem State.modEmu_fc (s : State) (n : Fin 16) (f : Emu → Emu) : (s.modEmu n f).fc = s.fc := rfl
@[simp] theorem State.modEmu_floor (s : State) (n : Fin 16) (f : Emu → Emu) : (s.modEmu n f).floor = s.floor := rfl
@[simp] theorem State.modEmu_dev (s : State) (n : Fin 16) (f : Emu → Emu) : (s.modEmu n f).dev = s.dev := rfl
@[simp] theorem State.modEmu_port (s : State) (n : Fin 16) (f : Emu → Emu) : (s.modEmu n f).port = s.port := rfl
@[simp] theorem State.modEmu_grp (s : State) (n : Fin 16) (f : Emu → Emu) : (s.modEmu n f).grp = s.grp := rfl
@[simp] theorem State.modEmu_store (s : State) (n : Fin 16) (f : Emu → Emu) : (s.modEmu n f).store = s.store := rfl
@[simp] theorem State.modEmu_red (s : State) (n : Fin 16) (f : Emu → Emu) : (s.modEmu n f).red = s.red := rfl
@[simp] theorem State.modEmu_pt (s : State) (n : Fin 16) (f : Emu → Emu) : (s.modEmu n f).pt = s.pt := rfl
@[simp] theorem State.modEmu_vote (s : State) (n : Fin 16) (f : Emu → Emu) : (s.modEmu n f).vote = s.vote := rfl
@[simp] theorem State.modEmu_lnk (s : State) (n : Fin 16) (f : Emu → Emu) : (s.modEmu n f).lnk = s.lnk := rfl
@[simp] theorem State.modEmu_hsp (s : State) (n : Fin 16) (f : Emu → Emu) : (s.modEmu n f).hsp = s.hsp := rfl
@[simp] theorem State.modEmu_tap (s : State) (n : Fin 16) (f : Emu → Emu) : (s.modEmu n f).tap = s.tap := rfl
@[simp] theorem State.modEmu_eth (s : State) (n : Fin 16) (f : Emu → Emu) : (s.modEmu n f).eth = s.eth := rfl
@[simp] theorem State.modEmu_can (s : State) (n : Fin 16) (f : Emu → Emu) : (s.modEmu n f).can = s.can := rfl
@[simp] theorem State.modEmu_tq (s : State) (n : Fin 16) (f : Emu → Emu) : (s.modEmu n f).tq = s.tq := rfl
@[simp] theorem State.modEmu_time (s : State) (n : Fin 16) (f : Emu → Emu) : (s.modEmu n f).time = s.time := rfl
@[simp] theorem State.modEmu_mgmt (s : State) (n : Fin 16) (f : Emu → Emu) : (s.modEmu n f).mgmt = s.mgmt := rfl
@[simp] theorem State.modEmu_sched (s : State) (n : Fin 16) (f : Emu → Emu) : (s.modEmu n f).sched = s.sched := rfl
@[simp] theorem State.modEmu_log (s : State) (n : Fin 16) (f : Emu → Emu) : (s.modEmu n f).log = s.log := rfl
@[simp] theorem State.modEmu_upd (s : State) (n : Fin 16) (f : Emu → Emu) : (s.modEmu n f).upd = s.upd := rfl
@[simp] theorem State.modEmu_sec (s : State) (n : Fin 16) (f : Emu → Emu) : (s.modEmu n f).sec = s.sec := rfl
@[simp] theorem State.modEmu_sup (s : State) (n : Fin 16) (f : Emu → Emu) : (s.modEmu n f).sup = s.sup := rfl
@[simp] theorem State.modEmu_reg (s : State) (n : Fin 16) (f : Emu → Emu) (k : Key) : (s.modEmu n f).reg k = s.reg k := rfl

/-! `modPsw` changes `psw` only. -/

@[simp] theorem State.modPsw_pending (s : State) (n : Fin 16) (f : Psw → Psw) : (s.modPsw n f).pending = s.pending := rfl
@[simp] theorem State.modPsw_now (s : State) (n : Fin 16) (f : Psw → Psw) : (s.modPsw n f).now = s.now := rfl
@[simp] theorem State.modPsw_fresh (s : State) (n : Fin 16) (f : Psw → Psw) : (s.modPsw n f).fresh = s.fresh := rfl
@[simp] theorem State.modPsw_frames (s : State) (n : Fin 16) (f : Psw → Psw) : (s.modPsw n f).frames = s.frames := rfl
@[simp] theorem State.modPsw_regs (s : State) (n : Fin 16) (f : Psw → Psw) : (s.modPsw n f).regs = s.regs := rfl
@[simp] theorem State.modPsw_ch (s : State) (n : Fin 16) (f : Psw → Psw) : (s.modPsw n f).ch = s.ch := rfl
@[simp] theorem State.modPsw_watch (s : State) (n : Fin 16) (f : Psw → Psw) : (s.modPsw n f).watch = s.watch := rfl
@[simp] theorem State.modPsw_front (s : State) (n : Fin 16) (f : Psw → Psw) : (s.modPsw n f).front = s.front := rfl
@[simp] theorem State.modPsw_cal (s : State) (n : Fin 16) (f : Psw → Psw) : (s.modPsw n f).cal = s.cal := rfl
@[simp] theorem State.modPsw_sets (s : State) (n : Fin 16) (f : Psw → Psw) : (s.modPsw n f).sets = s.sets := rfl
@[simp] theorem State.modPsw_bead (s : State) (n : Fin 16) (f : Psw → Psw) : (s.modPsw n f).bead = s.bead := rfl
@[simp] theorem State.modPsw_cap (s : State) (n : Fin 16) (f : Psw → Psw) : (s.modPsw n f).cap = s.cap := rfl
@[simp] theorem State.modPsw_exc (s : State) (n : Fin 16) (f : Psw → Psw) : (s.modPsw n f).exc = s.exc := rfl
@[simp] theorem State.modPsw_kelvin (s : State) (n : Fin 16) (f : Psw → Psw) : (s.modPsw n f).kelvin = s.kelvin := rfl
@[simp] theorem State.modPsw_glv (s : State) (n : Fin 16) (f : Psw → Psw) : (s.modPsw n f).glv = s.glv := rfl
@[simp] theorem State.modPsw_emu (s : State) (n : Fin 16) (f : Psw → Psw) : (s.modPsw n f).emu = s.emu := rfl
@[simp] theorem State.modPsw_snap (s : State) (n : Fin 16) (f : Psw → Psw) : (s.modPsw n f).snap = s.snap := rfl
@[simp] theorem State.modPsw_pf (s : State) (n : Fin 16) (f : Psw → Psw) : (s.modPsw n f).pf = s.pf := rfl
@[simp] theorem State.modPsw_tal (s : State) (n : Fin 16) (f : Psw → Psw) : (s.modPsw n f).tal = s.tal := rfl
@[simp] theorem State.modPsw_fc (s : State) (n : Fin 16) (f : Psw → Psw) : (s.modPsw n f).fc = s.fc := rfl
@[simp] theorem State.modPsw_floor (s : State) (n : Fin 16) (f : Psw → Psw) : (s.modPsw n f).floor = s.floor := rfl
@[simp] theorem State.modPsw_dev (s : State) (n : Fin 16) (f : Psw → Psw) : (s.modPsw n f).dev = s.dev := rfl
@[simp] theorem State.modPsw_port (s : State) (n : Fin 16) (f : Psw → Psw) : (s.modPsw n f).port = s.port := rfl
@[simp] theorem State.modPsw_grp (s : State) (n : Fin 16) (f : Psw → Psw) : (s.modPsw n f).grp = s.grp := rfl
@[simp] theorem State.modPsw_store (s : State) (n : Fin 16) (f : Psw → Psw) : (s.modPsw n f).store = s.store := rfl
@[simp] theorem State.modPsw_red (s : State) (n : Fin 16) (f : Psw → Psw) : (s.modPsw n f).red = s.red := rfl
@[simp] theorem State.modPsw_pt (s : State) (n : Fin 16) (f : Psw → Psw) : (s.modPsw n f).pt = s.pt := rfl
@[simp] theorem State.modPsw_vote (s : State) (n : Fin 16) (f : Psw → Psw) : (s.modPsw n f).vote = s.vote := rfl
@[simp] theorem State.modPsw_lnk (s : State) (n : Fin 16) (f : Psw → Psw) : (s.modPsw n f).lnk = s.lnk := rfl
@[simp] theorem State.modPsw_hsp (s : State) (n : Fin 16) (f : Psw → Psw) : (s.modPsw n f).hsp = s.hsp := rfl
@[simp] theorem State.modPsw_tap (s : State) (n : Fin 16) (f : Psw → Psw) : (s.modPsw n f).tap = s.tap := rfl
@[simp] theorem State.modPsw_eth (s : State) (n : Fin 16) (f : Psw → Psw) : (s.modPsw n f).eth = s.eth := rfl
@[simp] theorem State.modPsw_can (s : State) (n : Fin 16) (f : Psw → Psw) : (s.modPsw n f).can = s.can := rfl
@[simp] theorem State.modPsw_tq (s : State) (n : Fin 16) (f : Psw → Psw) : (s.modPsw n f).tq = s.tq := rfl
@[simp] theorem State.modPsw_time (s : State) (n : Fin 16) (f : Psw → Psw) : (s.modPsw n f).time = s.time := rfl
@[simp] theorem State.modPsw_mgmt (s : State) (n : Fin 16) (f : Psw → Psw) : (s.modPsw n f).mgmt = s.mgmt := rfl
@[simp] theorem State.modPsw_sched (s : State) (n : Fin 16) (f : Psw → Psw) : (s.modPsw n f).sched = s.sched := rfl
@[simp] theorem State.modPsw_log (s : State) (n : Fin 16) (f : Psw → Psw) : (s.modPsw n f).log = s.log := rfl
@[simp] theorem State.modPsw_upd (s : State) (n : Fin 16) (f : Psw → Psw) : (s.modPsw n f).upd = s.upd := rfl
@[simp] theorem State.modPsw_sec (s : State) (n : Fin 16) (f : Psw → Psw) : (s.modPsw n f).sec = s.sec := rfl
@[simp] theorem State.modPsw_sup (s : State) (n : Fin 16) (f : Psw → Psw) : (s.modPsw n f).sup = s.sup := rfl
@[simp] theorem State.modPsw_reg (s : State) (n : Fin 16) (f : Psw → Psw) (k : Key) : (s.modPsw n f).reg k = s.reg k := rfl

/-! `modSnap` changes `snap` only. -/

@[simp] theorem State.modSnap_pending (s : State) (n : Fin 3) (f : Snap → Snap) : (s.modSnap n f).pending = s.pending := rfl
@[simp] theorem State.modSnap_now (s : State) (n : Fin 3) (f : Snap → Snap) : (s.modSnap n f).now = s.now := rfl
@[simp] theorem State.modSnap_fresh (s : State) (n : Fin 3) (f : Snap → Snap) : (s.modSnap n f).fresh = s.fresh := rfl
@[simp] theorem State.modSnap_frames (s : State) (n : Fin 3) (f : Snap → Snap) : (s.modSnap n f).frames = s.frames := rfl
@[simp] theorem State.modSnap_regs (s : State) (n : Fin 3) (f : Snap → Snap) : (s.modSnap n f).regs = s.regs := rfl
@[simp] theorem State.modSnap_ch (s : State) (n : Fin 3) (f : Snap → Snap) : (s.modSnap n f).ch = s.ch := rfl
@[simp] theorem State.modSnap_watch (s : State) (n : Fin 3) (f : Snap → Snap) : (s.modSnap n f).watch = s.watch := rfl
@[simp] theorem State.modSnap_front (s : State) (n : Fin 3) (f : Snap → Snap) : (s.modSnap n f).front = s.front := rfl
@[simp] theorem State.modSnap_cal (s : State) (n : Fin 3) (f : Snap → Snap) : (s.modSnap n f).cal = s.cal := rfl
@[simp] theorem State.modSnap_sets (s : State) (n : Fin 3) (f : Snap → Snap) : (s.modSnap n f).sets = s.sets := rfl
@[simp] theorem State.modSnap_bead (s : State) (n : Fin 3) (f : Snap → Snap) : (s.modSnap n f).bead = s.bead := rfl
@[simp] theorem State.modSnap_cap (s : State) (n : Fin 3) (f : Snap → Snap) : (s.modSnap n f).cap = s.cap := rfl
@[simp] theorem State.modSnap_exc (s : State) (n : Fin 3) (f : Snap → Snap) : (s.modSnap n f).exc = s.exc := rfl
@[simp] theorem State.modSnap_kelvin (s : State) (n : Fin 3) (f : Snap → Snap) : (s.modSnap n f).kelvin = s.kelvin := rfl
@[simp] theorem State.modSnap_glv (s : State) (n : Fin 3) (f : Snap → Snap) : (s.modSnap n f).glv = s.glv := rfl
@[simp] theorem State.modSnap_emu (s : State) (n : Fin 3) (f : Snap → Snap) : (s.modSnap n f).emu = s.emu := rfl
@[simp] theorem State.modSnap_psw (s : State) (n : Fin 3) (f : Snap → Snap) : (s.modSnap n f).psw = s.psw := rfl
@[simp] theorem State.modSnap_pf (s : State) (n : Fin 3) (f : Snap → Snap) : (s.modSnap n f).pf = s.pf := rfl
@[simp] theorem State.modSnap_tal (s : State) (n : Fin 3) (f : Snap → Snap) : (s.modSnap n f).tal = s.tal := rfl
@[simp] theorem State.modSnap_fc (s : State) (n : Fin 3) (f : Snap → Snap) : (s.modSnap n f).fc = s.fc := rfl
@[simp] theorem State.modSnap_floor (s : State) (n : Fin 3) (f : Snap → Snap) : (s.modSnap n f).floor = s.floor := rfl
@[simp] theorem State.modSnap_dev (s : State) (n : Fin 3) (f : Snap → Snap) : (s.modSnap n f).dev = s.dev := rfl
@[simp] theorem State.modSnap_port (s : State) (n : Fin 3) (f : Snap → Snap) : (s.modSnap n f).port = s.port := rfl
@[simp] theorem State.modSnap_grp (s : State) (n : Fin 3) (f : Snap → Snap) : (s.modSnap n f).grp = s.grp := rfl
@[simp] theorem State.modSnap_store (s : State) (n : Fin 3) (f : Snap → Snap) : (s.modSnap n f).store = s.store := rfl
@[simp] theorem State.modSnap_red (s : State) (n : Fin 3) (f : Snap → Snap) : (s.modSnap n f).red = s.red := rfl
@[simp] theorem State.modSnap_pt (s : State) (n : Fin 3) (f : Snap → Snap) : (s.modSnap n f).pt = s.pt := rfl
@[simp] theorem State.modSnap_vote (s : State) (n : Fin 3) (f : Snap → Snap) : (s.modSnap n f).vote = s.vote := rfl
@[simp] theorem State.modSnap_lnk (s : State) (n : Fin 3) (f : Snap → Snap) : (s.modSnap n f).lnk = s.lnk := rfl
@[simp] theorem State.modSnap_hsp (s : State) (n : Fin 3) (f : Snap → Snap) : (s.modSnap n f).hsp = s.hsp := rfl
@[simp] theorem State.modSnap_tap (s : State) (n : Fin 3) (f : Snap → Snap) : (s.modSnap n f).tap = s.tap := rfl
@[simp] theorem State.modSnap_eth (s : State) (n : Fin 3) (f : Snap → Snap) : (s.modSnap n f).eth = s.eth := rfl
@[simp] theorem State.modSnap_can (s : State) (n : Fin 3) (f : Snap → Snap) : (s.modSnap n f).can = s.can := rfl
@[simp] theorem State.modSnap_tq (s : State) (n : Fin 3) (f : Snap → Snap) : (s.modSnap n f).tq = s.tq := rfl
@[simp] theorem State.modSnap_time (s : State) (n : Fin 3) (f : Snap → Snap) : (s.modSnap n f).time = s.time := rfl
@[simp] theorem State.modSnap_mgmt (s : State) (n : Fin 3) (f : Snap → Snap) : (s.modSnap n f).mgmt = s.mgmt := rfl
@[simp] theorem State.modSnap_sched (s : State) (n : Fin 3) (f : Snap → Snap) : (s.modSnap n f).sched = s.sched := rfl
@[simp] theorem State.modSnap_log (s : State) (n : Fin 3) (f : Snap → Snap) : (s.modSnap n f).log = s.log := rfl
@[simp] theorem State.modSnap_upd (s : State) (n : Fin 3) (f : Snap → Snap) : (s.modSnap n f).upd = s.upd := rfl
@[simp] theorem State.modSnap_sec (s : State) (n : Fin 3) (f : Snap → Snap) : (s.modSnap n f).sec = s.sec := rfl
@[simp] theorem State.modSnap_sup (s : State) (n : Fin 3) (f : Snap → Snap) : (s.modSnap n f).sup = s.sup := rfl
@[simp] theorem State.modSnap_reg (s : State) (n : Fin 3) (f : Snap → Snap) (k : Key) : (s.modSnap n f).reg k = s.reg k := rfl

/-! `modPf` changes `pf` only. -/

@[simp] theorem State.modPf_pending (s : State) (n : Fin 8) (f : Stream → Stream) : (s.modPf n f).pending = s.pending := rfl
@[simp] theorem State.modPf_now (s : State) (n : Fin 8) (f : Stream → Stream) : (s.modPf n f).now = s.now := rfl
@[simp] theorem State.modPf_fresh (s : State) (n : Fin 8) (f : Stream → Stream) : (s.modPf n f).fresh = s.fresh := rfl
@[simp] theorem State.modPf_frames (s : State) (n : Fin 8) (f : Stream → Stream) : (s.modPf n f).frames = s.frames := rfl
@[simp] theorem State.modPf_regs (s : State) (n : Fin 8) (f : Stream → Stream) : (s.modPf n f).regs = s.regs := rfl
@[simp] theorem State.modPf_ch (s : State) (n : Fin 8) (f : Stream → Stream) : (s.modPf n f).ch = s.ch := rfl
@[simp] theorem State.modPf_watch (s : State) (n : Fin 8) (f : Stream → Stream) : (s.modPf n f).watch = s.watch := rfl
@[simp] theorem State.modPf_front (s : State) (n : Fin 8) (f : Stream → Stream) : (s.modPf n f).front = s.front := rfl
@[simp] theorem State.modPf_cal (s : State) (n : Fin 8) (f : Stream → Stream) : (s.modPf n f).cal = s.cal := rfl
@[simp] theorem State.modPf_sets (s : State) (n : Fin 8) (f : Stream → Stream) : (s.modPf n f).sets = s.sets := rfl
@[simp] theorem State.modPf_bead (s : State) (n : Fin 8) (f : Stream → Stream) : (s.modPf n f).bead = s.bead := rfl
@[simp] theorem State.modPf_cap (s : State) (n : Fin 8) (f : Stream → Stream) : (s.modPf n f).cap = s.cap := rfl
@[simp] theorem State.modPf_exc (s : State) (n : Fin 8) (f : Stream → Stream) : (s.modPf n f).exc = s.exc := rfl
@[simp] theorem State.modPf_kelvin (s : State) (n : Fin 8) (f : Stream → Stream) : (s.modPf n f).kelvin = s.kelvin := rfl
@[simp] theorem State.modPf_glv (s : State) (n : Fin 8) (f : Stream → Stream) : (s.modPf n f).glv = s.glv := rfl
@[simp] theorem State.modPf_emu (s : State) (n : Fin 8) (f : Stream → Stream) : (s.modPf n f).emu = s.emu := rfl
@[simp] theorem State.modPf_psw (s : State) (n : Fin 8) (f : Stream → Stream) : (s.modPf n f).psw = s.psw := rfl
@[simp] theorem State.modPf_snap (s : State) (n : Fin 8) (f : Stream → Stream) : (s.modPf n f).snap = s.snap := rfl
@[simp] theorem State.modPf_tal (s : State) (n : Fin 8) (f : Stream → Stream) : (s.modPf n f).tal = s.tal := rfl
@[simp] theorem State.modPf_fc (s : State) (n : Fin 8) (f : Stream → Stream) : (s.modPf n f).fc = s.fc := rfl
@[simp] theorem State.modPf_floor (s : State) (n : Fin 8) (f : Stream → Stream) : (s.modPf n f).floor = s.floor := rfl
@[simp] theorem State.modPf_dev (s : State) (n : Fin 8) (f : Stream → Stream) : (s.modPf n f).dev = s.dev := rfl
@[simp] theorem State.modPf_port (s : State) (n : Fin 8) (f : Stream → Stream) : (s.modPf n f).port = s.port := rfl
@[simp] theorem State.modPf_grp (s : State) (n : Fin 8) (f : Stream → Stream) : (s.modPf n f).grp = s.grp := rfl
@[simp] theorem State.modPf_store (s : State) (n : Fin 8) (f : Stream → Stream) : (s.modPf n f).store = s.store := rfl
@[simp] theorem State.modPf_red (s : State) (n : Fin 8) (f : Stream → Stream) : (s.modPf n f).red = s.red := rfl
@[simp] theorem State.modPf_pt (s : State) (n : Fin 8) (f : Stream → Stream) : (s.modPf n f).pt = s.pt := rfl
@[simp] theorem State.modPf_vote (s : State) (n : Fin 8) (f : Stream → Stream) : (s.modPf n f).vote = s.vote := rfl
@[simp] theorem State.modPf_lnk (s : State) (n : Fin 8) (f : Stream → Stream) : (s.modPf n f).lnk = s.lnk := rfl
@[simp] theorem State.modPf_hsp (s : State) (n : Fin 8) (f : Stream → Stream) : (s.modPf n f).hsp = s.hsp := rfl
@[simp] theorem State.modPf_tap (s : State) (n : Fin 8) (f : Stream → Stream) : (s.modPf n f).tap = s.tap := rfl
@[simp] theorem State.modPf_eth (s : State) (n : Fin 8) (f : Stream → Stream) : (s.modPf n f).eth = s.eth := rfl
@[simp] theorem State.modPf_can (s : State) (n : Fin 8) (f : Stream → Stream) : (s.modPf n f).can = s.can := rfl
@[simp] theorem State.modPf_tq (s : State) (n : Fin 8) (f : Stream → Stream) : (s.modPf n f).tq = s.tq := rfl
@[simp] theorem State.modPf_time (s : State) (n : Fin 8) (f : Stream → Stream) : (s.modPf n f).time = s.time := rfl
@[simp] theorem State.modPf_mgmt (s : State) (n : Fin 8) (f : Stream → Stream) : (s.modPf n f).mgmt = s.mgmt := rfl
@[simp] theorem State.modPf_sched (s : State) (n : Fin 8) (f : Stream → Stream) : (s.modPf n f).sched = s.sched := rfl
@[simp] theorem State.modPf_log (s : State) (n : Fin 8) (f : Stream → Stream) : (s.modPf n f).log = s.log := rfl
@[simp] theorem State.modPf_upd (s : State) (n : Fin 8) (f : Stream → Stream) : (s.modPf n f).upd = s.upd := rfl
@[simp] theorem State.modPf_sec (s : State) (n : Fin 8) (f : Stream → Stream) : (s.modPf n f).sec = s.sec := rfl
@[simp] theorem State.modPf_sup (s : State) (n : Fin 8) (f : Stream → Stream) : (s.modPf n f).sup = s.sup := rfl
@[simp] theorem State.modPf_reg (s : State) (n : Fin 8) (f : Stream → Stream) (k : Key) : (s.modPf n f).reg k = s.reg k := rfl

/-! `modTal` changes `tal` only. -/

@[simp] theorem State.modTal_pending (s : State) (n : Fin 16) (f : Tally → Tally) : (s.modTal n f).pending = s.pending := rfl
@[simp] theorem State.modTal_now (s : State) (n : Fin 16) (f : Tally → Tally) : (s.modTal n f).now = s.now := rfl
@[simp] theorem State.modTal_fresh (s : State) (n : Fin 16) (f : Tally → Tally) : (s.modTal n f).fresh = s.fresh := rfl
@[simp] theorem State.modTal_frames (s : State) (n : Fin 16) (f : Tally → Tally) : (s.modTal n f).frames = s.frames := rfl
@[simp] theorem State.modTal_regs (s : State) (n : Fin 16) (f : Tally → Tally) : (s.modTal n f).regs = s.regs := rfl
@[simp] theorem State.modTal_ch (s : State) (n : Fin 16) (f : Tally → Tally) : (s.modTal n f).ch = s.ch := rfl
@[simp] theorem State.modTal_watch (s : State) (n : Fin 16) (f : Tally → Tally) : (s.modTal n f).watch = s.watch := rfl
@[simp] theorem State.modTal_front (s : State) (n : Fin 16) (f : Tally → Tally) : (s.modTal n f).front = s.front := rfl
@[simp] theorem State.modTal_cal (s : State) (n : Fin 16) (f : Tally → Tally) : (s.modTal n f).cal = s.cal := rfl
@[simp] theorem State.modTal_sets (s : State) (n : Fin 16) (f : Tally → Tally) : (s.modTal n f).sets = s.sets := rfl
@[simp] theorem State.modTal_bead (s : State) (n : Fin 16) (f : Tally → Tally) : (s.modTal n f).bead = s.bead := rfl
@[simp] theorem State.modTal_cap (s : State) (n : Fin 16) (f : Tally → Tally) : (s.modTal n f).cap = s.cap := rfl
@[simp] theorem State.modTal_exc (s : State) (n : Fin 16) (f : Tally → Tally) : (s.modTal n f).exc = s.exc := rfl
@[simp] theorem State.modTal_kelvin (s : State) (n : Fin 16) (f : Tally → Tally) : (s.modTal n f).kelvin = s.kelvin := rfl
@[simp] theorem State.modTal_glv (s : State) (n : Fin 16) (f : Tally → Tally) : (s.modTal n f).glv = s.glv := rfl
@[simp] theorem State.modTal_emu (s : State) (n : Fin 16) (f : Tally → Tally) : (s.modTal n f).emu = s.emu := rfl
@[simp] theorem State.modTal_psw (s : State) (n : Fin 16) (f : Tally → Tally) : (s.modTal n f).psw = s.psw := rfl
@[simp] theorem State.modTal_snap (s : State) (n : Fin 16) (f : Tally → Tally) : (s.modTal n f).snap = s.snap := rfl
@[simp] theorem State.modTal_pf (s : State) (n : Fin 16) (f : Tally → Tally) : (s.modTal n f).pf = s.pf := rfl
@[simp] theorem State.modTal_fc (s : State) (n : Fin 16) (f : Tally → Tally) : (s.modTal n f).fc = s.fc := rfl
@[simp] theorem State.modTal_floor (s : State) (n : Fin 16) (f : Tally → Tally) : (s.modTal n f).floor = s.floor := rfl
@[simp] theorem State.modTal_dev (s : State) (n : Fin 16) (f : Tally → Tally) : (s.modTal n f).dev = s.dev := rfl
@[simp] theorem State.modTal_port (s : State) (n : Fin 16) (f : Tally → Tally) : (s.modTal n f).port = s.port := rfl
@[simp] theorem State.modTal_grp (s : State) (n : Fin 16) (f : Tally → Tally) : (s.modTal n f).grp = s.grp := rfl
@[simp] theorem State.modTal_store (s : State) (n : Fin 16) (f : Tally → Tally) : (s.modTal n f).store = s.store := rfl
@[simp] theorem State.modTal_red (s : State) (n : Fin 16) (f : Tally → Tally) : (s.modTal n f).red = s.red := rfl
@[simp] theorem State.modTal_pt (s : State) (n : Fin 16) (f : Tally → Tally) : (s.modTal n f).pt = s.pt := rfl
@[simp] theorem State.modTal_vote (s : State) (n : Fin 16) (f : Tally → Tally) : (s.modTal n f).vote = s.vote := rfl
@[simp] theorem State.modTal_lnk (s : State) (n : Fin 16) (f : Tally → Tally) : (s.modTal n f).lnk = s.lnk := rfl
@[simp] theorem State.modTal_hsp (s : State) (n : Fin 16) (f : Tally → Tally) : (s.modTal n f).hsp = s.hsp := rfl
@[simp] theorem State.modTal_tap (s : State) (n : Fin 16) (f : Tally → Tally) : (s.modTal n f).tap = s.tap := rfl
@[simp] theorem State.modTal_eth (s : State) (n : Fin 16) (f : Tally → Tally) : (s.modTal n f).eth = s.eth := rfl
@[simp] theorem State.modTal_can (s : State) (n : Fin 16) (f : Tally → Tally) : (s.modTal n f).can = s.can := rfl
@[simp] theorem State.modTal_tq (s : State) (n : Fin 16) (f : Tally → Tally) : (s.modTal n f).tq = s.tq := rfl
@[simp] theorem State.modTal_time (s : State) (n : Fin 16) (f : Tally → Tally) : (s.modTal n f).time = s.time := rfl
@[simp] theorem State.modTal_mgmt (s : State) (n : Fin 16) (f : Tally → Tally) : (s.modTal n f).mgmt = s.mgmt := rfl
@[simp] theorem State.modTal_sched (s : State) (n : Fin 16) (f : Tally → Tally) : (s.modTal n f).sched = s.sched := rfl
@[simp] theorem State.modTal_log (s : State) (n : Fin 16) (f : Tally → Tally) : (s.modTal n f).log = s.log := rfl
@[simp] theorem State.modTal_upd (s : State) (n : Fin 16) (f : Tally → Tally) : (s.modTal n f).upd = s.upd := rfl
@[simp] theorem State.modTal_sec (s : State) (n : Fin 16) (f : Tally → Tally) : (s.modTal n f).sec = s.sec := rfl
@[simp] theorem State.modTal_sup (s : State) (n : Fin 16) (f : Tally → Tally) : (s.modTal n f).sup = s.sup := rfl
@[simp] theorem State.modTal_reg (s : State) (n : Fin 16) (f : Tally → Tally) (k : Key) : (s.modTal n f).reg k = s.reg k := rfl

/-! `modPort` changes `port` only. -/

@[simp] theorem State.modPort_pending (s : State) (p : Port) (f : PortSt → PortSt) : (s.modPort p f).pending = s.pending := rfl
@[simp] theorem State.modPort_now (s : State) (p : Port) (f : PortSt → PortSt) : (s.modPort p f).now = s.now := rfl
@[simp] theorem State.modPort_fresh (s : State) (p : Port) (f : PortSt → PortSt) : (s.modPort p f).fresh = s.fresh := rfl
@[simp] theorem State.modPort_frames (s : State) (p : Port) (f : PortSt → PortSt) : (s.modPort p f).frames = s.frames := rfl
@[simp] theorem State.modPort_regs (s : State) (p : Port) (f : PortSt → PortSt) : (s.modPort p f).regs = s.regs := rfl
@[simp] theorem State.modPort_ch (s : State) (p : Port) (f : PortSt → PortSt) : (s.modPort p f).ch = s.ch := rfl
@[simp] theorem State.modPort_watch (s : State) (p : Port) (f : PortSt → PortSt) : (s.modPort p f).watch = s.watch := rfl
@[simp] theorem State.modPort_front (s : State) (p : Port) (f : PortSt → PortSt) : (s.modPort p f).front = s.front := rfl
@[simp] theorem State.modPort_cal (s : State) (p : Port) (f : PortSt → PortSt) : (s.modPort p f).cal = s.cal := rfl
@[simp] theorem State.modPort_sets (s : State) (p : Port) (f : PortSt → PortSt) : (s.modPort p f).sets = s.sets := rfl
@[simp] theorem State.modPort_bead (s : State) (p : Port) (f : PortSt → PortSt) : (s.modPort p f).bead = s.bead := rfl
@[simp] theorem State.modPort_cap (s : State) (p : Port) (f : PortSt → PortSt) : (s.modPort p f).cap = s.cap := rfl
@[simp] theorem State.modPort_exc (s : State) (p : Port) (f : PortSt → PortSt) : (s.modPort p f).exc = s.exc := rfl
@[simp] theorem State.modPort_kelvin (s : State) (p : Port) (f : PortSt → PortSt) : (s.modPort p f).kelvin = s.kelvin := rfl
@[simp] theorem State.modPort_glv (s : State) (p : Port) (f : PortSt → PortSt) : (s.modPort p f).glv = s.glv := rfl
@[simp] theorem State.modPort_emu (s : State) (p : Port) (f : PortSt → PortSt) : (s.modPort p f).emu = s.emu := rfl
@[simp] theorem State.modPort_psw (s : State) (p : Port) (f : PortSt → PortSt) : (s.modPort p f).psw = s.psw := rfl
@[simp] theorem State.modPort_snap (s : State) (p : Port) (f : PortSt → PortSt) : (s.modPort p f).snap = s.snap := rfl
@[simp] theorem State.modPort_pf (s : State) (p : Port) (f : PortSt → PortSt) : (s.modPort p f).pf = s.pf := rfl
@[simp] theorem State.modPort_tal (s : State) (p : Port) (f : PortSt → PortSt) : (s.modPort p f).tal = s.tal := rfl
@[simp] theorem State.modPort_fc (s : State) (p : Port) (f : PortSt → PortSt) : (s.modPort p f).fc = s.fc := rfl
@[simp] theorem State.modPort_floor (s : State) (p : Port) (f : PortSt → PortSt) : (s.modPort p f).floor = s.floor := rfl
@[simp] theorem State.modPort_dev (s : State) (p : Port) (f : PortSt → PortSt) : (s.modPort p f).dev = s.dev := rfl
@[simp] theorem State.modPort_grp (s : State) (p : Port) (f : PortSt → PortSt) : (s.modPort p f).grp = s.grp := rfl
@[simp] theorem State.modPort_store (s : State) (p : Port) (f : PortSt → PortSt) : (s.modPort p f).store = s.store := rfl
@[simp] theorem State.modPort_red (s : State) (p : Port) (f : PortSt → PortSt) : (s.modPort p f).red = s.red := rfl
@[simp] theorem State.modPort_pt (s : State) (p : Port) (f : PortSt → PortSt) : (s.modPort p f).pt = s.pt := rfl
@[simp] theorem State.modPort_vote (s : State) (p : Port) (f : PortSt → PortSt) : (s.modPort p f).vote = s.vote := rfl
@[simp] theorem State.modPort_lnk (s : State) (p : Port) (f : PortSt → PortSt) : (s.modPort p f).lnk = s.lnk := rfl
@[simp] theorem State.modPort_hsp (s : State) (p : Port) (f : PortSt → PortSt) : (s.modPort p f).hsp = s.hsp := rfl
@[simp] theorem State.modPort_tap (s : State) (p : Port) (f : PortSt → PortSt) : (s.modPort p f).tap = s.tap := rfl
@[simp] theorem State.modPort_eth (s : State) (p : Port) (f : PortSt → PortSt) : (s.modPort p f).eth = s.eth := rfl
@[simp] theorem State.modPort_can (s : State) (p : Port) (f : PortSt → PortSt) : (s.modPort p f).can = s.can := rfl
@[simp] theorem State.modPort_tq (s : State) (p : Port) (f : PortSt → PortSt) : (s.modPort p f).tq = s.tq := rfl
@[simp] theorem State.modPort_time (s : State) (p : Port) (f : PortSt → PortSt) : (s.modPort p f).time = s.time := rfl
@[simp] theorem State.modPort_mgmt (s : State) (p : Port) (f : PortSt → PortSt) : (s.modPort p f).mgmt = s.mgmt := rfl
@[simp] theorem State.modPort_sched (s : State) (p : Port) (f : PortSt → PortSt) : (s.modPort p f).sched = s.sched := rfl
@[simp] theorem State.modPort_log (s : State) (p : Port) (f : PortSt → PortSt) : (s.modPort p f).log = s.log := rfl
@[simp] theorem State.modPort_upd (s : State) (p : Port) (f : PortSt → PortSt) : (s.modPort p f).upd = s.upd := rfl
@[simp] theorem State.modPort_sec (s : State) (p : Port) (f : PortSt → PortSt) : (s.modPort p f).sec = s.sec := rfl
@[simp] theorem State.modPort_sup (s : State) (p : Port) (f : PortSt → PortSt) : (s.modPort p f).sup = s.sup := rfl
@[simp] theorem State.modPort_reg (s : State) (p : Port) (f : PortSt → PortSt) (k : Key) : (s.modPort p f).reg k = s.reg k := rfl

/-! `modPt` changes `pt` only. -/

@[simp] theorem State.modPt_pending (s : State) (q : Fin 2) (f : Partner → Partner) : (s.modPt q f).pending = s.pending := rfl
@[simp] theorem State.modPt_now (s : State) (q : Fin 2) (f : Partner → Partner) : (s.modPt q f).now = s.now := rfl
@[simp] theorem State.modPt_fresh (s : State) (q : Fin 2) (f : Partner → Partner) : (s.modPt q f).fresh = s.fresh := rfl
@[simp] theorem State.modPt_frames (s : State) (q : Fin 2) (f : Partner → Partner) : (s.modPt q f).frames = s.frames := rfl
@[simp] theorem State.modPt_regs (s : State) (q : Fin 2) (f : Partner → Partner) : (s.modPt q f).regs = s.regs := rfl
@[simp] theorem State.modPt_ch (s : State) (q : Fin 2) (f : Partner → Partner) : (s.modPt q f).ch = s.ch := rfl
@[simp] theorem State.modPt_watch (s : State) (q : Fin 2) (f : Partner → Partner) : (s.modPt q f).watch = s.watch := rfl
@[simp] theorem State.modPt_front (s : State) (q : Fin 2) (f : Partner → Partner) : (s.modPt q f).front = s.front := rfl
@[simp] theorem State.modPt_cal (s : State) (q : Fin 2) (f : Partner → Partner) : (s.modPt q f).cal = s.cal := rfl
@[simp] theorem State.modPt_sets (s : State) (q : Fin 2) (f : Partner → Partner) : (s.modPt q f).sets = s.sets := rfl
@[simp] theorem State.modPt_bead (s : State) (q : Fin 2) (f : Partner → Partner) : (s.modPt q f).bead = s.bead := rfl
@[simp] theorem State.modPt_cap (s : State) (q : Fin 2) (f : Partner → Partner) : (s.modPt q f).cap = s.cap := rfl
@[simp] theorem State.modPt_exc (s : State) (q : Fin 2) (f : Partner → Partner) : (s.modPt q f).exc = s.exc := rfl
@[simp] theorem State.modPt_kelvin (s : State) (q : Fin 2) (f : Partner → Partner) : (s.modPt q f).kelvin = s.kelvin := rfl
@[simp] theorem State.modPt_glv (s : State) (q : Fin 2) (f : Partner → Partner) : (s.modPt q f).glv = s.glv := rfl
@[simp] theorem State.modPt_emu (s : State) (q : Fin 2) (f : Partner → Partner) : (s.modPt q f).emu = s.emu := rfl
@[simp] theorem State.modPt_psw (s : State) (q : Fin 2) (f : Partner → Partner) : (s.modPt q f).psw = s.psw := rfl
@[simp] theorem State.modPt_snap (s : State) (q : Fin 2) (f : Partner → Partner) : (s.modPt q f).snap = s.snap := rfl
@[simp] theorem State.modPt_pf (s : State) (q : Fin 2) (f : Partner → Partner) : (s.modPt q f).pf = s.pf := rfl
@[simp] theorem State.modPt_tal (s : State) (q : Fin 2) (f : Partner → Partner) : (s.modPt q f).tal = s.tal := rfl
@[simp] theorem State.modPt_fc (s : State) (q : Fin 2) (f : Partner → Partner) : (s.modPt q f).fc = s.fc := rfl
@[simp] theorem State.modPt_floor (s : State) (q : Fin 2) (f : Partner → Partner) : (s.modPt q f).floor = s.floor := rfl
@[simp] theorem State.modPt_dev (s : State) (q : Fin 2) (f : Partner → Partner) : (s.modPt q f).dev = s.dev := rfl
@[simp] theorem State.modPt_port (s : State) (q : Fin 2) (f : Partner → Partner) : (s.modPt q f).port = s.port := rfl
@[simp] theorem State.modPt_grp (s : State) (q : Fin 2) (f : Partner → Partner) : (s.modPt q f).grp = s.grp := rfl
@[simp] theorem State.modPt_store (s : State) (q : Fin 2) (f : Partner → Partner) : (s.modPt q f).store = s.store := rfl
@[simp] theorem State.modPt_red (s : State) (q : Fin 2) (f : Partner → Partner) : (s.modPt q f).red = s.red := rfl
@[simp] theorem State.modPt_vote (s : State) (q : Fin 2) (f : Partner → Partner) : (s.modPt q f).vote = s.vote := rfl
@[simp] theorem State.modPt_lnk (s : State) (q : Fin 2) (f : Partner → Partner) : (s.modPt q f).lnk = s.lnk := rfl
@[simp] theorem State.modPt_hsp (s : State) (q : Fin 2) (f : Partner → Partner) : (s.modPt q f).hsp = s.hsp := rfl
@[simp] theorem State.modPt_tap (s : State) (q : Fin 2) (f : Partner → Partner) : (s.modPt q f).tap = s.tap := rfl
@[simp] theorem State.modPt_eth (s : State) (q : Fin 2) (f : Partner → Partner) : (s.modPt q f).eth = s.eth := rfl
@[simp] theorem State.modPt_can (s : State) (q : Fin 2) (f : Partner → Partner) : (s.modPt q f).can = s.can := rfl
@[simp] theorem State.modPt_tq (s : State) (q : Fin 2) (f : Partner → Partner) : (s.modPt q f).tq = s.tq := rfl
@[simp] theorem State.modPt_time (s : State) (q : Fin 2) (f : Partner → Partner) : (s.modPt q f).time = s.time := rfl
@[simp] theorem State.modPt_mgmt (s : State) (q : Fin 2) (f : Partner → Partner) : (s.modPt q f).mgmt = s.mgmt := rfl
@[simp] theorem State.modPt_sched (s : State) (q : Fin 2) (f : Partner → Partner) : (s.modPt q f).sched = s.sched := rfl
@[simp] theorem State.modPt_log (s : State) (q : Fin 2) (f : Partner → Partner) : (s.modPt q f).log = s.log := rfl
@[simp] theorem State.modPt_upd (s : State) (q : Fin 2) (f : Partner → Partner) : (s.modPt q f).upd = s.upd := rfl
@[simp] theorem State.modPt_sec (s : State) (q : Fin 2) (f : Partner → Partner) : (s.modPt q f).sec = s.sec := rfl
@[simp] theorem State.modPt_sup (s : State) (q : Fin 2) (f : Partner → Partner) : (s.modPt q f).sup = s.sup := rfl
@[simp] theorem State.modPt_reg (s : State) (q : Fin 2) (f : Partner → Partner) (k : Key) : (s.modPt q f).reg k = s.reg k := rfl

/-! `modLnk` changes `lnk` only. -/

@[simp] theorem State.modLnk_pending (s : State) (k : Fin 2) (f : Link → Link) : (s.modLnk k f).pending = s.pending := rfl
@[simp] theorem State.modLnk_now (s : State) (k : Fin 2) (f : Link → Link) : (s.modLnk k f).now = s.now := rfl
@[simp] theorem State.modLnk_fresh (s : State) (k : Fin 2) (f : Link → Link) : (s.modLnk k f).fresh = s.fresh := rfl
@[simp] theorem State.modLnk_frames (s : State) (k : Fin 2) (f : Link → Link) : (s.modLnk k f).frames = s.frames := rfl
@[simp] theorem State.modLnk_regs (s : State) (k : Fin 2) (f : Link → Link) : (s.modLnk k f).regs = s.regs := rfl
@[simp] theorem State.modLnk_ch (s : State) (k : Fin 2) (f : Link → Link) : (s.modLnk k f).ch = s.ch := rfl
@[simp] theorem State.modLnk_watch (s : State) (k : Fin 2) (f : Link → Link) : (s.modLnk k f).watch = s.watch := rfl
@[simp] theorem State.modLnk_front (s : State) (k : Fin 2) (f : Link → Link) : (s.modLnk k f).front = s.front := rfl
@[simp] theorem State.modLnk_cal (s : State) (k : Fin 2) (f : Link → Link) : (s.modLnk k f).cal = s.cal := rfl
@[simp] theorem State.modLnk_sets (s : State) (k : Fin 2) (f : Link → Link) : (s.modLnk k f).sets = s.sets := rfl
@[simp] theorem State.modLnk_bead (s : State) (k : Fin 2) (f : Link → Link) : (s.modLnk k f).bead = s.bead := rfl
@[simp] theorem State.modLnk_cap (s : State) (k : Fin 2) (f : Link → Link) : (s.modLnk k f).cap = s.cap := rfl
@[simp] theorem State.modLnk_exc (s : State) (k : Fin 2) (f : Link → Link) : (s.modLnk k f).exc = s.exc := rfl
@[simp] theorem State.modLnk_kelvin (s : State) (k : Fin 2) (f : Link → Link) : (s.modLnk k f).kelvin = s.kelvin := rfl
@[simp] theorem State.modLnk_glv (s : State) (k : Fin 2) (f : Link → Link) : (s.modLnk k f).glv = s.glv := rfl
@[simp] theorem State.modLnk_emu (s : State) (k : Fin 2) (f : Link → Link) : (s.modLnk k f).emu = s.emu := rfl
@[simp] theorem State.modLnk_psw (s : State) (k : Fin 2) (f : Link → Link) : (s.modLnk k f).psw = s.psw := rfl
@[simp] theorem State.modLnk_snap (s : State) (k : Fin 2) (f : Link → Link) : (s.modLnk k f).snap = s.snap := rfl
@[simp] theorem State.modLnk_pf (s : State) (k : Fin 2) (f : Link → Link) : (s.modLnk k f).pf = s.pf := rfl
@[simp] theorem State.modLnk_tal (s : State) (k : Fin 2) (f : Link → Link) : (s.modLnk k f).tal = s.tal := rfl
@[simp] theorem State.modLnk_fc (s : State) (k : Fin 2) (f : Link → Link) : (s.modLnk k f).fc = s.fc := rfl
@[simp] theorem State.modLnk_floor (s : State) (k : Fin 2) (f : Link → Link) : (s.modLnk k f).floor = s.floor := rfl
@[simp] theorem State.modLnk_dev (s : State) (k : Fin 2) (f : Link → Link) : (s.modLnk k f).dev = s.dev := rfl
@[simp] theorem State.modLnk_port (s : State) (k : Fin 2) (f : Link → Link) : (s.modLnk k f).port = s.port := rfl
@[simp] theorem State.modLnk_grp (s : State) (k : Fin 2) (f : Link → Link) : (s.modLnk k f).grp = s.grp := rfl
@[simp] theorem State.modLnk_store (s : State) (k : Fin 2) (f : Link → Link) : (s.modLnk k f).store = s.store := rfl
@[simp] theorem State.modLnk_red (s : State) (k : Fin 2) (f : Link → Link) : (s.modLnk k f).red = s.red := rfl
@[simp] theorem State.modLnk_pt (s : State) (k : Fin 2) (f : Link → Link) : (s.modLnk k f).pt = s.pt := rfl
@[simp] theorem State.modLnk_vote (s : State) (k : Fin 2) (f : Link → Link) : (s.modLnk k f).vote = s.vote := rfl
@[simp] theorem State.modLnk_hsp (s : State) (k : Fin 2) (f : Link → Link) : (s.modLnk k f).hsp = s.hsp := rfl
@[simp] theorem State.modLnk_tap (s : State) (k : Fin 2) (f : Link → Link) : (s.modLnk k f).tap = s.tap := rfl
@[simp] theorem State.modLnk_eth (s : State) (k : Fin 2) (f : Link → Link) : (s.modLnk k f).eth = s.eth := rfl
@[simp] theorem State.modLnk_can (s : State) (k : Fin 2) (f : Link → Link) : (s.modLnk k f).can = s.can := rfl
@[simp] theorem State.modLnk_tq (s : State) (k : Fin 2) (f : Link → Link) : (s.modLnk k f).tq = s.tq := rfl
@[simp] theorem State.modLnk_time (s : State) (k : Fin 2) (f : Link → Link) : (s.modLnk k f).time = s.time := rfl
@[simp] theorem State.modLnk_mgmt (s : State) (k : Fin 2) (f : Link → Link) : (s.modLnk k f).mgmt = s.mgmt := rfl
@[simp] theorem State.modLnk_sched (s : State) (k : Fin 2) (f : Link → Link) : (s.modLnk k f).sched = s.sched := rfl
@[simp] theorem State.modLnk_log (s : State) (k : Fin 2) (f : Link → Link) : (s.modLnk k f).log = s.log := rfl
@[simp] theorem State.modLnk_upd (s : State) (k : Fin 2) (f : Link → Link) : (s.modLnk k f).upd = s.upd := rfl
@[simp] theorem State.modLnk_sec (s : State) (k : Fin 2) (f : Link → Link) : (s.modLnk k f).sec = s.sec := rfl
@[simp] theorem State.modLnk_sup (s : State) (k : Fin 2) (f : Link → Link) : (s.modLnk k f).sup = s.sup := rfl
@[simp] theorem State.modLnk_reg (s : State) (k : Fin 2) (f : Link → Link) (a : Key) : (s.modLnk k f).reg a = s.reg a := rfl

/-! `modHsp` changes `hsp` only. -/

@[simp] theorem State.modHsp_pending (s : State) (h : Fin 3) (f : Hsp → Hsp) : (s.modHsp h f).pending = s.pending := rfl
@[simp] theorem State.modHsp_now (s : State) (h : Fin 3) (f : Hsp → Hsp) : (s.modHsp h f).now = s.now := rfl
@[simp] theorem State.modHsp_fresh (s : State) (h : Fin 3) (f : Hsp → Hsp) : (s.modHsp h f).fresh = s.fresh := rfl
@[simp] theorem State.modHsp_frames (s : State) (h : Fin 3) (f : Hsp → Hsp) : (s.modHsp h f).frames = s.frames := rfl
@[simp] theorem State.modHsp_regs (s : State) (h : Fin 3) (f : Hsp → Hsp) : (s.modHsp h f).regs = s.regs := rfl
@[simp] theorem State.modHsp_ch (s : State) (h : Fin 3) (f : Hsp → Hsp) : (s.modHsp h f).ch = s.ch := rfl
@[simp] theorem State.modHsp_watch (s : State) (h : Fin 3) (f : Hsp → Hsp) : (s.modHsp h f).watch = s.watch := rfl
@[simp] theorem State.modHsp_front (s : State) (h : Fin 3) (f : Hsp → Hsp) : (s.modHsp h f).front = s.front := rfl
@[simp] theorem State.modHsp_cal (s : State) (h : Fin 3) (f : Hsp → Hsp) : (s.modHsp h f).cal = s.cal := rfl
@[simp] theorem State.modHsp_sets (s : State) (h : Fin 3) (f : Hsp → Hsp) : (s.modHsp h f).sets = s.sets := rfl
@[simp] theorem State.modHsp_bead (s : State) (h : Fin 3) (f : Hsp → Hsp) : (s.modHsp h f).bead = s.bead := rfl
@[simp] theorem State.modHsp_cap (s : State) (h : Fin 3) (f : Hsp → Hsp) : (s.modHsp h f).cap = s.cap := rfl
@[simp] theorem State.modHsp_exc (s : State) (h : Fin 3) (f : Hsp → Hsp) : (s.modHsp h f).exc = s.exc := rfl
@[simp] theorem State.modHsp_kelvin (s : State) (h : Fin 3) (f : Hsp → Hsp) : (s.modHsp h f).kelvin = s.kelvin := rfl
@[simp] theorem State.modHsp_glv (s : State) (h : Fin 3) (f : Hsp → Hsp) : (s.modHsp h f).glv = s.glv := rfl
@[simp] theorem State.modHsp_emu (s : State) (h : Fin 3) (f : Hsp → Hsp) : (s.modHsp h f).emu = s.emu := rfl
@[simp] theorem State.modHsp_psw (s : State) (h : Fin 3) (f : Hsp → Hsp) : (s.modHsp h f).psw = s.psw := rfl
@[simp] theorem State.modHsp_snap (s : State) (h : Fin 3) (f : Hsp → Hsp) : (s.modHsp h f).snap = s.snap := rfl
@[simp] theorem State.modHsp_pf (s : State) (h : Fin 3) (f : Hsp → Hsp) : (s.modHsp h f).pf = s.pf := rfl
@[simp] theorem State.modHsp_tal (s : State) (h : Fin 3) (f : Hsp → Hsp) : (s.modHsp h f).tal = s.tal := rfl
@[simp] theorem State.modHsp_fc (s : State) (h : Fin 3) (f : Hsp → Hsp) : (s.modHsp h f).fc = s.fc := rfl
@[simp] theorem State.modHsp_floor (s : State) (h : Fin 3) (f : Hsp → Hsp) : (s.modHsp h f).floor = s.floor := rfl
@[simp] theorem State.modHsp_dev (s : State) (h : Fin 3) (f : Hsp → Hsp) : (s.modHsp h f).dev = s.dev := rfl
@[simp] theorem State.modHsp_port (s : State) (h : Fin 3) (f : Hsp → Hsp) : (s.modHsp h f).port = s.port := rfl
@[simp] theorem State.modHsp_grp (s : State) (h : Fin 3) (f : Hsp → Hsp) : (s.modHsp h f).grp = s.grp := rfl
@[simp] theorem State.modHsp_store (s : State) (h : Fin 3) (f : Hsp → Hsp) : (s.modHsp h f).store = s.store := rfl
@[simp] theorem State.modHsp_red (s : State) (h : Fin 3) (f : Hsp → Hsp) : (s.modHsp h f).red = s.red := rfl
@[simp] theorem State.modHsp_pt (s : State) (h : Fin 3) (f : Hsp → Hsp) : (s.modHsp h f).pt = s.pt := rfl
@[simp] theorem State.modHsp_vote (s : State) (h : Fin 3) (f : Hsp → Hsp) : (s.modHsp h f).vote = s.vote := rfl
@[simp] theorem State.modHsp_lnk (s : State) (h : Fin 3) (f : Hsp → Hsp) : (s.modHsp h f).lnk = s.lnk := rfl
@[simp] theorem State.modHsp_tap (s : State) (h : Fin 3) (f : Hsp → Hsp) : (s.modHsp h f).tap = s.tap := rfl
@[simp] theorem State.modHsp_eth (s : State) (h : Fin 3) (f : Hsp → Hsp) : (s.modHsp h f).eth = s.eth := rfl
@[simp] theorem State.modHsp_can (s : State) (h : Fin 3) (f : Hsp → Hsp) : (s.modHsp h f).can = s.can := rfl
@[simp] theorem State.modHsp_tq (s : State) (h : Fin 3) (f : Hsp → Hsp) : (s.modHsp h f).tq = s.tq := rfl
@[simp] theorem State.modHsp_time (s : State) (h : Fin 3) (f : Hsp → Hsp) : (s.modHsp h f).time = s.time := rfl
@[simp] theorem State.modHsp_mgmt (s : State) (h : Fin 3) (f : Hsp → Hsp) : (s.modHsp h f).mgmt = s.mgmt := rfl
@[simp] theorem State.modHsp_sched (s : State) (h : Fin 3) (f : Hsp → Hsp) : (s.modHsp h f).sched = s.sched := rfl
@[simp] theorem State.modHsp_log (s : State) (h : Fin 3) (f : Hsp → Hsp) : (s.modHsp h f).log = s.log := rfl
@[simp] theorem State.modHsp_upd (s : State) (h : Fin 3) (f : Hsp → Hsp) : (s.modHsp h f).upd = s.upd := rfl
@[simp] theorem State.modHsp_sec (s : State) (h : Fin 3) (f : Hsp → Hsp) : (s.modHsp h f).sec = s.sec := rfl
@[simp] theorem State.modHsp_sup (s : State) (h : Fin 3) (f : Hsp → Hsp) : (s.modHsp h f).sup = s.sup := rfl
@[simp] theorem State.modHsp_reg (s : State) (h : Fin 3) (f : Hsp → Hsp) (k : Key) : (s.modHsp h f).reg k = s.reg k := rfl

/-! `modEth` changes `eth` only. -/

@[simp] theorem State.modEth_pending (s : State) (k : Fin 2) (f : Eth → Eth) : (s.modEth k f).pending = s.pending := rfl
@[simp] theorem State.modEth_now (s : State) (k : Fin 2) (f : Eth → Eth) : (s.modEth k f).now = s.now := rfl
@[simp] theorem State.modEth_fresh (s : State) (k : Fin 2) (f : Eth → Eth) : (s.modEth k f).fresh = s.fresh := rfl
@[simp] theorem State.modEth_frames (s : State) (k : Fin 2) (f : Eth → Eth) : (s.modEth k f).frames = s.frames := rfl
@[simp] theorem State.modEth_regs (s : State) (k : Fin 2) (f : Eth → Eth) : (s.modEth k f).regs = s.regs := rfl
@[simp] theorem State.modEth_ch (s : State) (k : Fin 2) (f : Eth → Eth) : (s.modEth k f).ch = s.ch := rfl
@[simp] theorem State.modEth_watch (s : State) (k : Fin 2) (f : Eth → Eth) : (s.modEth k f).watch = s.watch := rfl
@[simp] theorem State.modEth_front (s : State) (k : Fin 2) (f : Eth → Eth) : (s.modEth k f).front = s.front := rfl
@[simp] theorem State.modEth_cal (s : State) (k : Fin 2) (f : Eth → Eth) : (s.modEth k f).cal = s.cal := rfl
@[simp] theorem State.modEth_sets (s : State) (k : Fin 2) (f : Eth → Eth) : (s.modEth k f).sets = s.sets := rfl
@[simp] theorem State.modEth_bead (s : State) (k : Fin 2) (f : Eth → Eth) : (s.modEth k f).bead = s.bead := rfl
@[simp] theorem State.modEth_cap (s : State) (k : Fin 2) (f : Eth → Eth) : (s.modEth k f).cap = s.cap := rfl
@[simp] theorem State.modEth_exc (s : State) (k : Fin 2) (f : Eth → Eth) : (s.modEth k f).exc = s.exc := rfl
@[simp] theorem State.modEth_kelvin (s : State) (k : Fin 2) (f : Eth → Eth) : (s.modEth k f).kelvin = s.kelvin := rfl
@[simp] theorem State.modEth_glv (s : State) (k : Fin 2) (f : Eth → Eth) : (s.modEth k f).glv = s.glv := rfl
@[simp] theorem State.modEth_emu (s : State) (k : Fin 2) (f : Eth → Eth) : (s.modEth k f).emu = s.emu := rfl
@[simp] theorem State.modEth_psw (s : State) (k : Fin 2) (f : Eth → Eth) : (s.modEth k f).psw = s.psw := rfl
@[simp] theorem State.modEth_snap (s : State) (k : Fin 2) (f : Eth → Eth) : (s.modEth k f).snap = s.snap := rfl
@[simp] theorem State.modEth_pf (s : State) (k : Fin 2) (f : Eth → Eth) : (s.modEth k f).pf = s.pf := rfl
@[simp] theorem State.modEth_tal (s : State) (k : Fin 2) (f : Eth → Eth) : (s.modEth k f).tal = s.tal := rfl
@[simp] theorem State.modEth_fc (s : State) (k : Fin 2) (f : Eth → Eth) : (s.modEth k f).fc = s.fc := rfl
@[simp] theorem State.modEth_floor (s : State) (k : Fin 2) (f : Eth → Eth) : (s.modEth k f).floor = s.floor := rfl
@[simp] theorem State.modEth_dev (s : State) (k : Fin 2) (f : Eth → Eth) : (s.modEth k f).dev = s.dev := rfl
@[simp] theorem State.modEth_port (s : State) (k : Fin 2) (f : Eth → Eth) : (s.modEth k f).port = s.port := rfl
@[simp] theorem State.modEth_grp (s : State) (k : Fin 2) (f : Eth → Eth) : (s.modEth k f).grp = s.grp := rfl
@[simp] theorem State.modEth_store (s : State) (k : Fin 2) (f : Eth → Eth) : (s.modEth k f).store = s.store := rfl
@[simp] theorem State.modEth_red (s : State) (k : Fin 2) (f : Eth → Eth) : (s.modEth k f).red = s.red := rfl
@[simp] theorem State.modEth_pt (s : State) (k : Fin 2) (f : Eth → Eth) : (s.modEth k f).pt = s.pt := rfl
@[simp] theorem State.modEth_vote (s : State) (k : Fin 2) (f : Eth → Eth) : (s.modEth k f).vote = s.vote := rfl
@[simp] theorem State.modEth_lnk (s : State) (k : Fin 2) (f : Eth → Eth) : (s.modEth k f).lnk = s.lnk := rfl
@[simp] theorem State.modEth_hsp (s : State) (k : Fin 2) (f : Eth → Eth) : (s.modEth k f).hsp = s.hsp := rfl
@[simp] theorem State.modEth_tap (s : State) (k : Fin 2) (f : Eth → Eth) : (s.modEth k f).tap = s.tap := rfl
@[simp] theorem State.modEth_can (s : State) (k : Fin 2) (f : Eth → Eth) : (s.modEth k f).can = s.can := rfl
@[simp] theorem State.modEth_tq (s : State) (k : Fin 2) (f : Eth → Eth) : (s.modEth k f).tq = s.tq := rfl
@[simp] theorem State.modEth_time (s : State) (k : Fin 2) (f : Eth → Eth) : (s.modEth k f).time = s.time := rfl
@[simp] theorem State.modEth_mgmt (s : State) (k : Fin 2) (f : Eth → Eth) : (s.modEth k f).mgmt = s.mgmt := rfl
@[simp] theorem State.modEth_sched (s : State) (k : Fin 2) (f : Eth → Eth) : (s.modEth k f).sched = s.sched := rfl
@[simp] theorem State.modEth_log (s : State) (k : Fin 2) (f : Eth → Eth) : (s.modEth k f).log = s.log := rfl
@[simp] theorem State.modEth_upd (s : State) (k : Fin 2) (f : Eth → Eth) : (s.modEth k f).upd = s.upd := rfl
@[simp] theorem State.modEth_sec (s : State) (k : Fin 2) (f : Eth → Eth) : (s.modEth k f).sec = s.sec := rfl
@[simp] theorem State.modEth_sup (s : State) (k : Fin 2) (f : Eth → Eth) : (s.modEth k f).sup = s.sup := rfl
@[simp] theorem State.modEth_reg (s : State) (k : Fin 2) (f : Eth → Eth) (a : Key) : (s.modEth k f).reg a = s.reg a := rfl

/-! `modCan` changes `can` only. -/

@[simp] theorem State.modCan_pending (s : State) (c : Fin 2) (f : Can → Can) : (s.modCan c f).pending = s.pending := rfl
@[simp] theorem State.modCan_now (s : State) (c : Fin 2) (f : Can → Can) : (s.modCan c f).now = s.now := rfl
@[simp] theorem State.modCan_fresh (s : State) (c : Fin 2) (f : Can → Can) : (s.modCan c f).fresh = s.fresh := rfl
@[simp] theorem State.modCan_frames (s : State) (c : Fin 2) (f : Can → Can) : (s.modCan c f).frames = s.frames := rfl
@[simp] theorem State.modCan_regs (s : State) (c : Fin 2) (f : Can → Can) : (s.modCan c f).regs = s.regs := rfl
@[simp] theorem State.modCan_ch (s : State) (c : Fin 2) (f : Can → Can) : (s.modCan c f).ch = s.ch := rfl
@[simp] theorem State.modCan_watch (s : State) (c : Fin 2) (f : Can → Can) : (s.modCan c f).watch = s.watch := rfl
@[simp] theorem State.modCan_front (s : State) (c : Fin 2) (f : Can → Can) : (s.modCan c f).front = s.front := rfl
@[simp] theorem State.modCan_cal (s : State) (c : Fin 2) (f : Can → Can) : (s.modCan c f).cal = s.cal := rfl
@[simp] theorem State.modCan_sets (s : State) (c : Fin 2) (f : Can → Can) : (s.modCan c f).sets = s.sets := rfl
@[simp] theorem State.modCan_bead (s : State) (c : Fin 2) (f : Can → Can) : (s.modCan c f).bead = s.bead := rfl
@[simp] theorem State.modCan_cap (s : State) (c : Fin 2) (f : Can → Can) : (s.modCan c f).cap = s.cap := rfl
@[simp] theorem State.modCan_exc (s : State) (c : Fin 2) (f : Can → Can) : (s.modCan c f).exc = s.exc := rfl
@[simp] theorem State.modCan_kelvin (s : State) (c : Fin 2) (f : Can → Can) : (s.modCan c f).kelvin = s.kelvin := rfl
@[simp] theorem State.modCan_glv (s : State) (c : Fin 2) (f : Can → Can) : (s.modCan c f).glv = s.glv := rfl
@[simp] theorem State.modCan_emu (s : State) (c : Fin 2) (f : Can → Can) : (s.modCan c f).emu = s.emu := rfl
@[simp] theorem State.modCan_psw (s : State) (c : Fin 2) (f : Can → Can) : (s.modCan c f).psw = s.psw := rfl
@[simp] theorem State.modCan_snap (s : State) (c : Fin 2) (f : Can → Can) : (s.modCan c f).snap = s.snap := rfl
@[simp] theorem State.modCan_pf (s : State) (c : Fin 2) (f : Can → Can) : (s.modCan c f).pf = s.pf := rfl
@[simp] theorem State.modCan_tal (s : State) (c : Fin 2) (f : Can → Can) : (s.modCan c f).tal = s.tal := rfl
@[simp] theorem State.modCan_fc (s : State) (c : Fin 2) (f : Can → Can) : (s.modCan c f).fc = s.fc := rfl
@[simp] theorem State.modCan_floor (s : State) (c : Fin 2) (f : Can → Can) : (s.modCan c f).floor = s.floor := rfl
@[simp] theorem State.modCan_dev (s : State) (c : Fin 2) (f : Can → Can) : (s.modCan c f).dev = s.dev := rfl
@[simp] theorem State.modCan_port (s : State) (c : Fin 2) (f : Can → Can) : (s.modCan c f).port = s.port := rfl
@[simp] theorem State.modCan_grp (s : State) (c : Fin 2) (f : Can → Can) : (s.modCan c f).grp = s.grp := rfl
@[simp] theorem State.modCan_store (s : State) (c : Fin 2) (f : Can → Can) : (s.modCan c f).store = s.store := rfl
@[simp] theorem State.modCan_red (s : State) (c : Fin 2) (f : Can → Can) : (s.modCan c f).red = s.red := rfl
@[simp] theorem State.modCan_pt (s : State) (c : Fin 2) (f : Can → Can) : (s.modCan c f).pt = s.pt := rfl
@[simp] theorem State.modCan_vote (s : State) (c : Fin 2) (f : Can → Can) : (s.modCan c f).vote = s.vote := rfl
@[simp] theorem State.modCan_lnk (s : State) (c : Fin 2) (f : Can → Can) : (s.modCan c f).lnk = s.lnk := rfl
@[simp] theorem State.modCan_hsp (s : State) (c : Fin 2) (f : Can → Can) : (s.modCan c f).hsp = s.hsp := rfl
@[simp] theorem State.modCan_tap (s : State) (c : Fin 2) (f : Can → Can) : (s.modCan c f).tap = s.tap := rfl
@[simp] theorem State.modCan_eth (s : State) (c : Fin 2) (f : Can → Can) : (s.modCan c f).eth = s.eth := rfl
@[simp] theorem State.modCan_tq (s : State) (c : Fin 2) (f : Can → Can) : (s.modCan c f).tq = s.tq := rfl
@[simp] theorem State.modCan_time (s : State) (c : Fin 2) (f : Can → Can) : (s.modCan c f).time = s.time := rfl
@[simp] theorem State.modCan_mgmt (s : State) (c : Fin 2) (f : Can → Can) : (s.modCan c f).mgmt = s.mgmt := rfl
@[simp] theorem State.modCan_sched (s : State) (c : Fin 2) (f : Can → Can) : (s.modCan c f).sched = s.sched := rfl
@[simp] theorem State.modCan_log (s : State) (c : Fin 2) (f : Can → Can) : (s.modCan c f).log = s.log := rfl
@[simp] theorem State.modCan_upd (s : State) (c : Fin 2) (f : Can → Can) : (s.modCan c f).upd = s.upd := rfl
@[simp] theorem State.modCan_sec (s : State) (c : Fin 2) (f : Can → Can) : (s.modCan c f).sec = s.sec := rfl
@[simp] theorem State.modCan_sup (s : State) (c : Fin 2) (f : Can → Can) : (s.modCan c f).sup = s.sup := rfl
@[simp] theorem State.modCan_reg (s : State) (c : Fin 2) (f : Can → Can) (k : Key) : (s.modCan c f).reg k = s.reg k := rfl

/-! `modTq` changes `tq` only. -/

@[simp] theorem State.modTq_pending (s : State) (q : Fin 16) (f : Tq → Tq) : (s.modTq q f).pending = s.pending := rfl
@[simp] theorem State.modTq_now (s : State) (q : Fin 16) (f : Tq → Tq) : (s.modTq q f).now = s.now := rfl
@[simp] theorem State.modTq_fresh (s : State) (q : Fin 16) (f : Tq → Tq) : (s.modTq q f).fresh = s.fresh := rfl
@[simp] theorem State.modTq_frames (s : State) (q : Fin 16) (f : Tq → Tq) : (s.modTq q f).frames = s.frames := rfl
@[simp] theorem State.modTq_regs (s : State) (q : Fin 16) (f : Tq → Tq) : (s.modTq q f).regs = s.regs := rfl
@[simp] theorem State.modTq_ch (s : State) (q : Fin 16) (f : Tq → Tq) : (s.modTq q f).ch = s.ch := rfl
@[simp] theorem State.modTq_watch (s : State) (q : Fin 16) (f : Tq → Tq) : (s.modTq q f).watch = s.watch := rfl
@[simp] theorem State.modTq_front (s : State) (q : Fin 16) (f : Tq → Tq) : (s.modTq q f).front = s.front := rfl
@[simp] theorem State.modTq_cal (s : State) (q : Fin 16) (f : Tq → Tq) : (s.modTq q f).cal = s.cal := rfl
@[simp] theorem State.modTq_sets (s : State) (q : Fin 16) (f : Tq → Tq) : (s.modTq q f).sets = s.sets := rfl
@[simp] theorem State.modTq_bead (s : State) (q : Fin 16) (f : Tq → Tq) : (s.modTq q f).bead = s.bead := rfl
@[simp] theorem State.modTq_cap (s : State) (q : Fin 16) (f : Tq → Tq) : (s.modTq q f).cap = s.cap := rfl
@[simp] theorem State.modTq_exc (s : State) (q : Fin 16) (f : Tq → Tq) : (s.modTq q f).exc = s.exc := rfl
@[simp] theorem State.modTq_kelvin (s : State) (q : Fin 16) (f : Tq → Tq) : (s.modTq q f).kelvin = s.kelvin := rfl
@[simp] theorem State.modTq_glv (s : State) (q : Fin 16) (f : Tq → Tq) : (s.modTq q f).glv = s.glv := rfl
@[simp] theorem State.modTq_emu (s : State) (q : Fin 16) (f : Tq → Tq) : (s.modTq q f).emu = s.emu := rfl
@[simp] theorem State.modTq_psw (s : State) (q : Fin 16) (f : Tq → Tq) : (s.modTq q f).psw = s.psw := rfl
@[simp] theorem State.modTq_snap (s : State) (q : Fin 16) (f : Tq → Tq) : (s.modTq q f).snap = s.snap := rfl
@[simp] theorem State.modTq_pf (s : State) (q : Fin 16) (f : Tq → Tq) : (s.modTq q f).pf = s.pf := rfl
@[simp] theorem State.modTq_tal (s : State) (q : Fin 16) (f : Tq → Tq) : (s.modTq q f).tal = s.tal := rfl
@[simp] theorem State.modTq_fc (s : State) (q : Fin 16) (f : Tq → Tq) : (s.modTq q f).fc = s.fc := rfl
@[simp] theorem State.modTq_floor (s : State) (q : Fin 16) (f : Tq → Tq) : (s.modTq q f).floor = s.floor := rfl
@[simp] theorem State.modTq_dev (s : State) (q : Fin 16) (f : Tq → Tq) : (s.modTq q f).dev = s.dev := rfl
@[simp] theorem State.modTq_port (s : State) (q : Fin 16) (f : Tq → Tq) : (s.modTq q f).port = s.port := rfl
@[simp] theorem State.modTq_grp (s : State) (q : Fin 16) (f : Tq → Tq) : (s.modTq q f).grp = s.grp := rfl
@[simp] theorem State.modTq_store (s : State) (q : Fin 16) (f : Tq → Tq) : (s.modTq q f).store = s.store := rfl
@[simp] theorem State.modTq_red (s : State) (q : Fin 16) (f : Tq → Tq) : (s.modTq q f).red = s.red := rfl
@[simp] theorem State.modTq_pt (s : State) (q : Fin 16) (f : Tq → Tq) : (s.modTq q f).pt = s.pt := rfl
@[simp] theorem State.modTq_vote (s : State) (q : Fin 16) (f : Tq → Tq) : (s.modTq q f).vote = s.vote := rfl
@[simp] theorem State.modTq_lnk (s : State) (q : Fin 16) (f : Tq → Tq) : (s.modTq q f).lnk = s.lnk := rfl
@[simp] theorem State.modTq_hsp (s : State) (q : Fin 16) (f : Tq → Tq) : (s.modTq q f).hsp = s.hsp := rfl
@[simp] theorem State.modTq_tap (s : State) (q : Fin 16) (f : Tq → Tq) : (s.modTq q f).tap = s.tap := rfl
@[simp] theorem State.modTq_eth (s : State) (q : Fin 16) (f : Tq → Tq) : (s.modTq q f).eth = s.eth := rfl
@[simp] theorem State.modTq_can (s : State) (q : Fin 16) (f : Tq → Tq) : (s.modTq q f).can = s.can := rfl
@[simp] theorem State.modTq_time (s : State) (q : Fin 16) (f : Tq → Tq) : (s.modTq q f).time = s.time := rfl
@[simp] theorem State.modTq_mgmt (s : State) (q : Fin 16) (f : Tq → Tq) : (s.modTq q f).mgmt = s.mgmt := rfl
@[simp] theorem State.modTq_sched (s : State) (q : Fin 16) (f : Tq → Tq) : (s.modTq q f).sched = s.sched := rfl
@[simp] theorem State.modTq_log (s : State) (q : Fin 16) (f : Tq → Tq) : (s.modTq q f).log = s.log := rfl
@[simp] theorem State.modTq_upd (s : State) (q : Fin 16) (f : Tq → Tq) : (s.modTq q f).upd = s.upd := rfl
@[simp] theorem State.modTq_sec (s : State) (q : Fin 16) (f : Tq → Tq) : (s.modTq q f).sec = s.sec := rfl
@[simp] theorem State.modTq_sup (s : State) (q : Fin 16) (f : Tq → Tq) : (s.modTq q f).sup = s.sup := rfl
@[simp] theorem State.modTq_reg (s : State) (q : Fin 16) (f : Tq → Tq) (k : Key) : (s.modTq q f).reg k = s.reg k := rfl

/-! `modSched` changes `sched` only. -/

@[simp] theorem State.modSched_pending (s : State) (d : Fin 17) (f : Sched → Sched) : (s.modSched d f).pending = s.pending := rfl
@[simp] theorem State.modSched_now (s : State) (d : Fin 17) (f : Sched → Sched) : (s.modSched d f).now = s.now := rfl
@[simp] theorem State.modSched_fresh (s : State) (d : Fin 17) (f : Sched → Sched) : (s.modSched d f).fresh = s.fresh := rfl
@[simp] theorem State.modSched_frames (s : State) (d : Fin 17) (f : Sched → Sched) : (s.modSched d f).frames = s.frames := rfl
@[simp] theorem State.modSched_regs (s : State) (d : Fin 17) (f : Sched → Sched) : (s.modSched d f).regs = s.regs := rfl
@[simp] theorem State.modSched_ch (s : State) (d : Fin 17) (f : Sched → Sched) : (s.modSched d f).ch = s.ch := rfl
@[simp] theorem State.modSched_watch (s : State) (d : Fin 17) (f : Sched → Sched) : (s.modSched d f).watch = s.watch := rfl
@[simp] theorem State.modSched_front (s : State) (d : Fin 17) (f : Sched → Sched) : (s.modSched d f).front = s.front := rfl
@[simp] theorem State.modSched_cal (s : State) (d : Fin 17) (f : Sched → Sched) : (s.modSched d f).cal = s.cal := rfl
@[simp] theorem State.modSched_sets (s : State) (d : Fin 17) (f : Sched → Sched) : (s.modSched d f).sets = s.sets := rfl
@[simp] theorem State.modSched_bead (s : State) (d : Fin 17) (f : Sched → Sched) : (s.modSched d f).bead = s.bead := rfl
@[simp] theorem State.modSched_cap (s : State) (d : Fin 17) (f : Sched → Sched) : (s.modSched d f).cap = s.cap := rfl
@[simp] theorem State.modSched_exc (s : State) (d : Fin 17) (f : Sched → Sched) : (s.modSched d f).exc = s.exc := rfl
@[simp] theorem State.modSched_kelvin (s : State) (d : Fin 17) (f : Sched → Sched) : (s.modSched d f).kelvin = s.kelvin := rfl
@[simp] theorem State.modSched_glv (s : State) (d : Fin 17) (f : Sched → Sched) : (s.modSched d f).glv = s.glv := rfl
@[simp] theorem State.modSched_emu (s : State) (d : Fin 17) (f : Sched → Sched) : (s.modSched d f).emu = s.emu := rfl
@[simp] theorem State.modSched_psw (s : State) (d : Fin 17) (f : Sched → Sched) : (s.modSched d f).psw = s.psw := rfl
@[simp] theorem State.modSched_snap (s : State) (d : Fin 17) (f : Sched → Sched) : (s.modSched d f).snap = s.snap := rfl
@[simp] theorem State.modSched_pf (s : State) (d : Fin 17) (f : Sched → Sched) : (s.modSched d f).pf = s.pf := rfl
@[simp] theorem State.modSched_tal (s : State) (d : Fin 17) (f : Sched → Sched) : (s.modSched d f).tal = s.tal := rfl
@[simp] theorem State.modSched_fc (s : State) (d : Fin 17) (f : Sched → Sched) : (s.modSched d f).fc = s.fc := rfl
@[simp] theorem State.modSched_floor (s : State) (d : Fin 17) (f : Sched → Sched) : (s.modSched d f).floor = s.floor := rfl
@[simp] theorem State.modSched_dev (s : State) (d : Fin 17) (f : Sched → Sched) : (s.modSched d f).dev = s.dev := rfl
@[simp] theorem State.modSched_port (s : State) (d : Fin 17) (f : Sched → Sched) : (s.modSched d f).port = s.port := rfl
@[simp] theorem State.modSched_grp (s : State) (d : Fin 17) (f : Sched → Sched) : (s.modSched d f).grp = s.grp := rfl
@[simp] theorem State.modSched_store (s : State) (d : Fin 17) (f : Sched → Sched) : (s.modSched d f).store = s.store := rfl
@[simp] theorem State.modSched_red (s : State) (d : Fin 17) (f : Sched → Sched) : (s.modSched d f).red = s.red := rfl
@[simp] theorem State.modSched_pt (s : State) (d : Fin 17) (f : Sched → Sched) : (s.modSched d f).pt = s.pt := rfl
@[simp] theorem State.modSched_vote (s : State) (d : Fin 17) (f : Sched → Sched) : (s.modSched d f).vote = s.vote := rfl
@[simp] theorem State.modSched_lnk (s : State) (d : Fin 17) (f : Sched → Sched) : (s.modSched d f).lnk = s.lnk := rfl
@[simp] theorem State.modSched_hsp (s : State) (d : Fin 17) (f : Sched → Sched) : (s.modSched d f).hsp = s.hsp := rfl
@[simp] theorem State.modSched_tap (s : State) (d : Fin 17) (f : Sched → Sched) : (s.modSched d f).tap = s.tap := rfl
@[simp] theorem State.modSched_eth (s : State) (d : Fin 17) (f : Sched → Sched) : (s.modSched d f).eth = s.eth := rfl
@[simp] theorem State.modSched_can (s : State) (d : Fin 17) (f : Sched → Sched) : (s.modSched d f).can = s.can := rfl
@[simp] theorem State.modSched_tq (s : State) (d : Fin 17) (f : Sched → Sched) : (s.modSched d f).tq = s.tq := rfl
@[simp] theorem State.modSched_time (s : State) (d : Fin 17) (f : Sched → Sched) : (s.modSched d f).time = s.time := rfl
@[simp] theorem State.modSched_mgmt (s : State) (d : Fin 17) (f : Sched → Sched) : (s.modSched d f).mgmt = s.mgmt := rfl
@[simp] theorem State.modSched_log (s : State) (d : Fin 17) (f : Sched → Sched) : (s.modSched d f).log = s.log := rfl
@[simp] theorem State.modSched_upd (s : State) (d : Fin 17) (f : Sched → Sched) : (s.modSched d f).upd = s.upd := rfl
@[simp] theorem State.modSched_sec (s : State) (d : Fin 17) (f : Sched → Sched) : (s.modSched d f).sec = s.sec := rfl
@[simp] theorem State.modSched_sup (s : State) (d : Fin 17) (f : Sched → Sched) : (s.modSched d f).sup = s.sup := rfl
@[simp] theorem State.modSched_reg (s : State) (d : Fin 17) (f : Sched → Sched) (k : Key) : (s.modSched d f).reg k = s.reg k := rfl

/-! `modVote` changes `vote` only. -/

@[simp] theorem State.modVote_pending (s : State) (n : ChId) (f : Vote → Vote) : (s.modVote n f).pending = s.pending := rfl
@[simp] theorem State.modVote_now (s : State) (n : ChId) (f : Vote → Vote) : (s.modVote n f).now = s.now := rfl
@[simp] theorem State.modVote_fresh (s : State) (n : ChId) (f : Vote → Vote) : (s.modVote n f).fresh = s.fresh := rfl
@[simp] theorem State.modVote_frames (s : State) (n : ChId) (f : Vote → Vote) : (s.modVote n f).frames = s.frames := rfl
@[simp] theorem State.modVote_regs (s : State) (n : ChId) (f : Vote → Vote) : (s.modVote n f).regs = s.regs := rfl
@[simp] theorem State.modVote_ch (s : State) (n : ChId) (f : Vote → Vote) : (s.modVote n f).ch = s.ch := rfl
@[simp] theorem State.modVote_watch (s : State) (n : ChId) (f : Vote → Vote) : (s.modVote n f).watch = s.watch := rfl
@[simp] theorem State.modVote_front (s : State) (n : ChId) (f : Vote → Vote) : (s.modVote n f).front = s.front := rfl
@[simp] theorem State.modVote_cal (s : State) (n : ChId) (f : Vote → Vote) : (s.modVote n f).cal = s.cal := rfl
@[simp] theorem State.modVote_sets (s : State) (n : ChId) (f : Vote → Vote) : (s.modVote n f).sets = s.sets := rfl
@[simp] theorem State.modVote_bead (s : State) (n : ChId) (f : Vote → Vote) : (s.modVote n f).bead = s.bead := rfl
@[simp] theorem State.modVote_cap (s : State) (n : ChId) (f : Vote → Vote) : (s.modVote n f).cap = s.cap := rfl
@[simp] theorem State.modVote_exc (s : State) (n : ChId) (f : Vote → Vote) : (s.modVote n f).exc = s.exc := rfl
@[simp] theorem State.modVote_kelvin (s : State) (n : ChId) (f : Vote → Vote) : (s.modVote n f).kelvin = s.kelvin := rfl
@[simp] theorem State.modVote_glv (s : State) (n : ChId) (f : Vote → Vote) : (s.modVote n f).glv = s.glv := rfl
@[simp] theorem State.modVote_emu (s : State) (n : ChId) (f : Vote → Vote) : (s.modVote n f).emu = s.emu := rfl
@[simp] theorem State.modVote_psw (s : State) (n : ChId) (f : Vote → Vote) : (s.modVote n f).psw = s.psw := rfl
@[simp] theorem State.modVote_snap (s : State) (n : ChId) (f : Vote → Vote) : (s.modVote n f).snap = s.snap := rfl
@[simp] theorem State.modVote_pf (s : State) (n : ChId) (f : Vote → Vote) : (s.modVote n f).pf = s.pf := rfl
@[simp] theorem State.modVote_tal (s : State) (n : ChId) (f : Vote → Vote) : (s.modVote n f).tal = s.tal := rfl
@[simp] theorem State.modVote_fc (s : State) (n : ChId) (f : Vote → Vote) : (s.modVote n f).fc = s.fc := rfl
@[simp] theorem State.modVote_floor (s : State) (n : ChId) (f : Vote → Vote) : (s.modVote n f).floor = s.floor := rfl
@[simp] theorem State.modVote_dev (s : State) (n : ChId) (f : Vote → Vote) : (s.modVote n f).dev = s.dev := rfl
@[simp] theorem State.modVote_port (s : State) (n : ChId) (f : Vote → Vote) : (s.modVote n f).port = s.port := rfl
@[simp] theorem State.modVote_grp (s : State) (n : ChId) (f : Vote → Vote) : (s.modVote n f).grp = s.grp := rfl
@[simp] theorem State.modVote_store (s : State) (n : ChId) (f : Vote → Vote) : (s.modVote n f).store = s.store := rfl
@[simp] theorem State.modVote_red (s : State) (n : ChId) (f : Vote → Vote) : (s.modVote n f).red = s.red := rfl
@[simp] theorem State.modVote_pt (s : State) (n : ChId) (f : Vote → Vote) : (s.modVote n f).pt = s.pt := rfl
@[simp] theorem State.modVote_lnk (s : State) (n : ChId) (f : Vote → Vote) : (s.modVote n f).lnk = s.lnk := rfl
@[simp] theorem State.modVote_hsp (s : State) (n : ChId) (f : Vote → Vote) : (s.modVote n f).hsp = s.hsp := rfl
@[simp] theorem State.modVote_tap (s : State) (n : ChId) (f : Vote → Vote) : (s.modVote n f).tap = s.tap := rfl
@[simp] theorem State.modVote_eth (s : State) (n : ChId) (f : Vote → Vote) : (s.modVote n f).eth = s.eth := rfl
@[simp] theorem State.modVote_can (s : State) (n : ChId) (f : Vote → Vote) : (s.modVote n f).can = s.can := rfl
@[simp] theorem State.modVote_tq (s : State) (n : ChId) (f : Vote → Vote) : (s.modVote n f).tq = s.tq := rfl
@[simp] theorem State.modVote_time (s : State) (n : ChId) (f : Vote → Vote) : (s.modVote n f).time = s.time := rfl
@[simp] theorem State.modVote_mgmt (s : State) (n : ChId) (f : Vote → Vote) : (s.modVote n f).mgmt = s.mgmt := rfl
@[simp] theorem State.modVote_sched (s : State) (n : ChId) (f : Vote → Vote) : (s.modVote n f).sched = s.sched := rfl
@[simp] theorem State.modVote_log (s : State) (n : ChId) (f : Vote → Vote) : (s.modVote n f).log = s.log := rfl
@[simp] theorem State.modVote_upd (s : State) (n : ChId) (f : Vote → Vote) : (s.modVote n f).upd = s.upd := rfl
@[simp] theorem State.modVote_sec (s : State) (n : ChId) (f : Vote → Vote) : (s.modVote n f).sec = s.sec := rfl
@[simp] theorem State.modVote_sup (s : State) (n : ChId) (f : Vote → Vote) : (s.modVote n f).sup = s.sup := rfl
@[simp] theorem State.modVote_reg (s : State) (n : ChId) (f : Vote → Vote) (k : Key) : (s.modVote n f).reg k = s.reg k := rfl

/-! `modRed` changes `red` only. -/

@[simp] theorem State.modRed_pending (s : State) (f : Red → Red) : (s.modRed f).pending = s.pending := rfl
@[simp] theorem State.modRed_now (s : State) (f : Red → Red) : (s.modRed f).now = s.now := rfl
@[simp] theorem State.modRed_fresh (s : State) (f : Red → Red) : (s.modRed f).fresh = s.fresh := rfl
@[simp] theorem State.modRed_frames (s : State) (f : Red → Red) : (s.modRed f).frames = s.frames := rfl
@[simp] theorem State.modRed_regs (s : State) (f : Red → Red) : (s.modRed f).regs = s.regs := rfl
@[simp] theorem State.modRed_ch (s : State) (f : Red → Red) : (s.modRed f).ch = s.ch := rfl
@[simp] theorem State.modRed_watch (s : State) (f : Red → Red) : (s.modRed f).watch = s.watch := rfl
@[simp] theorem State.modRed_front (s : State) (f : Red → Red) : (s.modRed f).front = s.front := rfl
@[simp] theorem State.modRed_cal (s : State) (f : Red → Red) : (s.modRed f).cal = s.cal := rfl
@[simp] theorem State.modRed_sets (s : State) (f : Red → Red) : (s.modRed f).sets = s.sets := rfl
@[simp] theorem State.modRed_bead (s : State) (f : Red → Red) : (s.modRed f).bead = s.bead := rfl
@[simp] theorem State.modRed_cap (s : State) (f : Red → Red) : (s.modRed f).cap = s.cap := rfl
@[simp] theorem State.modRed_exc (s : State) (f : Red → Red) : (s.modRed f).exc = s.exc := rfl
@[simp] theorem State.modRed_kelvin (s : State) (f : Red → Red) : (s.modRed f).kelvin = s.kelvin := rfl
@[simp] theorem State.modRed_glv (s : State) (f : Red → Red) : (s.modRed f).glv = s.glv := rfl
@[simp] theorem State.modRed_emu (s : State) (f : Red → Red) : (s.modRed f).emu = s.emu := rfl
@[simp] theorem State.modRed_psw (s : State) (f : Red → Red) : (s.modRed f).psw = s.psw := rfl
@[simp] theorem State.modRed_snap (s : State) (f : Red → Red) : (s.modRed f).snap = s.snap := rfl
@[simp] theorem State.modRed_pf (s : State) (f : Red → Red) : (s.modRed f).pf = s.pf := rfl
@[simp] theorem State.modRed_tal (s : State) (f : Red → Red) : (s.modRed f).tal = s.tal := rfl
@[simp] theorem State.modRed_fc (s : State) (f : Red → Red) : (s.modRed f).fc = s.fc := rfl
@[simp] theorem State.modRed_floor (s : State) (f : Red → Red) : (s.modRed f).floor = s.floor := rfl
@[simp] theorem State.modRed_dev (s : State) (f : Red → Red) : (s.modRed f).dev = s.dev := rfl
@[simp] theorem State.modRed_port (s : State) (f : Red → Red) : (s.modRed f).port = s.port := rfl
@[simp] theorem State.modRed_grp (s : State) (f : Red → Red) : (s.modRed f).grp = s.grp := rfl
@[simp] theorem State.modRed_store (s : State) (f : Red → Red) : (s.modRed f).store = s.store := rfl
@[simp] theorem State.modRed_pt (s : State) (f : Red → Red) : (s.modRed f).pt = s.pt := rfl
@[simp] theorem State.modRed_vote (s : State) (f : Red → Red) : (s.modRed f).vote = s.vote := rfl
@[simp] theorem State.modRed_lnk (s : State) (f : Red → Red) : (s.modRed f).lnk = s.lnk := rfl
@[simp] theorem State.modRed_hsp (s : State) (f : Red → Red) : (s.modRed f).hsp = s.hsp := rfl
@[simp] theorem State.modRed_tap (s : State) (f : Red → Red) : (s.modRed f).tap = s.tap := rfl
@[simp] theorem State.modRed_eth (s : State) (f : Red → Red) : (s.modRed f).eth = s.eth := rfl
@[simp] theorem State.modRed_can (s : State) (f : Red → Red) : (s.modRed f).can = s.can := rfl
@[simp] theorem State.modRed_tq (s : State) (f : Red → Red) : (s.modRed f).tq = s.tq := rfl
@[simp] theorem State.modRed_time (s : State) (f : Red → Red) : (s.modRed f).time = s.time := rfl
@[simp] theorem State.modRed_mgmt (s : State) (f : Red → Red) : (s.modRed f).mgmt = s.mgmt := rfl
@[simp] theorem State.modRed_sched (s : State) (f : Red → Red) : (s.modRed f).sched = s.sched := rfl
@[simp] theorem State.modRed_log (s : State) (f : Red → Red) : (s.modRed f).log = s.log := rfl
@[simp] theorem State.modRed_upd (s : State) (f : Red → Red) : (s.modRed f).upd = s.upd := rfl
@[simp] theorem State.modRed_sec (s : State) (f : Red → Red) : (s.modRed f).sec = s.sec := rfl
@[simp] theorem State.modRed_sup (s : State) (f : Red → Red) : (s.modRed f).sup = s.sup := rfl
@[simp] theorem State.modRed_reg (s : State) (f : Red → Red) (k : Key) : (s.modRed f).reg k = s.reg k := rfl

/-! `modDev` changes `dev` only. -/

@[simp] theorem State.modDev_pending (s : State) (f : Device → Device) : (s.modDev f).pending = s.pending := rfl
@[simp] theorem State.modDev_now (s : State) (f : Device → Device) : (s.modDev f).now = s.now := rfl
@[simp] theorem State.modDev_fresh (s : State) (f : Device → Device) : (s.modDev f).fresh = s.fresh := rfl
@[simp] theorem State.modDev_frames (s : State) (f : Device → Device) : (s.modDev f).frames = s.frames := rfl
@[simp] theorem State.modDev_regs (s : State) (f : Device → Device) : (s.modDev f).regs = s.regs := rfl
@[simp] theorem State.modDev_ch (s : State) (f : Device → Device) : (s.modDev f).ch = s.ch := rfl
@[simp] theorem State.modDev_watch (s : State) (f : Device → Device) : (s.modDev f).watch = s.watch := rfl
@[simp] theorem State.modDev_front (s : State) (f : Device → Device) : (s.modDev f).front = s.front := rfl
@[simp] theorem State.modDev_cal (s : State) (f : Device → Device) : (s.modDev f).cal = s.cal := rfl
@[simp] theorem State.modDev_sets (s : State) (f : Device → Device) : (s.modDev f).sets = s.sets := rfl
@[simp] theorem State.modDev_bead (s : State) (f : Device → Device) : (s.modDev f).bead = s.bead := rfl
@[simp] theorem State.modDev_cap (s : State) (f : Device → Device) : (s.modDev f).cap = s.cap := rfl
@[simp] theorem State.modDev_exc (s : State) (f : Device → Device) : (s.modDev f).exc = s.exc := rfl
@[simp] theorem State.modDev_kelvin (s : State) (f : Device → Device) : (s.modDev f).kelvin = s.kelvin := rfl
@[simp] theorem State.modDev_glv (s : State) (f : Device → Device) : (s.modDev f).glv = s.glv := rfl
@[simp] theorem State.modDev_emu (s : State) (f : Device → Device) : (s.modDev f).emu = s.emu := rfl
@[simp] theorem State.modDev_psw (s : State) (f : Device → Device) : (s.modDev f).psw = s.psw := rfl
@[simp] theorem State.modDev_snap (s : State) (f : Device → Device) : (s.modDev f).snap = s.snap := rfl
@[simp] theorem State.modDev_pf (s : State) (f : Device → Device) : (s.modDev f).pf = s.pf := rfl
@[simp] theorem State.modDev_tal (s : State) (f : Device → Device) : (s.modDev f).tal = s.tal := rfl
@[simp] theorem State.modDev_fc (s : State) (f : Device → Device) : (s.modDev f).fc = s.fc := rfl
@[simp] theorem State.modDev_floor (s : State) (f : Device → Device) : (s.modDev f).floor = s.floor := rfl
@[simp] theorem State.modDev_port (s : State) (f : Device → Device) : (s.modDev f).port = s.port := rfl
@[simp] theorem State.modDev_grp (s : State) (f : Device → Device) : (s.modDev f).grp = s.grp := rfl
@[simp] theorem State.modDev_store (s : State) (f : Device → Device) : (s.modDev f).store = s.store := rfl
@[simp] theorem State.modDev_red (s : State) (f : Device → Device) : (s.modDev f).red = s.red := rfl
@[simp] theorem State.modDev_pt (s : State) (f : Device → Device) : (s.modDev f).pt = s.pt := rfl
@[simp] theorem State.modDev_vote (s : State) (f : Device → Device) : (s.modDev f).vote = s.vote := rfl
@[simp] theorem State.modDev_lnk (s : State) (f : Device → Device) : (s.modDev f).lnk = s.lnk := rfl
@[simp] theorem State.modDev_hsp (s : State) (f : Device → Device) : (s.modDev f).hsp = s.hsp := rfl
@[simp] theorem State.modDev_tap (s : State) (f : Device → Device) : (s.modDev f).tap = s.tap := rfl
@[simp] theorem State.modDev_eth (s : State) (f : Device → Device) : (s.modDev f).eth = s.eth := rfl
@[simp] theorem State.modDev_can (s : State) (f : Device → Device) : (s.modDev f).can = s.can := rfl
@[simp] theorem State.modDev_tq (s : State) (f : Device → Device) : (s.modDev f).tq = s.tq := rfl
@[simp] theorem State.modDev_time (s : State) (f : Device → Device) : (s.modDev f).time = s.time := rfl
@[simp] theorem State.modDev_mgmt (s : State) (f : Device → Device) : (s.modDev f).mgmt = s.mgmt := rfl
@[simp] theorem State.modDev_sched (s : State) (f : Device → Device) : (s.modDev f).sched = s.sched := rfl
@[simp] theorem State.modDev_log (s : State) (f : Device → Device) : (s.modDev f).log = s.log := rfl
@[simp] theorem State.modDev_upd (s : State) (f : Device → Device) : (s.modDev f).upd = s.upd := rfl
@[simp] theorem State.modDev_sec (s : State) (f : Device → Device) : (s.modDev f).sec = s.sec := rfl
@[simp] theorem State.modDev_sup (s : State) (f : Device → Device) : (s.modDev f).sup = s.sup := rfl
@[simp] theorem State.modDev_reg (s : State) (f : Device → Device) (k : Key) : (s.modDev f).reg k = s.reg k := rfl

/-! `modFloor` changes `floor` only. -/

@[simp] theorem State.modFloor_pending (s : State) (f : Floor → Floor) : (s.modFloor f).pending = s.pending := rfl
@[simp] theorem State.modFloor_now (s : State) (f : Floor → Floor) : (s.modFloor f).now = s.now := rfl
@[simp] theorem State.modFloor_fresh (s : State) (f : Floor → Floor) : (s.modFloor f).fresh = s.fresh := rfl
@[simp] theorem State.modFloor_frames (s : State) (f : Floor → Floor) : (s.modFloor f).frames = s.frames := rfl
@[simp] theorem State.modFloor_regs (s : State) (f : Floor → Floor) : (s.modFloor f).regs = s.regs := rfl
@[simp] theorem State.modFloor_ch (s : State) (f : Floor → Floor) : (s.modFloor f).ch = s.ch := rfl
@[simp] theorem State.modFloor_watch (s : State) (f : Floor → Floor) : (s.modFloor f).watch = s.watch := rfl
@[simp] theorem State.modFloor_front (s : State) (f : Floor → Floor) : (s.modFloor f).front = s.front := rfl
@[simp] theorem State.modFloor_cal (s : State) (f : Floor → Floor) : (s.modFloor f).cal = s.cal := rfl
@[simp] theorem State.modFloor_sets (s : State) (f : Floor → Floor) : (s.modFloor f).sets = s.sets := rfl
@[simp] theorem State.modFloor_bead (s : State) (f : Floor → Floor) : (s.modFloor f).bead = s.bead := rfl
@[simp] theorem State.modFloor_cap (s : State) (f : Floor → Floor) : (s.modFloor f).cap = s.cap := rfl
@[simp] theorem State.modFloor_exc (s : State) (f : Floor → Floor) : (s.modFloor f).exc = s.exc := rfl
@[simp] theorem State.modFloor_kelvin (s : State) (f : Floor → Floor) : (s.modFloor f).kelvin = s.kelvin := rfl
@[simp] theorem State.modFloor_glv (s : State) (f : Floor → Floor) : (s.modFloor f).glv = s.glv := rfl
@[simp] theorem State.modFloor_emu (s : State) (f : Floor → Floor) : (s.modFloor f).emu = s.emu := rfl
@[simp] theorem State.modFloor_psw (s : State) (f : Floor → Floor) : (s.modFloor f).psw = s.psw := rfl
@[simp] theorem State.modFloor_snap (s : State) (f : Floor → Floor) : (s.modFloor f).snap = s.snap := rfl
@[simp] theorem State.modFloor_pf (s : State) (f : Floor → Floor) : (s.modFloor f).pf = s.pf := rfl
@[simp] theorem State.modFloor_tal (s : State) (f : Floor → Floor) : (s.modFloor f).tal = s.tal := rfl
@[simp] theorem State.modFloor_fc (s : State) (f : Floor → Floor) : (s.modFloor f).fc = s.fc := rfl
@[simp] theorem State.modFloor_dev (s : State) (f : Floor → Floor) : (s.modFloor f).dev = s.dev := rfl
@[simp] theorem State.modFloor_port (s : State) (f : Floor → Floor) : (s.modFloor f).port = s.port := rfl
@[simp] theorem State.modFloor_grp (s : State) (f : Floor → Floor) : (s.modFloor f).grp = s.grp := rfl
@[simp] theorem State.modFloor_store (s : State) (f : Floor → Floor) : (s.modFloor f).store = s.store := rfl
@[simp] theorem State.modFloor_red (s : State) (f : Floor → Floor) : (s.modFloor f).red = s.red := rfl
@[simp] theorem State.modFloor_pt (s : State) (f : Floor → Floor) : (s.modFloor f).pt = s.pt := rfl
@[simp] theorem State.modFloor_vote (s : State) (f : Floor → Floor) : (s.modFloor f).vote = s.vote := rfl
@[simp] theorem State.modFloor_lnk (s : State) (f : Floor → Floor) : (s.modFloor f).lnk = s.lnk := rfl
@[simp] theorem State.modFloor_hsp (s : State) (f : Floor → Floor) : (s.modFloor f).hsp = s.hsp := rfl
@[simp] theorem State.modFloor_tap (s : State) (f : Floor → Floor) : (s.modFloor f).tap = s.tap := rfl
@[simp] theorem State.modFloor_eth (s : State) (f : Floor → Floor) : (s.modFloor f).eth = s.eth := rfl
@[simp] theorem State.modFloor_can (s : State) (f : Floor → Floor) : (s.modFloor f).can = s.can := rfl
@[simp] theorem State.modFloor_tq (s : State) (f : Floor → Floor) : (s.modFloor f).tq = s.tq := rfl
@[simp] theorem State.modFloor_time (s : State) (f : Floor → Floor) : (s.modFloor f).time = s.time := rfl
@[simp] theorem State.modFloor_mgmt (s : State) (f : Floor → Floor) : (s.modFloor f).mgmt = s.mgmt := rfl
@[simp] theorem State.modFloor_sched (s : State) (f : Floor → Floor) : (s.modFloor f).sched = s.sched := rfl
@[simp] theorem State.modFloor_log (s : State) (f : Floor → Floor) : (s.modFloor f).log = s.log := rfl
@[simp] theorem State.modFloor_upd (s : State) (f : Floor → Floor) : (s.modFloor f).upd = s.upd := rfl
@[simp] theorem State.modFloor_sec (s : State) (f : Floor → Floor) : (s.modFloor f).sec = s.sec := rfl
@[simp] theorem State.modFloor_sup (s : State) (f : Floor → Floor) : (s.modFloor f).sup = s.sup := rfl
@[simp] theorem State.modFloor_reg (s : State) (f : Floor → Floor) (k : Key) : (s.modFloor f).reg k = s.reg k := rfl

/-! `modFc` changes `fc` only. -/

@[simp] theorem State.modFc_pending (s : State) (f : Collector → Collector) : (s.modFc f).pending = s.pending := rfl
@[simp] theorem State.modFc_now (s : State) (f : Collector → Collector) : (s.modFc f).now = s.now := rfl
@[simp] theorem State.modFc_fresh (s : State) (f : Collector → Collector) : (s.modFc f).fresh = s.fresh := rfl
@[simp] theorem State.modFc_frames (s : State) (f : Collector → Collector) : (s.modFc f).frames = s.frames := rfl
@[simp] theorem State.modFc_regs (s : State) (f : Collector → Collector) : (s.modFc f).regs = s.regs := rfl
@[simp] theorem State.modFc_ch (s : State) (f : Collector → Collector) : (s.modFc f).ch = s.ch := rfl
@[simp] theorem State.modFc_watch (s : State) (f : Collector → Collector) : (s.modFc f).watch = s.watch := rfl
@[simp] theorem State.modFc_front (s : State) (f : Collector → Collector) : (s.modFc f).front = s.front := rfl
@[simp] theorem State.modFc_cal (s : State) (f : Collector → Collector) : (s.modFc f).cal = s.cal := rfl
@[simp] theorem State.modFc_sets (s : State) (f : Collector → Collector) : (s.modFc f).sets = s.sets := rfl
@[simp] theorem State.modFc_bead (s : State) (f : Collector → Collector) : (s.modFc f).bead = s.bead := rfl
@[simp] theorem State.modFc_cap (s : State) (f : Collector → Collector) : (s.modFc f).cap = s.cap := rfl
@[simp] theorem State.modFc_exc (s : State) (f : Collector → Collector) : (s.modFc f).exc = s.exc := rfl
@[simp] theorem State.modFc_kelvin (s : State) (f : Collector → Collector) : (s.modFc f).kelvin = s.kelvin := rfl
@[simp] theorem State.modFc_glv (s : State) (f : Collector → Collector) : (s.modFc f).glv = s.glv := rfl
@[simp] theorem State.modFc_emu (s : State) (f : Collector → Collector) : (s.modFc f).emu = s.emu := rfl
@[simp] theorem State.modFc_psw (s : State) (f : Collector → Collector) : (s.modFc f).psw = s.psw := rfl
@[simp] theorem State.modFc_snap (s : State) (f : Collector → Collector) : (s.modFc f).snap = s.snap := rfl
@[simp] theorem State.modFc_pf (s : State) (f : Collector → Collector) : (s.modFc f).pf = s.pf := rfl
@[simp] theorem State.modFc_tal (s : State) (f : Collector → Collector) : (s.modFc f).tal = s.tal := rfl
@[simp] theorem State.modFc_floor (s : State) (f : Collector → Collector) : (s.modFc f).floor = s.floor := rfl
@[simp] theorem State.modFc_dev (s : State) (f : Collector → Collector) : (s.modFc f).dev = s.dev := rfl
@[simp] theorem State.modFc_port (s : State) (f : Collector → Collector) : (s.modFc f).port = s.port := rfl
@[simp] theorem State.modFc_grp (s : State) (f : Collector → Collector) : (s.modFc f).grp = s.grp := rfl
@[simp] theorem State.modFc_store (s : State) (f : Collector → Collector) : (s.modFc f).store = s.store := rfl
@[simp] theorem State.modFc_red (s : State) (f : Collector → Collector) : (s.modFc f).red = s.red := rfl
@[simp] theorem State.modFc_pt (s : State) (f : Collector → Collector) : (s.modFc f).pt = s.pt := rfl
@[simp] theorem State.modFc_vote (s : State) (f : Collector → Collector) : (s.modFc f).vote = s.vote := rfl
@[simp] theorem State.modFc_lnk (s : State) (f : Collector → Collector) : (s.modFc f).lnk = s.lnk := rfl
@[simp] theorem State.modFc_hsp (s : State) (f : Collector → Collector) : (s.modFc f).hsp = s.hsp := rfl
@[simp] theorem State.modFc_tap (s : State) (f : Collector → Collector) : (s.modFc f).tap = s.tap := rfl
@[simp] theorem State.modFc_eth (s : State) (f : Collector → Collector) : (s.modFc f).eth = s.eth := rfl
@[simp] theorem State.modFc_can (s : State) (f : Collector → Collector) : (s.modFc f).can = s.can := rfl
@[simp] theorem State.modFc_tq (s : State) (f : Collector → Collector) : (s.modFc f).tq = s.tq := rfl
@[simp] theorem State.modFc_time (s : State) (f : Collector → Collector) : (s.modFc f).time = s.time := rfl
@[simp] theorem State.modFc_mgmt (s : State) (f : Collector → Collector) : (s.modFc f).mgmt = s.mgmt := rfl
@[simp] theorem State.modFc_sched (s : State) (f : Collector → Collector) : (s.modFc f).sched = s.sched := rfl
@[simp] theorem State.modFc_log (s : State) (f : Collector → Collector) : (s.modFc f).log = s.log := rfl
@[simp] theorem State.modFc_upd (s : State) (f : Collector → Collector) : (s.modFc f).upd = s.upd := rfl
@[simp] theorem State.modFc_sec (s : State) (f : Collector → Collector) : (s.modFc f).sec = s.sec := rfl
@[simp] theorem State.modFc_sup (s : State) (f : Collector → Collector) : (s.modFc f).sup = s.sup := rfl
@[simp] theorem State.modFc_reg (s : State) (f : Collector → Collector) (k : Key) : (s.modFc f).reg k = s.reg k := rfl

/-! `modSup` changes `sup` only. -/

@[simp] theorem State.modSup_pending (s : State) (f : Sup → Sup) : (s.modSup f).pending = s.pending := rfl
@[simp] theorem State.modSup_now (s : State) (f : Sup → Sup) : (s.modSup f).now = s.now := rfl
@[simp] theorem State.modSup_fresh (s : State) (f : Sup → Sup) : (s.modSup f).fresh = s.fresh := rfl
@[simp] theorem State.modSup_frames (s : State) (f : Sup → Sup) : (s.modSup f).frames = s.frames := rfl
@[simp] theorem State.modSup_regs (s : State) (f : Sup → Sup) : (s.modSup f).regs = s.regs := rfl
@[simp] theorem State.modSup_ch (s : State) (f : Sup → Sup) : (s.modSup f).ch = s.ch := rfl
@[simp] theorem State.modSup_watch (s : State) (f : Sup → Sup) : (s.modSup f).watch = s.watch := rfl
@[simp] theorem State.modSup_front (s : State) (f : Sup → Sup) : (s.modSup f).front = s.front := rfl
@[simp] theorem State.modSup_cal (s : State) (f : Sup → Sup) : (s.modSup f).cal = s.cal := rfl
@[simp] theorem State.modSup_sets (s : State) (f : Sup → Sup) : (s.modSup f).sets = s.sets := rfl
@[simp] theorem State.modSup_bead (s : State) (f : Sup → Sup) : (s.modSup f).bead = s.bead := rfl
@[simp] theorem State.modSup_cap (s : State) (f : Sup → Sup) : (s.modSup f).cap = s.cap := rfl
@[simp] theorem State.modSup_exc (s : State) (f : Sup → Sup) : (s.modSup f).exc = s.exc := rfl
@[simp] theorem State.modSup_kelvin (s : State) (f : Sup → Sup) : (s.modSup f).kelvin = s.kelvin := rfl
@[simp] theorem State.modSup_glv (s : State) (f : Sup → Sup) : (s.modSup f).glv = s.glv := rfl
@[simp] theorem State.modSup_emu (s : State) (f : Sup → Sup) : (s.modSup f).emu = s.emu := rfl
@[simp] theorem State.modSup_psw (s : State) (f : Sup → Sup) : (s.modSup f).psw = s.psw := rfl
@[simp] theorem State.modSup_snap (s : State) (f : Sup → Sup) : (s.modSup f).snap = s.snap := rfl
@[simp] theorem State.modSup_pf (s : State) (f : Sup → Sup) : (s.modSup f).pf = s.pf := rfl
@[simp] theorem State.modSup_tal (s : State) (f : Sup → Sup) : (s.modSup f).tal = s.tal := rfl
@[simp] theorem State.modSup_fc (s : State) (f : Sup → Sup) : (s.modSup f).fc = s.fc := rfl
@[simp] theorem State.modSup_floor (s : State) (f : Sup → Sup) : (s.modSup f).floor = s.floor := rfl
@[simp] theorem State.modSup_dev (s : State) (f : Sup → Sup) : (s.modSup f).dev = s.dev := rfl
@[simp] theorem State.modSup_port (s : State) (f : Sup → Sup) : (s.modSup f).port = s.port := rfl
@[simp] theorem State.modSup_grp (s : State) (f : Sup → Sup) : (s.modSup f).grp = s.grp := rfl
@[simp] theorem State.modSup_store (s : State) (f : Sup → Sup) : (s.modSup f).store = s.store := rfl
@[simp] theorem State.modSup_red (s : State) (f : Sup → Sup) : (s.modSup f).red = s.red := rfl
@[simp] theorem State.modSup_pt (s : State) (f : Sup → Sup) : (s.modSup f).pt = s.pt := rfl
@[simp] theorem State.modSup_vote (s : State) (f : Sup → Sup) : (s.modSup f).vote = s.vote := rfl
@[simp] theorem State.modSup_lnk (s : State) (f : Sup → Sup) : (s.modSup f).lnk = s.lnk := rfl
@[simp] theorem State.modSup_hsp (s : State) (f : Sup → Sup) : (s.modSup f).hsp = s.hsp := rfl
@[simp] theorem State.modSup_tap (s : State) (f : Sup → Sup) : (s.modSup f).tap = s.tap := rfl
@[simp] theorem State.modSup_eth (s : State) (f : Sup → Sup) : (s.modSup f).eth = s.eth := rfl
@[simp] theorem State.modSup_can (s : State) (f : Sup → Sup) : (s.modSup f).can = s.can := rfl
@[simp] theorem State.modSup_tq (s : State) (f : Sup → Sup) : (s.modSup f).tq = s.tq := rfl
@[simp] theorem State.modSup_time (s : State) (f : Sup → Sup) : (s.modSup f).time = s.time := rfl
@[simp] theorem State.modSup_mgmt (s : State) (f : Sup → Sup) : (s.modSup f).mgmt = s.mgmt := rfl
@[simp] theorem State.modSup_sched (s : State) (f : Sup → Sup) : (s.modSup f).sched = s.sched := rfl
@[simp] theorem State.modSup_log (s : State) (f : Sup → Sup) : (s.modSup f).log = s.log := rfl
@[simp] theorem State.modSup_upd (s : State) (f : Sup → Sup) : (s.modSup f).upd = s.upd := rfl
@[simp] theorem State.modSup_sec (s : State) (f : Sup → Sup) : (s.modSup f).sec = s.sec := rfl
@[simp] theorem State.modSup_reg (s : State) (f : Sup → Sup) (k : Key) : (s.modSup f).reg k = s.reg k := rfl

/-! `modSec` changes `sec` only. -/

@[simp] theorem State.modSec_pending (s : State) (f : Sec → Sec) : (s.modSec f).pending = s.pending := rfl
@[simp] theorem State.modSec_now (s : State) (f : Sec → Sec) : (s.modSec f).now = s.now := rfl
@[simp] theorem State.modSec_fresh (s : State) (f : Sec → Sec) : (s.modSec f).fresh = s.fresh := rfl
@[simp] theorem State.modSec_frames (s : State) (f : Sec → Sec) : (s.modSec f).frames = s.frames := rfl
@[simp] theorem State.modSec_regs (s : State) (f : Sec → Sec) : (s.modSec f).regs = s.regs := rfl
@[simp] theorem State.modSec_ch (s : State) (f : Sec → Sec) : (s.modSec f).ch = s.ch := rfl
@[simp] theorem State.modSec_watch (s : State) (f : Sec → Sec) : (s.modSec f).watch = s.watch := rfl
@[simp] theorem State.modSec_front (s : State) (f : Sec → Sec) : (s.modSec f).front = s.front := rfl
@[simp] theorem State.modSec_cal (s : State) (f : Sec → Sec) : (s.modSec f).cal = s.cal := rfl
@[simp] theorem State.modSec_sets (s : State) (f : Sec → Sec) : (s.modSec f).sets = s.sets := rfl
@[simp] theorem State.modSec_bead (s : State) (f : Sec → Sec) : (s.modSec f).bead = s.bead := rfl
@[simp] theorem State.modSec_cap (s : State) (f : Sec → Sec) : (s.modSec f).cap = s.cap := rfl
@[simp] theorem State.modSec_exc (s : State) (f : Sec → Sec) : (s.modSec f).exc = s.exc := rfl
@[simp] theorem State.modSec_kelvin (s : State) (f : Sec → Sec) : (s.modSec f).kelvin = s.kelvin := rfl
@[simp] theorem State.modSec_glv (s : State) (f : Sec → Sec) : (s.modSec f).glv = s.glv := rfl
@[simp] theorem State.modSec_emu (s : State) (f : Sec → Sec) : (s.modSec f).emu = s.emu := rfl
@[simp] theorem State.modSec_psw (s : State) (f : Sec → Sec) : (s.modSec f).psw = s.psw := rfl
@[simp] theorem State.modSec_snap (s : State) (f : Sec → Sec) : (s.modSec f).snap = s.snap := rfl
@[simp] theorem State.modSec_pf (s : State) (f : Sec → Sec) : (s.modSec f).pf = s.pf := rfl
@[simp] theorem State.modSec_tal (s : State) (f : Sec → Sec) : (s.modSec f).tal = s.tal := rfl
@[simp] theorem State.modSec_fc (s : State) (f : Sec → Sec) : (s.modSec f).fc = s.fc := rfl
@[simp] theorem State.modSec_floor (s : State) (f : Sec → Sec) : (s.modSec f).floor = s.floor := rfl
@[simp] theorem State.modSec_dev (s : State) (f : Sec → Sec) : (s.modSec f).dev = s.dev := rfl
@[simp] theorem State.modSec_port (s : State) (f : Sec → Sec) : (s.modSec f).port = s.port := rfl
@[simp] theorem State.modSec_grp (s : State) (f : Sec → Sec) : (s.modSec f).grp = s.grp := rfl
@[simp] theorem State.modSec_store (s : State) (f : Sec → Sec) : (s.modSec f).store = s.store := rfl
@[simp] theorem State.modSec_red (s : State) (f : Sec → Sec) : (s.modSec f).red = s.red := rfl
@[simp] theorem State.modSec_pt (s : State) (f : Sec → Sec) : (s.modSec f).pt = s.pt := rfl
@[simp] theorem State.modSec_vote (s : State) (f : Sec → Sec) : (s.modSec f).vote = s.vote := rfl
@[simp] theorem State.modSec_lnk (s : State) (f : Sec → Sec) : (s.modSec f).lnk = s.lnk := rfl
@[simp] theorem State.modSec_hsp (s : State) (f : Sec → Sec) : (s.modSec f).hsp = s.hsp := rfl
@[simp] theorem State.modSec_tap (s : State) (f : Sec → Sec) : (s.modSec f).tap = s.tap := rfl
@[simp] theorem State.modSec_eth (s : State) (f : Sec → Sec) : (s.modSec f).eth = s.eth := rfl
@[simp] theorem State.modSec_can (s : State) (f : Sec → Sec) : (s.modSec f).can = s.can := rfl
@[simp] theorem State.modSec_tq (s : State) (f : Sec → Sec) : (s.modSec f).tq = s.tq := rfl
@[simp] theorem State.modSec_time (s : State) (f : Sec → Sec) : (s.modSec f).time = s.time := rfl
@[simp] theorem State.modSec_mgmt (s : State) (f : Sec → Sec) : (s.modSec f).mgmt = s.mgmt := rfl
@[simp] theorem State.modSec_sched (s : State) (f : Sec → Sec) : (s.modSec f).sched = s.sched := rfl
@[simp] theorem State.modSec_log (s : State) (f : Sec → Sec) : (s.modSec f).log = s.log := rfl
@[simp] theorem State.modSec_upd (s : State) (f : Sec → Sec) : (s.modSec f).upd = s.upd := rfl
@[simp] theorem State.modSec_sup (s : State) (f : Sec → Sec) : (s.modSec f).sup = s.sup := rfl
@[simp] theorem State.modSec_reg (s : State) (f : Sec → Sec) (k : Key) : (s.modSec f).reg k = s.reg k := rfl

/-! `modUpd` changes `upd` only. -/

@[simp] theorem State.modUpd_pending (s : State) (f : Upd → Upd) : (s.modUpd f).pending = s.pending := rfl
@[simp] theorem State.modUpd_now (s : State) (f : Upd → Upd) : (s.modUpd f).now = s.now := rfl
@[simp] theorem State.modUpd_fresh (s : State) (f : Upd → Upd) : (s.modUpd f).fresh = s.fresh := rfl
@[simp] theorem State.modUpd_frames (s : State) (f : Upd → Upd) : (s.modUpd f).frames = s.frames := rfl
@[simp] theorem State.modUpd_regs (s : State) (f : Upd → Upd) : (s.modUpd f).regs = s.regs := rfl
@[simp] theorem State.modUpd_ch (s : State) (f : Upd → Upd) : (s.modUpd f).ch = s.ch := rfl
@[simp] theorem State.modUpd_watch (s : State) (f : Upd → Upd) : (s.modUpd f).watch = s.watch := rfl
@[simp] theorem State.modUpd_front (s : State) (f : Upd → Upd) : (s.modUpd f).front = s.front := rfl
@[simp] theorem State.modUpd_cal (s : State) (f : Upd → Upd) : (s.modUpd f).cal = s.cal := rfl
@[simp] theorem State.modUpd_sets (s : State) (f : Upd → Upd) : (s.modUpd f).sets = s.sets := rfl
@[simp] theorem State.modUpd_bead (s : State) (f : Upd → Upd) : (s.modUpd f).bead = s.bead := rfl
@[simp] theorem State.modUpd_cap (s : State) (f : Upd → Upd) : (s.modUpd f).cap = s.cap := rfl
@[simp] theorem State.modUpd_exc (s : State) (f : Upd → Upd) : (s.modUpd f).exc = s.exc := rfl
@[simp] theorem State.modUpd_kelvin (s : State) (f : Upd → Upd) : (s.modUpd f).kelvin = s.kelvin := rfl
@[simp] theorem State.modUpd_glv (s : State) (f : Upd → Upd) : (s.modUpd f).glv = s.glv := rfl
@[simp] theorem State.modUpd_emu (s : State) (f : Upd → Upd) : (s.modUpd f).emu = s.emu := rfl
@[simp] theorem State.modUpd_psw (s : State) (f : Upd → Upd) : (s.modUpd f).psw = s.psw := rfl
@[simp] theorem State.modUpd_snap (s : State) (f : Upd → Upd) : (s.modUpd f).snap = s.snap := rfl
@[simp] theorem State.modUpd_pf (s : State) (f : Upd → Upd) : (s.modUpd f).pf = s.pf := rfl
@[simp] theorem State.modUpd_tal (s : State) (f : Upd → Upd) : (s.modUpd f).tal = s.tal := rfl
@[simp] theorem State.modUpd_fc (s : State) (f : Upd → Upd) : (s.modUpd f).fc = s.fc := rfl
@[simp] theorem State.modUpd_floor (s : State) (f : Upd → Upd) : (s.modUpd f).floor = s.floor := rfl
@[simp] theorem State.modUpd_dev (s : State) (f : Upd → Upd) : (s.modUpd f).dev = s.dev := rfl
@[simp] theorem State.modUpd_port (s : State) (f : Upd → Upd) : (s.modUpd f).port = s.port := rfl
@[simp] theorem State.modUpd_grp (s : State) (f : Upd → Upd) : (s.modUpd f).grp = s.grp := rfl
@[simp] theorem State.modUpd_store (s : State) (f : Upd → Upd) : (s.modUpd f).store = s.store := rfl
@[simp] theorem State.modUpd_red (s : State) (f : Upd → Upd) : (s.modUpd f).red = s.red := rfl
@[simp] theorem State.modUpd_pt (s : State) (f : Upd → Upd) : (s.modUpd f).pt = s.pt := rfl
@[simp] theorem State.modUpd_vote (s : State) (f : Upd → Upd) : (s.modUpd f).vote = s.vote := rfl
@[simp] theorem State.modUpd_lnk (s : State) (f : Upd → Upd) : (s.modUpd f).lnk = s.lnk := rfl
@[simp] theorem State.modUpd_hsp (s : State) (f : Upd → Upd) : (s.modUpd f).hsp = s.hsp := rfl
@[simp] theorem State.modUpd_tap (s : State) (f : Upd → Upd) : (s.modUpd f).tap = s.tap := rfl
@[simp] theorem State.modUpd_eth (s : State) (f : Upd → Upd) : (s.modUpd f).eth = s.eth := rfl
@[simp] theorem State.modUpd_can (s : State) (f : Upd → Upd) : (s.modUpd f).can = s.can := rfl
@[simp] theorem State.modUpd_tq (s : State) (f : Upd → Upd) : (s.modUpd f).tq = s.tq := rfl
@[simp] theorem State.modUpd_time (s : State) (f : Upd → Upd) : (s.modUpd f).time = s.time := rfl
@[simp] theorem State.modUpd_mgmt (s : State) (f : Upd → Upd) : (s.modUpd f).mgmt = s.mgmt := rfl
@[simp] theorem State.modUpd_sched (s : State) (f : Upd → Upd) : (s.modUpd f).sched = s.sched := rfl
@[simp] theorem State.modUpd_log (s : State) (f : Upd → Upd) : (s.modUpd f).log = s.log := rfl
@[simp] theorem State.modUpd_sec (s : State) (f : Upd → Upd) : (s.modUpd f).sec = s.sec := rfl
@[simp] theorem State.modUpd_sup (s : State) (f : Upd → Upd) : (s.modUpd f).sup = s.sup := rfl
@[simp] theorem State.modUpd_reg (s : State) (f : Upd → Upd) (k : Key) : (s.modUpd f).reg k = s.reg k := rfl

/-! `modLog` changes `log` only. -/

@[simp] theorem State.modLog_pending (s : State) (f : Log → Log) : (s.modLog f).pending = s.pending := rfl
@[simp] theorem State.modLog_now (s : State) (f : Log → Log) : (s.modLog f).now = s.now := rfl
@[simp] theorem State.modLog_fresh (s : State) (f : Log → Log) : (s.modLog f).fresh = s.fresh := rfl
@[simp] theorem State.modLog_frames (s : State) (f : Log → Log) : (s.modLog f).frames = s.frames := rfl
@[simp] theorem State.modLog_regs (s : State) (f : Log → Log) : (s.modLog f).regs = s.regs := rfl
@[simp] theorem State.modLog_ch (s : State) (f : Log → Log) : (s.modLog f).ch = s.ch := rfl
@[simp] theorem State.modLog_watch (s : State) (f : Log → Log) : (s.modLog f).watch = s.watch := rfl
@[simp] theorem State.modLog_front (s : State) (f : Log → Log) : (s.modLog f).front = s.front := rfl
@[simp] theorem State.modLog_cal (s : State) (f : Log → Log) : (s.modLog f).cal = s.cal := rfl
@[simp] theorem State.modLog_sets (s : State) (f : Log → Log) : (s.modLog f).sets = s.sets := rfl
@[simp] theorem State.modLog_bead (s : State) (f : Log → Log) : (s.modLog f).bead = s.bead := rfl
@[simp] theorem State.modLog_cap (s : State) (f : Log → Log) : (s.modLog f).cap = s.cap := rfl
@[simp] theorem State.modLog_exc (s : State) (f : Log → Log) : (s.modLog f).exc = s.exc := rfl
@[simp] theorem State.modLog_kelvin (s : State) (f : Log → Log) : (s.modLog f).kelvin = s.kelvin := rfl
@[simp] theorem State.modLog_glv (s : State) (f : Log → Log) : (s.modLog f).glv = s.glv := rfl
@[simp] theorem State.modLog_emu (s : State) (f : Log → Log) : (s.modLog f).emu = s.emu := rfl
@[simp] theorem State.modLog_psw (s : State) (f : Log → Log) : (s.modLog f).psw = s.psw := rfl
@[simp] theorem State.modLog_snap (s : State) (f : Log → Log) : (s.modLog f).snap = s.snap := rfl
@[simp] theorem State.modLog_pf (s : State) (f : Log → Log) : (s.modLog f).pf = s.pf := rfl
@[simp] theorem State.modLog_tal (s : State) (f : Log → Log) : (s.modLog f).tal = s.tal := rfl
@[simp] theorem State.modLog_fc (s : State) (f : Log → Log) : (s.modLog f).fc = s.fc := rfl
@[simp] theorem State.modLog_floor (s : State) (f : Log → Log) : (s.modLog f).floor = s.floor := rfl
@[simp] theorem State.modLog_dev (s : State) (f : Log → Log) : (s.modLog f).dev = s.dev := rfl
@[simp] theorem State.modLog_port (s : State) (f : Log → Log) : (s.modLog f).port = s.port := rfl
@[simp] theorem State.modLog_grp (s : State) (f : Log → Log) : (s.modLog f).grp = s.grp := rfl
@[simp] theorem State.modLog_store (s : State) (f : Log → Log) : (s.modLog f).store = s.store := rfl
@[simp] theorem State.modLog_red (s : State) (f : Log → Log) : (s.modLog f).red = s.red := rfl
@[simp] theorem State.modLog_pt (s : State) (f : Log → Log) : (s.modLog f).pt = s.pt := rfl
@[simp] theorem State.modLog_vote (s : State) (f : Log → Log) : (s.modLog f).vote = s.vote := rfl
@[simp] theorem State.modLog_lnk (s : State) (f : Log → Log) : (s.modLog f).lnk = s.lnk := rfl
@[simp] theorem State.modLog_hsp (s : State) (f : Log → Log) : (s.modLog f).hsp = s.hsp := rfl
@[simp] theorem State.modLog_tap (s : State) (f : Log → Log) : (s.modLog f).tap = s.tap := rfl
@[simp] theorem State.modLog_eth (s : State) (f : Log → Log) : (s.modLog f).eth = s.eth := rfl
@[simp] theorem State.modLog_can (s : State) (f : Log → Log) : (s.modLog f).can = s.can := rfl
@[simp] theorem State.modLog_tq (s : State) (f : Log → Log) : (s.modLog f).tq = s.tq := rfl
@[simp] theorem State.modLog_time (s : State) (f : Log → Log) : (s.modLog f).time = s.time := rfl
@[simp] theorem State.modLog_mgmt (s : State) (f : Log → Log) : (s.modLog f).mgmt = s.mgmt := rfl
@[simp] theorem State.modLog_sched (s : State) (f : Log → Log) : (s.modLog f).sched = s.sched := rfl
@[simp] theorem State.modLog_upd (s : State) (f : Log → Log) : (s.modLog f).upd = s.upd := rfl
@[simp] theorem State.modLog_sec (s : State) (f : Log → Log) : (s.modLog f).sec = s.sec := rfl
@[simp] theorem State.modLog_sup (s : State) (f : Log → Log) : (s.modLog f).sup = s.sup := rfl
@[simp] theorem State.modLog_reg (s : State) (f : Log → Log) (k : Key) : (s.modLog f).reg k = s.reg k := rfl

/-! `modTime` changes `time` only. -/

@[simp] theorem State.modTime_pending (s : State) (f : TimeSt → TimeSt) : (s.modTime f).pending = s.pending := rfl
@[simp] theorem State.modTime_now (s : State) (f : TimeSt → TimeSt) : (s.modTime f).now = s.now := rfl
@[simp] theorem State.modTime_fresh (s : State) (f : TimeSt → TimeSt) : (s.modTime f).fresh = s.fresh := rfl
@[simp] theorem State.modTime_frames (s : State) (f : TimeSt → TimeSt) : (s.modTime f).frames = s.frames := rfl
@[simp] theorem State.modTime_regs (s : State) (f : TimeSt → TimeSt) : (s.modTime f).regs = s.regs := rfl
@[simp] theorem State.modTime_ch (s : State) (f : TimeSt → TimeSt) : (s.modTime f).ch = s.ch := rfl
@[simp] theorem State.modTime_watch (s : State) (f : TimeSt → TimeSt) : (s.modTime f).watch = s.watch := rfl
@[simp] theorem State.modTime_front (s : State) (f : TimeSt → TimeSt) : (s.modTime f).front = s.front := rfl
@[simp] theorem State.modTime_cal (s : State) (f : TimeSt → TimeSt) : (s.modTime f).cal = s.cal := rfl
@[simp] theorem State.modTime_sets (s : State) (f : TimeSt → TimeSt) : (s.modTime f).sets = s.sets := rfl
@[simp] theorem State.modTime_bead (s : State) (f : TimeSt → TimeSt) : (s.modTime f).bead = s.bead := rfl
@[simp] theorem State.modTime_cap (s : State) (f : TimeSt → TimeSt) : (s.modTime f).cap = s.cap := rfl
@[simp] theorem State.modTime_exc (s : State) (f : TimeSt → TimeSt) : (s.modTime f).exc = s.exc := rfl
@[simp] theorem State.modTime_kelvin (s : State) (f : TimeSt → TimeSt) : (s.modTime f).kelvin = s.kelvin := rfl
@[simp] theorem State.modTime_glv (s : State) (f : TimeSt → TimeSt) : (s.modTime f).glv = s.glv := rfl
@[simp] theorem State.modTime_emu (s : State) (f : TimeSt → TimeSt) : (s.modTime f).emu = s.emu := rfl
@[simp] theorem State.modTime_psw (s : State) (f : TimeSt → TimeSt) : (s.modTime f).psw = s.psw := rfl
@[simp] theorem State.modTime_snap (s : State) (f : TimeSt → TimeSt) : (s.modTime f).snap = s.snap := rfl
@[simp] theorem State.modTime_pf (s : State) (f : TimeSt → TimeSt) : (s.modTime f).pf = s.pf := rfl
@[simp] theorem State.modTime_tal (s : State) (f : TimeSt → TimeSt) : (s.modTime f).tal = s.tal := rfl
@[simp] theorem State.modTime_fc (s : State) (f : TimeSt → TimeSt) : (s.modTime f).fc = s.fc := rfl
@[simp] theorem State.modTime_floor (s : State) (f : TimeSt → TimeSt) : (s.modTime f).floor = s.floor := rfl
@[simp] theorem State.modTime_dev (s : State) (f : TimeSt → TimeSt) : (s.modTime f).dev = s.dev := rfl
@[simp] theorem State.modTime_port (s : State) (f : TimeSt → TimeSt) : (s.modTime f).port = s.port := rfl
@[simp] theorem State.modTime_grp (s : State) (f : TimeSt → TimeSt) : (s.modTime f).grp = s.grp := rfl
@[simp] theorem State.modTime_store (s : State) (f : TimeSt → TimeSt) : (s.modTime f).store = s.store := rfl
@[simp] theorem State.modTime_red (s : State) (f : TimeSt → TimeSt) : (s.modTime f).red = s.red := rfl
@[simp] theorem State.modTime_pt (s : State) (f : TimeSt → TimeSt) : (s.modTime f).pt = s.pt := rfl
@[simp] theorem State.modTime_vote (s : State) (f : TimeSt → TimeSt) : (s.modTime f).vote = s.vote := rfl
@[simp] theorem State.modTime_lnk (s : State) (f : TimeSt → TimeSt) : (s.modTime f).lnk = s.lnk := rfl
@[simp] theorem State.modTime_hsp (s : State) (f : TimeSt → TimeSt) : (s.modTime f).hsp = s.hsp := rfl
@[simp] theorem State.modTime_tap (s : State) (f : TimeSt → TimeSt) : (s.modTime f).tap = s.tap := rfl
@[simp] theorem State.modTime_eth (s : State) (f : TimeSt → TimeSt) : (s.modTime f).eth = s.eth := rfl
@[simp] theorem State.modTime_can (s : State) (f : TimeSt → TimeSt) : (s.modTime f).can = s.can := rfl
@[simp] theorem State.modTime_tq (s : State) (f : TimeSt → TimeSt) : (s.modTime f).tq = s.tq := rfl
@[simp] theorem State.modTime_mgmt (s : State) (f : TimeSt → TimeSt) : (s.modTime f).mgmt = s.mgmt := rfl
@[simp] theorem State.modTime_sched (s : State) (f : TimeSt → TimeSt) : (s.modTime f).sched = s.sched := rfl
@[simp] theorem State.modTime_log (s : State) (f : TimeSt → TimeSt) : (s.modTime f).log = s.log := rfl
@[simp] theorem State.modTime_upd (s : State) (f : TimeSt → TimeSt) : (s.modTime f).upd = s.upd := rfl
@[simp] theorem State.modTime_sec (s : State) (f : TimeSt → TimeSt) : (s.modTime f).sec = s.sec := rfl
@[simp] theorem State.modTime_sup (s : State) (f : TimeSt → TimeSt) : (s.modTime f).sup = s.sup := rfl
@[simp] theorem State.modTime_reg (s : State) (f : TimeSt → TimeSt) (k : Key) : (s.modTime f).reg k = s.reg k := rfl

/-! `modMgmt` changes `mgmt` only. -/

@[simp] theorem State.modMgmt_pending (s : State) (f : Mgmt → Mgmt) : (s.modMgmt f).pending = s.pending := rfl
@[simp] theorem State.modMgmt_now (s : State) (f : Mgmt → Mgmt) : (s.modMgmt f).now = s.now := rfl
@[simp] theorem State.modMgmt_fresh (s : State) (f : Mgmt → Mgmt) : (s.modMgmt f).fresh = s.fresh := rfl
@[simp] theorem State.modMgmt_frames (s : State) (f : Mgmt → Mgmt) : (s.modMgmt f).frames = s.frames := rfl
@[simp] theorem State.modMgmt_regs (s : State) (f : Mgmt → Mgmt) : (s.modMgmt f).regs = s.regs := rfl
@[simp] theorem State.modMgmt_ch (s : State) (f : Mgmt → Mgmt) : (s.modMgmt f).ch = s.ch := rfl
@[simp] theorem State.modMgmt_watch (s : State) (f : Mgmt → Mgmt) : (s.modMgmt f).watch = s.watch := rfl
@[simp] theorem State.modMgmt_front (s : State) (f : Mgmt → Mgmt) : (s.modMgmt f).front = s.front := rfl
@[simp] theorem State.modMgmt_cal (s : State) (f : Mgmt → Mgmt) : (s.modMgmt f).cal = s.cal := rfl
@[simp] theorem State.modMgmt_sets (s : State) (f : Mgmt → Mgmt) : (s.modMgmt f).sets = s.sets := rfl
@[simp] theorem State.modMgmt_bead (s : State) (f : Mgmt → Mgmt) : (s.modMgmt f).bead = s.bead := rfl
@[simp] theorem State.modMgmt_cap (s : State) (f : Mgmt → Mgmt) : (s.modMgmt f).cap = s.cap := rfl
@[simp] theorem State.modMgmt_exc (s : State) (f : Mgmt → Mgmt) : (s.modMgmt f).exc = s.exc := rfl
@[simp] theorem State.modMgmt_kelvin (s : State) (f : Mgmt → Mgmt) : (s.modMgmt f).kelvin = s.kelvin := rfl
@[simp] theorem State.modMgmt_glv (s : State) (f : Mgmt → Mgmt) : (s.modMgmt f).glv = s.glv := rfl
@[simp] theorem State.modMgmt_emu (s : State) (f : Mgmt → Mgmt) : (s.modMgmt f).emu = s.emu := rfl
@[simp] theorem State.modMgmt_psw (s : State) (f : Mgmt → Mgmt) : (s.modMgmt f).psw = s.psw := rfl
@[simp] theorem State.modMgmt_snap (s : State) (f : Mgmt → Mgmt) : (s.modMgmt f).snap = s.snap := rfl
@[simp] theorem State.modMgmt_pf (s : State) (f : Mgmt → Mgmt) : (s.modMgmt f).pf = s.pf := rfl
@[simp] theorem State.modMgmt_tal (s : State) (f : Mgmt → Mgmt) : (s.modMgmt f).tal = s.tal := rfl
@[simp] theorem State.modMgmt_fc (s : State) (f : Mgmt → Mgmt) : (s.modMgmt f).fc = s.fc := rfl
@[simp] theorem State.modMgmt_floor (s : State) (f : Mgmt → Mgmt) : (s.modMgmt f).floor = s.floor := rfl
@[simp] theorem State.modMgmt_dev (s : State) (f : Mgmt → Mgmt) : (s.modMgmt f).dev = s.dev := rfl
@[simp] theorem State.modMgmt_port (s : State) (f : Mgmt → Mgmt) : (s.modMgmt f).port = s.port := rfl
@[simp] theorem State.modMgmt_grp (s : State) (f : Mgmt → Mgmt) : (s.modMgmt f).grp = s.grp := rfl
@[simp] theorem State.modMgmt_store (s : State) (f : Mgmt → Mgmt) : (s.modMgmt f).store = s.store := rfl
@[simp] theorem State.modMgmt_red (s : State) (f : Mgmt → Mgmt) : (s.modMgmt f).red = s.red := rfl
@[simp] theorem State.modMgmt_pt (s : State) (f : Mgmt → Mgmt) : (s.modMgmt f).pt = s.pt := rfl
@[simp] theorem State.modMgmt_vote (s : State) (f : Mgmt → Mgmt) : (s.modMgmt f).vote = s.vote := rfl
@[simp] theorem State.modMgmt_lnk (s : State) (f : Mgmt → Mgmt) : (s.modMgmt f).lnk = s.lnk := rfl
@[simp] theorem State.modMgmt_hsp (s : State) (f : Mgmt → Mgmt) : (s.modMgmt f).hsp = s.hsp := rfl
@[simp] theorem State.modMgmt_tap (s : State) (f : Mgmt → Mgmt) : (s.modMgmt f).tap = s.tap := rfl
@[simp] theorem State.modMgmt_eth (s : State) (f : Mgmt → Mgmt) : (s.modMgmt f).eth = s.eth := rfl
@[simp] theorem State.modMgmt_can (s : State) (f : Mgmt → Mgmt) : (s.modMgmt f).can = s.can := rfl
@[simp] theorem State.modMgmt_tq (s : State) (f : Mgmt → Mgmt) : (s.modMgmt f).tq = s.tq := rfl
@[simp] theorem State.modMgmt_time (s : State) (f : Mgmt → Mgmt) : (s.modMgmt f).time = s.time := rfl
@[simp] theorem State.modMgmt_sched (s : State) (f : Mgmt → Mgmt) : (s.modMgmt f).sched = s.sched := rfl
@[simp] theorem State.modMgmt_log (s : State) (f : Mgmt → Mgmt) : (s.modMgmt f).log = s.log := rfl
@[simp] theorem State.modMgmt_upd (s : State) (f : Mgmt → Mgmt) : (s.modMgmt f).upd = s.upd := rfl
@[simp] theorem State.modMgmt_sec (s : State) (f : Mgmt → Mgmt) : (s.modMgmt f).sec = s.sec := rfl
@[simp] theorem State.modMgmt_sup (s : State) (f : Mgmt → Mgmt) : (s.modMgmt f).sup = s.sup := rfl
@[simp] theorem State.modMgmt_reg (s : State) (f : Mgmt → Mgmt) (k : Key) : (s.modMgmt f).reg k = s.reg k := rfl

/-! `modCap` changes `cap` only. -/

@[simp] theorem State.modCap_pending (s : State) (f : Capture → Capture) : (s.modCap f).pending = s.pending := rfl
@[simp] theorem State.modCap_now (s : State) (f : Capture → Capture) : (s.modCap f).now = s.now := rfl
@[simp] theorem State.modCap_fresh (s : State) (f : Capture → Capture) : (s.modCap f).fresh = s.fresh := rfl
@[simp] theorem State.modCap_frames (s : State) (f : Capture → Capture) : (s.modCap f).frames = s.frames := rfl
@[simp] theorem State.modCap_regs (s : State) (f : Capture → Capture) : (s.modCap f).regs = s.regs := rfl
@[simp] theorem State.modCap_ch (s : State) (f : Capture → Capture) : (s.modCap f).ch = s.ch := rfl
@[simp] theorem State.modCap_watch (s : State) (f : Capture → Capture) : (s.modCap f).watch = s.watch := rfl
@[simp] theorem State.modCap_front (s : State) (f : Capture → Capture) : (s.modCap f).front = s.front := rfl
@[simp] theorem State.modCap_cal (s : State) (f : Capture → Capture) : (s.modCap f).cal = s.cal := rfl
@[simp] theorem State.modCap_sets (s : State) (f : Capture → Capture) : (s.modCap f).sets = s.sets := rfl
@[simp] theorem State.modCap_bead (s : State) (f : Capture → Capture) : (s.modCap f).bead = s.bead := rfl
@[simp] theorem State.modCap_exc (s : State) (f : Capture → Capture) : (s.modCap f).exc = s.exc := rfl
@[simp] theorem State.modCap_kelvin (s : State) (f : Capture → Capture) : (s.modCap f).kelvin = s.kelvin := rfl
@[simp] theorem State.modCap_glv (s : State) (f : Capture → Capture) : (s.modCap f).glv = s.glv := rfl
@[simp] theorem State.modCap_emu (s : State) (f : Capture → Capture) : (s.modCap f).emu = s.emu := rfl
@[simp] theorem State.modCap_psw (s : State) (f : Capture → Capture) : (s.modCap f).psw = s.psw := rfl
@[simp] theorem State.modCap_snap (s : State) (f : Capture → Capture) : (s.modCap f).snap = s.snap := rfl
@[simp] theorem State.modCap_pf (s : State) (f : Capture → Capture) : (s.modCap f).pf = s.pf := rfl
@[simp] theorem State.modCap_tal (s : State) (f : Capture → Capture) : (s.modCap f).tal = s.tal := rfl
@[simp] theorem State.modCap_fc (s : State) (f : Capture → Capture) : (s.modCap f).fc = s.fc := rfl
@[simp] theorem State.modCap_floor (s : State) (f : Capture → Capture) : (s.modCap f).floor = s.floor := rfl
@[simp] theorem State.modCap_dev (s : State) (f : Capture → Capture) : (s.modCap f).dev = s.dev := rfl
@[simp] theorem State.modCap_port (s : State) (f : Capture → Capture) : (s.modCap f).port = s.port := rfl
@[simp] theorem State.modCap_grp (s : State) (f : Capture → Capture) : (s.modCap f).grp = s.grp := rfl
@[simp] theorem State.modCap_store (s : State) (f : Capture → Capture) : (s.modCap f).store = s.store := rfl
@[simp] theorem State.modCap_red (s : State) (f : Capture → Capture) : (s.modCap f).red = s.red := rfl
@[simp] theorem State.modCap_pt (s : State) (f : Capture → Capture) : (s.modCap f).pt = s.pt := rfl
@[simp] theorem State.modCap_vote (s : State) (f : Capture → Capture) : (s.modCap f).vote = s.vote := rfl
@[simp] theorem State.modCap_lnk (s : State) (f : Capture → Capture) : (s.modCap f).lnk = s.lnk := rfl
@[simp] theorem State.modCap_hsp (s : State) (f : Capture → Capture) : (s.modCap f).hsp = s.hsp := rfl
@[simp] theorem State.modCap_tap (s : State) (f : Capture → Capture) : (s.modCap f).tap = s.tap := rfl
@[simp] theorem State.modCap_eth (s : State) (f : Capture → Capture) : (s.modCap f).eth = s.eth := rfl
@[simp] theorem State.modCap_can (s : State) (f : Capture → Capture) : (s.modCap f).can = s.can := rfl
@[simp] theorem State.modCap_tq (s : State) (f : Capture → Capture) : (s.modCap f).tq = s.tq := rfl
@[simp] theorem State.modCap_time (s : State) (f : Capture → Capture) : (s.modCap f).time = s.time := rfl
@[simp] theorem State.modCap_mgmt (s : State) (f : Capture → Capture) : (s.modCap f).mgmt = s.mgmt := rfl
@[simp] theorem State.modCap_sched (s : State) (f : Capture → Capture) : (s.modCap f).sched = s.sched := rfl
@[simp] theorem State.modCap_log (s : State) (f : Capture → Capture) : (s.modCap f).log = s.log := rfl
@[simp] theorem State.modCap_upd (s : State) (f : Capture → Capture) : (s.modCap f).upd = s.upd := rfl
@[simp] theorem State.modCap_sec (s : State) (f : Capture → Capture) : (s.modCap f).sec = s.sec := rfl
@[simp] theorem State.modCap_sup (s : State) (f : Capture → Capture) : (s.modCap f).sup = s.sup := rfl
@[simp] theorem State.modCap_reg (s : State) (f : Capture → Capture) (k : Key) : (s.modCap f).reg k = s.reg k := rfl

/-! `modBead` changes `bead` only. -/

@[simp] theorem State.modBead_pending (s : State) (f : Beads → Beads) : (s.modBead f).pending = s.pending := rfl
@[simp] theorem State.modBead_now (s : State) (f : Beads → Beads) : (s.modBead f).now = s.now := rfl
@[simp] theorem State.modBead_fresh (s : State) (f : Beads → Beads) : (s.modBead f).fresh = s.fresh := rfl
@[simp] theorem State.modBead_frames (s : State) (f : Beads → Beads) : (s.modBead f).frames = s.frames := rfl
@[simp] theorem State.modBead_regs (s : State) (f : Beads → Beads) : (s.modBead f).regs = s.regs := rfl
@[simp] theorem State.modBead_ch (s : State) (f : Beads → Beads) : (s.modBead f).ch = s.ch := rfl
@[simp] theorem State.modBead_watch (s : State) (f : Beads → Beads) : (s.modBead f).watch = s.watch := rfl
@[simp] theorem State.modBead_front (s : State) (f : Beads → Beads) : (s.modBead f).front = s.front := rfl
@[simp] theorem State.modBead_cal (s : State) (f : Beads → Beads) : (s.modBead f).cal = s.cal := rfl
@[simp] theorem State.modBead_sets (s : State) (f : Beads → Beads) : (s.modBead f).sets = s.sets := rfl
@[simp] theorem State.modBead_cap (s : State) (f : Beads → Beads) : (s.modBead f).cap = s.cap := rfl
@[simp] theorem State.modBead_exc (s : State) (f : Beads → Beads) : (s.modBead f).exc = s.exc := rfl
@[simp] theorem State.modBead_kelvin (s : State) (f : Beads → Beads) : (s.modBead f).kelvin = s.kelvin := rfl
@[simp] theorem State.modBead_glv (s : State) (f : Beads → Beads) : (s.modBead f).glv = s.glv := rfl
@[simp] theorem State.modBead_emu (s : State) (f : Beads → Beads) : (s.modBead f).emu = s.emu := rfl
@[simp] theorem State.modBead_psw (s : State) (f : Beads → Beads) : (s.modBead f).psw = s.psw := rfl
@[simp] theorem State.modBead_snap (s : State) (f : Beads → Beads) : (s.modBead f).snap = s.snap := rfl
@[simp] theorem State.modBead_pf (s : State) (f : Beads → Beads) : (s.modBead f).pf = s.pf := rfl
@[simp] theorem State.modBead_tal (s : State) (f : Beads → Beads) : (s.modBead f).tal = s.tal := rfl
@[simp] theorem State.modBead_fc (s : State) (f : Beads → Beads) : (s.modBead f).fc = s.fc := rfl
@[simp] theorem State.modBead_floor (s : State) (f : Beads → Beads) : (s.modBead f).floor = s.floor := rfl
@[simp] theorem State.modBead_dev (s : State) (f : Beads → Beads) : (s.modBead f).dev = s.dev := rfl
@[simp] theorem State.modBead_port (s : State) (f : Beads → Beads) : (s.modBead f).port = s.port := rfl
@[simp] theorem State.modBead_grp (s : State) (f : Beads → Beads) : (s.modBead f).grp = s.grp := rfl
@[simp] theorem State.modBead_store (s : State) (f : Beads → Beads) : (s.modBead f).store = s.store := rfl
@[simp] theorem State.modBead_red (s : State) (f : Beads → Beads) : (s.modBead f).red = s.red := rfl
@[simp] theorem State.modBead_pt (s : State) (f : Beads → Beads) : (s.modBead f).pt = s.pt := rfl
@[simp] theorem State.modBead_vote (s : State) (f : Beads → Beads) : (s.modBead f).vote = s.vote := rfl
@[simp] theorem State.modBead_lnk (s : State) (f : Beads → Beads) : (s.modBead f).lnk = s.lnk := rfl
@[simp] theorem State.modBead_hsp (s : State) (f : Beads → Beads) : (s.modBead f).hsp = s.hsp := rfl
@[simp] theorem State.modBead_tap (s : State) (f : Beads → Beads) : (s.modBead f).tap = s.tap := rfl
@[simp] theorem State.modBead_eth (s : State) (f : Beads → Beads) : (s.modBead f).eth = s.eth := rfl
@[simp] theorem State.modBead_can (s : State) (f : Beads → Beads) : (s.modBead f).can = s.can := rfl
@[simp] theorem State.modBead_tq (s : State) (f : Beads → Beads) : (s.modBead f).tq = s.tq := rfl
@[simp] theorem State.modBead_time (s : State) (f : Beads → Beads) : (s.modBead f).time = s.time := rfl
@[simp] theorem State.modBead_mgmt (s : State) (f : Beads → Beads) : (s.modBead f).mgmt = s.mgmt := rfl
@[simp] theorem State.modBead_sched (s : State) (f : Beads → Beads) : (s.modBead f).sched = s.sched := rfl
@[simp] theorem State.modBead_log (s : State) (f : Beads → Beads) : (s.modBead f).log = s.log := rfl
@[simp] theorem State.modBead_upd (s : State) (f : Beads → Beads) : (s.modBead f).upd = s.upd := rfl
@[simp] theorem State.modBead_sec (s : State) (f : Beads → Beads) : (s.modBead f).sec = s.sec := rfl
@[simp] theorem State.modBead_sup (s : State) (f : Beads → Beads) : (s.modBead f).sup = s.sup := rfl
@[simp] theorem State.modBead_reg (s : State) (f : Beads → Beads) (k : Key) : (s.modBead f).reg k = s.reg k := rfl

/-! `modStore` changes `store` only. -/

@[simp] theorem State.modStore_pending (s : State) (f : Store → Store) : (s.modStore f).pending = s.pending := rfl
@[simp] theorem State.modStore_now (s : State) (f : Store → Store) : (s.modStore f).now = s.now := rfl
@[simp] theorem State.modStore_fresh (s : State) (f : Store → Store) : (s.modStore f).fresh = s.fresh := rfl
@[simp] theorem State.modStore_frames (s : State) (f : Store → Store) : (s.modStore f).frames = s.frames := rfl
@[simp] theorem State.modStore_regs (s : State) (f : Store → Store) : (s.modStore f).regs = s.regs := rfl
@[simp] theorem State.modStore_ch (s : State) (f : Store → Store) : (s.modStore f).ch = s.ch := rfl
@[simp] theorem State.modStore_watch (s : State) (f : Store → Store) : (s.modStore f).watch = s.watch := rfl
@[simp] theorem State.modStore_front (s : State) (f : Store → Store) : (s.modStore f).front = s.front := rfl
@[simp] theorem State.modStore_cal (s : State) (f : Store → Store) : (s.modStore f).cal = s.cal := rfl
@[simp] theorem State.modStore_sets (s : State) (f : Store → Store) : (s.modStore f).sets = s.sets := rfl
@[simp] theorem State.modStore_bead (s : State) (f : Store → Store) : (s.modStore f).bead = s.bead := rfl
@[simp] theorem State.modStore_cap (s : State) (f : Store → Store) : (s.modStore f).cap = s.cap := rfl
@[simp] theorem State.modStore_exc (s : State) (f : Store → Store) : (s.modStore f).exc = s.exc := rfl
@[simp] theorem State.modStore_kelvin (s : State) (f : Store → Store) : (s.modStore f).kelvin = s.kelvin := rfl
@[simp] theorem State.modStore_glv (s : State) (f : Store → Store) : (s.modStore f).glv = s.glv := rfl
@[simp] theorem State.modStore_emu (s : State) (f : Store → Store) : (s.modStore f).emu = s.emu := rfl
@[simp] theorem State.modStore_psw (s : State) (f : Store → Store) : (s.modStore f).psw = s.psw := rfl
@[simp] theorem State.modStore_snap (s : State) (f : Store → Store) : (s.modStore f).snap = s.snap := rfl
@[simp] theorem State.modStore_pf (s : State) (f : Store → Store) : (s.modStore f).pf = s.pf := rfl
@[simp] theorem State.modStore_tal (s : State) (f : Store → Store) : (s.modStore f).tal = s.tal := rfl
@[simp] theorem State.modStore_fc (s : State) (f : Store → Store) : (s.modStore f).fc = s.fc := rfl
@[simp] theorem State.modStore_floor (s : State) (f : Store → Store) : (s.modStore f).floor = s.floor := rfl
@[simp] theorem State.modStore_dev (s : State) (f : Store → Store) : (s.modStore f).dev = s.dev := rfl
@[simp] theorem State.modStore_port (s : State) (f : Store → Store) : (s.modStore f).port = s.port := rfl
@[simp] theorem State.modStore_grp (s : State) (f : Store → Store) : (s.modStore f).grp = s.grp := rfl
@[simp] theorem State.modStore_red (s : State) (f : Store → Store) : (s.modStore f).red = s.red := rfl
@[simp] theorem State.modStore_pt (s : State) (f : Store → Store) : (s.modStore f).pt = s.pt := rfl
@[simp] theorem State.modStore_vote (s : State) (f : Store → Store) : (s.modStore f).vote = s.vote := rfl
@[simp] theorem State.modStore_lnk (s : State) (f : Store → Store) : (s.modStore f).lnk = s.lnk := rfl
@[simp] theorem State.modStore_hsp (s : State) (f : Store → Store) : (s.modStore f).hsp = s.hsp := rfl
@[simp] theorem State.modStore_tap (s : State) (f : Store → Store) : (s.modStore f).tap = s.tap := rfl
@[simp] theorem State.modStore_eth (s : State) (f : Store → Store) : (s.modStore f).eth = s.eth := rfl
@[simp] theorem State.modStore_can (s : State) (f : Store → Store) : (s.modStore f).can = s.can := rfl
@[simp] theorem State.modStore_tq (s : State) (f : Store → Store) : (s.modStore f).tq = s.tq := rfl
@[simp] theorem State.modStore_time (s : State) (f : Store → Store) : (s.modStore f).time = s.time := rfl
@[simp] theorem State.modStore_mgmt (s : State) (f : Store → Store) : (s.modStore f).mgmt = s.mgmt := rfl
@[simp] theorem State.modStore_sched (s : State) (f : Store → Store) : (s.modStore f).sched = s.sched := rfl
@[simp] theorem State.modStore_log (s : State) (f : Store → Store) : (s.modStore f).log = s.log := rfl
@[simp] theorem State.modStore_upd (s : State) (f : Store → Store) : (s.modStore f).upd = s.upd := rfl
@[simp] theorem State.modStore_sec (s : State) (f : Store → Store) : (s.modStore f).sec = s.sec := rfl
@[simp] theorem State.modStore_sup (s : State) (f : Store → Store) : (s.modStore f).sup = s.sup := rfl
@[simp] theorem State.modStore_reg (s : State) (f : Store → Store) (k : Key) : (s.modStore f).reg k = s.reg k := rfl

/-! `modTap` changes `tap` only. -/

@[simp] theorem State.modTap_pending (s : State) (f : Tap → Tap) : (s.modTap f).pending = s.pending := rfl
@[simp] theorem State.modTap_now (s : State) (f : Tap → Tap) : (s.modTap f).now = s.now := rfl
@[simp] theorem State.modTap_fresh (s : State) (f : Tap → Tap) : (s.modTap f).fresh = s.fresh := rfl
@[simp] theorem State.modTap_frames (s : State) (f : Tap → Tap) : (s.modTap f).frames = s.frames := rfl
@[simp] theorem State.modTap_regs (s : State) (f : Tap → Tap) : (s.modTap f).regs = s.regs := rfl
@[simp] theorem State.modTap_ch (s : State) (f : Tap → Tap) : (s.modTap f).ch = s.ch := rfl
@[simp] theorem State.modTap_watch (s : State) (f : Tap → Tap) : (s.modTap f).watch = s.watch := rfl
@[simp] theorem State.modTap_front (s : State) (f : Tap → Tap) : (s.modTap f).front = s.front := rfl
@[simp] theorem State.modTap_cal (s : State) (f : Tap → Tap) : (s.modTap f).cal = s.cal := rfl
@[simp] theorem State.modTap_sets (s : State) (f : Tap → Tap) : (s.modTap f).sets = s.sets := rfl
@[simp] theorem State.modTap_bead (s : State) (f : Tap → Tap) : (s.modTap f).bead = s.bead := rfl
@[simp] theorem State.modTap_cap (s : State) (f : Tap → Tap) : (s.modTap f).cap = s.cap := rfl
@[simp] theorem State.modTap_exc (s : State) (f : Tap → Tap) : (s.modTap f).exc = s.exc := rfl
@[simp] theorem State.modTap_kelvin (s : State) (f : Tap → Tap) : (s.modTap f).kelvin = s.kelvin := rfl
@[simp] theorem State.modTap_glv (s : State) (f : Tap → Tap) : (s.modTap f).glv = s.glv := rfl
@[simp] theorem State.modTap_emu (s : State) (f : Tap → Tap) : (s.modTap f).emu = s.emu := rfl
@[simp] theorem State.modTap_psw (s : State) (f : Tap → Tap) : (s.modTap f).psw = s.psw := rfl
@[simp] theorem State.modTap_snap (s : State) (f : Tap → Tap) : (s.modTap f).snap = s.snap := rfl
@[simp] theorem State.modTap_pf (s : State) (f : Tap → Tap) : (s.modTap f).pf = s.pf := rfl
@[simp] theorem State.modTap_tal (s : State) (f : Tap → Tap) : (s.modTap f).tal = s.tal := rfl
@[simp] theorem State.modTap_fc (s : State) (f : Tap → Tap) : (s.modTap f).fc = s.fc := rfl
@[simp] theorem State.modTap_floor (s : State) (f : Tap → Tap) : (s.modTap f).floor = s.floor := rfl
@[simp] theorem State.modTap_dev (s : State) (f : Tap → Tap) : (s.modTap f).dev = s.dev := rfl
@[simp] theorem State.modTap_port (s : State) (f : Tap → Tap) : (s.modTap f).port = s.port := rfl
@[simp] theorem State.modTap_grp (s : State) (f : Tap → Tap) : (s.modTap f).grp = s.grp := rfl
@[simp] theorem State.modTap_store (s : State) (f : Tap → Tap) : (s.modTap f).store = s.store := rfl
@[simp] theorem State.modTap_red (s : State) (f : Tap → Tap) : (s.modTap f).red = s.red := rfl
@[simp] theorem State.modTap_pt (s : State) (f : Tap → Tap) : (s.modTap f).pt = s.pt := rfl
@[simp] theorem State.modTap_vote (s : State) (f : Tap → Tap) : (s.modTap f).vote = s.vote := rfl
@[simp] theorem State.modTap_lnk (s : State) (f : Tap → Tap) : (s.modTap f).lnk = s.lnk := rfl
@[simp] theorem State.modTap_hsp (s : State) (f : Tap → Tap) : (s.modTap f).hsp = s.hsp := rfl
@[simp] theorem State.modTap_eth (s : State) (f : Tap → Tap) : (s.modTap f).eth = s.eth := rfl
@[simp] theorem State.modTap_can (s : State) (f : Tap → Tap) : (s.modTap f).can = s.can := rfl
@[simp] theorem State.modTap_tq (s : State) (f : Tap → Tap) : (s.modTap f).tq = s.tq := rfl
@[simp] theorem State.modTap_time (s : State) (f : Tap → Tap) : (s.modTap f).time = s.time := rfl
@[simp] theorem State.modTap_mgmt (s : State) (f : Tap → Tap) : (s.modTap f).mgmt = s.mgmt := rfl
@[simp] theorem State.modTap_sched (s : State) (f : Tap → Tap) : (s.modTap f).sched = s.sched := rfl
@[simp] theorem State.modTap_log (s : State) (f : Tap → Tap) : (s.modTap f).log = s.log := rfl
@[simp] theorem State.modTap_upd (s : State) (f : Tap → Tap) : (s.modTap f).upd = s.upd := rfl
@[simp] theorem State.modTap_sec (s : State) (f : Tap → Tap) : (s.modTap f).sec = s.sec := rfl
@[simp] theorem State.modTap_sup (s : State) (f : Tap → Tap) : (s.modTap f).sup = s.sup := rfl
@[simp] theorem State.modTap_reg (s : State) (f : Tap → Tap) (k : Key) : (s.modTap f).reg k = s.reg k := rfl

/-! `modGrp` changes `grp` only. -/

@[simp] theorem State.modGrp_pending (s : State) (f : Groups → Groups) : (s.modGrp f).pending = s.pending := rfl
@[simp] theorem State.modGrp_now (s : State) (f : Groups → Groups) : (s.modGrp f).now = s.now := rfl
@[simp] theorem State.modGrp_fresh (s : State) (f : Groups → Groups) : (s.modGrp f).fresh = s.fresh := rfl
@[simp] theorem State.modGrp_frames (s : State) (f : Groups → Groups) : (s.modGrp f).frames = s.frames := rfl
@[simp] theorem State.modGrp_regs (s : State) (f : Groups → Groups) : (s.modGrp f).regs = s.regs := rfl
@[simp] theorem State.modGrp_ch (s : State) (f : Groups → Groups) : (s.modGrp f).ch = s.ch := rfl
@[simp] theorem State.modGrp_watch (s : State) (f : Groups → Groups) : (s.modGrp f).watch = s.watch := rfl
@[simp] theorem State.modGrp_front (s : State) (f : Groups → Groups) : (s.modGrp f).front = s.front := rfl
@[simp] theorem State.modGrp_cal (s : State) (f : Groups → Groups) : (s.modGrp f).cal = s.cal := rfl
@[simp] theorem State.modGrp_sets (s : State) (f : Groups → Groups) : (s.modGrp f).sets = s.sets := rfl
@[simp] theorem State.modGrp_bead (s : State) (f : Groups → Groups) : (s.modGrp f).bead = s.bead := rfl
@[simp] theorem State.modGrp_cap (s : State) (f : Groups → Groups) : (s.modGrp f).cap = s.cap := rfl
@[simp] theorem State.modGrp_exc (s : State) (f : Groups → Groups) : (s.modGrp f).exc = s.exc := rfl
@[simp] theorem State.modGrp_kelvin (s : State) (f : Groups → Groups) : (s.modGrp f).kelvin = s.kelvin := rfl
@[simp] theorem State.modGrp_glv (s : State) (f : Groups → Groups) : (s.modGrp f).glv = s.glv := rfl
@[simp] theorem State.modGrp_emu (s : State) (f : Groups → Groups) : (s.modGrp f).emu = s.emu := rfl
@[simp] theorem State.modGrp_psw (s : State) (f : Groups → Groups) : (s.modGrp f).psw = s.psw := rfl
@[simp] theorem State.modGrp_snap (s : State) (f : Groups → Groups) : (s.modGrp f).snap = s.snap := rfl
@[simp] theorem State.modGrp_pf (s : State) (f : Groups → Groups) : (s.modGrp f).pf = s.pf := rfl
@[simp] theorem State.modGrp_tal (s : State) (f : Groups → Groups) : (s.modGrp f).tal = s.tal := rfl
@[simp] theorem State.modGrp_fc (s : State) (f : Groups → Groups) : (s.modGrp f).fc = s.fc := rfl
@[simp] theorem State.modGrp_floor (s : State) (f : Groups → Groups) : (s.modGrp f).floor = s.floor := rfl
@[simp] theorem State.modGrp_dev (s : State) (f : Groups → Groups) : (s.modGrp f).dev = s.dev := rfl
@[simp] theorem State.modGrp_port (s : State) (f : Groups → Groups) : (s.modGrp f).port = s.port := rfl
@[simp] theorem State.modGrp_store (s : State) (f : Groups → Groups) : (s.modGrp f).store = s.store := rfl
@[simp] theorem State.modGrp_red (s : State) (f : Groups → Groups) : (s.modGrp f).red = s.red := rfl
@[simp] theorem State.modGrp_pt (s : State) (f : Groups → Groups) : (s.modGrp f).pt = s.pt := rfl
@[simp] theorem State.modGrp_vote (s : State) (f : Groups → Groups) : (s.modGrp f).vote = s.vote := rfl
@[simp] theorem State.modGrp_lnk (s : State) (f : Groups → Groups) : (s.modGrp f).lnk = s.lnk := rfl
@[simp] theorem State.modGrp_hsp (s : State) (f : Groups → Groups) : (s.modGrp f).hsp = s.hsp := rfl
@[simp] theorem State.modGrp_tap (s : State) (f : Groups → Groups) : (s.modGrp f).tap = s.tap := rfl
@[simp] theorem State.modGrp_eth (s : State) (f : Groups → Groups) : (s.modGrp f).eth = s.eth := rfl
@[simp] theorem State.modGrp_can (s : State) (f : Groups → Groups) : (s.modGrp f).can = s.can := rfl
@[simp] theorem State.modGrp_tq (s : State) (f : Groups → Groups) : (s.modGrp f).tq = s.tq := rfl
@[simp] theorem State.modGrp_time (s : State) (f : Groups → Groups) : (s.modGrp f).time = s.time := rfl
@[simp] theorem State.modGrp_mgmt (s : State) (f : Groups → Groups) : (s.modGrp f).mgmt = s.mgmt := rfl
@[simp] theorem State.modGrp_sched (s : State) (f : Groups → Groups) : (s.modGrp f).sched = s.sched := rfl
@[simp] theorem State.modGrp_log (s : State) (f : Groups → Groups) : (s.modGrp f).log = s.log := rfl
@[simp] theorem State.modGrp_upd (s : State) (f : Groups → Groups) : (s.modGrp f).upd = s.upd := rfl
@[simp] theorem State.modGrp_sec (s : State) (f : Groups → Groups) : (s.modGrp f).sec = s.sec := rfl
@[simp] theorem State.modGrp_sup (s : State) (f : Groups → Groups) : (s.modGrp f).sup = s.sup := rfl
@[simp] theorem State.modGrp_reg (s : State) (f : Groups → Groups) (k : Key) : (s.modGrp f).reg k = s.reg k := rfl

/-! `setReg` and `draw`. -/

@[simp] theorem State.setReg_pending (s : State) (k : Key) (v : Int) : (s.setReg k v).pending = s.pending := rfl
@[simp] theorem State.setReg_now (s : State) (k : Key) (v : Int) : (s.setReg k v).now = s.now := rfl
@[simp] theorem State.setReg_fresh (s : State) (k : Key) (v : Int) : (s.setReg k v).fresh = s.fresh := rfl
@[simp] theorem State.setReg_frames (s : State) (k : Key) (v : Int) : (s.setReg k v).frames = s.frames := rfl
@[simp] theorem State.setReg_ch (s : State) (k : Key) (v : Int) : (s.setReg k v).ch = s.ch := rfl
@[simp] theorem State.setReg_watch (s : State) (k : Key) (v : Int) : (s.setReg k v).watch = s.watch := rfl
@[simp] theorem State.setReg_front (s : State) (k : Key) (v : Int) : (s.setReg k v).front = s.front := rfl
@[simp] theorem State.setReg_cal (s : State) (k : Key) (v : Int) : (s.setReg k v).cal = s.cal := rfl
@[simp] theorem State.setReg_sets (s : State) (k : Key) (v : Int) : (s.setReg k v).sets = s.sets := rfl
@[simp] theorem State.setReg_bead (s : State) (k : Key) (v : Int) : (s.setReg k v).bead = s.bead := rfl
@[simp] theorem State.setReg_cap (s : State) (k : Key) (v : Int) : (s.setReg k v).cap = s.cap := rfl
@[simp] theorem State.setReg_exc (s : State) (k : Key) (v : Int) : (s.setReg k v).exc = s.exc := rfl
@[simp] theorem State.setReg_kelvin (s : State) (k : Key) (v : Int) : (s.setReg k v).kelvin = s.kelvin := rfl
@[simp] theorem State.setReg_glv (s : State) (k : Key) (v : Int) : (s.setReg k v).glv = s.glv := rfl
@[simp] theorem State.setReg_emu (s : State) (k : Key) (v : Int) : (s.setReg k v).emu = s.emu := rfl
@[simp] theorem State.setReg_psw (s : State) (k : Key) (v : Int) : (s.setReg k v).psw = s.psw := rfl
@[simp] theorem State.setReg_snap (s : State) (k : Key) (v : Int) : (s.setReg k v).snap = s.snap := rfl
@[simp] theorem State.setReg_pf (s : State) (k : Key) (v : Int) : (s.setReg k v).pf = s.pf := rfl
@[simp] theorem State.setReg_tal (s : State) (k : Key) (v : Int) : (s.setReg k v).tal = s.tal := rfl
@[simp] theorem State.setReg_fc (s : State) (k : Key) (v : Int) : (s.setReg k v).fc = s.fc := rfl
@[simp] theorem State.setReg_floor (s : State) (k : Key) (v : Int) : (s.setReg k v).floor = s.floor := rfl
@[simp] theorem State.setReg_dev (s : State) (k : Key) (v : Int) : (s.setReg k v).dev = s.dev := rfl
@[simp] theorem State.setReg_port (s : State) (k : Key) (v : Int) : (s.setReg k v).port = s.port := rfl
@[simp] theorem State.setReg_grp (s : State) (k : Key) (v : Int) : (s.setReg k v).grp = s.grp := rfl
@[simp] theorem State.setReg_store (s : State) (k : Key) (v : Int) : (s.setReg k v).store = s.store := rfl
@[simp] theorem State.setReg_red (s : State) (k : Key) (v : Int) : (s.setReg k v).red = s.red := rfl
@[simp] theorem State.setReg_pt (s : State) (k : Key) (v : Int) : (s.setReg k v).pt = s.pt := rfl
@[simp] theorem State.setReg_vote (s : State) (k : Key) (v : Int) : (s.setReg k v).vote = s.vote := rfl
@[simp] theorem State.setReg_lnk (s : State) (k : Key) (v : Int) : (s.setReg k v).lnk = s.lnk := rfl
@[simp] theorem State.setReg_hsp (s : State) (k : Key) (v : Int) : (s.setReg k v).hsp = s.hsp := rfl
@[simp] theorem State.setReg_tap (s : State) (k : Key) (v : Int) : (s.setReg k v).tap = s.tap := rfl
@[simp] theorem State.setReg_eth (s : State) (k : Key) (v : Int) : (s.setReg k v).eth = s.eth := rfl
@[simp] theorem State.setReg_can (s : State) (k : Key) (v : Int) : (s.setReg k v).can = s.can := rfl
@[simp] theorem State.setReg_tq (s : State) (k : Key) (v : Int) : (s.setReg k v).tq = s.tq := rfl
@[simp] theorem State.setReg_time (s : State) (k : Key) (v : Int) : (s.setReg k v).time = s.time := rfl
@[simp] theorem State.setReg_mgmt (s : State) (k : Key) (v : Int) : (s.setReg k v).mgmt = s.mgmt := rfl
@[simp] theorem State.setReg_sched (s : State) (k : Key) (v : Int) : (s.setReg k v).sched = s.sched := rfl
@[simp] theorem State.setReg_log (s : State) (k : Key) (v : Int) : (s.setReg k v).log = s.log := rfl
@[simp] theorem State.setReg_upd (s : State) (k : Key) (v : Int) : (s.setReg k v).upd = s.upd := rfl
@[simp] theorem State.setReg_sec (s : State) (k : Key) (v : Int) : (s.setReg k v).sec = s.sec := rfl
@[simp] theorem State.setReg_sup (s : State) (k : Key) (v : Int) : (s.setReg k v).sup = s.sup := rfl
@[simp] theorem State.bump_pending (s : State) (k : Key) : (s.bump k).pending = s.pending := rfl
@[simp] theorem State.bump_now (s : State) (k : Key) : (s.bump k).now = s.now := rfl
@[simp] theorem State.bump_fresh (s : State) (k : Key) : (s.bump k).fresh = s.fresh := rfl
@[simp] theorem State.bump_frames (s : State) (k : Key) : (s.bump k).frames = s.frames := rfl
@[simp] theorem State.bump_ch (s : State) (k : Key) : (s.bump k).ch = s.ch := rfl
@[simp] theorem State.bump_watch (s : State) (k : Key) : (s.bump k).watch = s.watch := rfl
@[simp] theorem State.bump_front (s : State) (k : Key) : (s.bump k).front = s.front := rfl
@[simp] theorem State.bump_cal (s : State) (k : Key) : (s.bump k).cal = s.cal := rfl
@[simp] theorem State.bump_sets (s : State) (k : Key) : (s.bump k).sets = s.sets := rfl
@[simp] theorem State.bump_bead (s : State) (k : Key) : (s.bump k).bead = s.bead := rfl
@[simp] theorem State.bump_cap (s : State) (k : Key) : (s.bump k).cap = s.cap := rfl
@[simp] theorem State.bump_exc (s : State) (k : Key) : (s.bump k).exc = s.exc := rfl
@[simp] theorem State.bump_kelvin (s : State) (k : Key) : (s.bump k).kelvin = s.kelvin := rfl
@[simp] theorem State.bump_glv (s : State) (k : Key) : (s.bump k).glv = s.glv := rfl
@[simp] theorem State.bump_emu (s : State) (k : Key) : (s.bump k).emu = s.emu := rfl
@[simp] theorem State.bump_psw (s : State) (k : Key) : (s.bump k).psw = s.psw := rfl
@[simp] theorem State.bump_snap (s : State) (k : Key) : (s.bump k).snap = s.snap := rfl
@[simp] theorem State.bump_pf (s : State) (k : Key) : (s.bump k).pf = s.pf := rfl
@[simp] theorem State.bump_tal (s : State) (k : Key) : (s.bump k).tal = s.tal := rfl
@[simp] theorem State.bump_fc (s : State) (k : Key) : (s.bump k).fc = s.fc := rfl
@[simp] theorem State.bump_floor (s : State) (k : Key) : (s.bump k).floor = s.floor := rfl
@[simp] theorem State.bump_dev (s : State) (k : Key) : (s.bump k).dev = s.dev := rfl
@[simp] theorem State.bump_port (s : State) (k : Key) : (s.bump k).port = s.port := rfl
@[simp] theorem State.bump_grp (s : State) (k : Key) : (s.bump k).grp = s.grp := rfl
@[simp] theorem State.bump_store (s : State) (k : Key) : (s.bump k).store = s.store := rfl
@[simp] theorem State.bump_red (s : State) (k : Key) : (s.bump k).red = s.red := rfl
@[simp] theorem State.bump_pt (s : State) (k : Key) : (s.bump k).pt = s.pt := rfl
@[simp] theorem State.bump_vote (s : State) (k : Key) : (s.bump k).vote = s.vote := rfl
@[simp] theorem State.bump_lnk (s : State) (k : Key) : (s.bump k).lnk = s.lnk := rfl
@[simp] theorem State.bump_hsp (s : State) (k : Key) : (s.bump k).hsp = s.hsp := rfl
@[simp] theorem State.bump_tap (s : State) (k : Key) : (s.bump k).tap = s.tap := rfl
@[simp] theorem State.bump_eth (s : State) (k : Key) : (s.bump k).eth = s.eth := rfl
@[simp] theorem State.bump_can (s : State) (k : Key) : (s.bump k).can = s.can := rfl
@[simp] theorem State.bump_tq (s : State) (k : Key) : (s.bump k).tq = s.tq := rfl
@[simp] theorem State.bump_time (s : State) (k : Key) : (s.bump k).time = s.time := rfl
@[simp] theorem State.bump_mgmt (s : State) (k : Key) : (s.bump k).mgmt = s.mgmt := rfl
@[simp] theorem State.bump_sched (s : State) (k : Key) : (s.bump k).sched = s.sched := rfl
@[simp] theorem State.bump_log (s : State) (k : Key) : (s.bump k).log = s.log := rfl
@[simp] theorem State.bump_upd (s : State) (k : Key) : (s.bump k).upd = s.upd := rfl
@[simp] theorem State.bump_sec (s : State) (k : Key) : (s.bump k).sec = s.sec := rfl
@[simp] theorem State.bump_sup (s : State) (k : Key) : (s.bump k).sup = s.sup := rfl
@[simp] theorem State.draw_pending (s : State) : s.draw.pending = s.pending := rfl
@[simp] theorem State.draw_now (s : State) : s.draw.now = s.now := rfl
@[simp] theorem State.draw_frames (s : State) : s.draw.frames = s.frames := rfl
@[simp] theorem State.draw_regs (s : State) : s.draw.regs = s.regs := rfl
@[simp] theorem State.draw_ch (s : State) : s.draw.ch = s.ch := rfl
@[simp] theorem State.draw_watch (s : State) : s.draw.watch = s.watch := rfl
@[simp] theorem State.draw_front (s : State) : s.draw.front = s.front := rfl
@[simp] theorem State.draw_cal (s : State) : s.draw.cal = s.cal := rfl
@[simp] theorem State.draw_sets (s : State) : s.draw.sets = s.sets := rfl
@[simp] theorem State.draw_bead (s : State) : s.draw.bead = s.bead := rfl
@[simp] theorem State.draw_cap (s : State) : s.draw.cap = s.cap := rfl
@[simp] theorem State.draw_exc (s : State) : s.draw.exc = s.exc := rfl
@[simp] theorem State.draw_kelvin (s : State) : s.draw.kelvin = s.kelvin := rfl
@[simp] theorem State.draw_glv (s : State) : s.draw.glv = s.glv := rfl
@[simp] theorem State.draw_emu (s : State) : s.draw.emu = s.emu := rfl
@[simp] theorem State.draw_psw (s : State) : s.draw.psw = s.psw := rfl
@[simp] theorem State.draw_snap (s : State) : s.draw.snap = s.snap := rfl
@[simp] theorem State.draw_pf (s : State) : s.draw.pf = s.pf := rfl
@[simp] theorem State.draw_tal (s : State) : s.draw.tal = s.tal := rfl
@[simp] theorem State.draw_fc (s : State) : s.draw.fc = s.fc := rfl
@[simp] theorem State.draw_floor (s : State) : s.draw.floor = s.floor := rfl
@[simp] theorem State.draw_dev (s : State) : s.draw.dev = s.dev := rfl
@[simp] theorem State.draw_port (s : State) : s.draw.port = s.port := rfl
@[simp] theorem State.draw_grp (s : State) : s.draw.grp = s.grp := rfl
@[simp] theorem State.draw_store (s : State) : s.draw.store = s.store := rfl
@[simp] theorem State.draw_red (s : State) : s.draw.red = s.red := rfl
@[simp] theorem State.draw_pt (s : State) : s.draw.pt = s.pt := rfl
@[simp] theorem State.draw_vote (s : State) : s.draw.vote = s.vote := rfl
@[simp] theorem State.draw_lnk (s : State) : s.draw.lnk = s.lnk := rfl
@[simp] theorem State.draw_hsp (s : State) : s.draw.hsp = s.hsp := rfl
@[simp] theorem State.draw_tap (s : State) : s.draw.tap = s.tap := rfl
@[simp] theorem State.draw_eth (s : State) : s.draw.eth = s.eth := rfl
@[simp] theorem State.draw_can (s : State) : s.draw.can = s.can := rfl
@[simp] theorem State.draw_tq (s : State) : s.draw.tq = s.tq := rfl
@[simp] theorem State.draw_time (s : State) : s.draw.time = s.time := rfl
@[simp] theorem State.draw_mgmt (s : State) : s.draw.mgmt = s.mgmt := rfl
@[simp] theorem State.draw_sched (s : State) : s.draw.sched = s.sched := rfl
@[simp] theorem State.draw_log (s : State) : s.draw.log = s.log := rfl
@[simp] theorem State.draw_upd (s : State) : s.draw.upd = s.upd := rfl
@[simp] theorem State.draw_sec (s : State) : s.draw.sec = s.sec := rfl
@[simp] theorem State.draw_sup (s : State) : s.draw.sup = s.sup := rfl
@[simp] theorem State.draw_reg (s : State) (k : Key) : s.draw.reg k = s.reg k := rfl

/-! What an update does to its own field. -/

@[simp] theorem State.modCh_ch (s : State) (n : ChId) (f : Chan → Chan) : (s.modCh n f).ch = vmod s.ch n f := rfl
@[simp] theorem State.modWatch_watch (s : State) (n : ChId) (f : Watch → Watch) : (s.modWatch n f).watch = vmod s.watch n f := rfl
@[simp] theorem State.modFront_front (s : State) (n : ChId) (f : Front → Front) : (s.modFront n f).front = vmod s.front n f := rfl
@[simp] theorem State.modCal_cal (s : State) (n : ChId) (f : Cal → Cal) : (s.modCal n f).cal = vmod s.cal n f := rfl
@[simp] theorem State.modExc_exc (s : State) (e : ExcId) (f : Exc → Exc) : (s.modExc e f).exc = vmod s.exc e f := rfl
@[simp] theorem State.modKelvin_kelvin (s : State) (e : ExcId) (f : Kelvin → Kelvin) : (s.modKelvin e f).kelvin = vmod s.kelvin e f := rfl
@[simp] theorem State.modGlv_glv (s : State) (g : Fin 8) (f : Glv → Glv) : (s.modGlv g f).glv = vmod s.glv g f := rfl
@[simp] theorem State.modEmu_emu (s : State) (n : Fin 16) (f : Emu → Emu) : (s.modEmu n f).emu = vmod s.emu n f := rfl
@[simp] theorem State.modPsw_psw (s : State) (n : Fin 16) (f : Psw → Psw) : (s.modPsw n f).psw = vmod s.psw n f := rfl
@[simp] theorem State.modSnap_snap (s : State) (n : Fin 3) (f : Snap → Snap) : (s.modSnap n f).snap = vmod s.snap n f := rfl
@[simp] theorem State.modPf_pf (s : State) (n : Fin 8) (f : Stream → Stream) : (s.modPf n f).pf = vmod s.pf n f := rfl
@[simp] theorem State.modTal_tal (s : State) (n : Fin 16) (f : Tally → Tally) : (s.modTal n f).tal = vmod s.tal n f := rfl
@[simp] theorem State.modPort_port (s : State) (p : Port) (f : PortSt → PortSt) : (s.modPort p f).port = vmod s.port p f := rfl
@[simp] theorem State.modPt_pt (s : State) (q : Fin 2) (f : Partner → Partner) : (s.modPt q f).pt = vmod s.pt q f := rfl
@[simp] theorem State.modLnk_lnk (s : State) (k : Fin 2) (f : Link → Link) : (s.modLnk k f).lnk = vmod s.lnk k f := rfl
@[simp] theorem State.modHsp_hsp (s : State) (h : Fin 3) (f : Hsp → Hsp) : (s.modHsp h f).hsp = vmod s.hsp h f := rfl
@[simp] theorem State.modEth_eth (s : State) (k : Fin 2) (f : Eth → Eth) : (s.modEth k f).eth = vmod s.eth k f := rfl
@[simp] theorem State.modCan_can (s : State) (c : Fin 2) (f : Can → Can) : (s.modCan c f).can = vmod s.can c f := rfl
@[simp] theorem State.modTq_tq (s : State) (q : Fin 16) (f : Tq → Tq) : (s.modTq q f).tq = vmod s.tq q f := rfl
@[simp] theorem State.modSched_sched (s : State) (d : Fin 17) (f : Sched → Sched) : (s.modSched d f).sched = vmod s.sched d f := rfl
@[simp] theorem State.modVote_vote (s : State) (n : ChId) (f : Vote → Vote) : (s.modVote n f).vote = vmod s.vote n f := rfl
@[simp] theorem State.modRed_red (s : State) (f : Red → Red) : (s.modRed f).red = f s.red := rfl
@[simp] theorem State.modDev_dev (s : State) (f : Device → Device) : (s.modDev f).dev = f s.dev := rfl
@[simp] theorem State.modFloor_floor (s : State) (f : Floor → Floor) : (s.modFloor f).floor = f s.floor := rfl
@[simp] theorem State.modFc_fc (s : State) (f : Collector → Collector) : (s.modFc f).fc = f s.fc := rfl
@[simp] theorem State.modSup_sup (s : State) (f : Sup → Sup) : (s.modSup f).sup = f s.sup := rfl
@[simp] theorem State.modSec_sec (s : State) (f : Sec → Sec) : (s.modSec f).sec = f s.sec := rfl
@[simp] theorem State.modUpd_upd (s : State) (f : Upd → Upd) : (s.modUpd f).upd = f s.upd := rfl
@[simp] theorem State.modLog_log (s : State) (f : Log → Log) : (s.modLog f).log = f s.log := rfl
@[simp] theorem State.modTime_time (s : State) (f : TimeSt → TimeSt) : (s.modTime f).time = f s.time := rfl
@[simp] theorem State.modMgmt_mgmt (s : State) (f : Mgmt → Mgmt) : (s.modMgmt f).mgmt = f s.mgmt := rfl
@[simp] theorem State.modCap_cap (s : State) (f : Capture → Capture) : (s.modCap f).cap = f s.cap := rfl
@[simp] theorem State.modBead_bead (s : State) (f : Beads → Beads) : (s.modBead f).bead = f s.bead := rfl
@[simp] theorem State.modStore_store (s : State) (f : Store → Store) : (s.modStore f).store = f s.store := rfl
@[simp] theorem State.modTap_tap (s : State) (f : Tap → Tap) : (s.modTap f).tap = f s.tap := rfl
@[simp] theorem State.modGrp_grp (s : State) (f : Groups → Groups) : (s.modGrp f).grp = f s.grp := rfl

end Sys2Proof.Machine
end

