-- ==== Sys2Proof/Laws/SMap.lean ====
section
/-!
SUPPORT. Sparse maps: what reads after a write (for every list, canonical or not), and that writing keeps the canonical
form; with them the register file's laws.
-/

namespace Sys2Proof.Machine

variable {α : Type}

/-! ### Reading after a write -/

@[simp] theorem SMap.find_nil (d : α) (i : Nat) : SMap.find d [] i = d := rfl

theorem SMap.find_cons (d : α) (k : Nat) (v : α) (m : SMap α) (i : Nat) :
    SMap.find d ((k, v) :: m) i = if k = i then v else SMap.find d m i := rfl

theorem SMap.find_erase_self (d : α) (m : SMap α) (i : Nat) : SMap.find d (SMap.erase m i) i = d := by
  induction m with
  | nil => rfl
  | cons x m ih =>
    obtain ⟨k, v⟩ := x
    simp only [SMap.erase]
    split
    · exact ih
    · rename_i h; simp [SMap.find_cons, h, ih]

theorem SMap.find_erase_ne (d : α) (m : SMap α) {i j : Nat} (h : i ≠ j) :
    SMap.find d (SMap.erase m i) j = SMap.find d m j := by
  induction m with
  | nil => rfl
  | cons x m ih =>
    obtain ⟨k, v⟩ := x
    simp only [SMap.erase]
    split
    · rename_i hk; simp [SMap.find_cons, ih, hk, h]
    · simp [SMap.find_cons, ih]

theorem SMap.find_insert_self (d : α) (m : SMap α) (i : Nat) (x : α) : SMap.find d (SMap.insert m i x) i = x := by
  induction m with
  | nil => simp [SMap.insert, SMap.find_cons]
  | cons y m ih =>
    obtain ⟨k, v⟩ := y
    simp only [SMap.insert]
    split
    · simp [SMap.find_cons]
    · split
      · simp [SMap.find_cons]
      · rename_i h; simp [SMap.find_cons, ih, Ne.symm h]

theorem SMap.find_insert_ne (d : α) (m : SMap α) {i j : Nat} (x : α) (h : i ≠ j) :
    SMap.find d (SMap.insert m i x) j = SMap.find d m j := by
  induction m with
  | nil => simp [SMap.insert, SMap.find_cons, h]
  | cons y m ih =>
    obtain ⟨k, v⟩ := y
    simp only [SMap.insert]
    split
    · simp [SMap.find_cons, h]
    · split
      · rename_i hk; subst hk; simp [SMap.find_cons, h]
      · simp [SMap.find_cons, ih]

/-- A key that has been written reads what was written. -/
@[simp] theorem SMap.find_put_self [DecidableEq α] (d : α) (m : SMap α) (i : Nat) (x : α) :
    SMap.find d (SMap.put d m i x) i = x := by
  unfold SMap.put
  split
  · rename_i h; rw [SMap.find_erase_self, h]
  · exact SMap.find_insert_self d m i x

/-- A write leaves every other key alone, whatever an unlisted one reads as. -/
theorem SMap.find_put_ne [DecidableEq α] (d e : α) (m : SMap α) {i j : Nat} (x : α) (h : i ≠ j) :
    SMap.find e (SMap.put d m i x) j = SMap.find e m j := by
  unfold SMap.put
  split
  · exact SMap.find_erase_ne e m h
  · exact SMap.find_insert_ne e m x h

/-! ### The canonical form -/

/-- A lower bound of a canonical map can be lowered. -/
theorem SMap.wfFrom_weaken [DecidableEq α] (d : Nat → α) {b c : Option Nat} {m : SMap α}
    (h : SMap.wfFrom d b m = true) (hc : ∀ x, c = some x → ∃ y, b = some y ∧ x ≤ y) : SMap.wfFrom d c m = true := by
  cases m with
  | nil => rfl
  | cons z m =>
    obtain ⟨k, v⟩ := z
    simp only [SMap.wfFrom, Bool.and_eq_true] at h ⊢
    refine ⟨⟨?_, h.1.2⟩, h.2⟩
    cases c with
    | none => rfl
    | some x =>
      obtain ⟨y, hy, hxy⟩ := hc x rfl
      subst hy
      have := h.1.1
      simp at this ⊢
      omega

theorem SMap.wfFrom_erase [DecidableEq α] (d : Nat → α) (i : Nat) : ∀ (b : Option Nat) (m : SMap α),
    SMap.wfFrom d b m = true → SMap.wfFrom d b (SMap.erase m i) = true := by
  intro b m
  induction m generalizing b with
  | nil => intro h; exact h
  | cons z m ih =>
    obtain ⟨k, v⟩ := z
    intro h
    simp only [SMap.wfFrom, Bool.and_eq_true] at h
    simp only [SMap.erase]
    split
    · have hm := ih (some k) h.2
      refine SMap.wfFrom_weaken d hm fun x hx => ?_
      subst hx
      have := h.1.1
      simp at this
      exact ⟨k, rfl, by omega⟩
    · simp only [SMap.wfFrom, Bool.and_eq_true]
      exact ⟨h.1, ih _ h.2⟩

theorem SMap.wfFrom_insert [DecidableEq α] (d : Nat → α) (i : Nat) (x : α) (hx : x ≠ d i) : ∀ (b : Option Nat) (m : SMap α),
    (∀ y, b = some y → y < i) → SMap.wfFrom d b m = true → SMap.wfFrom d b (SMap.insert m i x) = true := by
  intro b m
  induction m generalizing b with
  | nil =>
    intro hb _
    simp only [SMap.insert, SMap.wfFrom, Bool.and_eq_true]
    refine ⟨⟨?_, by simp [hx]⟩, trivial⟩
    cases b with
    | none => rfl
    | some y => simp [hb y rfl]
  | cons z m ih =>
    obtain ⟨k, v⟩ := z
    intro hb h
    simp only [SMap.wfFrom, Bool.and_eq_true] at h
    simp only [SMap.insert]
    split
    · rename_i hik
      simp only [SMap.wfFrom, Bool.and_eq_true]
      refine ⟨⟨?_, by simp [hx]⟩, ⟨by simp [hik], h.1.2⟩, h.2⟩
      cases b with
      | none => rfl
      | some y => simp [hb y rfl]
    · split
      · rename_i hik
        subst hik
        simp only [SMap.wfFrom, Bool.and_eq_true]
        exact ⟨⟨h.1.1, by simp [hx]⟩, h.2⟩
      · rename_i h1 h2
        simp only [SMap.wfFrom, Bool.and_eq_true]
        exact ⟨h.1, ih (some k) (fun y hy => by cases hy; omega) h.2⟩

/-- A write keeps the canonical form. -/
theorem SMap.wf_put [DecidableEq α] (d : Nat → α) (m : SMap α) (i : Nat) (x : α) (h : SMap.wf d m = true) :
    SMap.wf d (SMap.put (d i) m i x) = true := by
  unfold SMap.put
  split
  · exact SMap.wfFrom_erase d i none m h
  · rename_i hx; exact SMap.wfFrom_insert d i x hx none m (fun _ hy => by cases hy) h

/-! ### The register file -/

/-- An object reads what was written to it. -/
@[simp] theorem State.reg_setReg (s : State) (k : Key) (v : Int) : (s.setReg k v).reg k = v := by
  simp [State.reg, State.setReg]

/-- A write leaves every other object alone. -/
theorem State.reg_setReg_ne (s : State) {k k' : Key} (v : Int) (h : k ≠ k') : (s.setReg k v).reg k' = s.reg k' := by
  simp only [State.reg, State.setReg]
  exact SMap.find_put_ne _ _ _ _ h

/-- An object after a write of any object. -/
theorem State.reg_setReg_get (s : State) (k k' : Key) (v : Int) :
    (s.setReg k v).reg k' = if k = k' then v else s.reg k' := by
  by_cases h : k = k'
  · subst h; simp
  · simp [h, State.reg_setReg_ne s v h]

/-- A counter after one more event. -/
@[simp] theorem State.reg_bump (s : State) (k : Key) : (s.bump k).reg k = satInc 32 (s.reg k) := by simp [State.bump]

theorem State.reg_bump_ne (s : State) {k k' : Key} (h : k ≠ k') : (s.bump k).reg k' = s.reg k' := by
  simp [State.bump, State.reg_setReg_ne _ _ h]

/-- A write of an object keeps the register file canonical. -/
theorem State.regsWf_setReg (s : State) (k : Key) (v : Int) (h : regsWf s.regs = true) :
    regsWf (s.setReg k v).regs = true := by
  simp only [State.setReg, regsWf] at *
  exact SMap.wf_put regDefault s.regs k v h

theorem State.regsWf_bump (s : State) (k : Key) (h : regsWf s.regs = true) : regsWf (s.bump k).regs = true :=
  State.regsWf_setReg s k _ h

/-! ### Byte memories -/

/-- The byte stored at an address is read back, and the others stay. -/
theorem Memory.find_put (m : Memory) (i j : Nat) (x : BitVec 8) :
    SMap.find 0#8 (SMap.put 0#8 m i x) j = if i = j then x else SMap.find 0#8 m j := by
  by_cases h : i = j
  · subst h; simp
  · simp [h, SMap.find_put_ne _ _ m x h]

/-- A byte's write keeps the canonical form of a memory. -/
theorem Memory.wf_put (m : Memory) (i : Nat) (x : BitVec 8) (h : Memory.wf m = true) :
    Memory.wf (SMap.put 0#8 m i x) = true := SMap.wf_put (fun _ => 0#8) m i x h

end Sys2Proof.Machine
end

