-- ==== Sys2Proof/Laws/Faults.lean ====
section
/-!
SUPPORT. What raising, clearing and a DEVICE-SAFE entry can change: one lemma for each shared operation of
Machine/Faults.lean, in the terms of Safety.lean.
-/

namespace Sys2Proof.Machine

/-! ### Frames compose -/

theorem RaiseFrame.refl (s : State) : RaiseFrame s s := by
  constructor <;> first | rfl | exact ⟨rfl, rfl, rfl⟩ | exact ⟨rfl, rfl⟩ | exact fun _ _ => rfl | exact id | exact fun _ => rfl

/-- Raising and clearing do not move the device into its safe entry or out of it. -/
theorem RaiseFrame.inSafe {s t : State} (h : RaiseFrame s t) : t.inSafe = s.inSafe := by
  unfold State.inSafe
  rw [h.deviceSafe, h.dev, h.sup]

theorem RaiseFrame.trans {s t u : State} (h : RaiseFrame s t) (g : RaiseFrame t u) : RaiseFrame s u where
  pending := g.pending.trans h.pending
  now := g.now.trans h.now
  fresh := g.fresh.trans h.fresh
  frames := g.frames.trans h.frames
  ch := g.ch.trans h.ch
  watch := g.watch.trans h.watch
  front := g.front.trans h.front
  cal := g.cal.trans h.cal
  sets := g.sets.trans h.sets
  bead := g.bead.trans h.bead
  exc := g.exc.trans h.exc
  kelvin := g.kelvin.trans h.kelvin
  glv := g.glv.trans h.glv
  snap := g.snap.trans h.snap
  pf := g.pf.trans h.pf
  tal := g.tal.trans h.tal
  dev := g.dev.trans h.dev
  port := g.port.trans h.port
  grp := g.grp.trans h.grp
  store := g.store.trans h.store
  pt := g.pt.trans h.pt
  vote := g.vote.trans h.vote
  lnk := g.lnk.trans h.lnk
  hsp := g.hsp.trans h.hsp
  tap := g.tap.trans h.tap
  eth := g.eth.trans h.eth
  can := g.can.trans h.can
  tq := g.tq.trans h.tq
  time := g.time.trans h.time
  mgmt := g.mgmt.trans h.mgmt
  sched := g.sched.trans h.sched
  log := g.log.trans h.log
  sec := g.sec.trans h.sec
  sup := g.sup.trans h.sup
  red := by rw [g.red, h.red]
  upd := by rw [g.upd, h.upd]
  deviceSafe := g.deviceSafe.trans h.deviceSafe
  counts := ⟨g.counts.1.trans h.counts.1, g.counts.2.1.trans h.counts.2.1, g.counts.2.2.trans h.counts.2.2⟩
  osc := ⟨g.osc.1.trans h.osc.1, g.osc.2.trans h.osc.2⟩
  held := fun d => (g.held (h.inSafe.trans d)).trans (h.held d)
  reg := fun k hk => (g.reg k hk).trans (h.reg k hk)
  wf := fun w => g.wf (h.wf w)

/-- A fold keeps what each of its steps keeps. -/
theorem each_frame {α : Type} {f : State → α → State} (h : ∀ s a, RaiseFrame s (f s a)) (l : List α) (s : State) :
    RaiseFrame s (s.each l f) := by
  induction l generalizing s with
  | nil => exact RaiseFrame.refl s
  | cons a l ih => exact (h s a).trans (ih (f s a))

/-! ### The named operations -/

theorem modFc_frame (s : State) (f : Collector → Collector) : RaiseFrame s (s.modFc f) := by
  constructor <;> first | rfl | exact ⟨rfl, rfl, rfl⟩ | exact ⟨rfl, rfl⟩ | exact fun _ _ => rfl | exact id | exact fun _ => rfl

theorem modEmu_frame (s : State) (n : Fin 16) (f : Emu → Emu) : RaiseFrame s (s.modEmu n f) := by
  constructor <;> first | rfl | exact ⟨rfl, rfl, rfl⟩ | exact ⟨rfl, rfl⟩ | exact fun _ _ => rfl | exact id | exact fun _ => rfl

theorem modPsw_frame (s : State) (n : Fin 16) (f : Psw → Psw) : RaiseFrame s (s.modPsw n f) := by
  constructor <;> first | rfl | exact ⟨rfl, rfl, rfl⟩ | exact ⟨rfl, rfl⟩ | exact fun _ _ => rfl | exact id | exact fun _ => rfl

theorem modCap_frame (s : State) (f : Capture → Capture) : RaiseFrame s (s.modCap f) := by
  constructor <;> first | rfl | exact ⟨rfl, rfl, rfl⟩ | exact ⟨rfl, rfl⟩ | exact fun _ _ => rfl | exact id | exact fun _ => rfl

theorem modErr_frame (s : State) (b : Bool) : RaiseFrame s (s.modRed fun r => { r with err := b }) := by
  constructor <;> first | rfl | exact ⟨rfl, rfl, rfl⟩ | exact ⟨rfl, rfl⟩ | exact fun _ _ => rfl | exact id | exact fun _ => rfl

theorem modFaulted_frame (s : State) (b : Bool) : RaiseFrame s (s.modUpd fun u => { u with faulted := b }) := by
  constructor <;> first | rfl | exact ⟨rfl, rfl, rfl⟩ | exact ⟨rfl, rfl⟩ | exact fun _ _ => rfl | exact id | exact fun _ => rfl

theorem bumpLost_frame (s : State) : RaiseFrame s (s.bump Reg.FC_LOG_LOST) := by
  constructor <;>
    first
    | rfl
    | exact ⟨rfl, rfl, rfl⟩
    | exact ⟨rfl, rfl⟩
    | exact fun _ => rfl
    | exact fun k hk => State.reg_bump_ne s (Ne.symm hk)
    | exact fun w => State.regsWf_bump s _ w

theorem setSrc_frame (s : State) (id : Nat) (f : FSrc) : RaiseFrame s (s.setSrc id f) := modFc_frame s _

theorem countRaise_frame (s : State) (id : Nat) (upd : FSrc → FSrc) : RaiseFrame s (s.countRaise id upd) := by
  unfold State.countRaise
  dsimp only
  split <;> exact setSrc_frame s _ _

theorem dropSrc_frame (s : State) (id : Nat) : RaiseFrame s (s.dropSrc id) := by
  unfold State.dropSrc
  dsimp only
  split
  · exact RaiseFrame.refl s
  · split <;> exact setSrc_frame s _ _

/-- The floor under the capture of a first fault, field by field. -/
theorem captureFirst_floor (s : State) (id : Nat) :
    (s.captureFirst id).floor =
      { s.floor with
        lastId := (s.captureFirst id).floor.lastId, first := (s.captureFirst id).floor.first
        late := (s.captureFirst id).floor.late
        request := s.floor.request || (decide ((s.fltNow id).2.1 = 3) && !s.inSafe) } := by
  unfold State.captureFirst State.modFloor
  dsimp only
  repeat' split
  all_goals rfl

theorem captureFirst_frame (s : State) (id : Nat) : RaiseFrame s (s.captureFirst id) := by
  have h := captureFirst_floor s id
  constructor <;>
    first
    | rfl
    | exact fun _ _ => rfl
    | exact fun w => w
    | (intro hd; rw [h]; simp [hd])
    | (rw [h]; done)
    | (rw [h]; exact ⟨rfl, rfl, rfl⟩)
    | (rw [h]; exact ⟨rfl, rfl⟩)

theorem markTrial_frame (s : State) (id : Nat) : RaiseFrame s (s.markTrial id) := by
  unfold State.markTrial
  split
  · exact modFaulted_frame s true
  · exact RaiseFrame.refl s

theorem overflow_frame (s : State) : RaiseFrame s s.overflow := by
  unfold State.overflow
  split
  · exact RaiseFrame.refl s
  · exact (((countRaise_frame s _ _).trans (captureFirst_frame _ _)).trans (markTrial_frame _ _)).trans (dropSrc_frame _ _)

theorem enqueue_frame (s : State) (e : LogEvent) : RaiseFrame s (s.enqueue e) := by
  unfold State.enqueue
  split
  · exact RaiseFrame.refl s
  · split
    · exact modFc_frame s _
    · exact ((modFc_frame s _).trans (bumpLost_frame _)).trans (overflow_frame _)

theorem logKind_frame (s : State) (k i : Nat) (d : Bytes) : RaiseFrame s (s.logKind k i d) := enqueue_frame s _

theorem quota_frame (s t : State) (id : Nat) (h : s.quota id = some t) : RaiseFrame s t := by
  unfold State.quota at h
  dsimp only at h
  split at h <;> split at h <;> first | (cases h; exact modFc_frame s _) | cases h

theorem logSrc_frame (s : State) (k id : Nat) : RaiseFrame s (s.logSrc k id) := by
  unfold State.logSrc
  split
  · exact RaiseFrame.refl s
  · next h => exact (quota_frame _ _ _ h).trans (enqueue_frame _ _)

theorem capTrigger_frame (s : State) : RaiseFrame s s.capTrigger := by
  unfold State.capTrigger
  dsimp only
  split
  · exact modCap_frame s _
  · split
    · exact modCap_frame s _
    · exact RaiseFrame.refl s

theorem showEmu_frame (s : State) (n : Fin 16) : RaiseFrame s (s.showEmu n) := modEmu_frame s _ _

theorem showPsw_frame (s : State) (n : Fin 16) : RaiseFrame s (s.showPsw n) := modPsw_frame s _ _

theorem showOutputs_frame (s : State) : RaiseFrame s s.showOutputs :=
  (each_frame showEmu_frame _ s).trans (each_frame showPsw_frame _ _)

theorem raiseMarks_frame (s : State) (id : Nat) : RaiseFrame s (s.raiseMarks id) := by
  unfold State.raiseMarks
  split
  · exact modErr_frame s true
  · split
    · exact modFc_frame s _
    · exact RaiseFrame.refl s

theorem holdScope_frame (s : State) (id r : Nat) : RaiseFrame s (s.holdScope id r) := by
  unfold State.holdScope
  split
  · exact setSrc_frame s _ _
  · exact RaiseFrame.refl s

theorem capFault_frame (s : State) (id : Nat) : RaiseFrame s (s.capFault id) := by
  unfold State.capFault
  split
  · exact capTrigger_frame s
  · exact RaiseFrame.refl s

theorem showRaise_frame (s : State) (r : Nat) : RaiseFrame s (s.showRaise r) := by
  unfold State.showRaise
  split
  · exact showOutputs_frame s
  · exact RaiseFrame.refl s

theorem raiseWith_frame (s : State) (id : Nat) (upd : FSrc → FSrc) : RaiseFrame s (s.raiseWith id upd) := by
  unfold State.raiseWith
  split
  · exact RaiseFrame.refl s
  · split
    · exact setSrc_frame s _ _
    · exact (((((((countRaise_frame s id upd).trans (raiseMarks_frame _ _)).trans (holdScope_frame _ _ _)).trans
        (captureFirst_frame _ _)).trans (logSrc_frame _ _ _)).trans (showRaise_frame _ _)).trans
        (markTrial_frame _ _)).trans (capFault_frame _ _)

theorem raise_frame (s : State) (id : Nat) : RaiseFrame s (s.raise id) := raiseWith_frame s id _

theorem releaseScopes_frame (s : State) : RaiseFrame s s.releaseScopes := each_frame showPsw_frame _ s

theorem gone_frame (s : State) (id : Nat) : RaiseFrame s (s.gone id) := by
  unfold State.gone
  split
  · exact RaiseFrame.refl s
  · exact ((setSrc_frame s _ _).trans (dropSrc_frame _ _)).trans (releaseScopes_frame _)

theorem pulse_frame (s : State) (id : Nat) : RaiseFrame s (s.pulse id) := (raise_frame s id).trans (gone_frame _ id)

theorem level_frame (s : State) (id : Nat) (b : Bool) : RaiseFrame s (s.level id b) := by
  unfold State.level
  split
  · exact raise_frame s id
  · exact gone_frame s id

theorem idleSrc_frame (s : State) (id : Nat) : RaiseFrame s (s.idleSrc id) := by
  unfold State.idleSrc
  dsimp only
  split
  · exact ((logSrc_frame s 1 id).trans (setSrc_frame _ _ _)).trans (releaseScopes_frame _)
  · exact RaiseFrame.refl s

/-! ### A DEVICE-SAFE entry and what it ends -/

theorem RaiseFrame.safe {s t : State} (h : RaiseFrame s t) : SafeFrame s t where
  pending := h.pending
  now := h.now
  fresh := h.fresh
  frames := h.frames
  watch := h.watch
  sets := h.sets
  bead := by rw [h.bead]
  kelvin := h.kelvin
  glv := h.glv
  snap := h.snap
  pf := h.pf
  tal := h.tal
  port := h.port
  grp := h.grp
  store := h.store
  pt := h.pt
  vote := h.vote
  hsp := h.hsp
  eth := h.eth
  can := h.can
  tq := h.tq
  time := h.time
  mgmt := h.mgmt
  log := h.log
  sup := h.sup
  upd := h.upd
  osc := h.osc
  held := fun d => ⟨h.inSafe.trans d, fun c => (h.held d).trans c⟩
  reg := fun k hk => h.reg k (by rintro rfl; simp [faultReg] at hk)
  wf := h.wf

theorem SafeFrame.refl (s : State) : SafeFrame s s := (RaiseFrame.refl s).safe

theorem SafeFrame.trans {s t u : State} (h : SafeFrame s t) (g : SafeFrame t u) : SafeFrame s u where
  pending := g.pending.trans h.pending
  now := g.now.trans h.now
  fresh := g.fresh.trans h.fresh
  frames := g.frames.trans h.frames
  watch := g.watch.trans h.watch
  sets := g.sets.trans h.sets
  bead := by rw [g.bead, h.bead]
  kelvin := g.kelvin.trans h.kelvin
  glv := g.glv.trans h.glv
  snap := g.snap.trans h.snap
  pf := g.pf.trans h.pf
  tal := g.tal.trans h.tal
  port := g.port.trans h.port
  grp := g.grp.trans h.grp
  store := g.store.trans h.store
  pt := g.pt.trans h.pt
  vote := g.vote.trans h.vote
  hsp := g.hsp.trans h.hsp
  eth := g.eth.trans h.eth
  can := g.can.trans h.can
  tq := g.tq.trans h.tq
  time := g.time.trans h.time
  mgmt := g.mgmt.trans h.mgmt
  log := g.log.trans h.log
  sup := g.sup.trans h.sup
  upd := by rw [g.upd, h.upd]
  osc := ⟨g.osc.1.trans h.osc.1, g.osc.2.trans h.osc.2⟩
  held := fun d => ⟨(g.held (h.held d).1).1, fun c => (g.held (h.held d).1).2 ((h.held d).2 c)⟩
  reg := fun k hk => (g.reg k hk).trans (h.reg k hk)
  wf := fun w => g.wf (h.wf w)

theorem each_safe {α : Type} {f : State → α → State} (h : ∀ s a, SafeFrame s (f s a)) (l : List α) (s : State) :
    SafeFrame s (s.each l f) := by
  induction l generalizing s with
  | nil => exact SafeFrame.refl s
  | cons a l ih => exact (h s a).trans (ih (f s a))

theorem modRed_safe (s : State) (f : Red → Red) : SafeFrame s (s.modRed f) := by
  constructor <;> first | rfl | exact ⟨rfl, rfl⟩ | exact fun _ _ => rfl | exact fun w => w | exact fun d => ⟨d, fun c => c⟩

theorem modDev_safe (s : State) (f : Device → Device) (h : (f s.dev).state = .safe) : SafeFrame s (s.modDev f) := by
  constructor <;>
    first
    | rfl
    | exact ⟨rfl, rfl⟩
    | exact fun _ _ => rfl
    | exact fun w => w
    | (intro d
       refine ⟨?_, fun c => c⟩
       have h1 : s.floor.deviceSafe = true := by
         unfold State.inSafe at d
         exact (Bool.and_eq_true_iff.1 d).1
       unfold State.inSafe State.modDev
       simp [h1, h])

theorem modFloor_safe (s : State) (f : Floor → Floor) (o : (f s.floor).oscLost = s.floor.oscLost ∧ (f s.floor).since = s.floor.since)
    (h : s.inSafe = true → (s.modFloor f).inSafe = true ∧ (s.floor.request = false → (f s.floor).request = false)) :
    SafeFrame s (s.modFloor f) := by
  constructor <;> first | rfl | exact o | exact fun _ _ => rfl | exact fun w => w | exact h

theorem modCh_safe (s : State) (n : ChId) (f : Chan → Chan) : SafeFrame s (s.modCh n f) := by
  constructor <;> first | rfl | exact ⟨rfl, rfl⟩ | exact fun _ _ => rfl | exact fun w => w | exact fun d => ⟨d, fun c => c⟩

theorem modFront_safe (s : State) (n : ChId) (f : Front → Front) : SafeFrame s (s.modFront n f) := by
  constructor <;> first | rfl | exact ⟨rfl, rfl⟩ | exact fun _ _ => rfl | exact fun w => w | exact fun d => ⟨d, fun c => c⟩

theorem modCal_safe (s : State) (n : ChId) (f : Cal → Cal) : SafeFrame s (s.modCal n f) := by
  constructor <;> first | rfl | exact ⟨rfl, rfl⟩ | exact fun _ _ => rfl | exact fun w => w | exact fun d => ⟨d, fun c => c⟩

theorem modSched_safe (s : State) (d : Fin 17) (f : Sched → Sched) : SafeFrame s (s.modSched d f) := by
  constructor <;> first | rfl | exact ⟨rfl, rfl⟩ | exact fun _ _ => rfl | exact fun w => w | exact fun d => ⟨d, fun c => c⟩

theorem modLnk_safe (s : State) (k : Fin 2) (f : Link → Link) : SafeFrame s (s.modLnk k f) := by
  constructor <;> first | rfl | exact ⟨rfl, rfl⟩ | exact fun _ _ => rfl | exact fun w => w | exact fun d => ⟨d, fun c => c⟩

theorem modExc_safe (s : State) (e : ExcId) (f : Exc → Exc) : SafeFrame s (s.modExc e f) := by
  constructor <;> first | rfl | exact ⟨rfl, rfl⟩ | exact fun _ _ => rfl | exact fun w => w | exact fun d => ⟨d, fun c => c⟩

theorem modSec_safe (s : State) (f : Sec → Sec) : SafeFrame s (s.modSec f) := by
  constructor <;> first | rfl | exact ⟨rfl, rfl⟩ | exact fun _ _ => rfl | exact fun w => w | exact fun d => ⟨d, fun c => c⟩

theorem modTap_safe (s : State) (f : Tap → Tap) : SafeFrame s (s.modTap f) := by
  constructor <;> first | rfl | exact ⟨rfl, rfl⟩ | exact fun _ _ => rfl | exact fun w => w | exact fun d => ⟨d, fun c => c⟩

theorem setReg_safe (s : State) (k : Key) (v : Int) (hk : faultReg k = true) : SafeFrame s (s.setReg k v) := by
  constructor <;>
    first
    | rfl
    | exact ⟨rfl, rfl⟩
    | exact fun d => ⟨d, fun c => c⟩
    | exact fun j hj => State.reg_setReg_ne s v (by rintro rfl; rw [hk] at hj; cases hj)
    | exact fun w => State.regsWf_setReg s k v w

theorem bump_safe (s : State) (k : Key) (hk : faultReg k = true) : SafeFrame s (s.bump k) := setReg_safe s k _ hk

/-- The channel's counters of R88 and R137 are among those that a fault may move. -/
theorem faultReg_chan (n : ChId) :
    faultReg (Reg.CH_INJ_ABORT n) = true ∧ faultReg (Reg.CAL_CNT_ACCEPTED n) = true ∧
    faultReg (Reg.CAL_CNT_REJECTED n) = true ∧ faultReg (Reg.CAL_CNT_INSUFFICIENT n) = true ∧
    faultReg (Reg.CAL_CNT_ABORTED n) = true := by
  have h : ∀ f : ChId → Bool, f n = true → all16.any f = true := fun f hf =>
    List.any_eq_true.2 ⟨n, List.mem_finRange n, hf⟩
  refine ⟨?_, ?_, ?_, ?_, ?_⟩ <;>
    (unfold faultReg; rw [Bool.or_eq_true]; exact Or.inr (h _ (by simp)))

theorem modWriting_safe (s : State) (w : Option BeadGen) : SafeFrame s (s.modBead fun b => { b with writing := w }) := by
  constructor <;> first | rfl | exact ⟨rfl, rfl⟩ | exact fun _ _ => rfl | exact fun w => w | exact fun d => ⟨d, fun c => c⟩

theorem startActivity_safe (s : State) (d : Fin 17) (a : Activity) : SafeFrame s (s.startActivity d a) := by
  unfold State.startActivity
  split
  · exact modWriting_safe s _
  · exact SafeFrame.refl s

theorem schedEnd_safe (s : State) (d : Fin 17) : SafeFrame s (s.schedEnd d) := by
  unfold State.schedEnd
  dsimp only
  split
  · exact modSched_safe s _ _
  · split
    · split
      · exact modSched_safe s _ _
      · exact (modSched_safe s _ _).trans (startActivity_safe _ _ _)
    · exact modSched_safe s _ _

theorem schedWithdraw_safe (s : State) (d : Fin 17) (a : Activity) : SafeFrame s (s.schedWithdraw d a) := by
  unfold State.schedWithdraw
  extract_lets x b c
  have hb : SafeFrame s b := by
    dsimp only [b]; split
    · exact modSched_safe s _ _
    · exact SafeFrame.refl s
  have hc : SafeFrame b c := by
    dsimp only [c]; split
    · exact modSched_safe b _ _
    · exact SafeFrame.refl b
  refine (hb.trans hc).trans ?_
  split
  · exact schedEnd_safe _ _
  · exact SafeFrame.refl _

theorem abortTest_safe (s : State) (n : ChId) (r : Nat) : SafeFrame s (s.abortTest n r) := by
  unfold State.abortTest
  split
  · exact ((modCh_safe s _ _).trans (setReg_safe _ _ _ (faultReg_chan n).1)).trans (schedWithdraw_safe _ _ _)
  · split
    · exact SafeFrame.refl s
    · exact modCh_safe s _ _
  · exact SafeFrame.refl s

theorem abortTests_safe (s : State) (r : Nat) : SafeFrame s (s.abortTests r) := by
  refine each_safe (fun t n => ?_) _ s
  split
  · exact SafeFrame.refl t
  · exact abortTest_safe t n r

theorem endRun_safe (s : State) (n : ChId) (r d : Nat) : SafeFrame s (s.endRun n r d) := by
  unfold State.endRun
  extract_lets c hold a b
  have ha : SafeFrame s a := modCal_safe s n _
  have hb : SafeFrame a b := by
    obtain ⟨h1, h2, h3, h4, h5⟩ := faultReg_chan n
    dsimp only [b]
    split
    · next k hk =>
      refine bump_safe a k ?_
      unfold calCounter at hk
      split at hk <;> cases hk <;> assumption
    · exact SafeFrame.refl a
  exact (ha.trans hb).trans
    (((logKind_frame _ _ _ _).safe.trans (schedWithdraw_safe _ _ _)).trans (pulse_frame _ _).safe)

theorem abortRun_safe (s : State) (n : ChId) (d : Nat) : SafeFrame s (s.abortRun n d) := by
  unfold State.abortRun
  split <;> first | exact endRun_safe s n 5 d | exact SafeFrame.refl s

theorem abortRuns_safe (s : State) (b : Bool) : SafeFrame s (s.abortRuns b) := by
  refine each_safe (fun t n => ?_) _ s
  repeat' split
  all_goals first | exact abortRun_safe t n 4 | exact SafeFrame.refl t

theorem setSeat_safe (s : State) (x : SeatState) : SafeFrame s (s.setSeat x) := by
  unfold State.setSeat
  extract_lets old
  split
  · exact SafeFrame.refl s
  · exact (modRed_safe s _).trans (logKind_frame _ _ _ _).safe

theorem endAttempt_safe (s : State) (x : SeatState) : SafeFrame s (s.endAttempt x) := by
  unfold State.endAttempt
  extract_lets a b
  refine ((setSeat_safe s x).trans (modRed_safe a _)).trans (show SafeFrame b _ from ?_)
  split
  · exact ((modRed_safe _ _).trans (bump_safe _ _ (by decide))).trans (pulse_frame _ _).safe
  · exact SafeFrame.refl _

theorem sendRelease_safe (s : State) : SafeFrame s s.sendRelease := by
  refine each_safe (fun t k => ?_) _ s
  split
  · exact modLnk_safe t _ _
  · exact SafeFrame.refl t

theorem releaseClaim_safe (s : State) (x : SeatState) : SafeFrame s (s.releaseClaim x) := by
  unfold State.releaseClaim
  dsimp only
  refine (sendRelease_safe s).trans ?_
  split
  · exact ((modRed_safe _ _).trans (setSeat_safe _ x)).trans (showOutputs_frame _).safe
  · exact endAttempt_safe _ x

theorem setDebug_safe (s : State) (v r p : Nat) : SafeFrame s (s.setDebug v r p) := by
  unfold State.setDebug
  extract_lets old a b
  split
  · exact SafeFrame.refl s
  · have ha : SafeFrame s a := (modSec_safe s _).trans (modTap_safe _ _)
    have hb : SafeFrame a b := by
      dsimp only [b]; split
      · exact (bump_safe _ _ (by decide)).trans (raise_frame _ _).safe
      · exact (gone_frame _ _).safe
    exact (ha.trans hb).trans (logKind_frame _ _ _ _).safe

theorem dropForces_safe (s : State) : SafeFrame s s.dropForces := by
  refine SafeFrame.trans (each_safe (fun t id => ?_) _ s) (releaseScopes_frame _).safe
  split
  · exact ((setSrc_frame t _ _).trans (dropSrc_frame _ _)).safe
  · exact SafeFrame.refl t

theorem leaveService_safe (s : State) (r p : Nat) : SafeFrame s (s.leaveService r p) := by
  unfold State.leaveService
  split
  · exact (dropForces_safe s).trans (setDebug_safe _ _ _ _)
  · exact SafeFrame.refl s

theorem leaveRun_safe (s : State) (x : SeatState) : SafeFrame s (s.leaveRun x) :=
  (releaseClaim_safe s x).trans (modRed_safe _ _)

/-- The change of the device state to SAFE. -/
theorem enterDev_safe (s : State) (r p : Nat) : SafeFrame s (s.enterDev .safe r p) := by
  unfold State.enterDev
  extract_lets old at_ a b c d e f
  have hc : SafeFrame b c := by
    dsimp only [c]; split
    · exact leaveRun_safe b _
    · exact SafeFrame.refl b
  have he : SafeFrame d e := by
    dsimp only [e]; split
    · exact leaveService_safe d _ _
    · exact SafeFrame.refl d
  rw [if_neg (show ¬ DevState.safe = DevState.run by decide)]
  split
  · exact SafeFrame.refl s
  · exact (((((modDev_safe s _ rfl).trans (logKind_frame a _ _ _).safe).trans hc).trans (abortTests_safe c 3)).trans he).trans
      (abortRuns_safe e _)

theorem foldClear_safe (s : State) (e : ExcId) : SafeFrame s (s.foldClear e) :=
  (modExc_safe s _ _).trans (gone_frame _ _).safe

theorem holdExciters_safe (s : State) : SafeFrame s s.holdExciters := by
  refine each_safe (fun t e => ?_) _ s
  split
  · exact (modExc_safe t _ _).trans (foldClear_safe _ _)
  · exact SafeFrame.refl t

/-- What the DEVICE-SAFE entry changes (R207). -/
theorem safeEntry_safe (s : State) : SafeFrame s s.safeEntry := by
  unfold State.safeEntry
  extract_lets a b c
  split
  · exact SafeFrame.refl s
  · next hd =>
    have ha : SafeFrame s a := modFloor_safe s _ ⟨rfl, rfl⟩ (fun d => absurd d hd)
    split
    · exact ha
    · exact ha.trans ((((releaseClaim_safe a _).trans ((enterDev_safe b _ _).trans (setSeat_safe _ _))).trans
        (holdExciters_safe c)).trans (showOutputs_frame _).safe)

/-- The end of a command changes what a DEVICE-SAFE entry may change, and leaves no entry asked for. -/
theorem settled_safe (s : State) : SafeFrame s s.settled ∧ s.settled.floor.request = false := by
  unfold State.settled
  split
  · exact ⟨(safeEntry_safe s).trans (modFloor_safe _ _ ⟨rfl, rfl⟩ fun d => ⟨d, fun _ => rfl⟩), rfl⟩
  · next h => exact ⟨SafeFrame.refl s, by simpa using h⟩

/-- Between commands the end of a command changes nothing. -/
theorem settled_calm (s : State) (h : s.Calm) : s.settled = s := by
  unfold State.settled
  rw [if_neg (by rw [h.1]; decide)]

theorem done_calm (s : State) (h : s.Calm) : done s = .next s := by rw [done, settled_calm s h]

/-! ### A raised source -/

@[simp] theorem src_setSrc (s : State) (id : Nat) (f : FSrc) : (s.setSrc id f).src id = f := SMap.find_put_self _ _ _ _

theorem src_setSrc_ne (s : State) {id j : Nat} (f : FSrc) (h : id ≠ j) : (s.setSrc id f).src j = s.src j :=
  SMap.find_put_ne _ _ _ f h

/-- What is in effect for a source follows its own data and the visible configuration only. -/
theorem fltNow_setSrc (s : State) (id : Nat) (f : FSrc) (h : f.eff = (s.src id).eff) :
    (s.setSrc id f).fltNow id = s.fltNow id := by
  unfold State.fltNow
  rw [src_setSrc, h]
  rfl

/-- Calmness follows the floor, the device state and what is in effect for LOG_QUEUE_OVF only. -/
theorem calm_of {s t : State} (hr : t.floor.request = s.floor.request) (hs : t.inSafe = s.inSafe)
    (he : (t.src 1029).eff = (s.src 1029).eff ∨ (t.src 1029).eff = none) (hv : t.fltVisible 1029 = s.fltVisible 1029)
    (c : s.Calm) : t.Calm := by
  refine ⟨hr.trans c.1, c.2.imp (fun d => hs.trans d) fun ⟨h1, h2⟩ => ⟨?_, by rw [hv]; exact h2⟩⟩
  unfold State.fltNow at h1 ⊢
  rcases he with he | he
  · rw [he, hv]; exact h1
  · rw [he]; simp only [hv]; exact h2

theorem each_calm {α : Type} {f : State → α → State} (h : ∀ s a, s.Calm → (f s a).Calm) (l : List α) (s : State)
    (c : s.Calm) : (s.each l f).Calm := by
  induction l generalizing s with
  | nil => exact c
  | cons a l ih => exact ih (f s a) (h s a c)

theorem setSrc_calm (s : State) (id : Nat) (f : FSrc) (h : f.eff = (s.src id).eff ∨ f.eff = none) (c : s.Calm) :
    (s.setSrc id f).Calm := by
  refine calm_of (s := s) rfl rfl ?_ rfl c
  by_cases e : id = 1029
  · subst e; rw [src_setSrc]; exact h
  · rw [src_setSrc_ne s f e]; exact .inl rfl

theorem countRaise_calm (s : State) (id : Nat) (upd : FSrc → FSrc) (h : ∀ f, (upd f).eff = f.eff) (c : s.Calm) :
    (s.countRaise id upd).Calm := by
  unfold State.countRaise
  dsimp only
  split <;> exact setSrc_calm s id _ (.inl (h _)) c

theorem dropSrc_calm (s : State) (id : Nat) (c : s.Calm) : (s.dropSrc id).Calm := by
  unfold State.dropSrc
  dsimp only
  split
  · exact c
  · split
    · exact setSrc_calm s id _ (.inr rfl) c
    · exact setSrc_calm s id _ (.inl rfl) c

/-- The capture of a fault asks for no entry in SAFE, or when the reaction is no DEVICE-SAFE. -/
theorem captureFirst_calm (s : State) (id : Nat) (m : s.inSafe = true ∨ s.Mild id) (c : s.Calm) : (s.captureFirst id).Calm := by
  have h := captureFirst_floor s id
  refine calm_of ?_ (captureFirst_frame s id).inSafe (.inl rfl) rfl c
  rw [h]
  rcases m with m | m
  · simp [m]
  · have m' : (s.fltNow id).2.1 ≠ 3 := m
    simp [m']

theorem raiseMarks_calm (s : State) (id : Nat) (c : s.Calm) : (s.raiseMarks id).Calm := by
  unfold State.raiseMarks
  split
  · exact c
  · split <;> exact c

theorem holdScope_calm (s : State) (id r : Nat) (c : s.Calm) : (s.holdScope id r).Calm := by
  unfold State.holdScope
  split
  · exact setSrc_calm s id _ (.inl rfl) c
  · exact c

theorem markTrial_calm (s : State) (id : Nat) (c : s.Calm) : (s.markTrial id).Calm := by
  unfold State.markTrial
  split <;> exact c

theorem capFault_calm (s : State) (id : Nat) (c : s.Calm) : (s.capFault id).Calm := by
  unfold State.capFault State.capTrigger
  dsimp only
  repeat' split
  all_goals exact c

theorem showOutputs_calm (s : State) (c : s.Calm) : s.showOutputs.Calm :=
  each_calm (f := State.showPsw) (fun _ _ c => c) _ _ (each_calm (f := State.showEmu) (fun _ _ c => c) _ s c)

theorem showRaise_calm (s : State) (r : Nat) (c : s.Calm) : (s.showRaise r).Calm := by
  unfold State.showRaise
  split
  · exact showOutputs_calm s c
  · exact c

theorem releaseScopes_calm (s : State) (c : s.Calm) : s.releaseScopes.Calm :=
  each_calm (f := State.showPsw) (fun _ _ c => c) _ s c

/-- What is in effect for a source stays in effect while it counts. -/
theorem fltNow_countRaise (s : State) (id : Nat) (upd : FSrc → FSrc) (h : ∀ f, (upd f).eff = f.eff) :
    (s.countRaise id upd).fltNow id = s.fltNow id := by
  unfold State.countRaise
  dsimp only
  split <;> exact fltNow_setSrc s id _ (h _)

theorem overflow_calm (s : State) (c : s.Calm) : s.overflow.Calm := by
  unfold State.overflow
  split
  · exact c
  · refine dropSrc_calm _ _ (markTrial_calm _ _ (captureFirst_calm _ _ ?_ (countRaise_calm s _ _ (fun _ => rfl) c)))
    refine c.2.imp (fun d => (countRaise_frame s _ _).inSafe.trans d) fun h => ?_
    unfold State.Mild
    rw [fltNow_countRaise s _ id fun _ => rfl]
    exact h.1

theorem bumpLost_calm (s : State) (c : s.Calm) : (s.bump Reg.FC_LOG_LOST).Calm := by
  refine calm_of (s := s) rfl rfl (.inl rfl) ?_ c
  unfold State.fltVisible State.regN State.flag
  rw [State.reg_bump_ne s (by decide), State.reg_bump_ne s (by decide), State.reg_bump_ne s (by decide)]

theorem enqueue_calm (s : State) (e : LogEvent) (c : s.Calm) : (s.enqueue e).Calm := by
  unfold State.enqueue
  split
  · exact c
  · split
    · exact c
    · exact overflow_calm _ (bumpLost_calm _ c)

theorem logKind_calm (s : State) (k i : Nat) (d : Bytes) (c : s.Calm) : (s.logKind k i d).Calm := enqueue_calm s _ c

theorem logSrc_calm (s : State) (k id : Nat) (c : s.Calm) : (s.logSrc k id).Calm := by
  unfold State.logSrc
  split
  · exact c
  · next h =>
    refine enqueue_calm _ _ ?_
    unfold State.quota at h
    dsimp only at h
    split at h <;> split at h <;> first | (cases h; exact c) | cases h

/-- What is in effect for a source stays in effect while it raises. -/
theorem fltNow_raising (s : State) (id r : Nat) (upd : FSrc → FSrc) (h : ∀ f, (upd f).eff = f.eff) :
    (((s.countRaise id upd).raiseMarks id).holdScope id r).fltNow id = s.fltNow id := by
  have h2 : ((s.countRaise id upd).raiseMarks id).fltNow id = (s.countRaise id upd).fltNow id := by
    unfold State.raiseMarks
    split
    · rfl
    · split <;> rfl
  have h3 : ∀ t : State, (t.holdScope id r).fltNow id = t.fltNow id := by
    intro t
    unfold State.holdScope
    split
    · exact fltNow_setSrc t id _ rfl
    · rfl
  rw [h3, h2, fltNow_countRaise s id upd h]

/-- A raise whose reaction is no DEVICE-SAFE asks for no entry. -/
theorem raiseWith_calm (s : State) (id : Nat) (upd : FSrc → FSrc) (h : ∀ f, (upd f).eff = f.eff)
    (m : s.inSafe = true ∨ s.Mild id) (c : s.Calm) : (s.raiseWith id upd).Calm := by
  unfold State.raiseWith
  split
  · exact c
  · split
    · exact setSrc_calm s id _ (.inl (h _)) c
    · extract_lets r t
      have ft : RaiseFrame s t :=
        ((countRaise_frame s id upd).trans (raiseMarks_frame _ _)).trans (holdScope_frame _ _ _)
      have ht : t.Calm := holdScope_calm _ _ _ (raiseMarks_calm _ _ (countRaise_calm s id upd h c))
      have hm : t.inSafe = true ∨ t.Mild id :=
        m.imp (fun d => ft.inSafe.trans d) fun m => by
          unfold State.Mild
          rw [show t.fltNow id = s.fltNow id from fltNow_raising s id r upd h]
          exact m
      exact capFault_calm _ _ (markTrial_calm _ _ (showRaise_calm _ _ (logSrc_calm _ _ _ (captureFirst_calm t id hm ht))))

theorem raise_calm (s : State) (id : Nat) (m : s.inSafe = true ∨ s.Mild id) (c : s.Calm) : (s.raise id).Calm :=
  raiseWith_calm s id _ (fun _ => rfl) m c

theorem gone_calm (s : State) (id : Nat) (c : s.Calm) : (s.gone id).Calm := by
  unfold State.gone
  split
  · exact c
  · exact releaseScopes_calm _ (dropSrc_calm _ _ (setSrc_calm s id _ (.inl rfl) c))

theorem idleSrc_calm (s : State) (id : Nat) (c : s.Calm) : (s.idleSrc id).Calm := by
  unfold State.idleSrc
  dsimp only
  split
  · exact releaseScopes_calm _ (setSrc_calm _ id _ (.inr rfl) (logSrc_calm s 1 id c))
  · exact c

theorem pulse_calm (s : State) (id : Nat) (m : s.inSafe = true ∨ s.Mild id) (c : s.Calm) : (s.pulse id).Calm :=
  gone_calm _ _ (raise_calm s id m c)

theorem level_calm (s : State) (id : Nat) (b : Bool) (m : s.inSafe = true ∨ s.Mild id) (c : s.Calm) : (s.level id b).Calm := by
  unfold State.level
  split
  · exact raise_calm s id m c
  · exact gone_calm s id c

/-! ### An access of a host -/

/-- The heartbeat moves nothing but the port (R271). -/
theorem beat_calm (s : State) (p : Port) (c : s.Calm) : (s.beat p).Calm := c

/-- An access that the dictionary accepts has its effect on the state whose heartbeat it has restarted. -/
theorem hostWrite_admitted (s t : State) (p : Port) (k : Key) (data : Bytes) (v : Int) (eff : Int → Eff)
    (h : s.Admits p k data v) (he : eff v (s.beat p) = .ok t) : hostWrite p k data eff s = .next t.settled := by
  obtain ⟨hg, o, hc⟩ := h
  unfold hostWrite State.write State.writeWith done
  rw [hg]
  simp only [hc, he, orElseSame]

/-- An access refused by its own conditions leaves the refusal's marks only (R266). -/
theorem hostWrite_conditions (s : State) (p : Port) (k : Key) (data : Bytes) (v : Int) (n : Nak) (eff : Int → Eff)
    (h : s.Admits p k data v) (he : eff v (s.beat p) = .error n) :
    hostWrite p k data eff s = .next ((s.beat p).refuse p k n).settled := by
  obtain ⟨hg, o, hc⟩ := h
  unfold hostWrite State.write State.writeWith done
  rw [hg]
  simp only [hc, he, orElseSame]

/-- An access refused at one of the steps 1 to 6 of R261. -/
theorem hostWrite_rejected (s : State) (p : Port) (k : Key) (data : Bytes) (n : Nak) (eff : Int → Eff)
    (h : s.Rejects p k data n) : hostWrite p k data eff s = .next ((s.beat p).refuse p k n).settled := by
  obtain ⟨hg, hc⟩ := h
  unfold hostWrite State.write State.writeWith done
  rw [hg]
  simp only [hc]

end Sys2Proof.Machine
end

