-- ==== Sys2Proof/Laws/Visible.lean ====
section
/-!
SUPPORT. Objects without a further effect when they become visible.
-/

namespace Sys2Proof.Machine

/-- The objects whose visible value has a further effect of its own (R270). -/
def actingKeys : List Key :=
  [Reg.EXC_ENABLE 0, Reg.EXC_MODE 0, Reg.EXC_FREQ 0, Reg.EXC_AMPL 0, Reg.CH_EXC_SEL 0, Reg.CH_ENABLE 0, Reg.CH_BANK_SEL 0,
   Reg.GLV_MODE 0, Reg.GLV_MODE_ODD 0, Reg.CH_PROBE_FREQ 0, Reg.EMU_ENABLE 0, Reg.EMU_SRC 0, Reg.EMU_SRC_KIND 0,
   Reg.PSW_ENABLE 0, Reg.PSW_SRC 0, Reg.EMU_SEAT_GATE 0, Reg.EMU_INVALID 0, Reg.PSW_SEAT_GATE 0, Reg.PSW_INVALID 0,
   Reg.PSW_POLARITY 0, Reg.TAL_ENABLE 0, Reg.TAL_LIM_LO 0, Reg.TAL_LIM_HI 0, Reg.TAL_IDX_MODE 0, Reg.PF_ENABLE 0,
   Reg.RED_MODE, Reg.RED_LNK1_MODE, Reg.RED_CYCLE, Reg.RED_CYCLE_FIRST, Reg.ETH_ENABLE 0, Reg.DGR_PEER_IP 0,
   Reg.DGR_PEER_UDP 0, Reg.CAN_ENABLE 0]

/-- No effect follows the visibility of this object. -/
def plainKey (k : Key) : Bool :=
  let b := baseKey k
  (trimOf b).isNone && (fieldOf b).isNone && !actingKeys.contains b &&
    !(([0x2016, 0x2017, 0x5510, 0x5511] : List Nat).contains (b / 256))

theorem plainAt_of_plainKey (p : Port) (k : Key) (v : Int) (h : plainKey k = true) : plainAt p k v := by
  intro s old
  simp only [plainKey, actingKeys, List.contains_cons, List.contains_nil, Bool.and_eq_true, Bool.not_eq_true',
    Bool.or_eq_false_iff, Option.isNone_iff_eq_none, beq_eq_false_iff_ne, ne_eq, Bool.or_false] at h
  obtain ⟨⟨⟨h1, h2⟩, h3⟩, h4⟩ := h
  simp [State.onVisible, h1, h2, h3, h4]

/-- Entries of distinct plain objects other than CFG_GEN. -/
theorem plainEntries_of_plainKey (p : Port) (es : List Entry) (h : (es.map fun e => e.1).Nodup)
    (h' : ∀ e ∈ es, e.1 ≠ Reg.CFG_GEN ∧ plainKey e.1 = true) : plainEntries p es :=
  ⟨h, fun e he => ⟨(h' e he).1, plainAt_of_plainKey p e.1 e.2 (h' e he).2⟩⟩

end Sys2Proof.Machine
end

