-- ==== Sys2Proof/Tests/Slice0.lean ====
section
/-!
SUPPORT. Tests of the model: an ill-formed term for each check of WellFormed, one step of a command against the manual's
numbers, and for every statement with hypotheses states and operands that meet them.
-/

open Sys2Proof Sys2Proof.Machine

namespace Sys2Proof.Tests

set_option Elab.async false
set_option linter.unnecessarySeqFocus false
set_option linter.unusedSimpArgs false
set_option linter.unusedTactic false
set_option linter.unreachableTactic false

/-! ### Hypotheses in a form that evaluates -/

/-- The value that an accepted write spells, and the refusal of a refused one. -/
def checked (s : State) (p : Port) (k : Key) (data : Bytes) : Int ⊕ Nak :=
  match (s.beat p).writeChecks p k data with
  | .ok (_, v) => .inl v
  | .error n => .inr n

theorem admits_iff (s : State) (p : Port) (k : Key) (data : Bytes) (v : Int) :
    s.Admits p k data v ↔ s.gate p = .ready ∧ checked s p k data = .inl v := by
  unfold State.Admits checked
  cases (s.beat p).writeChecks p k data with
  | error n => simp
  | ok x => obtain ⟨o, w⟩ := x; simp

theorem rejects_iff (s : State) (p : Port) (k : Key) (data : Bytes) (n : Nak) :
    s.Rejects p k data n ↔ s.gate p = .ready ∧ checked s p k data = .inr n := by
  unfold State.Rejects checked
  cases (s.beat p).writeChecks p k data with
  | error n => simp
  | ok x => obtain ⟨o, w⟩ := x; simp

def isOk (e : Except Nak Unit) : Bool := match e with | .ok _ => true | .error _ => false

def isNak {α : Type} (e : Except Nak α) (n : Nak) : Bool := match e with | .ok _ => false | .error m => decide (m = n)

theorem ok_iff (e : Except Nak Unit) : e = .ok () ↔ isOk e = true := by cases e <;> simp [isOk]

theorem nak_iff {α : Type} (e : Except Nak α) (n : Nak) : e = .error n ↔ isNak e n = true := by cases e <;> simp [isNak]

/-- A command's own effect is accepted and asks for no DEVICE-SAFE entry. -/
def calmOk (e : Except Nak State) : Bool := match e with | .ok u => !u.floor.request | .error _ => false

/-- A read is answered and asks for no DEVICE-SAFE entry. -/
def readsCalm (s : State) (p : Port) (k : Key) : Bool :=
  match State.readChecks p k with
  | .ok o => (match s.readObj p k o with | .ok (u, _) => !u.floor.request | .error _ => false)
  | .error _ => false

/-- The number of bytes of an answered read that asks for no DEVICE-SAFE entry. -/
def readLen (s : State) (p : Port) (k : Key) : Option Nat :=
  match State.readChecks p k with
  | .ok o =>
    (match s.readObj p k o with
    | .ok (u, d) => if u.floor.request then none else some d.length
    | .error _ => none)
  | .error _ => none

/-- What a claim looks at in the next state of an answer. -/
def seen {α : Type} (o : Host.Outcome State Fault Refusal) (f : State → α) : Option α :=
  match o with | .next t => some (f t) | .fault _ => none | .refused _ => none

/-! ### Small states -/

def base : State :=
  { State.reset with
    sup := { reset := false, pll := true, booted := true }
    mgmt := { service := true }
    dev := { State.reset.dev with state := .config }
    sec := { lifecycle := 1 }
    port := Vector.replicate 7 { role := .vendor } }
def runS : State := { base with dev := { base.dev with state := .run } }
def svc : State := { base with dev := { base.dev with state := .service } }
def ev0 : LogEvent := base.event 3 5 0 none []
def cs (x : ChState) (s : State) : State :=
  { s with ch := s.ch.map fun c => { c with state := x, loop := { c.loop with th := 0x12345678, carry := 3, w := 12345678, i := -345 } } }
def dv (d : DevState) (s : State) : State := { s with dev := { s.dev with state := d } }
def ex (st : ExcState) (s : State) : State :=
  { s with exc := s.exc.map fun e => { e with state := st, mode := 1, step := if st = .run then 16 else 7, applied := 123 } }
def mc (f : Chan → Chan) (s : State) : State := { s with ch := s.ch.map f }
def me (f : Exc → Exc) (s : State) : State := { s with exc := s.exc.map f }
def mf (f : Front → Front) (s : State) : State := { s with front := s.front.map f }
def mw (f : Watch → Watch) (s : State) : State := { s with watch := s.watch.map f }
def mk (f : Kelvin → Kelvin) (s : State) : State := { s with kelvin := s.kelvin.map f }
def ml (f : Cal → Cal) (s : State) : State := { s with cal := s.cal.map f }
def msd (f : Sched → Sched) (s : State) : State := { s with sched := s.sched.map f }
def r16 (k : Nat → Key) (v : Int) (s : State) : State := (List.range 16).foldl (fun s n => s.setReg (k n) v) s
def r4 (k : Nat → Key) (v : Int) (s : State) : State := (List.range 4).foldl (fun s n => s.setReg (k n) v) s
def dsafe (s : State) : State := { (dv .safe s) with floor := { s.floor with deviceSafe := true } }
def bw (b : Bool) (f : Int) (s : State) : State :=
  (List.range 16).foldl (fun s (n : Nat) => (bankEntries (Fin.ofNat 16 n) b (designOf f 1000 (s.reg (Reg.CH_VEL_FS
  n)))).foldl (fun s e => s.setReg e.1 e.2) s) s
def ca (f : CalCfg → CalCfg) (s : State) : State := ml (fun c => { c with cfg := f c.cfg }) s
def arc1 (s : State) : State := ca (fun c => { c with scope := 1, arcFirst := 5, arcLast := 5, minPasses := 1 }) s
def ob1 (i : Nat) : Obs :=
  { t := i, th := 5 * 2^22 + (i : Int) * 1000, rho := 5, codeS := 1, codeC := -1, quadrant := Fin.ofNat 4 i, xs := 3, xc := 4, temp := 250 }
def ob2 (i : Nat) : Obs := { ob1 i with th := (i : Int) * 200000000 }
def ob3 (i : Nat) : Obs := { ob1 i with th := if i % 2 = 0 then 0 else (i : Int) * 200000000 }
def qs : QuadStat := { n := 20, t := 40, r := 60, s := 20, c := 30 }
def ns : NodeStat := { q := Vector.replicate 4 qs, passes := 5, windows := 3, sumT := 6, sumT2 := 12 }
def nb : NodeStat :=
  { q := Vector.replicate 4 { qs with r := 2^36 }, passes := 5, windows := 3, sumT := 6, sumT2 := 12 }
def evs (x : NodeStat) (s : State) : State :=
  arc1 (ml (fun c => { c with state := .evaluate, numObs := 80, stats := [(5, x)], trigger := 3 }) s)
def stg (n : ChId) (u : Bool) (src : Nat) : Staging :=
  { ch := n, set := 2, beads := (List.range 1024).map fun i => BitVec.ofNat 32 (i * 777), record := { calibrated := true, tRun := 300 }, source := src, trims := if src = 1 then some {} else none, inUse := u }
def sg (n : ChId) (u : Bool) (src : Nat) (s : State) : State :=
  { s with bead := { s.bead with staging := Vector.replicate 4 (some (stg n u src)) } }

/-! ### Witnesses of the statements over all commands -/

namespace Whole

/-- An idle block before and after its clock runs (IdleStepIsOneClockEdge). -/
theorem wit_IdleStepIsOneClockEdge :
    (∃ s : State, s.pending = [] ∧ s.Calm ∧ s.alive = false) ∧
    (∃ s : State, s.pending = [] ∧ s.Calm ∧ s.alive = true) :=
  ⟨⟨State.reset, rfl, by unfold State.Calm; decide +kernel, by decide +kernel⟩,
    ⟨base, rfl, by unfold State.Calm; decide +kernel, by decide +kernel⟩⟩

/-- Steps from bounded and canonical states (EveryStepSettlesDeviceSafe, EveryStepKeepsRegistersCanonical,
EveryStepKeepsQueuesBounded). -/
theorem wit_steps :
    (∃ s t : State, s.pending = [] ∧ step s = .next t ∧ s.RegsCanonical ∧ s.Bounded) ∧
    (∃ s t : State, s.pending = [.pllLock] ∧ step s = .next t ∧ s.RegsCanonical ∧ s.Bounded) := by
  refine ⟨⟨base, _, rfl, rfl, ?_⟩, ⟨{ base with pending := [.pllLock] }, _, rfl, rfl, ?_⟩⟩ <;>
    simp only [State.RegsCanonical, State.Bounded] <;> decide +kernel

/-- A write of an object that does not exist, and a write without the role it needs (RefusedWriteLeavesOnlyItsMarks). -/
theorem wit_RefusedWriteLeavesOnlyItsMarks :
    (∃ (p : Port) (index : BitVec 16) (sub : Byte) (data : Bytes) (n : Nak) (s : State), s.Calm ∧
      s.Rejects p (keyOf index sub) data n ∧ n ≠ nakSched ∧ n ≠ nakRole) ∧
    (∃ (p : Port) (index : BitVec 16) (sub : Byte) (data : Bytes) (n : Nak) (s : State), s.Calm ∧
      s.Rejects p (keyOf index sub) data n ∧ n = nakRole ∧ keyOf index sub ≠ Reg.AUTH_RESPONSE p) := by
  refine ⟨⟨0, 0x9999#16, 1#8, [1#8], ⟨0x06020000, 0xF⟩, base, ?_⟩,
    ⟨0, 0x2010#16, 1#8, [1#8], nakRole, { base with port := Vector.replicate 7 {} }, ?_⟩⟩ <;>
    (try simp only [State.Calm, rejects_iff]) <;> decide +kernel

/-- The greatest key and the longest data (HspRequestsParseBack), and the greatest cycle (SentRecordsAreValid). -/
theorem wit_HspRequestsParseBack :
    (∃ (k : Nat) (data : Bytes), k < 2 ^ 24 ∧ data.length ≤ 1024 ∧ k = 0xFFFFFF ∧ data.length = 1024) ∧
    ∃ cycle : Nat, cycle < 2 ^ 32 ∧ cycle = 0xFFFFFFFF :=
  ⟨⟨0xFFFFFF, List.replicate 1024 0#8, by decide +kernel⟩, 0xFFFFFFFF, by decide⟩

theorem next_of {α : Type} (o : Host.Outcome State Fault Refusal) (f : State → α) (x : α) (h : seen o f = some x) :
    ∃ t, o = .next t ∧ f t = x := by
  cases o with
  | next t => exact ⟨t, rfl, by simpa [seen] using h⟩
  | fault r => simp [seen] at h
  | refused r => simp [seen] at h

/-- A seat in step 3 of ARBITRATE, alone. -/
def asserting : State :=
  { runS with
    floor := { testOk := true }
    red := { runS.red with state := .arbitrate, attempt := true, step3 := true, former := some 0 }
    pt := runS.pt.map fun x => { x with e2 := some 5, origin := 0 } }

/-- A claim that goes high, and one that stays high on an idle step (OnlyTheClaimSequencerRaisesTheClaimLine). -/
theorem wit_OnlyTheClaimSequencerRaisesTheClaimLine :
    (∃ (c : Instr) (s t : State), exec c s = .next t ∧ s.red.clmOut = false ∧ t.red.clmOut = true) ∧
    (∃ s t : State, s.pending = [] ∧ step s = .next t ∧ t.red.clmOut = true) := by
  constructor
  · obtain ⟨t, h, ht⟩ := next_of (exec .claimAssert asserting) (fun t => t.red.clmOut) true (by decide +kernel)
    exact ⟨_, _, t, h, by decide +kernel, ht⟩
  · exact ⟨{ base with red := { base.red with clmOut := true } }, _, rfl, rfl, by decide +kernel⟩

end Whole

/-! ### Ill-formed commands -/

/-- A value that does not fit its object's type. -/
theorem test_wf_value : Instr.wf (.excFreqWrite 0 1 (2 ^ 33)) = false ∧ Instr.wf (.excFreqWrite 0 1 10000) = true := by
  decide +kernel

/-- A value below the range of an unsigned type. -/
theorem test_wf_sign : Instr.wf (.talLimitsWrite 0 3 (-5) (2 ^ 63)) = false ∧
  Instr.wf (.talLimitsWrite 0 3 (-5) 5) = true := by
  decide +kernel

/-- A supply level of more than 16 bits. -/
theorem test_wf_supply : Instr.wf (.foldbackChange 0 65536) = false ∧
  Instr.wf (.foldbackChange 0 65535) = true := by decide

/-- A record of any length but 1,024 bytes. -/
theorem test_wf_record : Instr.wf (.recordReceive 0 [0#8]) = false ∧
  Instr.wf (.recordReceive 1 (List.replicate 1024 0#8)) = true := by
  decide +kernel

/-- Data longer than a request carries. -/
theorem test_wf_request : Instr.wf (.registerWrite 0 0x2010#16 1#8 (List.replicate 1025 0#8)) = false ∧
    Instr.wf (.hspWrite 0 1#8 0x2010#16 1#8 (List.replicate 1025 0#8)) = false := by decide +kernel

/-- Packets, frames and SDO frames of lengths that no medium carries. -/
theorem test_wf_frames : Instr.wf (.dictDatagram 0 ⟨0#48, 0#48⟩ 0#32 0#16 (List.replicate 1501 0#8)) = false ∧
    Instr.wf (.ptpFrameReceive 0 0#48 0#48 (List.replicate 1507 0#8)) = false ∧
      Instr.wf (.sdoRequest 0 [0#8]) = false := by
  decide +kernel

/-- Data shorter than a fixed-length object. -/
theorem test_wf_data : Instr.wf (.authResponse 0 0 [0#8]) = false ∧
  Instr.wf (.updData 0 []) = false := by decide +kernel

/-- Error counters beyond those of CAN, and the greatest ones. -/
theorem test_wf_counts : Instr.wf (.canBusError 0 257 0) = false ∧ Instr.wf (.canBusError 0 256 256) = false ∧
    Instr.wf (.canBusError 0 256 255) = true ∧ Instr.wf (.tqFrameComplete 12 256 0) = false := by
  decide

/-! ### The manual's numbers -/

/-- 10,000 Hz gives the frequency word 85,899 (02, Exciters). -/
theorem test_ftw : divRound (10000 * 2 ^ 32) 500000000 = 85899 := by decide

/-- A carry count of 3 and an angle of 400000h read as 54,525,952 (00, Conventions). -/
theorem test_pos40 : pos40 0x40000000 3 = 54525952 := by decide

/-- The design example: 1,000 Hz, damping 1, V_FS 500 (03, From bandwidth and damping to coefficients). -/
theorem test_design : designOf 1000 1000 500 = [16384, 6, 25299, 9, 25261, 8, 25290, 10] := by decide +kernel

/-- The limit of the integrator and m_v of the same example. -/
theorem test_imax : iMaxOf 25299 9 = 21730337 ∧ mvOf 500 = 257698 ∧ stepPhase 500 (2 ^ 38) = 128849 := by decide +kernel

/-- The swap example: the integrator grows by 16 and the clamp does not act (03, Coefficient banks and swaps). -/
theorem test_swap : swapI 21730337 ⟨16384, 6, 25299, 9, 0, 0, 0, 0⟩ ⟨16384, 8, 25299, 13, 0, 0, 0, 0⟩ = (347685392,
  false) ∧
    iMaxOf 25299 13 = 347685403 := by decide +kernel

/-- With N_ref = 1,000 s a stamp of 1,000,000 extends to 1,000 s and 728,379,968 ns (11, Extending TIME32). -/
theorem test_extend : time80 (extendNs 1000000#32 (10 ^ 12)) = 1000 * 2 ^ 32 + 728379968 := by decide +kernel

/-- The widened window of PSW4 ends at 4,935,298 (06, Position switches). -/
theorem test_window : inWindow 0 4939958 5033165 4660 4935298 = true ∧
  inWindow 0 4939958 5033165 4660 4935297 = false := by
  decide

/-- An index error of −2 states within one turn of 10,000 (07, The index check). -/
theorem test_index : bestTurn 9998 10000 = 1 ∧ (9998 - 10000 * bestTurn 9998 10000 : Int) = -2 := by decide

/-- One SCLK edge after the clock runs adds 4 ns (11, The time counter). -/
theorem test_tick : seen (step base) (fun t => t.time.count.toNat) = some (4 * 2 ^ 24) := by decide +kernel

/-! ### One command each -/

/-- CH_B_DESIGN at 250 Hz gives KP 2.0 and KI 25,299 at 13 (03, Coefficient banks and swaps; 10, Worked example). -/
theorem test_design_command :
    seen (exec (.chDesign 0 2 true) ((base.setReg (Reg.CH_B_BW_SET 2) 250).setReg (Reg.CH_VEL_FS 2) 500)) (fun t =>
      (t.reg (Reg.CH_B_KP_Q 2), t.reg (Reg.CH_B_KP_S 2), t.reg (Reg.CH_B_KI_Q 2), t.reg (Reg.CH_B_KI_S 2))) =
      some (16384, 8, 25299, 13) := by decide +kernel

/-- A started exciter ramps from phase 0 with its frequency word (R35). -/
theorem test_exciter_start :
    seen (exec (.excEnableWrite 0 1 1) (base.setReg (Reg.EXC_MODE 1) 1)) (fun t => (t.exc[(1 : ExcId)].state,
      t.exc[(1 : ExcId)].ftw.toNat)) =
      some (.ramp, 85899) := by decide +kernel

/-- A lost PLL lock holds DEVICE-SAFE and records its source first (R207, R215). -/
theorem test_pll_fault :
    seen (exec (.faultRaise 4) base) (fun t => (t.floor.deviceSafe, t.dev.state, t.floor.first.isSome)) =
      some (true, .safe, true) := by decide +kernel

/-- GO_RUN and GO_CONFIG (R264). -/
theorem test_run_config : seen (exec (.goRun 0) base) (fun t => t.dev.state) = some .run ∧
    seen (exec (.goConfig 0) runS) (fun t => t.dev.state) = some .config := by decide +kernel

/-- TIME_STEP moves the counter at once (R302). -/
theorem test_time_step : seen (exec (.timeStep 0 1000) base) (fun t => t.timeNow.toNat) = some 1000 := by decide +kernel

/-- An access without its role is refused with reason 3 and counted (R259, R266). -/
theorem test_refused : seen (exec (.registerWrite 0 0x2010#16 1#8 [1#8]) { base with port := Vector.replicate 7 {} })
  (fun t =>
    (t.reg Reg.DEV_REFUSE_CNT, t.dev.diag.map fun d => d.nak)) = some (1, [nakRole]) := by decide +kernel

/-- The end of the boot leads to CONFIG (R264). -/
theorem test_boot : seen (exec .bootComplete
  { base with dev := { base.dev with state := .boot }, sup := { base.sup with booted := false } })
    (fun t => t.dev.state) = some .config := by decide +kernel


namespace O13

def sett (x : Settle) (s : State) : State := mf (fun f => {f with settle := x}) (cs .settle (ex .run runS))
def w5 : State := cs .invalid runS
def w2 : State := cs .coast runS
def w11 : State := sett .running runS
def w16 : State := mk (fun k => {k with n := 99999}) (sett .waiting runS)
def w17 : State := mw (fun w => {w with hbTripS := true}) (cs .track runS)
def w24 : State := mc (fun c =>
  {c with inj := {c.inj with state := .running, n := 5, kind := 1, ampl := 300, f1 := 5000, durMs := 100}}) (cs .track
  svc)


/-- States and operands that meet the hypotheses of SampleStepsTheLoopAndReleasesItsRecord, clause by clause. -/
theorem wit_SampleStepsTheLoopAndReleasesItsRecord :
    (∃ (ch : ChId) (s : State), s.lanesOn = true ∧ s.ch[ch].state = .off) ∧
    (∃ (ch : ChId) (s : State), s.lanesOn = true ∧ s.PlainSample ch ∧ s.ch[ch].state = .invalid) ∧
    (∃ (ch : ChId) (s : State), s.lanesOn = true ∧ s.PlainSample ch ∧ s.ch[ch].state = .coast) ∧
    (∃ (ch : ChId) (s : State), s.lanesOn = true ∧ s.PlainSample ch ∧ s.ch[ch].state = .settle ∧
      s.front[ch].settle = .running ∧ s.ClearHatband ch) ∧
    (∃ (ch : ChId) (s : State), s.lanesOn = true ∧ s.PlainSample ch ∧ s.ch[ch].state = .settle ∧
      s.front[ch].settle = .waiting ∧ s.ClearHatband ch ∧ s.exc[s.excIx ch].state = .run ∧
      senseWindow s.exc[s.excIx ch].freq ≤ s.kelvin[s.excIx ch].n) ∧
    (∃ (ch : ChId) (s : State), s.lanesOn = true ∧ s.PlainSample ch ∧
      (s.ch[ch].state = .track ∨ (s.ch[ch].state = .settle ∧ s.front[ch].settle = .running)) ∧ ¬ s.ClearHatband ch ∧
      s.ch[ch].state = .track) ∧
    (∃ (ch : ChId) (s : State), s.lanesOn = true ∧ s.PlainSample ch ∧ s.ch[ch].state = .track ∧ s.ClearHatband ch ∧
      s.ch[ch].inj.state = .running) := by
  refine ⟨⟨15, base, ?_⟩,
    ⟨15, w5, ?_⟩,
    ⟨15, w2, ?_⟩,
    ⟨15, w11, ?_⟩,
    ⟨15, w16, ?_⟩,
    ⟨15, w17, ?_⟩,
    ⟨15, w24, ?_⟩⟩ <;> (try simp only [State.Calm, State.PlainSample, State.ClearHatband, State.OneCrossing,
      State.Mild, State.AdmitsCmd, admits_iff, rejects_iff, ok_iff, nak_iff]) <;> decide +kernel

end O13

namespace O14

def k0 (s : State) : State :=
  mk (fun k => { k with win := (List.range 40).map fun (i : Nat) => { x := 12345678 * (i : Int), phi := BitVec.ofNat 32 (3000000000 - i * 100000) } }) (me (fun e => { e with acc := 3500000000 }) (ex .run s))
def w3 : State := mk (fun k => { k with lost := true, ehat := 55 }) (k0 runS)


/-- States and operands that meet the hypotheses of SenseSampleEntersTheWindowAndTheEstimate, clause by clause. -/
theorem wit_SenseSampleEntersTheWindowAndTheEstimate :
    (∃ (e : ExcId) (s : State), s.Calm ∧ s.lanesOn = true ∧ s.sup.vanaHold = false ∧
      (s.kelvin[e].win.head?.all fun y => y.phi.toNat ≤ (s.phiAt e (lateSlot 0)).toNat) = true ∧
      s.kelvin[e].lost = false) ∧
    (∃ (e : ExcId) (s : State), s.Calm ∧ s.lanesOn = true ∧ s.sup.vanaHold = false ∧
      (s.kelvin[e].win.head?.all fun y => y.phi.toNat ≤ (s.phiAt e (lateSlot 0)).toNat) = true ∧
      s.kelvin[e].lost = true) := by
  refine ⟨⟨3, base, ?_⟩,
    ⟨3, w3, ?_⟩⟩ <;> (try simp only [State.Calm, State.PlainSample, State.ClearHatband, State.OneCrossing, State.Mild,
      State.AdmitsCmd, admits_iff, rejects_iff, ok_iff, nak_iff]) <;> decide +kernel

end O14

namespace O15

def x0 (a : BitVec 32) (s : State) : State :=
  { s with exc := (s.exc.map fun e => { e with acc := 5, ftw := 1000 }).set 0 { s.exc[0] with acc := a, ftw := 1000 } }
def w20 : State := x0 0xFFFFFF00 (cs .settle (ex .run base))
def w2 : State := x0 0xFFFFFA00 (ex .ramp base)
def w4 : State := x0 0xFFFFFF00 (me (fun e => { e with rising := false }) (ex .ramp base))
def w6 : State := x0 0xFFFFFA00 (me (fun e => { e with rising := false, step := 1 }) (ex .ramp base))
def w8 : State := x0 0xFFFFFF00 (me (fun e => { e with rising := false, step := 1 }) (ex .ramp (r4 Reg.EXC_ENABLE 1 (r4
  Reg.EXC_MODE 1 runS))))
def w16 : State := x0 0xFFFFFF00 (me (fun e => { e with pendFreq := some 5000 }) (ex .run base))


/-- States and operands that meet the hypotheses of ZeroCrossingStepsTheRampAndAppliesChanges, clause by clause. -/
theorem wit_ZeroCrossingStepsTheRampAndAppliesChanges :
    (∃ (e : ExcId) (half : Bool) (s : State), s.OneCrossing e half ∧
      (s.exc[e].changing = false ∨ s.settling e = true) ∧ s.exc[e].state = .run) ∧
    (∃ (e : ExcId) (half : Bool) (s : State), s.OneCrossing e half ∧
      (s.exc[e].changing = false ∨ s.settling e = true) ∧ s.exc[e].state = .ramp ∧ s.exc[e].rising = true) ∧
    (∃ (e : ExcId) (half : Bool) (s : State), s.OneCrossing e half ∧
      (s.exc[e].changing = false ∨ s.settling e = true) ∧ s.exc[e].state = .ramp ∧ s.exc[e].rising = false ∧
      2 ≤ s.exc[e].step) ∧
    (∃ (e : ExcId) (half : Bool) (s : State), s.OneCrossing e half ∧
      (s.exc[e].changing = false ∨ s.settling e = true) ∧ s.exc[e].state = .ramp ∧ s.exc[e].rising = false ∧
      s.exc[e].step < 2 ∧ s.excWanted e = false) ∧
    (∃ (e : ExcId) (half : Bool) (s : State), s.OneCrossing e half ∧
      (s.exc[e].changing = false ∨ s.settling e = true) ∧ s.exc[e].state = .ramp ∧ s.exc[e].rising = false ∧
      s.exc[e].step < 2 ∧ s.excWanted e = true) ∧
    (∃ (e : ExcId) (half : Bool) (s : State), s.OneCrossing e half ∧ s.exc[e].state = .run ∧
      s.exc[e].changing = true ∧ s.settling e = false) := by
  refine ⟨⟨0, false, w20, ?_⟩,
    ⟨0, false, w2, ?_⟩,
    ⟨0, false, w4, ?_⟩,
    ⟨0, false, w6, ?_⟩,
    ⟨0, false, w8, ?_⟩,
    ⟨0, false, w16, ?_⟩⟩ <;> (try simp only [State.Calm, State.PlainSample, State.ClearHatband, State.OneCrossing,
      State.Mild, State.AdmitsCmd, admits_iff, rejects_iff, ok_iff, nak_iff]) <;> decide +kernel

end O15

namespace O16

def w1 : State := ex .ramp base


/-- States and operands that meet the hypotheses of FoldbackAndShutdownFollowTheSupplyAndTheLimit, clause by clause. -/
theorem wit_FoldbackAndShutdownFollowTheSupplyAndTheLimit :
    (∃ (e : ExcId) (s : State), s.Calm ∧ s.alive = true ∧ s.Mild (excSrc e 1) ∧ s.exc[e].driving = true ∧
      s.exc[e].mode = 1) ∧
    (∃ (e : ExcId) (s : State), s.Calm ∧ s.alive = true ∧ s.Mild (excSrc e 1) ∧
      (s.exc[e].driving = false ∨ s.exc[e].mode ≠ 1)) ∧
    (∃ (e : ExcId) (s : State), s.Calm ∧ s.floorOn = true ∧ s.exc[e].driving = true ∧ s.Mild (excSrc e 0) ∧
      s.alive = true ∧ s.sup.vexcHold = false ∧ s.sup.vanaHold = false) ∧
    (∃ (e : ExcId) (s : State), s.Calm ∧ s.floorOn = true ∧ s.exc[e].driving = true ∧ s.Mild (excSrc e 0) ∧
      (s.src (excSrc e 0)).cond = false ∧ (s.src (excSrc e 0)).force = false ∧ (s.fltNow (excSrc e 0)).1 ≠ 0) := by
  refine ⟨⟨3, w1, ?_⟩,
    ⟨3, base, ?_⟩,
    ⟨3, w1, ?_⟩,
    ⟨3, w1, ?_⟩⟩ <;> (try simp only [State.Calm, State.PlainSample, State.ClearHatband, State.OneCrossing, State.Mild,
      State.AdmitsCmd, admits_iff, rejects_iff, ok_iff, nak_iff]) <;> decide +kernel

end O16

namespace O17

def w2 : State := ex .run base
def w1 : State := ex .ramp base
def w3 : State := r4 Reg.EXC_MODE 1 base
def w9 : State := r4 Reg.EXC_MODE 1 (ex .ramp base)
def w10 : State := r4 Reg.EXC_MODE 1 (ex .shutdown base)


/-- States and operands that meet the hypotheses of ExciterWritesAreVisibleAndWaitForTheCrossing, clause by clause. -/
theorem wit_ExciterWritesAreVisibleAndWaitForTheCrossing :
    (∃ (p : Port) (e : ExcId) (s : State), s.Calm ∧ s.Admits p (Reg.EXC_ENABLE e) (dataAt (Reg.EXC_ENABLE e) 0) 0 ∧
      s.exc[e].state = .run) ∧
    (∃ (p : Port) (e : ExcId) (s : State), s.Calm ∧ s.Admits p (Reg.EXC_ENABLE e) (dataAt (Reg.EXC_ENABLE e) 0) 0 ∧
      s.exc[e].state = .ramp) ∧
    (∃ (p : Port) (e : ExcId) (s : State), s.Calm ∧ s.Admits p (Reg.EXC_ENABLE e) (dataAt (Reg.EXC_ENABLE e) 0) 0 ∧
      s.exc[e].state ≠ .run ∧ s.exc[e].state ≠ .ramp) ∧
    (∃ (p : Port) (e : ExcId) (s : State), s.Calm ∧ s.Mild (excSrc e 1) ∧
      (s.floor.deviceSafe = false ∨ s.reg (mitExc e) ≠ 1) ∧
      (s.reg (Reg.EXC_MODE e) = 1 ∨ s.reg (Reg.EXC_MODE e) = 2) ∧ s.lanesOn = true ∧ s.sup.booted = true ∧
      s.Admits p (Reg.EXC_ENABLE e) (dataAt (Reg.EXC_ENABLE e) 1) 1 ∧ s.exc[e].state = .off) ∧
    (∃ (p : Port) (e : ExcId) (s : State), s.Calm ∧ s.Mild (excSrc e 1) ∧
      (s.floor.deviceSafe = false ∨ s.reg (mitExc e) ≠ 1) ∧
      (s.reg (Reg.EXC_MODE e) = 1 ∨ s.reg (Reg.EXC_MODE e) = 2) ∧ s.lanesOn = true ∧ s.sup.booted = true ∧
      s.Admits p (Reg.EXC_ENABLE e) (dataAt (Reg.EXC_ENABLE e) 1) 1 ∧ s.exc[e].state = .ramp) ∧
    (∃ (p : Port) (e : ExcId) (s : State), s.Calm ∧ s.Mild (excSrc e 1) ∧
      (s.floor.deviceSafe = false ∨ s.reg (mitExc e) ≠ 1) ∧
      (s.reg (Reg.EXC_MODE e) = 1 ∨ s.reg (Reg.EXC_MODE e) = 2) ∧ s.lanesOn = true ∧ s.sup.booted = true ∧
      s.Admits p (Reg.EXC_ENABLE e) (dataAt (Reg.EXC_ENABLE e) 1) 1 ∧
      (s.exc[e].state = .shutdown ∨ s.exc[e].state = .held)) ∧
    (∃ (p : Port) (e : ExcId) (v : Int) (s : State), s.Calm ∧
      s.Admits p (Reg.EXC_MODE e) (dataAt (Reg.EXC_MODE e) v) v ∧ ((amplRange v).1 ≤ s.reg (Reg.EXC_AMPL e) ∧
      s.reg (Reg.EXC_AMPL e) ≤ (amplRange v).2) ∧ s.exc[e].state = .run ∧ v ≠ s.reg (Reg.EXC_MODE e)) ∧
    (∃ (p : Port) (e : ExcId) (v : Int) (s : State), s.Calm ∧
      s.Admits p (Reg.EXC_MODE e) (dataAt (Reg.EXC_MODE e) v) v ∧
      (s.reg (Reg.EXC_AMPL e) < (amplRange v).1 ∨ (amplRange v).2 < s.reg (Reg.EXC_AMPL e))) ∧
    (∃ (p : Port) (e : ExcId) (v : Int) (s : State), s.Calm ∧
      s.Admits p (Reg.EXC_FREQ e) (dataAt (Reg.EXC_FREQ e) v) v ∧
      (∀ n b, s.excIx n = e → bankAbove s.reg n b v = false) ∧ (∀ n, s.excIx n = e → s.front[n].probe = .idle)) ∧
    (∃ (p : Port) (e : ExcId) (v : Int) (s : State), s.Calm ∧
      s.Admits p (Reg.EXC_AMPL e) (dataAt (Reg.EXC_AMPL e) v) v) := by
  refine ⟨⟨0, 3, w2, ?_⟩,
    ⟨0, 3, w1, ?_⟩,
    ⟨0, 3, base, ?_⟩,
    ⟨0, 3, w3, ?_⟩,
    ⟨0, 3, w9, ?_⟩,
    ⟨0, 3, w10, ?_⟩,
    ⟨0, 3, 1, w2, ?_⟩,
    ⟨0, 3, 2, base, ?_⟩,
    ⟨0, 3, 10000, base, ?_⟩,
    ⟨0, 3, 400, base, ?_⟩⟩ <;> (try simp only [State.Calm, State.PlainSample, State.ClearHatband, State.OneCrossing,
      State.Mild, State.AdmitsCmd, admits_iff, rejects_iff, ok_iff, nak_iff]) <;> decide +kernel

end O17

namespace O18



/-- States and operands that meet the hypotheses of ExcFreqBelowFiveBandwidthsIsRefused, clause by clause. -/
theorem wit_ExcFreqBelowFiveBandwidthsIsRefused :
    (∃ (p : Port) (e : ExcId) (v : Int) (s : State) (n : ChId) (b : Bool), s.Calm ∧
      s.Admits p (Reg.EXC_FREQ e) (dataAt (Reg.EXC_FREQ e) v) v ∧ s.excIx n = e ∧ bankAbove s.reg n b v = true) := by
  refine ⟨0, 3, 4000, base, 15, true, ?_⟩ <;> (try simp only [State.Calm, State.PlainSample, State.ClearHatband,
    State.OneCrossing, State.Mild, State.AdmitsCmd, admits_iff, rejects_iff, ok_iff, nak_iff]) <;> decide +kernel

end O18

namespace O19

def wn (s : State) : State := r4 Reg.EXC_ENABLE 1 (r4 Reg.EXC_MODE 1 s)
def dsf (s : State) : State := { s with floor := { s.floor with deviceSafe := true } }
def w1 : State := [0,1,2,3].foldl (fun s (e : Nat) => s.setReg (mitExc (Fin.ofNat 4 e)) 1) (dsf (ex .shutdown base))
def w5 : State := ex .shutdown base
def w9 : State := wn (ex .shutdown base)
def w3 : State := cs .track svc
def w12 : State := ml (fun c => { c with state := .acquire }) svc
def w15 : State := r4 Reg.EXC_FREQ 8000 (bw true 2500 (cs .track base))


/-- States and operands that meet the hypotheses of RestartAndRoutingOfExciters, clause by clause. -/
theorem wit_RestartAndRoutingOfExciters :
    (∃ (p : Port) (e : ExcId) (s : State), s.Calm ∧ s.AdmitsCmd p (Reg.EXC_RESTART e) ∧ s.exc[e].state = .shutdown ∧
      (s.src (excSrc e 0)).state = .idle ∧ s.floor.deviceSafe = true ∧ s.reg (mitExc e) = 1) ∧
    (∃ (p : Port) (e : ExcId) (s : State), s.Calm ∧ s.AdmitsCmd p (Reg.EXC_RESTART e) ∧ s.exc[e].state = .shutdown ∧
      (s.src (excSrc e 0)).state = .idle ∧ (s.floor.deviceSafe = false ∨ s.reg (mitExc e) ≠ 1) ∧
      s.excWanted e = false) ∧
    (∃ (p : Port) (e : ExcId) (s : State), s.Calm ∧ s.AdmitsCmd p (Reg.EXC_RESTART e) ∧ s.exc[e].state = .shutdown ∧
      (s.src (excSrc e 0)).state = .idle ∧ s.excWanted e = true ∧ s.Mild (excSrc e 1)) ∧
    (∃ (p : Port) (e : ExcId) (s : State), s.Calm ∧ s.AdmitsCmd p (Reg.EXC_RESTART e) ∧
      (s.exc[e].state ≠ .shutdown ∨ (s.src (excSrc e 0)).state ≠ .idle)) ∧
    (∃ (p : Port) (n : ChId) (v : Int) (s : State), s.Calm ∧
      s.Admits p (Reg.CH_EXC_SEL n) (dataAt (Reg.CH_EXC_SEL n) v) v ∧
      (∀ f ∈ s.freqsAt (excOf v), ∀ b, bankAbove s.reg n b f = false) ∧ s.cal[n].state = .idle ∧
      (s.ch[n].state = .off ∨ s.reg (Reg.CH_EXC_SEL n) = v)) ∧
    (∃ (p : Port) (n : ChId) (v : Int) (s : State), s.Calm ∧
      s.Admits p (Reg.CH_EXC_SEL n) (dataAt (Reg.CH_EXC_SEL n) v) v ∧
      (∀ f ∈ s.freqsAt (excOf v), ∀ b, bankAbove s.reg n b f = false) ∧ s.cal[n].state = .idle ∧
      s.ch[n].state ≠ .off ∧ s.reg (Reg.CH_EXC_SEL n) ≠ v) ∧
    (∃ (p : Port) (n : ChId) (v : Int) (s : State), s.Calm ∧
      s.Admits p (Reg.CH_EXC_SEL n) (dataAt (Reg.CH_EXC_SEL n) v) v ∧
      (∀ f ∈ s.freqsAt (excOf v), ∀ b, bankAbove s.reg n b f = false) ∧ s.cal[n].state ≠ .idle) ∧
    (∃ (p : Port) (n : ChId) (v : Int) (s : State), s.Calm ∧
      s.Admits p (Reg.CH_EXC_SEL n) (dataAt (Reg.CH_EXC_SEL n) v) v ∧
      (∃ f ∈ s.freqsAt (excOf v), ∃ b, bankAbove s.reg n b f = true)) := by
  refine ⟨⟨0, 3, w1, ?_⟩,
    ⟨0, 3, w5, ?_⟩,
    ⟨0, 3, w9, ?_⟩,
    ⟨0, 3, base, ?_⟩,
    ⟨0, 15, 0, base, ?_⟩,
    ⟨0, 15, 0, w3, ?_⟩,
    ⟨0, 15, 0, w12, ?_⟩,
    ⟨0, 15, 0, w15, ?_⟩⟩ <;> (try simp only [State.Calm, State.PlainSample, State.ClearHatband, State.OneCrossing,
      State.Mild, State.AdmitsCmd, admits_iff, rejects_iff, ok_iff, nak_iff]) <;> decide +kernel

end O19

namespace O20

def w2 : State := ml (fun c => { c with state := .acquire }) svc
def w4 : State := mc (fun c => { c with trimPending := true }) runS
def w7 : State := mf (fun f => { f with betaPeriods := 65, betaQ := 100, betaI := -3000 }) (cs .track runS)
def w8 : State := mf (fun f => { f with betaFresh := true }) (cs .track svc)


/-- States and operands that meet the hypotheses of TrimsWaitForTheirBoundaryAndThePhaseIsLearned, clause by clause. -/
theorem wit_TrimsWaitForTheirBoundaryAndThePhaseIsLearned :
    (∃ (p : Port) (n : ChId) (o : TrimObj) (v : Int) (s : State), s.Calm ∧
      s.Admits p (trimKey o n) (dataAt (trimKey o n) v) v ∧ (isStatic o = false ∨ s.cal[n].state = .idle)) ∧
    (∃ (p : Port) (n : ChId) (o : TrimObj) (v : Int) (s : State), s.Calm ∧
      s.Admits p (trimKey o n) (dataAt (trimKey o n) v) v ∧ isStatic o = true ∧ s.cal[n].state ≠ .idle) ∧
    (∃ (n : ChId) (s : State), s.Calm ∧ s.lanesOn = true ∧ s.ch[n].trimPending = true ∧
      (s.exc[s.excIx n].driving = false ∨ s.ch[n].armed.isSome = true)) ∧
    (∃ (n : ChId) (s : State), s.Calm ∧ s.lanesOn = true ∧ s.ch[n].state = .track ∧ 65 ≤ s.front[n].betaPeriods) ∧
    (∃ (p : Port) (n : ChId) (s : State), s.Calm ∧ s.AdmitsCmd p (Reg.CH_BETA_LEARN n) ∧ s.ch[n].state = .track ∧
      s.front[n].betaFresh = true) ∧
    (∃ (p : Port) (n : ChId) (s : State), s.Calm ∧ s.AdmitsCmd p (Reg.CH_BETA_LEARN n) ∧
      (s.ch[n].state ≠ .track ∨ s.front[n].betaFresh = false)) := by
  refine ⟨⟨0, 15, TrimObj.gainSin, 0, base, ?_⟩,
    ⟨0, 15, TrimObj.ofsSin, 0, w2, ?_⟩,
    ⟨15, w4, ?_⟩,
    ⟨15, w7, ?_⟩,
    ⟨0, 15, w8, ?_⟩,
    ⟨0, 15, base, ?_⟩⟩ <;> (try simp only [State.Calm, State.PlainSample, State.ClearHatband, State.OneCrossing,
      State.Mild, State.AdmitsCmd, admits_iff, rejects_iff, ok_iff, nak_iff]) <;> decide +kernel

end O20

namespace O21



/-- States and operands that meet the hypotheses of HatbandsAndGloveDriversKeepTheirMarks, clause by clause. -/
theorem wit_HatbandsAndGloveDriversKeepTheirMarks :
    (∃ (s : State), s.Calm ∧ s.lanesOn = true ∧ s.sup.vanaHold = false) ∧
    (∃ (g : Fin 8) (s : State), s.Calm ∧ s.alive = true ∧ s.reg (glvMode g) ≠ 0 ∧ s.glv[g].overload = false ∧
      s.Mild (glvSrc g)) ∧
    (∃ (p : Port) (g : Fin 8) (v : Int) (s : State), s.Calm ∧ s.Admits p (glvMode g) (dataAt (glvMode g) v) v) := by
  refine ⟨⟨base, ?_⟩,
    ⟨7, base, ?_⟩,
    ⟨0, 7, 0, base, ?_⟩⟩ <;> (try simp only [State.Calm, State.PlainSample, State.ClearHatband, State.OneCrossing,
      State.Mild, State.AdmitsCmd, admits_iff, rejects_iff, ok_iff, nak_iff]) <;> decide +kernel

end O21

namespace O22

def pmode (s : State) : State := r16 Reg.CH_PROBE_FREQ 1000 (r16 Reg.CH_PROBE_MODE 1 s)
def pend (s : State) : State :=
  mf (fun f => { f with probe := .pending }) (msd (fun x => { x with running := some .probe }) s)
def w10 : State := r16 Reg.CH_PROBE_MODE 0 base
def w8 : State := ml (fun c => { c with state := .acquire, window := some [] }) (mf (fun f =>
  { f with probe := .pending }) (msd (fun x => { x with running := some .probe }) base))
def w7 : State := mf (fun f => { f with probe := .pending }) (msd (fun x => { x with running := some .probe }) base)
def w15 : State := pend (pmode (cs .coast svc))


/-- States and operands that meet the hypotheses of ProbesAreGrantedDeferredAndRun, clause by clause. -/
theorem wit_ProbesAreGrantedDeferredAndRun :
    (∃ (n : ChId) (s : State), s.Calm ∧ s.alive = true ∧ s.reg (Reg.CH_PROBE_MODE n) = 1 ∧ s.sched[chDomain n] = {}) ∧
    (∃ (p : Port) (n : ChId) (s : State), s.Calm ∧ s.AdmitsCmd p (Reg.CH_PROBE_START n) ∧
      s.reg (Reg.CH_PROBE_MODE n) ≠ 0 ∧ s.sched[chDomain n] = {}) ∧
    (∃ (p : Port) (n : ChId) (s : State), s.Calm ∧ s.AdmitsCmd p (Reg.CH_PROBE_START n) ∧
      s.reg (Reg.CH_PROBE_MODE n) = 0) ∧
    (∃ (p : Port) (n : ChId) (s : State), s.Calm ∧ s.AdmitsCmd p (Reg.CH_RREF_LEARN n) ∧
      s.reg (Reg.CH_PROBE_MODE n) ≠ 0 ∧ s.sched[chDomain n] = {}) ∧
    (∃ (n : ChId) (s : State), s.Calm ∧ s.lanesOn = true ∧ s.front[n].probe = .pending ∧
      s.sched[chDomain n].running = some .probe ∧ s.probeBar n = none ∧ s.cal[n].state = .acquire) ∧
    (∃ (n : ChId) (s : State), s.Calm ∧ s.lanesOn = true ∧ s.front[n].probe = .pending ∧
      s.sched[chDomain n].running = some .probe ∧ s.probeBar n = none ∧ s.cal[n].state ≠ .acquire) ∧
    (∃ (n : ChId) (s : State) (b : _), s.Calm ∧ s.lanesOn = true ∧ s.front[n].probe = .pending ∧
      s.sched[chDomain n].running = some .probe ∧ s.probeBar n = some b) := by
  refine ⟨⟨15, base, ?_⟩,
    ⟨0, 15, base, ?_⟩,
    ⟨0, 15, w10, ?_⟩,
    ⟨0, 15, base, ?_⟩,
    ⟨15, w8, ?_⟩,
    ⟨15, w7, ?_⟩,
    ⟨15, w15, ProbeState.deferredState, ?_⟩⟩ <;> (try simp only [State.Calm, State.PlainSample, State.ClearHatband,
      State.OneCrossing, State.Mild, State.AdmitsCmd, admits_iff, rejects_iff, ok_iff, nak_iff]) <;> decide +kernel

end O22

namespace O23

def pr (s : State) : State :=
  mf (fun f => { f with probe := .running }) (msd (fun x => { x with running := some .probe }) s)
def rf (s : State) : State := r16 Reg.CH_RREF_SIN 1000 (r16 Reg.CH_RREF_COS 1100 s)
def cu (s : State) : State := mf (fun f => { f with cuOk := true }) s
def rn (s : State) : State :=
  mf (fun f => { f with probe := .running, probeRun := { crossings := 73, baseN := 40, stepN := 40, toneN := 100, baseS := 1000, baseC := 2000, stepS := 90000000, stepC := -8800000000, toneSI := 34567, toneSQ := -1234567, toneCI := 7654321, toneCQ := 5 } }) s
def w11 : State := rn (mf (fun f => { f with learn := true }) (pr base))
def w12 : State := rn (pr (rf base))
def w6 : State := r16 Reg.CH_TEMP_USED 1 (cu base)
def w5 : State := cu base
def w8 : State := r16 Reg.CH_TEMP_FALLBACK 2 (r16 Reg.CH_TEMP_USED 0 (cu base))


/-- States and operands that meet the hypotheses of ProbeResultsAndTemperatureSources, clause by clause. -/
theorem wit_ProbeResultsAndTemperatureSources :
    (∃ (n : ChId) (vs : Int) (us : Int) (zs : Int) (vc : Int) (uc : Int) (zc : Int) (s : State) (r : _) (a : _) (b : _)
      (c : _) (d : _), s.Calm ∧ s.lanesOn = true ∧ s.front[n].probe = .running ∧ s.Mild (chSrc n 14) ∧
      s.Mild (chSrc n 15) ∧ r = s.front[n].probeRun ∧ 72 < r.crossings ∧
      a = rwOf n true (windowOf r.stepS r.stepN vs) (windowOf r.baseS r.baseN us) ∧
      b = rwOf n false (windowOf r.stepC r.stepN vc) (windowOf r.baseC r.baseN uc) ∧
      c = zwOf (windowOf r.toneSI r.toneN (zs * trigOne)) r.toneSQ ∧
      d = zwOf (windowOf r.toneCI r.toneN (zc * trigOne)) r.toneCQ ∧ s.front[n].learn = true) ∧
    (∃ (n : ChId) (vs : Int) (us : Int) (zs : Int) (vc : Int) (uc : Int) (zc : Int) (s : State) (r : _) (a : _) (b : _)
      (c : _) (d : _), s.Calm ∧ s.lanesOn = true ∧ s.front[n].probe = .running ∧ s.Mild (chSrc n 14) ∧
      s.Mild (chSrc n 15) ∧ r = s.front[n].probeRun ∧ 72 < r.crossings ∧
      a = rwOf n true (windowOf r.stepS r.stepN vs) (windowOf r.baseS r.baseN us) ∧
      b = rwOf n false (windowOf r.stepC r.stepN vc) (windowOf r.baseC r.baseN uc) ∧
      c = zwOf (windowOf r.toneSI r.toneN (zs * trigOne)) r.toneSQ ∧
      d = zwOf (windowOf r.toneCI r.toneN (zc * trigOne)) r.toneCQ ∧ s.front[n].learn = false ∧
      s.reg (Reg.CH_RREF_SIN n) ≠ 0 ∧ s.reg (Reg.CH_RREF_COS n) ≠ 0) ∧
    (∃ (n : ChId) (s : State), s.Calm ∧ s.alive = true ∧ s.serviceOn = true ∧ s.front[n].cuOk = true ∧
      s.reg (Reg.CH_TEMP_USED n) ≠ 0) ∧
    (∃ (n : ChId) (s : State), s.Calm ∧ s.alive = true ∧ s.serviceOn = true ∧ s.front[n].cuOk = true ∧
      s.reg (Reg.CH_TEMP_USED n) = 0 ∧ s.reg (Reg.CH_TEMP_FALLBACK n) = 1) ∧
    (∃ (n : ChId) (s : State), s.Calm ∧ s.alive = true ∧ s.serviceOn = true ∧ s.front[n].cuOk = true ∧
      s.reg (Reg.CH_TEMP_USED n) = 0 ∧ s.reg (Reg.CH_TEMP_FALLBACK n) = 2) := by
  refine ⟨⟨15, 100000, 100000, 100000, 100000, 100000, 100000, w11, w11.front[15].probeRun,
    rwOf 15 true (windowOf (w11.front[15].probeRun).stepS (w11.front[15].probeRun).stepN 100000) (windowOf
    (w11.front[15].probeRun).baseS (w11.front[15].probeRun).baseN 100000),
    rwOf 15 false (windowOf (w11.front[15].probeRun).stepC (w11.front[15].probeRun).stepN 100000) (windowOf
    (w11.front[15].probeRun).baseC (w11.front[15].probeRun).baseN 100000),
    zwOf (windowOf (w11.front[15].probeRun).toneSI (w11.front[15].probeRun).toneN (100000 * trigOne))
    (w11.front[15].probeRun).toneSQ,
    zwOf (windowOf (w11.front[15].probeRun).toneCI (w11.front[15].probeRun).toneN (100000 * trigOne))
    (w11.front[15].probeRun).toneCQ, ?_⟩,
    ⟨15, 100000, 100000, 100000, 100000, 100000, 100000, w12, w12.front[15].probeRun,
      rwOf 15 true (windowOf (w12.front[15].probeRun).stepS (w12.front[15].probeRun).stepN 100000) (windowOf
      (w12.front[15].probeRun).baseS (w12.front[15].probeRun).baseN 100000),
      rwOf 15 false (windowOf (w12.front[15].probeRun).stepC (w12.front[15].probeRun).stepN 100000) (windowOf
      (w12.front[15].probeRun).baseC (w12.front[15].probeRun).baseN 100000),
      zwOf (windowOf (w12.front[15].probeRun).toneSI (w12.front[15].probeRun).toneN (100000 * trigOne))
      (w12.front[15].probeRun).toneSQ,
      zwOf (windowOf (w12.front[15].probeRun).toneCI (w12.front[15].probeRun).toneN (100000 * trigOne))
      (w12.front[15].probeRun).toneCQ, ?_⟩,
    ⟨15, w6, ?_⟩,
    ⟨15, w5, ?_⟩,
    ⟨15, w8, ?_⟩⟩ <;> (try simp only [State.Calm, State.PlainSample, State.ClearHatband, State.OneCrossing,
      State.Mild, State.AdmitsCmd, admits_iff, rejects_iff, ok_iff, nak_iff]) <;> decide +kernel

end O23

namespace O24

def dsg (f z : Int) (s : State) : State :=
  r16 Reg.CH_A_BW_SET f (r16 Reg.CH_B_BW_SET f (r16 Reg.CH_A_ZETA_SET z (r16 Reg.CH_B_ZETA_SET z s)))
def w5 : State := cs .track (dsg 1000 1000 svc)


/-- States and operands that meet the hypotheses of BankChangesReachInactiveBanksOnly, clause by clause. -/
theorem wit_BankChangesReachInactiveBanksOnly :
    (∃ (p : Port) (n : ChId) (b : Bool) (s : State) (f : Int) (z : Int), s.Calm ∧
      s.AdmitsCmd p (if b then Reg.CH_B_DESIGN n else Reg.CH_A_DESIGN n) ∧
      f = s.reg (if b then Reg.CH_B_BW_SET n else Reg.CH_A_BW_SET n) ∧
      z = s.reg (if b then Reg.CH_B_ZETA_SET n else Reg.CH_A_ZETA_SET n) ∧ 50 ≤ f ∧ f ≤ 8000 ∧ 700 ≤ z ∧ z ≤ 1500 ∧
      s.bankBusy n b = false ∧
      s.bankCheck (overlay s.reg (bankEntries n b (designOf f z (s.reg (Reg.CH_VEL_FS n))))) n = .ok ()) ∧
    (∃ (p : Port) (n : ChId) (b : Bool) (s : State) (f : Int) (z : Int), s.Calm ∧
      s.AdmitsCmd p (if b then Reg.CH_B_DESIGN n else Reg.CH_A_DESIGN n) ∧
      f = s.reg (if b then Reg.CH_B_BW_SET n else Reg.CH_A_BW_SET n) ∧
      z = s.reg (if b then Reg.CH_B_ZETA_SET n else Reg.CH_A_ZETA_SET n) ∧ 50 ≤ f ∧ f ≤ 8000 ∧ 700 ≤ z ∧ z ≤ 1500 ∧
      s.bankBusy n b = true) ∧
    (∃ (p : Port) (n : ChId) (o : BankObj) (v : Int) (s : State), s.Calm ∧
      s.Admits p (bankObjKey o n) (dataAt (bankObjKey o n) v) v ∧
      bankObjCheck o n s (overlay s.reg [(bankObjKey o n, v)]) (bankObjKey o n) v = .ok ()) ∧
    (∃ (p : Port) (n : ChId) (b : Bool) (c : Coef) (v : Int) (s : State), s.Calm ∧
      s.Admits p (bankObjKey (.mant b c) n) (dataAt (bankObjKey (.mant b c) n) v) v ∧ s.bankBusy n b = true) := by
  refine ⟨⟨0, 15, true, base, base.reg (if true then Reg.CH_B_BW_SET 15 else Reg.CH_A_BW_SET 15),
    base.reg (if true then Reg.CH_B_ZETA_SET 15 else Reg.CH_A_ZETA_SET 15), ?_⟩,
    ⟨0, 15, false, w5, w5.reg (if false then Reg.CH_B_BW_SET 15 else Reg.CH_A_BW_SET 15),
      w5.reg (if false then Reg.CH_B_ZETA_SET 15 else Reg.CH_A_ZETA_SET 15), ?_⟩,
    ⟨0, 15, BankObj.mant true (Coef.kp), 16384, base, ?_⟩,
    ⟨0, 15, false, .ki, 0, w5, ?_⟩⟩ <;> (try simp only [State.Calm, State.PlainSample, State.ClearHatband,
      State.OneCrossing, State.Mild, State.AdmitsCmd, admits_iff, rejects_iff, ok_iff, nak_iff]) <;> decide +kernel

end O24

namespace O25

def sw (x : Swap) (s : State) : State := mc (fun c => { c with swap := x }) s
def w3 : State := sw (.sample 1) (cs .track svc)
def w5 : State := sw (.time 0 false) svc
def w4 : State := sw (.fence 2) base


/-- States and operands that meet the hypotheses of BankSwapsAreArmedAndApplied, clause by clause. -/
theorem wit_BankSwapsAreArmedAndApplied :
    (∃ (p : Port) (n : ChId) (s : State), s.Calm ∧ s.AdmitsCmd p (Reg.CH_BANK_SWAP n) ∧ s.ch[n].swap = .none) ∧
    (∃ (p : Port) (n : ChId) (s : State), s.Calm ∧ s.AdmitsCmd p (Reg.CH_BANK_SWAP n) ∧ s.ch[n].swap ≠ .none) ∧
    (∃ (p : Port) (n : ChId) (v : Int) (s : State), s.Calm ∧
      s.Admits p (Reg.CH_BANK_SEL n) (dataAt (Reg.CH_BANK_SEL n) v) v ∧ (v = s.otherBank n → s.ch[n].swap = .none)) ∧
    (∃ (p : Port) (n : ChId) (v : Int) (s : State), s.Calm ∧
      s.Admits p (Reg.CH_BANK_SEL n) (dataAt (Reg.CH_BANK_SEL n) v) v ∧ v = s.otherBank n ∧ s.ch[n].swap ≠ .none) ∧
    (∃ (p : Port) (n : ChId) (x : Time32) (s : State), s.Calm ∧
      s.Admits p (Reg.CH_BANK_SWAP_AT n) (dataAt (Reg.CH_BANK_SWAP_AT n) (Int.ofNat x.toNat)) (Int.ofNat x.toNat) ∧
      s.ch[n].swap = .none) ∧
    (∃ (p : Port) (n : ChId) (x : Time32) (due : Bool) (s : State), s.Calm ∧
      s.AdmitsCmd p (Reg.CH_BANK_SWAP_CANCEL n) ∧ s.ch[n].swap = .time x due) ∧
    (∃ (n : ChId) (x : Time32) (s : State), s.Calm ∧ s.lanesOn = true ∧ s.ch[n].swap = .time x false ∧
      reached (s.t0 n) x = true) ∧
    (∃ (n : ChId) (s : State), s.Calm ∧ s.lanesOn = true ∧ s.ch[n].swap.due = true ∧ s.Mild (chSrc n 13) ∧
      s.ch[n].state = .off) ∧
    (∃ (n : ChId) (s : State), s.Calm ∧ s.lanesOn = true ∧ s.ch[n].swap.due = true ∧ s.Mild (chSrc n 13) ∧
      s.ch[n].state ≠ .off) := by
  refine ⟨⟨0, 15, base, ?_⟩,
    ⟨0, 15, w3, ?_⟩,
    ⟨0, 15, 0, base, ?_⟩,
    ⟨0, 15, w3.otherBank 15, w3, ?_⟩,
    ⟨0, 15, 0x00000000#32, base, ?_⟩,
    ⟨0, 15, 0x00000000#32, false, w5, ?_⟩,
    ⟨15, 0x00000000#32, w5, ?_⟩,
    ⟨15, w4, ?_⟩,
    ⟨15, w3, ?_⟩⟩ <;> (try simp only [State.Calm, State.PlainSample, State.ClearHatband, State.OneCrossing,
      State.Mild, State.AdmitsCmd, admits_iff, rejects_iff, ok_iff, nak_iff]) <;> decide +kernel

end O25

namespace O26

def inj (x : InjState) (s : State) : State := mc (fun c => { c with inj := { c.inj with state := x } }) s
def w1 : State := cs .track svc
def w11 : State := inj .idle (msd (fun _ => {running := some .cal}) (cs .track svc))
def w13 : State := inj .pending (msd (fun _ => {pending := some .test}) (cs .track svc))
def w14 : State := inj .pending (msd (fun _ => {pending := some .test}) (cs .coast svc))
def w2 : State := inj .pending (msd (fun x => { x with running := some .test }) (cs .track svc))
def w3 : State := inj .running (cs .track svc)
def w6 : State := base.setReg Reg.CAP_TRIGGER 1


/-- States and operands that meet the hypotheses of LoopTestsAndCapturesFollowTheirCommands, clause by clause. -/
theorem wit_LoopTestsAndCapturesFollowTheirCommands :
    (∃ (p : Port) (n : ChId) (s : State), s.Calm ∧ s.AdmitsCmd p (Reg.CH_INJ_START n) ∧ s.testAllowed n = true ∧
      s.sched[chDomain n] = {}) ∧
    (∃ (p : Port) (n : ChId) (s : State) (a : _), s.Calm ∧ s.AdmitsCmd p (Reg.CH_INJ_START n) ∧
      s.sched[chDomain n].running = some a ∧ s.testAllowed n = true ∧ a ≠ .test ∧ s.sched[chDomain n].edge = none ∧
      s.sched[chDomain n].pending = none ∧ s.ch[n].inj.state ≠ .running) ∧
    (∃ (p : Port) (n : ChId) (s : State), s.Calm ∧ s.AdmitsCmd p (Reg.CH_INJ_START n) ∧ s.testAllowed n = false) ∧
    (∃ (n : ChId) (s : State), s.Calm ∧ s.lanesOn = true ∧ s.ch[n].inj.state = .pending ∧
      s.sched[chDomain n].running = none ∧ s.sched[chDomain n].pending = some .test ∧ s.testAllowed n = true) ∧
    (∃ (n : ChId) (s : State), s.Calm ∧ s.lanesOn = true ∧ s.ch[n].inj.state = .pending ∧
      s.sched[chDomain n].running = none ∧ s.sched[chDomain n].pending = some .test ∧ s.testAllowed n = false) ∧
    (∃ (p : Port) (n : ChId) (s : State), s.Calm ∧ s.AdmitsCmd p (Reg.CH_INJ_STOP n) ∧ s.ch[n].inj.state = .pending) ∧
    (∃ (p : Port) (n : ChId) (s : State), s.Calm ∧ s.AdmitsCmd p (Reg.CH_INJ_STOP n) ∧ s.ch[n].inj.state = .running) ∧
    (∃ (p : Port) (n : ChId) (s : State), s.Calm ∧ s.AdmitsCmd p (Reg.CH_INJ_STOP n) ∧ s.ch[n].inj.state ≠ .pending ∧
      s.ch[n].inj.state ≠ .running) ∧
    (∃ (n : ChId) (s : State), s.Calm ∧ s.lanesOn = true ∧ s.ch[n].inj.state = .running ∧ s.ch[n].inj.stopping = none) ∧
    (∃ (p : Port) (s : State), s.Calm ∧ s.AdmitsCmd p Reg.CAP_ARM ∧ s.reg Reg.CAP_TRIGGER ≠ 0) ∧
    (∃ (p : Port) (s : State), s.Calm ∧ s.AdmitsCmd p Reg.CAP_ARM ∧ s.reg Reg.CAP_TRIGGER = 0) ∧
    (∃ (p : Port) (s : State), s.Calm ∧ s.AdmitsCmd p Reg.CAP_STOP) := by
  refine ⟨⟨0, 15, w1, ?_⟩,
    ⟨0, 15, w11, Activity.cal, ?_⟩,
    ⟨0, 15, base, ?_⟩,
    ⟨15, w13, ?_⟩,
    ⟨15, w14, ?_⟩,
    ⟨0, 15, w2, ?_⟩,
    ⟨0, 15, w3, ?_⟩,
    ⟨0, 15, base, ?_⟩,
    ⟨15, w3, ?_⟩,
    ⟨0, w6, ?_⟩,
    ⟨0, base, ?_⟩,
    ⟨0, base, ?_⟩⟩ <;> (try simp only [State.Calm, State.PlainSample, State.ClearHatband, State.OneCrossing,
      State.Mild, State.AdmitsCmd, admits_iff, rejects_iff, ok_iff, nak_iff]) <;> decide +kernel

end O26

namespace O27

def rec1 : Bytes := putB 789 [0x40#8] (padTo 1024 [1#8, 0x80#8])
def seedm : State :=
  { mf (fun f => { f with settle := .seeding 833 100000 (-5000) }) (cs .settle runS) with pt := runS.pt.map fun x => { x with good := some rec1, present := true } }
def w3 : State := cs .track svc
def w4 : State := cs .coast svc
def w8 : State := mf (fun f => { f with settle := .seeding 833 100000 (-5000) }) (cs .settle svc)
def w11 : State := mf (fun f => { f with settle := .holding 0 }) (cs .settle svc)
def w12 : State := mf (fun f => { f with settle := .running, settlePeriods := 3000 }) (cs .settle runS)


/-- States and operands that meet the hypotheses of ChannelsSettleColdSeedAndTrack, clause by clause. -/
theorem wit_ChannelsSettleColdSeedAndTrack :
    (∃ (p : Port) (n : ChId) (s : State), s.Calm ∧ s.Admits p (Reg.CH_ENABLE n) (dataAt (Reg.CH_ENABLE n) 1) 1 ∧
      s.ch[n].state = .off ∧ s.lanesOn = true) ∧
    (∃ (p : Port) (n : ChId) (s : State), s.Calm ∧ s.Admits p (Reg.CH_ENABLE n) (dataAt (Reg.CH_ENABLE n) 1) 1 ∧
      s.ch[n].state ≠ .off) ∧
    (∃ (p : Port) (n : ChId) (s : State), s.Admits p (Reg.CH_ENABLE n) (dataAt (Reg.CH_ENABLE n) 0) 0 ∧
      s.ch[n].state ≠ .off ∧ s.Calm ∧ s.ch[n].state ≠ .track ∧ s.cal[n].state = .idle ∧ s.front[n].probe = .idle) ∧
    (∃ (n : ChId) (s : State) (k : _) (a : _) (b : _), s.Calm ∧ s.lanesOn = true ∧ s.ch[n].state = .settle ∧
      s.front[n].settle = .seeding k a b ∧ periodSamples s.exc[s.excIx n].freq ≤ k ∧ s.seedFrom n = none) ∧
    (∃ (n : ChId) (s : State) (k : _) (a : _) (b : _) (q : _) (r : _) (c : _), s.Calm ∧ s.lanesOn = true ∧
      s.ch[n].state = .settle ∧ s.front[n].settle = .seeding k a b ∧ periodSamples s.exc[s.excIx n].freq ≤ k ∧
      s.seedFrom n = some (q, r) ∧
      c = wrapS 16 (nearestTurn (Int.ofNat ((atan2Phase a b).toNat / 256)) (s.blockPos r n s.ch[n].out.time))) ∧
    (∃ (n : ChId) (s : State), s.Calm ∧ s.ch[n].state = .settle ∧ s.front[n].settle = .holding 0) ∧
    (∃ (n : ChId) (s : State), s.Calm ∧ s.lanesOn = true ∧ s.ch[n].state = .settle ∧ s.front[n].settle = .running ∧
      s.regN (Reg.CH_SETTLE_N n) ≤ s.front[n].settlePeriods ∧ s.exc[s.excIx n].changing = false ∧
      s.front[n].probe ≠ .deferredState ∧ s.front[n].probe ≠ .deferredFreq) := by
  refine ⟨⟨0, 15, base, ?_⟩,
    ⟨0, 15, w3, ?_⟩,
    ⟨0, 15, w4, ?_⟩,
    ⟨15, w8, 833, 100000, -5000, ?_⟩,
    ⟨15, seedm, 833, 100000, -5000, 0, rec1,
      wrapS 16 (nearestTurn (Int.ofNat ((atan2Phase 100000 (-5000)).toNat / 256)) (seedm.blockPos rec1 15
      seedm.ch[15].out.time)), ?_⟩,
    ⟨15, w11, ?_⟩,
    ⟨15, w12, ?_⟩⟩ <;> (try simp only [State.Calm, State.PlainSample, State.ClearHatband, State.OneCrossing,
      State.Mild, State.AdmitsCmd, admits_iff, rejects_iff, ok_iff, nak_iff]) <;> decide +kernel

end O27

namespace O28

def w1 : State := cs .settle runS
def w3 : State := mw (fun w => { w with coastUsed := 1000000 }) (cs .coast runS)
def w5 : State := mw (fun w => { w with coastCause := true, carPass := true, freqChanged := true }) (ex .run (cs .coast
  runS))
def w6 : State := mw (fun w => { w with coastCause := true, carPass := true, excWait := true }) (ex .run (cs .coast
  runS))
def w4 : State := mw (fun w => { w with coastCause := true, carPass := true }) (ex .run (cs .coast runS))


/-- States and operands that meet the hypotheses of TimeoutsAndCoastEndsMoveTheChannel, clause by clause. -/
theorem wit_TimeoutsAndCoastEndsMoveTheChannel :
    (∃ (n : ChId) (s : State), s.Calm ∧ s.lanesOn = true ∧ s.ch[n].state = .settle ∧ s.Mild (chSrc n 8) ∧
      s.exc[s.excIx n].changing = false) ∧
    (∃ (n : ChId) (s : State), s.Calm ∧ s.lanesOn = true ∧ s.ch[n].state = .coast ∧ s.Mild (chSrc n 7) ∧
      s.regN (Reg.CH_COAST_LIM n) * 1000 ≤ s.watch[n].coastUsed * 120) ∧
    (∃ (n : ChId) (s : State), s.Calm ∧ s.lanesOn = true ∧ s.ch[n].state = .coast ∧ s.watch[n].coastCause = true ∧
      s.exitOk n = true ∧ s.front[n].probe ≠ .deferredState ∧ s.front[n].probe ≠ .deferredFreq ∧
      s.watch[n].freqChanged = true) ∧
    (∃ (n : ChId) (s : State), s.Calm ∧ s.lanesOn = true ∧ s.ch[n].state = .coast ∧ s.watch[n].coastCause = true ∧
      s.exitOk n = true ∧ s.front[n].probe ≠ .deferredState ∧ s.front[n].probe ≠ .deferredFreq ∧
      s.watch[n].freqChanged = false ∧ ((s.users (s.excIx n)).any fun m => s.watch[m].excWait) = true) ∧
    (∃ (n : ChId) (s : State), s.Calm ∧ s.lanesOn = true ∧ s.ch[n].state = .coast ∧ s.watch[n].coastCause = true ∧
      s.exitOk n = true ∧ s.front[n].probe ≠ .deferredState ∧ s.front[n].probe ≠ .deferredFreq ∧
      s.watch[n].freqChanged = false ∧ ((s.users (s.excIx n)).any fun m => s.watch[m].excWait) = false) := by
  refine ⟨⟨15, w1, ?_⟩,
    ⟨15, w3, ?_⟩,
    ⟨15, w5, ?_⟩,
    ⟨15, w6, ?_⟩,
    ⟨15, w4, ?_⟩⟩ <;> (try simp only [State.Calm, State.PlainSample, State.ClearHatband, State.OneCrossing,
      State.Mild, State.AdmitsCmd, admits_iff, rejects_iff, ok_iff, nak_iff]) <;> decide +kernel

end O28

namespace O29

def w2 : State := r16 Reg.CH_AUTO_RECOVER 1 (cs .invalid (ex .run (mw (fun w => { w with carPass := true }) svc)))
def w5 : State := cs .track svc


/-- States and operands that meet the hypotheses of InvalidIsLeftColdAndHomingIsArmed, clause by clause. -/
theorem wit_InvalidIsLeftColdAndHomingIsArmed :
    (∃ (n : ChId) (s : State), s.Calm ∧ s.lanesOn = true ∧ s.ch[n].state = .invalid ∧
      s.flag (Reg.CH_AUTO_RECOVER n) = true ∧ s.exitBase n = true) ∧
    (∃ (p : Port) (n : ChId) (s : State), s.Calm ∧ s.AdmitsCmd p (Reg.CH_RECOVER n) ∧ s.ch[n].state = .invalid ∧
      s.exitBase n = true) ∧
    (∃ (p : Port) (n : ChId) (s : State), s.Calm ∧ s.AdmitsCmd p (Reg.CH_RECOVER n) ∧
      (s.ch[n].state ≠ .invalid ∨ s.exitBase n = false)) ∧
    (∃ (p : Port) (n : ChId) (s : State), s.Calm ∧ s.AdmitsCmd p (Reg.CH_HOME n) ∧ s.ch[n].state = .track) ∧
    (∃ (p : Port) (n : ChId) (s : State), s.Calm ∧ s.AdmitsCmd p (Reg.CH_HOME n) ∧ s.ch[n].state ≠ .track) := by
  refine ⟨⟨15, w2, ?_⟩,
    ⟨0, 15, w2, ?_⟩,
    ⟨0, 15, base, ?_⟩,
    ⟨0, 15, w5, ?_⟩,
    ⟨0, 15, base, ?_⟩⟩ <;> (try simp only [State.Calm, State.PlainSample, State.ClearHatband, State.OneCrossing,
      State.Mild, State.AdmitsCmd, admits_iff, rejects_iff, ok_iff, nak_iff]) <;> decide +kernel

end O29

namespace O30

def upw (s : State) : State := { s with upd := { s.upd with state := .waitQuiet } }
def go (s : State) : State := r16 Reg.CAL_AUTO 1 (s.setReg Reg.CAL_AUTO_ALL 1)
def wt (tr : Nat) (s : State) : State :=
  { s with cal := s.cal.set 7 { s.cal[7] with state := .pending, trigger := tr }, sched := s.sched.map fun x => { x with running := none, pending := some .cal, suspended := false } }
def rpt (s : State) : State := ml (fun c => { c with state := .idle, repeatDue := true }) (msd (fun _ => {}) s)
def w2 : State := cs .track svc
def w6 : State := upw (cs .track svc)
def w5 : State := r16 Reg.CAL_KIND 1 (r16 Reg.CAL_SCOPE 1 (cs .track svc))
def w8 : State := ml (fun c => { c with state := .pending }) svc
def w31 : State := rpt svc
def w15 : State := (r16 Reg.CH_TEMP 900 (ml (fun c => { c with state := .acquire }) svc)).setReg Reg.CAL_AUTO_ALL 0
def w21 : State := wt 3 (cs .track svc)
def w29 : State := wt 4 (go (cs .track base))
def w23 : State := wt 3 (cs .off svc)


/-- States and operands that meet the hypotheses of CalibrationRunsAreRequestedGrantedAndCancelled, clause by clause. -/
theorem wit_CalibrationRunsAreRequestedGrantedAndCancelled :
    (∃ (p : Port) (n : ChId) (s : State), s.Calm ∧ s.AdmitsCmd p (Reg.CAL_START n) ∧ s.updWaits = false ∧
      (s.reg (Reg.CAL_KIND n) ≠ 1 ∨ s.reg (Reg.CAL_SCOPE n) ≠ 1) ∧ (s.cal[n].state ≠ .idle ∨ (s.dev.state ≠ .run ∧
      s.dev.state ≠ .service) ∨ s.ch[n].state = .off ∨ s.kindAllowed n = false)) ∧
    (∃ (p : Port) (n : ChId) (s : State), s.Calm ∧ s.AdmitsCmd p (Reg.CAL_START n) ∧ s.updWaits = false ∧
      (s.reg (Reg.CAL_KIND n) ≠ 1 ∨ s.reg (Reg.CAL_SCOPE n) ≠ 1) ∧ s.cal[n].state = .idle ∧
      (s.dev.state = .run ∨ s.dev.state = .service) ∧ s.ch[n].state ≠ .off ∧ s.kindAllowed n = true ∧
      s.sched[chDomain n].pending = none) ∧
    (∃ (p : Port) (n : ChId) (s : State), s.Calm ∧ s.AdmitsCmd p (Reg.CAL_START n) ∧ s.updWaits = true) ∧
    (∃ (p : Port) (n : ChId) (s : State), s.Calm ∧ s.AdmitsCmd p (Reg.CAL_START n) ∧ s.updWaits = false ∧
      s.reg (Reg.CAL_KIND n) = 1 ∧ s.reg (Reg.CAL_SCOPE n) = 1) ∧
    (∃ (p : Port) (n : ChId) (s : State), s.Calm ∧ s.AdmitsCmd p (Reg.CAL_CANCEL n) ∧
      (s.cal[n].state = .pending ∨ s.cal[n].state = .acquire ∨ s.cal[n].state = .paused) ∧ s.Mild (chSrc n 16)) ∧
    (∃ (p : Port) (n : ChId) (s : State), s.Calm ∧ s.AdmitsCmd p (Reg.CAL_CANCEL n) ∧ (s.cal[n].state ≠ .pending ∧
      s.cal[n].state ≠ .acquire ∧ s.cal[n].state ≠ .paused)) ∧
    (∃ (n : ChId) (x : Nat) (s : State), s.Calm ∧ s.alive = true ∧ s.serviceOn = true ∧ s.cal[n].repeatDue = false ∧
      s.calAuto n = true ∧ s.calTrigger n = some x ∧ s.updWaits = false ∧ s.sched[chDomain n].pending = none) ∧
    (∃ (n : ChId) (s : State), s.Calm ∧ s.alive = true ∧ s.serviceOn = true ∧ s.cal[n].state = .idle ∧
      s.cal[n].repeatDue = true ∧ (s.dev.state = .run ∨ s.dev.state = .service) ∧ s.updWaits = false ∧
      s.sched[chDomain n].pending = none) ∧
    (∃ (n : ChId) (s : State), s.Calm ∧ s.alive = true ∧ s.serviceOn = true ∧ s.Mild (chSrc n 16) ∧
      (s.cal[n].state = .acquire ∨ s.cal[n].state = .paused ∨ s.cal[n].state = .evaluate) ∧
      s.cal[n].cfg.tempTol.toNat < (s.reg (Reg.CH_TEMP n) - s.cal[n].tStart).natAbs ∧ s.flag Reg.CAL_AUTO_ALL = false) ∧
    (∃ (n : ChId) (auto : Bool) (fits : Bool) (s : State), s.Calm ∧ s.alive = true ∧ s.serviceOn = true ∧
      s.unitGranted n = true ∧ auto = (s.cal[n].trigger = 1 || s.cal[n].trigger = 2 || s.cal[n].trigger = 4) ∧
      fits = (s.kindAllowed n && !(s.reg (Reg.CAL_KIND n) = 1 && s.reg (Reg.CAL_SCOPE n) = 1) && (s.dev.state = .run ||
      s.dev.state = .service)) ∧ fits = true ∧ s.ch[n].state ≠ .off ∧ (auto = true → (s.calTrigger n).isSome = true)) ∧
    (∃ (n : ChId) (auto : Bool) (fits : Bool) (s : State), s.Calm ∧ s.alive = true ∧ s.serviceOn = true ∧
      s.unitGranted n = true ∧ auto = (s.cal[n].trigger = 1 || s.cal[n].trigger = 2 || s.cal[n].trigger = 4) ∧
      fits = (s.kindAllowed n && !(s.reg (Reg.CAL_KIND n) = 1 && s.reg (Reg.CAL_SCOPE n) = 1) && (s.dev.state = .run ||
      s.dev.state = .service)) ∧ auto = true ∧ (fits = false ∨ (s.calTrigger n).isSome = false)) ∧
    (∃ (n : ChId) (auto : Bool) (fits : Bool) (s : State), s.Calm ∧ s.alive = true ∧ s.serviceOn = true ∧
      s.unitGranted n = true ∧ auto = (s.cal[n].trigger = 1 || s.cal[n].trigger = 2 || s.cal[n].trigger = 4) ∧
      fits = (s.kindAllowed n && !(s.reg (Reg.CAL_KIND n) = 1 && s.reg (Reg.CAL_SCOPE n) = 1) && (s.dev.state = .run ||
      s.dev.state = .service)) ∧ (s.ch[n].state = .off ∨ fits = false) ∧
      (auto = true → (s.calTrigger n).isSome = true ∧ fits = true) ∧ s.Mild (chSrc n 16)) := by
  refine ⟨⟨0, 15, base, ?_⟩,
    ⟨0, 15, w2, ?_⟩,
    ⟨0, 15, w6, ?_⟩,
    ⟨0, 15, w5, ?_⟩,
    ⟨0, 15, w8, ?_⟩,
    ⟨0, 15, base, ?_⟩,
    ⟨15, 4, svc, ?_⟩,
    ⟨15, w31, ?_⟩,
    ⟨15, w15, ?_⟩,
    ⟨7, (w21.cal[7].trigger = 1 || w21.cal[7].trigger = 2 || w21.cal[7].trigger = 4),
      (w21.kindAllowed 7 && !(w21.reg (Reg.CAL_KIND 7) = 1 && w21.reg (Reg.CAL_SCOPE 7) = 1) && (w21.dev.state = .run
      || w21.dev.state = .service)), w21, ?_⟩,
    ⟨7, (w29.cal[7].trigger = 1 || w29.cal[7].trigger = 2 || w29.cal[7].trigger = 4),
      (w29.kindAllowed 7 && !(w29.reg (Reg.CAL_KIND 7) = 1 && w29.reg (Reg.CAL_SCOPE 7) = 1) && (w29.dev.state = .run
      || w29.dev.state = .service)), w29, ?_⟩,
    ⟨7, (w23.cal[7].trigger = 1 || w23.cal[7].trigger = 2 || w23.cal[7].trigger = 4),
      (w23.kindAllowed 7 && !(w23.reg (Reg.CAL_KIND 7) = 1 && w23.reg (Reg.CAL_SCOPE 7) = 1) && (w23.dev.state = .run
      || w23.dev.state = .service)), w23, ?_⟩⟩ <;> (try simp only [State.Calm, State.PlainSample, State.ClearHatband,
      State.OneCrossing, State.Mild, State.AdmitsCmd, admits_iff, rejects_iff, ok_iff, nak_iff]) <;> decide +kernel

end O30

namespace O31

def osn (o : Nat → Obs) (n : Nat) : List Obs := (List.range n).reverse.map o
def w1 : State := ml (fun c => { c with state := .acquire, gates := true }) runS
def w2 : State := ml (fun c => { c with state := .acquire, gates := true, window := some [] }) runS
def w3 : State := ml (fun c => { c with state := .paused, gates := true }) (cs .track runS)
def w7 : State := ml (fun c => { c with state := .acquire, gates := true, window := some (osn ob3 50) }) runS
def w6 : State := ml (fun c => { c with state := .acquire, gates := true, window := some (osn ob2 50) }) runS


/-- States and operands that meet the hypotheses of WindowsOpenCloseAndTimeOut, clause by clause. -/
theorem wit_WindowsOpenCloseAndTimeOut :
    (∃ (n : ChId) (s : State), s.Calm ∧ s.lanesOn = true ∧ s.cal[n].state = .acquire ∧ s.cal[n].gates = true ∧
      s.cal[n].window = none) ∧
    (∃ (n : ChId) (s : State), s.Calm ∧ s.lanesOn = true ∧ s.cal[n].state = .acquire ∧ s.cal[n].window ≠ none) ∧
    (∃ (n : ChId) (s : State), s.Calm ∧ s.lanesOn = true ∧ s.cal[n].state = .paused ∧ s.cal[n].gates = true ∧
      s.ch[n].state = .track ∧ s.noProbe n = true ∧ s.sched[chDomain n].suspended = false) ∧
    (∃ (n : ChId) (os : List Obs) (s : State), s.Calm ∧ s.lanesOn = true ∧ s.cal[n].state = .acquire ∧
      s.cal[n].window = some os ∧ s.cal[n].travelled = true ∧
      ((fitOf os.reverse).d = 0 ∨ (fitOf os.reverse).within os.reverse s.cal[n].cfg.winResid = false)) ∧
    (∃ (n : ChId) (os : List Obs) (s : State), s.Calm ∧ s.lanesOn = true ∧ s.cal[n].state = .acquire ∧
      s.cal[n].window = some os ∧ s.cal[n].travelled = true ∧ (fitOf os.reverse).d ≠ 0 ∧
      (fitOf os.reverse).within os.reverse s.cal[n].cfg.winResid = true) ∧
    (∃ (n : ChId) (s : State), s.Calm ∧ s.alive = true ∧ s.acquiring n = true ∧ s.Mild (chSrc n 16)) := by
  refine ⟨⟨15, w1, ?_⟩,
    ⟨15, w2, ?_⟩,
    ⟨15, w3, ?_⟩,
    ⟨15, osn ob3 50, w7, ?_⟩,
    ⟨15, osn ob2 50, w6, ?_⟩,
    ⟨15, w1, ?_⟩⟩ <;> (try simp only [State.Calm, State.PlainSample, State.ClearHatband, State.OneCrossing,
      State.Mild, State.AdmitsCmd, admits_iff, rejects_iff, ok_iff, nak_iff]) <;> decide +kernel

end O31

namespace O32

def cand (s : State) : State :=
  { s with cal := Vector.ofFn fun n => { s.cal[n] with candidate := some (s.calResult n) } }
def candX (s : State) : State :=
  { s with cal := Vector.ofFn fun n => { s.cal[n] with candidate := some { s.calResult n with beads := (s.calResult n).beads.map fun x => (x.1, x.2.1 + 100000, x.2.2) } } }
def acc2 (s : State) : State := ca (fun c => { c with accept := 1, repeatTol := 100 }) s
def w2 : State := evs nb svc
def w4 : State := ca (fun c => { c with accept := 0 }) (evs ns svc)
def w1 : State := evs ns svc
def w9 : State := cand (acc2 (evs ns svc))
def w10 : State := candX (acc2 (evs ns svc))


/-- States and operands that meet the hypotheses of EvaluationRejectsAcceptsOrWaitsForARepeat, clause by clause. -/
theorem wit_EvaluationRejectsAcceptsOrWaitsForARepeat :
    (∃ (n : ChId) (s : State) (d : Nat), s.Calm ∧ s.alive = true ∧ s.serviceOn = true ∧ s.cal[n].state = .evaluate ∧
      (s.calRange n (s.calResult n) = some d ∨ (s.calRange n (s.calResult n) = none ∧ s.cal[n].cfg.accept ≠ 1 ∧
      s.calLimits n (s.calResult n) = some d)) ∧ s.Mild (chSrc n 16)) ∧
    (∃ (n : ChId) (s : State), s.Calm ∧ s.alive = true ∧ s.serviceOn = true ∧ s.cal[n].state = .evaluate ∧
      s.calRange n (s.calResult n) = none ∧ s.cal[n].cfg.accept = 0 ∧ s.calLimits n (s.calResult n) = none ∧
      s.bead.staging[quadOf n] = none ∧ s.bead.waiting = []) ∧
    (∃ (n : ChId) (s : State), s.Calm ∧ s.alive = true ∧ s.serviceOn = true ∧ s.cal[n].state = .evaluate ∧
      s.calRange n (s.calResult n) = none ∧ s.cal[n].cfg.accept ≠ 0 ∧ s.cal[n].candidate = none ∧
      (s.cal[n].cfg.accept = 1 ∨ s.calLimits n (s.calResult n) = none)) ∧
    (∃ (n : ChId) (s : State) (old : CalResult), s.Calm ∧ s.alive = true ∧ s.serviceOn = true ∧
      s.cal[n].state = .evaluate ∧ s.calRange n (s.calResult n) = none ∧ s.cal[n].cfg.accept ≠ 0 ∧
      s.cal[n].candidate = some old ∧ (s.cal[n].cfg.accept = 1 ∨ s.calLimits n (s.calResult n) = none) ∧
      agreeResults s.cal[n].cfg.repeatTol old (s.calResult n) = true ∧ s.bead.staging[quadOf n] = none ∧
      s.bead.waiting = []) ∧
    (∃ (n : ChId) (s : State) (old : CalResult), s.Calm ∧ s.alive = true ∧ s.serviceOn = true ∧
      s.cal[n].state = .evaluate ∧ s.calRange n (s.calResult n) = none ∧ s.cal[n].cfg.accept ≠ 0 ∧
      s.cal[n].candidate = some old ∧ (s.cal[n].cfg.accept = 1 ∨ s.calLimits n (s.calResult n) = none) ∧
      agreeResults s.cal[n].cfg.repeatTol old (s.calResult n) = false ∧ s.Mild (chSrc n 16)) := by
  refine ⟨⟨15, w2, 16, ?_⟩,
    ⟨15, w4, ?_⟩,
    ⟨15, w1, ?_⟩,
    ⟨15, w9, { kind := 0, scope := 1, arcFirst := 5, arcLast := 5, set := 0, beads := [(5, 1, 1, 80)], dFs := 0, dFc := 0, dQ := 0, dOs := 0, dOc := 0, q := 0, tRun := -55 }, ?_⟩,
    ⟨15, w10, { kind := 0, scope := 1, arcFirst := 5, arcLast := 5, set := 0, beads := [(5, 100001, 1, 80)], dFs := 0, dFc := 0, dQ := 0, dOs := 0, dOc := 0, q := 0, tRun := -55 }, ?_⟩⟩ <;> (try simp only [State.Calm, State.PlainSample, State.ClearHatband, State.OneCrossing, State.Mild, State.AdmitsCmd, admits_iff, rejects_iff, ok_iff, nak_iff]) <;> decide +kernel

end O32

namespace O33

def ap (s : State) : State := ml (fun c => { c with state := .apply }) s
def w20 : State := ex .run (ap (sg 7 false 1 svc))
def w1 : State := sg 7 false 2 runS
def w3 : State := ap (sg 1 false 0 runS)
def w6 : State := sg 7 true 2 runS


/-- States and operands that meet the hypotheses of StagedRowsTakeEffectAndAreCopied, clause by clause. -/
theorem wit_StagedRowsTakeEffectAndAreCopied :
    (∃ (n : ChId) (s : State) (x : _), s.Calm ∧ s.lanesOn = true ∧ s.commitWrites = false ∧
      s.bead.staging[quadOf n] = some x ∧ x.ch = n ∧ x.inUse = false ∧ x.trims.isSome = true ∧ x.armed = false ∧
      s.exc[s.excIx n].driving = true) ∧
    (∃ (n : ChId) (s : State) (x : _), s.Calm ∧ s.lanesOn = true ∧ s.commitWrites = false ∧
      s.bead.staging[quadOf n] = some x ∧ x.ch = n ∧ x.inUse = false ∧
      (x.trims = none ∨ x.armed = true ∨ s.exc[s.excIx n].driving = false) ∧ x.source = 2 ∧ x.trims = none) ∧
    (∃ (n : ChId) (s : State) (x : _), s.Calm ∧ s.lanesOn = true ∧ s.commitWrites = false ∧
      s.bead.staging[quadOf n] = some x ∧ x.ch = n ∧ x.inUse = false ∧
      (x.trims = none ∨ x.armed = true ∨ s.exc[s.excIx n].driving = false) ∧ x.source ≤ 1 ∧ s.cal[n].state = .apply) ∧
    (∃ (n : ChId) (s : State) (x : _), s.lanesOn = true ∧ s.bead.staging[quadOf n] = some x ∧ x.ch = n ∧
      x.inUse = true ∧ x.beads.length = 1024 ∧ s.bead.waiting = []) := by
  refine ⟨⟨7, w20, stg 7 false 1, ?_⟩,
    ⟨7, w1, stg 7 false 2, ?_⟩,
    ⟨1, w3, stg 1 false 0, ?_⟩,
    ⟨7, w6, stg 7 true 2, ?_⟩⟩ <;> (try simp only [State.Calm, State.PlainSample, State.ClearHatband,
      State.OneCrossing, State.Mild, State.AdmitsCmd, admits_iff, rejects_iff, ok_iff, nak_iff]) <;> decide +kernel

end O33

namespace O34

def cw (s : State) : State := s.modSched mramDomain fun x => { x with running := some .beadCommit }
def upw (s : State) : State := { s with upd := { s.upd with state := .waitQuiet } }
def win (c k : Int) (s : State) : State := (s.setReg Reg.BT_WIN_CH c).setReg Reg.BT_WIN_SET k
def w2 : State := cw base
def w5 : State := upw base
def w8 : State := win 3 7 (svc.setReg Reg.BT_ROW_TEMP 300)


/-- States and operands that meet the hypotheses of CommitsScrubAndHostRows, clause by clause. -/
theorem wit_CommitsScrubAndHostRows :
    (∃ (f : Fin 4) (s : State), s.Calm ∧ s.alive = true ∧ s.serviceOn = true ∧ s.commitWrites = true ∧ f.val < 3) ∧
    (∃ (f : Fin 4) (s : State), s.Calm ∧ s.alive = true ∧ s.serviceOn = true ∧ s.commitWrites = true ∧ f.val = 3 ∧
      s.Mild 36) ∧
    (∃ (p : Port) (s : State), s.Calm ∧ s.AdmitsCmd p Reg.BT_COMMIT_NOW ∧ s.updWaits = false ∧
      s.sched[mramDomain] = {}) ∧
    (∃ (p : Port) (s : State), s.Calm ∧ s.AdmitsCmd p Reg.BT_COMMIT_NOW ∧ s.updWaits = true) ∧
    (∃ (s : State), s.alive = true ∧ 0 ≤ s.reg Reg.BT_ECC_CE_CNT ∧ s.reg Reg.BT_ECC_CE_CNT ≤ 2 ^ 32 - 1) ∧
    (∃ (p : Port) (s : State) (n : ChId) (k : Nat), s.Calm ∧ s.AdmitsCmd p Reg.BT_ROW_LOAD ∧
      n = chOf (s.reg Reg.BT_WIN_CH) ∧ k = s.regN Reg.BT_WIN_SET % 8 ∧
      (s.dev.state = .config ∨ s.dev.state = .service) ∧ s.cal[n].state = .idle ∧
      inCell s.reg k (s.reg Reg.BT_ROW_TEMP) = true ∧ s.bead.staging[quadOf n] = none ∧ s.bead.waiting = []) ∧
    (∃ (p : Port) (s : State) (n : ChId) (k : Nat), s.Calm ∧ s.AdmitsCmd p Reg.BT_ROW_LOAD ∧
      n = chOf (s.reg Reg.BT_WIN_CH) ∧ k = s.regN Reg.BT_WIN_SET % 8 ∧ (s.dev.state ≠ .config ∧
      s.dev.state ≠ .service)) ∧
    (∃ (p : Port) (s : State), s.Calm ∧ s.AdmitsCmd p Reg.BT_ROW_CLEAR) ∧
    (∃ (p : Port) (n : ChId) (k : Fin 8) (s : State), s.Calm ∧ s.AdmitsCmd p (Reg.SET_CLEAR n + 0x100 * k) ∧
      (s.dev.state = .config ∨ s.dev.state = .service)) ∧
    (∃ (p : Port) (n : ChId) (k : Fin 8) (s : State), s.Calm ∧ s.AdmitsCmd p (Reg.SET_CLEAR n + 0x100 * k) ∧
      (s.dev.state ≠ .config ∧ s.dev.state ≠ .service)) := by
  refine ⟨⟨0, w2, ?_⟩,
    ⟨3, w2, ?_⟩,
    ⟨0, base, ?_⟩,
    ⟨0, w5, ?_⟩,
    ⟨base, ?_⟩,
    ⟨0, w8, chOf (w8.reg Reg.BT_WIN_CH), w8.regN Reg.BT_WIN_SET % 8, ?_⟩,
    ⟨0, runS, chOf (runS.reg Reg.BT_WIN_CH), runS.regN Reg.BT_WIN_SET % 8, ?_⟩,
    ⟨0, base, ?_⟩,
    ⟨0, 15, 7, base, ?_⟩,
    ⟨0, 15, 7, runS, ?_⟩⟩ <;> (try simp only [State.Calm, State.PlainSample, State.ClearHatband, State.OneCrossing,
      State.Mild, State.AdmitsCmd, admits_iff, rejects_iff, ok_iff, nak_iff]) <;> decide +kernel

end O34

namespace O35

def sn (x : SnapState) (s : State) : State :=
  { s with frames := 9, snap := s.snap.map fun q => { q with state := x, seq := 4294967295 } }
def w1 : State := sn .armed base
def w7 : State := (sn .armed (cs .track runS)).setReg (Reg.SNAP_PERIOD 2) 4294967295


/-- States and operands that meet the hypotheses of SnapshotsLatchMissAndReturnToIdle, clause by clause. -/
theorem wit_SnapshotsLatchMissAndReturnToIdle :
    (∃ (pin : Fin 2) (rising : Bool) (s : State), s.Calm ∧ s.alive = true ∧
      (s.reg (Reg.SNAP_EDGE (syncSrc pin)) = 2 ∨ s.reg (Reg.SNAP_EDGE (syncSrc pin)) = (if rising then 0 else 1)) ∧
      (s.snap[syncSrc pin].state = .armed ∨ s.reg (Reg.SNAP_MODE (syncSrc pin)) = 1) ∧
      s.snap[syncSrc pin].frame ≠ some s.frames) ∧
    (∃ (pin : Fin 2) (rising : Bool) (s : State), s.Calm ∧ s.alive = true ∧
      (s.reg (Reg.SNAP_EDGE (syncSrc pin)) = 2 ∨ s.reg (Reg.SNAP_EDGE (syncSrc pin)) = (if rising then 0 else 1)) ∧
      ((s.snap[syncSrc pin].state ≠ .armed ∧
      s.reg (Reg.SNAP_MODE (syncSrc pin)) ≠ 1) ∨ s.snap[syncSrc pin].frame = some s.frames)) ∧
    (∃ (s : State), s.Calm ∧ s.alive = true ∧ reached s.timeNow (t32 (s.reg (Reg.SNAP_TIME 2))) = true ∧
      (s.snap[(2 : Fin 3)].state = .armed ∨ (s.reg (Reg.SNAP_MODE 2) = 1 ∧ s.reg (Reg.SNAP_PERIOD 2) ≠ 0)) ∧
      s.snap[(2 : Fin 3)].frame ≠ some s.frames ∧ s.reg (Reg.SNAP_PERIOD 2) = 0) ∧
    (∃ (s : State), s.Calm ∧ s.alive = true ∧ reached s.timeNow (t32 (s.reg (Reg.SNAP_TIME 2))) = true ∧
      (s.snap[(2 : Fin 3)].state = .armed ∨ (s.reg (Reg.SNAP_MODE 2) = 1 ∧ s.reg (Reg.SNAP_PERIOD 2) ≠ 0)) ∧
      s.snap[(2 : Fin 3)].frame ≠ some s.frames ∧ s.reg (Reg.SNAP_PERIOD 2) ≠ 0) ∧
    (∃ (p : Port) (k : Fin 3) (s : State), s.Calm ∧ s.AdmitsCmd p (Reg.SNAP_ARM k)) ∧
    (∃ (p : Port) (k : Fin 3) (o : SnapObj) (v : Int) (s : State), s.Calm ∧
      s.Admits p (snapKey o k) (dataAt (snapKey o k) v) v) := by
  refine ⟨⟨1, true, w1, ?_⟩,
    ⟨1, true, base, ?_⟩,
    ⟨w1, ?_⟩,
    ⟨w7, ?_⟩,
    ⟨0, 2, base, ?_⟩,
    ⟨0, 2, SnapObj.edge, 0, base, ?_⟩⟩ <;> (try simp only [State.Calm, State.PlainSample, State.ClearHatband,
      State.OneCrossing, State.Mild, State.AdmitsCmd, admits_iff, rejects_iff, ok_iff, nak_iff]) <;> decide +kernel

end O35

namespace O36

def emf (f : Emu → Emu) (s : State) : State := { s with emu := s.emu.map f }
def en (s : State) : State := r16 Reg.EMU_ENABLE 1 s
def ta (s : State) : State :=
  r16 Reg.EMU_SRC_KIND 1 (r16 Reg.TAL_ENABLE 1 { s with tal := s.tal.map fun t => { t with count := 17, raw := 17 } })
def g0 (s : State) : State := r16 Reg.EMU_SEAT_GATE 0 s
def w2 : State := en (cs .track runS)
def w3 : State := ta (en base)
def w7 : State := { emf (fun e => { e with started := true, valid := true, c := 16, ct := 16 }) (ta (en base)) with tal := base.tal.map fun t => { t with fault := true } }
def w19 : State := emf (fun e => { e with started := true, valid := false, c := 16, ct := 16 }) (ta (en base))
def w5 : State := emf (fun e => { e with started := true, valid := true, c := 9, ct := 16, jump := true }) (ta (en
  base))
def w29 : State := g0 (emf (fun e => { e with started := true, valid := true, c := 16, ct := 16 }) (ta (en base)))
def w6 : State := emf (fun e => { e with started := true, valid := true, c := -9000000, ct := 16 }) (ta (en base))
def w9 : State := emf (fun e =>
  { e with safe := true, a := .high, b := .low, c := 1001, started := true, valid := true }) (en base)
def w8 : State := emf (fun e => { e with safe := true }) (en base)


def prof0 : Profile := { d := 5000, s := 0, v := 0, a := 0, phases := [] }

def prof4 : Profile :=
  { prof0 with phases := [((15647552213279655 : Rat) / 1152921504606846976, 1000000000),
      ((15647552213279655 : Rat) / 1152921504606846976, -1000000000),
      ((15647552213279655 : Rat) / 1152921504606846976, -1000000000),
      ((15647552213279655 : Rat) / 1152921504606846976, 1000000000)] }

def emuAt (x : Option Profile) : Emu :=
  { started := true, valid := true, c := 5, ct := 20, rebase := true, catchup := x }

/-- States and operands that meet the hypotheses of EmulatorsStartFollowAndLeaveSafeLevels, clause by clause. -/
theorem wit_EmulatorsStartFollowAndLeaveSafeLevels :
    (∃ (p : Port) (n : Fin 16) (v : Int) (s : State), s.Calm ∧
      s.Admits p (Reg.EMU_ENABLE n) (dataAt (Reg.EMU_ENABLE n) v) v ∧ s.reg (Reg.EMU_ENABLE n) ≠ v ∧
      s.emuScoped n = false ∧ (v = 0 ∨ s.allSafe = false)) ∧
    (∃ (n : Fin 16) (s : State), s.Calm ∧ s.alive = true ∧ s.flag (Reg.EMU_ENABLE n) = true ∧
      s.emu[n].started = false ∧ s.emuSrcValid n = true ∧ s.sup.power ≠ .quiet) ∧
    (∃ (p : Port) (n : Fin 16) (kind : Bool) (v : Int) (s : State) (k : Key), s.Calm ∧
      k = (if kind then Reg.EMU_SRC_KIND n else Reg.EMU_SRC n) ∧ s.Admits p k (dataAt k v) v ∧ s.reg k ≠ v) ∧
    (∃ (n : Fin 16) (s : State), s.Calm ∧ s.alive = true ∧ s.flag (Reg.EMU_ENABLE n) = true ∧ s.emuTally n = true ∧
      (s.src (emuSrc n 0)).cond = false ∧ s.emu[n].started = false ∧ s.emuLive n = true) ∧
    (∃ (n : Fin 16) (s : State), s.Calm ∧ s.alive = true ∧ s.flag (Reg.EMU_ENABLE n) = true ∧ s.emuTally n = true ∧
      (s.src (emuSrc n 0)).cond = false ∧ s.emu[n].started = true ∧ s.emuLive n = false) ∧
    (∃ (n : Fin 16) (s : State), s.Calm ∧ s.alive = true ∧ s.flag (Reg.EMU_ENABLE n) = true ∧ s.emuTally n = true ∧
      (s.src (emuSrc n 0)).cond = false ∧ s.emu[n].started = true ∧ s.emuLive n = true ∧ s.emu[n].valid = false ∧
      s.emu[n].safe = false ∧ s.emu[n].a = .hiz ∧ s.emu[n].b = .hiz) ∧
    (∃ (n : Fin 16) (s : State), s.Calm ∧ s.alive = true ∧ s.flag (Reg.EMU_ENABLE n) = true ∧ s.emuTally n = true ∧
      (s.src (emuSrc n 0)).cond = false ∧ s.emu[n].started = true ∧ s.emuLive n = true ∧ s.emu[n].valid = true ∧
      s.emu[n].safe = false ∧ s.emu[n].jump = true) ∧
    (∃ (n : Fin 16) (s : State), s.Calm ∧ s.alive = true ∧ s.flag (Reg.EMU_ENABLE n) = true ∧ s.emuTally n = true ∧
      (s.src (emuSrc n 0)).cond = false ∧ s.emu[n].started = true ∧ s.emuLive n = true ∧ s.emu[n].valid = true ∧
      s.emu[n].safe = false ∧ s.emu[n].jump = false ∧ s.emu[n].left ≤ 4 ∧ s.emu[n].catchup = none ∧
      Int.ofNat (s.emuTarget n - s.emu[n].c).natAbs ≤ s.reg (Reg.EMU_JUMP n) ∧ s.emuDrive n = .follow) ∧
    (∃ (n : Fin 16) (s : State), s.Calm ∧ s.alive = true ∧ s.flag (Reg.EMU_ENABLE n) = true ∧ s.emuTally n = true ∧
      (s.src (emuSrc n 0)).cond = false ∧ s.emu[n].started = true ∧ s.emuLive n = true ∧ s.emu[n].valid = true ∧
      s.emu[n].safe = false ∧ s.emu[n].jump = false ∧ s.emu[n].left ≤ 4 ∧ s.emu[n].catchup = none ∧
      s.reg (Reg.EMU_JUMP n) < Int.ofNat (s.emuTarget n - s.emu[n].c).natAbs) ∧
    (∃ (n : Fin 16) (s : State) (ch : ChId), s.lanesOn = true ∧ s.flag (Reg.EMU_ENABLE n) = true ∧
      s.emuTally n = false ∧ s.emuSource n = ch ∧ s.emu[n].started = true) ∧
    (∃ (jump : Int) (e : Emu) (ct : Int), e.catchup = none ∧ Int.ofNat (ct - e.c).natAbs ≤ jump) ∧
    (∃ (jump : Int) (e : Emu) (ct : Int), e.catchup = none ∧ jump < Int.ofNat (ct - e.c).natAbs) ∧
    (∃ (jump : Int) (ns : Nat) (e : Emu) (ct : Int) (p : _), e.catchup = some p ∧
      Int.ofNat (ct - e.ct).natAbs ≤ jump ∧ (p.advance ns).phases = []) ∧
    (∃ (jump : Int) (ns : Nat) (e : Emu) (ct : Int) (p : _), e.catchup = some p ∧
      Int.ofNat (ct - e.ct).natAbs ≤ jump ∧ (p.advance ns).phases ≠ []) ∧
    (∃ (jump : Int) (e : Emu) (ct : Int) (p : _), e.catchup = some p ∧ jump < Int.ofNat (ct - e.ct).natAbs) ∧
    (∃ (n : Fin 16) (s : State), s.Calm ∧ s.floorOn = true ∧ s.emu[n].safe = true ∧ s.emuHeld n = false ∧
      s.sup.power = .run ∧
      (s.emu[n].started && !s.emu[n].valid && decide (s.reg (Reg.EMU_INVALID n) = 2)) = false) := by
  refine ⟨⟨0, 15, 1, base, ?_⟩,
    ⟨15, w2, ?_⟩,
    ⟨0, 15, true, 1, base, (if true then Reg.EMU_SRC_KIND 15 else Reg.EMU_SRC 15), ?_⟩,
    ⟨15, w3, ?_⟩,
    ⟨15, w7, ?_⟩,
    ⟨15, w19, ?_⟩,
    ⟨15, w5, ?_⟩,
    ⟨15, w29, ?_⟩,
    ⟨15, w6, ?_⟩,
    ⟨15, w9, 15, ?_⟩,
    ⟨0, emuAt none, 5, ?_⟩,
    ⟨0, emuAt none, 0, ?_⟩,
    ⟨0, 0, emuAt (some prof0), 20, prof0, ?_⟩,
    ⟨0, 0, emuAt (some prof4), 20, prof4, ?_⟩,
    ⟨0, emuAt (some prof4), 0, prof4, ?_⟩,
    ⟨15, w8, ?_⟩⟩ <;> (try simp only [State.Calm, State.PlainSample, State.ClearHatband, State.OneCrossing,
      State.Mild, State.AdmitsCmd, admits_iff, rejects_iff, ok_iff, nak_iff]) <;> decide +kernel

end O36

namespace O37

def hi (v : Int) (s : State) : State := r16 Reg.PSW_HI v s
def w1 : State := r16 Reg.PSW_ENABLE 1 base


/-- States and operands that meet the hypotheses of PositionSwitchesRestartAndChangeSource, clause by clause. -/
theorem wit_PositionSwitchesRestartAndChangeSource :
    (∃ (p : Port) (n : Fin 16) (v : Int) (s : State), s.Calm ∧
      s.Admits p (Reg.PSW_ENABLE n) (dataAt (Reg.PSW_ENABLE n) v) v ∧ s.reg (Reg.PSW_ENABLE n) ≠ v ∧
      s.pswScoped n = false ∧ (v = 0 ∨ s.allSafe = false)) ∧
    (∃ (p : Port) (n : Fin 16) (v : Int) (s : State), s.Calm ∧
      s.Admits p (Reg.PSW_SRC n) (dataAt (Reg.PSW_SRC n) v) v) ∧
    (∃ (n : Fin 16) (s : State) (ch : ChId), s.lanesOn = true ∧ s.flag (Reg.PSW_ENABLE n) = true ∧
      s.reg (Reg.PSW_SRC n) = Int.ofNat ch.val) ∧
    (∃ (lo : Int) (hi : Int) (b : Int) (p : Int), lo ≤ hi ∧ 0 ≤ b ∧ 0 ≤ lo ∧ hi < 2 ^ 24 ∧ 0 ≤ p ∧ p < 2 ^ 24 ∧
      b = 0 ∧ lo < hi) := by
  refine ⟨⟨0, 15, 1, base, ?_⟩,
    ⟨0, 15, 0, base, ?_⟩,
    ⟨15, w1, 15, ?_⟩,
    ⟨0, 1, 0, 0, ?_⟩⟩ <;> (try simp only [State.Calm, State.PlainSample, State.ClearHatband, State.OneCrossing,
      State.Mild, State.AdmitsCmd, admits_iff, rejects_iff, ok_iff, nak_iff]) <;> decide +kernel

end O37

namespace O38

def mtf (f : Tally → Tally) (s : State) : State := { s with tal := s.tal.map f }
def en (s : State) : State := r16 Reg.TAL_ENABLE 1 s
def w6 : State := mtf (fun t => { t with preset := some 0 }) (en base)
def w0 : State := r16 Reg.TAL_IDX_MODE 0 (en base)
def w10 : State := mtf (fun t => { t with hist := [5, 4, 3], a := { level := true }, b := { level := true } }) (r16
  Reg.TAL_FILT 0 (en base))


/-- States and operands that meet the hypotheses of TallySamplesDecodeAndCount, clause by clause. -/
theorem wit_TallySamplesDecodeAndCount :
    (∃ (n : Fin 16) (a : Bool) (b : Bool) (s : State) (d : Decoded), s.Calm ∧ s.alive = true ∧
      s.flag (Reg.TAL_ENABLE n) = true ∧
      d = decodeAb s.tal[n].a.level s.tal[n].b.level (s.tal[n].a.clock (s.regN (Reg.TAL_FILT n)) a).level
      (s.tal[n].b.clock (s.regN (Reg.TAL_FILT n)) b).level (s.flag (Reg.TAL_DIR n)) ∧ s.tal[n].preset.isSome = true) ∧
    (∃ (n : Fin 16) (a : Bool) (b : Bool) (s : State) (d : Decoded), s.Calm ∧ s.alive = true ∧
      s.flag (Reg.TAL_ENABLE n) = true ∧
      d = decodeAb s.tal[n].a.level s.tal[n].b.level (s.tal[n].a.clock (s.regN (Reg.TAL_FILT n)) a).level
      (s.tal[n].b.clock (s.regN (Reg.TAL_FILT n)) b).level (s.flag (Reg.TAL_DIR n)) ∧ d = .none ∧
      s.reg (Reg.TAL_IDX_MODE n) = 0 ∧ s.tal[n].preset = none) ∧
    (∃ (n : Fin 16) (a : Bool) (b : Bool) (s : State) (d : Decoded), s.Calm ∧ s.alive = true ∧
      s.flag (Reg.TAL_ENABLE n) = true ∧
      d = decodeAb s.tal[n].a.level s.tal[n].b.level (s.tal[n].a.clock (s.regN (Reg.TAL_FILT n)) a).level
      (s.tal[n].b.clock (s.regN (Reg.TAL_FILT n)) b).level (s.flag (Reg.TAL_DIR n)) ∧ d = .illegal ∧
      s.bit (Reg.TAL_INVALID_ON n) 0 = true) := by
  refine ⟨⟨15, true, true, w6,
    decodeAb w6.tal[15].a.level w6.tal[15].b.level (w6.tal[15].a.clock (w6.regN (Reg.TAL_FILT 15)) true).level
    (w6.tal[15].b.clock (w6.regN (Reg.TAL_FILT 15)) true).level (w6.flag (Reg.TAL_DIR 15)), ?_⟩,
    ⟨15, true, true, w0, decodeAb w0.tal[15].a.level w0.tal[15].b.level (w0.tal[15].a.clock (w0.regN (Reg.TAL_FILT 15))
      true).level (w0.tal[15].b.clock (w0.regN (Reg.TAL_FILT 15)) true).level (w0.flag (Reg.TAL_DIR 15)), ?_⟩,
    ⟨15, true, true, w10,
      decodeAb w10.tal[15].a.level w10.tal[15].b.level (w10.tal[15].a.clock (w10.regN (Reg.TAL_FILT 15)) true).level
      (w10.tal[15].b.clock (w10.regN (Reg.TAL_FILT 15)) true).level (w10.flag (Reg.TAL_DIR 15)),
      ?_⟩⟩ <;> (try simp only [State.Calm, State.PlainSample, State.ClearHatband, State.OneCrossing, State.Mild,
      State.AdmitsCmd, admits_iff, rejects_iff, ok_iff, nak_iff]) <;> decide +kernel

end O38

namespace O39

def mtf (f : Tally → Tally) (s : State) : State := { s with tal := s.tal.map f }
def en (s : State) : State := r16 Reg.TAL_ENABLE 1 s
def w0 : State := { en base with time := { base.time with wraps := 5 } }
def w3 : State := mtf (fun t => { t with count := 70, fault := true }) (en base)
def w5 : State := r16 Reg.TAL_LIM_HI 5 (r16 Reg.TAL_PRESET_VAL 10 base)
def w2 : State := en base


/-- States and operands that meet the hypotheses of TallyCommandsSetTheCounter, clause by clause. -/
theorem wit_TallyCommandsSetTheCounter :
    (∃ (p : Port) (n : Fin 16) (s : State), s.Calm ∧ s.Admits p (Reg.TAL_ENABLE n) (dataAt (Reg.TAL_ENABLE n) 1) 1 ∧
      s.reg (Reg.TAL_ENABLE n) ≠ 1) ∧
    (∃ (p : Port) (n : Fin 16) (s : State), s.Calm ∧ s.Admits p (Reg.TAL_ENABLE n) (dataAt (Reg.TAL_ENABLE n) 0) 0 ∧
      s.reg (Reg.TAL_ENABLE n) ≠ 0) ∧
    (∃ (p : Port) (n : Fin 16) (lo : Int) (hi : Int) (s : State), s.Calm ∧ -(2 ^ 31) ≤ hi ∧ hi < 2 ^ 31 ∧
      s.Admits p (Reg.TAL_LIM_LO n) (dataAt (Reg.TAL_LIM_LO n) lo) lo ∧ lo < hi ∧ hi < s.tal[n].count) ∧
    (∃ (p : Port) (n : Fin 16) (lo : Int) (hi : Int) (s : State), s.Calm ∧ -(2 ^ 31) ≤ hi ∧ hi < 2 ^ 31 ∧
      s.Admits p (Reg.TAL_LIM_LO n) (dataAt (Reg.TAL_LIM_LO n) lo) lo ∧ lo < hi ∧ s.tal[n].count < lo) ∧
    (∃ (p : Port) (n : Fin 16) (lo : Int) (hi : Int) (s : State), s.Calm ∧ -(2 ^ 31) ≤ hi ∧ hi < 2 ^ 31 ∧
      s.Admits p (Reg.TAL_LIM_LO n) (dataAt (Reg.TAL_LIM_LO n) lo) lo ∧ hi ≤ lo) ∧
    (∃ (p : Port) (n : Fin 16) (s : State), s.Calm ∧ s.AdmitsCmd p (Reg.TAL_PRESET n) ∧
      s.reg (Reg.TAL_LIM_LO n) ≤ s.reg (Reg.TAL_PRESET_VAL n) ∧
      s.reg (Reg.TAL_PRESET_VAL n) ≤ s.reg (Reg.TAL_LIM_HI n)) ∧
    (∃ (p : Port) (n : Fin 16) (s : State), s.Calm ∧ s.AdmitsCmd p (Reg.TAL_PRESET n) ∧
      s.reg (Reg.TAL_LIM_LO n) ≤ s.reg (Reg.TAL_LIM_HI n) ∧
      (s.reg (Reg.TAL_PRESET_VAL n) < s.reg (Reg.TAL_LIM_LO n) ∨ s.reg (Reg.TAL_LIM_HI n) < s.reg (Reg.TAL_PRESET_VAL
      n))) ∧
    (∃ (p : Port) (n : Fin 16) (s : State), s.Calm ∧ s.AdmitsCmd p (Reg.TAL_IDX_PRESET_ARM n)) ∧
    (∃ (p : Port) (n : Fin 16) (s : State), s.Calm ∧ s.AdmitsCmd p (Reg.TAL_RESUME n) ∧
      s.flag (Reg.TAL_ENABLE n) = true ∧ s.tal[n].fault = true) ∧
    (∃ (p : Port) (n : Fin 16) (s : State), s.Calm ∧ s.AdmitsCmd p (Reg.TAL_RESUME n) ∧
      (s.flag (Reg.TAL_ENABLE n) = false ∨ s.tal[n].fault = false)) ∧
    (∃ (n : Fin 16) (s : State), s.Calm ∧ s.alive = true ∧ s.flag (Reg.TAL_ENABLE n) = true ∧
      s.reg (Reg.TAL_SPD_TMO n) * 1000 ≤ s.ext - s.tal[n].edgeExt) ∧
    (∃ (n : Fin 16) (s : State), s.Calm ∧ s.alive = true ∧ s.flag (Reg.TAL_ENABLE n) = true ∧
      s.ext - s.tal[n].edgeExt < s.reg (Reg.TAL_SPD_TMO n) * 1000) := by
  refine ⟨⟨0, 15, base, ?_⟩,
    ⟨0, 15, w0, ?_⟩,
    ⟨0, 15, 0, 1, w3, ?_⟩,
    ⟨0, 15, 1, 50, w0, ?_⟩,
    ⟨0, 15, 0, 0, w0, ?_⟩,
    ⟨0, 15, w0, ?_⟩,
    ⟨0, 15, w5, ?_⟩,
    ⟨0, 15, w0, ?_⟩,
    ⟨0, 15, w3, ?_⟩,
    ⟨0, 15, w0, ?_⟩,
    ⟨15, w0, ?_⟩,
    ⟨15, w2, ?_⟩⟩ <;> (try simp only [State.Calm, State.PlainSample, State.ClearHatband, State.OneCrossing,
      State.Mild, State.AdmitsCmd, admits_iff, rejects_iff, ok_iff, nak_iff]) <;> decide +kernel

end O39

namespace O40

def w0 : State := { base with sup := { base.sup with reset := true } }


/-- States and operands that meet the hypotheses of DeviceSafeEntryReleasesStopsAndHolds, clause by clause. -/
theorem wit_DeviceSafeEntryReleasesStopsAndHolds :
    (∃ (id : SrcId) (s : State), s.Calm ∧ s.railsOn = true ∧ assigned id.val = true ∧ (s.src id).cond = false ∧
      (s.src id).force = false ∧ (s.fltNow id).2.1 = 3 ∧ s.floor.deviceSafe = false ∧ s.sup.reset = true) ∧
    (∃ (id : SrcId) (s : State), s.Calm ∧ s.railsOn = true ∧ assigned id.val = true ∧ (s.src id).cond = false ∧
      (s.src id).force = false ∧ (s.fltNow id).2.1 = 3 ∧ s.floor.deviceSafe = false ∧ s.sup.reset = false ∧
      s.floor.oscLost = false ∧ id.val ≠ 6) := by
  refine ⟨⟨0, w0, ?_⟩,
    ⟨0, base, ?_⟩⟩ <;> (try simp only [State.Calm, State.PlainSample, State.ClearHatband, State.OneCrossing,
      State.Mild, State.AdmitsCmd, admits_iff, rejects_iff, ok_iff, nak_iff]) <;> decide +kernel

end O40

namespace O41

def idl : List Nat := [0, 2, 5, 9, 25, 26, 36, 64, 72, 896, 913, 1029, 1030, 1089]
def ms (f : FSrc → FSrc) (s : State) : State := idl.foldl (fun s i => s.setSrc i (f (s.src i))) s
def ho (s : State) : State := { s with floor := { s.floor with deviceSafe := true } }
def w0 : State := ho (ms (fun x => { x with state := .latched, count := 3 }) base)
def w5 : State := ms (fun x => { x with state := .active, cond := true, count := 3 }) base
def w6 : State := ms (fun x => { x with state := .latched, count := 3 }) base
def w11 : State := idl.foldl (fun s (i : Nat) => s.setReg (Reg.FLT_AUTO_CLEAR i) 1) (ms (fun x =>
  { x with state := .latched, count := 3 }) base)
def w1 : State := ho (idl.foldl (fun s (i : Nat) => s.setReg (Reg.FLT_AUTO_CLEAR i) 1) (ms (fun x =>
  { x with state := .latched, count := 3 }) base))


/-- States and operands that meet the hypotheses of SourcesRaiseLatchAndClear, clause by clause. -/
theorem wit_SourcesRaiseLatchAndClear :
    (∃ (id : SrcId) (s : State), s.Calm ∧ s.railsOn = true ∧ assigned id.val = true ∧ (s.src id).cond = false ∧
      (s.src id).force = false ∧ s.Mild id ∧ id.val ≠ 6) ∧
    (∃ (id : SrcId) (s : State), s.Calm ∧ s.railsOn = true ∧ assigned id.val = true ∧ (s.src id).cond = false ∧
      (s.src id).force = false ∧ s.Mild id ∧ s.sup.reset = false ∧ id.val ≠ 1029) ∧
    (∃ (id : SrcId) (s : State), s.Calm ∧ s.railsOn = true ∧ assigned id.val = true ∧
      ((s.src id).cond = true ∨ (s.src id).force = true) ∧ id.val ≠ 6) ∧
    (∃ (id : SrcId) (s : State), s.Calm ∧ s.railsOn = true ∧ (s.src id).cond = true) ∧
    (∃ (id : SrcId) (s : State), s.Calm ∧ s.railsOn = true ∧ assigned id.val = true ∧ s.floor.oscLost = false) ∧
    (∃ (id : SrcId) (s : State), s.Calm ∧ s.railsOn = true ∧ assigned id.val = true ∧ (s.fltNow 0).2.1 = 3 ∧
      (s.src 0).cond = false ∧ (s.src 0).force = false) ∧
    (∃ (id : SrcId) (s : State), s.Calm ∧ s.railsOn = true ∧ assigned id.val = false) ∧
    (∃ (p : Port) (id : SrcId) (s : State), s.Calm ∧ s.AdmitsCmd p (Reg.FLT_CLEAR id) ∧ (s.src id).state = .latched ∧
      s.clearable id = true ∧ s.holdOutlasts = false) ∧
    (∃ (p : Port) (id : SrcId) (s : State), s.Calm ∧ s.AdmitsCmd p (Reg.FLT_CLEAR id) ∧ (s.src id).state = .latched ∧
      s.clearable id = true ∧ s.holdOutlasts = true) ∧
    (∃ (p : Port) (id : SrcId) (s : State), s.Calm ∧ s.AdmitsCmd p (Reg.FLT_CLEAR id) ∧ (s.src id).state = .idle) ∧
    (∃ (p : Port) (id : SrcId) (s : State), s.Calm ∧ s.AdmitsCmd p (Reg.FLT_CLEAR id) ∧
      ((s.src id).state = .active ∨ ((s.src id).state = .latched ∧ s.clearable id = false))) ∧
    (∃ (p : Port) (s : State), s.Calm ∧ s.AdmitsCmd p Reg.FC_CLEAR_ALL ∧ s.holdOutlasts = false) ∧
    (∃ (p : Port) (s : State), s.Calm ∧ s.AdmitsCmd p Reg.FC_CLEAR_ALL ∧ s.holdOutlasts = true) ∧
    (∃ (id : SrcId) (s : State), s.Calm ∧ s.alive = true ∧ (s.fltNow id).1 = 1 ∧ (s.src id).state = .latched ∧
      s.flag (Reg.FLT_AUTO_CLEAR id) = true ∧ s.holdOutlasts = false) ∧
    (∃ (id : SrcId) (s : State), s.Calm ∧ s.alive = true ∧ (s.fltNow id).1 = 1 ∧ (s.src id).state = .latched ∧
      s.flag (Reg.FLT_AUTO_CLEAR id) = true ∧ s.holdOutlasts = true) ∧
    (∃ (id : SrcId) (s : State), s.Calm ∧ s.alive = true ∧
      ((s.fltNow id).1 ≠ 1 ∨ (s.src id).state ≠ .latched ∨ s.flag (Reg.FLT_AUTO_CLEAR id) = false)) := by
  refine ⟨⟨25, w0, ?_⟩,
    ⟨25, w0, ?_⟩,
    ⟨0, w5, ?_⟩,
    ⟨0, w5, ?_⟩,
    ⟨0, w0, ?_⟩,
    ⟨0, w0, ?_⟩,
    ⟨895, w0, ?_⟩,
    ⟨0, 0, w6, ?_⟩,
    ⟨0, 0, w0, ?_⟩,
    ⟨0, 895, w0, ?_⟩,
    ⟨0, 0, w5, ?_⟩,
    ⟨0, base, ?_⟩,
    ⟨0, w0, ?_⟩,
    ⟨25, w11, ?_⟩,
    ⟨25, w1, ?_⟩,
    ⟨0, w0, ?_⟩⟩ <;> (try simp only [State.Calm, State.PlainSample, State.ClearHatband, State.OneCrossing, State.Mild,
      State.AdmitsCmd, admits_iff, rejects_iff, ok_iff, nak_iff]) <;> decide +kernel

end O41

namespace O42

def idl : List Nat := [0, 2, 5, 9, 25, 26, 36, 64, 72, 896, 913, 1029, 1030, 1089]
def ms (f : FSrc → FSrc) (s : State) : State := idl.foldl (fun s i => s.setSrc i (f (s.src i))) s
def w0 : State := { base with sec := { base.sec with lifecycle := 2 } }
def w4 : State := ms (fun x => { x with state := .active, cond := true, count := 3 }) svc
def w7 : State := ms (fun x => { x with state := .active, force := true }) svc


/-- States and operands that meet the hypotheses of SourceConfigurationForceAndCounters, clause by clause. -/
theorem wit_SourceConfigurationForceAndCounters :
    (∃ (p : Port) (id : SrcId) (o : FltField) (v : Int) (s : State) (k : Key), s.Calm ∧ k = fltKey o id ∧
      s.Admits p k (dataAt k v) v ∧ checkFlt p o id s (overlay s.reg [(k, v)]) k v = .ok () ∧ o = .autoClear) ∧
    (∃ (p : Port) (id : SrcId) (o : FltField) (v : Int) (s : State) (k : Key), s.Calm ∧ k = fltKey o id ∧
      s.Admits p k (dataAt k v) v ∧ checkFlt p o id s (overlay s.reg [(k, v)]) k v = .ok () ∧ o ≠ .autoClear ∧
      (s.src id).state = .idle) ∧
    (∃ (p : Port) (id : SrcId) (o : FltField) (v : Int) (s : State) (k : Key), s.Calm ∧ k = fltKey o id ∧
      s.Admits p k (dataAt k v) v ∧ checkFlt p o id s (overlay s.reg [(k, v)]) k v = .ok () ∧ o ≠ .autoClear ∧
      (s.src id).state ≠ .idle ∧ (s.fltNow id).2.1 < 2 ∧ (s.fltVisible id).2.1 < 2 ∧ (o = .reaction → v < 2)) ∧
    (∃ (p : Port) (id : SrcId) (o : FltField) (v : Int) (s : State) (k : Key), s.Calm ∧ k = fltKey o id ∧
      s.Admits p k (dataAt k v) v ∧ o ≠ .autoClear ∧ fixedSrc id = true) ∧
    (∃ (p : Port) (id : SrcId) (s : State), s.Calm ∧ s.Admits p (Reg.FLT_FORCE id) (dataAt (Reg.FLT_FORCE id) 1) 1 ∧
      assigned id.val = true ∧ s.forceAllowed p = true ∧ s.Mild id ∧ (s.src id).cond = false ∧
      (s.src id).force = false) ∧
    (∃ (p : Port) (id : SrcId) (s : State), s.Calm ∧ s.Admits p (Reg.FLT_FORCE id) (dataAt (Reg.FLT_FORCE id) 1) 1 ∧
      assigned id.val = true ∧ s.forceAllowed p = false) ∧
    (∃ (p : Port) (id : SrcId) (s : State), s.Calm ∧ s.Admits p (Reg.FLT_FORCE id) (dataAt (Reg.FLT_FORCE id) 0) 0 ∧
      assigned id.val = true ∧ (s.src id).state = .active ∧ (s.src id).cond = false) ∧
    (∃ (p : Port) (id : SrcId) (s : State), s.Calm ∧ s.AdmitsCmd p (Reg.FLT_CNT_RESET id)) := by
  refine ⟨⟨0, 0, .autoClear, 0, w0, fltKey (.autoClear : FltField) 0, ?_⟩,
    ⟨0, 9, FltField.cls, 1, w0, fltKey (FltField.cls : FltField) 9, ?_⟩,
    ⟨0, 25, FltField.cls, 0, w4, fltKey (FltField.cls : FltField) 25, ?_⟩,
    ⟨0, 0, FltField.cls, 0, w0, fltKey (FltField.cls : FltField) 0, ?_⟩,
    ⟨0, 25, base, ?_⟩,
    ⟨0, 0, w0, ?_⟩,
    ⟨0, 0, w7, ?_⟩,
    ⟨0, 0, w0, ?_⟩⟩ <;> (try simp only [State.Calm, State.PlainSample, State.ClearHatband, State.OneCrossing,
      State.Mild, State.AdmitsCmd, admits_iff, rejects_iff, ok_iff, nak_iff]) <;> decide +kernel

end O42

namespace O43

def idl : List Nat := [0, 2, 5, 9, 25, 26, 36, 64, 72, 896, 913, 1029, 1030, 1089]
def ms (f : FSrc → FSrc) (s : State) : State := idl.foldl (fun s i => s.setSrc i (f (s.src i))) s
def ff : FirstFault := { id := 36, cls := 1, reaction := 1, rail := false, suspect := false, time := 0, tick := 0 }
def w1 : State := dv .safe base
def w4 : State := { dsafe (ms (fun x => { x with state := .latched, count := 3 }) base) with floor := { base.floor with first := some ff, deviceSafe := true } }


/-- States and operands that meet the hypotheses of CollectorReinitRearmAndSelfTest, clause by clause. -/
theorem wit_CollectorReinitRearmAndSelfTest :
    (∃ (p : Port) (s : State), s.Calm ∧ s.AdmitsCmd p Reg.FC_REINIT ∧ s.dev.state = .safe) ∧
    (∃ (p : Port) (s : State), s.Calm ∧ s.AdmitsCmd p Reg.FC_REINIT ∧ s.dev.state ≠ .safe) ∧
    (∃ (p : Port) (s : State), s.Calm ∧ s.AdmitsCmd p Reg.FC_FLOOR_REARM ∧
      (s.floor.first.all fun x => (s.src x.id).state = .idle) = true) ∧
    (∃ (p : Port) (s : State), s.Calm ∧ s.AdmitsCmd p Reg.FC_FLOOR_REARM ∧
      (s.floor.first.all fun x => (s.src x.id).state = .idle) = false) ∧
    (∃ (s : State), s.Calm ∧ s.alive = true ∧ (s.src 2).cond = false ∧ (s.src 2).force = false ∧
      (s.fltNow 2).2.1 = 3) := by
  refine ⟨⟨0, w1, ?_⟩,
    ⟨0, base, ?_⟩,
    ⟨0, base, ?_⟩,
    ⟨0, w4, ?_⟩,
    ⟨base, ?_⟩⟩ <;> (try simp only [State.Calm, State.PlainSample, State.ClearHatband, State.OneCrossing, State.Mild,
      State.AdmitsCmd, admits_iff, rejects_iff, ok_iff, nak_iff]) <;> decide +kernel

end O43

namespace O44

def mg (f : Mgmt → Mgmt) (s : State) : State := { s with mgmt := f s.mgmt }
def w0 : State := mg (fun m => { m with due := some .watchdog }) runS
def w2 : State := (mg (fun m => { m with recent := [100] }) { runS with now := 1000 }).setSrc 26 { state := .latched }
def w11 : State := mg (fun m => { m with restarting := true, reason := 1 }) runS
def w1 : State := { mg (fun m => { m with restarting := true }) runS with sets := runS.sets.map fun x => { x with calibrated := true } }


/-- States and operands that meet the hypotheses of ManagementRestartsAreCountedAndTheHardwareGoesOn, clause by clause. -/
theorem wit_ManagementRestartsAreCountedAndTheHardwareGoesOn :
    (∃ (s : State), s.Calm ∧ s.oscOn = true ∧ s.sup.reset = false ∧ s.tap.halted = false ∧ s.upd.state ≠ .trial ∧
      s.restartSpaced = false) ∧
    (∃ (s : State), s.Calm ∧ s.oscOn = true ∧ s.sup.reset = false ∧ s.tap.halted = false ∧ s.upd.state ≠ .trial ∧
      s.restartSpaced = true) ∧
    (∃ (s : State), s.Calm ∧ s.alive = true ∧ s.restartSpaced = true) ∧
    (∃ (r : RestartReason) (s : State), s.Calm ∧ s.alive = true ∧ (s.mgmt.due ≠ some r ∨ s.restartSpaced = true)) ∧
    (∃ (s : State), s.Calm ∧ s.alive = true ∧ s.restartSpaced = false ∧ s.upd.state ≠ .trial ∧
      s.mgmt.due = some .watchdog) ∧
    (∃ (s : State), s.Calm ∧ s.alive = true ∧ s.mgmt.restarting = true ∧ s.beadsDiffer = false) ∧
    (∃ (s : State), s.Calm ∧ s.alive = true ∧ s.mgmt.restarting = true ∧ s.beadsDiffer = true ∧ s.updWaits = false ∧
      s.sched[mramDomain].running = none ∧ s.sched[mramDomain].pending ≠ some .beadCommit) := by
  refine ⟨⟨w0, ?_⟩,
    ⟨w2, ?_⟩,
    ⟨w2, ?_⟩,
    ⟨RestartReason.lockstep, w0, ?_⟩,
    ⟨w0, ?_⟩,
    ⟨w11, ?_⟩,
    ⟨w1, ?_⟩⟩ <;> (try simp only [State.Calm, State.PlainSample, State.ClearHatband, State.OneCrossing, State.Mild,
      State.AdmitsCmd, admits_iff, rejects_iff, ok_iff, nak_iff]) <;> decide +kernel

end O44

namespace O45

def up0 (s : State) : State := s.modLnk 0 fun l => {l with state := .up}
def w2 : State := up0 base


/-- States and operands that meet the hypotheses of SeatModeGridAndLinksFollowTheirCommands, clause by clause. -/
theorem wit_SeatModeGridAndLinksFollowTheirCommands :
    (∃ (p : Port) (v : Int) (s : State), s.Calm ∧ s.Admits p Reg.RED_MODE (dataAt Reg.RED_MODE v) v ∧ s.Mild 896 ∧
      s.Mild 897) ∧
    (∃ (p : Port) (first : Bool) (v : Int) (s : State) (k : Key), s.Calm ∧
      k = (if first then Reg.RED_CYCLE_FIRST else Reg.RED_CYCLE) ∧ s.Admits p k (dataAt k v) v) ∧
    (∃ (k : Fin 2) (s : State), s.Calm ∧ s.alive = true ∧ s.lnk[k].state ≠ .up) ∧
    (∃ (k : Fin 2) (s : State), s.Calm ∧ s.alive = true ∧ s.lnk[k].state ≠ .down ∧ s.Mild 896 ∧ s.Mild 897) := by
  refine ⟨⟨0, 0, base, ?_⟩,
    ⟨0, true, 0, base, (if true then Reg.RED_CYCLE_FIRST else Reg.RED_CYCLE), ?_⟩,
    ⟨1, base, ?_⟩,
    ⟨0, w2, ?_⟩⟩ <;> (try simp only [State.Calm, State.PlainSample, State.ClearHatband, State.OneCrossing, State.Mild,
      State.AdmitsCmd, admits_iff, rejects_iff, ok_iff, nak_iff]) <;> decide +kernel

end O45

namespace O46

def ups (s : State) : State := { s with lnk := s.lnk.map fun l => {l with state := .up} }
def quietS : State := { ups base with sup := { base.sup with power := .quiet }, red := { base.red with latchNo := 1 } }
def mRec (f1 f2 : Nat) : Bytes :=
  padTo 1020 ([1#8] ++ leBytes 1 f1 ++ leBytes 1 f2) ++ leBytes 4 (crc32 (padTo 1020 ([1#8] ++ leBytes 1 f1 ++ leBytes
  1 f2))).toNat
def copy0 : State := { ups runS with pt := runS.pt.map fun x => {x with record := some (mRec 0 0), present := true}}
def copyS : State := copy0.setReg Reg.RED_LNK1_MODE 1
def rk (k : Key) (v : Int) (s : State) : State := s.setReg k v
def tk (x : ChState) (s : State) : State :=
  { s with ch := s.ch.map fun c => { c with state := x, loop := { c.loop with th := 0x12345678, carry := 3, w := 12345678, i := -345 }, out := { c.out with pos := 5000 } } }
def vt : State := rk Reg.RED_VOTE_MASK 0xFFFF (rk Reg.RED_ALIGN_MASK 0xFFFF (tk .track
  { ups runS with red := { runS.red with seat := 1 } }))
def al : State := { tk .track runS with front := runS.front.map fun f => { f with align := some (123456789, 1, -5, 1) } }
def w6 : State := ups base

theorem mrec_ok0 : recordOk (mRec 0 0) = true := by
  unfold mRec
  exact recordOk_of_body _ (by decide +kernel) (by decide +kernel)
theorem mrec_ok1 : recordOk (mRec 0x80 0) = true := by
  unfold mRec
  exact recordOk_of_body _ (by decide +kernel) (by decide +kernel)
theorem mrec_ok2 : recordOk (mRec 0 0x80) = true := by
  unfold mRec
  exact recordOk_of_body _ (by decide +kernel) (by decide +kernel)

/-- States and operands that meet the hypotheses of RecordsAreLatchedTakenInAndMissed, clause by clause. -/
theorem wit_RecordsAreLatchedTakenInAndMissed :
    (∃ (s : State), s.Calm ∧ s.alive = true ∧ s.sup.booted = true ∧ reached s.timeNow s.red.nextLatch = true ∧
      s.recordDue = false) ∧
    (∃ (s : State), s.Calm ∧ s.alive = true ∧ s.sup.booted = true ∧ reached s.timeNow s.red.nextLatch = true ∧
      s.recordDue = true ∧ s.sup.power ≠ .quiet) ∧
    (∃ (s : State), s.Calm ∧ s.alive = true ∧ s.sup.booted = true ∧ (s.red.state = .standby ∨ s.red.state = .backoff)) ∧
    (∃ (k : Fin 2) (bytes : Bytes) (s : State), s.Calm ∧ s.alive = true ∧ s.lnk[k].state = .up ∧
      recordOk bytes = false ∧ s.Mild (898 + k.val)) ∧
    (∃ (k : Fin 2) (bytes : Bytes) (s : State) (q : Fin 2), s.Calm ∧ s.alive = true ∧ s.lnk[k].state = .up ∧
      recordOk bytes = true ∧ s.linkPartner k = some q ∧ s.isCopy q bytes = true) ∧
    (∃ (k : Fin 2) (bytes : Bytes) (s : State) (q : Fin 2), s.Calm ∧ s.alive = true ∧ s.lnk[k].state = .up ∧
      recordOk bytes = true ∧ s.linkPartner k = some q ∧ s.isCopy q bytes = false ∧ fieldB bytes 1 1 % 4 = s.seatNo ∧
      (s.fltNow 908).2.1 = 3 ∧ (s.src 908).cond = false ∧ (s.src 908).force = false) ∧
    (∃ (k : Fin 2) (bytes : Bytes) (s : State) (q : Fin 2), s.Calm ∧ s.alive = true ∧ s.lnk[k].state = .up ∧
      recordOk bytes = true ∧ s.linkPartner k = some q ∧ s.isCopy q bytes = false ∧ fieldB bytes 1 1 % 4 ≠ s.seatNo ∧
      s.Mild 900 ∧ s.Mild 910 ∧ s.Mild 912 ∧ s.Mild (903 + q.val) ∧ s.Mild (905 + q.val) ∧
      (∀ n : ChId, s.Mild (chSrc n 19)) ∧ recErr bytes = true) ∧
    (∃ (k : Fin 2) (bytes : Bytes) (s : State) (q : Fin 2), s.Calm ∧ s.alive = true ∧ s.lnk[k].state = .up ∧
      recordOk bytes = true ∧ s.linkPartner k = some q ∧ s.isCopy q bytes = false ∧ fieldB bytes 1 1 % 4 ≠ s.seatNo ∧
      s.Mild 900 ∧ s.Mild 910 ∧ s.Mild 912 ∧ s.Mild (903 + q.val) ∧ s.Mild (905 + q.val) ∧
      (∀ n : ChId, s.Mild (chSrc n 19)) ∧ recErr bytes = false ∧ recActive bytes = false) ∧
    (∃ (n : ChId) (s : State) (target : Int) (homed : Int) (ofs : Int) (q : Fin 2) (c : Int), s.lanesOn = true ∧
      s.ch[n].state = .track ∧ s.front[n].homePort = none ∧ s.front[n].align = some (target, homed, ofs, q) ∧
      c = wrapS 16 (nearestTurn (Int.ofNat (s.ch[n].loop.th.toNat / 256)) target)) ∧
    (∃ (q : Fin 2) (s : State), s.Calm ∧ s.alive = true ∧ s.sup.booted = true ∧ s.hasPartner q = true ∧
      s.Mild (901 + q.val)) := by
  refine ⟨⟨quietS, ?_⟩,
    ⟨vt, ?_⟩,
    ⟨vt, ?_⟩,
    ⟨1, [0x01#8], vt, ?_⟩,
    ⟨1, mRec 0 0, copyS, 0, ?_⟩,
    ⟨0, mRec 0 0, w6, 0, ?_⟩,
    ⟨0, mRec 0 0x80, vt, 0, ?_⟩,
    ⟨0, mRec 0 0, vt, 0, ?_⟩,
    ⟨15, al, 123456789, 1, -5, 1, wrapS 16 (nearestTurn (Int.ofNat (al.ch[15].loop.th.toNat / 256)) 123456789), ?_⟩,
    ⟨0, vt, ?_⟩⟩ <;> (try simp only [State.Calm, State.PlainSample, State.ClearHatband, State.OneCrossing, State.Mild,
      State.AdmitsCmd, admits_iff, rejects_iff, ok_iff, nak_iff, mrec_ok0, mrec_ok1, mrec_ok2]) <;> decide +kernel

end O46

namespace O47

def mk (st : SeatState) (line cl : Bool) : State := { runS with
  red := { runS.red with state := st, attempt := true, seat := 1 },
    pt := runS.pt.map fun x => {x with line := line, claimed := cl } }
def w0 : State := State.reset
def w4 : State := {mk .arbitrate false false with red := {(mk .arbitrate false false).red with step3 := true}}
def w3 : State := mk .arbitrate false false
def w5 : State := mk .guard true false


/-- States and operands that meet the hypotheses of PartnerLinesGiveClaimsAndEvidence, clause by clause. -/
theorem wit_PartnerLinesGiveClaimsAndEvidence :
    (∃ (q : Fin 2) (s : State), s.Calm ∧ (s.alive = false ∨ s.hasPartner q = false)) ∧
    (∃ (q : Fin 2) (s : State), s.Calm ∧ s.alive = true ∧ s.hasPartner q = true ∧ s.red.state ≠ .arbitrate) ∧
    (∃ (q : Fin 2) (s : State), s.Calm ∧ s.alive = true ∧ s.hasPartner q = true ∧ s.red.state = .arbitrate ∧
      s.red.step3 = true) ∧
    (∃ (q : Fin 2) (s : State), s.Calm ∧ s.alive = true ∧ s.hasPartner q = true ∧ s.red.state = .arbitrate ∧
      s.red.step3 = false) ∧
    (∃ (q : Fin 2) (s : State), s.Calm ∧ s.alive = true ∧ s.hasPartner q = true ∧ s.pt[q].line = true ∧
      s.pt[q].claimed = false ∧ (s.attempting = true → s.red.attempt = true → s.Mild 913)) := by
  refine ⟨⟨1, w0, ?_⟩,
    ⟨0, base, ?_⟩,
    ⟨0, w4, ?_⟩,
    ⟨0, w3, ?_⟩,
    ⟨0, w5, ?_⟩⟩ <;> (try simp only [State.Calm, State.PlainSample, State.ClearHatband, State.OneCrossing, State.Mild,
      State.AdmitsCmd, admits_iff, rejects_iff, ok_iff, nak_iff]) <;> decide +kernel

end O47

namespace O48

def tested : State :=
  { runS with floor := {testOk := true}, ch := runS.ch.map fun c => {c with state := .track, inj := {c.inj with state := .running}} }
def fed : State := (((tested.setReg (Reg.PSW_ENABLE 0) 1)).setReg (Reg.PSW_SRC 0) 0).setReg Reg.RED_CRIT_MASK 0
def rel (s : State) : State := { s with pt := s.pt.map fun x => { x with e2 := some 5, origin := 0 } }
def st (s : State) (q : SeatState) : State := { s with red := { s.red with state := q, attempt := q ≠ .standby } }
def el : State := {runS with floor := {testOk := true}}
def elo : State := {el with pt := el.pt.map fun x => {x with okin := true}}
def cl (s : State) : State := { s with pt := s.pt.map fun x => { x with claimed := true, line := true} }
def s3 (s : State) : State := { s with red := {s.red with step3 := true, former := some 0}}
def sh (s : State) : State := { s with red := {s.red with sawHigher := true}}
def fp : State := { fed with ch := fed.ch.map fun c => { c with inj := { c.inj with state := .pending } } }
def bt : Bytes := State.buildRecord { runS with emu := runS.emu.map fun e => { e with c := 77777 } } 0 20000 true
def tk (s : State) : State :=
  let s := (List.range 16).foldl (fun s n => (s.setReg (Reg.EMU_ENABLE n) 1).setReg (Reg.EMU_SEAT_GATE n) 1) s
  let s := s.setReg Reg.RED_ALIGN_MASK 0xFFFF
  { s with emu := s.emu.map (fun e => { e with started := true, c := 500, ct := 501, valid := true }), pt := s.pt.map (fun x => { x with good := some bt }), red := { s.red with targets := [(0, [1,2,3,4]), (20000, [5])] } }
def w9 : State := st (cl el) .guard
def w8 : State := st el .guard
def w7 : State := st fed .guard
def w13 : State := st (cl el) .arbitrate
def w22 : State := sh (st el .arbitrate)
def w11 : State := st fed .arbitrate
def w2 : State := tk (s3 (rel (st el .arbitrate)))
def w1 : State := tk (s3 (st elo .arbitrate))
def w17 : State := st (cl el) .backoff
def w15 : State := st fed .backoff


/-- States and operands that meet the hypotheses of ClaimSequencerMovesThroughItsStates, clause by clause. -/
theorem wit_ClaimSequencerMovesThroughItsStates :
    (∃ (s : State), s.Calm ∧ s.alive = true ∧ s.red.state = .standby ∧ s.eligible = true ∧ s.anyClaimed = false) ∧
    (∃ (s : State), s.Calm ∧ s.alive = true ∧ s.red.state = .standby ∧ (s.eligible = false ∨ s.anyClaimed = true)) ∧
    (∃ (s : State), s.Calm ∧ s.alive = true ∧ s.red.state = .guard ∧ (s.eligible = false ∨ s.anyClaimed = true) ∧
      (s.red.attempt = true → s.Mild 913) ∧ s.red.attempt = true) ∧
    (∃ (s : State), s.Calm ∧ s.alive = true ∧ s.red.state = .guard ∧ s.eligible = true ∧ s.anyClaimed = false ∧
      (s.pathClear && !s.testsLeft) = true) ∧
    (∃ (s : State), s.Calm ∧ s.alive = true ∧ s.red.state = .guard ∧ s.eligible = true ∧ s.anyClaimed = false ∧
      (s.pathClear && !s.testsLeft) = false) ∧
    (∃ (s : State), s.Calm ∧ s.alive = true ∧ s.red.state = .arbitrate ∧ s.red.step3 = false ∧
      (s.eligible = false ∨ s.anyClaimed = true ∨ (s.partners.any fun q => s.pt[q].line) = true) ∧
      (s.red.attempt = true → s.Mild 913)) ∧
    (∃ (s : State), s.Calm ∧ s.alive = true ∧ s.red.state = .arbitrate ∧ s.red.step3 = false ∧ s.eligible = true ∧
      s.anyClaimed = false ∧ (s.partners.any fun q => s.pt[q].line) = false ∧ s.red.sawHigher = true) ∧
    (∃ (s : State), s.Calm ∧ s.alive = true ∧ s.red.state = .arbitrate ∧ s.red.step3 = false ∧ s.eligible = true ∧
      s.anyClaimed = false ∧ (s.partners.any fun q => s.pt[q].line) = false ∧ s.red.sawHigher = false) ∧
    (∃ (s : State), s.Calm ∧ s.alive = true ∧ s.red.state = .arbitrate ∧ s.red.step3 = true ∧ s.eligible = true ∧
      s.anyClaimed = false ∧ s.pathClear = true ∧ s.Mild 914) ∧
    (∃ (s : State), s.Calm ∧ s.alive = true ∧ s.red.state = .arbitrate ∧ s.red.step3 = true ∧ s.eligible = true ∧
      s.anyClaimed = false ∧ s.pathClear = false) ∧
    (∃ (s : State), s.Calm ∧ s.alive = true ∧ s.red.state = .backoff ∧ (s.eligible = false ∨ s.anyClaimed = true) ∧
      (s.red.attempt = true → s.Mild 913)) ∧
    (∃ (s : State), s.Calm ∧ s.alive = true ∧ s.red.state = .backoff ∧ s.eligible = true ∧ s.anyClaimed = false) := by
  refine ⟨⟨fp, ?_⟩,
    ⟨base, ?_⟩,
    ⟨w9, ?_⟩,
    ⟨w8, ?_⟩,
    ⟨w7, ?_⟩,
    ⟨w13, ?_⟩,
    ⟨w22, ?_⟩,
    ⟨w11, ?_⟩,
    ⟨w2, ?_⟩,
    ⟨w1, ?_⟩,
    ⟨w17, ?_⟩,
    ⟨w15, ?_⟩⟩ <;> (try simp only [State.Calm, State.PlainSample, State.ClearHatband, State.OneCrossing, State.Mild,
      State.AdmitsCmd, admits_iff, rejects_iff, ok_iff, nak_iff]) <;> decide +kernel

end O48

namespace O49

def el : State := {runS with floor := {testOk := true}, lnk := runS.lnk.map fun l => {l with state := .up}}
def st (s : State) (q : SeatState) : State :=
  { s with red := { s.red with state := q, attempt := q ≠ .standby, clmOut := q = .active } }
def arm (s : State) : State := { s with red := { s.red with armed := true}}
def w3 : State := st base .active
def w4 : State := st base .guard
def w2 : State := st el .active
def w13 : State := arm {el with floor := {}}


/-- States and operands that meet the hypotheses of ClaimsAreReleasedYieldedAndMissed, clause by clause. -/
theorem wit_ClaimsAreReleasedYieldedAndMissed :
    (∃ (s : State), s.Calm ∧ s.floorOn = true ∧ s.eligible = false ∧ s.isActive = true) ∧
    (∃ (s : State), s.Calm ∧ s.alive = true ∧ s.eligible = false ∧ s.attempting = true ∧
      (s.red.attempt = true → s.Mild 913)) ∧
    (∃ (s : State), s.Calm ∧ s.eligible = true) ∧
    (∃ (p : Port) (s : State), s.Calm ∧ s.AdmitsCmd p Reg.RED_CLAIM) ∧
    (∃ (p : Port) (s : State), s.Calm ∧ s.AdmitsCmd p Reg.RED_RELEASE ∧ (s.red.attempt = true → s.Mild 913) ∧
      s.isActive = true) ∧
    (∃ (s : State), s.Calm ∧ s.alive = true ∧ s.dev.state = .run ∧ s.red.armed = true ∧ s.isActive = false ∧
      s.eligible = false ∧ (s.fltNow 909).2.1 = 3 ∧ (s.src 909).cond = false ∧ (s.src 909).force = false ∧
      s.floor.deviceSafe = false ∧
      (s.partners.any fun q => (s.lineTrusted q && s.pt[q].claimed) || s.seesActive q) = false) ∧
    (∃ (s : State), s.Calm ∧ s.alive = true ∧ s.dev.state = .run ∧
      (s.red.armed = false ∨ s.isActive = true ∨ (s.partners.any fun q => (s.lineTrusted q && s.pt[q].claimed) ||
      s.seesActive q) = true)) ∧
    (∃ (q : Fin 16) (s : State) (out : List Desc), s.Calm ∧ s.alive = true ∧ s.Mild 911 ∧
      out = (if s.tq[q].sending then s.tq[q].descs.drop 1 else s.tq[q].descs).filter s.pastWindow ∧ out = []) := by
  refine ⟨⟨w3, ?_⟩,
    ⟨w4, ?_⟩,
    ⟨el, ?_⟩,
    ⟨0, el, ?_⟩,
    ⟨0, w2, ?_⟩,
    ⟨w13, ?_⟩,
    ⟨el, ?_⟩,
    ⟨15, el, (if el.tq[15].sending then el.tq[15].descs.drop 1 else el.tq[15].descs).filter el.pastWindow,
      ?_⟩⟩ <;> (try simp only [State.Calm, State.PlainSample, State.ClearHatband, State.OneCrossing, State.Mild,
      State.AdmitsCmd, admits_iff, rejects_iff, ok_iff, nak_iff]) <;> decide +kernel

end O49

namespace O50

def kC : Key := 0x201401
def withG (g : List Entry) (s : State) : State := s.modPort 0 fun x => { x with group := g }
def gp (e : List Entry) (all : Bool) (due : Nat) : Group :=
  { port := 0, tag := 3, entries := e, due := BitVec.ofNat 32 due, all := all, no := 0 }
def seal1 (g : Group) (r : Route) : State := { base with grp := { sealed := [(g, r)] } }
def tim (g : Group) : State := { base with grp := { timed := [g] } }
def w2 : State := withG [(kC, 1)] base
def w4 : State := withG ((List.range 64).map fun i => (i, 0)) base
def w10 : State := { seal1 (gp [(kC, 1)] false 0) .none with ch := base.ch.map fun c => { c with swap := .sample 0 } }
def w7 : State := seal1 (gp [(kC, 1)] false 0) .none
def w17 : State := tim (gp [(kC, 9999999)] false 0)
def w9 : State := tim (gp [(kC, 1)] false 0)

theorem plain_late (p : Port) (v : Int) : plainAt p (keyOf 0x1500#16 2#8) v :=
  plainAt_of_plainKey _ _ _ (by decide +kernel)

theorem plain_group : plainEntries 0 [(2102273, 1)] := plainEntries_of_plainKey _ _ (by decide) (by decide +kernel)

/-- States and operands that meet the hypotheses of WritesGroupsAndFencesTakeEffectTogether, clause by clause. -/
theorem wit_WritesGroupsAndFencesTakeEffectTogether :
    (∃ (p : Port) (index : BitVec 16) (sub : Byte) (data : Bytes) (v : Int) (k : Key) (s : State), s.Calm ∧
      k = keyOf index sub ∧ s.Admits p k data v ∧ (findObj k).map (·.acc) = some .rws ∧
      ownCheck p (s.beat p) (overlay s.reg [(k, v)]) k v = .ok () ∧ plainAt p k v ∧ k ≠ Reg.CFG_GEN) ∧
    (∃ n, ∃ (p : Port) (index : BitVec 16) (sub : Byte) (data : Bytes) (v : Int) (k : Key) (s : State), s.Calm ∧
      k = keyOf index sub ∧ s.Admits p k data v ∧ (findObj k).map (·.acc) = some .rws ∧
      ownCheck p (s.beat p) (overlay s.reg [(k, v)]) k v = .error n ∧ n ≠ nakSched ∧ n ≠ nakRole) ∧
    (∃ (p : Port) (index : BitVec 16) (sub : Byte) (data : Bytes) (v : Int) (k : Key) (s : State), s.Calm ∧
      k = keyOf index sub ∧ s.Admits p k data v ∧ (findObj k).map (·.acc) = some .rwf ∧
      ((s.port[p].group.any fun e => e.1 = k) = true ∨ s.groupFull p = false)) ∧
    (∃ (p : Port) (index : BitVec 16) (sub : Byte) (data : Bytes) (v : Int) (k : Key) (s : State), s.Calm ∧
      k = keyOf index sub ∧ s.Admits p k data v ∧ (findObj k).map (·.acc) = some .rwf ∧
      (s.port[p].group.any fun e => e.1 = k) = false ∧ s.groupFull p = true) ∧
    (∃ (p : Port) (v : Int) (s : State), s.Calm ∧ s.Admits p Reg.DIAG_COUNT (dataAt Reg.DIAG_COUNT v) v ∧ v = 0) ∧
    (∃ (p : Port) (v : Int) (s : State), s.Calm ∧ s.Admits p Reg.DIAG_COUNT (dataAt Reg.DIAG_COUNT v) v ∧ v ≠ 0) ∧
    (∃ (p : Port) (v : BitVec 32) (s : State), s.Calm ∧
      s.Admits p Reg.FENCE_LOCAL (leBytes 4 v.toNat) (Int.ofNat v.toNat)) ∧
    (∃ (p : Port) (v : BitVec 32) (s : State), s.Calm ∧
      s.Admits p Reg.FENCE_GLOBAL (leBytes 4 v.toNat) (Int.ofNat v.toNat)) ∧
    (∃ (p : Port) (v : BitVec 64) (s : State), s.Calm ∧
      s.Admits p Reg.FENCE_AT (leBytes 8 v.toNat) (Int.ofNat v.toNat)) ∧
    (∃ (p : Port) (g : Group) (r : Route) (s : State), s.Calm ∧ s.alive = true ∧
      (s.grp.sealed.find? fun x => x.1.port = p) = some (g, r) ∧ s.groupReady g = false) ∧
    (∃ (p : Port) (g : Group) (r : Route) (s : State), s.Calm ∧ s.alive = true ∧
      (s.grp.sealed.find? fun x => x.1.port = p) = some (g, r) ∧ s.groupReady g = true ∧
      (g.all = true → s.grp.held = []) ∧ r = .none ∧ plainEntries p g.entries ∧ g.port = p) ∧
    (∃ (g : Group) (s : State) (k : Key) (n : _), s.Calm ∧ s.alive = true ∧
      (s.grp.timed.find? fun x => reached s.timeNow x.due) = some g ∧
      (s.modGrp fun x => { x with timed := x.timed.erase g }).groupFault g.port g.entries = some (k, n) ∧ s.Mild 1024) ∧
    (∃ (g : Group) (s : State), s.Calm ∧ s.alive = true ∧
      (s.grp.timed.find? fun x => reached s.timeNow x.due) = some g ∧
      (s.modGrp fun x => { x with timed := x.timed.erase g }).groupFault g.port g.entries = none ∧
      plainEntries g.port g.entries) ∧
    (∃ (s : State), s.Calm ∧ s.alive = true ∧ (s.grp.timed.any fun x => reached s.timeNow x.due) = false) := by
  refine ⟨⟨0, 0x1500#16, 2#8, [1#8], 1, keyOf 0x1500#16 2#8, base, ?_⟩,
    ⟨nakRange, 0, 0x1210#16, 3#8, leBytes 4 777777, 777777, keyOf 0x1210#16 3#8, base, ?_⟩,
    ⟨0, 0x2014#16, 1#8, [1#8], 1, keyOf 0x2014#16 1#8, w2, ?_⟩,
    ⟨0, 0x2014#16, 1#8, [1#8], 1, keyOf 0x2014#16 1#8, w4, ?_⟩,
    ⟨0, 0, base, ?_⟩,
    ⟨0, 1, base, ?_⟩,
    ⟨0, 0x0000ffff#32, base, ?_⟩,
    ⟨0, 0x0000ffff#32, base, ?_⟩,
    ⟨0, 0x000000000000ffff#64, base, ?_⟩,
    ⟨0, { port := 0, tag := 0x0003#16, entries := [(2102273, 1)], due := 0x00000000#32, all := false, no := 0 },
      Route.none, w10, ?_⟩,
    ⟨0, { port := 0, tag := 0x0003#16, entries := [(2102273, 1)], due := 0x00000000#32, all := false, no := 0 },
      Route.none, w7, ?_⟩,
    ⟨{ port := 0, tag := 0x0003#16, entries := [(2102273, 9999999)], due := 0x00000000#32, all := false, no := 0 },
      w17, 2102273, { abort := 101253168, detail := 10 }, ?_⟩,
    ⟨{ port := 0, tag := 0x0003#16, entries := [(2102273, 1)], due := 0x00000000#32, all := false, no := 0 }, w9, ?_⟩,
    ⟨base, ?_⟩⟩ <;> (try simp only [State.Calm, State.PlainSample, State.ClearHatband, State.OneCrossing, State.Mild,
      State.AdmitsCmd, admits_iff, rejects_iff, ok_iff, nak_iff, plain_late, plain_group]) <;> decide +kernel

end O50

namespace O51

def hb0 (g : List Entry) : State := { base with port := base.port.map fun x => { x with hb := .alive, group := g } }
def hbS (g : List Entry) : State := ((hb0 g).setReg (Reg.PORT_HB_TMO 0) 5).setReg (Reg.PORT_HB_TMO 2) 5
def gp : Group := { port := 0, tag := 3, entries := [(0x201401, 1)], due := 100000, all := false, no := 0 }
def timS : State := { base with grp := { timed := [gp, { gp with port := 2 }] }, port := base.port.map fun x => { x with hb := .alive } }
def fat (s : State) : State := s.setSrc 5 { state := .latched }
def safeS : State :=
  { base with dev := { base.dev with state := .safe }, floor := { testOk := true, deviceSafe := true }, red := { base.red with state := .safe } }
def safeX : State := { safeS with exc := safeS.exc.map fun x => { x with state := .held } }
def boot : State := { State.reset with sup := { reset := false, pll := true }, mgmt := { service := true }, sec := { lifecycle := 1 } }
def bootR : State := { boot with sec := { lifecycle := 3 } }
def att : State := ({ runS with red := { runS.red with state := .guard, attempt := true } }.setReg (Reg.FLT_REACTION
  913) 3).setReg (Reg.FLT_CLASS 913) 2
def actR : State := { runS with red := { runS.red with state := .active, clmOut := true } }
def w10 : State := hbS []
def w11 : State := hbS [(0x201401, 1)]
def w13 : State := fat base
def w14 : State := fat safeS


/-- States and operands that meet the hypotheses of PortsAndDeviceStatesFollowTheirCommands, clause by clause. -/
theorem wit_PortsAndDeviceStatesFollowTheirCommands :
    (∃ (p : Port) (q : Port) (s : State), s.Calm ∧ s.AdmitsCmd p (Reg.PORT_HEARTBEAT q)) ∧
    (∃ (q : Port) (s : State), s.Calm ∧ s.alive = true ∧ s.mgmt.restarting = false ∧ s.port[q].hb = .alive ∧
      s.reg (Reg.PORT_HB_TMO q) ≠ 0 ∧ s.port[q].group = []) ∧
    (∃ (q : Port) (s : State), s.Calm ∧ s.alive = true ∧ s.mgmt.restarting = false ∧ s.port[q].hb = .alive ∧
      s.reg (Reg.PORT_HB_TMO q) ≠ 0 ∧ s.port[q].group ≠ []) ∧
    (∃ (p : Port) (q : Port) (s : State), s.Calm ∧ s.AdmitsCmd p (Reg.GRP_DISCARD q) ∧ s.port[q].group = []) ∧
    (∃ (p : Port) (q : Port) (s : State), s.Calm ∧ s.AdmitsCmd p (Reg.GRP_DISCARD q) ∧ s.port[q].group ≠ []) ∧
    (∃ (p : Port) (q : Port) (s : State), s.Calm ∧ s.AdmitsCmd p (Reg.GRP_TIMED_CANCEL q) ∧
      (s.grp.timed.any fun g => g.port = q) = true) ∧
    (∃ (p : Port) (q : Port) (s : State), s.Calm ∧ s.AdmitsCmd p (Reg.GRP_TIMED_CANCEL q) ∧
      (s.grp.timed.any fun g => g.port = q) = false) ∧
    (∃ (p : Port) (s : State), s.Calm ∧ (s.red.attempt = true → s.Mild 913) ∧ (∀ n : ChId, s.Mild (chSrc n 16)) ∧
      s.Admits p Reg.DEV_STATE_CMD (dataAt Reg.DEV_STATE_CMD 2) 2 ∧ s.dev.state = .run) ∧
    (∃ (p : Port) (s : State), s.Calm ∧ (s.red.attempt = true → s.Mild 913) ∧ (∀ n : ChId, s.Mild (chSrc n 16)) ∧
      s.Admits p Reg.DEV_STATE_CMD (dataAt Reg.DEV_STATE_CMD 2) 2 ∧ s.dev.state ≠ .run ∧
      (!s.fatal && !s.seatMismatch && s.sup.power = .run) = true) ∧
    (∃ (p : Port) (s : State), s.Calm ∧ (s.red.attempt = true → s.Mild 913) ∧ (∀ n : ChId, s.Mild (chSrc n 16)) ∧
      s.Admits p Reg.DEV_STATE_CMD (dataAt Reg.DEV_STATE_CMD 2) 2 ∧ s.dev.state ≠ .run ∧
      (!s.fatal && !s.seatMismatch && s.sup.power = .run) = false) ∧
    (∃ (p : Port) (s : State), s.Calm ∧ (s.red.attempt = true → s.Mild 913) ∧ (∀ n : ChId, s.Mild (chSrc n 16)) ∧
      s.Admits p Reg.DEV_STATE_CMD (dataAt Reg.DEV_STATE_CMD 3) 3 ∧ s.dev.state = .run ∧ s.isActive = true) ∧
    (∃ (p : Port) (s : State), s.Calm ∧ (s.red.attempt = true → s.Mild 913) ∧ (∀ n : ChId, s.Mild (chSrc n 16)) ∧
      s.Admits p Reg.DEV_STATE_CMD (dataAt Reg.DEV_STATE_CMD 1) 1 ∧ s.dev.state = .run ∧ s.isActive = true) ∧
    (∃ (p : Port) (s : State), s.Calm ∧ (s.red.attempt = true → s.Mild 913) ∧ (∀ n : ChId, s.Mild (chSrc n 16)) ∧
      s.Admits p Reg.DEV_STATE_CMD (dataAt Reg.DEV_STATE_CMD 4) 4 ∧ (!s.safeHeld && s.sup.power = .run) = true) ∧
    (∃ (p : Port) (s : State), s.Calm ∧ (s.red.attempt = true → s.Mild 913) ∧ (∀ n : ChId, s.Mild (chSrc n 16)) ∧
      s.Admits p Reg.DEV_STATE_CMD (dataAt Reg.DEV_STATE_CMD 4) 4 ∧ (!s.safeHeld && s.sup.power = .run) = false) ∧
    (∃ (p : Port) (s : State), s.Calm ∧ s.inSafe = false ∧ s.dev.state = .run ∧ s.red.attempt = true ∧
      s.red.clmOut = false ∧ s.isActive = false ∧ (s.fltNow 913).2.1 = 3 ∧ (s.src 913).cond = false ∧
      (s.src 913).force = false ∧ s.reg Reg.DEV_REFUSE_CNT < 2 ^ 32 - 1 ∧
      s.Admits p Reg.DEV_STATE_CMD (dataAt Reg.DEV_STATE_CMD 3) 3) ∧
    (∃ (p : Port) (s : State), s.Calm ∧ s.inSafe = false ∧ s.dev.state = .run ∧ s.red.attempt = true ∧
      s.red.clmOut = false ∧ s.isActive = false ∧ (s.fltNow 913).2.1 = 3 ∧ (s.src 913).cond = false ∧
      (s.src 913).force = false ∧ s.reg Reg.DEV_REFUSE_CNT < 2 ^ 32 - 1 ∧
      s.Admits p Reg.DEV_STATE_CMD (dataAt Reg.DEV_STATE_CMD 1) 1) ∧
    (∃ (s : State), s.Calm ∧ s.alive = true ∧ s.mgmt.service = true ∧ s.sup.booted = false ∧ s.dev.state = .boot ∧
      s.sec.lifecycle = 3 ∧ s.sup.power = .run) := by
  refine ⟨⟨0, 6, att, ?_⟩,
    ⟨6, w10, ?_⟩,
    ⟨6, w11, ?_⟩,
    ⟨0, 6, att, ?_⟩,
    ⟨0, 6, w11, ?_⟩,
    ⟨0, 0, timS, ?_⟩,
    ⟨0, 6, att, ?_⟩,
    ⟨0, runS, ?_⟩,
    ⟨0, base, ?_⟩,
    ⟨0, w13, ?_⟩,
    ⟨0, actR, ?_⟩,
    ⟨0, actR, ?_⟩,
    ⟨0, safeX, ?_⟩,
    ⟨0, w14, ?_⟩,
    ⟨0, att, ?_⟩,
    ⟨0, att, ?_⟩,
    ⟨bootR, ?_⟩⟩ <;> (try simp only [State.Calm, State.PlainSample, State.ClearHatband, State.OneCrossing, State.Mild,
      State.AdmitsCmd, admits_iff, rejects_iff, ok_iff, nak_iff]) <;> decide +kernel

end O51

namespace O52

def g1 : StoreGen := { valid := true, counter := 3, values := [(Reg.TQ_LATE_POLICY 0, 1)] }
def sg (a b : StoreGen) (s : State) : State := { s with store := { gens := #v[a, b] } }
def wr (a : Option Activity) (s : State) : State := s.modSched mramDomain fun x => { x with running := a }
def cfgS : State := (base.setReg (Reg.TQ_LATE_POLICY 1) 1)
def bad0 : State := { base with cal := base.cal.map fun c => { c with state := .acquire } }
def badS : State := bad0.setReg (Reg.CH_TR 0) 2
def w1 : State := wr (some .store) base

theorem plain_defaults : plainEntries 0 (cfgS.restoreEntries regDefault []) :=
  plainEntries_of_plainKey _ _ (by decide +kernel) (by decide +kernel)

theorem plain_stored : plainEntries 0 ((sg g1 {} cfgS).restoreEntries (sg g1 {} cfgS).stored (sg g1 {}
  cfgS).storedKeys) :=
  plainEntries_of_plainKey _ _ (by decide +kernel) (by decide +kernel)

/-- States and operands that meet the hypotheses of StoreAndRestoreMoveTheWholeConfiguration, clause by clause. -/
theorem wit_StoreAndRestoreMoveTheWholeConfiguration :
    (∃ (p : Port) (v : BitVec 32) (s : State), s.Calm ∧
      s.Admits p Reg.DEV_STORE (dataAt Reg.DEV_STORE (Int.ofNat v.toNat)) (Int.ofNat v.toNat) ∧ v = 0x65766173 ∧
      s.updWaits = false ∧ s.sched[mramDomain].running = none) ∧
    (∃ (p : Port) (v : BitVec 32) (s : State), s.Calm ∧
      s.Admits p Reg.DEV_STORE (dataAt Reg.DEV_STORE (Int.ofNat v.toNat)) (Int.ofNat v.toNat) ∧ v = 0x65766173 ∧
      s.updWaits = false ∧ s.sched[mramDomain].running.isSome = true ∧ s.sched[mramDomain].pending = none) ∧
    (∃ (p : Port) (v : BitVec 32) (s : State), s.Calm ∧
      s.Admits p Reg.DEV_STORE (dataAt Reg.DEV_STORE (Int.ofNat v.toNat)) (Int.ofNat v.toNat) ∧ v ≠ 0x65766173) ∧
    (∃ (s : State), s.Calm ∧ s.alive = true ∧ s.serviceOn = true ∧ s.sched[mramDomain].running = some .store ∧
      s.Mild 1025 ∧ s.sched[mramDomain].suspended = false ∧ s.upd.state ≠ .waitQuiet) ∧
    (∃ (n : Fin 5) (s : State), s.Calm ∧ s.alive = true ∧ s.serviceOn = true ∧
      s.sched[mramDomain].running = some .store ∧ s.Mild 1025 ∧ n.val = 4) ∧
    (∃ (n : Fin 5) (ok : Bool) (s : State), s.Calm ∧ s.alive = true ∧ s.serviceOn = true ∧
      s.sched[mramDomain].running = some .store ∧ s.Mild 1025 ∧ n.val < 4 ∧ ok = false) ∧
    (∃ (n : Fin 5) (ok : Bool) (s : State), s.Calm ∧ s.alive = true ∧ s.serviceOn = true ∧
      s.sched[mramDomain].running = some .store ∧ s.Mild 1025 ∧ n.val < 4 ∧ ok = true ∧
      newestStore s.store.gens = none) ∧
    (∃ (p : Port) (v : BitVec 32) (s : State) (es : List Entry), s.Calm ∧
      s.Admits p Reg.RESTORE_DEFAULTS (leBytes 4 v.toNat) (Int.ofNat v.toNat) ∧ es = s.restoreEntries regDefault [] ∧
      v = 0x64616F6C ∧ (s.beat p).groupFault p es = none ∧ plainEntries p es) ∧
    (∃ (p : Port) (v : BitVec 32) (s : State) (es : List Entry) (k : Key) (n : _), s.Calm ∧
      s.Admits p Reg.RESTORE_DEFAULTS (leBytes 4 v.toNat) (Int.ofNat v.toNat) ∧ es = s.restoreEntries regDefault [] ∧
      v = 0x64616F6C ∧ (s.beat p).groupFault p es = some (k, n)) ∧
    (∃ (p : Port) (v : BitVec 32) (s : State) (es : List Entry), s.Calm ∧
      s.Admits p Reg.RESTORE_DEFAULTS (leBytes 4 v.toNat) (Int.ofNat v.toNat) ∧ es = s.restoreEntries regDefault [] ∧
      v ≠ 0x64616F6C) ∧
    (∃ (p : Port) (v : BitVec 32) (s : State) (es : List Entry), s.Calm ∧
      s.Admits p Reg.RESTORE_STORED (leBytes 4 v.toNat) (Int.ofNat v.toNat) ∧
      es = s.restoreEntries s.stored s.storedKeys ∧ v = 0x64616F6C ∧ (newestStore s.store.gens).isSome = true ∧
      (s.beat p).groupFault p es = none ∧ plainEntries p es) ∧
    (∃ (p : Port) (v : BitVec 32) (s : State) (es : List Entry), s.Calm ∧
      s.Admits p Reg.RESTORE_STORED (leBytes 4 v.toNat) (Int.ofNat v.toNat) ∧
      es = s.restoreEntries s.stored s.storedKeys ∧ v = 0x64616F6C ∧ (newestStore s.store.gens).isSome = false) ∧
    (∃ (p : Port) (v : BitVec 32) (s : State) (es : List Entry), s.Calm ∧
      s.Admits p Reg.RESTORE_STORED (leBytes 4 v.toNat) (Int.ofNat v.toNat) ∧
      es = s.restoreEntries s.stored s.storedKeys ∧ v ≠ 0x64616F6C) := by
  refine ⟨⟨0, 0x65766173, base, ?_⟩,
    ⟨0, 0x65766173, w1, ?_⟩,
    ⟨0, 0x64616f6c#32, base, ?_⟩,
    ⟨w1, ?_⟩,
    ⟨4, w1, ?_⟩,
    ⟨0, false, w1, ?_⟩,
    ⟨0, true, w1, ?_⟩,
    ⟨0, 0x64616F6C, cfgS, cfgS.restoreEntries regDefault [], ?_⟩,
    ⟨0, 0x64616F6C, badS, badS.restoreEntries regDefault [], 2101253, { abort := 134217762, detail := 10 }, ?_⟩,
    ⟨0, 0x65766173#32, base, base.restoreEntries regDefault [], ?_⟩,
    ⟨0, 0x64616F6C, sg g1 {} cfgS, (sg g1 {} cfgS).restoreEntries (sg g1 {} cfgS).stored (sg g1 {} cfgS).storedKeys,
      ?_⟩,
    ⟨0, 0x64616F6C, base, base.restoreEntries base.stored base.storedKeys, ?_⟩,
    ⟨0, 0x65766173#32, base, base.restoreEntries base.stored base.storedKeys, ?_⟩⟩ <;> (try simp only [State.Calm,
      State.PlainSample, State.ClearHatband, State.OneCrossing, State.Mild, State.AdmitsCmd, admits_iff, rejects_iff,
      ok_iff, nak_iff, plain_defaults, plain_stored]) <;> decide +kernel

end O52

namespace O53

def h1 (f : Hsp → Hsp) (s : State) : State := { s with hsp := s.hsp.map f }
def dv' (d : DevState) (s : State) : State := { s with dev := { s.dev with state := d } }
def dbg (s : State) : State := { s with sec := { lifecycle := 1, debug := 2 } }
def w0 : State := { base with floor := { base.floor with oscLost := true } }
def w7 : State := h1 (fun h => { h with executing := some 2 }) base
def w2 : State := dbg (dv' .config base)
def w1 : State := { base with sup := { base.sup with vio := false } }
def w3 : State := { base with sec := { lifecycle := 1, debug := 1 } }

theorem plain_late (p : Port) (v : Int) : plainAt p (keyOf 0x1500#16 2#8) v :=
  plainAt_of_plainKey _ _ _ (by decide +kernel)

/-- States and operands that meet the hypotheses of HostSerialPortsAndTheTapAnswer, clause by clause. -/
theorem wit_HostSerialPortsAndTheTapAnswer :
    (∃ (h : Fin 2) (hh : Fin 3) (index : BitVec 16) (sub : Byte) (k : Key) (s : State) (n : _), s.Calm ∧
      hh.val = h.val ∧ k = keyOf index sub ∧ s.hspBusy hh = false ∧ s.gate (hspPort hh) = .ready ∧
      State.readChecks (hspPort hh) k = .error n) ∧
    (∃ (h : Fin 2) (hh : Fin 3) (tag : Byte) (index : BitVec 16) (sub : Byte) (k : Key) (s : State), s.Calm ∧
      hh.val = h.val ∧ k = keyOf index sub ∧ s.hspBusy hh = false ∧ s.gate (hspPort hh) = .ready ∧
      readsCalm (((s.quietMiso hh).modHsp hh fun x =>
      { x with executing := some tag, reply := none, error := none }).beat (hspPort hh)) (hspPort hh) k = true) ∧
    (∃ (h : Fin 2) (hh : Fin 3) (index : BitVec 16) (sub : Byte) (data : Bytes) (k : Key) (s : State) (n : _),
      s.Calm ∧ hh.val = h.val ∧ k = keyOf index sub ∧ s.hspBusy hh = false ∧ s.gate (hspPort hh) = .ready ∧
      (s.beat (hspPort hh)).writeChecks (hspPort hh) k data = .error n ∧ n ≠ nakSched ∧ n ≠ nakRole) ∧
    (∃ (h : Fin 2) (hh : Fin 3) (tag : Byte) (index : BitVec 16) (sub : Byte) (data : Bytes) (k : Key) (v : Int) (s :
      State), s.Calm ∧ hh.val = h.val ∧ k = keyOf index sub ∧ s.hspBusy hh = false ∧ s.Admits (hspPort hh) k data v ∧
      (findObj k).map (·.acc) = some .rws ∧
      ownCheck (hspPort hh) (((s.quietMiso hh).modHsp hh fun x =>
      { x with executing := some tag, reply := none, error := none }).beat (hspPort hh)) (overlay s.reg [(k,
      v)]) k v = .ok () ∧ plainAt (hspPort hh) k v ∧ k ≠ Reg.CFG_GEN) ∧
    (∃ (h : Fin 2) (hh : Fin 3) (s : State), s.Calm ∧ hh.val = h.val ∧ s.alive = true ∧ s.hspBusy hh = true ∧
      s.Mild (972 + h.val)) ∧
    (∃ (h : Fin 2) (hh : Fin 3) (s : State), s.Calm ∧ hh.val = h.val ∧ s.alive = true ∧ s.hsp[hh].error = none ∧
      s.hsp[hh].reply = none ∧ s.hsp[hh].executing = none) ∧
    (∃ (h : Fin 2) (hh : Fin 3) (code : HspErr) (s : State), s.Calm ∧ hh.val = h.val ∧ s.alive = true ∧
      (code = .busy → s.hspBusy hh = true) ∧ s.Mild (972 + h.val)) ∧
    (∃ (h : Fin 2) (hh : Fin 3) (s : State), s.Calm ∧ hh.val = h.val ∧ s.oscOn = true) ∧
    (∃ (h : Fin 2) (hh : Fin 3) (s : State), s.Calm ∧ hh.val = h.val ∧ s.oscOn = false) ∧
    (∃ (h : Fin 2) (hh : Fin 3) (s : State), s.Calm ∧ hh.val = h.val ∧ s.floorOn = true) ∧
    (∃ (h : Fin 2) (hh : Fin 3) (s : State), s.Calm ∧ hh.val = h.val ∧ s.floorOn = false) ∧
    (∃ (ir : Byte) (s : State) (u : State), s.Calm ∧ s.floorOn = true ∧
      u = { s with tap := { s.tap with ir := ir } } ∧ ir = 0x20) ∧
    (∃ (ir : Byte) (s : State) (u : State), s.Calm ∧ s.floorOn = true ∧
      u = { s with tap := { s.tap with ir := ir } } ∧ ir ∉ [0x00#8, 0x02#8, 0x20#8, 0x21#8]) ∧
    (∃ (ir : Byte) (s : State) (u : State), s.Calm ∧ s.floorOn = true ∧
      u = { s with tap := { s.tap with ir := ir } } ∧ ((ir = 0x00 ∧ s.sec.debug = 2 ∧
      (s.dev.state = .config ∨ s.dev.state = .safe)) ∨ (ir = 0x02 ∧ s.sec.debug ≠ 0))) ∧
    (∃ (ir : Byte) (s : State) (u : State), s.Calm ∧ s.floorOn = true ∧
      u = { s with tap := { s.tap with ir := ir } } ∧ ((ir = 0x00 ∧ ¬(s.sec.debug = 2 ∧
      (s.dev.state = .config ∨ s.dev.state = .safe))) ∨ (ir = 0x02 ∧ s.sec.debug = 0))) ∧
    (∃ (ir : Byte) (s : State) (u : State), s.Calm ∧ s.floorOn = true ∧
      u = { s with tap := { s.tap with ir := ir } } ∧ ir = 0x21 ∧ (s.alive = false ∨ s.sec.debug = 0)) ∧
    (∃ (ir : Byte) (bits : Bytes) (s : State) (u : State) (e : _), s.Calm ∧ s.floorOn = true ∧
      u = { s with tap := { s.tap with ir := ir } } ∧ ir = 0x21 ∧ s.alive = true ∧ s.sec.debug ≠ 0 ∧
      hspParse bits = .bad e) ∧
    (∃ (ir : Byte) (bits : Bytes) (s : State) (u : State), s.Calm ∧ s.floorOn = true ∧
      u = { s with tap := { s.tap with ir := ir } } ∧ ir = 0x21 ∧ s.alive = true ∧ s.sec.debug ≠ 0 ∧
      (hspParse bits = .poll ∨ hspParse bits = .floor)) ∧
    (∃ (ir : Byte) (bits : Bytes) (s : State) (u : State) (tag : _) (k : _) (n : _), s.Calm ∧ s.floorOn = true ∧
      u = { s with tap := { s.tap with ir := ir } } ∧ ir = 0x21 ∧ s.alive = true ∧ s.sec.debug ≠ 0 ∧
      hspParse bits = .read tag k ∧ s.hspBusy 2 = false ∧ s.gate 6 = .ready ∧ State.readChecks 6 k = .error n) ∧
    (∃ (ir : Byte) (bits : Bytes) (s : State) (u : State) (tag : _) (k : _) (d : _), s.Calm ∧ s.floorOn = true ∧
      u = { s with tap := { s.tap with ir := ir } } ∧ ir = 0x21 ∧ s.alive = true ∧ s.sec.debug ≠ 0 ∧
      hspParse bits = .write tag k d ∧ s.sec.debug = 1) := by
  refine ⟨⟨1, 1, 0x1500#16, 0x00#8, keyOf (0x1500#16 : BitVec 16) (0x00#8 : Byte), w0,
    { abort := 101253137, detail := 15 }, ?_⟩,
    ⟨1, 1, 2#8, 0x1500#16, 2#8, keyOf 0x1500#16 2#8, base, ?_⟩,
    ⟨1, 1, 0x1500#16, 0x02#8, [0x02#8], keyOf (0x1500#16 : BitVec 16) (0x02#8 : Byte), w0,
      { abort := 101253169, detail := 12 }, ?_⟩,
    ⟨1, 1, 2#8, 0x1500#16, 2#8, [1#8], keyOf 0x1500#16 2#8, 1, base, ?_⟩,
    ⟨1, 1, w7, ?_⟩,
    ⟨1, 1, w0, ?_⟩,
    ⟨1, 1, HspErr.hdrCrc, w0, ?_⟩,
    ⟨1, 1, w2, ?_⟩,
    ⟨1, 1, w0, ?_⟩,
    ⟨1, 1, w0, ?_⟩,
    ⟨1, 1, w1, ?_⟩,
    ⟨0x20, w0, { w0 with tap := { w0.tap with ir := 0x20 } }, ?_⟩,
    ⟨0x01#8, w0, { w0 with tap := { w0.tap with ir := (0x01#8 : Byte) } }, ?_⟩,
    ⟨0x02#8, w2, { w2 with tap := { w2.tap with ir := (0x02#8 : Byte) } }, ?_⟩,
    ⟨0x02#8, w0, { w0 with tap := { w0.tap with ir := (0x02#8 : Byte) } }, ?_⟩,
    ⟨0x21, w0, { w0 with tap := { w0.tap with ir := 0x21 } }, ?_⟩,
    ⟨0x21, [0x01#8], w2, { w2 with tap := { w2.tap with ir := 0x21 } }, HspErr.truncated, ?_⟩,
    ⟨0x21, [0x00#8, 0x00#8, 0x01#8, 0xb9#8], w2, { w2 with tap := { w2.tap with ir := 0x21 } }, ?_⟩,
    ⟨0x21, [0x10#8, 0x04#8, 0x07#8, 0x6e#8, 0x99#8, 0x99#8, 0x01#8, 0x00#8, 0x64#8, 0xb1#8], w2,
      { w2 with tap := { w2.tap with ir := 0x21 } }, 0x07#8, 10066177, { abort := 100794368, detail := 15 }, ?_⟩,
    ⟨0x21, [0x20#8, 0x05#8, 0x07#8, 0x88#8, 0x05#8, 0x15#8, 0x02#8, 0x00#8, 0x01#8, 0xeb#8, 0xf8#8], w3,
      { w3 with tap := { w3.tap with ir := 0x21 } }, 0x07#8, 1377538, [0x01#8], ?_⟩⟩ <;> (try simp only [State.Calm,
      State.PlainSample, State.ClearHatband, State.OneCrossing, State.Mild, State.AdmitsCmd, admits_iff, rejects_iff,
      ok_iff, nak_iff, plain_late]) <;> decide +kernel

end O53

namespace O54

def req (op seq : Nat) (k : Nat) : Bytes :=
  let b := leBytes 1 1 ++ leBytes 1 op ++ leBytes 2 seq ++ leBytes 2 (k / 256) ++ leBytes 1 k ++ leBytes 1 0 ++ leBytes
    2 0
  b ++ leBytes 4 (crc32 b).toNat
def d1 := req 1 7 Reg.TIME_INC
def d2 := req 1 7 Reg.CFG_GEN
def ptpF : Bytes := beBytes 2 0x88F7 ++ List.replicate 46 0
def sd (c : Nat) (r : List Byte) : Bytes := leBytes 1 c ++ r ++ List.replicate (7 - r.length) 0
def net (s : State) : State := [Reg.ETH_ENABLE 0, Reg.ETH_ENABLE 1, Reg.CAN_ENABLE 0, Reg.CAN_ENABLE 1,
  Reg.PTP_ENABLE 0].foldl (fun s k => s.setReg k 1) ((((s.setReg (Reg.ETH_IP 0) 0x0A000001).setReg (Reg.CAN_NODE_ID 0)
  5).setReg (Reg.CAN_NODE_ID 1) 6).setReg (Reg.ETH_SPEED 1) 2)
def e (f : Eth → Eth) (s : State) : State := { s with eth := s.eth.map fun x => f { x with inband := 3 } }
def c (f : Can → Can) (s : State) : State := { s with can := s.can.map fun x => f { x with state := .active } }
def n0 : State := c id (e id (net base))
def pr : Option (BitVec 32 × BitVec 16) := some (0x0A000001, 47230)
def w3 : State := e (fun x => { x with peer := some (1, 2) }) n0
def w5 : State := e (fun x => { x with peer := pr, executing := some [] }) n0
def w6 : State := e (fun x => { x with peer := pr, last := some (d1, [9]) }) n0
def w8 : State := e (fun x => { x with ring := List.replicate 32 [] }) n0
def w9 : State := c (fun x => { x with sdo := .download 5 [1] false }) n0
def w11 : State := c (fun x => { x with sdo := .upload 5 [1,2,3,4,5,6,7,8] false }) n0
def w13 : State := c (fun x => { x with state := .busOff, recovering := true }) n0

theorem plain_late_can (p : Port) (v : Int) : plainAt p (keyOf 0x1500#16 2#8) v :=
  plainAt_of_plainKey _ _ _ (by decide +kernel)

/-- States and operands that meet the hypotheses of EthernetAndCanAnswerCountAndRecover, clause by clause. -/
theorem wit_EthernetAndCanAnswerCountAndRecover :
    (∃ (k : Fin 2) (j : _), j ≠ k) ∧
    (∃ (c : Fin 2) (j : _), j ≠ c) ∧
    (∃ (k : Fin 2) (dst : BitVec 48) (b : Bytes) (s : State), s.Calm ∧ s.ethOn k = true ∧
      s.ethTakes k dst.toNat = true ∧ s.reg (Reg.ETH_IP k) ≠ 0 ∧ dgrOk b = false) ∧
    (∃ (k : Fin 2) (dst : BitVec 48) (ip : BitVec 32) (udp : BitVec 16) (b : Bytes) (s : State) (a : _), s.Calm ∧
      s.ethOn k = true ∧ s.ethTakes k dst.toNat = true ∧ s.reg (Reg.ETH_IP k) ≠ 0 ∧ dgrOk b = true ∧
      s.dgrPeer k = some a ∧ a ≠ (ip, udp)) ∧
    (∃ (k : Fin 2) (dst : BitVec 48) (ip : BitVec 32) (udp : BitVec 16) (b : Bytes) (s : State), s.Calm ∧
      s.ethOn k = true ∧ s.ethTakes k dst.toNat = true ∧ s.reg (Reg.ETH_IP k) ≠ 0 ∧ dgrOk b = true ∧
      s.dgrPeer k = some (ip, udp) ∧ (s.eth[k].executing.isSome || s.portBusy (ethPort k)) = true) ∧
    (∃ (k : Fin 2) (dst : BitVec 48) (ip : BitVec 32) (udp : BitVec 16) (b : Bytes) (s : State) (req : _) (rep : _),
      s.Calm ∧ s.ethOn k = true ∧ s.ethTakes k dst.toNat = true ∧ s.reg (Reg.ETH_IP k) ≠ 0 ∧ dgrOk b = true ∧
      s.dgrPeer k = some (ip, udp) ∧ (s.eth[k].executing.isSome || s.portBusy (ethPort k)) = false ∧
      s.eth[k].last = some (req, rep) ∧ sliceB 2 2 req = sliceB 2 2 b ∧ req = b) ∧
    (∃ (k : Fin 2) (dst : BitVec 48) (ip : BitVec 32) (udp : BitVec 16) (b : Bytes) (s : State) (req : _) (rep : _),
      s.Calm ∧ s.ethOn k = true ∧ s.ethTakes k dst.toNat = true ∧ s.reg (Reg.ETH_IP k) ≠ 0 ∧ dgrOk b = true ∧
      s.dgrPeer k = some (ip, udp) ∧ (s.eth[k].executing.isSome || s.portBusy (ethPort k)) = false ∧
      s.eth[k].last = some (req, rep) ∧ sliceB 2 2 req = sliceB 2 2 b ∧ req ≠ b) ∧
    (∃ (k : Fin 2) (dst : BitVec 48) (b : Bytes) (s : State), s.Calm ∧ s.ethOn k = true ∧
      s.ethTakes k dst.toNat = true ∧ s.reg (Reg.ETH_IP k) ≠ 0 ∧ dgrOk b = true ∧ leNat (sliceB 1 1 b) = 1 ∧
      s.gate (ethPort k) = .ready ∧ s.eth[k].executing = none ∧ s.dgrPeer k = none) ∧
    (∃ (k : Fin 2) (dst : BitVec 48) (s : State), s.Calm ∧ s.ethOn k = true ∧ s.ethTakes k dst.toNat = false) ∧
    (∃ (k : Fin 2) (dst : BitVec 48) (s : State), s.Calm ∧ s.ethOn k = true ∧ s.ethTakes k dst.toNat = true ∧
      s.reg (Reg.ETH_IP k) = 0) ∧
    (∃ (k : Fin 2) (s : State), s.Calm ∧ s.ethOn k = true ∧ s.Mild (970 + k.val)) ∧
    (∃ (k : Fin 2) (dst : BitVec 48) (src : BitVec 48) (rest : Bytes) (s : State) (frame : _), s.Calm ∧
      s.ethOn k = true ∧ frame = beBytes 6 dst.toNat ++ beBytes 6 src.toNat ++ rest ∧
      (1518 < frame.length ∨ (ptpOffset frame).isNone = true)) ∧
    (∃ (k : Fin 2) (dst : BitVec 48) (src : BitVec 48) (rest : Bytes) (s : State) (frame : _), s.Calm ∧
      s.ethOn k = true ∧ frame = beBytes 6 dst.toNat ++ beBytes 6 src.toNat ++ rest ∧ frame.length ≤ 1518 ∧
      (ptpOffset frame).isSome = true ∧ (s.ethTakes k dst.toNat && s.flag (Reg.PTP_ENABLE k)) = false) ∧
    (∃ (k : Fin 2) (dst : BitVec 48) (src : BitVec 48) (rest : Bytes) (s : State) (frame : _), s.Calm ∧
      s.ethOn k = true ∧ frame = beBytes 6 dst.toNat ++ beBytes 6 src.toNat ++ rest ∧ frame.length ≤ 1518 ∧
      (ptpOffset frame).isSome = true ∧ (s.ethTakes k dst.toNat && s.flag (Reg.PTP_ENABLE k)) = true ∧
      s.eth[k].ring.length < 32) ∧
    (∃ (k : Fin 2) (dst : BitVec 48) (src : BitVec 48) (rest : Bytes) (s : State) (frame : _), s.Calm ∧
      s.ethOn k = true ∧ frame = beBytes 6 dst.toNat ++ beBytes 6 src.toNat ++ rest ∧ frame.length ≤ 1518 ∧
      (ptpOffset frame).isSome = true ∧ (s.ethTakes k dst.toNat && s.flag (Reg.PTP_ENABLE k)) = true ∧
      32 ≤ s.eth[k].ring.length ∧ s.Mild (994 + k.val)) ∧
    (∃ (k : Fin 2) (s : State), s.Calm ∧ s.alive = true ∧ s.Mild (968 + k.val)) ∧
    (∃ (c : Fin 2) (f : Bytes) (cmd : Nat) (s : State), s.Calm ∧ s.sdoOn c = true ∧ f.length = 8 ∧
      s.can[c].executing = false ∧ s.portBusy (canPort c) = false ∧ cmd = leNat (f.take 1) ∧ cmd / 32 = 4) ∧
    (∃ (c : Fin 2) (f : Bytes) (cmd : Nat) (s : State), s.Calm ∧ s.sdoOn c = true ∧ f.length = 8 ∧
      s.can[c].executing = false ∧ s.portBusy (canPort c) = false ∧ cmd = leNat (f.take 1) ∧
      (cmd / 32 = 0 ∨ cmd / 32 = 3) ∧ s.can[c].sdo = .idle) ∧
    (∃ (c : Fin 2) (f : Bytes) (cmd : Nat) (s : State) (k : _), s.Calm ∧ s.sdoOn c = true ∧ f.length = 8 ∧
      s.can[c].executing = false ∧ s.portBusy (canPort c) = false ∧ cmd = leNat (f.take 1) ∧ cmd / 32 = 1 ∧
      bitN cmd 1 = false ∧ k = leNat (sliceB 1 2 f) * 256 + leNat (sliceB 3 1 f)) ∧
    (∃ (c : Fin 2) (f : Bytes) (cmd : Nat) (s : State) (k : _) (got : _) (tg : _), s.Calm ∧ s.sdoOn c = true ∧
      f.length = 8 ∧ s.can[c].executing = false ∧ s.portBusy (canPort c) = false ∧ cmd = leNat (f.take 1) ∧
      cmd / 32 = 0 ∧ s.can[c].sdo = .download k got tg ∧ bitN cmd 4 ≠ tg) ∧
    (∃ (c : Fin 2) (f : Bytes) (cmd : Nat) (s : State) (k : _) (got : _) (tg : _), s.Calm ∧ s.sdoOn c = true ∧
      f.length = 8 ∧ s.can[c].executing = false ∧ s.portBusy (canPort c) = false ∧ cmd = leNat (f.take 1) ∧
      cmd / 32 = 0 ∧ s.can[c].sdo = .download k got tg ∧ bitN cmd 4 = tg ∧ bitN cmd 0 = false) ∧
    (∃ (c : Fin 2) (f : Bytes) (cmd : Nat) (s : State) (k : _) (rest : _) (tg : _), s.Calm ∧ s.sdoOn c = true ∧
      f.length = 8 ∧ s.can[c].executing = false ∧ s.portBusy (canPort c) = false ∧ cmd = leNat (f.take 1) ∧
      cmd / 32 = 3 ∧ s.can[c].sdo = .upload k rest tg ∧ bitN cmd 4 = tg) ∧
    (∃ (c : Fin 2) (f : Bytes) (cmd : Nat) (s : State) (k : _) (n : _), s.Calm ∧ s.sdoOn c = true ∧ f.length = 8 ∧
      s.can[c].executing = false ∧ s.portBusy (canPort c) = false ∧ cmd = leNat (f.take 1) ∧ cmd / 32 = 2 ∧
      s.gate (canPort c) = .ready ∧ k = leNat (sliceB 1 2 f) * 256 + leNat (sliceB 3 1 f) ∧
      State.readChecks (canPort c) k = .error n ∧ s.netDue ⟨c.val + 2, by omega⟩ = false) ∧
    (∃ (c : Fin 2) (f : Bytes) (cmd : Nat) (s : State) (k : Key) (n : Nat), s.Calm ∧ s.sdoOn c = true ∧
      f.length = 8 ∧ s.can[c].executing = false ∧ s.portBusy (canPort c) = false ∧ cmd = leNat (f.take 1) ∧
      cmd / 32 = 2 ∧ s.gate (canPort c) = .ready ∧ k = leNat (sliceB 1 2 f) * 256 + leNat (sliceB 3 1 f) ∧
      readLen ((s.modCan c fun x => { x with sdo := .idle, executing := true }).beat (canPort c)) (canPort c) k = some
      n ∧ n ≠ 0 ∧ n ≤ 4) ∧
    (∃ (c : Fin 2) (f : Bytes) (cmd : Nat) (s : State) (k : Key) (n : Nat), s.Calm ∧ s.sdoOn c = true ∧
      f.length = 8 ∧ s.can[c].executing = false ∧ s.portBusy (canPort c) = false ∧ cmd = leNat (f.take 1) ∧
      cmd / 32 = 2 ∧ s.gate (canPort c) = .ready ∧ k = leNat (sliceB 1 2 f) * 256 + leNat (sliceB 3 1 f) ∧
      readLen ((s.modCan c fun x => { x with sdo := .idle, executing := true }).beat (canPort c)) (canPort c) k = some
      n ∧ n ≠ 0 ∧ 4 < n) ∧
    (∃ (c : Fin 2) (f : Bytes) (cmd : Nat) (s : State) (k : _) (d : _) (n : _), s.Calm ∧ s.sdoOn c = true ∧
      f.length = 8 ∧ s.can[c].executing = false ∧ s.portBusy (canPort c) = false ∧ cmd = leNat (f.take 1) ∧
      cmd / 32 = 1 ∧ bitN cmd 1 = true ∧ bitN cmd 0 = true ∧ s.gate (canPort c) = .ready ∧
      k = leNat (sliceB 1 2 f) * 256 + leNat (sliceB 3 1 f) ∧ d = (f.drop 4).take (4 - cmd / 4 % 4) ∧
      (s.beat (canPort c)).writeChecks (canPort c) k d = .error n ∧ n ≠ nakSched ∧ n ≠ nakRole ∧
      s.netDue ⟨c.val + 2, by omega⟩ = false) ∧
    (∃ (c : Fin 2) (f : Bytes) (cmd : Nat) (s : State) (k : Key) (d : Bytes) (v : Int), s.Calm ∧ s.sdoOn c = true ∧
      f.length = 8 ∧ s.can[c].executing = false ∧ s.portBusy (canPort c) = false ∧ cmd = leNat (f.take 1) ∧
      cmd / 32 = 1 ∧ bitN cmd 1 = true ∧ bitN cmd 0 = true ∧ s.gate (canPort c) = .ready ∧
      k = leNat (sliceB 1 2 f) * 256 + leNat (sliceB 3 1 f) ∧ d = (f.drop 4).take (4 - cmd / 4 % 4) ∧
      s.Admits (canPort c) k d v ∧ (findObj k).map (·.acc) = some .rws ∧
      ownCheck (canPort c) ((s.modCan c fun x => { x with sdo := .idle, executing := true }).beat (canPort c)) (overlay
      s.reg [(k, v)]) k v = .ok () ∧ plainAt (canPort c) k v ∧ k ≠ Reg.CFG_GEN) ∧
    (∃ (c : Fin 2) (f : Bytes) (cmd : Nat) (s : State) (k : _), s.Calm ∧ s.sdoOn c = true ∧ f.length = 8 ∧
      s.can[c].executing = false ∧ s.portBusy (canPort c) = false ∧ cmd = leNat (f.take 1) ∧ 5 ≤ cmd / 32 ∧
      k = leNat (sliceB 1 2 f) * 256 + leNat (sliceB 3 1 f)) ∧
    (∃ (c : Fin 2) (k : Key) (x : Bytes) (tg : Bool) (s : State), s.Calm ∧ s.sdoOn c = true ∧
      s.can[c].sdo = .download k x tg) ∧
    (∃ (p : Port) (c : Fin 2) (s : State), s.Calm ∧ s.AdmitsCmd p (Reg.CAN_RECOVER c)) ∧
    (∃ (c : Fin 2) (s : State), s.Calm ∧ s.alive = true ∧ s.can[c].state = .busOff ∧
      (s.can[c].recovering || s.flag (Reg.CAN_BOFF_AUTO c)) = true) ∧
    (∃ (c : Fin 2) (s : State) (tec : Nat), s.Calm ∧ s.alive = true ∧ s.can[c].state ≠ .off ∧
      s.can[c].state ≠ .busOff ∧ s.Mild (974 + c.val) ∧ s.Mild (976 + c.val) ∧ 256 ≤ tec) ∧
    (∃ (c : Fin 2) (s : State) (tec : Nat), s.Calm ∧ s.alive = true ∧ s.can[c].state ≠ .off ∧
      s.can[c].state ≠ .busOff ∧ s.Mild (974 + c.val) ∧ s.Mild (976 + c.val) ∧ tec < 256) := by
  refine ⟨⟨1, 0, ?_⟩,
    ⟨1, 0, ?_⟩,
    ⟨0, 0xffffffffffff#48, [0x01#8], n0, ?_⟩,
    ⟨0, 0xffffffffffff#48, 0x0a000001#32, 0xb87e#16, d1, w3, (0x00000001#32, 0x0002#16), ?_⟩,
    ⟨0, 0xffffffffffff#48, 0x0a000001#32, 0xb87e#16, d1, w5, ?_⟩,
    ⟨0, 0xffffffffffff#48, 0x0a000001#32, 0xb87e#16, d1, w6, d1, [0x09#8], ?_⟩,
    ⟨0, 0xffffffffffff#48, 0x0a000001#32, 0xb87e#16, d2, w6, d1, [0x09#8], ?_⟩,
    ⟨0, 0xFFFFFFFFFFFF, d1, n0, ?_⟩,
    ⟨1, 0x112233445566#48, n0, ?_⟩,
    ⟨1, 0xffffffffffff#48, n0, ?_⟩,
    ⟨1, n0, ?_⟩,
    ⟨1, 0x112233445566#48, 0x112233445566#48, d1, n0,
      beBytes 6 (0x112233445566#48 : BitVec 48).toNat ++ beBytes 6 (0x112233445566#48 : BitVec 48).toNat ++ d1, ?_⟩,
    ⟨1, 0x112233445566#48, 0x112233445566#48, ptpF, n0,
      beBytes 6 (0x112233445566#48 : BitVec 48).toNat ++ beBytes 6 (0x112233445566#48 : BitVec 48).toNat ++ ptpF, ?_⟩,
    ⟨0, 0xffffffffffff#48, 0x112233445566#48, ptpF, n0,
      beBytes 6 (0xffffffffffff#48 : BitVec 48).toNat ++ beBytes 6 (0x112233445566#48 : BitVec 48).toNat ++ ptpF, ?_⟩,
    ⟨0, 0xffffffffffff#48, 0x112233445566#48, ptpF, w8,
      beBytes 6 (0xffffffffffff#48 : BitVec 48).toNat ++ beBytes 6 (0x112233445566#48 : BitVec 48).toNat ++ ptpF, ?_⟩,
    ⟨1, base, ?_⟩,
    ⟨1, sd 0x80 [], leNat ((sd 0x80 [] : Bytes).take 1), n0, ?_⟩,
    ⟨1, sd 0x00 [], leNat ((sd 0x00 [] : Bytes).take 1), n0, ?_⟩,
    ⟨1, sd 0x20 [2, 0x15, 0], leNat ((sd 0x20 [2, 0x15, 0] : Bytes).take 1), n0, leNat (sliceB 1 2 (sd 0x20 [2, 0x15,
      0] : Bytes)) * 256 + leNat (sliceB 3 1 (sd 0x20 [2, 0x15, 0] : Bytes)), ?_⟩,
    ⟨1, sd 0x10 [1], leNat ((sd 0x10 [1] : Bytes).take 1), w9, 5, [0x01#8], false, ?_⟩,
    ⟨1, sd 0x00 [], leNat ((sd 0x00 [] : Bytes).take 1), w9, 5, [0x01#8], false, ?_⟩,
    ⟨1, sd 0x60 [], leNat ((sd 0x60 [] : Bytes).take 1), w11, 5, [0x01#8, 0x02#8, 0x03#8, 0x04#8, 0x05#8, 0x06#8,
      0x07#8, 0x08#8], false, ?_⟩,
    ⟨1, sd 0x40 [0x99, 0x99, 1], leNat ((sd 0x40 [0x99, 0x99, 1] : Bytes).take 1), n0,
      leNat (sliceB 1 2 (sd 0x40 [0x99, 0x99, 1] : Bytes)) * 256 + leNat (sliceB 3 1 (sd 0x40 [0x99, 0x99,
      1] : Bytes)), { abort := 100794368, detail := 15 }, ?_⟩,
    ⟨1, [0x40#8, 0x00#8, 0x14#8, 0x02#8, 0, 0, 0, 0], 0x40, n0, leNat (sliceB 1 2 [0x40#8, 0x00#8, 0x14#8,
      0x02#8]) * 256 + leNat (sliceB 3 1 [0x40#8, 0x00#8, 0x14#8, 0x02#8]), 4, ?_⟩,
    ⟨1, [0x40#8, 0x01#8, 0x30#8, 0x03#8, 0, 0, 0, 0], 0x40, n0, leNat (sliceB 1 2 [0x40#8, 0x01#8, 0x30#8,
      0x03#8]) * 256 + leNat (sliceB 3 1 [0x40#8, 0x01#8, 0x30#8, 0x03#8]), 8, ?_⟩,
    ⟨1, [0x2f#8, 0x00#8, 0x15#8, 0x02#8, 0x09#8, 0x00#8, 0x00#8, 0x00#8], leNat (([0x2f#8, 0x00#8, 0x15#8, 0x02#8,
      0x09#8, 0x00#8, 0x00#8, 0x00#8] : Bytes).take 1), n0, leNat (sliceB 1 2 ([0x2f#8, 0x00#8, 0x15#8, 0x02#8,
      0x09#8, 0x00#8, 0x00#8, 0x00#8] : Bytes)) * 256 + leNat (sliceB 3 1 ([0x2f#8, 0x00#8, 0x15#8, 0x02#8, 0x09#8,
      0x00#8, 0x00#8, 0x00#8] : Bytes)), (([0x2f#8, 0x00#8, 0x15#8, 0x02#8, 0x09#8, 0x00#8, 0x00#8,
      0x00#8] : Bytes).drop 4).take (4 - (leNat (([0x2f#8, 0x00#8, 0x15#8, 0x02#8, 0x09#8, 0x00#8, 0x00#8,
      0x00#8] : Bytes).take 1) : Nat) / 4 % 4), { abort := 101253169, detail := 12 }, ?_⟩,
    ⟨1, [0x2f#8, 0x00#8, 0x15#8, 0x02#8, 0x01#8, 0, 0, 0], 0x2f, n0, keyOf 0x1500#16 2#8, [1#8], 1, ?_⟩,
    ⟨1, [0xe0#8, 0x00#8, 0x00#8, 0x00#8, 0x00#8, 0x00#8, 0x00#8, 0x00#8], leNat (([0xe0#8, 0x00#8, 0x00#8, 0x00#8,
      0x00#8, 0x00#8, 0x00#8, 0x00#8] : Bytes).take 1), n0, leNat (sliceB 1 2 ([0xe0#8, 0x00#8, 0x00#8, 0x00#8,
      0x00#8, 0x00#8, 0x00#8, 0x00#8] : Bytes)) * 256 + leNat (sliceB 3 1 ([0xe0#8, 0x00#8, 0x00#8, 0x00#8, 0x00#8,
      0x00#8, 0x00#8, 0x00#8] : Bytes)), ?_⟩,
    ⟨0, 5, [1#8], false, c (fun x => { x with sdo := .download 5 [1] false }) n0, ?_⟩,
    ⟨0, 1, base, ?_⟩,
    ⟨1, w13, ?_⟩,
    ⟨1, n0, 10066177, ?_⟩,
    ⟨1, n0, 128, ?_⟩⟩ <;> (try simp only [State.Calm, State.PlainSample, State.ClearHatband, State.OneCrossing,
      State.Mild, State.AdmitsCmd, admits_iff, rejects_iff, ok_iff, nak_iff, plain_late_can]) <;> decide +kernel

end O54

namespace O55

def net (s : State) : State := [Reg.ETH_ENABLE 0, Reg.ETH_ENABLE 1, Reg.CAN_ENABLE 0, Reg.CAN_ENABLE 1,
  Reg.PTP_ENABLE 0].foldl (fun s k => s.setReg k 1) ((((s.setReg (Reg.ETH_IP 0) 0x0A000001).setReg (Reg.CAN_NODE_ID 0)
  5).setReg (Reg.CAN_NODE_ID 1) 6).setReg (Reg.ETH_SPEED 1) 2)
def e (f : Eth → Eth) (s : State) : State := { s with eth := s.eth.map fun x => f { x with inband := 3 } }
def c (f : Can → Can) (s : State) : State := { s with can := s.can.map fun x => f { x with state := .active } }
def n0 : State := c id (e id (net base))
def dd (inst : Int) (act : Bool) (hd : Int) (fl : Nat) : Desc :=
  { raw := descBytes 100 20 fl 0 77, frame := List.replicate 12 0 ++ beBytes 2 0x88F7 ++ List.replicate 40 0, instant := inst, active := act, header := hd }
def dOk := dd (-5) false 0 3
def dLate := dd (-5000000000) false 0 0
def dPast := dd (-5) true (-100000000) 0
def dFut := dd 100000 false 0 0
def q (l : List Desc) (snd late un : Bool) (s : State) : State :=
  { s with tq := s.tq.map fun t => { t with descs := l, sending := snd, late := late, unstamped := un, compl := [[1,2,3]] } }
def pols (s : State) : State := [0,3,12].foldl (fun s k => s.setReg (Reg.TQ_LATE_POLICY k) 1) s
def pf (qn : Int) (s : State) : State :=
  ((s.setReg (Reg.PF_ENABLE 0) 1).setReg (Reg.PF_QUEUE 0) qn).setReg (Reg.PF_CH_MASK 0) 3
def pfc (m : Int) (s : State) : State := (s.setReg (Reg.PF_QUEUE 0) 12).setReg (Reg.PF_CH_MASK 0) m
def mkD (s : State) (qq : Fin 16) (b : Bytes) : Desc :=
  let d : Desc := { raw := descMask b, frame := [], instant := 0, stream := none }
  { d with frame := s.tq[qq].staging.load 0 d.len, instant := s.instantOf d.launch (bitN d.flags 0) }
def w0 : State := q [dLate, dOk] true false true n0
def w11 : State := q (List.replicate 16 dFut) false false false n0
def w7 : State := q [dLate] false false false n0
def w9 : State := q [dPast] false true false n0
def w8 : State := q [dLate, dOk] false false true (pols n0)
def w4 : State := q [dOk, dFut] false false false n0
def w5 : State := q [dOk, dFut] true false false n0
def w18 : State := e (fun x => { x with ring := [[1],[2]] }) n0
def w15 : State := pfc 0xFFFF n0
def w12 : State := pf 0 n0
def w14 : State := pf 0 (q (List.replicate 16 dFut) false false false n0)


/-- States and operands that meet the hypotheses of QueuesLaunchCompleteAndStream, clause by clause. -/
theorem wit_QueuesLaunchCompleteAndStream :
    (∃ (p : Port) (q : Fin 16) (data : Bytes) (v : Int) (s : State) (o : Nat), s.Calm ∧
      s.Admits p (Reg.TQ_STAGE_DATA q) data v ∧ o = s.regN (Reg.TQ_STAGE_OFS q)) ∧
    (∃ (p : Port) (q : Fin 16) (desc : Bytes) (v : Int) (s : State) (d : Desc), s.Calm ∧
      s.Admits p (Reg.TQ_PUSH q) desc v ∧ d.raw = descMask desc ∧ d.frame = s.tq[q].staging.load 0 d.len ∧
      d.stream = none ∧ d.active = false ∧ d.header = 0 ∧
      d.instant = s.instantOf d.launch (bitN (leNat (sliceB 6 1 (descMask desc))) 0) ∧
      descOk q (descMask desc) = true ∧ (!s.streamOwns q && decide (s.tq[q].descs.length < 16)) = true) ∧
    (∃ (p : Port) (q : Fin 16) (desc : Bytes) (v : Int) (s : State) (d : Desc), s.Calm ∧
      s.Admits p (Reg.TQ_PUSH q) desc v ∧ d.raw = descMask desc ∧ d.frame = s.tq[q].staging.load 0 d.len ∧
      d.stream = none ∧ d.active = false ∧ d.header = 0 ∧
      d.instant = s.instantOf d.launch (bitN (leNat (sliceB 6 1 (descMask desc))) 0) ∧
      descOk q (descMask desc) = true ∧ (!s.streamOwns q && decide (s.tq[q].descs.length < 16)) = false) ∧
    (∃ (p : Port) (q : Fin 16) (desc : Bytes) (v : Int) (s : State) (d : Desc), s.Calm ∧
      s.Admits p (Reg.TQ_PUSH q) desc v ∧ d.raw = descMask desc ∧ d.frame = s.tq[q].staging.load 0 d.len ∧
      d.stream = none ∧ d.active = false ∧ d.header = 0 ∧
      d.instant = s.instantOf d.launch (bitN (leNat (sliceB 6 1 (descMask desc))) 0) ∧
      descOk q (descMask desc) = false) ∧
    (∃ (p : Port) (q : Fin 16) (s : State), s.Calm ∧ s.AdmitsCmd p (Reg.TQ_FLUSH q)) ∧
    (∃ (net : Fin 4) (q : Fin 16) (d : Desc) (rest : List Desc) (late : Bool) (s : State), s.Calm ∧ s.alive = true ∧
      s.netReady net = true ∧ s.presents net = some q ∧ s.tq[q].descs = d :: rest ∧ s.Mild (978 + q.val) ∧
      s.Mild 911 ∧ late = decide (s.reg (Reg.TQ_LATE_TOL q) < s.ext - d.instant) ∧ late = true ∧ s.tq[q].late = false) ∧
    (∃ (net : Fin 4) (q : Fin 16) (d : Desc) (rest : List Desc) (late : Bool) (s : State), s.Calm ∧ s.alive = true ∧
      s.netReady net = true ∧ s.presents net = some q ∧ s.tq[q].descs = d :: rest ∧ s.Mild (978 + q.val) ∧
      s.Mild 911 ∧ late = decide (s.reg (Reg.TQ_LATE_TOL q) < s.ext - d.instant) ∧ s.pastWindow d = true) ∧
    (∃ (net : Fin 4) (q : Fin 16) (d : Desc) (rest : List Desc) (late : Bool) (s : State), s.Calm ∧ s.alive = true ∧
      s.netReady net = true ∧ s.presents net = some q ∧ s.tq[q].descs = d :: rest ∧ s.Mild (978 + q.val) ∧
      s.Mild 911 ∧ late = decide (s.reg (Reg.TQ_LATE_TOL q) < s.ext - d.instant) ∧ s.pastWindow d = false ∧
      late = true ∧ s.reg (Reg.TQ_LATE_POLICY q) = 1) ∧
    (∃ (net : Fin 4) (q : Fin 16) (d : Desc) (rest : List Desc) (late : Bool) (s : State), s.Calm ∧ s.alive = true ∧
      s.netReady net = true ∧ s.presents net = some q ∧ s.tq[q].descs = d :: rest ∧ s.Mild (978 + q.val) ∧
      s.Mild 911 ∧ late = decide (s.reg (Reg.TQ_LATE_TOL q) < s.ext - d.instant) ∧ s.pastWindow d = false ∧
      (late = false ∨ s.reg (Reg.TQ_LATE_POLICY q) ≠ 1)) ∧
    (∃ (net : Fin 4) (s : State), s.Calm ∧ s.presents net = none) ∧
    (∃ (net : Fin 4) (s : State) (q : Fin 16), s.Calm ∧ netOf q = net ∧ s.tq[q].sending = true) ∧
    (∃ (net : Fin 4) (s : State) (q : Fin 16) (r : Fin 16), s.Calm ∧ s.presents net = some q ∧ netOf r = net ∧
      s.headDue r = true) ∧
    (∃ (q : Fin 16) (d : Desc) (rest : List Desc) (c : Fin 2) (s : State), s.Calm ∧ s.alive = true ∧
      s.tq[q].descs = d :: rest ∧ s.tq[q].sending = true ∧ c = portOf (netOf q) ∧ isEth q = true) ∧
    (∃ (q : Fin 16) (d : Desc) (rest : List Desc) (c : Fin 2) (s : State), s.Calm ∧ s.alive = true ∧
      s.tq[q].descs = d :: rest ∧ s.tq[q].sending = true ∧ c = portOf (netOf q) ∧ isEth q = false) ∧
    (∃ (q : Fin 16) (d : Desc) (rest : List Desc) (c : Fin 2) (s : State), s.Calm ∧ s.alive = true ∧
      s.tq[q].descs = d :: rest ∧ s.tq[q].sending = true ∧ c = portOf (netOf q) ∧ d.oneStep = false) ∧
    (∃ (q : Fin 16) (d : Desc) (rest : List Desc) (c : Fin 2) (s : State), s.Calm ∧ s.alive = true ∧
      s.tq[q].descs = d :: rest ∧ s.tq[q].sending = true ∧ c = portOf (netOf q) ∧ d.oneStep = true ∧
      s.tq[q].unstamped = false) ∧
    (∃ (p : Port) (k : Fin 2) (v : Int) (s : State), s.Calm ∧
      s.Admits p (Reg.RXR_RELEASE k) (dataAt (Reg.RXR_RELEASE k) v) v ∧ v ≤ Int.ofNat s.eth[k].ring.length) ∧
    (∃ (p : Port) (k : Fin 2) (v : Int) (s : State), s.Calm ∧
      s.Admits p (Reg.RXR_RELEASE k) (dataAt (Reg.RXR_RELEASE k) v) v ∧ Int.ofNat s.eth[k].ring.length < v) ∧
    (∃ (p : Port) (f : Fin 8) (v : Int) (s : State), s.Calm ∧
      s.Admits p (Reg.PF_ENABLE f) (dataAt (Reg.PF_ENABLE f) v) v ∧
      checkPf f s (overlay s.reg [(Reg.PF_ENABLE f, v)]) (Reg.PF_ENABLE f) v = .ok () ∧
      (v = 0 ∨ s.reg (Reg.PF_ENABLE f) = v)) ∧
    (∃ (p : Port) (f : Fin 8) (v : Int) (s : State), s.Calm ∧
      s.Admits p (Reg.PF_ENABLE f) (dataAt (Reg.PF_ENABLE f) v) v ∧
      checkPf f s (overlay s.reg [(Reg.PF_ENABLE f, v)]) (Reg.PF_ENABLE f) v = .ok () ∧ v ≠ 0 ∧
      s.reg (Reg.PF_ENABLE f) ≠ v) ∧
    (∃ (p : Port) (f : Fin 8) (v : Int) (s : State) (n : _), s.Calm ∧
      s.Admits p (Reg.PF_ENABLE f) (dataAt (Reg.PF_ENABLE f) v) v ∧
      checkPf f s (overlay s.reg [(Reg.PF_ENABLE f, v)]) (Reg.PF_ENABLE f) v = .error n) ∧
    (∃ (f : Fin 8) (q : Fin 16) (s : State), s.Calm ∧ s.alive = true ∧ s.flag (Reg.PF_ENABLE f) = true ∧
      reached s.timeNow s.pf[f].next = true ∧ q = chOf (s.reg (Reg.PF_QUEUE f)) ∧ s.tq[q].descs.length < 16) ∧
    (∃ (f : Fin 8) (q : Fin 16) (s : State), s.Calm ∧ s.alive = true ∧ s.flag (Reg.PF_ENABLE f) = true ∧
      reached s.timeNow s.pf[f].next = true ∧ q = chOf (s.reg (Reg.PF_QUEUE f)) ∧ 16 ≤ s.tq[q].descs.length ∧
      s.Mild (960 + f.val)) := by
  refine ⟨⟨0, 15, List.replicate 256 5, 0, w0, w0.regN (Reg.TQ_STAGE_OFS 15), ?_⟩,
    ⟨0, 15, descBytes 100 5 0 0 77, 0, w0, mkD n0 0 (descBytes 100 5 0 0 77), ?_⟩,
    ⟨0, 15, descBytes 100 5 0 0 77, 0, w11, mkD n0 0 (descBytes 100 5 0 0 77), ?_⟩,
    ⟨0, 15, descBytes 100 20 1 0 77, 0, w0, mkD n0 0 (descBytes 100 20 1 0 77), ?_⟩,
    ⟨0, 15, w0, ?_⟩,
    ⟨3, 14, dLate, [], decide (w7.reg (Reg.TQ_LATE_TOL 14) < w7.ext - dLate.instant), w7, ?_⟩,
    ⟨3, 14, dPast, [], decide (w9.reg (Reg.TQ_LATE_TOL 14) < w9.ext - dPast.instant), w9, ?_⟩,
    ⟨0, 0, dLate, [dOk], decide (w8.reg (Reg.TQ_LATE_TOL 0) < w8.ext - dLate.instant), w8, ?_⟩,
    ⟨3, 14, dOk, [dFut], decide (w4.reg (Reg.TQ_LATE_TOL 14) < w4.ext - dOk.instant), w4, ?_⟩,
    ⟨3, w0, ?_⟩,
    ⟨3, w0, 15, ?_⟩,
    ⟨3, w4, 14, 15, ?_⟩,
    ⟨0, dLate, [dOk], portOf (netOf 0), w0, ?_⟩,
    ⟨15, dLate, [dOk], portOf (netOf 15), w0, ?_⟩,
    ⟨15, dLate, [dOk], portOf (netOf 15), w0, ?_⟩,
    ⟨15, dOk, [dFut], portOf (netOf 15), w5, ?_⟩,
    ⟨0, 1, 1, w18, ?_⟩,
    ⟨0, 1, 1, w0, ?_⟩,
    ⟨0, 7, 0, w0, ?_⟩,
    ⟨0, 7, 1, w0, ?_⟩,
    ⟨0, 0, 0, w15, { abort := 101253168, detail := 12 }, ?_⟩,
    ⟨0, chOf (w12.reg (Reg.PF_QUEUE 0)), w12, ?_⟩,
    ⟨0, chOf (w14.reg (Reg.PF_QUEUE 0)), w14, ?_⟩⟩ <;> (try simp only [State.Calm, State.PlainSample,
      State.ClearHatband, State.OneCrossing, State.Mild, State.AdmitsCmd, admits_iff, rejects_iff, ok_iff,
      nak_iff]) <;> decide +kernel

end O55

namespace O56

def tm (f : TimeSt → TimeSt) (s : State) : State := s.modTime f
def wr (a b : Option Activity) (s : State) : State :=
  s.modSched mramDomain fun x => { x with running := a, pending := b }
def blk : UpdBlock := { port := 0, length := none, data := [1,2,3], route := .none }
def bl : State := { wr (some .fwBlock) none base with upd := { base.upd with state := .receiving, blocks := [blk, blk] } }
def trk : State := { base with ch := base.ch.map fun c => { c with state := .track } }
def trS : State := { trk with dev := { trk.dev with state := .service } }
def trB : State := { trS with sched := trS.sched.map fun x => { x with running := some .probe, pending := some .cal } }
def ed (s : State) : State := s.modSched mramDomain fun x => { x with edge := some s.now }
def w0 : State := ed (wr (some .store) none base)
def w11 : State := tm (fun t => { t with count := -5 }) base
def w9 : State := tm (fun t => { t with slew := 100 }) base
def w1 : State := ed (wr (some .logCompact) none base)
def w2 : State := { (wr (some .logCompact) none base) with now := 50000000000 }


/-- States and operands that meet the hypotheses of TimeSensorsAndTheSchedulerFollowTheirRules, clause by clause. -/
theorem wit_TimeSensorsAndTheSchedulerFollowTheirRules :
    (∃ (p : Port) (v : Int) (s : State), s.Calm ∧ s.Admits p Reg.TIME_INC (dataAt Reg.TIME_INC v) v) ∧
    (∃ (p : Port) (v : Int) (s : State), s.Calm ∧ s.Admits p Reg.TIME_SLEW (dataAt Reg.TIME_SLEW v) v) ∧
    (∃ (p : Port) (v : Int) (s : State), s.Calm ∧ s.Admits p Reg.TIME_REF80 (dataAt Reg.TIME_REF80 v) v) ∧
    (∃ (p : Port) (v : Int) (s : State), s.Calm ∧ s.Admits p Reg.TIME_STEP (dataAt Reg.TIME_STEP v) v ∧ s.Mild 996) ∧
    (∃ (s : State), s.Calm ∧ s.alive = true ∧ s.pending = [] ∧ s.edgeCarries = true) ∧
    (∃ (s : State), s.Calm ∧ s.alive = true ∧ s.pending = [] ∧ s.time.slew ≠ 0 ∧ slewPart s.time.slew = s.time.slew) ∧
    (∃ (s : State), s.Calm ∧ s.alive = true ∧ s.edgeCarries = false) ∧
    (∃ (s : State), s.Calm ∧ s.alive = true ∧ (s.time.slew = 0 ∨ slewPart s.time.slew ≠ s.time.slew)) ∧
    (∃ (s : State), s.Calm ∧ s.alive = true ∧ s.serviceOn = true ∧ s.Mild 1035) ∧
    (∃ (n : ChId) (s : State), s.Calm ∧ s.alive = true ∧ calmOk (s.probeAsk n) = true) ∧
    (∃ (n : ChId) (s : State), s.Calm ∧ s.alive = true ∧ effInjStart n s = .error nakSched) ∧
    (∃ (n : ChId) (s : State), s.Calm ∧ s.alive = true ∧ calmOk (effInjStart n s) = true) ∧
    (∃ (n : ChId) (s : State), s.Calm ∧ s.alive = true ∧ calmOk (effCalStart n s) = true) ∧
    (∃ (a : Activity) (s : State), s.Calm ∧ s.alive = true ∧ (a = .beadCommit ∨ a = .logCompact) ∧
      s.updWaits = false ∧ s.sched[mramDomain].running = none ∧ s.sched[mramDomain].pending ≠ some a) ∧
    (∃ (a : Activity) (s : State) (c : _), s.Calm ∧ s.alive = true ∧ (a = .beadCommit ∨ a = .logCompact) ∧
      s.updWaits = false ∧ s.sched[mramDomain].running = some c ∧ s.sched[mramDomain].edge = some s.now ∧
      prioOf a < prioOf c ∧ s.sched[mramDomain].pending = none) ∧
    (∃ (a : Activity) (s : State), s.Calm ∧ s.alive = true ∧ (a = .beadCommit ∨ a = .logCompact) ∧
      s.updWaits = false ∧ (s.sched[mramDomain].running = some a ∨ s.sched[mramDomain].pending = some a)) ∧
    (∃ (a : Activity) (s : State), s.Calm ∧ s.alive = true ∧ (a = .beadCommit ∨ a = .logCompact) ∧
      s.updWaits = false ∧ s.sched[mramDomain].running ≠ none ∧ s.sched[mramDomain].running ≠ some a ∧
      s.sched[mramDomain].pending = none ∧ s.sched[mramDomain].edge ≠ some s.now) ∧
    (∃ (a : Activity) (s : State), s.Calm ∧ s.alive = true ∧ (a = .beadCommit ∨ a = .logCompact) ∧
      s.updWaits = false ∧ s.sched[mramDomain].running ≠ none ∧ s.sched[mramDomain].running ≠ some a ∧
      (∃ c, s.sched[mramDomain].pending = some c ∧ c ≠ a)) ∧
    (∃ (s : State), s.Calm ∧ s.alive = true ∧ s.sched[mramDomain].suspended = false ∧ s.upd.state ≠ .waitQuiet ∧
      s.sched[mramDomain].pending ∉ [some .cal, some .test] ∧ s.sched[mramDomain].running = some .logCompact) ∧
    (∃ (s : State) (b : _) (rest : _), s.Calm ∧ s.alive = true ∧ s.sched[mramDomain].suspended = false ∧
      s.upd.state ≠ .waitQuiet ∧ s.sched[mramDomain].pending ∉ [some .cal, some .test] ∧
      s.sched[mramDomain].running = some .fwBlock ∧ s.upd.blocks = b :: rest ∧ b.length = none ∧
      s.upd.state = .receiving ∧ b.route = .none) ∧
    (∃ (s : State), s.Calm ∧ s.alive = true ∧ (∃ a, s.sched[mramDomain].running = some a ∧
      holdBound a * 10 ^ 6 < s.since s.sched[mramDomain].since) ∧ s.Mild 1034 ∧ (s.src 1034).cond = false ∧
      (s.src 1034).force = false) ∧
    (∃ (s : State), s.Calm ∧ s.alive = true ∧
      (∀ a, s.sched[mramDomain].running = some a → s.since s.sched[mramDomain].since ≤ holdBound a * 10 ^ 6)) := by
  refine ⟨⟨0, 67108864, w0, ?_⟩,
    ⟨0, 67108864, w0, ?_⟩,
    ⟨0, 67108864, w0, ?_⟩,
    ⟨0, 67108864, w0, ?_⟩,
    ⟨w11, ?_⟩,
    ⟨w9, ?_⟩,
    ⟨w0, ?_⟩,
    ⟨w0, ?_⟩,
    ⟨w0, ?_⟩,
    ⟨15, w0, ?_⟩,
    ⟨15, trB, ?_⟩,
    ⟨15, trS, ?_⟩,
    ⟨15, trS, ?_⟩,
    ⟨Activity.beadCommit, trS, ?_⟩,
    ⟨Activity.beadCommit, w0, Activity.store, ?_⟩,
    ⟨Activity.logCompact, w1, ?_⟩,
    ⟨Activity.beadCommit, w2, ?_⟩,
    ⟨Activity.beadCommit, trB, ?_⟩,
    ⟨w1, ?_⟩,
    ⟨bl, blk, [blk], ?_⟩,
    ⟨w2, ?_⟩,
    ⟨w0, ?_⟩⟩ <;> (try simp only [State.Calm, State.PlainSample, State.ClearHatband, State.OneCrossing, State.Mild,
      State.AdmitsCmd, admits_iff, rejects_iff, ok_iff, nak_iff]) <;> decide +kernel

end O56

namespace O57

def evq : LogEvent :=
  { source := 5, kind := 3, info := 0, states := 32, time := 0, wraps := 0, suspect := true, lost := false, tick := 0, record := none, fcSum := 0, cfg := 0, detail := [] }
def wr (a b : Option Activity) (s : State) : State :=
  s.modSched mramDomain fun x => { x with running := a, pending := b }
def up (f : Upd → Upd) (s : State) : State := { s with upd := f s.upd }
def d1024 : Bytes := List.replicate 1024 7#8
def blk : UpdBlock := { port := 0, length := some 2048, data := [], route := .none }
def img (n : Nat) : Bytes := leBytes 4 0x1640 ++ leBytes 4 n ++ [5#8] ++ List.replicate (n - 9) 0#8
def bn (n : Nat) (m : Bytes) (s : State) : State :=
  up (fun u => { u with state := .receiving, len := n, offset := n, banks := u.banks.set 1 { valid := false, image := m } }) s
def trial (s : State) : State :=
  up (fun u => { u with state := .trial, bank := true, banks := u.banks.set 1 { valid := true, image := img 2048 }, sel := u.sel.set 1 ⟨true, true, false, true, 2, selCrc true false true 2⟩ }) s
def loopS (s : State) : State :=
  { s with ch := s.ch.map fun c => { c with state := .track, loop := { c.loop with th := 77 } } }
def spc (s : State) : State :=
  { s with mgmt := { s.mgmt with recent := [0, 0, 0, 0], restartAt := 0 } }.setSrc 26 { state := .latched }
def w0 : State := spc (up (fun u => { u with state := .waitQuiet }) (loopS base))
def w5 : State := { base with fc := { base.fc with queue := [evq, evq] } }
def w1 : State := (spc (trial (loopS base))).setReg Reg.UPD_AUTO_CONFIRM 0
def w9 : State := up (fun u => { u with state := .waitQuiet, blocks := [blk] }) (wr (some .fwBlock) none base)
def w12 : State := up (fun u => { u with state := .receiving, len := 2048, offset := 0 }) base
def w15 : State := bn 2048 (img 2048) base
def w19 : State := up (fun u =>
  { u with state := .verified, otp := 0, banks := u.banks.set 1 { valid := true, image := img 2048 } }) base
def w8 : State := up (fun u => { u with state := .waitQuiet }) (loopS base)
def w21 : State := trial (loopS base)
def w23 : State := up (fun u => { u with faulted := true }) (trial base)


/-- States and operands that meet the hypotheses of LogAndUpdateGoThroughTheirSteps, clause by clause. -/
theorem wit_LogAndUpdateGoThroughTheirSteps :
    (∃ (s : State), s.Calm ∧ s.fc.queue = []) ∧
    (∃ (s : State) (e : _) (rest : _), s.Calm ∧ s.fc.queue = e :: rest ∧ s.alive = true ∧ s.serviceOn = true) ∧
    (∃ (p : Port) (s : State), s.Calm ∧ s.sched[mramDomain].running = none ∧
      s.sched[mramDomain].pending ≠ some .logCompact ∧ s.AdmitsCmd p Reg.LOG_COMPACT ∧ s.updWaits = false) ∧
    (∃ (p : Port) (s : State), s.Calm ∧ s.sched[mramDomain].running = none ∧
      s.sched[mramDomain].pending ≠ some .logCompact ∧ s.AdmitsCmd p Reg.LOG_COMPACT ∧ s.updWaits = true) ∧
    (∃ (s : State), s.Calm ∧ s.sched[mramDomain].running = none ∧ s.sched[mramDomain].pending ≠ some .logCompact ∧
      s.alive = true ∧ s.serviceOn = true ∧ s.updWaits = false) ∧
    (∃ (p : Port) (v : Int) (s : State), s.Calm ∧ s.Admits p Reg.UPD_BEGIN (dataAt Reg.UPD_BEGIN v) v ∧
      (s.upd.state = .idle ∨ s.upd.state = .failed) ∧ s.sched[mramDomain].running = none) ∧
    (∃ (p : Port) (v : Int) (s : State), s.Calm ∧ s.Admits p Reg.UPD_BEGIN (dataAt Reg.UPD_BEGIN v) v ∧
      s.upd.state ≠ .idle ∧ s.upd.state ≠ .failed) ∧
    (∃ (b : UpdBlock) (rest : List UpdBlock) (n : Nat) (s : State), s.Calm ∧ s.alive = true ∧
      s.sched[mramDomain].running = some .fwBlock ∧ s.upd.blocks = b :: rest ∧ b.length = some n ∧ b.route = .none) ∧
    (∃ (p : Port) (data : Bytes) (v : Int) (s : State) (w : Nat), s.Calm ∧ s.Admits p Reg.UPD_DATA data v ∧
      w = (s.upd.blocks.filter fun b => b.length.isNone).length ∧ s.upd.state = .receiving ∧
      s.upd.offset + 1024 * (w + 1) ≤ s.upd.len ∧ s.sched[mramDomain].running = none) ∧
    (∃ (p : Port) (data : Bytes) (v : Int) (s : State) (w : Nat), s.Calm ∧ s.Admits p Reg.UPD_DATA data v ∧
      w = (s.upd.blocks.filter fun b => b.length.isNone).length ∧ s.upd.state = .receiving ∧
      s.upd.len < s.upd.offset + 1024 * (w + 1)) ∧
    (∃ (p : Port) (data : Bytes) (v : Int) (s : State) (w : Nat), s.Calm ∧ s.Admits p Reg.UPD_DATA data v ∧
      w = (s.upd.blocks.filter fun b => b.length.isNone).length ∧ s.upd.state ≠ .receiving) ∧
    (∃ (p : Port) (s : State), s.Calm ∧ s.AdmitsCmd p Reg.UPD_VERIFY ∧ (¬ (s.upd.state = .receiving ∧
      s.upd.len ≤ s.upd.offset))) ∧
    (∃ (p : Port) (s : State), s.Calm ∧ s.AdmitsCmd p Reg.UPD_ACTIVATE ∧ (s.upd.state = .verified ∧
      s.upd.otp ≤ s.upd.banks[s.spare].sec)) ∧
    (∃ (p : Port) (s : State), s.Calm ∧ s.AdmitsCmd p Reg.UPD_ACTIVATE ∧ (¬ (s.upd.state = .verified ∧
      s.upd.otp ≤ s.upd.banks[s.spare].sec))) ∧
    (∃ (s : State), s.Calm ∧ s.alive = true ∧ s.upd.state = .waitQuiet ∧ s.restartSpaced = true) ∧
    (∃ (s : State), s.Calm ∧ s.alive = true ∧ s.upd.state = .waitQuiet ∧ s.serviceOn = true ∧ s.quiet = true ∧
      s.restartSpaced = false) ∧
    (∃ (s : State), s.Calm ∧ s.alive = true ∧ s.upd.state = .waitQuiet ∧ s.quiet = false) ∧
    (∃ (p : Port) (burnOk : Bool) (s : State) (sec : Nat), s.Calm ∧ sec = min 64 s.upd.banks[bankIx s.upd.bank].sec ∧
      s.upd.state = .trial ∧ (s.upd.otp < sec → burnOk = false → s.Mild 1033) ∧ s.AdmitsCmd p Reg.UPD_CONFIRM ∧
      (s.upd.otp < sec ∧ burnOk = false)) ∧
    (∃ (p : Port) (burnOk : Bool) (s : State) (sec : Nat), s.Calm ∧ sec = min 64 s.upd.banks[bankIx s.upd.bank].sec ∧
      s.upd.state = .trial ∧ (s.upd.otp < sec → burnOk = false → s.Mild 1033) ∧ s.AdmitsCmd p Reg.UPD_CONFIRM ∧
      (¬ (s.upd.otp < sec ∧ burnOk = false))) ∧
    (∃ (burnOk : Bool) (s : State) (sec : Nat), s.Calm ∧ sec = min 64 s.upd.banks[bankIx s.upd.bank].sec ∧
      s.upd.state = .trial ∧ (s.upd.otp < sec → burnOk = false → s.Mild 1033) ∧ s.alive = true ∧
      s.flag Reg.UPD_AUTO_CONFIRM = true ∧ s.upd.faulted = false) ∧
    (∃ (burnOk : Bool) (s : State) (sec : Nat), s.Calm ∧ sec = min 64 s.upd.banks[bankIx s.upd.bank].sec ∧
      s.upd.state = .trial ∧ (s.upd.otp < sec → burnOk = false → s.Mild 1033) ∧ s.alive = true ∧
      (s.flag Reg.UPD_AUTO_CONFIRM = false ∨ s.upd.faulted = true) ∧ s.restartSpaced = true) ∧
    (∃ (burnOk : Bool) (s : State) (sec : Nat), s.Calm ∧ sec = min 64 s.upd.banks[bankIx s.upd.bank].sec ∧
      s.upd.state = .trial ∧ (s.upd.otp < sec → burnOk = false → s.Mild 1033) ∧ s.alive = true ∧
      (s.flag Reg.UPD_AUTO_CONFIRM = false ∨ s.upd.faulted = true) ∧ s.restartSpaced = false) ∧
    (∃ (p : Port) (s : State) (sec : Nat), s.Calm ∧ sec = min 64 s.upd.banks[bankIx s.upd.bank].sec ∧
      s.upd.state ≠ .trial ∧ s.AdmitsCmd p Reg.UPD_CONFIRM) ∧
    (∃ (p : Port) (s : State), s.Calm ∧ s.AdmitsCmd p Reg.UPD_ABORT ∧
      (s.upd.state = .receiving ∨ s.upd.state = .verified ∨ s.upd.state = .waitQuiet ∨ s.upd.state = .failed)) ∧
    (∃ (p : Port) (s : State), s.Calm ∧ s.AdmitsCmd p Reg.UPD_ABORT ∧
      (s.upd.state = .idle ∨ s.upd.state = .verifying ∨ s.upd.state = .trial)) := by
  refine ⟨⟨w0, ?_⟩,
    ⟨w5, evq, [evq], ?_⟩,
    ⟨0, w1, ?_⟩,
    ⟨0, w0, ?_⟩,
    ⟨w1, ?_⟩,
    ⟨0, 2048, base, ?_⟩,
    ⟨0, 2048, w0, ?_⟩,
    ⟨blk, [], 2048, w9, ?_⟩,
    ⟨0, d1024, 0, w12, (w12.upd.blocks.filter fun b => b.length.isNone).length, ?_⟩,
    ⟨0, d1024, 0, w15, (w15.upd.blocks.filter fun b => b.length.isNone).length, ?_⟩,
    ⟨0, d1024, 0, w0, (w0.upd.blocks.filter fun b => b.length.isNone).length, ?_⟩,
    ⟨0, w0, ?_⟩,
    ⟨0, w19, ?_⟩,
    ⟨0, w0, ?_⟩,
    ⟨w0, ?_⟩,
    ⟨w8, ?_⟩,
    ⟨w9, ?_⟩,
    ⟨0, false, w1, min 64 w1.upd.banks[bankIx w1.upd.bank].sec, ?_⟩,
    ⟨0, true, w1, min 64 w1.upd.banks[bankIx w1.upd.bank].sec, ?_⟩,
    ⟨true, w21, min 64 w21.upd.banks[bankIx w21.upd.bank].sec, ?_⟩,
    ⟨true, w1, min 64 w1.upd.banks[bankIx w1.upd.bank].sec, ?_⟩,
    ⟨true, w23, min 64 w23.upd.banks[bankIx w23.upd.bank].sec, ?_⟩,
    ⟨0, w0, min 64 w0.upd.banks[bankIx w0.upd.bank].sec, ?_⟩,
    ⟨0, w0, ?_⟩,
    ⟨0, w1, ?_⟩⟩ <;> (try simp only [State.Calm, State.PlainSample, State.ClearHatband, State.OneCrossing, State.Mild,
      State.AdmitsCmd, admits_iff, rejects_iff, ok_iff, nak_iff]) <;> decide +kernel

end O57

namespace O58

def lc (n : Nat) (s : State) : State := { s with sec := { s.sec with lifecycle := n } }
def wr (a b : Option Activity) (s : State) : State :=
  s.modSched mramDomain fun x => { x with running := a, pending := b }
def pw (d : Power) (s : State) : State := { s with sup := { s.sup with power := d } }
def db (n : Nat) (s : State) : State := { s with sec := { s.sec with debug := n } }
def k32 : Bytes := List.replicate 32 0x33#8
def nc : Bytes := List.replicate 16 5#8
def resp (p : Port) : Bytes := [1#8] ++ hmac256 k32 (nc ++ leBytes 1 p.val ++ [1#8] ++ leBytes 4 Config.serial.toNat)
def au (s : State) : State :=
  { s with sec := { s.sec with lifecycle := 2, keyOperator := some k32 }, port := s.port.map fun x => { x with role := .observer, nonce := some (nc, 0) } }
def lk (s : State) : State :=
  { s with port := (s.port.set 0 { s.port[0] with lockUntil := some 5 }).set 6 { s.port[6] with lockUntil := some 7 } }
def actv (s : State) : State := { s with red := { s.red with state := .active, clmOut := true } }
def rich (iv : Int) (g : Int) (s : State) : State :=
  let s := r16 Reg.EMU_ENABLE 1 (r16 Reg.PSW_ENABLE 1 (r16 Reg.EMU_INVALID iv (r16 Reg.PSW_INVALID iv (r16
    Reg.EMU_SEAT_GATE g (r16 Reg.PSW_SEAT_GATE g (r16 Reg.CH_ENABLE 1 s))))))
  let s := (s.setReg (Reg.CH_ENABLE 3) 0).setReg (Reg.EMU_ENABLE 5) 0
  { s with
    ch := (s.ch.map fun c => { c with state := .track })
    front := (s.front.map fun f => { f with probe := .running })
    exc := ((s.exc.map fun e => { e with state := .run, mode := 1, step := 16, applied := 100 }).set 1
      { s.exc[1] with state := .ramp, mode := 1, step := 5, rising := true })
    emu := (s.emu.map fun e => { e with started := true, valid := true, c := 1002, a := .high, b := .high })
    psw := (s.psw.map fun p => { p with started := true, valid := true, active := true, level := .high }) }
def xon (s : State) : State := [0, 1, 2,
  3].foldl (fun s (e : Nat) => (s.setReg (Reg.EXC_MODE e) 1).setReg (Reg.EXC_ENABLE e) 1) s
def chq (s : State) : State := xon (r16 Reg.CH_ENABLE 1 (pw .quiet s))
def w0 : State := chq base
def w14 : State := lc 2 base
def w5 : State := rich 1 1 (actv base)
def w26 : State := { lk base with port := base.port.set 0 { base.port[0] with lockUntil := some 4 } }.raise 1091
def w28 : State := db 2 base
def w2 : State := rich 0 0 base
def w20 : State := wr (some .store) none (dv .safe base)
def w15 : State := lc 2 runS
def w6 : State := rich 0 0 (dv .safe base)
def w9 : State := ((rich 1 0 base).setSrc 20 { base.src 20 with state := .active }).setReg Reg.PWR_AUTO_HOLD 1
def w10 : State := lc 3 (rich 0 0 base)


/-- States and operands that meet the hypotheses of SecurityDebugAndPowerChangeByTheirConditions, clause by clause. -/
theorem wit_SecurityDebugAndPowerChangeByTheirConditions :
    (∃ (p : Port) (v : BitVec 32) (s : State), s.Calm ∧
      s.Admits p Reg.LC_ADVANCE (dataAt Reg.LC_ADVANCE (Int.ofNat v.toNat)) (Int.ofNat v.toNat) ∧
      lcSignature s.sec.lifecycle = some (Int.ofNat v.toNat) ∧ s.lcReady = true ∧ s.sec.lifecycle < 2) ∧
    (∃ (p : Port) (v : BitVec 32) (s : State), s.Calm ∧
      s.Admits p Reg.LC_ADVANCE (dataAt Reg.LC_ADVANCE (Int.ofNat v.toNat)) (Int.ofNat v.toNat) ∧
      lcSignature s.sec.lifecycle = some (Int.ofNat v.toNat) ∧ s.lcReady = true ∧ s.sec.lifecycle = 2 ∧
      (s.sup.power = .run ∨ s.sup.power = .quiet)) ∧
    (∃ (p : Port) (v : BitVec 32) (s : State), s.Calm ∧
      s.Admits p Reg.LC_ADVANCE (dataAt Reg.LC_ADVANCE (Int.ofNat v.toNat)) (Int.ofNat v.toNat) ∧
      lcSignature s.sec.lifecycle ≠ some (Int.ofNat v.toNat)) ∧
    (∃ (p : Port) (v : BitVec 32) (s : State), s.Calm ∧
      s.Admits p Reg.LC_ADVANCE (dataAt Reg.LC_ADVANCE (Int.ofNat v.toNat)) (Int.ofNat v.toNat) ∧
      lcSignature s.sec.lifecycle = some (Int.ofNat v.toNat) ∧ s.lcReady = false) ∧
    (∃ (p : Port) (q : Port) (s : State), s.Calm ∧ s.gate p = .ready ∧ p = q) ∧
    (∃ (p : Port) (q : Port) (s : State), s.Calm ∧ s.gate p = .ready ∧ p ≠ q) ∧
    (∃ (p : Port) (data : Bytes) (v : Int) (s : State), s.Calm ∧ s.Admits p (Reg.AUTH_RESPONSE p) data v ∧
      (s.beat p).responseRole p data = none ∧ s.Mild 1090 ∧ s.Mild 1091) ∧
    (∃ (p : Port) (q : Port) (s : State), s.Calm ∧ s.AdmitsCmd p (Reg.AUTH_LOGOUT q)) ∧
    (∃ (q : Port) (s : State), s.Calm ∧ s.alive = true ∧ s.port[q].lockUntil = none) ∧
    (∃ (q : Port) (s : State), s.Calm ∧ s.alive = true ∧ s.port[q].lockUntil ≠ none ∧
      (∀ j : Port, j ≠ q → s.port[j].lockUntil = none)) ∧
    (∃ (p : Port) (b : Bool) (data : Bytes) (v : Int) (k : Key) (s : State), s.Calm ∧
      k = (if b then Reg.KEY_INTEGRATOR else Reg.KEY_OPERATOR) ∧ s.Admits p k data v) ∧
    (∃ (p : Port) (v : Int) (s : State), s.Calm ∧ s.Admits p Reg.DBG_LEVEL (dataAt Reg.DBG_LEVEL v) v ∧ (p = 6 ∧
      Int.ofNat s.sec.debug < v ∨ v = 2 ∧ s.fullAdmitted = false)) ∧
    (∃ (p : Port) (v : Int) (s : State), s.Calm ∧ s.Admits p Reg.DBG_LEVEL (dataAt Reg.DBG_LEVEL v) v ∧ (¬ (p = 6 ∧
      Int.ofNat s.sec.debug < v)) ∧ (v = 2 → s.fullAdmitted = true) ∧ s.Mild 1089 ∧ s.sec.debug ≠ 2 ∧ v = 2) ∧
    (∃ (p : Port) (v : Int) (s : State), s.Calm ∧ s.Admits p Reg.DBG_LEVEL (dataAt Reg.DBG_LEVEL v) v ∧ (¬ (p = 6 ∧
      Int.ofNat s.sec.debug < v)) ∧ (v = 2 → s.fullAdmitted = true) ∧ s.Mild 1089 ∧ s.sec.debug ≠ v.toNat ∧ v ≠ 2) ∧
    (∃ (s : State), s.Calm ∧ s.runControl = true) ∧
    (∃ (s : State), s.Calm ∧ s.runControl = false) ∧
    (∃ (p : Port) (s : State), s.Calm ∧ s.Admits p Reg.PWR_CMD (dataAt Reg.PWR_CMD 0) 0 ∧ s.sup.power = .run) ∧
    (∃ (p : Port) (s : State), s.Calm ∧ s.Admits p Reg.PWR_CMD (dataAt Reg.PWR_CMD 0) 0 ∧ s.sup.power ≠ .run) ∧
    (∃ (p : Port) (s : State), s.Calm ∧ s.Admits p Reg.PWR_CMD (dataAt Reg.PWR_CMD 1) 1 ∧ s.sup.power = .run ∧
      (s.dev.state = .config ∨ s.dev.state = .safe) ∧ s.mramIdle = true ∧ (∀ n : ChId, s.Mild (chSrc n 16))) ∧
    (∃ (p : Port) (s : State), s.Calm ∧ s.Admits p Reg.PWR_CMD (dataAt Reg.PWR_CMD 1) 1 ∧ s.sup.power = .run ∧
      (s.dev.state = .config ∨ s.dev.state = .safe) ∧ s.mramIdle = false) ∧
    (∃ (p : Port) (s : State), s.Calm ∧ s.Admits p Reg.PWR_CMD (dataAt Reg.PWR_CMD 1) 1 ∧ s.sup.power ≠ .quiet ∧
      (¬ (s.sup.power = .run ∧ (s.dev.state = .config ∨ s.dev.state = .safe)))) ∧
    (∃ (p : Port) (s : State), s.Calm ∧ s.Admits p Reg.PWR_CMD (dataAt Reg.PWR_CMD 2) 2 ∧ s.sup.power ≠ .safeHold ∧
      s.dev.state = .safe ∧ (∀ n : ChId, s.Mild (chSrc n 16)) ∧ s.sup.power = .run) ∧
    (∃ (p : Port) (s : State), s.Calm ∧ s.Admits p Reg.PWR_CMD (dataAt Reg.PWR_CMD 2) 2 ∧ s.sup.power ≠ .safeHold ∧
      s.dev.state ≠ .safe) ∧
    (∃ (s : State), s.Calm ∧ s.alive = true ∧ (s.sup.power = .run ∨ s.sup.power = .quiet) ∧
      (s.src 20).state = .active ∧ s.flag Reg.PWR_AUTO_HOLD = true ∧ (∀ n : ChId, s.Mild (chSrc n 16)) ∧
      s.sup.power = .run) ∧
    (∃ (s : State), s.Calm ∧ s.alive = true ∧ (s.sup.power = .run ∨ s.sup.power = .quiet) ∧ s.sec.lifecycle = 3 ∧
      (∀ n : ChId, s.Mild (chSrc n 16)) ∧ s.sup.power = .run) ∧
    (∃ (p : Port) (v : BitVec 32) (s : State), s.Calm ∧
      s.Admits p Reg.PWR_OFF (dataAt Reg.PWR_OFF (Int.ofNat v.toNat)) (Int.ofNat v.toNat) ∧ v = 0x746C6168 ∧
      s.dev.state = .safe ∧ s.mramIdle = true ∧ s.sup.power ≠ .off) ∧
    (∃ (p : Port) (v : BitVec 32) (s : State), s.Calm ∧
      s.Admits p Reg.PWR_OFF (dataAt Reg.PWR_OFF (Int.ofNat v.toNat)) (Int.ofNat v.toNat) ∧ v = 0x746C6168 ∧
      s.dev.state = .safe ∧ s.mramIdle = false) ∧
    (∃ (p : Port) (v : BitVec 32) (s : State), s.Calm ∧
      s.Admits p Reg.PWR_OFF (dataAt Reg.PWR_OFF (Int.ofNat v.toNat)) (Int.ofNat v.toNat) ∧ v = 0x746C6168 ∧
      s.dev.state ≠ .safe) ∧
    (∃ (p : Port) (v : BitVec 32) (s : State), s.Calm ∧
      s.Admits p Reg.PWR_OFF (dataAt Reg.PWR_OFF (Int.ofNat v.toNat)) (Int.ofNat v.toNat) ∧ v ≠ 0x746C6168) := by
  refine ⟨⟨0, 0x6c616573#32, w0, ?_⟩,
    ⟨0, 0x69746572#32, w14, ?_⟩,
    ⟨0, 0x6c766564#32, w0, ?_⟩,
    ⟨0, 0x6c616573#32, w5, ?_⟩,
    ⟨0, 0, w0, ?_⟩,
    ⟨0, 6, w0, ?_⟩,
    ⟨0, resp 0, 0, w0, ?_⟩,
    ⟨0, 0, w0, ?_⟩,
    ⟨6, w0, ?_⟩,
    ⟨0, w26, ?_⟩,
    ⟨0, true, k32, 0, (if true then Reg.KEY_INTEGRATOR else Reg.KEY_OPERATOR), w0, ?_⟩,
    ⟨0, 2, w14, ?_⟩,
    ⟨0, 2, w0, ?_⟩,
    ⟨0, 1, w0, ?_⟩,
    ⟨w28, ?_⟩,
    ⟨w0, ?_⟩,
    ⟨0, w2, ?_⟩,
    ⟨0, w0, ?_⟩,
    ⟨0, w2, ?_⟩,
    ⟨0, w20, ?_⟩,
    ⟨0, w15, ?_⟩,
    ⟨0, w6, ?_⟩,
    ⟨0, w0, ?_⟩,
    ⟨w9, ?_⟩,
    ⟨w10, ?_⟩,
    ⟨0, 0x746C6168, w6, ?_⟩,
    ⟨0, 0x746C6168, w20, ?_⟩,
    ⟨0, 0x746C6168, w0, ?_⟩,
    ⟨0, 0x6c766564#32, w0, ?_⟩⟩ <;> (try simp only [State.Calm, State.PlainSample, State.ClearHatband,
      State.OneCrossing, State.Mild, State.AdmitsCmd, admits_iff, rejects_iff, ok_iff, nak_iff]) <;> decide +kernel

/-- A response of the right MAC for an unknown serial number. -/
theorem wit_authResponse :
    ∃ (p : Port) (data : Bytes) (v : Int) (s : State) (r : Role), s.Calm ∧ s.Admits p (Reg.AUTH_RESPONSE p) data v ∧
      (s.beat p).responseRole p data = some r := by
  refine ⟨0, resp 0, 0, au base, .operator, by unfold State.Calm; decide +kernel,
    (admits_iff ..).2 (by decide +kernel), ?_⟩
  have hm : macOk k32 nc 0 (resp 0) = true := by simp [macOk, resp]
  have hr : roleOfNum ((resp 0).getD 0 0#8).toNat = .operator := rfl
  have hn : ((au base).beat 0).port[(0 : Port)].nonce = some (nc, 0) := by decide +kernel
  have hk : ((au base).beat 0).admitted .operator = some k32 := by decide +kernel
  have hl : (((au base).beat 0).port[(0 : Port)].lockUntil.isNone && decide (((au base).beat 0).now ≤ 0 + edgesOf 10))
    = true := by
    decide +kernel
  simp only [State.responseRole, hr, hn, hk, hm, hl, Bool.and_self, if_true]

end O58

namespace O59

def rs : State := State.reset
def lg (l : List (Nat × Bytes)) (s : State) : State := { s with mgmt := {}, log := { s.log with recs := l } }
def gr : Bytes := base.logRecord ev0
def vh (s : State) : State := { s with sup := { s.sup with vanaHold := true } }
def w0 : State := lg [(5, [1])] base
def w14 : State := { rs with sup := { rs.sup with vio := false } }
def w3 : State := vh rs
def w13 : State := { rs with sup := { rs.sup with reset := false } }
def w7 : State := lg [(5, gr), (4, [2]), (3, [2])] base
def w16 : State := { base with mgmt := {}, upd := { base.upd with bank := true } }


/-- States and operands that meet the hypotheses of ResetsReleasesAndHoldsOfTheSupplies, clause by clause. -/
theorem wit_ResetsReleasesAndHoldsOfTheSupplies :
    (∃ (s : State), s.Calm ∧ s.sup.vio = true) ∧
    (∃ (s : State), s.Calm ∧ s.sup.vio = false) ∧
    (∃ (s : State), s.Calm ∧ s.floorOn = true ∧ SMap.wf (fun _ => {}) s.fc.srcs = true) ∧
    (∃ (s : State), s.Calm ∧ s.floorOn = false) ∧
    (∃ (s : State), s.sup.vio = true ∧ s.sup.reset = true) ∧
    (∃ (s : State), (s.sup.vexcHold = true ∨ s.sup.vanaHold = true)) ∧
    (∃ (strap : BitVec 2) (s : State) (r : BankSel), s.Calm ∧ s.floorOn = true ∧ s.sup.reset = true ∧
      r = (s.upd.sel.map BankSel.checked)[newestSel (s.upd.sel.map BankSel.checked)] ∧ strap = 3) ∧
    (∃ (s : State) (r : BankSel), s.Calm ∧ s.floorOn = true ∧ s.sup.reset = true ∧
      r = (s.upd.sel.map BankSel.checked)[newestSel (s.upd.sel.map BankSel.checked)] ∧ s.sup.vanaHold = true) ∧
    (∃ (s : State), s.Calm ∧ s.floorOn = true ∧ s.sup.reset = false ∧ s.sup.pll = false) ∧
    (∃ (s : State), s.Calm ∧ s.alive = true ∧ s.mgmt.service = false ∧ s.bootable s.upd.bank = true ∧ s.Mild 1028 ∧
      (s.log.recs.drop 1).all (fun x => logOk x.2) = true) ∧
    (∃ (s : State), s.Calm ∧ s.alive = true ∧ s.mgmt.service = false ∧ s.bootable s.upd.bank = true ∧ s.Mild 1028 ∧
      (s.log.recs.drop 1).all (fun x => logOk x.2) = false) ∧
    (∃ (s : State), s.Calm ∧ s.alive = true ∧ s.mgmt.service = false ∧ s.bootable s.upd.bank = false) := by
  refine ⟨⟨w0, ?_⟩,
    ⟨w14, ?_⟩,
    ⟨w0, ?_⟩,
    ⟨w14, ?_⟩,
    ⟨w3, ?_⟩,
    ⟨w3, ?_⟩,
    ⟨3, w3, (w3.upd.sel.map BankSel.checked)[newestSel (w3.upd.sel.map BankSel.checked)], ?_⟩,
    ⟨w3, (w3.upd.sel.map BankSel.checked)[newestSel (w3.upd.sel.map BankSel.checked)], ?_⟩,
    ⟨w13, ?_⟩,
    ⟨w0, ?_⟩,
    ⟨w7, ?_⟩,
    ⟨w16, ?_⟩⟩ <;> (try simp only [State.Calm, State.PlainSample, State.ClearHatband, State.OneCrossing, State.Mild,
      State.AdmitsCmd, admits_iff, rejects_iff, ok_iff, nak_iff]) <;> decide +kernel

end O59

end Sys2Proof.Tests
end

section
/-!
PROOFS. The fixed widths of the manual (R7, R9): a signed number as little-endian bytes and back, the fields of a POS40,
and the fields of a TIME80 and a TIME32.
-/

namespace Sys2Proof.Machine

/-! ### Signed numbers as bytes (R10) -/

/-- The bytes of a signed number spell its two's complement. -/
theorem leNat_leInt (n : Nat) (x : Int) : leNat (leInt n x) = (BitVec.ofInt (8 * n) x).toNat := by
  have hw : (256 : Nat) ^ n = 2 ^ (8 * n) := by rw [pow_mul]; norm_num
  rw [leInt, leNat_leBytes, hw, Nat.mod_eq_of_lt (BitVec.isLt _)]

/-- Wrapping the two's complement of a number wraps the number itself. -/
theorem wrapS_toNat_ofInt (w : Nat) (x : Int) : wrapS w (BitVec.ofInt w x).toNat = wrapS w x := by
  rw [wrapS, BitVec.ofInt_natCast, BitVec.ofNat_toNat, BitVec.setWidth_eq, wrapS]

/-- A signed number that its width can hold is left as it is by wrapping. -/
theorem wrapS_of_bounds {w : Nat} (hw : 0 < w) {x : Int} (hlo : -2 ^ (w - 1) ≤ x) (hhi : x < 2 ^ (w - 1)) :
    wrapS w x = x := by
  rw [wrapS, BitVec.toInt_ofInt_eq_self hw hlo hhi]

/-- A signed number read back from enough bytes is the number that was written. -/
theorem wrapS_leNat_leInt {n : Nat} (hn : 0 < n) {x : Int} (hlo : -2 ^ (8 * n - 1) ≤ x) (hhi : x < 2 ^ (8 * n - 1)) :
    wrapS (8 * n) (leNat (leInt n x)) = x := by
  rw [leNat_leInt, wrapS_toNat_ofInt, wrapS_of_bounds (by omega) hlo hhi]

/-! ### The position word (R7) -/

/-- Wrapping changes no number modulo its width. -/
theorem wrapS_emod (w : Nat) (x : Int) : wrapS w x % 2 ^ w = x % 2 ^ w := by
  have h := Int.bmod_emod (x := x) (m := 2 ^ w)
  rwa [← BitVec.toInt_ofInt, Nat.cast_pow] at h

/-- A wrapped 16-bit count lies in the signed 16-bit range. -/
theorem wrapS16_bounds (x : Int) : -2 ^ 15 ≤ wrapS 16 x ∧ wrapS 16 x < 2 ^ 15 :=
  ⟨BitVec.le_toInt _, BitVec.toInt_lt⟩

/-- The angle of a phase is its high 24 bits. -/
theorem angle24_lt (th : BitVec 32) : th.toNat / 256 < 2 ^ 24 := by
  have := th.isLt
  omega

/-- A POS40 is a signed 40-bit number. -/
theorem pos40_bounds (th : BitVec 32) (carry : Int) : -2 ^ 39 ≤ pos40 th carry ∧ pos40 th carry < 2 ^ 39 := by
  obtain ⟨hlo, hhi⟩ := wrapS16_bounds carry
  have hth := angle24_lt th
  simp only [pos40, Int.ofNat_eq_natCast]
  omega

/-- The 40-bit pattern of a POS40: the carry count's 16 bits above the angle. -/
theorem leNat_leInt_pos40 (th : BitVec 32) (carry : Int) :
    leNat (leInt 5 (pos40 th carry)) = (carry % 2 ^ 16).toNat * 2 ^ 24 + th.toNat / 256 := by
  have hc := wrapS_emod 16 carry
  have hth := angle24_lt th
  rw [leNat_leInt, BitVec.toNat_ofInt, pos40, Int.ofNat_eq_natCast]
  norm_num at hc ⊢
  omega

/-- Settles O9: the bit pattern gives the two fields, the signed range gives the reading back. -/
theorem pos40LaysOutCarryAndAngle : Obligations.Pos40LaysOutCarryAndAngle := by
  intro th carry
  have hth := angle24_lt th
  obtain ⟨hlo, hhi⟩ := pos40_bounds th carry
  refine ⟨?carry, ?angle, wrapS_leNat_leInt (n := 5) (by omega) hlo hhi⟩
  case carry => rw [leNat_leInt_pos40]; omega
  case angle => rw [leNat_leInt_pos40]; omega

/-! ### Network time (R9) -/

/-- The nanoseconds within a second fit their 32-bit field. -/
theorem nsPart_lt (n : Int) : (n % 10 ^ 9).toNat < 10 ^ 9 := by
  omega

/-- Bits [79:32] of a TIME80 are the seconds. -/
theorem time80_div (n : Int) : time80 n / 2 ^ 32 = (n / 10 ^ 9).toNat % 2 ^ 48 := by
  have := nsPart_lt n
  rw [time80]
  omega

/-- Bits [31:0] of a TIME80 are the nanoseconds. -/
theorem time80_mod (n : Int) : time80 n % 2 ^ 32 = (n % 10 ^ 9).toNat := by
  have := nsPart_lt n
  rw [time80]
  omega

/-- The nanosecond field of a stamp never exceeds 999,999,999. -/
theorem stamp80_mod_le (s : State) (x : Time32) : s.stamp80 x % 2 ^ 32 ≤ 999999999 := by
  rw [State.stamp80, time80_mod]
  exact Nat.le_of_lt_succ (nsPart_lt _)

/-- The present TIME32 is the counter without its 24 fraction bits. -/
theorem timeNow_toNat (s : State) : s.timeNow.toNat = s.time.count.toNat / 2 ^ 24 := by
  have := s.time.count.isLt
  simp only [State.timeNow, BitVec.toNat_setWidth, BitVec.toNat_ushiftRight, Nat.shiftRight_eq_div_pow]
  omega

/-- Settles O10: the fields of a TIME80, the bound of a stamp's, and the TIME32 of the counter. -/
theorem time80NanosecondsStayBelowOneSecond : Obligations.Time80NanosecondsStayBelowOneSecond := by
  intro n s x
  refine ⟨?seconds, ?nanoseconds, stamp80_mod_le s x, timeNow_toNat⟩
  case seconds => rw [time80_div]; omega
  case nanoseconds => rw [time80_mod]; omega

end Sys2Proof.Machine
end

section
/-!
PROOFS. An access refused by its own conditions leaves the refusal's marks and nothing else (R266), and the refusal of a
frequency below five times a recorded bandwidth (R42).
-/

namespace Sys2Proof.Machine

/-! ### What a refusal leaves (R266) -/

/-- A refusal that is neither the scheduler's nor one of role leaves the counter and the diagnostic record alone. -/
theorem State.refuse_eq (s : State) (p : Port) (k : Key) {n : Nak} (hs : n ≠ nakSched) (hr : n ≠ nakRole) :
    s.refuse p k n = (s.bump Reg.DEV_REFUSE_CNT).modDev fun d =>
      { d with diag := (⟨n, p, s.dev.state, k, s.roleOf p, s.timeNow⟩ :: d.diag).take 16 } := by
  simp only [State.refuse, hs, hr, Bool.false_eq_true, decide_false, Bool.false_and, if_false]

/-- One more refusal counted changes nothing of what is visible for a source. -/
theorem bumpRefusals_calm (s : State) (c : s.Calm) : (s.bump Reg.DEV_REFUSE_CNT).Calm := by
  refine calm_of (s := s) rfl rfl (.inl rfl) ?_ c
  unfold State.fltVisible State.regN State.flag
  rw [State.reg_bump_ne s (by decide), State.reg_bump_ne s (by decide), State.reg_bump_ne s (by decide)]

/-- A refusal asks for no DEVICE-SAFE entry. -/
theorem refuse_calm (s : State) (p : Port) (k : Key) {n : Nak} (hs : n ≠ nakSched) (hr : n ≠ nakRole) (c : s.Calm) :
    (s.refuse p k n).Calm := by
  rw [State.refuse_eq s p k hs hr]
  exact calm_of (s := s.bump Reg.DEV_REFUSE_CNT) rfl rfl (.inl rfl) rfl (bumpRefusals_calm s c)

/-- The heartbeat of an access leaves the role of every port. -/
theorem roleOf_beat (s : State) (p q : Port) : (s.beat p).roleOf q = s.roleOf q := by
  have hrole : (s.beat p).port[q].role = s.port[q].role := by
    simp only [State.beat, State.modPort, Fin.getElem_fin, vmod_get]
    split
    · next h => subst h; rfl
    · rfl
  unfold State.roleOf
  rw [hrole]
  rfl

/-- A refused access leaves the marks of a refusal only. -/
theorem refusedAs_refuse (s : State) (p : Port) (k : Key) {n : Nak} (hs : n ≠ nakSched) (hr : n ≠ nakRole) :
    s.RefusedAs ((s.beat p).refuse p k n) p k n := by
  rw [State.refuse_eq _ p k hs hr, roleOf_beat]
  exact ⟨State.reg_bump (s.beat p) _, fun j hj => State.reg_bump_ne (s.beat p) hj.symm, rfl, rfl⟩

/-- An admitted access that its own conditions refuse answers a state with the marks of a refusal only. -/
theorem hostWrite_refusedAs {s : State} {p : Port} {k : Key} {data : Bytes} {v : Int} {n : Nak} {eff : Int → Eff}
    (c : s.Calm) (h : s.Admits p k data v) (he : eff v (s.beat p) = .error n) (hs : n ≠ nakSched) (hr : n ≠ nakRole) :
    ∃ t, hostWrite p k data eff s = .next t ∧ s.RefusedAs t p k n := by
  refine ⟨(s.beat p).refuse p k n, ?_, refusedAs_refuse s p k hs hr⟩
  rw [hostWrite_conditions s p k data v n eff h he, settled_calm _ (refuse_calm _ p k hs hr (beat_calm s p c))]

/-- The newest diagnostic record of a refused access is the one of its refusal. -/
theorem State.RefusedAs.head_diag {s t : State} {p : Port} {k : Key} {n : Nak} (h : s.RefusedAs t p k n) :
    t.dev.diag.head? = some ⟨n, p, s.dev.state, k, s.roleOf p, s.timeNow⟩ := by
  obtain ⟨_, _, hdiag, _⟩ := h
  rw [hdiag]
  rfl

/-! ### Conditions of a visible write (R268) -/

/-- A condition that does not hold refuses. -/
theorem need_false {b : Bool} (n : Nak) (h : b = false) : need b n = .error n := by
  rw [h]
  rfl

/-- A write leaves the configuration of every other object as it stands. -/
theorem overlay_single_ne (get : Key → Int) {k j : Key} (v : Int) (h : j ≠ k) : overlay get [(k, v)] j = get j := by
  have hk : (k == j) = false := beq_false_of_ne h.symm
  simp only [overlay, List.find?_cons, hk, List.find?_nil]

/-- A visible write whose check fails is refused for the check's reason. -/
theorem effVisible_error {check : State → (Key → Int) → Key → Int → Except Nak Unit}
    {apply : State → Key → Int → Int → State} {k : Key} {v : Int} {s : State} {n : Nak}
    (h : check s (overlay s.reg [(k, v)]) k v = .error n) : effVisible check apply k v s = .error n := by
  rw [effVisible, h]
  rfl

/-! ### The check of EXC_FREQ (R42) -/

/-- No object below 3000h, where the channels' objects end, is an exciter's frequency. -/
theorem ne_EXC_FREQ (e : ExcId) {j : Key} (h : j < 0x300000) : j ≠ Reg.EXC_FREQ e := by
  have hfreq : 0x300000 ≤ Reg.EXC_FREQ e := by
    change 0x300000 ≤ 0x390002 + 0x2000 * e.val
    omega
  exact Nat.ne_of_lt (Nat.lt_of_lt_of_le h hfreq)

theorem CH_EXC_SEL_lt (n : ChId) : Reg.CH_EXC_SEL n < 0x300000 := by
  change 0x201001 + 0x10000 * n.val < 0x300000
  omega

theorem CH_VEL_FS_lt (n : ChId) : Reg.CH_VEL_FS n < 0x300000 := by
  change 0x20130C + 0x10000 * n.val < 0x300000
  omega

theorem bankKey_lt (b : Bool) {sub : Nat} (hsub : sub ≤ 8) (n : ChId) : bankKey b sub n < 0x300000 := by
  cases b with
  | false =>
    change 0x203001 + 0x10000 * n.val + (sub - 1) < 0x300000
    omega
  | true =>
    change 0x204801 + 0x10000 * n.val + (sub - 1) < 0x300000
    omega

/-- The recorded bandwidth follows the channel's full-scale velocity and the bank's KI alone (R82). -/
theorem bankAbove_congr {get get' : Key → Int} {n : ChId} {b : Bool} (f : Int)
    (hv : get (Reg.CH_VEL_FS n) = get' (Reg.CH_VEL_FS n)) (hq : get (bankKey b 3 n) = get' (bankKey b 3 n))
    (hs : get (bankKey b 4 n) = get' (bankKey b 4 n)) : bankAbove get n b f = bankAbove get' n b f := by
  simp only [bankAbove, coefsOf, hv, hq, hs]

/-- A write of EXC_FREQ moves no recorded bandwidth. -/
theorem bankAbove_overlay_EXC_FREQ (get : Key → Int) (e : ExcId) (w : Int) (n : ChId) (b : Bool) (f : Int) :
    bankAbove (overlay get [(Reg.EXC_FREQ e, w)]) n b f = bankAbove get n b f :=
  bankAbove_congr f (overlay_single_ne get w (ne_EXC_FREQ e (CH_VEL_FS_lt n)))
    (overlay_single_ne get w (ne_EXC_FREQ e (bankKey_lt b (by decide) n)))
    (overlay_single_ne get w (ne_EXC_FREQ e (bankKey_lt b (by decide) n)))

/-- One bank of one channel on the exciter suffices for the refusal. -/
theorem checkExcFreq_error {e : ExcId} (s : State) {get : Key → Int} (k : Key) {v : Int} {n : ChId} {b : Bool}
    (hn : excOf (get (Reg.CH_EXC_SEL n)) = e) (hb : bankAbove get n b v = true) :
    checkExcFreq e s get k v = .error nakLow := by
  have hbank : (bankAbove get n false v || bankAbove get n true v) = true := by
    cases b with
    | false => rw [hb, Bool.true_or]
    | true => rw [hb, Bool.or_true]
  refine need_false _ ?_
  rw [Bool.not_eq_false', List.any_eq_true]
  exact ⟨n, List.mem_finRange n, by simp only [hn, hbank, decide_true, Bool.and_self]⟩

/-- The effect of a write of EXC_FREQ is refused where a recorded bandwidth lies above a fifth of the frequency. -/
theorem effVisible_checkExcFreq_error {e : ExcId} {s : State} {v : Int} {n : ChId} {b : Bool} (hn : s.excIx n = e)
    (hb : bankAbove s.reg n b v = true) :
    effVisible (checkExcFreq e) (applyExcFreq e) (Reg.EXC_FREQ e) v s = .error nakLow := by
  refine effVisible_error (checkExcFreq_error s _ (n := n) (b := b) ?_ ?_)
  · rw [overlay_single_ne s.reg v (ne_EXC_FREQ e (CH_EXC_SEL_lt n))]
    exact hn
  · rw [bankAbove_overlay_EXC_FREQ]
    exact hb

/-- Settles O18: the write reaches its check, which one bank above a fifth of the frequency fails. -/
theorem excFreqBelowFiveBandwidthsIsRefused : Obligations.ExcFreqBelowFiveBandwidthsIsRefused := by
  intro p e v s n b hcalm hadmits hn hb
  have hrefuse : effVisible (checkExcFreq e) (applyExcFreq e) (Reg.EXC_FREQ e) v (s.beat p) = .error nakLow :=
    effVisible_checkExcFreq_error (n := n) (b := b) hn hb
  obtain ⟨t, hrun, hmarks⟩ := hostWrite_refusedAs hcalm hadmits hrefuse (by decide) (by decide)
  exact ⟨t, hrun, hmarks, hmarks.head_diag⟩

end Sys2Proof.Machine
end

section
/-!
PROOFS. The queue and the reset state: a step takes the front of the queue (log entry 1), and the state after reset
holds the values of the manual and meets the invariants.
-/

namespace Sys2Proof.Machine

set_option Elab.async false

/-- Settles O1: the queue's front is what a step matches on. -/
theorem frontCommandRuns : Obligations.FrontCommandRuns := fun _ _ _ => rfl

theorem reset_bounded : State.reset.Bounded := by
  unfold State.Bounded
  decide

/-- Settles O3: every stated value is a field of the reset state, or the default that its dictionary entry names. -/
theorem resetLeavesTheStatedValues : Obligations.ResetLeavesTheStatedValues := by
  unfold Obligations.ResetLeavesTheStatedValues
  decide

theorem reset_calm : State.reset.Calm := by
  unfold State.Calm
  decide

theorem reset_canonical : State.reset.RegsCanonical := by
  unfold State.RegsCanonical
  decide

/-- Settles O4: the three invariants are evaluated on the reset state. -/
theorem resetMeetsTheInvariants : Obligations.ResetMeetsTheInvariants :=
  ⟨reset_calm, reset_canonical, reset_bounded⟩

end Sys2Proof.Machine
end

section
/-!
PROOFS. An SCLK edge on which no exciter passes a zero crossing and no probe keeps time (R14, R30, R301, R302).
-/

namespace Sys2Proof.Machine

set_option Elab.async false

/-- An exciter over one LCLK edge without a zero crossing (R30). -/
def Exc.advance (x : Exc) : Exc := { x with acc := if x.driving then x.acc + x.ftw else x.acc }

@[simp] theorem Exc.driving_acc (x : Exc) (a : BitVec 32) : ({ x with acc := a } : Exc).driving = x.driving := rfl
@[simp] theorem Exc.advance_driving (x : Exc) : x.advance.driving = x.driving := rfl
@[simp] theorem Exc.advance_ftw (x : Exc) : x.advance.ftw = x.ftw := rfl

theorem vmod_congr {α : Type} {n : Nat} (v : Vector α n) (i : Fin n) {f g : α → α} (h : f v[i.val] = g v[i.val]) :
    vmod v i f = vmod v i g := by
  rw [vmod, vmod, Fin.getElem_fin, h]

theorem vmod_id {α : Type} {n : Nat} (v : Vector α n) (i : Fin n) {f : α → α} (h : f v[i.val] = v[i.val]) :
    vmod v i f = v := by
  simp [vmod, h]

theorem vmod_vmod {α : Type} {n : Nat} (v : Vector α n) (i : Fin n) (f g : α → α) :
    vmod (vmod v i f) i g = vmod v i (g ∘ f) := by
  simp [vmod]

/-- Probes that do not run keep no time. -/
theorem probeClock_idle {s : State} (h : ∀ n : ChId, s.front[n].probe ≠ .running) (e : ExcId) (r : Bool)
    (c : Option Bool) : s.probeClock e r c = s := by
  unfold State.probeClock State.each
  induction s.users e with
  | nil => rfl
  | cons n l ih => rw [List.foldl_cons, if_pos (h n)]; exact ih

theorem modExc_get (s : State) (e d : ExcId) (f : Exc → Exc) :
    (s.modExc e f).exc[d] = if e = d then f s.exc[d] else s.exc[d] := by
  simp only [State.modExc, Fin.getElem_fin, vmod_get]
  split
  · next h => rw [h]
  · rfl

/-- An exciter that crosses zero on neither LCLK edge. -/
theorem crosses_none {x : Exc} (h : ∀ b, x.crosses b = false) (hd : x.driving = true) :
    passes x.acc (x.acc + x.ftw) = none ∧ passes (x.acc + x.ftw) (x.acc + x.ftw + x.ftw) = none := by
  simp only [Exc.crosses, hd, Bool.true_and, Bool.or_eq_false_iff, decide_eq_false_iff_not] at h
  exact ⟨Option.eq_none_iff_forall_ne_some.mpr fun b hb => (h b).1 hb,
    Option.eq_none_iff_forall_ne_some.mpr fun b hb => (h b).2 hb⟩

/-- An LCLK edge without a crossing only advances the accumulator of a driving exciter. -/
theorem excLclk_quiet {s : State} (hp : ∀ n : ChId, s.front[n].probe ≠ .running) {e : ExcId}
    (hx : s.exc[e].driving = true → passes s.exc[e].acc (s.exc[e].acc + s.exc[e].ftw) = none) :
    s.excLclk e = s.modExc e Exc.advance := by
  unfold State.excLclk
  by_cases hd : s.exc[e].driving = true
  · have hset : s.modExc e (fun x => { x with acc := s.exc[e].acc + s.exc[e].ftw }) = s.modExc e Exc.advance := by
      have hadv : s.exc[e].advance = { s.exc[e] with acc := s.exc[e].acc + s.exc[e].ftw } := by
        rw [Exc.advance, if_pos hd]
      rw [State.modExc, State.modExc, vmod_congr _ e hadv.symm]
    rw [if_pos hd]
    simp only [hx hd, hset]
    exact probeClock_idle (s := s.modExc e _) hp _ _ _
  · have hid : s.exc[e].advance = s.exc[e] := by rw [Exc.advance, if_neg hd]
    rw [if_neg hd, probeClock_idle hp, State.modExc, vmod_id _ _ hid]

/-- The two LCLK edges of an SCLK edge without a crossing. -/
theorem excLclk_twice {s : State} (hp : ∀ n : ChId, s.front[n].probe ≠ .running) {e : ExcId}
    (hx : ∀ b, s.exc[e].crosses b = false) :
    (s.excLclk e).excLclk e = s.modExc e fun x => x.advance.advance := by
  rw [excLclk_quiet hp fun hd => (crosses_none hx hd).1, excLclk_quiet (s := s.modExc e Exc.advance) hp ?_]
  · simp only [State.modExc, vmod_vmod]
    rfl
  · rw [modExc_get, if_pos rfl]
    intro hd
    have hacc : s.exc[e].advance.acc = s.exc[e].acc + s.exc[e].ftw := if_pos hd
    rw [hacc]
    exact (crosses_none hx hd).2

/-- Where none of some exciters crosses zero, an edge advances their accumulators and changes nothing else. -/
theorem each_excLclk_twice {l : List ExcId} (hl : l.Nodup) {s : State} (hp : ∀ n : ChId, s.front[n].probe ≠ .running)
    (hx : ∀ e ∈ l, ∀ b, s.exc[e].crosses b = false) :
    ∃ t, s.each l (fun s e => (s.excLclk e).excLclk e) = t ∧ t = { s with exc := t.exc } ∧
      ∀ e, t.exc[e] = if e ∈ l then s.exc[e].advance.advance else s.exc[e] := by
  induction l generalizing s with
  | nil => exact ⟨s, rfl, rfl, fun e => (if_neg (List.not_mem_nil)).symm⟩
  | cons d l ih =>
    obtain ⟨hd, hl⟩ := List.nodup_cons.mp hl
    have hne : ∀ e ∈ l, d ≠ e := fun e he h => hd (h ▸ he)
    obtain ⟨t, ht, hframe, hexc⟩ := ih hl (s := s.modExc d fun x => x.advance.advance) hp fun e he b => by
      rw [modExc_get, if_neg (hne e he)]
      exact hx e (List.mem_cons_of_mem d he) b
    refine ⟨t, ?_, hframe, fun e => ?_⟩
    · rw [State.each, List.foldl_cons, excLclk_twice hp (hx d List.mem_cons_self)]
      exact ht
    · rw [hexc, modExc_get]
      by_cases he : d = e
      · subst he
        rw [if_neg hd, if_pos rfl, if_pos List.mem_cons_self]
      · simp only [he, if_false, List.mem_cons, Ne.symm he, false_or]

theorem timeEdge_time (s : State) : s.timeEdge.time = { (s.time.add (s.reg Reg.TIME_INC + slewPart s.time.slew)) with
    slew := s.time.slew - slewPart s.time.slew } := rfl

/-- The accumulator after the two LCLK edges. -/
theorem Exc.advance_advance (x : Exc) : x.advance.advance = { x with
    acc := if x.state = .ramp ∨ x.state = .run then x.acc + x.ftw + x.ftw else x.acc } := by
  by_cases h : x.state = .ramp ∨ x.state = .run
  · have hd : x.driving = true := by simpa only [Exc.driving, Bool.or_eq_true, decide_eq_true_eq] using h
    simp only [Exc.advance, Exc.driving_acc, hd, h, if_true]
  · have hd : x.driving = false := by
      simpa only [Exc.driving, Bool.or_eq_false_iff, decide_eq_false_iff_not, not_or] using h
    simp only [Exc.advance, hd, h, if_false, Bool.false_eq_true]

/-- Settles O2: an edge without crossings moves the time counter and the accumulators, and asks for no safe entry. -/
theorem idleStepIsOneClockEdge : Obligations.IdleStepIsOneClockEdge := by
  intro s hq c hx hp
  have hcalm : ∀ t : State, t = { s with now := t.now, time := t.time, exc := t.exc } → t.Calm := fun t ht => by
    rw [ht]; exact c
  have hstep : step s = .next s.sclkEdge.settled := by rw [step, hq]
  by_cases ha : s.alive = true
  · obtain ⟨t, ht, hframe, hexc⟩ := each_excLclk_twice (List.nodup_finRange 4)
      (s := ({ s with now := s.now + 1 } : State).timeEdge) hp fun e _ b => hx e b
    have hedge : s.sclkEdge = t := by
      rw [State.sclkEdge]
      exact (if_pos ha).trans ht
    rw [hstep, hedge, settled_calm t (hcalm t (by rw [hframe]; rfl))]
    refine ⟨t, rfl, by rw [hframe]; rfl, by rw [hframe]; rfl, fun h => absurd ha (by rw [h]; decide), fun _ => ?_⟩
    have htime : t.time = s.timeEdge.time := by rw [hframe]; rfl
    have hsum : (s.time.count.toNat : Int) + (s.reg Reg.TIME_INC + slewPart s.time.slew) =
        s.time.count.toNat + s.reg Reg.TIME_INC + slewPart s.time.slew := (Int.add_assoc _ _ _).symm
    rw [htime]
    refine ⟨rfl, congrArg (BitVec.ofInt 56) hsum, congrArg (fun x : Int => wrapS 32 (s.time.wraps + x / 2 ^ 56)) hsum,
      rfl, rfl, fun e => ?_⟩
    rw [hexc, if_pos (List.mem_finRange e)]
    exact s.exc[e].advance_advance
  · have hedge : s.sclkEdge = { s with now := s.now + 1 } := by
      rw [State.sclkEdge]
      exact if_neg ha
    rw [hstep, hedge, settled_calm _ (hcalm _ rfl)]
    exact ⟨_, rfl, rfl, rfl, fun _ => ⟨rfl, rfl⟩, fun h => absurd h ha⟩

end Sys2Proof.Machine
end

section
/-!
PROOFS. A write that a check of R261 refuses leaves its marks only (R266).
-/

namespace Sys2Proof.Machine

set_option Elab.async false

/-! ### A refusal at steps 1 to 6 (R261, R266) -/

section
variable (s : State) (p : Port) (k : Key) {n : Nak} (hs : n ≠ nakSched) (hr : n = nakRole → k ≠ Reg.AUTH_RESPONSE p)
include hs hr

/-- A refusal that is neither the scheduler's nor a response's leaves the counter and the diagnostic record alone. -/
theorem State.refuse_marks : s.refuse p k n = (s.bump Reg.DEV_REFUSE_CNT).modDev fun d =>
    { d with diag := (⟨n, p, s.dev.state, k, s.roleOf p, s.timeNow⟩ :: d.diag).take 16 } := by
  have hrole : ¬ (n = nakRole ∧ k = Reg.AUTH_RESPONSE p) := fun ⟨hn, hk⟩ => hr hn hk
  simp only [State.refuse, hs, hrole, Bool.false_eq_true, decide_false, Bool.false_and, if_false, Bool.and_eq_true,
    decide_eq_true_eq]

theorem refuse_marks_calm (c : s.Calm) : (s.refuse p k n).Calm := by
  rw [State.refuse_marks s p k hs hr]
  exact calm_of (s := s.bump Reg.DEV_REFUSE_CNT) rfl rfl (.inl rfl) rfl (bumpRefusals_calm s c)

theorem refuse_marks_refusedAs : s.RefusedAs ((s.beat p).refuse p k n) p k n := by
  rw [State.refuse_marks _ p k hs hr, roleOf_beat]
  exact ⟨State.reg_bump (s.beat p) _, fun j hj => State.reg_bump_ne (s.beat p) hj.symm, rfl, rfl⟩

end

/-- An access that a check of R261 refuses has no effect besides its refusal. -/
theorem perform_rejected {s : State} {p : Port} {k : Key} {data : Bytes} {n : Nak} (h : s.Rejects p k data n) :
    s.perform p k (some data) .none = (s.beat p).refuse p k n := by
  obtain ⟨hg, hc⟩ := h
  simp only [State.perform, State.dictWrite, State.writeWith, hg, hc, State.answer]

/-- Settles O8: a rejected access has no effect, and the refusal's marks are all that it leaves. -/
theorem refusedWriteLeavesOnlyItsMarks : Obligations.RefusedWriteLeavesOnlyItsMarks := by
  intro p index sub data n s c h hs hr
  have hrun : done (s.perform p (keyOf index sub) (some data) .none) =
      .next ((s.beat p).refuse p (keyOf index sub) n) := by
    rw [perform_rejected h]
    exact done_calm _ (refuse_marks_calm _ p _ hs hr (beat_calm s p c))
  have hmarks := refuse_marks_refusedAs s p (keyOf index sub) hs hr
  exact ⟨⟨_, hrun, hmarks⟩, _, hrun, hmarks⟩

end Sys2Proof.Machine
end

section
/-!
PROOFS. Frames and records read back what they were built from: HSP requests (R284, R285) and ThaeLink records
(R241 to R243).
-/

namespace Sys2Proof.Machine

set_option Elab.async false

theorem sliceB_prefix {pre a post : Bytes} {o n : Nat} (ho : pre.length = o) (hn : a.length = n) :
    sliceB o n (pre ++ (a ++ post)) = a := by
  rw [sliceB, ← ho, List.drop_left, List.take_left' hn]

/-- The frame's four header bytes -/
def hspHead (op : Nat) (tag : Byte) (n : Nat) : Bytes := leBytes 1 (op * 16 + n / 256) ++ leBytes 1 n ++ [tag]

theorem hspHead_length (op : Nat) (tag : Byte) (n : Nat) : (hspHead op tag n).length = 3 := by
  simp [hspHead, leBytes_length]

theorem beBytes_length (n x : Nat) : (beBytes n x).length = n := by rw [beBytes, List.length_reverse, leBytes_length]

theorem hspHead_take_one (op : Nat) (tag : Byte) (n : Nat) (post : Bytes) :
    (hspHead op tag n ++ post).take 1 = leBytes 1 (op * 16 + n / 256) := by
  rw [hspHead, List.append_assoc, List.append_assoc, List.take_left' (leBytes_length 1 _)]

section
variable {op : Nat} (hop : op < 8) (tag : Byte) {n : Nat} (hn : n < 2048) (post : Bytes)
include hop hn

/-- The first two bytes of a frame give back its opcode and its length. -/
theorem hspHead_op : leNat ((hspHead op tag n ++ post).take 1) / 16 = op := by
  rw [hspHead_take_one, leNat_leBytes]
  omega

omit hop in
theorem hspHead_len :
    leNat ((hspHead op tag n ++ post).take 1) % 8 * 256 + leNat (sliceB 1 1 (hspHead op tag n ++ post)) = n := by
  have h1 : sliceB 1 1 (hspHead op tag n ++ post) = leBytes 1 n := by
    rw [hspHead, List.append_assoc, List.append_assoc]
    exact sliceB_prefix (leBytes_length 1 _) (leBytes_length 1 _)
  rw [hspHead_take_one, h1, leNat_leBytes, leNat_leBytes]
  omega
end

theorem hspHead_take (op : Nat) (tag : Byte) (n : Nat) (post : Bytes) :
    (hspHead op tag n ++ post).take 3 = hspHead op tag n :=
  List.take_left' (hspHead_length op tag n)

theorem hspHead_tag (op : Nat) (tag : Byte) (n : Nat) (post : Bytes) :
    (hspHead op tag n ++ post).getD 2 0#8 = tag := rfl

theorem hspHead_check (op : Nat) (tag : Byte) (n : Nat) (c : Byte) (post : Bytes) :
    (hspHead op tag n ++ (c :: post)).getD 3 0#8 = c := rfl

/-- An empty frame is the request that its opcode names. -/
theorem hspParse_empty {op : Nat} (hop : op = 0 ∨ op = 3) (tag : Byte) :
    hspParse (hspFrame op tag []) = if op = 0 then .poll else .floor := by
  have hf : hspFrame op tag [] = hspHead op tag 0 ++ [crc8 (hspHead op tag 0)] := by simp [hspFrame, hspHead]
  have hop8 : op < 8 := by omega
  have hlen : hspLenOk op 0 = true := by rcases hop with rfl | rfl <;> rfl
  rw [hf, hspParse]
  simp only [hspHead_op hop8 tag (n := 0) (by decide), hspHead_len tag (n := 0) (by decide), hspHead_take,
    hspHead_check, hlen, List.length_append, hspHead_length, List.length_singleton, ne_eq, not_true_eq_false, if_false]
  rcases hop with rfl | rfl <;> rfl

/-- A frame with a payload is the READ or WRITE of the address in front of its data. -/
theorem hspParse_request {op : Nat} (tag : Byte) {payload : Bytes} (hop : op = 1 ∨ op = 2)
    (hlen : hspLenOk op payload.length = true) (h4 : 4 ≤ payload.length) (hmax : payload.length ≤ 1028) :
    hspParse (hspFrame op tag payload) =
      if op = 1 then .read tag (leNat (sliceB 0 2 payload) * 256 + leNat (sliceB 2 1 payload))
      else .write tag (leNat (sliceB 0 2 payload) * 256 + leNat (sliceB 2 1 payload)) (payload.drop 4) := by
  have hne : payload.length ≠ 0 := by omega
  have hf : hspFrame op tag payload = hspHead op tag payload.length ++ (crc8 (hspHead op tag payload.length) ::
      (payload ++ (beBytes 2 (crc16 payload).toNat ++ []))) := by
    simp only [hspFrame, hspHead, hne, if_false, List.append_assoc, List.append_nil, List.cons_append,
      List.nil_append]
  have hop8 : op < 8 := by omega
  have hmax8 : payload.length < 2048 := by omega
  have hbody : sliceB 4 payload.length (hspFrame op tag payload) = payload := by
    rw [hf, ← List.singleton_append, ← List.append_assoc]
    exact sliceB_prefix (by simp [hspHead_length]) rfl
  have hcrc : sliceB (4 + payload.length) 2 (hspFrame op tag payload) = beBytes 2 (crc16 payload).toNat := by
    rw [hf, ← List.singleton_append, ← List.append_assoc, ← List.append_assoc]
    exact sliceB_prefix (by simp [hspHead_length]; omega) (beBytes_length 2 _)
  have hflen : (hspFrame op tag payload).length = 6 + payload.length := by
    rw [hf]
    simp only [List.length_append, hspHead_length, List.length_cons, beBytes_length, List.length_nil]
    omega
  rw [hspParse, hf, hspHead_op hop8 tag hmax8, hspHead_len tag hmax8, ← hf, hbody, hcrc, hflen, hf, hspHead_take,
    hspHead_check, hspHead_tag, hlen]
  have hfull : ¬ (6 + payload.length < 4) := by omega
  rcases hop with rfl | rfl <;> simp [hne, hfull]

/-- The address of a request and what follows it. -/
theorem hspAddr (k : Nat) (hk : k < 2 ^ 24) (data : Bytes) :
    leNat (sliceB 0 2 (leBytes 2 (k / 256) ++ leBytes 1 (k % 256) ++ [0#8] ++ data)) * 256 +
      leNat (sliceB 2 1 (leBytes 2 (k / 256) ++ leBytes 1 (k % 256) ++ [0#8] ++ data)) = k := by
  have h2 : sliceB 0 2 (leBytes 2 (k / 256) ++ (leBytes 1 (k % 256) ++ ([0#8] ++ data))) = leBytes 2 (k / 256) :=
    sliceB_prefix (pre := []) rfl (leBytes_length 2 _)
  have h1 : sliceB 2 1 (leBytes 2 (k / 256) ++ (leBytes 1 (k % 256) ++ ([0#8] ++ data))) = leBytes 1 (k % 256) :=
    sliceB_prefix (leBytes_length 2 _) (leBytes_length 1 _)
  simp only [List.append_assoc]
  rw [h2, h1, leNat_leBytes, leNat_leBytes]
  omega

theorem hspAddr_length (k : Nat) (data : Bytes) :
    (leBytes 2 (k / 256) ++ leBytes 1 (k % 256) ++ [0#8] ++ data).length = 4 + data.length := by
  simp only [List.length_append, leBytes_length, List.length_singleton]

/-- Settles O11: every part of a frame is read back from where the frame was built with it. -/
theorem hspRequestsParseBack : Obligations.HspRequestsParseBack := by
  refine ⟨fun tag k hk => ?_, fun tag k data hk hd => ?_, fun tag => ⟨?_, ?_⟩⟩
  · have haddr := hspAddr k hk []
    have hlen := hspAddr_length k []
    simp only [List.append_nil, List.length_nil] at haddr hlen
    rw [hspParse_request tag (.inl rfl) (by rw [hlen]; rfl) (by omega) (by omega), haddr]
    rfl
  · have hlen := hspAddr_length k data
    have hok : hspLenOk 2 (4 + data.length) = true := by simp [hspLenOk]; omega
    rw [hspParse_request tag (.inr rfl) (by rw [hlen]; exact hok) (by omega) (by omega), hspAddr k hk]
    rfl
  · exact hspParse_empty (.inl rfl) tag
  · exact hspParse_empty (.inr rfl) tag

theorem padTo_length (n : Nat) (bs : Bytes) : (padTo n bs).length = n := by
  simp only [padTo, List.length_append, List.length_take, List.length_replicate]
  omega

theorem padTo_append {n : Nat} {a : Bytes} (h : a.length ≤ n) (b : Bytes) :
    padTo n (a ++ b) = a ++ padTo (n - a.length) b := by
  simp only [padTo, List.take_append, List.take_of_length_le h, List.length_append, List.append_assoc]
  congr 3
  omega

/-- A field reads back what its bytes were formed from. -/
theorem fieldB_leBytes (pre : Bytes) (n x : Nat) (post : Bytes) :
    fieldB (pre ++ (leBytes n x ++ post)) pre.length n = x % 256 ^ n := by
  rw [fieldB, sliceB, List.drop_left, List.take_left' (leBytes_length n x), leNat_leBytes]

/-- The fields of a record's first 12 bytes -/
structure RecHead where
  seat : Nat
  flags : Nat
  dev : Nat
  seq : Nat
  latch : Nat

def RecHead.bytes (h : RecHead) : Bytes :=
  leBytes 1 1 ++ (leBytes 1 h.seat ++ (leBytes 1 h.flags ++ (leBytes 1 h.dev ++
    (leBytes 4 h.seq ++ leBytes 4 h.latch))))

theorem RecHead.bytes_length (h : RecHead) : h.bytes.length = 12 := by simp [RecHead.bytes, leBytes_length]

section
variable (h : RecHead) (post : Bytes)
theorem fieldB_version : fieldB (h.bytes ++ post) 0 1 = 1 := by
  simp only [RecHead.bytes, List.append_assoc]
  exact fieldB_leBytes [] 1 1 _

theorem fieldB_seat : fieldB (h.bytes ++ post) 1 1 = h.seat % 256 := by
  simp only [RecHead.bytes, List.append_assoc]
  exact fieldB_leBytes (leBytes 1 1) 1 _ _

theorem fieldB_flags : fieldB (h.bytes ++ post) 2 1 = h.flags % 256 := by
  simp only [RecHead.bytes, List.append_assoc]
  exact fieldB_leBytes (leBytes 1 1 ++ leBytes 1 h.seat) 1 _ _

theorem fieldB_seq : fieldB (h.bytes ++ post) 4 4 = h.seq % 2 ^ 32 := by
  simp only [RecHead.bytes, List.append_assoc]
  exact fieldB_leBytes (leBytes 1 1 ++ leBytes 1 h.seat ++ leBytes 1 h.flags ++ leBytes 1 h.dev) 4 _ _

theorem fieldB_latch : fieldB (h.bytes ++ post) 8 4 = h.latch % 2 ^ 32 := by
  simp only [RecHead.bytes, List.append_assoc]
  exact fieldB_leBytes (leBytes 1 1 ++ leBytes 1 h.seat ++ leBytes 1 h.flags ++ leBytes 1 h.dev ++ leBytes 4 h.seq) 4
    _ _
end

/-- FLAGS of a record (R241, R242). -/
def State.recFlags (s : State) (x : Time32) (first : Bool) : Nat :=
  b2n (s.recordErr x) * 128 + b2n first * 64 + b2n s.eligible * 32 + s.red.state.num * 4

/-- The first fields of the record latched at `x`. -/
def State.recHead (s : State) (x : Time32) (first : Bool) : RecHead :=
  ⟨s.seatFlags, s.recFlags x first, s.dev.state.num, s.red.seq.toNat, x.toNat⟩

theorem ofNat_toNat_mod {w : Nat} (x : BitVec w) : BitVec.ofNat w (x.toNat % 2 ^ w) = x := by
  rw [Nat.mod_eq_of_lt x.isLt, BitVec.ofNat_toNat, BitVec.setWidth_eq]

theorem buildRecord_eq (s : State) (x : Time32) (cycle : Nat) (first : Bool) :
    ∃ tail : Bytes, (s.recHead x first).bytes.length + tail.length = 1020 ∧ s.buildRecord x cycle first =
      ((s.recHead x first).bytes ++ tail) ++ leBytes 4 (crc32 ((s.recHead x first).bytes ++ tail)).toNat := by
  have key : ∀ r1 r2 r3 r4 : Bytes, padTo 1020 (padTo 64 ((s.recHead x first).bytes ++ r1) ++ (r2 ++ (r3 ++ r4))) =
      (s.recHead x first).bytes ++ padTo 1008 (padTo 52 r1 ++ (r2 ++ (r3 ++ r4))) := by
    intro r1 r2 r3 r4
    rw [padTo_append (n := 64) (by rw [RecHead.bytes_length]; omega), List.append_assoc,
      padTo_append (n := 1020) (by rw [RecHead.bytes_length]; omega), RecHead.bytes_length]
  unfold State.buildRecord
  simp only [RecHead.bytes, State.recHead, State.recFlags, List.append_assoc] at key ⊢
  rw [key]
  simp only [List.append_assoc]
  exact ⟨padTo 1008 _, by simp only [List.length_append, leBytes_length, padTo_length], rfl⟩

/-- The two highest bits of a byte of flags. -/
theorem bitN_flags (a b : Bool) {r : Nat} (hr : r < 64) :
    bitN ((b2n a * 128 + b2n b * 64 + r) % 256) 7 = a ∧ bitN ((b2n a * 128 + b2n b * 64 + r) % 256) 6 = b := by
  cases a <;> cases b <;> simp only [b2n, bitN, decide_eq_true_eq, decide_eq_false_iff_not, if_true, if_false,
    Bool.false_eq_true] <;> omega

theorem SeatState.num_lt (r : SeatState) : r.num < 8 := by cases r <;> decide

theorem b2n_le (b : Bool) : b2n b ≤ 1 := by cases b <;> decide

theorem State.recFlags_bits (s : State) (x : Time32) (first : Bool) :
    bitN (s.recFlags x first % 256) 7 = s.recordErr x ∧ bitN (s.recFlags x first % 256) 6 = first := by
  have hst := s.red.state.num_lt
  have he := b2n_le s.eligible
  rw [State.recFlags, Nat.add_assoc]
  exact bitN_flags _ _ (by omega)

theorem State.seatFlags_bits (s : State) :
    bitN (s.seatFlags % 256) 7 = s.isActive ∧ bitN (s.seatFlags % 256) 6 = s.okay := by
  have hseat : s.seatNo < 4 := s.red.seat.isLt
  have hd := b2n_le s.degraded
  rw [State.seatFlags, Nat.add_assoc]
  exact bitN_flags _ _ (by omega)

/-- Settles O12: the record begins with its flags, sequence and latch, and ends with the CRC of its 1,020 bytes. -/
theorem sentRecordsAreValid : Obligations.SentRecordsAreValid := by
  intro s x cycle first _
  obtain ⟨tail, hlen, hrec⟩ := buildRecord_eq s x cycle first
  obtain ⟨herr, hfirst⟩ := s.recFlags_bits x first
  obtain ⟨hactive, hokay⟩ := s.seatFlags_bits
  simp only [hrec, recLatch, recSeq, recFirst, recActive, recOkay, recErr]
  refine ⟨recordOk_of_body _ (by rw [List.length_append, hlen]) (fieldB_version _ _), ?_⟩
  simp only [List.append_assoc, fieldB_latch, fieldB_seq, fieldB_flags, fieldB_seat]
  exact ⟨ofNat_toNat_mod x, ofNat_toNat_mod s.red.seq, hfirst, hactive, hokay, herr⟩

end Sys2Proof.Machine
end

section
/-!
PROOFS. What every command keeps: the canonical register file, the bounds of queues, rings and groups, and a CLM_OUT
that is low. Here the relation, the changes of one part of the state, and effects that may refuse.
-/

namespace Sys2Proof.Machine

set_option Elab.async false

/-- A sum over a vector's elements after the change of one element. -/
theorem sum_map_vmod {α : Type} {n : Nat} (v : Vector α n) (i : Fin n) (f : α → α) (g : α → Nat) :
    ((vmod v i f).toList.map g).sum + g v[i] = (v.toList.map g).sum + g (f v[i]) := by
  have hi : i.val < (v.toList.map g).length := by simp
  have hset := fun x => List.sum_set (v.toList.map g) i.val x
  have hself : (v.toList.map g).set i.val (g v[i]) = v.toList.map g := by
    rw [← List.map_set, ← Vector.toList_set (h := i.isLt), Fin.getElem_fin, Vector.set_getElem_self]
  have hold := hset (g v[i])
  have hnew := hset (g (f v[i]))
  rw [hself, if_pos hi] at hold
  rw [if_pos hi] at hnew
  rw [vmod, Vector.toList_set, List.map_set]
  omega

/-- The pending entries after a change of one port's group (R267). -/
theorem pendCount_modPort (t : State) (p : Port) (f : PortSt → PortSt) :
    (t.modPort p f).pendCount + t.port[p].group.length = t.pendCount + (f t.port[p]).group.length := by
  have hsum := sum_map_vmod t.port p f fun x => x.group.length
  unfold State.pendCount
  simp only [State.modPort_grp, State.modPort_port]
  omega

/-- One more timed group counts its entries (R267, R269). -/
theorem pendCount_addTimed (t : State) (g : Group) :
    (t.modGrp fun x => { x with timed := x.timed ++ [g] }).pendCount = t.pendCount + g.entries.length := by
  unfold State.pendCount
  simp only [State.modGrp_grp, State.modGrp_port, List.map_append, List.sum_append, List.map_cons, List.map_nil,
    List.sum_cons, List.sum_nil]
  omega

/-- What every command keeps, whatever it does besides. -/
structure Kept (s t : State) : Prop where
  canonical : s.RegsCanonical → t.RegsCanonical
  bounded : s.Bounded → t.Bounded
  low : s.red.clmOut = false → t.red.clmOut = false

theorem Kept.refl (s : State) : Kept s s := ⟨id, id, id⟩

theorem Kept.of_eq {α : Type} {s u : State} {r : State × α} {a : α} (e : r = (u, a)) (h : Kept s r.1) : Kept s u := by
  rwa [e] at h

theorem Kept.trans {s t u : State} (h : Kept s t) (g : Kept t u) : Kept s u :=
  ⟨g.canonical ∘ h.canonical, g.bounded ∘ h.bounded, g.low ∘ h.low⟩

section
variable {s t : State} (h : Kept s t)
include h

theorem Kept.modCh (n : ChId) (f : Chan → Chan) : Kept s (t.modCh n f) := h.trans ⟨id, id, id⟩

theorem Kept.modWatch (n : ChId) (f : Watch → Watch) : Kept s (t.modWatch n f) := h.trans ⟨id, id, id⟩

theorem Kept.modFront (n : ChId) (f : Front → Front) : Kept s (t.modFront n f) := h.trans ⟨id, id, id⟩

theorem Kept.modCal (n : ChId) (f : Cal → Cal) : Kept s (t.modCal n f) := h.trans ⟨id, id, id⟩

theorem Kept.modExc (e : ExcId) (f : Exc → Exc) : Kept s (t.modExc e f) := h.trans ⟨id, id, id⟩

theorem Kept.modKelvin (e : ExcId) (f : Kelvin → Kelvin) : Kept s (t.modKelvin e f) := h.trans ⟨id, id, id⟩

theorem Kept.modGlv (g : Fin 8) (f : Glv → Glv) : Kept s (t.modGlv g f) := h.trans ⟨id, id, id⟩

theorem Kept.modEmu (n : Fin 16) (f : Emu → Emu) : Kept s (t.modEmu n f) := h.trans ⟨id, id, id⟩

theorem Kept.modPsw (n : Fin 16) (f : Psw → Psw) : Kept s (t.modPsw n f) := h.trans ⟨id, id, id⟩

theorem Kept.modSnap (n : Fin 3) (f : Snap → Snap) : Kept s (t.modSnap n f) := h.trans ⟨id, id, id⟩

theorem Kept.modPf (n : Fin 8) (f : Stream → Stream) : Kept s (t.modPf n f) := h.trans ⟨id, id, id⟩

theorem Kept.modTal (n : Fin 16) (f : Tally → Tally) : Kept s (t.modTal n f) := h.trans ⟨id, id, id⟩

theorem Kept.modPt (q : Fin 2) (f : Partner → Partner) : Kept s (t.modPt q f) := h.trans ⟨id, id, id⟩

theorem Kept.modLnk (k : Fin 2) (f : Link → Link) : Kept s (t.modLnk k f) := h.trans ⟨id, id, id⟩

theorem Kept.modHsp (k : Fin 3) (f : Hsp → Hsp) : Kept s (t.modHsp k f) := h.trans ⟨id, id, id⟩

theorem Kept.modCan (c : Fin 2) (f : Can → Can) : Kept s (t.modCan c f) := h.trans ⟨id, id, id⟩

theorem Kept.modSched (d : Fin 17) (f : Sched → Sched) : Kept s (t.modSched d f) := h.trans ⟨id, id, id⟩

theorem Kept.modVote (n : ChId) (f : Vote → Vote) : Kept s (t.modVote n f) := h.trans ⟨id, id, id⟩

theorem Kept.modFloor (f : Floor → Floor) : Kept s (t.modFloor f) := h.trans ⟨id, id, id⟩

theorem Kept.modSup (f : Sup → Sup) : Kept s (t.modSup f) := h.trans ⟨id, id, id⟩

theorem Kept.modSec (f : Sec → Sec) : Kept s (t.modSec f) := h.trans ⟨id, id, id⟩

theorem Kept.modUpd (f : Upd → Upd) : Kept s (t.modUpd f) := h.trans ⟨id, id, id⟩

theorem Kept.modTime (f : TimeSt → TimeSt) : Kept s (t.modTime f) := h.trans ⟨id, id, id⟩

theorem Kept.modMgmt (f : Mgmt → Mgmt) : Kept s (t.modMgmt f) := h.trans ⟨id, id, id⟩

theorem Kept.modCap (f : Capture → Capture) : Kept s (t.modCap f) := h.trans ⟨id, id, id⟩

theorem Kept.modBead (f : Beads → Beads) : Kept s (t.modBead f) := h.trans ⟨id, id, id⟩

theorem Kept.modStore (f : Store → Store) : Kept s (t.modStore f) := h.trans ⟨id, id, id⟩

theorem Kept.modTap (f : Tap → Tap) : Kept s (t.modTap f) := h.trans ⟨id, id, id⟩

/-! #### The parts that carry a bound -/

theorem Kept.modRed (f : Red → Red)
    (hf : t.red.clmOut = false → (f t.red).clmOut = false := by exact fun x => x) : Kept s (t.modRed f) :=
  h.trans ⟨id, id, hf⟩

theorem Kept.modRed_of_high (hs : s.red.clmOut = true) (f : Red → Red) : Kept s (t.modRed f) :=
  ⟨h.canonical, h.bounded, fun hlow => absurd (hs.symm.trans hlow) (by decide)⟩

theorem Kept.modFc (f : Collector → Collector)
    (hf : t.fc.queue.length ≤ 256 → (f t.fc).queue.length ≤ 256 := by exact fun x => x) :
    Kept s (t.modFc f) :=
  h.trans ⟨id, fun ⟨hq, hrest⟩ => ⟨hf hq, hrest⟩, id⟩

theorem Kept.modDev (f : Device → Device)
    (hf : t.dev.diag.length ≤ 16 → (f t.dev).diag.length ≤ 16 := by exact fun x => x) :
    Kept s (t.modDev f) :=
  h.trans ⟨id, fun ⟨hq, hd, hrest⟩ => ⟨hq, hf hd, hrest⟩, id⟩

theorem Kept.modTq (q : Fin 16) (f : Tq → Tq)
    (hf : (t.tq[q].descs.length ≤ 16 → (f t.tq[q]).descs.length ≤ 16) ∧
      (t.tq[q].compl.length ≤ 16 → (f t.tq[q]).compl.length ≤ 16) := by exact ⟨fun x => x, fun x => x⟩) :
    Kept s (t.modTq q f) := by
  refine h.trans ⟨id, fun ⟨hq, hd, hl, ht, hrest⟩ => ⟨hq, hd, hl, fun r => ?_, hrest⟩, id⟩
  simp only [State.modTq_tq, Fin.getElem_fin, vmod_get]
  split
  · exact ⟨hf.1 (ht q).1, hf.2 (ht q).2⟩
  · exact ht r

theorem Kept.modEth (k : Fin 2) (f : Eth → Eth)
    (hf : t.eth[k].ring.length ≤ 32 → (f t.eth[k]).ring.length ≤ 32 := by exact fun x => x) :
    Kept s (t.modEth k f) := by
  refine h.trans ⟨id, fun ⟨hq, hd, hl, ht, he, hrest⟩ => ⟨hq, hd, hl, ht, fun r => ?_, hrest⟩, id⟩
  simp only [State.modEth_eth, Fin.getElem_fin, vmod_get]
  split
  · exact hf (he k)
  · exact he r

theorem Kept.modGrp (f : Groups → Groups)
    (hf : ∀ g, (f g).timed.Sublist g.timed := by exact fun _ => List.Sublist.refl _) : Kept s (t.modGrp f) := by
  refine h.trans ⟨id, fun ⟨hq, hd, hl, ht, he, hg, hp, hn⟩ => ?_, id⟩
  refine ⟨hq, hd, hl, ht, he, (hf _).length_le.trans hg, hp, ?_⟩
  have hsum := ((hf t.grp).map fun g => g.entries.length).sum_le_sum fun n _ => Nat.zero_le n
  unfold State.pendCount at hn ⊢
  exact (Nat.add_le_add_right hsum _).trans hn

/-- A port's group that grows no longer keeps the bounds on pending entries. -/
theorem Kept.modPort_at (p : Port) (f : PortSt → PortSt) (hf : (f t.port[p]).group.length ≤ t.port[p].group.length) :
    Kept s (t.modPort p f) := by
  refine h.trans ⟨id, fun ⟨hq, hd, hl, ht, he, hg, hp, hn⟩ => ⟨hq, hd, hl, ht, he, hg, fun r => ?_, ?_⟩, id⟩
  · simp only [State.modPort_port, Fin.getElem_fin, vmod_get]
    split
    · exact hf.trans (hp p)
    · exact hp r
  · have hpend := pendCount_modPort t p f
    omega

theorem Kept.modPort (p : Port) (f : PortSt → PortSt)
    (hf : ∀ x, (f x).group.length ≤ x.group.length := by exact fun _ => le_rfl) : Kept s (t.modPort p f) :=
  h.modPort_at p f (hf _)

theorem Kept.modLog (f : Log → Log)
    (hf : t.log.recs.length ≤ 12288 → (f t.log).recs.length ≤ 12288 := by exact fun x => x) : Kept s (t.modLog f) :=
  h.trans ⟨id, fun ⟨hq, hd, hl, hrest⟩ => ⟨hq, hd, hf hl, hrest⟩, id⟩

/-! #### Registers, free values, alternatives and repetitions -/

theorem Kept.setNow (n : Nat) : Kept s { t with now := n } := h.trans ⟨id, id, id⟩

theorem Kept.setFrames (n : Nat) : Kept s { t with frames := n } := h.trans ⟨id, id, id⟩

theorem Kept.setSets (v : Vector SetRec 128) : Kept s { t with sets := v } := h.trans ⟨id, id, id⟩

theorem Kept.setReg (k : Key) (v : Int) : Kept s (t.setReg k v) := h.trans ⟨State.regsWf_setReg t k v, id, id⟩

theorem Kept.bump (k : Key) : Kept s (t.bump k) := h.setReg k _

theorem Kept.draw : Kept s t.draw := h.trans ⟨id, id, id⟩

theorem Kept.ite {c : Prop} [Decidable c] {u : State} (g : Kept s u) : Kept s (if c then t else u) := by
  split <;> assumption

/-- Both branches of an alternative start from the same state. -/
theorem Kept.both {c : Prop} [Decidable c] {u v : State} (f : Kept s t → Kept s u) (g : Kept s t → Kept s v) :
    Kept s (if c then u else v) :=
  Kept.ite (f h) (g h)

/-- An alternative that may leave the state. -/
theorem Kept.when {c : Prop} [Decidable c] {u : State} (f : Kept s t → Kept s u) : Kept s (if c then u else t) :=
  Kept.ite (f h) h

theorem Kept.each {α : Type} (l : List α) {f : State → α → State} (hf : ∀ u a, Kept s u → Kept s (f u a)) :
    Kept s (t.each l f) := by
  induction l generalizing t with
  | nil => exact h
  | cons a l ih => exact ih (hf t a h)
end

/-- The state that an effect answers is kept. -/
def Good (s : State) (r : Except Nak State) : Prop := ∀ t, r = .ok t → Kept s t

theorem Good.ok {s t : State} (h : Kept s t) : Good s (.ok t) := fun u hu => by cases hu; exact h

theorem Good.error (s : State) (n : Nak) : Good s (.error n) := fun u hu => by cases hu

theorem Good.bind {α : Type} {s : State} {r : Except Nak α} {f : α → Except Nak State} (h : ∀ a, Good s (f a)) :
    Good s (r >>= f) := by
  cases r with
  | error n => exact Good.error s n
  | ok a => exact h a

theorem Good.need {s : State} {b : Bool} {n : Nak} {f : Unit → Except Nak State} (h : b = true → Good s (f ())) :
    Good s (need b n >>= f) := by
  cases b with
  | false => exact Good.error s n
  | true => exact h rfl

/-- A command that an address may name keeps the state. -/
def GoodOpt (s t : State) (o : Option Eff) : Prop := ∀ e, o = some e → Good s (e t)

theorem GoodOpt.none {s t : State} : GoodOpt s t none := fun _ he => by cases he

theorem GoodOpt.step {s t : State} {c : Prop} [Decidable c] {e : Eff} {o : Option Eff} (h : Good s (e t))
    (g : GoodOpt s t o) : GoodOpt s t (if c then some e else o) := by
  split
  · intro e' he
    cases he
    exact h
  · exact g

theorem Good.ite {s : State} {c : Prop} [Decidable c] {a b : Except Nak State} (ha : Good s a) (hb : Good s b) :
    Good s (if c then a else b) := by split <;> assumption

end Sys2Proof.Machine
end

section
/-!
PROOFS. Flags, faults and their reactions keep the invariants (R204 to R223, R264).
-/

namespace Sys2Proof.Machine

set_option Elab.async false

section
variable {s t : State} (h : Kept s t)
include h

/-- The quota of a source counts in the collector alone. -/
theorem Kept.of_quota {id : Nat} {u : State} (hu : t.quota id = some u) : Kept s u := by
  have key : ∀ fc : Collector, fc.queue = t.fc.queue → ∀ n,
      (if n < 16 then some (t.modFc fun _ => { fc with quota := SMap.put 0 fc.quota id (n + 1) }) else none) = some u →
      Kept s u := by
    intro fc hfc n he
    split at he
    · cases he
      exact h.modFc _ fun hq => hfc.symm ▸ hq
    · cases he
  unfold State.quota at hu
  refine key _ ?_ _ hu
  split
  · rfl
  · rfl

theorem Kept.showEmu (n : Fin 16) : Kept s (t.showEmu n) := by
  unfold State.showEmu
  exact h.modEmu _ _

theorem Kept.showPsw (n : Fin 16) : Kept s (t.showPsw n) := by
  unfold State.showPsw
  exact h.modPsw _ _

theorem Kept.showOutputs : Kept s (t.showOutputs) := by
  unfold State.showOutputs
  exact (h.each _ fun _ _ hu => hu.showEmu _).each _ fun _ _ hu => hu.showPsw _

theorem Kept.setSrc (id : Nat) (f : FSrc) : Kept s (t.setSrc id f) := by
  unfold State.setSrc
  exact h.modFc _

theorem Kept.countRaise (id : Nat) (upd : FSrc → FSrc) : Kept s (t.countRaise id upd) := by
  unfold State.countRaise
  exact (h.setSrc _ _).ite (h.setSrc _ _)

theorem Kept.dropSrc (id : Nat) : Kept s (t.dropSrc id) := by
  unfold State.dropSrc
  exact h.ite ((h.setSrc _ _).ite (h.setSrc _ _))

theorem Kept.captureFirst (id : Nat) : Kept s (t.captureFirst id) := by
  unfold State.captureFirst
  exact h.modFloor _

theorem Kept.markTrial (id : Nat) : Kept s (t.markTrial id) := by
  unfold State.markTrial
  exact (h.modUpd _).ite h

theorem Kept.overflow : Kept s (t.overflow) := by
  unfold State.overflow
  exact h.ite ((((h.countRaise _ _).captureFirst _).markTrial _).dropSrc _)

theorem Kept.enqueue (e : LogEvent) : Kept s (t.enqueue e) := by
  unfold State.enqueue
  split
  · exact h
  · split
    · next hroom =>
      refine h.modFc _ fun _ => ?_
      rw [List.length_append, List.length_singleton]
      exact hroom
    · exact ((h.modFc _).bump _).overflow

theorem Kept.logKind (kind : Nat) (info : Nat) (detail : Bytes) : Kept s (t.logKind kind info detail) := by
  unfold State.logKind
  exact h.enqueue _

theorem Kept.logSrc (kind id : Nat) : Kept s (t.logSrc kind id) := by
  unfold State.logSrc
  split
  · exact h
  · next u hu =>
    have hq := h.of_quota hu
    exact hq.enqueue _

theorem Kept.capTrigger : Kept s (t.capTrigger) := by
  unfold State.capTrigger
  exact (h.modCap _).ite ((h.modCap _).ite h)

theorem Kept.raiseMarks (id : Nat) : Kept s (t.raiseMarks id) := by
  unfold State.raiseMarks
  exact (h.modRed _).ite ((h.modFc _).ite h)

theorem Kept.holdScope (id : Nat) (r : Nat) : Kept s (t.holdScope id r) := by
  unfold State.holdScope
  exact (h.setSrc _ _).ite h

theorem Kept.capFault (id : Nat) : Kept s (t.capFault id) := by
  unfold State.capFault
  exact h.capTrigger.ite h

theorem Kept.showRaise (r : Nat) : Kept s (t.showRaise r) := by
  unfold State.showRaise
  exact h.showOutputs.ite h

theorem Kept.raiseWith (id : Nat) (upd : FSrc → FSrc) : Kept s (t.raiseWith id upd) := by
  unfold State.raiseWith
  exact h.ite ((h.setSrc _ _).ite ((((((((h.countRaise _ _).raiseMarks _).holdScope _ _).captureFirst _).logSrc _
    _).showRaise _).markTrial _).capFault _))

theorem Kept.raise (id : Nat) : Kept s (t.raise id) := by
  unfold State.raise
  exact h.raiseWith _ _

theorem Kept.releaseScopes : Kept s (t.releaseScopes) := by
  unfold State.releaseScopes
  exact h.each _ fun _ _ hu => hu.showPsw _

theorem Kept.gone (id : Nat) : Kept s (t.gone id) := by
  unfold State.gone
  exact h.ite (((h.setSrc _ _).dropSrc _).releaseScopes)

theorem Kept.pulse (id : Nat) : Kept s (t.pulse id) := by
  unfold State.pulse
  exact (h.raise _).gone _

theorem Kept.level (id : Nat) (b : Bool) : Kept s (t.level id b) := by
  unfold State.level
  exact (h.raise _).ite (h.gone _)

theorem Kept.idleSrc (id : Nat) : Kept s (t.idleSrc id) := by
  unfold State.idleSrc
  exact (((h.logSrc _ _).setSrc _ _).releaseScopes).ite h

theorem Kept.startActivity (d : Fin 17) (a : Activity) : Kept s (t.startActivity d a) := by
  unfold State.startActivity
  exact (h.modBead _).ite h

theorem Kept.schedEnd (d : Fin 17) : Kept s (t.schedEnd d) := by
  unfold State.schedEnd
  simp only
  split
  · exact h.modSched _ _
  · split
    · exact (h.modSched _ _).ite ((h.modSched _ _).startActivity _ _)
    · exact h.modSched _ _

theorem Kept.schedWithdraw (d : Fin 17) (a : Activity) : Kept s (t.schedWithdraw d a) := by
  unfold State.schedWithdraw
  exact (((h.modSched _ _).ite h).when fun hw => hw.modSched _ _).when fun hw => hw.schedEnd _

theorem Kept.abortTest (n : ChId) (reason : Nat) : Kept s (t.abortTest n reason) := by
  unfold State.abortTest
  split
  · exact ((h.modCh _ _).setReg _ _).schedWithdraw _ _
  · exact h.ite (h.modCh _ _)
  · exact h

theorem Kept.abortTests (reason : Nat) : Kept s (t.abortTests reason) := by
  unfold State.abortTests
  exact h.each _ fun _ _ hu => (hu.ite (hu.abortTest _ _))

theorem Kept.logCal (n : ChId) : Kept s (t.logCal n) := by
  unfold State.logCal
  exact h.logKind _ _ _

theorem Kept.endRun (n : ChId) (result : Nat) (detail : Nat) : Kept s (t.endRun n result detail) := by
  unfold State.endRun
  refine (((?_ : Kept s _).logCal _).schedWithdraw _ _).pulse _
  split
  · exact (h.modCal _ _).bump _
  · exact h.modCal _ _

theorem Kept.abortRun (n : ChId) (detail : Nat) : Kept s (t.abortRun n detail) := by
  unfold State.abortRun
  split
  · exact h.endRun _ _ _
  · exact h.endRun _ _ _
  · exact h.endRun _ _ _
  · exact h.endRun _ _ _
  · exact h

theorem Kept.abortRuns (leftService : Bool) : Kept s (t.abortRuns leftService) := by
  unfold State.abortRuns
  exact h.each _ fun _ _ hu => ((hu.abortRun _ _).ite ((hu.abortRun _ _).ite hu))

theorem Kept.setSeat (new : SeatState) : Kept s (t.setSeat new) := by
  unfold State.setSeat
  exact h.ite ((h.modRed _).logKind _ _ _)

theorem Kept.endAttempt (dest : SeatState) : Kept s (t.endAttempt dest) := by
  unfold State.endAttempt
  exact ((h.setSeat _).modRed _).when fun hw => ((hw.modRed _).bump _).pulse _

theorem Kept.sendRelease : Kept s (t.sendRelease) := by
  unfold State.sendRelease
  exact h.each _ fun _ _ hu => ((hu.modLnk _ _).ite hu)

theorem Kept.releaseClaim (dest : SeatState) : Kept s (t.releaseClaim dest) := by
  unfold State.releaseClaim
  exact (((h.sendRelease.modRed _ (fun _ => rfl)).setSeat _).showOutputs).ite (h.sendRelease.endAttempt _)

theorem Kept.setDebug (v : Nat) (reason : Nat) (p : Nat) : Kept s (t.setDebug v reason p) := by
  unfold State.setDebug
  exact h.ite ((((h.modSec _).modTap _).both (fun hw => (hw.bump _).raise _) fun hw => hw.gone _).logKind _ _ _)

theorem Kept.dropForces : Kept s (t.dropForces) := by
  unfold State.dropForces
  exact (h.each _ fun _ _ hu => (((hu.setSrc _ _).dropSrc _).ite hu)).releaseScopes

theorem Kept.leaveRun (dest : SeatState) : Kept s (t.leaveRun dest) := by
  unfold State.leaveRun
  exact (h.releaseClaim _).modRed _

theorem Kept.leaveService (reason : Nat) (p : Nat) : Kept s (t.leaveService reason p) := by
  unfold State.leaveService
  exact (h.dropForces.setDebug _ _ _).ite h

theorem Kept.enterRun : Kept s (t.enterRun) := by
  unfold State.enterRun
  exact (h.modRed _).each _ fun _ _ hu => (hu.modPt _ _)

theorem Kept.enterDev (new : DevState) (reason : Nat) (p : Nat) : Kept s (t.enterDev new reason p) := by
  unfold State.enterDev
  exact h.ite (((((((h.modDev _).logKind _ _ _).when fun hw => hw.leaveRun _).abortTests _).when fun hw =>
    hw.leaveService _ _).abortRuns _).when fun hw => hw.enterRun)

theorem Kept.foldClear (e : ExcId) : Kept s (t.foldClear e) := by
  unfold State.foldClear
  exact (h.modExc _ _).gone _

theorem Kept.holdExciters : Kept s (t.holdExciters) := by
  unfold State.holdExciters
  exact h.each _ fun _ _ hu => (((hu.modExc _ _).foldClear _).ite hu)

theorem Kept.safeEntry : Kept s (t.safeEntry) := by
  unfold State.safeEntry
  exact h.ite ((h.modFloor _).ite ((((((h.modFloor _).releaseClaim _).enterDev _ _ _).setSeat
    _).holdExciters).showOutputs))

theorem Kept.settled : Kept s (t.settled) := by
  unfold State.settled
  exact (h.safeEntry.modFloor _).ite h

end

end Sys2Proof.Machine
end

section
/-!
PROOFS. Accesses, the scheduler, channels, the loop, exciters and front ends keep the invariants (R261, R317, R96 to
R120).
-/

namespace Sys2Proof.Machine

set_option Elab.async false

section
variable {s t : State} (h : Kept s t)
include h

theorem Kept.beat (p : Port) : Kept s (t.beat p) := by
  unfold State.beat
  exact h.modPort _ _

theorem Kept.authFail (p : Port) : Kept s (t.authFail p) := by
  unfold State.authFail
  have hl : ∀ f kind info d, Kept s ((((t.modPort p fun x => { x with nonce := f }).bump (Reg.AUTH_FAIL_CNT p)).pulse
      1090).logKind kind info d) := fun _ _ _ _ => (((h.modPort _ _).bump _).pulse _).logKind _ _ _
  simp only
  split
  · exact (hl _ _ _ _).raise _
  · split
    · exact (hl _ _ _ _).modPort _ _
    · exact ((hl _ _ _ _).modPort _ _).raise _

theorem Kept.refuse (p : Port) (k : Key) (n : Nak) : Kept s (t.refuse p k n) := by
  unfold State.refuse
  have hs : ∀ c [Decidable c], Kept s (if c then t.bump Reg.SCH_REFUSE_CNT else t) := fun _ _ => (h.bump _).ite h
  refine Kept.modDev (Kept.bump ?_ _) _ fun _ => List.length_take_le _ _
  split
  · exact (hs _).authFail _
  · exact hs _

theorem Kept.writeWith (p : Port) (k : Key) (data : Bytes) (route : Route)
    {eff : Obj → Int → State → State × Option Nak} (heff : ∀ o v u, Kept s u → Kept s (eff o v u).1) :
    Kept s (t.writeWith p k data route eff).1 := by
  unfold State.writeWith
  split
  · exact h
  · exact h.modGrp (fun g => { g with held := g.held ++ [_] })
  · exact (h.beat _).refuse _ _ _
  · simp only
    split
    · exact (h.beat _).refuse _ _ _
    · next o v _ =>
      have hu := heff o v _ (h.beat p)
      split
      · next e => exact (Kept.of_eq e hu).refuse _ _ _
      · next e => exact Kept.of_eq e hu

theorem Kept.orElseSame {r : Except Nak State} (hr : Good s r) : Kept s (orElseSame t r).1 := by
  unfold Machine.orElseSame
  split
  · exact h
  · exact hr _ rfl

theorem Kept.write (p : Port) (k : Key) (data : Bytes) (route : Route) {eff : Obj → Int → Eff}
    (heff : ∀ o v u, Kept s u → Good s (eff o v u)) : Kept s (t.write p k data route eff).1 :=
  h.writeWith p k data route fun o v _ hu => hu.orElseSame (heff o v _ hu)

theorem Kept.cfgGen : Kept s (t.cfgGen) := by
  unfold State.cfgGen
  exact h.setReg _ _

theorem Kept.setRws (k : Key) (v : Int) : Kept s (t.setRws k v) := by
  unfold State.setRws
  exact (h.setReg _ _).cfgGen

theorem Kept.calPause (n : ChId) (reason : Nat) : Kept s (t.calPause n reason) := by
  unfold State.calPause
  exact (h.modCal _ _).ite h

theorem Kept.preempt (n : ChId) : Kept s (t.preempt n) := by
  unfold State.preempt
  simp only
  split
  · exact (h.modSched _ _).calPause _ _
  · exact h.abortTest _ _
  · exact h

theorem Kept.displace (d : Fin 17) : Kept s (t.displace d) := by
  unfold State.displace
  split
  · exact h.modCh _ _
  · exact h

theorem Kept.schedDo (d : Fin 17) (a : Activity) : Kept s (t.schedDo d a).2 := by
  unfold State.schedDo
  split
  · exact h
  · exact h
  · exact h.modSched _ _
  · exact ((h.displace _).modSched _ _).startActivity _ _
  · refine Kept.startActivity (Kept.modSched ?_ _ _) _ _
    split
    · exact h.preempt _
    · exact h

theorem Kept.of_schedDo {d : Fin 17} {a : Activity} {g : Grant} {u : State} (e : t.schedDo d a = (g, u)) : Kept s u
  := by
  have hu := h.schedDo d a
  rwa [e] at hu

theorem Kept.setProbe (n : ChId) (p : ProbeState) : Kept s (t.setProbe n p) := by
  unfold State.setProbe
  exact h.modFront _ _

theorem Kept.probeAsk (n : ChId) : Good s (t.probeAsk n) := by
  unfold State.probeAsk
  refine Good.bind fun _ => ?_
  split
  · exact Good.ok (h.setProbe _ _)
  · split
    · next e => exact Good.ok (h.of_schedDo e)
    · exact Good.error _ _
    · next e => exact Good.ok ((h.of_schedDo e).setProbe _ _)

theorem Kept.probeRecheck (n : ChId) : Kept s (t.probeRecheck n) := by
  unfold State.probeRecheck
  split
  · exact (h.setProbe _ _).schedWithdraw _ _
  · exact (h.setProbe _ _).schedWithdraw _ _
  · exact h

theorem Kept.probeOffer (n : ChId) : Kept s (t.probeOffer n) := by
  unfold State.probeOffer
  split
  · next e => exact h.probeAsk n _ e
  · split
    · exact h.setProbe _ _
    · exact h.setProbe _ _
    · exact h

theorem Kept.probeRetry (n : ChId) : Kept s (t.probeRetry n) := by
  unfold State.probeRetry
  split
  · exact h.probeOffer _
  · exact h.probeOffer _
  · exact h

theorem Kept.leaveTrack (n : ChId) : Kept s (t.leaveTrack n) := by
  unfold State.leaveTrack
  exact (((h.abortTest _ _).calPause _ _).modFront _ _).modWatch _ _

theorem Kept.enterCh (n : ChId) (new : ChState) (reason : Nat) : Kept s (t.enterCh n new reason) := by
  unfold State.enterCh
  simp only
  split
  · exact (((((h.modCh _ _).leaveTrack _).ite (h.modCh _ _)).bump _).modWatch _ _).probeRecheck _
  · exact (((((h.modCh _ _).leaveTrack _).ite (h.modCh _ _)).bump _).modWatch _ _).probeRecheck _
  · exact ((((((h.modCh _ _).leaveTrack _).ite (h.modCh _ _)).modWatch _ _).modFront _ _).abortRun _ _).probeRetry _
  · exact ((((h.modCh _ _).leaveTrack _).ite (h.modCh _ _)).modWatch _ _).probeRetry _
  · exact ((((h.modCh _ _).leaveTrack _).ite (h.modCh _ _)).modWatch _ _).probeRecheck _

theorem Kept.enterCold (n : ChId) (reason : Nat) : Kept s (t.enterCold n reason) := by
  unfold State.enterCold
  exact (h.enterCh _ _ _).modFront _ _

theorem Kept.enterWarm (n : ChId) (reason : Nat) : Kept s (t.enterWarm n reason) := by
  unfold State.enterWarm
  exact ((h.enterCh _ _ _).modFront _ _).modWatch _ _

theorem Kept.coastFor (n : ChId) (reason : Nat) : Kept s (t.coastFor n reason) := by
  unfold State.coastFor
  split
  · exact (h.enterCh _ _ _).modWatch _ _
  · exact h.modWatch _ _
  · exact h

theorem Kept.settlingEnd (e : ExcId) : Kept s (t.settlingEnd e) := by
  unfold State.settlingEnd
  exact h.ite (h.each _ fun _ _ hu => (((hu.enterCh _ _ _).modWatch _ _).ite hu))

theorem Kept.excChanged (e : ExcId) (freq : Bool) : Kept s (t.excChanged e freq) := by
  unfold State.excChanged
  refine h.each _ fun u n hu => ?_
  have hw : Kept s (if freq then u.modWatch n fun w => { w with win := [] } else u) := (hu.modWatch _ _).ite hu
  simp only
  generalize (if freq = true then u.modWatch n fun w => { w with win := [] } else u) = w at hw ⊢
  split
  · exact (hw.enterWarm _ _).ite hw
  · split
    · exact (hw.enterWarm _ _).ite (hw.enterCh _ _ _)
    · exact hw.modWatch _ _
  · exact hw

theorem Kept.monTrip (n : ChId) (bit : Fin 13) (src : Option Nat) : Kept s (t.monTrip n bit src) := by
  unfold State.monTrip
  simp only
  split
  · exact (h.modCh _ _).raise _
  · exact h.modCh _ _

theorem Kept.enterInvalid (n : ChId) (reason : Nat) : Kept s (t.enterInvalid n reason) := by
  unfold State.enterInvalid
  exact ((h.enterCh _ _ _).settlingEnd _).ite (h.enterCh _ _ _)

theorem Kept.setEnable (n : ChId) (v : Int) : Kept s (t.setEnable n v) := by
  unfold State.setEnable
  exact ((h.enterCold _ _).ite h).ite (h.ite (h.enterCh _ _ _))

theorem Kept.effVisible {check : State → (Key → Int) → Key → Int → Except Nak Unit}
    {apply : State → Key → Int → Int → State} (k : Key) (v : Int) (happly : ∀ u o, Kept s u → Kept s (apply u k o v))
      :
    Good s (effVisible check apply k v t) :=
  Good.bind fun _ => Good.ok (happly _ _ (h.setReg _ _)).cfgGen

theorem Kept.coastExit (n : ChId) : Kept s (t.coastExit n) := by
  unfold State.coastExit
  exact (h.enterWarm _ _).ite ((h.modWatch _ _).ite (h.enterCh _ _ _))

theorem Kept.effRecover (n : ChId) : Good s (effRecover n t) := by
  unfold Machine.effRecover
  exact Good.bind fun _ => Good.ok (h.enterCold _ _)

theorem Kept.effHome (p : Port) (n : ChId) : Good s (effHome p n t) := by
  unfold Machine.effHome
  exact Good.bind fun _ => Good.ok (h.modFront _ _)

theorem Kept.turnTo (n : ChId) (target : Int) : Kept s (t.turnTo n target) := by
  unfold State.turnTo
  exact h.modCh _ _

theorem Kept.homeNow (n : ChId) : Kept s (t.homeNow n) := by
  unfold State.homeNow
  exact h.ite ((((h.turnTo _ _).setReg _ _).setReg _ _).modFront _ _)

theorem Kept.alignTo (n : ChId) (target : Int) (homed : Int) (ofs : Int) (q : Fin 2) :
    Kept s (t.alignTo n target homed ofs q) := by
  unfold State.alignTo
  exact (((h.turnTo _ _).setReg _ _).setReg _ _).both (fun hw => hw) fun hw => (hw.bump _).each _ fun _ _ hu =>
    ((hu.modEmu _ _).ite hu)

theorem Kept.alignNow (n : ChId) : Kept s (t.alignNow n) := by
  unfold State.alignNow
  split
  · exact h
  · exact (h.alignTo _ _ _ _ _).modFront _ _

theorem Kept.effDesign (n : ChId) (b : Bool) : Good s (effDesign n b t) := by
  unfold Machine.effDesign
  exact Good.bind fun _ => Good.bind fun _ => Good.bind fun _ => Good.bind fun _ =>
    Good.ok (h.each _ fun _ _ hu => hu.setReg _ _)

theorem Kept.effBankSwap (p : Port) (n : ChId) : Good s (effBankSwap p n t) := by
  unfold Machine.effBankSwap
  exact Good.bind fun _ => Good.ok (h.modCh _ _)

theorem Kept.applyBankSel (p : Port) (n : ChId) (x1 : Key) (old : Int) (v : Int) :
    Kept s (applyBankSel p n t x1 old v) := by
  unfold Machine.applyBankSel
  exact (h.modCh _ _).ite (h.setReg _ _)

theorem Kept.effBankSwapAt (n : ChId) (v : Int) : Good s (effBankSwapAt n v t) := by
  unfold Machine.effBankSwapAt
  exact Good.bind fun _ => Good.ok ((h.setReg _ _).modCh _ _)

theorem Kept.effBankSwapCancel (n : ChId) : Good s (effBankSwapCancel n t) := by
  unfold Machine.effBankSwapCancel
  split
  · exact Good.ok (h.modCh _ _)
  · exact Good.error _ _

theorem Kept.swapNow (n : ChId) : Kept s (t.swapNow n) := by
  unfold State.swapNow
  exact ((((h.modCh _ _).setReg _ _).setReg _ _).bump _).both (fun hw => hw) fun hw => ((hw.modCh _ _).raise _).ite
    (hw.modCh _ _)

theorem Kept.beginTest (n : ChId) : Kept s (t.beginTest n) := by
  unfold State.beginTest
  exact h.modCh _ _

theorem Kept.effInjStart (n : ChId) : Good s (effInjStart n t) := by
  unfold Machine.effInjStart
  refine Good.bind fun _ => ?_
  split
  · exact Good.error _ _
  · next e => exact Good.ite (Good.ok (h.of_schedDo e)) (Good.ok ((h.of_schedDo e).modCh _ _))
  · next e => exact Good.ok ((h.of_schedDo e).beginTest _)

theorem Kept.effInjStop (n : ChId) : Good s (effInjStop n t) := by
  unfold Machine.effInjStop
  exact Good.ok (h.abortTest _ _)

theorem Kept.testCheck (n : ChId) : Kept s (t.testCheck n) := by
  unfold State.testCheck
  exact h.ite (h.abortTest _ _)

theorem Kept.injBoundary (n : ChId) : Kept s (t.injBoundary n) := by
  unfold State.injBoundary
  simp only
  split
  · exact h.testCheck _
  · exact (((h.testCheck _).modCh _ _).when fun hw => hw.setReg _ _).both (fun hw => (hw.schedEnd _).ite hw) fun hw
      => hw.schedWithdraw _ _

theorem Kept.foldEval (e : ExcId) : Kept s (t.foldEval e) := by
  unfold State.foldEval
  exact h.ite (((h.modExc _ _).raise _).ite (((h.modExc _ _).gone _).ite ((h.modExc _ _).ite h)))

theorem Kept.excStart (e : ExcId) : Kept s (t.excStart e) := by
  unfold State.excStart
  exact ((((h.modExc _ _).modKelvin _ _).foldEval _).modExc _ _).excChanged _ _

theorem Kept.excLoad (e : ExcId) : Kept s (t.excLoad e) := by
  unfold State.excLoad
  exact (h.modExc _ _).ite h

theorem Kept.excSync (e : ExcId) : Kept s (t.excSync e) := by
  unfold State.excSync
  simp only
  split
  · exact (h.excStart _).ite h
  · exact h.modExc _ _
  · exact h.ite (h.modExc _ _)
  · exact h
  · exact h

theorem Kept.applyExcMode (e : ExcId) (x1 : Key) (old : Int) (v : Int) : Kept s (applyExcMode e t x1 old v) := by
  unfold Machine.applyExcMode
  exact ((h.modExc _ _).ite h).excSync _

theorem Kept.excProbes (e : ExcId) : Kept s (t.excProbes e) := by
  unfold State.excProbes
  exact h.each _ fun _ _ hu => ((hu.probeRecheck _).probeRetry _)

theorem Kept.applyExcFreq (e : ExcId) (x1 : Key) (x2 : Int) (v : Int) : Kept s (applyExcFreq e t x1 x2 v) := by
  unfold Machine.applyExcFreq
  exact (h.modExc _ _).excProbes _

theorem Kept.applyExcAmpl (e : ExcId) (x1 : Key) (x2 : Int) (v : Int) : Kept s (applyExcAmpl e t x1 x2 v) := by
  unfold Machine.applyExcAmpl
  exact h.modExc _ _

theorem Kept.effExcRestart (e : ExcId) : Good s (effExcRestart e t) := by
  unfold Machine.effExcRestart
  exact Good.bind fun _ => Good.ok ((h.modExc _ _).excSync _)

theorem Kept.applyExcSel (n : ChId) (x1 : Key) (old : Int) (v : Int) : Kept s (applyExcSel n t x1 old v) := by
  unfold Machine.applyExcSel
  exact h.ite ((h.modWatch _ _).when fun hw => hw.enterCold _ _)

theorem Kept.showLost (e : ExcId) : Kept s (t.showLost e) := by
  unfold State.showLost
  exact h.each _ fun _ _ hu => (hu.ite ((((hu.monTrip _ _ _).coastFor _ _).modFront _ _).ite (hu.modCh _ _)))

theorem Kept.sensePeriod (e : ExcId) : Kept s (t.sensePeriod e) := by
  unfold State.sensePeriod
  exact (((h.modKelvin _ _).level _ _).level _ _).both (fun hw => hw) fun hw => ((hw.modKelvin _ _).ite hw).showLost _

theorem Kept.senseSample (e : ExcId) (x : BitVec 16) : Kept s (t.senseSample e x) := by
  unfold State.senseSample
  exact (((((h.modKelvin _ _).when fun hw => hw.sensePeriod _).when fun hw => hw.modKelvin _ _).modKelvin _ _).setReg
    _ _).setReg _ _

theorem Kept.rollback (n : ChId) : Kept s (t.rollback n) := by
  unfold State.rollback
  split
  · exact h
  · exact (((h.modCh _ _).setReg _ _).pulse _).ite (h.modCh _ _)

theorem Kept.carrierCheck (e : ExcId) (n : ChId) : Kept s (t.carrierCheck e n) := by
  unfold State.carrierCheck
  exact (h.modWatch _ _).ite (((((h.modWatch _ _).when fun hw => ((((((hw.modCh _ _).modCh _ _).level _ _).both (fun
    hw => hw) fun hw => hw.modWatch _ _).when fun hw => hw.modWatch _ _).when fun hw => hw.rollback _).when fun hw =>
    hw.coastFor _ _).both (fun hw => (hw.monTrip _ _ _).coastFor _ _) fun hw => hw.modCh _ _).when fun hw =>
    hw.modFront _ _).modWatch _ _)

theorem Kept.settlePeriod (n : ChId) : Kept s (t.settlePeriod n) := by
  unfold State.settlePeriod
  exact (h.modFront _ _).ite h

theorem Kept.betaPeriod (n : ChId) : Kept s (t.betaPeriod n) := by
  unfold State.betaPeriod
  exact (h.modFront _ _).ite h

theorem Kept.senseRescale (e : ExcId) (old : Int) (new : Int) : Kept s (t.senseRescale e old new) := by
  unfold State.senseRescale
  exact h.ite (h.modKelvin _ _)

theorem Kept.excApply (e : ExcId) : Kept s (t.excApply e) := by
  unfold State.excApply
  exact h.ite ((((((h.modExc _ _).foldEval _).modExc _ _).when fun hw => hw.modKelvin _ _).excChanged _ _).excProbes
    _)

theorem Kept.excRamp (e : ExcId) : Kept s (t.excRamp e) := by
  unfold State.excRamp
  exact ((h.modExc _ _).senseRescale _ _ _).when fun hw => ((hw.modExc _ _).foldClear _).excSync _

theorem Kept.armTrims (n : ChId) : Kept s (t.armTrims n) := by
  unfold State.armTrims
  exact ((h.modCh _ _).ite h).modBead _

theorem Kept.crossing (e : ExcId) (half : Bool) : Kept s (t.crossing e half) := by
  unfold State.crossing
  exact (((h.excApply _).ite ((h.excApply _).each _ fun _ _ hu => (((hu.carrierCheck _ _).settlePeriod _).betaPeriod
    _))).excRamp _).each _ fun _ _ hu => hu.armTrims _

theorem Kept.trimWait (n : ChId) : Kept s (t.trimWait n) := by
  unfold State.trimWait
  exact h.modCh _ _

theorem Kept.trimApply (n : ChId) : Kept s (t.trimApply n) := by
  unfold State.trimApply
  simp only
  split
  · exact h
  · exact h.modCh _ _

theorem Kept.effBetaLearn (n : ChId) : Good s (effBetaLearn n t) := by
  unfold Machine.effBetaLearn
  exact Good.bind fun _ => Good.ok ((h.setReg _ _).trimWait _)

theorem Kept.applyGlvMode (g : Fin 8) (x1 : Key) (x2 : Int) (x3 : Int) : Kept s (applyGlvMode g t x1 x2 x3) := by
  unfold Machine.applyGlvMode
  exact (h.modGlv _ _).ite h

theorem Kept.tempFollow (n : ChId) : Kept s (t.tempFollow n) := by
  unfold State.tempFollow
  exact h.setReg _ _

theorem Kept.tempChoose (n : ChId) : Kept s (t.tempChoose n) := by
  unfold State.tempChoose
  exact (h.setReg _ _).tempFollow _

theorem Kept.cuLost (n : ChId) : Kept s (t.cuLost n) := by
  unfold State.cuLost
  exact (h.modFront _ _).when fun hw => hw.tempChoose _

theorem Kept.applyTemp (n : ChId) (x1 : Key) (x2 : Int) (x3 : Int) : Kept s (applyTemp n t x1 x2 x3) := by
  unfold Machine.applyTemp
  exact ((h.modFront _ _).ite h).both (fun hw => hw.tempChoose _) fun hw => hw.tempFollow _

theorem Kept.effProbeStart (n : ChId) : Good s (effProbeStart n t) := by
  unfold Machine.effProbeStart
  exact (h.probeAsk _)

theorem Kept.effRrefLearn (n : ChId) : Good s (effRrefLearn n t) := by
  intro u hu
  unfold Machine.effRrefLearn at hu
  cases hp : t.probeAsk n with
  | error e => rw [hp] at hu; cases hu
  | ok v => rw [hp] at hu; cases hu; exact (h.probeAsk n v hp).modFront _ _

theorem Kept.probeCross (n : ChId) : Kept s (t.probeCross n) := by
  unfold State.probeCross
  exact h.modFront _ _

theorem Kept.probeClock (e : ExcId) (inRun : Bool) (crossed : Option Bool) :
    Kept s (t.probeClock e inRun crossed) := by
  unfold State.probeClock
  exact h.each _ fun _ _ hu => (hu.ite (((hu.probeCross _).ite hu).ite ((hu.modFront _ _).when fun hw =>
    hw.probeCross _)))

theorem Kept.probeSample (n : ChId) (xs : BitVec 16) (xc : BitVec 16) : Kept s (t.probeSample n xs xc) := by
  unfold State.probeSample
  exact h.ite (h.modFront _ _)

theorem Kept.probeResults (n : ChId) (rs : Int) (rc : Int) (zs : Int) (zc : Int) :
    Kept s (t.probeResults n rs rc zs zc) := by
  unfold State.probeResults
  exact ((((((h.setReg _ _).setReg _ _).setReg _ _).setReg _ _).when fun hw => ((((hw.setReg _ _).setReg _ _).setReg
    _ _).setReg _ _).modFront _ _).level _ _).both (fun hw => (hw.modFront _ _).tempChoose _) fun hw => (((hw.setReg
    _ _).level _ _).modFront _ _).tempChoose _

end

end Sys2Proof.Machine
end

section
/-!
PROOFS. Clocks, beads, calibration, captures and the commands of faults keep the invariants (R121 to R153, R301 to
R305).
-/

namespace Sys2Proof.Machine

set_option Elab.async false

section
variable {s t : State} (h : Kept s t)
include h

theorem Kept.timeEdge : Kept s (t.timeEdge) := by
  unfold State.timeEdge
  exact h.modTime _

theorem Kept.excLclk (e : ExcId) : Kept s (t.excLclk e) := by
  unfold State.excLclk
  refine ((?_ : Kept s _).probeClock _ _ _).ite (h.probeClock _ _ _)
  split
  · exact (h.modExc _ _).crossing _ _
  · exact h.modExc _ _

theorem Kept.ddsEdge : Kept s (t.ddsEdge) := by
  unfold State.ddsEdge
  exact h.each _ fun _ _ hu => ((hu.excLclk _).excLclk _)

theorem Kept.sclkEdge : Kept s t.sclkEdge := by
  unfold State.sclkEdge
  exact Kept.ite (Kept.timeEdge (h.setNow _)).ddsEdge (h.setNow _)

theorem Kept.effTimeInc (v : Int) : Good s (effTimeInc v t) := by
  unfold Machine.effTimeInc
  exact Good.ok (h.setReg _ _)

theorem Kept.refreshNref : Kept s (t.refreshNref) := by
  unfold State.refreshNref
  exact h.modTime _

theorem Kept.effTimeStep (v : Int) : Good s (effTimeStep v t) :=
  Good.ok (((h.refreshNref.modTime _).bump _).pulse _)

theorem Kept.effTimeSlew (v : Int) : Good s (effTimeSlew v t) := by
  unfold Machine.effTimeSlew
  exact Good.ok ((h.setReg _ _).modTime _)

theorem Kept.effTimeRef80 (v : Int) : Good s (effTimeRef80 v t) := by
  unfold Machine.effTimeRef80
  exact Good.ok ((h.setReg _ _).modTime _)

theorem Kept.stageNext (q : Fin 4) : Kept s (t.stageNext q) := by
  unfold State.stageNext
  split
  · exact h
  · split
    · exact h
    · exact h.modBead _

theorem Kept.stage (x : Staging) : Kept s (t.stage x) := by
  unfold State.stage
  exact (h.modBead _).stageNext _

theorem Kept.reloadRow (n : ChId) (set : Nat) : Kept s (t.reloadRow n set) := by
  unfold State.reloadRow
  exact h.ite (h.stage _)

theorem Kept.beadUe (n : ChId) (set : Nat) : Kept s (t.beadUe n set) := by
  unfold State.beadUe
  exact ((h.bump _).raise _).reloadRow _ _

theorem Kept.scdWrite (n : ChId) (th : BitVec 32) : Kept s (t.scdWrite n th) := by
  have hw : ∀ a b c f, Kept s ((((t.setReg (Reg.CH_SCD_CODE_SIN n) a).setReg (Reg.CH_SCD_CODE_COS n) b).setReg
      (Reg.CH_SCD_CLAMP_CNT n) c).modFront n f) := fun _ _ _ _ => (((h.setReg _ _).setReg _ _).setReg _ _).modFront _
        _
  unfold State.scdWrite
  exact Kept.ite (Kept.each (hw _ _ _ _) _ fun _ _ hu => hu.beadUe _ _) (hw _ _ _ _)

theorem Kept.rowCopied (x : Staging) : Kept s (t.rowCopied x) := by
  unfold State.rowCopied
  exact (((h.modBead _).gone _).ite (h.modBead _)).stageNext _

theorem Kept.writeGen : Kept s (t.writeGen) := by
  unfold State.writeGen
  exact h.modBead _

theorem Kept.endCommits : Kept s (t.endCommits) := by
  unfold State.endCommits
  exact h.each _ fun _ _ hu => ((hu.modCal _ _).ite hu)

theorem Kept.commitOffer : Kept s t.commitOffer := h.ite (h.schedDo _ _)

theorem Kept.effCommitNow : Good s (effCommitNow t) := by
  unfold Machine.effCommitNow
  refine Good.bind fun _ => ?_
  split
  · exact Good.error _ _
  · next e => exact Good.ok (h.of_schedDo e)

theorem Kept.effRowLoad : Good s (effRowLoad t) := by
  unfold Machine.effRowLoad
  exact Good.bind fun _ => Good.bind fun _ => Good.bind fun _ => Good.ok (h.stage _)

theorem Kept.effRowClear : Good s (effRowClear t) := by
  unfold Machine.effRowClear
  exact Good.ok (h.modBead _)

theorem Kept.effSetClear (n : ChId) (k : Fin 8) : Good s (effSetClear n k t) :=
  Good.bind fun _ => Good.ok (h.setSets _)

theorem Kept.calPend (n : ChId) (trigger : Nat) (commanded : Bool) : Kept s (t.calPend n trigger commanded) := by
  unfold State.calPend
  exact (h.modCal _ _).bump _

theorem Kept.calOffer (n : ChId) (trigger : Nat) (commanded : Bool) : Kept s (t.calOffer n trigger commanded) := by
  unfold State.calOffer
  split
  · exact h
  · split
    · exact h
    · next e => exact (h.of_schedDo e).calPend _ _ _

theorem Kept.effCalStart (n : ChId) : Good s (effCalStart n t) := by
  unfold Machine.effCalStart
  refine Good.bind fun _ => Good.bind fun _ => Good.bind fun _ => Good.bind fun _ => ?_
  split
  · exact Good.error _ _
  · next e => exact Good.ok ((h.of_schedDo e).calPend _ _ _)

theorem Kept.effCalCancel (n : ChId) : Good s (effCalCancel n t) := by
  unfold Machine.effCalCancel
  exact Good.bind fun _ => Good.ok (h.abortRun _ _)

theorem Kept.takeDomain (n : ChId) : Kept s (t.takeDomain n) := by
  unfold State.takeDomain
  exact h.modSched _ _

theorem Kept.calGrant (n : ChId) : Kept s (t.calGrant n) := by
  unfold State.calGrant
  exact ((h.modCal _ _).schedWithdraw _ _).ite ((h.abortRun _ _).ite ((h.abortRun _ _).ite (((((h.takeDomain
    _).modCal _ _).setReg _ _).setReg _ _).both (fun hw => hw) fun hw => hw.calPause _ _)))

theorem Kept.calSample (n : ChId) (used : Bool) (velWord accWord angle : Int) (o : Obs) :
    Kept s (t.calSample n used velWord accWord angle o) := by
  have hopen : ∀ f c [Decidable c] (bad : Option Nat), Kept s (if c then (match bad with
      | some r => (t.modCal n f).calPause n r
      | none => (if used && (t.modCal n f).noProbe n then (t.modCal n f).modCal n fun c => c.observe angle o
          else t.modCal n f).modCal n fun c => { c with winN := c.winN + 1 }) else t.modCal n f) := by
    intro f c _ bad
    refine Kept.ite ?_ (h.modCal _ _)
    split
    · exact (h.modCal _ _).calPause _ _
    · exact Kept.modCal (((h.modCal _ _).modCal _ _).ite (h.modCal _ _)) _ _
  unfold State.calSample
  simp only
  split
  · exact hopen _ _ _
  · exact hopen _ _ _
  · exact h

theorem Kept.closeWindow (n : ChId) (os : List Obs) : Kept s (t.closeWindow n os) := by
  unfold State.closeWindow
  exact ((((h.modCal _ _).modCal _ _).setReg _ _).setReg _ _).when fun hw => (hw.modCal _ _).schedWithdraw _ _

theorem Kept.calAccept (n : ChId) (r : CalResult) : Kept s (t.calAccept n r) := by
  unfold State.calAccept
  exact (h.modCal _ _).stage _

theorem Kept.calCandidate (n : ChId) (r : CalResult) : Kept s (t.calCandidate n r) := by
  unfold State.calCandidate
  exact ((h.modCal _ _).logCal _).calOffer _ _ _

theorem Kept.calRepeat (n : ChId) (r : CalResult) : Kept s (t.calRepeat n r) := by
  unfold State.calRepeat
  split
  · exact h.calCandidate _ _
  · exact ((h.modCal _ _).calAccept _ _).ite ((h.modCal _ _).endRun _ _ _)

theorem Kept.calDecide (n : ChId) (r : CalResult) : Kept s (t.calDecide n r) := by
  unfold State.calDecide
  split
  · exact h.endRun _ _ _
  · split
    · exact h.endRun _ _ _
    · exact (h.calAccept _ _).ite (h.calRepeat _ _)

theorem Kept.showEllipse (n : ChId) : Kept s (t.showEllipse n) := by
  unfold State.showEllipse
  exact h.ite (h.each _ fun _ _ hu => hu.setReg _ _)

theorem Kept.calApplied (n : ChId) : Kept s (t.calApplied n) := by
  unfold State.calApplied
  exact ((((h.modCal _ _).bump _).logCal _).cfgGen).commitOffer

theorem Kept.rowTrims (n : ChId) (t' : Trims) : Kept s (t.rowTrims n t') := by
  unfold State.rowTrims
  exact (((((h.setReg _ _).setReg _ _).setReg _ _).setReg _ _).setReg _ _).modCh _ _

theorem Kept.rowRecords (x : Staging) : Kept s (t.rowRecords x) := by
  unfold State.rowRecords
  exact Kept.setSets ((h.each _ fun _ _ hu => hu.setSets _).ite h) _

theorem Kept.rowApply (x : Staging) : Kept s (t.rowApply x) := by
  unfold State.rowApply
  refine ((((?_ : Kept s _).modBead _).ite (?_ : Kept s _)).calApplied _).ite (((?_ : Kept s _).modBead _).ite (?_ :
    Kept s _))
  · split
    · exact ((h.modBead _).rowRecords _).rowTrims _ _
    · exact (h.modBead _).rowRecords _
  · split
    · exact ((h.modBead _).rowRecords _).rowTrims _ _
    · exact (h.modBead _).rowRecords _
  · split
    · exact ((h.modBead _).rowRecords _).rowTrims _ _
    · exact (h.modBead _).rowRecords _
  · split
    · exact ((h.modBead _).rowRecords _).rowTrims _ _
    · exact (h.modBead _).rowRecords _

theorem Kept.capSample (n : ChId) (first : Bool) (t0 : Time32) (r : Bytes) : Kept s (t.capSample n first t0 r) := by
  unfold State.capSample
  exact h.ite (((h.capTrigger.ite h).modFront _ _).when fun hw => hw.modCap _)

theorem Kept.effCapArm : Good s (effCapArm t) := by
  unfold Machine.effCapArm
  exact Good.ok ((h.modCap _).each _ fun _ _ hu => (hu.modFront _ _))

theorem Kept.effCapStop : Good s (effCapStop t) := by
  unfold Machine.effCapStop
  exact Good.ok (h.modCap _)

theorem Kept.oscRaise (id : Nat) : Kept s (t.oscRaise id) := by
  unfold State.oscRaise
  exact (h.modFloor _).ite h

theorem Kept.oscReturn (id : Nat) : Kept s (t.oscReturn id) := by
  unfold State.oscReturn
  exact (h.modFloor _).ite h

theorem Kept.captureRail (id : Nat) : Kept s (t.captureRail id) := by
  unfold State.captureRail
  exact h.ite (h.modFloor _)

theorem Kept.freeExciters : Kept s (t.freeExciters) := by
  unfold State.freeExciters
  exact h.each _ fun _ _ hu => ((hu.modExc _ _).excSync _)

theorem Kept.endHold : Kept s (t.endHold) := by
  unfold State.endHold
  exact (((h.modFloor _).freeExciters).showOutputs).ite h

theorem Kept.effFltClear (id : SrcId) : Good s (effFltClear id t) := by
  unfold Machine.effFltClear
  split
  · exact Good.ok h
  · exact Good.error _ _
  · exact Good.ite (Good.ok (h.idleSrc _).endHold) (Good.error _ _)

theorem Kept.effClearAll (p : Port) : Good s (effClearAll p t) := by
  unfold Machine.effClearAll
  exact Good.ok ((h.each _ fun _ _ hu => hu.idleSrc _).endHold)

theorem Kept.fltApply (id : Nat) (old : Nat × Nat × Bool) : Kept s (t.fltApply id old) := by
  unfold State.fltApply
  exact (h.setSrc _ _).ite (((((h.setSrc _ _).setSrc _ _).showOutputs).ite (h.setSrc _ _)).when fun hw => hw.modFloor
    _)

theorem Kept.effFlt (p : Port) (o : FltField) (id : Nat) (v : Int) : Good s (effFlt p o id v t) := by
  unfold Machine.effFlt
  exact Good.bind fun _ => Good.ok ((h.setRws _ _).ite ((h.setRws _ _).fltApply _ _))

theorem Kept.effFltForce (p : Port) (id : Nat) (v : Int) : Good s (effFltForce p id v t) := by
  unfold Machine.effFltForce
  exact Good.bind fun _ => Good.ite (Good.bind fun _ => Good.ok (h.raiseWith _ _))
    (Good.ok ((h.setSrc _ _).dropSrc _).releaseScopes)

theorem Kept.effFltCntReset (id : Nat) : Good s (effFltCntReset id t) := by
  unfold Machine.effFltCntReset
  exact Good.ok (h.setSrc _ _)

theorem Kept.setConfig (vs : List (Key × Int)) : Kept s (t.setConfig vs) := by
  unfold State.setConfig
  exact Kept.each (h.each _ fun _ _ hu => hu.setReg _ _) _ fun _ _ hu => hu.fltApply _ _

theorem Kept.reloadFlt : Kept s (t.reloadFlt) := by
  unfold State.reloadFlt
  exact h.setConfig _

theorem Kept.effFcReinit : Good s (effFcReinit t) := by
  unfold Machine.effFcReinit
  exact Good.bind fun _ => Good.ok (h.reloadFlt.modFc _)

theorem Kept.effFloorRearm : Good s (effFloorRearm t) := by
  unfold Machine.effFloorRearm
  exact Good.bind fun _ => Good.ok (h.modFloor _)

end

end Sys2Proof.Machine
end

section
/-!
PROOFS. Outputs, seats, transmit queues and ports keep the invariants (R154 to R184, R224 to R247, R290 to R300).
-/

namespace Sys2Proof.Machine

set_option Elab.async false

section
variable {s t : State} (h : Kept s t)
include h

theorem Kept.snapEvent (src : Fin 3) (t' : Time32) : Kept s (t.snapEvent src t') := by
  unfold State.snapEvent
  exact (h.bump _).ite ((h.modSnap _ _).when fun hw => hw.setReg _ _)

theorem Kept.effSnapArm (src : Fin 3) : Good s (effSnapArm src t) := by
  unfold Machine.effSnapArm
  exact Good.ok (h.modSnap _ _)

theorem Kept.effSnapConfig (src : Fin 3) (k : Key) (v : Int) : Good s (effSnapConfig src k v t) :=
  Good.ok ((h.setReg _ _).ite ((h.setReg _ _).modSnap _ _))

theorem Kept.emuStep (n : Fin 16) (period : Nat) (delta : Int) : Kept s (t.emuStep n period delta) := by
  unfold State.emuStep
  exact h.modEmu _ _

theorem Kept.emuRun (n : Fin 16) (period : Nat) (was : Int) : Kept s (t.emuRun n period was) := by
  unfold State.emuRun
  exact (((((h.setReg _ _).ite h).level _ _).when fun hw => hw.bump _).modEmu _ _).emuStep _ _ _

theorem Kept.emuRetarget (n : Fin 16) : Kept s (t.emuRetarget n) := by
  unfold State.emuRetarget
  exact h.modEmu _ _

theorem Kept.emuStop (n : Fin 16) : Kept s (t.emuStop n) := by
  unfold State.emuStop
  exact (h.modEmu _ _).showEmu _

theorem Kept.emuResume (n : Fin 16) : Kept s (t.emuResume n) := by
  unfold State.emuResume
  exact ((((h.modEmu _ _).modEmu _ _).ite (h.modEmu _ _)).showEmu _).modEmu _ _

theorem Kept.emuRelease (n : Fin 16) (period : Nat) : Kept s (t.emuRelease n period) := by
  unfold State.emuRelease
  exact ((h.modEmu _ _).emuRetarget _).both (fun hw => hw) fun hw => (hw.emuStop _).ite ((hw.ite (hw.emuResume
    _)).both (fun hw => hw) fun hw => ((hw.modEmu _ _).showEmu _).ite (hw.emuRun _ _ _))

theorem Kept.emuSample (ch : ChId) : Kept s (t.emuSample ch) := by
  unfold State.emuSample
  exact h.each _ fun _ _ hu => (((hu.modEmu _ _).emuRelease _ _).ite hu)

theorem Kept.emuBase (n : Fin 16) : Kept s (t.emuBase n) := by
  unfold State.emuBase
  exact h.modEmu _ _

theorem Kept.emuStart (n : Fin 16) : Kept s (t.emuStart n) := by
  unfold State.emuStart
  exact (((h.emuBase _).ite h).modEmu _ _).showEmu _

theorem Kept.applyEmuEnable (n : Fin 16) (x1 : Key) (old : Int) (v : Int) : Kept s (applyEmuEnable n t x1 old v) := by
  unfold Machine.applyEmuEnable
  exact h.ite ((((h.modEmu _ _).emuBase _).emuRetarget _).showEmu _)

theorem Kept.applyEmuSrc (n : Fin 16) (x1 : Key) (old : Int) (v : Int) : Kept s (applyEmuSrc n t x1 old v) := by
  unfold Machine.applyEmuSrc
  exact h.ite ((h.modEmu _ _).emuStop _)

theorem Kept.pswEval (n : Fin 16) (p : Int) (valid : Bool) : Kept s (t.pswEval n p valid) := by
  unfold State.pswEval
  exact ((h.modPsw _ _).showPsw _).ite ((((h.bump _).ite h).modPsw _ _).showPsw _)

theorem Kept.pswSample (ch : ChId) : Kept s (t.pswSample ch) := by
  unfold State.pswSample
  exact h.each _ fun _ _ hu => ((hu.pswEval _ _ _).ite hu)

theorem Kept.applyPswEnable (n : Fin 16) (x1 : Key) (old : Int) (v : Int) : Kept s (applyPswEnable n t x1 old v) := by
  unfold Machine.applyPswEnable
  exact h.ite ((h.modPsw _ _).showPsw _)

theorem Kept.applyPswSrc (n : Fin 16) (x1 : Key) (old : Int) (v : Int) : Kept s (applyPswSrc n t x1 old v) := by
  unfold Machine.applyPswSrc
  exact h.ite (h.modPsw _ _)

theorem Kept.showLinks : Kept s (t.showLinks) := by
  unfold State.showLinks
  exact h.each _ fun _ _ hu => (hu.level _ _)

theorem Kept.noteE3 (q : Fin 2) : Kept s (t.noteE3 q) := by
  unfold State.noteE3
  exact (h.modPt _ _).ite h

theorem Kept.setGrid : Kept s (t.setGrid) := by
  unfold State.setGrid
  exact h.modRed _

theorem Kept.applyGrid (x1 : Key) (x2 : Int) (x3 : Int) : Kept s (applyGrid t x1 x2 x3) := by
  unfold Machine.applyGrid
  exact h.setGrid

theorem Kept.applyRedMode (x1 : Key) (x2 : Int) (x3 : Int) : Kept s (applyRedMode t x1 x2 x3) := by
  unfold Machine.applyRedMode
  exact h.showLinks

theorem Kept.codeErrors (k : Fin 2) : Kept s (t.codeErrors k) := by
  unfold State.codeErrors
  exact h.draw.setReg _ _

theorem Kept.sendRecord (t' : Time32) : Kept s (t.sendRecord t') := by
  unfold State.sendRecord
  exact ((h.each _ fun _ _ hu => (((hu.modLnk _ _).modRed _).ite hu)).modBead _).modRed _

theorem Kept.checkLines (q : Fin 2) (b : Bytes) : Kept s (t.checkLines q b) := by
  unfold State.checkLines
  exact (((h.modPt _ _).pulse _).ite (h.modPt _ _)).when fun hw => hw.pulse _

theorem Kept.recordEvidence (q : Fin 2) (b : Bytes) : Kept s (t.recordEvidence q b) := by
  unfold State.recordEvidence
  exact ((h.modRed _).ite h).ite (h.modPt _ _)

theorem Kept.alignFrom (q : Fin 2) (b : Bytes) : Kept s (t.alignFrom q b) := by
  unfold State.alignFrom
  exact h.ite (h.each _ fun _ _ hu => ((hu.modFront _ _).ite hu))

theorem Kept.voteChannel (q : Fin 2) (b : Bytes) (n : ChId) : Kept s (t.voteChannel q b n) := by
  unfold State.voteChannel
  split
  · exact h.modVote _ _
  · simp only
    split
    · exact ((h.modVote _ _).ite h).when fun hw => hw.modVote _ _
    · exact (h.modVote _ _).ite h

theorem Kept.voteFrom (q : Fin 2) (b : Bytes) : Kept s (t.voteFrom q b) := by
  unfold State.voteFrom
  exact ((h.each _ fun _ _ hu => (hu.voteChannel _ _ _)).each _ fun _ _ hu => (hu.level _ _)).level _ _

theorem Kept.takeRecord (q : Fin 2) (b : Bytes) : Kept s (t.takeRecord q b) := by
  unfold State.takeRecord
  exact ((((((((h.noteE3 _).bump _).pulse _).ite (h.noteE3 _)).modPt _ _).gone _).when fun hw => hw.pulse
    _).checkLines _ _).both (fun hw => (hw.bump _).pulse _) fun hw => (((hw.modPt _ _).recordEvidence _ _).alignFrom
    _ _).voteFrom _ _

theorem Kept.guardTests : Kept s (t.guardTests) := by
  unfold State.guardTests
  exact h.each _ fun _ _ hu => ((hu.abortTest _ _).ite hu)

theorem Kept.takeCounts : Kept s t.takeCounts := by
  unfold State.takeCounts
  split
  · exact h
  · split
    · exact h
    · refine h.ite (h.each _ fun u n hu => ?_)
      simp only
      split
      · exact hu
      · exact hu.ite (((hu.bump _).ite hu).modEmu _ _)

theorem Kept.endTests : Kept s (t.endTests) := by
  unfold State.endTests
  exact h.guardTests.each _ fun _ _ hu => ((hu.injBoundary _).ite hu)

theorem Kept.claim (hs : s.red.clmOut = true) : Kept s t.claim := by
  unfold State.claim
  have hc : ∀ f, Kept s (((t.endTests.modRed f).setSeat .active).bump Reg.RED_CLAIM_CNT) := fun f =>
    ((h.endTests.modRed_of_high hs f).setSeat _).bump _
  have ht : ∀ f c [Decidable c], Kept s ((if c then (((t.endTests.modRed f).setSeat .active).bump
      Reg.RED_CLAIM_CNT).pulse 914 else ((t.endTests.modRed f).setSeat .active).bump
        Reg.RED_CLAIM_CNT).takeCounts.modRed
      fun r => { r with former := none }) :=
    fun f _ _ => (Kept.ite ((hc f).pulse _) (hc f)).takeCounts.modRed _
  exact Kept.showOutputs (Kept.ite ((ht _ _).setDebug _ _ _) (ht _ _))

theorem Kept.effRedClaim : Good s (effRedClaim t) := by
  unfold Machine.effRedClaim
  exact Good.ok (h.modRed _)

theorem Kept.effRedRelease : Good s (effRedRelease t) := Good.ok ((h.modRed _).releaseClaim _)

theorem Kept.seedOwn (n : ChId) (sumS : Int) (sumC : Int) : Kept s (t.seedOwn n sumS sumC) := by
  unfold State.seedOwn
  exact ((h.modCh _ _).turnTo _ _).setReg _ _

theorem Kept.ethSend (k : Fin 2) (r : Reply) : Kept s (t.ethSend k r) := by
  unfold State.ethSend
  exact (h.modEth _ _).ite (h.modEth _ _)

theorem Kept.canSend (c : Fin 2) (b : Bytes) : Kept s (t.canSend c b) := by
  unfold State.canSend
  exact (h.modCan _ _).ite (h.modCan _ _)

theorem Kept.flushReplies (net : Fin 4) : Kept s (t.flushReplies net) := by
  unfold State.flushReplies
  exact h.ite ((h.modEth _ _).ite (h.modCan _ _))

theorem Kept.complete (q : Fin 16) (d : Desc) (result : Nat) (egress : Nat) (frac : Nat) :
    Kept s (t.complete q d result egress frac) :=
  h.modTq _ _ ⟨fun x => x, fun _ => List.length_take_le _ _⟩

theorem Kept.dropDesc (q : Fin 16) (d : Desc) (result : Nat) : Kept s (t.dropDesc q d result) :=
  (h.draw.modTq _ _ ⟨fun x => List.length_erase_le.trans x, fun x => x⟩).complete _ _ _ _ _

theorem Kept.effStage (q : Fin 16) (data : Bytes) : Good s (effStage q data t) :=
  Good.ok ((h.modTq _ _).setReg _ _)

theorem Kept.effPush (q : Fin 16) (desc : Bytes) : Good s (effPush q desc t) := by
  unfold Machine.effPush
  refine Good.bind fun _ => Good.need fun hroom => Good.ok (h.modTq _ _ ⟨fun _ => ?_, fun x => x⟩)
  obtain ⟨_, hroom⟩ := Bool.and_eq_true_iff.mp hroom
  rw [List.length_append, List.length_singleton]
  exact of_decide_eq_true hroom

theorem Kept.effFlush (q : Fin 16) : Good s (effFlush q t) := by
  unfold Machine.effFlush
  exact Good.ok ((h.each _ fun _ _ hu => (hu.dropDesc _ _ _)).flushReplies _)

theorem Kept.handover (q : Fin 16) (d : Desc) : Kept s (t.handover q d) := by
  unfold State.handover
  exact ((h.dropDesc _ _ _).bump _).pulse _

theorem Kept.launch (q : Fin 16) (d : Desc) (wins : Bool) : Kept s (t.launch q d wins) := by
  unfold State.launch
  exact (((h.bump _).pulse _).ite h).both (fun hw => (hw.handover _ _).flushReplies _) fun hw => ((hw.dropDesc _ _
    _).flushReplies _).ite (hw.modTq _ _)

theorem Kept.frameDone (q : Fin 16) (d : Desc) : Kept s (t.frameDone q d) :=
  (((h.modTq _ _ ⟨fun x => (List.drop_sublist 1 _).length_le.trans x, fun x => x⟩).bump _).complete _ _ _ _
    _).flushReplies _

theorem Kept.canSuccess (q : Fin 16) (tec : Nat) (rec : Nat) : Kept s (t.canSuccess q tec rec) := by
  unfold State.canSuccess
  exact h.ite ((((h.modCan _ _).modCan _ _).gone _).ite (h.modCan _ _))

theorem Kept.applyPfEnable (f : Fin 8) (x1 : Key) (old : Int) (v : Int) : Kept s (applyPfEnable f t x1 old v) := by
  unfold Machine.applyPfEnable
  exact h.ite ((h.modPf _ _).setReg _ _)

theorem Kept.streamFrame (f : Fin 8) : Kept s (t.streamFrame f) := by
  unfold State.streamFrame
  refine Kept.modPf ?_ _ _
  split
  · exact (h.bump _).pulse _
  · next hroom =>
    refine (h.modTq _ _ ⟨fun _ => ?_, fun x => x⟩).setReg _ _
    rw [List.length_append, List.length_singleton]
    exact Nat.lt_of_not_le hroom

theorem Kept.effRxrRelease (k : Fin 2) (v : Int) : Good s (effRxrRelease k v t) :=
  Good.bind fun _ => Good.ok (h.modEth _ _ fun x => (List.drop_sublist _ _).length_le.trans x)

theorem Kept.showEthLink (k : Fin 2) : Kept s (t.showEthLink k) := by
  unfold State.showEthLink
  exact h.level _ _

theorem Kept.applyEthEnable (k : Fin 2) (x1 : Key) (x2 : Int) (x3 : Int) : Kept s (applyEthEnable k t x1 x2 x3) := by
  unfold Machine.applyEthEnable
  exact h.showEthLink _

theorem Kept.effCanRecover (c : Fin 2) : Good s (effCanRecover c t) := by
  unfold Machine.effCanRecover
  exact Good.ok (h.modCan _ _)

theorem Kept.applyCanEnable (c : Fin 2) (x1 : Key) (old : Int) (v : Int) : Kept s (applyCanEnable c t x1 old v) := by
  unfold Machine.applyCanEnable
  exact h.ite (((h.modCan _ _).gone _).gone _)

end

end Sys2Proof.Machine
end

section
/-!
PROOFS. Replies, management, update, power, security, Tally inputs and resets keep the invariants (R185 to R198, R315
to R355).
-/

namespace Sys2Proof.Machine

set_option Elab.async false

section
variable {s t : State} (h : Kept s t)
include h

theorem Kept.sdoUpload (c : Fin 2) (k : Key) (data : Bytes) : Kept s (t.sdoUpload c k data) := by
  unfold State.sdoUpload
  exact (h.canSend _ _).ite ((h.modCan _ _).canSend _ _)

theorem Kept.answer (r : Route) (abort : Nat) (data : Bytes) : Kept s (t.answer r abort data) := by
  unfold State.answer
  split
  · exact h
  · exact h.modHsp _ _
  · exact (h.modEth _ _).ethSend _ _
  · simp only
    split
    · exact (h.modCan _ _).canSend _ _
    · split
      · exact (h.modCan _ _).canSend _ _
      · exact ((h.modCan _ _).canSend _ _).ite ((h.modCan _ _).sdoUpload _ _ _)

theorem Kept.writeSel (active : Bool) (previous : Bool) (trial : Bool) :
    Kept s (t.writeSel active previous trial) := by
  unfold State.writeSel
  exact ((h.bump _).ite h).modUpd _

theorem Kept.setUpd (st : UpdState) (detail : Nat) : Kept s (t.setUpd st detail) := by
  unfold State.setUpd
  exact (h.modUpd _).logKind _ _ _

theorem Kept.revertBank (detail : Nat) : Kept s (t.revertBank detail) := by
  unfold State.revertBank
  exact (((h.writeSel _ _ _).modUpd _).pulse _).setUpd _ _

theorem Kept.abortApply (n : ChId) : Kept s (t.abortApply n) := by
  unfold State.abortApply
  exact ((h.modBead _).endRun _ _ _).stageNext _

theorem Kept.restartRuns : Kept s (t.restartRuns) := by
  unfold State.restartRuns
  exact h.each _ fun _ _ hu => (((hu.abortApply _).ite (hu.abortRun _ _)).modCal _ _)

theorem Kept.storeEnds (st : Nat) (detail : Nat) : Kept s (t.storeEnds st detail) := by
  unfold State.storeEnds
  exact (h.modStore _).logKind _ _ _

theorem Kept.restartWriter : Kept s t.restartWriter := by
  unfold State.restartWriter
  split
  · exact h
  · refine Kept.schedEnd ?_ _
    split
    · exact h.storeEnds _ _
    · exact ((h.modUpd _).refuse _ _ _).answer _ _ _
    · exact h

theorem Kept.restart (r : RestartReason) : Kept s (t.restart r) := by
  unfold State.restart
  exact (((((h.modMgmt _).bump _).logKind _ _ _).when fun hw => hw.pulse _).restartRuns).restartWriter

theorem Kept.askRestart (r : RestartReason) : Kept s (t.askRestart r) := by
  unfold State.askRestart
  exact (h.modMgmt _).ite (h.restart _)

theorem Kept.faultRestart (r : RestartReason) : Kept s (t.faultRestart r) := by
  unfold State.faultRestart
  exact ((h.modFloor _).restart _).when fun hw => (hw.revertBank _).askRestart _

theorem Kept.coreFault (r : RestartReason) : Kept s (t.coreFault r) := by
  unfold State.coreFault
  exact (h.modMgmt _).ite (h.faultRestart _)

theorem Kept.sensors (die : Vector Int 4) (railMv : Vector Nat 5) (pllLock : Bool) (floorDev : Int) :
    Kept s (t.sensors die railMv pllLock floorDev) := by
  unfold State.sensors
  exact ((h.modMgmt _).level _ _).each _ fun _ _ hu => hu.tempFollow _

theorem Kept.checkLog : Kept s t.checkLog := by
  have hl : ∀ n, Kept s (t.modLog fun _ => { recs := t.log.recs.filter fun x => logOk x.2, nextSeq := n }) := fun n =>
    h.modLog _ fun x => List.length_filter_le _ _ |>.trans x
  unfold State.checkLog
  exact (hl _).ite (((hl _).setReg _ _).pulse _)

theorem Kept.effLogCompact : Good s (effLogCompact t) := by
  unfold Machine.effLogCompact
  refine Good.bind fun _ => ?_
  split
  · exact Good.error _ _
  · next e => exact Good.ok (h.of_schedDo e)

theorem Kept.compactOffer : Kept s t.compactOffer := h.ite (h.schedDo _ _)

theorem Kept.compacted : Kept s (t.compacted) := by
  unfold State.compacted
  exact h.draw.setReg _ _

theorem Kept.clearSpare : Kept s (t.clearSpare) := by
  unfold State.clearSpare
  exact h.modUpd _

theorem Kept.blockDone (b : UpdBlock) : Kept s (t.blockDone b) := by
  unfold State.blockDone
  split
  · exact (h.clearSpare.modUpd _).setUpd _ _
  · exact (h.modUpd _).ite h

theorem Kept.endBlock : Kept s t.endBlock := by
  unfold State.endBlock
  split
  · exact ((h.modUpd _).blockDone _).answer _ _ _
  · exact h

theorem Kept.orRefused {r : Except Nak State} (hr : Good s r) : Kept s (t.orRefused r) := by
  unfold State.orRefused
  split
  · exact hr _ rfl
  · exact (h.bump _).ite h

theorem Kept.askBlock (b : UpdBlock) : Good s (t.askBlock b) := by
  unfold State.askBlock
  split
  · exact Good.error _ _
  · next e => exact Good.ok ((h.of_schedDo e).modUpd _)

theorem Kept.effUpdBegin (p : Port) (r : Route) (v : Int) : Good s (effUpdBegin p r v t) := by
  unfold Machine.effUpdBegin
  exact Good.bind fun _ => (h.askBlock _)

theorem Kept.effUpdData (p : Port) (r : Route) (data : Bytes) : Good s (effUpdData p r data t) := by
  unfold Machine.effUpdData
  exact Good.bind fun _ => Good.bind fun _ => (h.askBlock _)

theorem Kept.effUpdVerify : Good s (effUpdVerify t) := by
  unfold Machine.effUpdVerify
  refine Good.bind fun _ => ?_
  simp only
  split
  · exact Good.ok ((h.setUpd _ _).pulse _)
  · exact Good.ok ((h.modUpd _).setUpd _ _)

theorem Kept.effUpdActivate : Good s (effUpdActivate t) := by
  unfold Machine.effUpdActivate
  exact Good.bind fun _ => Good.ok (h.setUpd _ _)

theorem Kept.kickWriter : Kept s (t.kickWriter) := by
  unfold State.kickWriter
  exact (h.schedEnd _).ite h

theorem Kept.confirm (burnOk : Bool) : Kept s (t.confirm burnOk) := by
  unfold State.confirm
  exact (h.writeSel _ _ _).both (fun hw => (hw.setUpd _ _).pulse _) fun hw => (hw.modUpd _).setUpd _ _

theorem Kept.effUpdConfirm (burnOk : Bool) : Good s (effUpdConfirm burnOk t) := by
  unfold Machine.effUpdConfirm
  exact Good.bind fun _ => Good.ok (h.confirm _)

theorem Kept.effUpdAbort : Good s (effUpdAbort t) := by
  unfold Machine.effUpdAbort
  exact Good.bind fun _ => Good.ok ((h.clearSpare.setUpd _ _).kickWriter)

theorem Kept.idleChannel (n : ChId) : Kept s (t.idleChannel n) := by
  unfold State.idleChannel
  exact (((h.modFront _ _).schedWithdraw _ _).both (fun hw => hw.abortTest _ _) fun hw => hw.enterCh _ _
    _).injBoundary _

theorem Kept.excOff (e : ExcId) : Kept s (t.excOff e) := by
  unfold State.excOff
  exact ((h.foldClear _).modExc _ _).ite h

theorem Kept.wakeChannel (n : ChId) : Kept s (t.wakeChannel n) := by
  unfold State.wakeChannel
  exact (h.enterCold _ _).ite h

theorem Kept.powerBlocks (old : Power) (new : Power) : Kept s (t.powerBlocks old new) := by
  unfold State.powerBlocks
  refine (?_ : Kept s _).showOutputs
  split
  · exact (((h.each _ fun _ _ hu => hu.idleChannel _).ite h).each _ fun _ _ hu => hu.wakeChannel _).each _ fun _ _ hu
      => hu.excSync _
  · exact ((h.each _ fun _ _ hu => hu.idleChannel _).ite h).each _ fun _ _ hu => hu.excSync _
  · exact ((h.each _ fun _ _ hu => hu.idleChannel _).ite h).each _ fun _ _ hu => hu.excSync _
  · exact ((((h.each _ fun _ _ hu => hu.idleChannel _).ite h).releaseClaim _).each _ fun _ _ hu => hu.excOff _).each
      _ fun _ _ hu => (hu.modLnk _ _)

theorem Kept.setPower (new : Power) (reason : Nat) (p : Nat) : Kept s (t.setPower new reason p) := by
  unfold State.setPower
  exact h.ite (((((h.modSup _).setReg _ _).logKind _ _ _).setDebug _ _ _).powerBlocks _ _)

theorem Kept.effPwr (p : Port) (v : Int) : Good s (effPwr p v t) := by
  unfold Machine.effPwr
  exact Good.ite (Good.ok (h.setPower _ _ _)) (Good.ite (Good.ite (Good.ok h) (Good.bind fun _ => Good.bind fun _ =>
    Good.ok (h.setPower _ _ _))) (Good.ite (Good.ok h) (Good.bind fun _ => Good.ok (h.setPower _ _ _))))

theorem Kept.autoHold (reason : Nat) : Kept s (t.autoHold reason) := by
  unfold State.autoHold
  exact (h.setPower _ _ _).ite h

theorem Kept.effPwrOff (p : Port) (v : Int) : Good s (effPwrOff p v t) := by
  unfold Machine.effPwrOff
  exact Good.bind fun _ => Good.bind fun _ => Good.bind fun _ => Good.ok (h.setPower _ _ _)

theorem Kept.readWith (p : Port) (k : Key) (route : Route) {view : Obj → State → Except Nak (State × Bytes)}
    (hview : ∀ o u v d, Kept s u → view o u = .ok (v, d) → Kept s v) : Kept s (t.readWith p k route view).1 := by
  unfold State.readWith
  split
  · exact h
  · exact h.modGrp (fun g => { g with held := g.held ++ [_] })
  · exact (h.beat _).refuse _ _ _
  · simp only
    split
    · exact (h.beat _).refuse _ _ _
    · split
      · exact (h.beat _).refuse _ _ _
      · next e => exact hview _ _ _ _ (h.beat _) e

theorem Kept.challenge (p : Port) : Kept s (t.challenge p).1 := (h.modSec _).modPort _ _

theorem Kept.effResponse (q : Port) (data : Bytes) : Good s (effResponse q data t) := by
  unfold Machine.effResponse
  split
  · exact Good.error _ _
  · exact Good.ok ((h.modPort _ _).logKind _ _ _)

theorem Kept.effLogout (q : Port) : Good s (effLogout q t) := by
  unfold Machine.effLogout
  exact Good.ok (h.modPort _ _)

theorem Kept.effKey (integrator : Bool) (data : Bytes) : Good s (effKey integrator data t) := by
  unfold Machine.effKey
  exact Good.ok (h.modSec _)

theorem Kept.checkKeys : Kept s (t.checkKeys) := by
  unfold State.checkKeys
  exact h.modSec _

theorem Kept.effDebug (p : Port) (v : Int) : Good s (effDebug p v t) := by
  unfold Machine.effDebug
  exact Good.bind fun _ => Good.bind fun _ => Good.ok (h.setDebug _ _ _)

theorem Kept.advance (p : Port) : Kept s (t.advance p) := by
  unfold State.advance
  exact ((((((h.modSec _).setReg _ _).logKind _ _ _).each _ fun _ _ hu => (hu.modPort _ _)).setDebug _ _
    _).dropForces).when fun hw => (hw.raise _).autoHold _

theorem Kept.effAdvance (p : Port) (v : Int) : Good s (effAdvance p v t) := by
  unfold Machine.effAdvance
  exact Good.bind fun _ => Good.bind fun _ => Good.ok (h.advance _)

theorem Kept.talFault (n : Fin 16) : Kept s (t.talFault n) := by
  unfold State.talFault
  exact (h.modTal _ _).each _ fun _ _ hu => ((hu.emuStop _).ite hu)

theorem Kept.talIllegal (n : Fin 16) : Kept s (t.talIllegal n) := by
  unfold State.talIllegal
  exact (((h.modTal _ _).bump _).pulse _).when fun hw => hw.talFault _

theorem Kept.talStep (n : Fin 16) (d : Int) : Kept s (t.talStep n d) := by
  unfold State.talStep
  exact (((h.modTal _ _).setReg _ _).setReg _ _).level _ _

theorem Kept.talCompare (n : Fin 16) (x : Int) (xref : Int) (preset : Bool) :
    Kept s (t.talCompare n x xref preset) := by
  unfold State.talCompare
  exact ((h.setReg _ _).bump _).both (fun hw => hw) fun hw => (((hw.modTal _ _).bump _).pulse _).both (fun hw =>
    (hw.modTal _ _).when fun hw => hw.talFault _) fun hw => (hw.modTal _ _).ite hw

theorem Kept.talIndex (n : Fin 16) : Kept s (t.talIndex n) := by
  unfold State.talIndex
  refine (?_ : Kept s _).modTal _ _
  split
  · exact (((h.setReg _ _).modTal _ _).ite (h.setReg _ _)).talCompare _ _ _ _
  · exact ((h.setReg _ _).modTal _ _).ite (h.setReg _ _)

theorem Kept.talSample (n : Fin 16) (a : Bool) (b : Bool) (z : Bool) : Kept s (t.talSample n a b z) := by
  unfold State.talSample
  refine ((((?_ : Kept s _).talIndex _).ite (?_ : Kept s _)).modTal _ _).ite (((?_ : Kept s _).talIndex _).ite (?_ :
    Kept s _))
  · split
    · exact h.modTal _ _
    · exact (h.modTal _ _).talStep _ _
    · exact (h.modTal _ _).talIllegal _
  · split
    · exact h.modTal _ _
    · exact (h.modTal _ _).talStep _ _
    · exact (h.modTal _ _).talIllegal _
  · split
    · exact h.modTal _ _
    · exact (h.modTal _ _).talStep _ _
    · exact (h.modTal _ _).talIllegal _
  · split
    · exact h.modTal _ _
    · exact (h.modTal _ _).talStep _ _
    · exact (h.modTal _ _).talIllegal _

theorem Kept.applyTalEnable (n : Fin 16) (x1 : Key) (old : Int) (v : Int) : Kept s (applyTalEnable n t x1 old v) := by
  unfold Machine.applyTalEnable
  exact h.ite (((h.modTal _ _).setReg _ _).ite ((h.talFault _).modTal _ _))

theorem Kept.applyTalLimits (n : Fin 16) (x1 : Key) (x2 : Int) (x3 : Int) : Kept s (applyTalLimits n t x1 x2 x3) := by
  unfold Machine.applyTalLimits
  exact (h.modTal _ _).ite ((h.modTal _ _).ite h)

theorem Kept.effTalLimits (n : Fin 16) (lo hi : Int) : Good s (effTalLimits n lo hi t) :=
  Good.bind fun _ => Good.ok (((h.setReg _ _).setReg _ _).applyTalLimits _ _ _ _).cfgGen

theorem Kept.effTalPreset (p : Port) (n : Fin 16) : Good s (effTalPreset p n t) := by
  unfold Machine.effTalPreset
  exact Good.bind fun _ => Good.ok (h.modTal _ _)

theorem Kept.effTalArm (n : Fin 16) : Good s (effTalArm n t) := by
  unfold Machine.effTalArm
  exact Good.ok (h.modTal _ _)

theorem Kept.effTalResume (n : Fin 16) : Good s (effTalResume n t) := by
  unfold Machine.effTalResume
  exact Good.bind fun _ => Good.ok (h.modTal _ _)

theorem Kept.applyTalMode (n : Fin 16) (x1 : Key) (x2 : Int) (v : Int) : Kept s (applyTalMode n t x1 x2 v) := by
  unfold Machine.applyTalMode
  exact (h.modTal _ _).ite h

theorem Kept.afterReset : Kept s t.afterReset := by
  refine h.trans ⟨fun _ => reset_canonical, fun ⟨_, _, hlog, _⟩ => ?_, fun _ => rfl⟩
  obtain ⟨hq, hd, _, ht, _, hrest⟩ := reset_bounded
  refine ⟨hq, hd, hlog, ht, fun k => ?_, hrest⟩
  rw [State.afterReset]
  simp only [Fin.getElem_fin, Vector.getElem_ofFn, List.length_nil, Nat.zero_le]

theorem Kept.selectBank : Kept s (t.selectBank) := by
  unfold State.selectBank
  exact (((h.modUpd _).modUpd _).when fun hw => hw.revertBank _).when fun hw => (hw.modUpd _).pulse _

theorem Kept.loadStore : Kept s t.loadStore := by
  unfold State.loadStore
  refine Kept.modFc (Kept.each ?_ _ fun _ _ hu => hu.fltApply _ _) _
  have hs := h.modStore fun x => { x with gens := x.gens.map StoreGen.checked }
  split
  · have hg : ∀ (l : SMap Int) f, Kept s (((State.each _ l fun s x => s.setReg x.1 x.2).modStore f)) := fun l f =>
      (hs.each l fun _ _ hu => hu.setReg _ _).modStore f
    exact Kept.ite ((hg _ _).pulse _) (hg _ _)
  · exact (hs.modStore _).pulse _

theorem Kept.loadBeads : Kept s t.loadBeads := by
  unfold State.loadBeads
  have hb := h.modBead fun b => { b with gens := b.gens.map BeadGen.checked }
  simp only
  split
  · have hg : ∀ f v (l : List (Key × Int)), Kept s (State.each { State.modBead _ f with sets := v } l fun s x =>
        s.setReg x.1 x.2) := fun f v l => ((hb.modBead f).setSets v).each l fun _ _ hu => hu.setReg _ _
    exact Kept.ite ((hg _ _ _).pulse _) (hg _ _ _)
  · exact hb.pulse _

theorem Kept.startChannel (n : ChId) : Kept s (t.startChannel n) := by
  unfold State.startChannel
  exact ((h.modCh _ _).tempChoose _).setEnable _ _

theorem Kept.startUnits : Kept s (t.startUnits) := by
  unfold State.startUnits
  exact ((((h.setGrid.showLinks.each _ fun _ _ hu => hu.startChannel _).each _ fun _ _ hu => ((hu.excLoad _).excSync
    _)).each _ fun _ _ hu => (hu.applyTalEnable _ _ _ _)).each _ fun _ _ hu => (hu.applyPfEnable _ _ _ _)).each _ fun
    _ _ hu => ((hu.showEthLink _).applyCanEnable _ _ _ _)

end

end Sys2Proof.Machine
end

section
/-!
PROOFS. Samples and the dictionary keep the invariants: open, sealed and timed groups stay within their sizes (R19,
R258 to R275).
-/

namespace Sys2Proof.Machine

set_option Elab.async false

section
variable {s t : State} (h : Kept s t)
include h

end

theorem putEntry_length_of_any {g : List Entry} {k : Key} {v : Int} (hany : (g.any fun e => e.1 = k) = true) :
    (putEntry g k v).length = g.length := by
  rw [putEntry, if_pos hany, List.length_map]

theorem putEntry_length_le (g : List Entry) (k : Key) (v : Int) : (putEntry g k v).length ≤ g.length + 1 := by
  unfold putEntry
  split
  · rw [List.length_map]
    exact Nat.le_succ _
  · rw [List.length_append, List.length_singleton]

/-- A timed fence is refused where 16 groups are timed (R268). -/
theorem room_of_fenceFault {t : State} {p : Port} {kind : FenceKind} {count : Nat} (hat : kind = .at_)
    (h : t.fenceFault p kind count = none) : t.grp.timed.length < 16 := by
  by_contra hfull
  unfold State.fenceFault at h
  simp only at h
  split at h
  · cases h
  · rw [if_pos ⟨hat, Nat.not_lt.mp hfull⟩] at h
    cases h

section
variable {s t : State} (h : Kept s t)
include h

theorem Kept.hbSample (n : ChId) : Kept s (t.hbSample n).1 := by
  unfold State.hbSample
  exact ((h.modWatch _ _).bump _).ite (h.modWatch _ _)

theorem Kept.satSticky (n : ChId) : Kept s (t.satSticky n) := by
  unfold State.satSticky
  exact h.modCh _ _

theorem Kept.satRaise (n : ChId) : Kept s (t.satRaise n) := by
  unfold State.satRaise
  exact (((h.raise _).ite h).when fun hw => hw.raise _).when fun hw => hw.raise _

theorem Kept.wrapFlag (n : ChId) (wrapped : Bool) : Kept s (t.wrapFlag n wrapped) := by
  unfold State.wrapFlag
  exact (h.setReg _ _).ite h

theorem Kept.stepNormal (n : ChId) (e inj : Int) : Kept s (t.stepNormal n e inj).1 := (h.modCh _ _).wrapFlag _ _

theorem Kept.stepHold (n : ChId) : Kept s (t.stepHold n).1 := (h.modCh _ _).wrapFlag _ _

theorem Kept.settleSample (n : ChId) (d : Demod) (discard : Bool) : Kept s (t.settleSample n d discard) := by
  unfold State.settleSample
  exact h.ite (h.modFront _ _)

theorem Kept.pushWin (n : ChId) (d : Demod) : Kept s (t.pushWin n d) := by
  unfold State.pushWin
  exact h.modWatch _ _

theorem Kept.monitors (n : ChId) (st : ChState) (hs : Bool) (hc : Bool) (discard : Bool) :
    Kept s (t.monitors n st hs hc discard) := by
  unfold State.monitors
  exact (h.modWatch _ _).modCh _ _

theorem Kept.monSources (n : ChId) (st : ChState) (m : Vector Bool 13) : Kept s (t.monSources n st m) := by
  unfold State.monSources
  exact ((((((((h.level _ _).level _ _).level _ _).level _ _).level _ _).level _ _).when fun hw => hw.gone _).both
    (fun hw => hw) fun hw => hw.gone _).both (fun hw => hw) fun hw => hw.gone _

theorem Kept.sampleMoves (n : ChId) (st : ChState) (discard : Bool) (accepted : Bool) :
    Kept s (t.sampleMoves n st discard accepted) := by
  unfold State.sampleMoves
  simp only
  split
  · exact (h.enterInvalid _ _).ite ((h.enterInvalid _ _).ite ((h.enterInvalid _ _).ite ((h.coastFor _ _).ite
      ((h.coastFor _ _).ite ((h.coastFor _ _).ite h)))))
  · exact (h.modWatch _ _).ite h
  · exact (h.modFront _ _).ite h
  · exact h

theorem Kept.budget (n : ChId) : Kept s (t.budget n) := by
  unfold State.budget
  exact (h.modWatch _ _).setReg _ _

theorem Kept.frameSample (n : ChId) : Kept s (t.frameSample n) := by
  unfold State.frameSample
  exact Kept.ite (Kept.each (Kept.modCap (Kept.setFrames (h.modFront _ _) _) _) _ fun _ _ hu => (hu.modCh _
    _).modFront _ _)
    (h.modFront _ _)

theorem Kept.capRec (n : ChId) (first : Bool) (injects : Bool) (inj : Int) :
    Kept s (t.capRec n first injects inj) := by
  unfold State.capRec
  exact h.capSample _ _ _ _

theorem Kept.sampleOff (n : ChId) : Kept s (t.sampleOff n) := by
  unfold State.sampleOff
  exact ((((((h.injBoundary _).modWatch _ _).monitors _ _ _ _ _).modCh _ _).monSources _ _ _).scdWrite _ _).capRec _
    _ _ _

theorem Kept.laneStep (n : ChId) (accepted : Bool) (e inj : Int) : Kept s (t.laneStep n accepted e inj).1 := by
  unfold State.laneStep
  split
  · exact h.stepNormal _ _ _
  · split
    · exact h.stepHold _
    · exact h

theorem Kept.sampleSources (n : ChId) (st : ChState) (m : Vector Bool 13) (stepped : Bool) (wrapped : Bool) :
    Kept s (t.sampleSources n st m stepped wrapped) := by
  unfold State.sampleSources
  exact (((h.pulse _).ite h).when fun hw => hw.satRaise _).monSources _ _ _

theorem Kept.sampleOn (n : ChId) (xs xc : BitVec 16) : Kept s (t.sampleOn n xs xc) := by
  unfold State.sampleOn
  dsimp -zeta only
  extract_lets u ys yc st v d l obs accepted stepped injects first inj w1 w2 w3 w4 w5 w6 w7 m w8 w9 frozen out w10
    w11 w12
    tracked angle w13
  have hboundary : Kept s v := Kept.modWatch ((((h.injBoundary n).homeNow n).alignNow n).hbSample n) _ _
  have hloop : Kept s w2 := Kept.modCh ((hboundary.laneStep _ _ _ _).when fun h => h.satSticky _) _ _
  have hsettle : Kept s w4 := (hloop.when fun h => h.modCh _ _).settleSample _ _ _
  have hfront : Kept s w6 := (hsettle.when fun h => h.pushWin _ _).when fun h => h.modFront _ _
  have hmoves : Kept s w9 := ((hfront.monitors _ _ _ _ _).modWatch _ _).sampleMoves _ _ _ _
  have hrecord : Kept s w12 := (((hmoves.modCh _ _).budget _).sampleSources _ _ _ _ _).scdWrite _ _
  exact (hrecord.calSample _ _ _ _ _ _).capRec _ _ _ _

theorem Kept.sample (n : ChId) (xs : BitVec 16) (xc : BitVec 16) : Kept s (t.sample n xs xc) := by
  unfold State.sample
  exact ((((h.probeSample _ _ _).both (fun hw => hw.sampleOff _) fun hw => hw.sampleOn _ _ _).frameSample
    _).emuSample _).pswSample _

theorem Kept.glvCurrent (g : Fin 8) : Kept s (t.glvCurrent g).1 := by
  unfold State.glvCurrent
  split
  · exact h
  · exact h.draw

theorem Kept.applyPeer (k : Fin 2) (key : Key) (old : Int) : Kept s (applyPeer k t key old) := by
  unfold Machine.applyPeer
  exact h.ite ((h.modEth _ _).modPort _ _)

theorem Kept.onVisible (p : Port) (k : Key) (old : Int) (v : Int) : Kept s (t.onVisible p k old v) := by
  unfold State.onVisible
  simp only
  split
  · exact h.trimWait _
  · exact h
  · exact h.fltApply _ _
  · exact (h.excSync _).ite ((h.applyExcMode _ _ _ _).ite ((h.applyExcFreq _ _ _ _).ite ((h.applyExcAmpl _ _ _ _).ite
      ((h.applyExcSel _ _ _ _).ite ((h.setEnable _ _).ite ((h.applyBankSel _ _ _ _ _).ite ((h.applyGlvMode _ _ _
      _).ite ((h.applyGlvMode _ _ _ _).ite ((h.probeRetry _).ite ((h.applyTemp _ _ _ _).ite ((h.applyEmuEnable _ _ _
      _).ite ((h.applyEmuSrc _ _ _ _).ite ((h.applyPswEnable _ _ _ _).ite ((h.applyPswSrc _ _ _ _).ite
      (h.showOutputs.ite ((h.applyTalEnable _ _ _ _).ite ((h.applyTalLimits _ _ _ _).ite ((h.applyTalMode _ _ _
      _).ite ((h.applyPfEnable _ _ _ _).ite (h.showLinks.ite (h.setGrid.ite ((h.applyEthEnable _ _ _ _).ite
      ((h.applyPeer _ _ _).ite ((h.applyCanEnable _ _ _ _).ite h))))))))))))))))))))))))

theorem Kept.effRws (p : Port) (k : Key) (v : Int) : Good s (effRws p k v t) := by
  unfold Machine.effRws
  exact Good.bind fun _ => Good.ok (((h.setReg _ _).onVisible _ _ _ _).cfgGen)

theorem Kept.effDiag (v : Int) : Good s (effDiag v t) := Good.bind fun _ => Good.ok (h.modDev _ fun _ => Nat.zero_le
  _)

theorem Kept.effHbTmo (q : Port) (v : Int) : Good s (effHbTmo q v t) := by
  unfold Machine.effHbTmo
  exact Good.ok ((h.setReg _ _).modPort _ _)

theorem Kept.effLoopSat (n : ChId) (v : Int) : Good s (effLoopSat n v t) :=
  Good.ok ((h.modCh _ _).each _ fun _ _ hu => (hu.gone _).ite hu)

theorem Kept.effTalFlags (n : Fin 16) (v : Int) : Good s (effTalFlags n v t) := by
  unfold Machine.effTalFlags
  exact Good.ok (h.modTal _ _)

theorem Kept.effBeadWin (data : Bytes) : Good s (effBeadWin data t) := by
  unfold Machine.effBeadWin
  exact Good.bind fun _ => Good.ok (h.modBead _)

theorem Kept.effFlag (k : Key) (v : Int) : Good s (effFlag k v t) := by
  unfold Machine.effFlag
  exact Good.ok ((h.setReg _ _).ite h)

theorem Kept.effRw (p : Port) (k : Key) (v : Int) (data : Bytes) : Good s (effRw p k v data t) := by
  unfold Machine.effRw
  exact Good.ite (h.effDiag _) <| Good.ite (h.effHbTmo _ _) <| Good.ite (h.effTimeInc _) <| Good.ite (h.effTimeSlew
    _) <|
    Good.ite (h.effTimeRef80 _) <| Good.ite (h.effSnapConfig _ _ _) <| Good.ite (h.effStage _ _) <|
    Good.ite (Good.ok (h.modCh _ _)) <| Good.ite (Good.ok (h.modWatch _ _)) <| Good.ite (h.effFlag _ _) <|
    Good.ite (h.effBankSwapAt _ _) <| Good.ite (h.effLoopSat _ _) <|
    Good.ite (Good.ok ((h.setReg _ _).applyTemp _ _ _ _)) <| Good.ite (h.effTalFlags _ _) <| Good.ite (h.effBeadWin
      _) <|
    Good.ite (h.effFltForce _ _ _) <| Good.ite (h.effDebug _ _) <| Good.ok (h.setReg _ _)

theorem Kept.putGroup (p : Port) (k : Key) (v : Int)
    (hroom : ((t.port[p].group.any fun e => e.1 = k) || !t.groupFull p) = true) :
    Kept s (t.modPort p fun x => { x with group := putEntry x.group k v }) := by
  by_cases hany : (t.port[p].group.any fun e => e.1 = k) = true
  · exact h.trans (Kept.modPort_at (Kept.refl t) p _ (by rw [putEntry_length_of_any hany]))
  · have hlen := putEntry_length_le t.port[p].group k v
    rw [Bool.eq_false_iff.mpr hany, Bool.false_or] at hroom
    simp only [State.groupFull, Bool.not_eq_true', Bool.or_eq_false_iff, decide_eq_false_iff_not, not_le] at hroom
    obtain ⟨h64, h128⟩ := hroom
    refine h.trans ⟨id, fun ⟨hq, hd, hl, ht, he, hg, hp, _⟩ => ⟨hq, hd, hl, ht, he, hg, fun r => ?_, ?_⟩, id⟩
    · simp only [State.modPort_port, Fin.getElem_fin, vmod_get]
      split
      · exact hlen.trans h64
      · exact hp r
    · have hpend := pendCount_modPort t p fun x => { x with group := putEntry x.group k v }
      simp only at hpend
      omega

theorem Kept.effGroup (p : Port) (k : Key) (v : Int) : Good s (effGroup p k v t) :=
  Good.need fun hroom => Good.ok (h.putGroup _ _ _ hroom)

theorem Kept.makeVisible (p : Port) (es : List Entry) : Kept s (t.makeVisible p es) := by
  unfold State.makeVisible
  exact Kept.cfgGen ((h.setConfig _).each _ fun _ _ hu => hu.onVisible _ _ _ _)

theorem Kept.groupFate (g : Group) (r : Nat) : Kept s (t.groupFate g r) := by
  unfold State.groupFate
  exact h.modPort _ _

theorem Kept.sealGroup (p : Port) (tag due : Nat) (all : Bool) : Kept s (t.sealGroup p tag due all).1 :=
  h.modPort _ _ fun _ => Nat.zero_le _

theorem Kept.timeGroup (p : Port) (tag due r : Nat) (all : Bool) (hroom : t.grp.timed.length < 16) :
    Kept s (((t.sealGroup p tag due all).1.groupFate (t.sealGroup p tag due all).2 r).modGrp fun x =>
      { x with timed := x.timed ++ [(t.sealGroup p tag due all).2] }) := by
  have hclosed := ((Kept.refl t).sealGroup p tag due all).groupFate (t.sealGroup p tag due all).2 r
  refine h.trans ⟨hclosed.canonical, fun hb => ?_, hclosed.low⟩
  obtain ⟨hq, hd, hl, ht, he, _, hp, _⟩ := hclosed.bounded hb
  obtain ⟨_, _, _, _, _, _, _, hn⟩ := hb
  have hseal := pendCount_modPort t p fun x =>
    { x with group := [], lastTag := BitVec.ofNat 16 tag, fences := t.port[p].fences + 1, tagResult := 0 }
  have hfate := pendCount_modPort (t.sealGroup p tag due all).1 p fun x =>
    { x with lastResult := r, tagResult := if x.fences = t.port[p].fences + 1 then r else x.tagResult }
  refine ⟨hq, hd, hl, ht, he, ?_, hp, ?_⟩
  · rw [State.modGrp_grp, List.length_append, List.length_singleton]
    exact hroom
  · have hentries : (t.sealGroup p tag due all).2.entries = t.port[p].group := rfl
    rw [pendCount_addTimed, hentries]
    exact le_trans (le_of_eq (by
      have e1 : ((t.sealGroup p tag due all).1.groupFate (t.sealGroup p tag due all).2 r).pendCount =
          (t.sealGroup p tag due all).1.pendCount := Nat.add_right_cancel hfate
      have e2 : (t.sealGroup p tag due all).1.pendCount + t.port[p].group.length = t.pendCount := hseal
      rw [e1, e2])) hn

theorem Kept.fence (p : Port) (route : Route) (kind : FenceKind) (v : Nat) : Kept s (t.fence p route kind v).1 := by
  unfold State.fence
  simp only
  split
  · exact h.modPort _ _
  · next hfault =>
    have hs := h.sealGroup p (v / 2 ^ 16 % 2 ^ 16) (v / 2 ^ 32) (kind = .glob)
    split
    · next hat => exact h.timeGroup _ _ _ _ _ (room_of_fenceFault hat hfault)
    · split
      · exact (hs.makeVisible _ _).groupFate _ _
      · exact hs.modGrp fun x => { x with sealed := x.sealed ++ [_] }

theorem Kept.effHeartbeat (q : Port) : Good s (effHeartbeat q t) := by
  unfold Machine.effHeartbeat
  exact Good.ok (h.beat _)

theorem Kept.discard (q : Port) (r : Nat) : Kept s (t.discard q r) :=
  h.ite ((h.modPort _ _ fun _ => Nat.zero_le _).bump _)

theorem Kept.effDiscard (q : Port) : Good s (effDiscard q t) := by
  unfold Machine.effDiscard
  exact Good.ok (h.discard _ _)

theorem Kept.effTimedCancel (q : Port) : Good s (effTimedCancel q t) :=
  Good.ok ((h.modGrp _ fun _ => List.filter_sublist).each _ fun _ _ hu => hu.groupFate _ _)

theorem Kept.exitSafe (p : Port) : Kept s (t.exitSafe p) := by
  unfold State.exitSafe
  exact ((((h.modFloor _).enterDev _ _ _).setSeat _).freeExciters).showOutputs

theorem Kept.effDevCmd (p : Port) (v : Int) : Good s (effDevCmd p v t) := by
  unfold Machine.effDevCmd
  exact Good.ite (Good.bind fun _ => Good.ok (h.exitSafe _))
    (Good.ite (Good.ite (Good.ok h) (Good.bind fun _ => Good.ok (h.enterDev _ _ _)))
      (Good.ite (Good.ok (h.enterDev _ _ _)) (Good.ok (h.enterDev _ _ _))))

theorem Kept.devCommand (p : Port) (v : Int) : Kept s (t.devCommand p v).1 := by
  unfold State.devCommand
  split
  · exact h
  · next e => exact h.effDevCmd p v _ e

theorem Kept.effStore (v : Int) : Good s (effStore v t) := by
  unfold Machine.effStore
  refine Good.bind fun _ => Good.bind fun _ => ?_
  split
  · exact Good.error _ _
  · next e => exact Good.ok (h.of_schedDo e)

theorem Kept.writeStore : Kept s (t.writeStore) := by
  unfold State.writeStore
  exact h.modStore _

theorem Kept.spoilStore : Kept s (t.spoilStore) := by
  unfold State.spoilStore
  exact h.modStore _

theorem Kept.storeRun (genChanges : Nat) (readBackOk : Bool) : Kept s (t.storeRun genChanges readBackOk) := by
  unfold State.storeRun
  exact (h.storeEnds _ _).ite (((h.spoilStore.raise _).storeEnds _ _).ite ((h.writeStore.gone _).storeEnds _ _))

theorem Kept.restore (p : Port) (stored : Bool) (v : Int) : Kept s (t.restore p stored v).1 := by
  unfold State.restore
  split
  · exact h
  · split
    · exact h
    · simp only
      split
      · exact h.modPort _ _
      · exact h.makeVisible _ _

theorem Kept.cmdUnits (p : Port) (k : Key) : GoodOpt s t (cmdUnits p k) := by
  unfold Machine.cmdUnits
  exact .step (h.effRecover _) <| .step (h.effHome _ _) <| .step (h.effBetaLearn _) <| .step (h.effBankSwap _ _) <|
    .step (h.effBankSwapCancel _) <| .step (h.effProbeStart _) <| .step (h.effRrefLearn _) <| .step (h.effDesign _ _)
    <| .step (h.effDesign _ _) <| .step (h.effInjStart _) <| .step (h.effInjStop _) <| .step (h.effTalPreset _ _) <|
    .step (h.effTalArm _) <| .step (h.effTalResume _) <| .step (h.effExcRestart _) <| .step (h.effSnapArm _) <| .step
    (h.effCommitNow) <| .step (h.effCalStart _) <| .step (h.effCalCancel _) <| .step (h.effSetClear _ _) <| .step
    (h.effRowLoad) <| .step (h.effRowClear) <| .none

theorem Kept.cmdDevice (p : Port) (r : Route) (k : Key) (v : Int) (data : Bytes) : GoodOpt s t (cmdDevice p r k v
  data) := by
  unfold Machine.cmdDevice
  exact .step (h.effStore _) <| .step (h.effHeartbeat _) <| .step (h.effDiscard _) <| .step (h.effTimedCancel _) <|
    .step (h.effCanRecover _) <| .step (h.effTimeStep _) <| .step (h.effRxrRelease _ _) <| .step (h.effPush _ _) <|
    .step (h.effFlush _) <| .step (h.effFltClear _) <| .step (h.effFltCntReset _) <| .step (h.effClearAll _) <| .step
    (h.effFcReinit) <| .step (h.effFloorRearm) <| .step (h.effRedClaim) <| .step (h.effRedRelease) <| .step
    (h.effLogCompact) <| .step (h.effUpdBegin _ _ _) <| .step (h.effUpdData _ _ _) <| .step (h.effUpdVerify) <| .step
    (h.effUpdActivate) <| .step (h.draw.effUpdConfirm _) <| .step (h.effUpdAbort) <| .step (h.effAdvance _ _) <|
    .step (h.effKey _ _) <| .step (h.effKey _ _) <| .step (h.effResponse _ _) <| .step (h.effLogout _) <| .step
    (h.effPwr _ _) <| .step (h.effPwrOff _ _) <| .step (h.effCapArm) <| .step (h.effCapStop) <| .none

theorem Kept.effCmd (p : Port) (r : Route) (k : Key) (v : Int) (data : Bytes) : Good s (effCmd p r k v data t) := by
  unfold Machine.effCmd
  cases hu : Machine.cmdUnits p k with
  | some e => exact h.cmdUnits p k e hu
  | none =>
    cases hd : Machine.cmdDevice p r k v data with
    | some e => exact h.cmdDevice p r k v data e hd
    | none => exact Good.ok h

theorem Kept.dictEffect (p : Port) (r : Route) (k : Key) (data : Bytes) (o : Obj) (v : Int) :
    Kept s (State.dictEffect p r k data o v t).1 := by
  unfold State.dictEffect
  split
  · exact h.fence _ _ _ _
  split
  · exact h.fence _ _ _ _
  split
  · exact h.fence _ _ _ _
  split
  · exact h.devCommand _ _
  split
  · exact h.restore _ _ _
  split
  · exact h.restore _ _ _
  refine h.orElseSame ?_
  split
  · exact h.effGroup _ _ _
  · exact h.effRws _ _ _
  · exact h.effRw _ _ _ _
  · exact h.effCmd _ _ _ _ _

theorem Kept.dictWrite (p : Port) (k : Key) (data : Bytes) (r : Route) : Kept s (t.dictWrite p k data r).1 :=
  h.writeWith _ _ _ _ fun _ _ _ hu => hu.dictEffect _ _ _ _ _ _

theorem Kept.readObj {p : Port} {k : Key} {o : Obj} {u : State} {d : Bytes} (e : t.readObj p k o = .ok (u, d)) :
    Kept s u := by
  unfold State.readObj at e
  simp only at e
  split at e
  · split at e
    · cases e
      exact h.challenge p
    · cases hd : t.domain k with
      | error n => rw [hd] at e; cases e
      | ok x => rw [hd] at e; cases e; exact h
  · split at e
    · cases e
      exact h.glvCurrent _
    · cases e
      exact h

theorem Kept.perform (p : Port) (k : Key) (data : Option Bytes) (r : Route) : Kept s (t.perform p k data r) := by
  unfold State.perform
  split
  · next d =>
    have hw := h.dictWrite p k d r
    split
    · next e => exact (Kept.of_eq e hw).answer _ _ _
    · next e => exact Kept.of_eq e hw
  · have hr : Kept s (t.readWith p k r fun o s => s.readObj p k o).1 :=
      h.readWith p k r fun o u v d hu e => hu.readObj e
    split
    · next e => exact (Kept.of_eq e hr).answer _ _ _
    · next e => exact Kept.of_eq e hr

end

end Sys2Proof.Machine
end

section
/-!
PROOFS. Pins and ports keep the invariants (R284 to R295, R355 to R358).
-/

namespace Sys2Proof.Machine

set_option Elab.async false

section
variable {s t : State} (h : Kept s t)
include h

theorem Kept.releaseHeld : Kept s (t.releaseHeld) := by
  unfold State.releaseHeld
  exact (h.modGrp _).each _ fun _ _ hu => (hu.perform _ _ _ _)

theorem Kept.expire (q : Port) : Kept s (t.expire q) := by
  unfold State.expire
  exact ((h.discard _ _).modPort _ _).when fun hw => hw.modEth _ _

theorem Kept.quietMiso (h' : Fin 3) : Kept s (t.quietMiso h') := by
  unfold State.quietMiso
  exact (h.modHsp _ _).ite h

theorem Kept.hspDiscard (h' : Fin 3) (e : HspErr) : Kept s (t.hspDiscard h' e) := by
  unfold State.hspDiscard
  exact ((h.quietMiso _).modHsp _ _).both (fun hw => hw) fun hw => (hw.bump _).pulse _

theorem Kept.hspRequest (h' : Fin 3) (tag : Byte) (k : Key) (data : Option Bytes) :
    Kept s (t.hspRequest h' tag k data) := by
  unfold State.hspRequest
  exact (h.quietMiso _).both (fun hw => hw) fun hw => (hw.hspDiscard _ _).ite ((hw.modHsp _ _).perform _ _ _ _)

theorem Kept.poll (h' : Fin 3) : Kept s (t.poll h') := by
  unfold State.poll
  exact h.draw.modHsp _ _

theorem Kept.dictPass (frame : Bytes) : Kept s (t.dictPass frame) := by
  unfold State.dictPass
  simp only
  split
  · exact ((h.poll _).modTap _).hspDiscard _ _
  · exact (h.poll _).modTap _
  · exact (h.poll _).modTap _
  · exact ((h.poll _).modTap _).hspRequest _ _ _ _
  · exact ((h.poll _).modTap _).hspRequest _ _ _ _

theorem Kept.floorPass : Kept s (t.floorPass) := by
  unfold State.floorPass
  exact (h.modTap _).ite h

theorem Kept.tapPass (ir : Byte) (bits : Bytes) : Kept s (t.tapPass ir bits) := by
  unfold State.tapPass
  simp only
  split
  · exact ((h.modTap _).draw).modTap _
  · exact (h.modTap _).dictPass _
  · exact (h.modTap _).floorPass
  · exact h.modTap _
  · exact h.modTap _

theorem Kept.learnPeer (k : Fin 2) (src : BitVec 32 × BitVec 16) : Kept s (t.learnPeer k src) := by
  unfold State.learnPeer
  exact h.ite ((h.modEth _ _).modPort _ _)

theorem Kept.peerDatagram (k : Fin 2) (mac : BitVec 48) (ip : BitVec 32) (udp : BitVec 16) (b : Bytes) :
    Kept s (t.peerDatagram k mac ip udp b) := by
  unfold State.peerDatagram
  simp only
  split
  · exact h.bump _
  · split
    · exact (h.ethSend _ _).ite (h.bump _)
    · exact (h.modEth _ _).perform _ _ _ _

theorem Kept.sdoStop (c : Fin 2) (k : Key) (code : Nat) : Kept s (t.sdoStop c k code) := by
  unfold State.sdoStop
  exact ((h.modCan _ _).bump _).canSend _ _

theorem Kept.sdoAccess (c : Fin 2) (k : Key) (data : Option Bytes) (seg : Option Bool) :
    Kept s (t.sdoAccess c k data seg) := by
  unfold State.sdoAccess
  exact (h.modCan _ _).perform _ _ _ _

theorem Kept.sdoDownload (c : Fin 2) (cmd : Nat) (k : Key) (d : Bytes) : Kept s (t.sdoDownload c cmd k d) := by
  unfold State.sdoDownload
  exact (h.sdoAccess _ _ _ _).ite ((h.modCan _ _).canSend _ _)

theorem Kept.sdoPut (c : Fin 2) (cmd : Nat) (d : Bytes) : Kept s (t.sdoPut c cmd d) := by
  unfold State.sdoPut
  split
  · exact (h.sdoStop _ _ _).ite ((h.sdoAccess _ _ _ _).ite ((h.modCan _ _).canSend _ _))
  · exact h.sdoStop _ _ _
  · exact h.sdoStop _ _ _

theorem Kept.sdoGet (c : Fin 2) (cmd : Nat) : Kept s (t.sdoGet c cmd) := by
  unfold State.sdoGet
  split
  · exact (h.sdoStop _ _ _).ite ((h.modCan _ _).canSend _ _)
  · exact h.sdoStop _ _ _
  · exact h.sdoStop _ _ _

theorem Kept.sdoServe (c : Fin 2) (f : Bytes) : Kept s (t.sdoServe c f) := by
  unfold State.sdoServe
  simp only
  split
  · exact h.sdoPut _ _ _
  · exact h.sdoDownload _ _ _ _
  · exact h.sdoAccess _ _ _ _
  · exact h.sdoGet _ _
  · exact h.modCan _ _
  · exact h.sdoStop _ _ _

end

end Sys2Proof.Machine
end

section
/-!
PROOFS. Every command answers a next state that keeps the invariants: an access of a host through its one path, and
the commands of the hardware and the firmware one by one.
-/

namespace Sys2Proof.Machine

set_option Elab.async false

/-- The outcome is a next state that keeps what `s` holds, with its safe entry made (R207). -/
def Does (s : State) (o : Host.Outcome State Fault Refusal) : Prop := ∃ u, o = done u ∧ Kept s u

theorem Does.done {s u : State} (h : Kept s u) : Does s (Machine.done u) := ⟨u, rfl, h⟩

theorem Does.ite {s : State} {c : Prop} [Decidable c] {a b : Host.Outcome State Fault Refusal} (ha : Does s a)
    (hb : Does s b) : Does s (if c then a else b) := by
  split
  · exact ha
  · exact hb

section
variable {s : State}

/-! ### An access of a host -/

theorem Does.hostWrite (p : Port) (k : Key) (data : Bytes) {eff : Int → Eff}
    (heff : ∀ v u, Kept s u → Good s (eff v u)) : Does s (hostWrite p k data eff s) :=
  .done ((Kept.refl s).write p k data .none fun _ v u hu => heff v u hu)

theorem Does.hostSet (p : Port) (k : Key) (v : Int) {eff : Int → Eff} (heff : ∀ v u, Kept s u → Good s (eff v u)) :
    Does s (hostSet p k v eff s) := .hostWrite p k _ heff

theorem Does.hostCmd (p : Port) (k : Key) {eff : Eff} (heff : ∀ u, Kept s u → Good s (eff u)) :
    Does s (hostCmd p k eff s) := .hostWrite p k _ fun _ u hu => heff u hu

theorem Does.hostVisible (p : Port) (k : Key) (v : Int) {check : State → (Key → Int) → Key → Int → Except Nak Unit}
    {apply : State → Key → Int → Int → State} (happly : ∀ k v u o, Kept s u → Kept s (apply u k o v)) :
    Does s (Machine.hostSet p k v (effVisible check apply k) s) :=
  .hostSet p k v fun _ _ hu => hu.effVisible _ _ fun _ _ hw => happly _ _ _ _ hw

theorem Does.hostFence (p : Port) (k : Key) (kind : FenceKind) (data : Bytes) : Does s (hostFence p k kind data s) :=
  .done ((Kept.refl s).writeWith p k data .none fun _ _ _ hu => hu.fence _ _ _ _)

theorem Does.hostDev (p : Port) (v : Int) : Does s (hostDev p v s) :=
  .done ((Kept.refl s).writeWith p _ _ .none fun _ _ _ hu => hu.devCommand _ _)

theorem Does.hostRestore (p : Port) (k : Key) (stored : Bool) (v : BitVec 32) : Does s (hostRestore p k stored v s) :=
  .done ((Kept.refl s).writeWith p k _ .none fun _ _ _ hu => hu.restore _ _ _)

/-! ### The commands of the hardware and of the firmware -/

theorem Does.execWarmSettleResume (ch : ChId) : Does s (execWarmSettleResume ch s) := by
  unfold Machine.execWarmSettleResume
  split
  · exact .done ((Kept.refl s).modFront _ _)
  · exact .done (Kept.refl s)

theorem Does.execSettleComplete (ch : ChId) : Does s (execSettleComplete ch s) := by
  unfold Machine.execSettleComplete
  exact .ite (.done (((Kept.refl s).enterCh _ _ _).settlingEnd _)) (.done (Kept.refl s))

theorem Does.execChSettleTmo (ch : ChId) : Does s (execChSettleTmo ch s) := by
  unfold Machine.execChSettleTmo
  exact .ite (.done (((Kept.refl s).monTrip _ _ _).enterInvalid _ _)) (.done (Kept.refl s))

theorem Does.execCoastExit (ch : ChId) : Does s (execCoastExit ch s) := by
  unfold Machine.execCoastExit
  exact .ite (.done ((Kept.refl s).coastExit _)) (.done (Kept.refl s))

theorem Does.execChCoastExpired (ch : ChId) : Does s (execChCoastExpired ch s) := by
  unfold Machine.execChCoastExpired
  exact .ite (.done (((Kept.refl s).monTrip _ _ _).enterInvalid _ _)) (.done (Kept.refl s))

theorem Does.execAutoRecover (ch : ChId) : Does s (execAutoRecover ch s) := by
  unfold Machine.execAutoRecover
  exact .ite (.done ((Kept.refl s).enterCold _ _)) (.done (Kept.refl s))

theorem Does.execTimedSwapDue (ch : ChId) : Does s (execTimedSwapDue ch s) := by
  unfold Machine.execTimedSwapDue
  split
  · exact .ite (.done ((Kept.refl s).modCh _ _)) (.done (Kept.refl s))
  · exact .done (Kept.refl s)

theorem Does.execBankSwapApply (ch : ChId) : Does s (execBankSwapApply ch s) := by
  unfold Machine.execBankSwapApply
  exact .ite (.done ((Kept.refl s).swapNow _)) (.done (Kept.refl s))

theorem Does.execInjTestBegin (ch : ChId) : Does s (execInjTestBegin ch s) := by
  unfold Machine.execInjTestBegin
  exact .ite (.ite (.done (((Kept.refl s).modSched _ _).beginTest _)) (.done ((Kept.refl s).abortTest _ _))) (.done
    (Kept.refl s))

theorem Does.execInjDurationEnd (ch : ChId) : Does s (execInjDurationEnd ch s) := by
  unfold Machine.execInjDurationEnd
  exact .ite (.done ((Kept.refl s).modCh _ _)) (.done (Kept.refl s))

theorem Does.execFoldbackChange (e : ExcId) (vexcMv : Nat) : Does s (execFoldbackChange e vexcMv s) := by
  unfold Machine.execFoldbackChange
  exact .ite (.done (((Kept.refl s).modExc _ _).foldEval _)) (.done (Kept.refl s))

theorem Does.execExcOcShutdown (e : ExcId) : Does s (execExcOcShutdown e s) := by
  unfold Machine.execExcOcShutdown
  exact .ite (.done (((((Kept.refl s).foldClear _).modExc _ _).bump _).pulse _)) (.done (Kept.refl s))

theorem Does.execSenseEstimate (e : ExcId) (x : BitVec 16) : Does s (execSenseEstimate e x s) := by
  unfold Machine.execSenseEstimate
  exact .ite (.done ((Kept.refl s).senseSample _ _)) (.done (Kept.refl s))

theorem Does.execHatbandTrip (ch : ChId) (pin : Pin) (above : Bool) : Does s (execHatbandTrip ch pin above s) := by
  unfold Machine.execHatbandTrip
  exact .ite (.done ((Kept.refl s).modWatch _ _)) (.done (Kept.refl s))

theorem Does.execHatbandRelease (ch : ChId) (pin : Pin) (above : Bool) :
    Does s (execHatbandRelease ch pin above s) := by
  unfold Machine.execHatbandRelease
  exact .ite (.done ((Kept.refl s).modWatch _ _)) (.done (Kept.refl s))

theorem Does.execTrimBoundaryApply (ch : ChId) : Does s (execTrimBoundaryApply ch s) := by
  unfold Machine.execTrimBoundaryApply
  exact .ite (.done ((Kept.refl s).trimApply _)) (.done (Kept.refl s))

theorem Does.execBetaMeasRefresh (ch : ChId) : Does s (execBetaMeasRefresh ch s) := by
  unfold Machine.execBetaMeasRefresh
  exact .ite (.done (((Kept.refl s).modFront _ _).setReg _ _)) (.done (Kept.refl s))

theorem Does.execGlvOverload (g : Fin 8) : Does s (execGlvOverload g s) := by
  unfold Machine.execGlvOverload
  exact .ite (.done (((Kept.refl s).modGlv _ _).pulse _)) (.done (Kept.refl s))

theorem Does.execCopperTempValidityLoss (ch : ChId) : Does s (execCopperTempValidityLoss ch s) := by
  unfold Machine.execCopperTempValidityLoss
  exact .ite (.done ((Kept.refl s).cuLost _)) (.done (Kept.refl s))

theorem Does.execProbePeriodDue (ch : ChId) : Does s (execProbePeriodDue ch s) := by
  unfold Machine.execProbePeriodDue
  exact .ite (.done ((Kept.refl s).probeOffer _)) (.done (Kept.refl s))

theorem Does.execProbeRun (ch : ChId) : Does s (execProbeRun ch s) := by
  unfold Machine.execProbeRun
  exact .ite (.ite (.done ((Kept.refl s).probeRecheck _)) (.done (((Kept.refl s).modFront _ _).calPause _ _))) (.done
    (Kept.refl s))

theorem Does.execProbeComplete (ch : ChId) (stepS : Int) (baseS : Int) (toneS : Int) (stepC : Int) (baseC : Int)
  (toneC : Int) :
    Does s (execProbeComplete ch stepS baseS toneS stepC baseC toneC s) := by
  unfold Machine.execProbeComplete
  exact .ite (.done ((((Kept.refl s).modFront _ _).probeResults _ _ _ _ _).schedWithdraw _ _)) (.done (Kept.refl s))

theorem Does.execZeroCrossing (e : ExcId) (half : Bool) : Does s (execZeroCrossing e half s) := by
  unfold Machine.execZeroCrossing
  exact .ite (.done ((Kept.refl s).sclkEdge)) (.done (Kept.refl s))

theorem Does.execTimeWrap : Does s (execTimeWrap s) := by
  unfold Machine.execTimeWrap
  exact .ite (.done ((Kept.refl s).sclkEdge)) (.done (Kept.refl s))

theorem Does.execTimeSlewDone : Does s (execTimeSlewDone s) := by
  unfold Machine.execTimeSlewDone
  exact .ite (.done ((Kept.refl s).sclkEdge)) (.done (Kept.refl s))

theorem Does.execNrefRefresh : Does s (execNrefRefresh s) := by
  unfold Machine.execNrefRefresh
  exact .ite (.done ((Kept.refl s).refreshNref)) (.done (Kept.refl s))

theorem Does.execRowCopyComplete (ch : ChId) : Does s (execRowCopyComplete ch s) := by
  unfold Machine.execRowCopyComplete
  split
  · exact .ite (.done ((Kept.refl s).rowCopied _)) (.done (Kept.refl s))
  · exact .done (Kept.refl s)

theorem Does.execBeadCommit (failedAttempts : Fin 4) : Does s (execBeadCommit failedAttempts s) := by
  unfold Machine.execBeadCommit
  exact .ite (.done (((((Kept.refl s).setReg _ _).both (fun hw => (hw.writeGen.bump _).gone _) fun hw => (hw.modBead
    _).raise _).endCommits).schedEnd _)) (.done (Kept.refl s))

theorem Does.execBeadScrub (corrected : List (Fin 131072)) (uncorrectable : List (Fin 131072)) :
    Does s (execBeadScrub corrected uncorrectable s) := by
  unfold Machine.execBeadScrub
  exact .ite (.done (((Kept.refl s).each _ fun _ _ hu => ((hu.bump _).pulse _)).each _ fun _ _ hu => ((hu.modBead
    _).beadUe _ _))) (.done (Kept.refl s))

theorem Does.execCalTriggerEval (ch : ChId) : Does s (execCalTriggerEval ch s) := by
  unfold Machine.execCalTriggerEval
  refine .ite (.done (.refl s)) ?_
  extract_lets c drifted u
  have hu : Kept s u := (Kept.refl s).when fun h => h.abortRun _ _
  clear_value u
  refine .ite (.done (hu.calOffer _ _ _)) (.ite ?_ (.done hu))
  split
  · exact .done (hu.calOffer _ _ _)
  · exact .done hu

theorem Does.execCalGrant (ch : ChId) : Does s (execCalGrant ch s) := by
  unfold Machine.execCalGrant
  exact .ite (.done ((Kept.refl s).calGrant _)) (.done (Kept.refl s))

theorem Does.execCalWindowOpen (ch : ChId) : Does s (execCalWindowOpen ch s) := by
  unfold Machine.execCalWindowOpen
  exact .ite (.done ((Kept.refl s).modCal _ _)) (.done (Kept.refl s))

theorem Does.execCalResume (ch : ChId) : Does s (execCalResume ch s) := by
  unfold Machine.execCalResume
  exact .ite (.done ((Kept.refl s).modCal _ _)) (.done (Kept.refl s))

theorem Does.execCalWindowTimeout (ch : ChId) : Does s (execCalWindowTimeout ch s) := by
  unfold Machine.execCalWindowTimeout
  exact .ite (.done ((Kept.refl s).modCal _ _)) (.done (Kept.refl s))

theorem Does.execCalTimeout (ch : ChId) : Does s (execCalTimeout ch s) := by
  unfold Machine.execCalTimeout
  exact .ite (.done ((Kept.refl s).endRun _ _ _)) (.done (Kept.refl s))

theorem Does.execCalWindowClose (ch : ChId) : Does s (execCalWindowClose ch s) := by
  unfold Machine.execCalWindowClose
  simp only
  split
  · exact .ite (.done ((Kept.refl s).closeWindow _ _)) (.done (Kept.refl s))
  · exact .done (Kept.refl s)

theorem Does.execCalEvaluate (ch : ChId) : Does s (execCalEvaluate ch s) := by
  unfold Machine.execCalEvaluate
  exact .ite (.done ((((Kept.refl s).modCal _ _).showEllipse _).calDecide _ _)) (.done (Kept.refl s))

theorem Does.execRowApply (ch : ChId) : Does s (execRowApply ch s) := by
  unfold Machine.execRowApply
  split
  · exact .ite (.done ((Kept.refl s).rowApply _)) (.done (Kept.refl s))
  · exact .done (Kept.refl s)

theorem Does.execFaultRaise (id : SrcId) : Does s (execFaultRaise id s) := by
  unfold Machine.execFaultRaise
  exact .ite (.done (((Kept.refl s).oscRaise _).raise _)) (.done (Kept.refl s))

theorem Does.execFaultConditionGone (id : SrcId) : Does s (execFaultConditionGone id s) := by
  unfold Machine.execFaultConditionGone
  exact .ite (.done (((Kept.refl s).gone _).oscReturn _)) (.done (Kept.refl s))

theorem Does.execRailError (id : SrcId) : Does s (execRailError id s) := by
  unfold Machine.execRailError
  exact .ite (.done ((((Kept.refl s).raiseWith _ _).captureRail _).raise _)) (.done (Kept.refl s))

theorem Does.execFaultAutoClear (id : SrcId) : Does s (execFaultAutoClear id s) := by
  unfold Machine.execFaultAutoClear
  exact .ite (.done (((Kept.refl s).idleSrc _).endHold)) (.done (Kept.refl s))

theorem Does.execFcSelftest (pass : Bool) : Does s (execFcSelftest pass s) := by
  unfold Machine.execFcSelftest
  exact .ite (.done ((((Kept.refl s).bump _).gone _).ite ((Kept.refl s).raise _))) (.done (Kept.refl s))

theorem Does.execSyncEdge (pin : Fin 2) (rising : Bool) : Does s (execSyncEdge pin rising s) := by
  unfold Machine.execSyncEdge
  exact .ite (.done ((Kept.refl s).snapEvent _ _)) (.done (Kept.refl s))

theorem Does.execSnapTimeLatch : Does s (execSnapTimeLatch s) := by
  unfold Machine.execSnapTimeLatch
  exact .ite (.done ((Kept.refl s).snapEvent _ _)) (.done (Kept.refl s))

theorem Does.execEmuTallyRelease (n : Fin 16) : Does s (execEmuTallyRelease n s) := by
  unfold Machine.execEmuTallyRelease
  exact .ite (.done ((Kept.refl s).emuRelease _ _)) (.done (Kept.refl s))

theorem Does.execEmuFirstValid (n : Fin 16) : Does s (execEmuFirstValid n s) := by
  unfold Machine.execEmuFirstValid
  exact .ite (.done ((Kept.refl s).emuStart _)) (.done (Kept.refl s))

theorem Does.execEmuSrcWrite (p : Port) (n : Fin 16) (kind : Bool) (v : Int) :
    Does s (execEmuSrcWrite p n kind v s) :=
  .hostVisible _ _ _ fun _ _ _ _ hu => hu.applyEmuSrc _ _ _ _

theorem Does.execEmuSafeExit (n : Fin 16) : Does s (execEmuSafeExit n s) := by
  unfold Machine.execEmuSafeExit
  exact .ite (.done (((Kept.refl s).modEmu _ _).showEmu _)) (.done (Kept.refl s))

theorem Does.execRedCycleWrite (p : Port) (first : Bool) (v : Int) : Does s (execRedCycleWrite p first v s) :=
  .hostVisible _ _ _ fun _ _ _ _ hu => hu.applyGrid _ _ _

theorem Does.execLnkUp (k : Fin 2) : Does s (execLnkUp k s) := by
  unfold Machine.execLnkUp
  exact .ite (.done ((((Kept.refl s).each _ fun _ _ hu => hu.noteE3 _).modLnk _ _).gone _)) (.done (Kept.refl s))

theorem Does.execLnkDown (k : Fin 2) : Does s (execLnkDown k s) := by
  unfold Machine.execLnkDown
  exact .ite (.done (((((Kept.refl s).codeErrors _).modLnk _ _).bump _).showLinks)) (.done (Kept.refl s))

theorem Does.execReleaseReceive (k : Fin 2) (seat : Fin 4) : Does s (execReleaseReceive k seat s) := by
  unfold Machine.execReleaseReceive
  split
  · exact .ite (.done ((Kept.refl s).modPt _ _)) (.done (Kept.refl s))
  · exact .done (Kept.refl s)

theorem Does.execRecordLatchSend : Does s (execRecordLatchSend s) := by
  unfold Machine.execRecordLatchSend
  exact .ite (.done ((((Kept.refl s).sendRecord _).ite (Kept.refl s)).modRed _)) (.done (Kept.refl s))

theorem Does.execLineTestPulse : Does s (execLineTestPulse s) := by
  unfold Machine.execLineTestPulse
  exact .ite (.done ((Kept.refl s).modRed _)) (.done (Kept.refl s))

theorem Does.execRecordReceive (k : Fin 2) (bytes : Bytes) : Does s (execRecordReceive k bytes s) := by
  unfold Machine.execRecordReceive
  split
  · exact .done (Kept.refl s)
  · split
    · exact .done (((Kept.refl s).bump _).pulse _)
    · simp only
      split
      · exact .done ((Kept.refl s).bump _)
      · exact .ite (.done ((Kept.refl s).bump _)) (.done (((Kept.refl s).bump _).takeRecord _ _))

theorem Does.execPartnerLost (q : Fin 2) : Does s (execPartnerLost q s) := by
  unfold Machine.execPartnerLost
  exact .ite (.done (((Kept.refl s).modPt _ _).raise _)) (.done (Kept.refl s))

theorem Does.execClmInHigh (q : Fin 2) : Does s (execClmInHigh q s) := by
  unfold Machine.execClmInHigh
  exact .ite (.done ((Kept.refl s).modPt _ _)) (.ite (.done ((Kept.refl s).modPt _ _)) (.ite (.done ((((Kept.refl
    s).modPt _ _).setSeat _).modRed _)) (.ite (.done (((Kept.refl s).modPt _ _).modRed _)) (.done ((Kept.refl
    s).modPt _ _)))))

theorem Does.execPartnerClaimed (q : Fin 2) : Does s (execPartnerClaimed q s) := by
  unfold Machine.execPartnerClaimed
  exact .ite (.done ((((Kept.refl s).modPt _ _).modRed _).when fun hw => hw.endAttempt _)) (.done (Kept.refl s))

theorem Does.execClmInFall (q : Fin 2) : Does s (execClmInFall q s) := by
  unfold Machine.execClmInFall
  exact .ite (.done (((Kept.refl s).modPt _ _).when fun hw => hw.modRed _)) (.done ((Kept.refl s).modPt _ _))

theorem Does.execOkinChange (q : Fin 2) (level : Bool) : Does s (execOkinChange q level s) := by
  unfold Machine.execOkinChange
  exact .ite (.done (((Kept.refl s).noteE3 _).modPt _ _)) (.done ((Kept.refl s).modPt _ _))

theorem Does.execClaimAttemptStart : Does s (execClaimAttemptStart s) := by
  unfold Machine.execClaimAttemptStart
  exact .ite (.done ((((Kept.refl s).setSeat _).modRed _).guardTests)) (.done (Kept.refl s))

theorem Does.execGuardComplete : Does s (execGuardComplete s) := by
  unfold Machine.execGuardComplete
  exact .ite (.done (Kept.refl s)) (.ite (.done ((Kept.refl s).endAttempt _)) (.ite (.done (((Kept.refl s).setSeat
    _).modRed _)) (.done (Kept.refl s))))

theorem Does.execArbitrateWindowEnd : Does s (execArbitrateWindowEnd s) := by
  unfold Machine.execArbitrateWindowEnd
  exact .ite (.done (Kept.refl s)) (.ite (.done ((Kept.refl s).endAttempt _)) (.ite (.done (((Kept.refl s).setSeat
    _).modRed _)) (.done ((Kept.refl s).modRed _))))

theorem Does.execBackoffEnd : Does s (execBackoffEnd s) := by
  unfold Machine.execBackoffEnd
  exact .ite (.done (Kept.refl s)) (.ite (.done ((Kept.refl s).endAttempt _)) (.done (((Kept.refl s).setSeat
    _).guardTests)))

theorem Does.execClaimAssert (hs : s.red.clmOut = true) : Does s (execClaimAssert s) :=
  .ite (.done (.refl s)) (.ite (.done ((Kept.refl s).endAttempt _)) (.ite (.done ((Kept.refl s).claim hs)) (.done
    (.refl s))))

theorem Does.execClaimRelease : Does s (execClaimRelease s) := by
  unfold Machine.execClaimRelease
  exact .ite (.done ((Kept.refl s).releaseClaim _)) (.ite (.done ((Kept.refl s).endAttempt _)) (.done (Kept.refl s)))

theorem Does.execRedNoActive : Does s (execRedNoActive s) := by
  unfold Machine.execRedNoActive
  exact .ite (.done ((Kept.refl s).pulse _)) (.done (Kept.refl s))

theorem Does.execSettleSeed (ch : ChId) : Does s (execSettleSeed ch s) := by
  unfold Machine.execSettleSeed
  split
  · next a b _ _ =>
    refine .ite (.done (Kept.refl s)) (.done (Kept.modFront (Kept.modWatch ?_ _ _) _ _))
    have hown := (Kept.refl s).seedOwn ch a b
    split
    · exact hown
    · exact (hown.modCh _ _).alignTo _ _ _ _ _
  · exact .done (Kept.refl s)

theorem Does.execHandoverDrop (q : Fin 16) : Does s (execHandoverDrop q s) := by
  unfold Machine.execHandoverDrop
  exact .ite (.done (((Kept.refl s).each _ fun _ _ hu => (hu.handover _ _)).flushReplies _)) (.done (Kept.refl s))

theorem Does.execTqFrameLaunch (offer : Offer) : Does s (execTqFrameLaunch offer s) := by
  unfold Machine.execTqFrameLaunch
  split
  · exact .done (Kept.refl s)
  · split
    · exact .done (Kept.refl s)
    · split
      · exact .done ((Kept.refl s).launch _ _ _)
      · exact .done (Kept.refl s)

theorem Does.execTqFrameComplete (q : Fin 16) (tec : Nat) (rec : Nat) : Does s (execTqFrameComplete q tec rec s) := by
  unfold Machine.execTqFrameComplete
  split
  · exact .ite (.done (((Kept.refl s).frameDone _ _).canSuccess _ _ _)) (.done (Kept.refl s))
  · exact .done (Kept.refl s)

theorem Does.execPositionFrameLaunch (f : Fin 8) : Does s (execPositionFrameLaunch f s) := by
  unfold Machine.execPositionFrameLaunch
  exact .ite (.done ((Kept.refl s).streamFrame _)) (.done (Kept.refl s))

theorem Does.execPtpFrameReceive (k : Fin 2) (dst : BitVec 48) (src : BitVec 48) (rest : Bytes) :
    Does s (execPtpFrameReceive k dst src rest s) := by
  unfold Machine.execPtpFrameReceive
  extract_lets frame u e
  have hu : Kept s u := ((Kept.refl s).bump _).bump _
  refine .ite (.done (.refl s)) (.ite (.done ((Kept.refl s).bump _)) (.ite (.done ((Kept.refl s).bump _)) ?_))
  split
  · next hroom =>
    refine .done (hu.modEth _ _ fun _ => ?_)
    rw [List.length_append, List.length_singleton]
    exact hroom
  · exact .done ((hu.bump _).pulse _)

theorem Does.execEthFrameDiscard (drop : EthDrop) : Does s (execEthFrameDiscard drop s) := by
  unfold Machine.execEthFrameDiscard
  simp only
  split
  · exact .done (Kept.refl s)
  · split
    · exact .done ((Kept.refl s).bump _)
    · exact .done ((Kept.refl s).bump _)
    · exact .done (((Kept.refl s).bump _).pulse _)

theorem Does.execArpRequest (k : Fin 2) (targetIp : BitVec 32) (head : EthHead) (srcIp : BitVec 32) :
    Does s (execArpRequest k targetIp head srcIp s) := by
  unfold Machine.execArpRequest
  exact .ite (.done (Kept.refl s)) (.ite (.done ((Kept.refl s).bump _)) (.ite (.done (((Kept.refl s).bump _).ethSend
    _ _)) (.done ((Kept.refl s).bump _))))

theorem Does.execIcmpEcho (k : Fin 2) (dstIp : BitVec 32) (head : EthHead) (srcIp : BitVec 32) (body : Bytes) :
    Does s (execIcmpEcho k dstIp head srcIp body s) := by
  unfold Machine.execIcmpEcho
  exact .ite (.done (Kept.refl s)) (.ite (.done ((Kept.refl s).bump _)) (.ite (.done (((Kept.refl s).bump _).ethSend
    _ _)) (.done ((Kept.refl s).bump _))))

theorem Does.execEthLinkChange (k : Fin 2) (speed : Fin 4) : Does s (execEthLinkChange k speed s) := by
  unfold Machine.execEthLinkChange
  exact .ite (.done (((Kept.refl s).modEth _ _).showEthLink _)) (.done (Kept.refl s))

theorem Does.execCanBusError (c : Fin 2) (tec : Nat) (rec : Nat) : Does s (execCanBusError c tec rec s) := by
  unfold Machine.execCanBusError
  exact .ite (.done (Kept.refl s)) (.ite (.done ((((((Kept.refl s).each _ fun _ _ hu => (hu.modTq _ _)).modCan _
    _).level _ _).bump _).raise _)) (.done ((((Kept.refl s).each _ fun _ _ hu => (hu.modTq _ _)).modCan _ _).level _
    _)))

theorem Does.execCanBusoffRecovered (c : Fin 2) : Does s (execCanBusoffRecovered c s) := by
  unfold Machine.execCanBusoffRecovered
  exact .ite (.done (((Kept.refl s).modCan _ _).gone _)) (.done (Kept.refl s))

theorem Does.execMgmtWdog : Does s (execMgmtWdog s) := by
  unfold Machine.execMgmtWdog
  exact .ite (.done (((Kept.refl s).pulse _).coreFault _)) (.done (Kept.refl s))

theorem Does.execMgmtLockstep : Does s (execMgmtLockstep s) := by
  unfold Machine.execMgmtLockstep
  exact .ite (.done (((Kept.refl s).pulse _).coreFault _)) (.done (Kept.refl s))

theorem Does.execMgmtRestart (r : RestartReason) : Does s (execMgmtRestart r s) := by
  unfold Machine.execMgmtRestart
  exact .ite (.done (((Kept.refl s).modMgmt _).both (fun hw => hw.restart _) fun hw => hw.faultRestart _)) (.done
    (Kept.refl s))

theorem Does.execMgmtRestartDone : Does s (execMgmtRestartDone s) := by
  unfold Machine.execMgmtRestartDone
  exact .ite (.done (((Kept.refl s).modMgmt _).when fun hw => hw.commitOffer)) (.done (Kept.refl s))

theorem Does.execSensorRefresh (die : Vector Int 4) (railMv : Vector Nat 5) (pllLock : Bool) (floorDev : Int) :
    Does s (execSensorRefresh die railMv pllLock floorDev s) := by
  unfold Machine.execSensorRefresh
  exact .ite (.done ((Kept.refl s).sensors _ _ _ _)) (.done (Kept.refl s))

theorem Does.execLogAppend : Does s (execLogAppend s) := by
  unfold Machine.execLogAppend
  split
  · next e rest hq =>
    have htail : s.fc.queue.length ≤ 256 → rest.length ≤ 256 := fun hb => by
      rw [hq, List.length_cons] at hb
      exact Nat.le_of_succ_le hb
    exact .ite (.done (((Kept.refl s).modFc _ htail).modLog _ fun _ => List.length_take_le _ _)) (.done (.refl s))
  · exact .done (.refl s)

theorem Does.execLogCompactionDue : Does s (execLogCompactionDue s) := by
  unfold Machine.execLogCompactionDue
  exact .ite (.done ((Kept.refl s).compactOffer)) (.done (Kept.refl s))

theorem Does.execSchedRequest (d : Domain) (a : Activity) (commanded : Bool) :
    Does s (execSchedRequest d a commanded s) := by
  unfold Machine.execSchedRequest
  split
  · exact .done (Kept.refl s)
  · split
    · exact .done (((Kept.refl s).orRefused ((Kept.refl s).probeAsk _)).ite ((Kept.refl s).probeOffer _))
    · exact .ite (.done ((Kept.refl s).orRefused ((Kept.refl s).effCalStart _))) (Does.execCalTriggerEval _)
    · exact .ite (.done ((Kept.refl s).orRefused ((Kept.refl s).effInjStart _))) (.done (Kept.refl s))
    · exact .done (((Kept.refl s).orRefused (Kept.refl s).effCommitNow).ite (Kept.refl s).commitOffer)
    · exact .done (((Kept.refl s).orRefused (Kept.refl s).effLogCompact).ite (Kept.refl s).compactOffer)
    · exact .done (Kept.refl s)

theorem Does.execSchedActivityEnd (d : Domain) : Does s (execSchedActivityEnd d s) := by
  unfold Machine.execSchedActivityEnd
  split
  · exact .done (Kept.refl s)
  · split
    · exact .done (((Kept.refl s).endBlock).schedEnd _)
    · exact .done (((Kept.refl s).compacted).schedEnd _)
    · exact .done (Kept.refl s)

theorem Does.execSchedOverrun : Does s (execSchedOverrun s) := by
  unfold Machine.execSchedOverrun
  exact .ite (.done ((Kept.refl s).pulse _)) (.done (Kept.refl s))

theorem Does.execUpdQuietPoint : Does s (execUpdQuietPoint s) := by
  unfold Machine.execUpdQuietPoint
  exact .ite (.done (((((Kept.refl s).writeSel _ _ _).modUpd _).setUpd _ _).restart _)) (.done (Kept.refl s))

theorem Does.execUpdQuietTimeout : Does s (execUpdQuietTimeout s) := by
  unfold Machine.execUpdQuietTimeout
  exact .ite (.done (((Kept.refl s).setUpd _ _).kickWriter)) (.done (Kept.refl s))

theorem Does.execUpdTrialTimeout (burnOk : Bool) : Does s (execUpdTrialTimeout burnOk s) := by
  unfold Machine.execUpdTrialTimeout
  exact .ite (.ite (.done ((Kept.refl s).confirm _)) (.done (((Kept.refl s).revertBank _).askRestart _))) (.done
    (Kept.refl s))

theorem Does.execPwrSafeHold (c : HoldCause) : Does s (execPwrSafeHold c s) := by
  unfold Machine.execPwrSafeHold
  split
  · exact .hostSet _ _ _ fun v u hu => hu.effPwr _ _
  · exact .ite (.done ((Kept.refl s).autoHold _)) (.done (Kept.refl s))
  · exact .ite (.done ((Kept.refl s).autoHold _)) (.done (Kept.refl s))

theorem Does.execAuthChallenge (p : Port) (q : Port) : Does s (execAuthChallenge p q s) := by
  refine .done ((Kept.refl s).readWith p _ _ fun _ u v d hu e => ?_)
  cases e
  exact hu.challenge q

theorem Does.execAuthLockExpiry (q : Port) : Does s (execAuthLockExpiry q s) := by
  unfold Machine.execAuthLockExpiry
  exact .ite (.done (((Kept.refl s).modPort _ _).both (fun hw => hw) fun hw => hw.gone _)) (.done (Kept.refl s))

theorem Does.execRunControlHalt : Does s (execRunControlHalt s) := by
  unfold Machine.execRunControlHalt
  exact .ite (.done ((Kept.refl s).modTap _)) (.done (Kept.refl s))

theorem Does.execRunControlResume : Does s (execRunControlResume s) := by
  unfold Machine.execRunControlResume
  exact .ite (.done ((Kept.refl s).modTap _)) (.done (Kept.refl s))

theorem Does.execTalSample (n : Fin 16) (a : Bool) (b : Bool) (z : Bool) : Does s (execTalSample n a b z s) := by
  unfold Machine.execTalSample
  exact .ite (.done ((Kept.refl s).talSample _ _ _ _)) (.done (Kept.refl s))

theorem Does.execTalSpeedTimeout (n : Fin 16) : Does s (execTalSpeedTimeout n s) := by
  unfold Machine.execTalSpeedTimeout
  exact .ite (.done ((Kept.refl s).modTal _ _)) (.done (Kept.refl s))

theorem Does.execVioPor : Does s (execVioPor s) := by
  unfold Machine.execVioPor
  exact .done (((Kept.refl s).afterReset).modSup _)

theorem Does.execVioPorRelease : Does s (execVioPorRelease s) := by
  unfold Machine.execVioPorRelease
  exact .ite (.done (Kept.refl s)) (.done ((((Kept.refl s).afterReset).modSup _).modFloor _))

theorem Does.execDeviceReset (x1 : ResetCause) : Does s (execDeviceReset x1 s) := by
  unfold Machine.execDeviceReset
  exact .ite (.done ((((Kept.refl s).afterReset).modFloor _).modFc _)) (.done (Kept.refl s))

theorem Does.execResetRelease (strap : BitVec 2) (clksel : Bool) (floorTestOk : Bool) :
    Does s (execResetRelease strap clksel floorTestOk s) := by
  unfold Machine.execResetRelease
  exact .ite (.done ((((((((Kept.refl s).modSup _).modRed _).modFloor _).both (fun hw => hw) fun hw => hw.pulse
    _).when fun hw => hw.raise _).when fun hw => hw.raise _).selectBank)) (.done (Kept.refl s))

theorem Does.execPllLock : Does s (execPllLock s) := by
  unfold Machine.execPllLock
  exact .ite (.done (((((Kept.refl s).modSup _).gone _).gone _).each _ fun _ _ hu => (hu.modLnk _ _))) (.done
    (Kept.refl s))

theorem Does.execDictServiceReady : Does s (execDictServiceReady s) := by
  unfold Machine.execDictServiceReady
  exact .ite (.done ((((Kept.refl s).checkKeys).checkLog).modMgmt _)) (.done (Kept.refl s))

theorem Does.execBootComplete : Does s (execBootComplete s) := by
  unfold Machine.execBootComplete
  refine .ite ?_ (.done (.refl s))
  extract_lets u v w
  have hu : Kept s u := ((Kept.refl s).loadStore.loadBeads.modSup _).startUnits
  have hv : Kept s v := hu.both (fun h => h) fun h => h.both (fun h => h.enterDev _ _ _) fun h => h.enterDev _ _ _
  exact .done (hv.endHold.when fun h => (h.raise _).autoHold _).showOutputs

theorem Does.execAnalogueHold : Does s (execAnalogueHold s) := by
  unfold Machine.execAnalogueHold
  exact .done ((Kept.refl s).modSup _)

theorem Does.execAnalogueRestart : Does s (execAnalogueRestart s) := by
  unfold Machine.execAnalogueRestart
  exact .done ((Kept.refl s).modSup _)

theorem Does.execExciterHold : Does s (execExciterHold s) := by
  unfold Machine.execExciterHold
  exact .done ((Kept.refl s).modSup _)

theorem Does.execExciterHoldRelease : Does s (execExciterHoldRelease s) := by
  unfold Machine.execExciterHoldRelease
  exact .done ((Kept.refl s).modSup _)

theorem Does.execTapReset : Does s (execTapReset s) := by
  unfold Machine.execTapReset
  exact .done ((Kept.refl s).modTap _)

theorem Does.execSampleProcess (ch : ChId) (xs : BitVec 16) (xc : BitVec 16) :
    Does s (execSampleProcess ch xs xc s) := by
  unfold Machine.execSampleProcess
  exact .ite (.done ((Kept.refl s).sample _ _ _)) (.done (Kept.refl s))

theorem Does.execRegisterWrite (p : Port) (index : BitVec 16) (sub : Byte) (data : Bytes) :
    Does s (execRegisterWrite p index sub data s) := by
  unfold Machine.execRegisterWrite
  exact .done ((Kept.refl s).perform _ _ _ _)

theorem Does.execRwfWrite (p : Port) (index : BitVec 16) (sub : Byte) (data : Bytes) :
    Does s (execRwfWrite p index sub data s) := by
  unfold Machine.execRwfWrite
  exact .done ((Kept.refl s).perform _ _ _ _)

theorem Does.execGroupVisible (p : Port) : Does s (execGroupVisible p s) := by
  unfold Machine.execGroupVisible
  split
  · exact .done (.refl s)
  · refine .ite ?_ (.done (.refl s))
    extract_lets u v
    have hu : Kept s u := (Kept.refl s).modGrp _
    have hv : Kept s v := ((hu.makeVisible _ _).groupFate _ _).answer _ _ _
    exact .done (hv.both (fun h => h.releaseHeld) fun h => h)

theorem Does.execTimedGroupDue : Does s (execTimedGroupDue s) := by
  unfold Machine.execTimedGroupDue
  split
  · exact .done (.refl s)
  · next g _ =>
    refine .ite (.done (.refl s)) ?_
    extract_lets u
    have hu : Kept s u := (Kept.refl s).modGrp _ fun _ => List.erase_sublist
    split
    · exact .done (((hu.groupFate _ _).modPort _ _).pulse _)
    · exact .done ((hu.makeVisible _ _).groupFate _ _)

theorem Does.execHeartbeatExpiry (q : Port) : Does s (execHeartbeatExpiry q s) := by
  unfold Machine.execHeartbeatExpiry
  exact .ite (.done ((Kept.refl s).expire _)) (.done (Kept.refl s))

theorem Does.execStoreRun (genChanges : Fin 5) (readBackOk : Bool) :
    Does s (execStoreRun genChanges readBackOk s) := by
  unfold Machine.execStoreRun
  exact .ite (.done (((Kept.refl s).storeRun _ _).schedEnd _)) (.done (Kept.refl s))

theorem Does.execHspRead (h' : Fin 2) (tag : Byte) (index : BitVec 16) (sub : Byte) :
    Does s (execHspRead h' tag index sub s) := by
  unfold Machine.execHspRead
  exact .done ((Kept.refl s).hspRequest _ _ _ _)

theorem Does.execHspWrite (h' : Fin 2) (tag : Byte) (index : BitVec 16) (sub : Byte) (data : Bytes) :
    Does s (execHspWrite h' tag index sub data s) := by
  unfold Machine.execHspWrite
  exact .done ((Kept.refl s).hspRequest _ _ _ _)

theorem Does.execHspPoll (h' : Fin 2) : Does s (execHspPoll h' s) := by
  unfold Machine.execHspPoll
  exact .ite (.done ((Kept.refl s).poll _)) (.done (Kept.refl s))

theorem Does.execHspFrameError (h' : Fin 2) (code : HspErr) : Does s (execHspFrameError h' code s) := by
  unfold Machine.execHspFrameError
  exact .ite (.done ((Kept.refl s).hspDiscard _ _)) (.done (Kept.refl s))

theorem Does.execFloor (h' : Fin 2) : Does s (execFloor h' s) := by
  unfold Machine.execFloor
  exact .ite (.done ((Kept.refl s).modHsp _ _)) (.done (Kept.refl s))

theorem Does.execDbgFloorCapture : Does s (execDbgFloorCapture s) := .ite (.done ((Kept.refl s).tapPass _ _)) (.done
  (Kept.refl s))

theorem Does.execDbgDictUpdate (pass : TapPass) : Does s (execDbgDictUpdate pass s) := by
  unfold Machine.execDbgDictUpdate
  exact .ite (.done ((Kept.refl s).tapPass _ _)) (.done (Kept.refl s))

theorem Does.execDictDatagram (k : Fin 2) (head : EthHead) (srcIp : BitVec 32) (srcUdp : BitVec 16) (payload : Bytes)
  :
    Does s (execDictDatagram k head srcIp srcUdp payload s) := by
  unfold Machine.execDictDatagram
  exact .ite (.done (Kept.refl s)) (.ite (.done ((Kept.refl s).bump _)) (.ite (.done ((Kept.refl s).bump _)) (.ite
    (.done ((Kept.refl s).bump _)) (.ite (.done ((((Kept.refl s).bump _).learnPeer _ _).peerDatagram _ _ _ _ _))
    (.done ((((Kept.refl s).bump _).learnPeer _ _).bump _))))))

theorem Does.execSdoRequest (c : Fin 2) (frame : Bytes) : Does s (execSdoRequest c frame s) := by
  unfold Machine.execSdoRequest
  exact .ite (.done (Kept.refl s)) (.done ((Kept.refl s).sdoServe _ _))

theorem Does.execSdoSegmentTimeout (c : Fin 2) : Does s (execSdoSegmentTimeout c s) := by
  unfold Machine.execSdoSegmentTimeout
  split
  · exact .done (Kept.refl s)
  · split
    · exact .done (Kept.refl s)
    · exact .done ((Kept.refl s).sdoStop _ _ _)
    · exact .done ((Kept.refl s).sdoStop _ _ _)

end

end Sys2Proof.Machine
end

section
/-!
PROOFS. The invariants of every step: the dispatch over the commands, the one command that raises CLM_OUT, and the
statements.
-/

namespace Sys2Proof.Machine

set_option Elab.async false

/-- Every command but the claim keeps the invariants and lets CLM_OUT low where it is low. -/
theorem exec_does (c : Instr) (hc : c ≠ .claimAssert) (s : State) : Does s (exec c s) := by
  cases c with
  | sampleProcess _ _ _ => exact Does.execSampleProcess _ _ _
  | senseEstimate _ _ => exact Does.execSenseEstimate _ _
  | zeroCrossing _ _ => exact Does.execZeroCrossing _ _
  | foldbackChange _ _ => exact Does.execFoldbackChange _ _
  | excOcShutdown _ => exact Does.execExcOcShutdown _
  | excRestart _ _ => exact .hostCmd _ _ fun _ hu => hu.effExcRestart _
  | excEnableWrite _ _ _ => exact .hostVisible _ _ _ fun _ _ _ _ hu => hu.excSync _
  | excModeWrite _ _ _ => exact .hostVisible _ _ _ fun _ _ _ _ hu => hu.applyExcMode _ _ _ _
  | excFreqWrite _ _ _ => exact .hostVisible _ _ _ fun _ _ _ _ hu => hu.applyExcFreq _ _ _ _
  | excAmplWrite _ _ _ => exact .hostVisible _ _ _ fun _ _ _ _ hu => hu.applyExcAmpl _ _ _ _
  | chExcSelWrite _ _ _ => exact .hostVisible _ _ _ fun _ _ _ _ hu => hu.applyExcSel _ _ _ _
  | staticTrimWrite _ _ _ _ => exact .hostVisible _ _ _ fun _ _ _ _ hu => hu.trimWait _
  | trimBoundaryApply _ => exact Does.execTrimBoundaryApply _
  | hatbandTrip _ _ _ => exact Does.execHatbandTrip _ _ _
  | hatbandRelease _ _ _ => exact Does.execHatbandRelease _ _ _
  | glvOverload _ => exact Does.execGlvOverload _
  | glvModeWrite _ _ _ => exact .hostVisible _ _ _ fun _ _ _ _ hu => hu.applyGlvMode _ _ _ _
  | probePeriodDue _ => exact Does.execProbePeriodDue _
  | chProbeStart _ _ => exact .hostCmd _ _ fun _ hu => hu.effProbeStart _
  | probeRun _ => exact Does.execProbeRun _
  | probeComplete _ _ _ _ _ _ _ => exact Does.execProbeComplete _ _ _ _ _ _ _
  | chRrefLearn _ _ => exact .hostCmd _ _ fun _ hu => hu.effRrefLearn _
  | betaMeasRefresh _ => exact Does.execBetaMeasRefresh _
  | chBetaLearn _ _ => exact .hostCmd _ _ fun _ hu => hu.effBetaLearn _
  | chDesign _ _ _ => exact .hostCmd _ _ fun _ hu => hu.effDesign _ _
  | bankCoeffWrite _ _ _ _ => exact .hostVisible _ _ _ fun _ _ _ _ hu => hu
  | chBankSwap _ _ => exact .hostCmd _ _ fun _ hu => hu.effBankSwap _ _
  | chBankSelWrite _ _ _ => exact .hostVisible _ _ _ fun _ _ _ _ hu => hu.applyBankSel _ _ _ _ _
  | chBankSwapAt _ _ _ => exact .hostSet _ _ _ fun _ _ hu => hu.effBankSwapAt _ _
  | chBankSwapCancel _ _ => exact .hostCmd _ _ fun _ hu => hu.effBankSwapCancel _
  | timedSwapDue _ => exact Does.execTimedSwapDue _
  | bankSwapApply _ => exact Does.execBankSwapApply _
  | chInjStart _ _ => exact .hostCmd _ _ fun _ hu => hu.effInjStart _
  | injTestBegin _ => exact Does.execInjTestBegin _
  | chInjStop _ _ => exact .hostCmd _ _ fun _ hu => hu.effInjStop _
  | injDurationEnd _ => exact Does.execInjDurationEnd _
  | capArm _ => exact .hostCmd _ _ fun _ hu => hu.effCapArm
  | capStop _ => exact .hostCmd _ _ fun _ hu => hu.effCapStop
  | chEnableWrite _ _ _ => exact .hostVisible _ _ _ fun _ _ _ _ hu => hu.setEnable _ _
  | settleSeed _ => exact Does.execSettleSeed _
  | warmSettleResume _ => exact Does.execWarmSettleResume _
  | settleComplete _ => exact Does.execSettleComplete _
  | chSettleTmo _ => exact Does.execChSettleTmo _
  | coastExit _ => exact Does.execCoastExit _
  | chCoastExpired _ => exact Does.execChCoastExpired _
  | autoRecover _ => exact Does.execAutoRecover _
  | chRecover _ _ => exact .hostCmd _ _ fun _ hu => hu.effRecover _
  | chHome _ _ => exact .hostCmd _ _ fun _ hu => hu.effHome _ _
  | calStart _ _ => exact .hostCmd _ _ fun _ hu => hu.effCalStart _
  | calCancel _ _ => exact .hostCmd _ _ fun _ hu => hu.effCalCancel _
  | calTriggerEval _ => exact Does.execCalTriggerEval _
  | calGrant _ => exact Does.execCalGrant _
  | calWindowOpen _ => exact Does.execCalWindowOpen _
  | calWindowClose _ => exact Does.execCalWindowClose _
  | calWindowTimeout _ => exact Does.execCalWindowTimeout _
  | calResume _ => exact Does.execCalResume _
  | calTimeout _ => exact Does.execCalTimeout _
  | calEvaluate _ => exact Does.execCalEvaluate _
  | rowApply _ => exact Does.execRowApply _
  | rowCopyComplete _ => exact Does.execRowCopyComplete _
  | beadCommit _ => exact Does.execBeadCommit _
  | btCommitNow _ => exact .hostCmd _ _ fun _ hu => hu.effCommitNow
  | beadScrub _ _ => exact Does.execBeadScrub _ _
  | btRowLoad _ => exact .hostCmd _ _ fun _ hu => hu.effRowLoad
  | btRowClear _ => exact .hostCmd _ _ fun _ hu => hu.effRowClear
  | setClear _ _ _ => exact .hostCmd _ _ fun _ hu => hu.effSetClear _ _
  | syncEdge _ _ => exact Does.execSyncEdge _ _
  | snapTimeLatch => exact Does.execSnapTimeLatch
  | snapArm _ _ => exact .hostCmd _ _ fun _ hu => hu.effSnapArm _
  | snapConfigWrite _ _ _ _ => exact .hostSet _ _ _ fun _ _ hu => hu.effSnapConfig _ _ _
  | pfEnableWrite _ _ _ => exact .hostVisible _ _ _ fun _ _ _ _ hu => hu.applyPfEnable _ _ _ _
  | positionFrameLaunch _ => exact Does.execPositionFrameLaunch _
  | emuEnableWrite _ _ _ => exact .hostVisible _ _ _ fun _ _ _ _ hu => hu.applyEmuEnable _ _ _ _
  | emuFirstValid _ => exact Does.execEmuFirstValid _
  | emuSrcWrite _ _ _ _ => exact Does.execEmuSrcWrite _ _ _ _
  | emuTallyRelease _ => exact Does.execEmuTallyRelease _
  | emuSafeExit _ => exact Does.execEmuSafeExit _
  | pswEnableWrite _ _ _ => exact .hostVisible _ _ _ fun _ _ _ _ hu => hu.applyPswEnable _ _ _ _
  | pswSrcWrite _ _ _ => exact .hostVisible _ _ _ fun _ _ _ _ hu => hu.applyPswSrc _ _ _ _
  | talSample _ _ _ _ => exact Does.execTalSample _ _ _ _
  | talEnableWrite _ _ _ => exact .hostVisible _ _ _ fun _ _ _ _ hu => hu.applyTalEnable _ _ _ _
  | talLimitsWrite _ _ _ _ => exact .hostSet _ _ _ fun _ _ hu => hu.effTalLimits _ _ _
  | talPreset _ _ => exact .hostCmd _ _ fun _ hu => hu.effTalPreset _ _
  | talIdxPresetArm _ _ => exact .hostCmd _ _ fun _ hu => hu.effTalArm _
  | talResume _ _ => exact .hostCmd _ _ fun _ hu => hu.effTalResume _
  | talSpeedTimeout _ => exact Does.execTalSpeedTimeout _
  | faultRaise _ => exact Does.execFaultRaise _
  | faultConditionGone _ => exact Does.execFaultConditionGone _
  | railError _ => exact Does.execRailError _
  | fltClear _ _ => exact .hostCmd _ _ fun _ hu => hu.effFltClear _
  | fcClearAll _ => exact .hostCmd _ _ fun _ hu => hu.effClearAll _
  | faultAutoClear _ => exact Does.execFaultAutoClear _
  | fltConfigWrite _ _ _ _ => exact .hostSet _ _ _ fun _ _ hu => hu.effFlt _ _ _ _
  | fltForce _ _ _ => exact .hostSet _ _ _ fun _ _ hu => hu.effFltForce _ _ _
  | fltCntReset _ _ => exact .hostCmd _ _ fun _ hu => hu.effFltCntReset _
  | fcReinit _ => exact .hostCmd _ _ fun _ hu => hu.effFcReinit
  | fcFloorRearm _ => exact .hostCmd _ _ fun _ hu => hu.effFloorRearm
  | fcSelftest _ => exact Does.execFcSelftest _
  | mgmtWdog => exact Does.execMgmtWdog
  | mgmtLockstep => exact Does.execMgmtLockstep
  | mgmtRestart _ => exact Does.execMgmtRestart _
  | mgmtRestartDone => exact Does.execMgmtRestartDone
  | redModeWrite _ _ => exact .hostVisible _ _ _ fun _ _ _ _ hu => hu.applyRedMode _ _ _
  | lnkUp _ => exact Does.execLnkUp _
  | lnkDown _ => exact Does.execLnkDown _
  | recordLatchSend => exact Does.execRecordLatchSend
  | lineTestPulse => exact Does.execLineTestPulse
  | recordReceive _ _ => exact Does.execRecordReceive _ _
  | partnerLost _ => exact Does.execPartnerLost _
  | releaseReceive _ _ => exact Does.execReleaseReceive _ _
  | clmInHigh _ => exact Does.execClmInHigh _
  | partnerClaimed _ => exact Does.execPartnerClaimed _
  | clmInFall _ => exact Does.execClmInFall _
  | okinChange _ _ => exact Does.execOkinChange _ _
  | claimAttemptStart => exact Does.execClaimAttemptStart
  | guardComplete => exact Does.execGuardComplete
  | arbitrateWindowEnd => exact Does.execArbitrateWindowEnd
  | claimAssert => exact absurd rfl hc
  | backoffEnd => exact Does.execBackoffEnd
  | claimRelease => exact Does.execClaimRelease
  | redClaim _ => exact .hostCmd _ _ fun _ hu => hu.effRedClaim
  | redRelease _ => exact .hostCmd _ _ fun _ hu => hu.effRedRelease
  | redNoActive => exact Does.execRedNoActive
  | handoverDrop _ => exact Does.execHandoverDrop _
  | redCycleWrite _ _ _ => exact Does.execRedCycleWrite _ _ _
  | registerWrite _ _ _ _ => exact Does.execRegisterWrite _ _ _ _
  | rwfWrite _ _ _ _ => exact Does.execRwfWrite _ _ _ _
  | diagCountWrite _ _ => exact .hostSet _ _ _ fun _ _ hu => hu.effDiag _
  | fenceLocal _ _ => exact .hostFence _ _ _ _
  | fenceGlobal _ _ => exact .hostFence _ _ _ _
  | fenceAt _ _ => exact .hostFence _ _ _ _
  | groupVisible _ => exact Does.execGroupVisible _
  | timedGroupDue => exact Does.execTimedGroupDue
  | portHeartbeat _ _ => exact .hostCmd _ _ fun _ hu => hu.effHeartbeat _
  | heartbeatExpiry _ => exact Does.execHeartbeatExpiry _
  | grpDiscard _ _ => exact .hostCmd _ _ fun _ hu => hu.effDiscard _
  | grpTimedCancel _ _ => exact .hostCmd _ _ fun _ hu => hu.effTimedCancel _
  | goRun _ => exact .hostDev _ _
  | goService _ => exact .hostDev _ _
  | goConfig _ => exact .hostDev _ _
  | leaveSafe _ => exact .hostDev _ _
  | bootComplete => exact Does.execBootComplete
  | devStore _ _ => exact .hostSet _ _ _ fun _ _ hu => hu.effStore _
  | storeRun _ _ => exact Does.execStoreRun _ _
  | restoreDefaults _ _ => exact .hostRestore _ _ _ _
  | restoreStored _ _ => exact .hostRestore _ _ _ _
  | hspRead _ _ _ _ => exact Does.execHspRead _ _ _ _
  | hspWrite _ _ _ _ _ => exact Does.execHspWrite _ _ _ _ _
  | hspPoll _ => exact Does.execHspPoll _
  | hspFrameError _ _ => exact Does.execHspFrameError _ _
  | floor _ => exact Does.execFloor _
  | dbgFloorCapture => exact Does.execDbgFloorCapture
  | dbgDictUpdate _ => exact Does.execDbgDictUpdate _
  | dictDatagram _ _ _ _ _ => exact Does.execDictDatagram _ _ _ _ _
  | arpRequest _ _ _ _ => exact Does.execArpRequest _ _ _ _
  | icmpEcho _ _ _ _ _ => exact Does.execIcmpEcho _ _ _ _ _
  | ptpFrameReceive _ _ _ _ => exact Does.execPtpFrameReceive _ _ _ _
  | ethFrameDiscard _ => exact Does.execEthFrameDiscard _
  | sdoRequest _ _ => exact Does.execSdoRequest _ _
  | sdoSegmentTimeout _ => exact Does.execSdoSegmentTimeout _
  | canRecover _ _ => exact .hostCmd _ _ fun _ hu => hu.effCanRecover _
  | canBusoffRecovered _ => exact Does.execCanBusoffRecovered _
  | tqStageData _ _ _ => exact .hostWrite _ _ _ fun _ _ hu => hu.effStage _ _
  | tqPush _ _ _ => exact .hostWrite _ _ _ fun _ _ hu => hu.effPush _ _
  | tqFlush _ _ => exact .hostCmd _ _ fun _ hu => hu.effFlush _
  | tqFrameLaunch _ => exact Does.execTqFrameLaunch _
  | tqFrameComplete _ _ _ => exact Does.execTqFrameComplete _ _ _
  | rxrRelease _ _ _ => exact .hostSet _ _ _ fun _ _ hu => hu.effRxrRelease _ _
  | timeIncWrite _ _ => exact .hostSet _ _ _ fun _ _ hu => hu.effTimeInc _
  | timeStep _ _ => exact .hostSet _ _ _ fun _ _ hu => hu.effTimeStep _
  | timeSlewWrite _ _ => exact .hostSet _ _ _ fun _ _ hu => hu.effTimeSlew _
  | timeSlewDone => exact Does.execTimeSlewDone
  | timeWrap => exact Does.execTimeWrap
  | timeRef80Write _ _ => exact .hostSet _ _ _ fun _ _ hu => hu.effTimeRef80 _
  | nrefRefresh => exact Does.execNrefRefresh
  | sensorRefresh _ _ _ _ => exact Does.execSensorRefresh _ _ _ _
  | schedRequest _ _ _ => exact Does.execSchedRequest _ _ _
  | schedActivityEnd _ => exact Does.execSchedActivityEnd _
  | schedOverrun => exact Does.execSchedOverrun
  | logAppend => exact Does.execLogAppend
  | logCompact _ => exact .hostCmd _ _ fun _ hu => hu.effLogCompact
  | logCompactionDue => exact Does.execLogCompactionDue
  | updBegin _ _ => exact .hostSet _ _ _ fun _ _ hu => hu.effUpdBegin _ _ _
  | updData _ _ => exact .hostWrite _ _ _ fun _ _ hu => hu.effUpdData _ _ _
  | updVerify _ => exact .hostCmd _ _ fun _ hu => hu.effUpdVerify
  | updActivate _ => exact .hostCmd _ _ fun _ hu => hu.effUpdActivate
  | updQuietPoint => exact Does.execUpdQuietPoint
  | updQuietTimeout => exact Does.execUpdQuietTimeout
  | updConfirm _ _ => exact .hostCmd _ _ fun _ hu => hu.effUpdConfirm _
  | updTrialTimeout _ => exact Does.execUpdTrialTimeout _
  | updAbort _ => exact .hostCmd _ _ fun _ hu => hu.effUpdAbort
  | lcAdvance _ _ => exact .hostSet _ _ _ fun _ _ hu => hu.effAdvance _ _
  | authChallenge _ _ => exact Does.execAuthChallenge _ _
  | authResponse _ _ _ => exact .hostWrite _ _ _ fun _ _ hu => hu.effResponse _ _
  | authLogout _ _ => exact .hostCmd _ _ fun _ hu => hu.effLogout _
  | authLockExpiry _ => exact Does.execAuthLockExpiry _
  | keyWrite _ _ _ => exact .hostWrite _ _ _ fun _ _ hu => hu.effKey _ _
  | dbgLevelWrite _ _ => exact .hostSet _ _ _ fun _ _ hu => hu.effDebug _ _
  | pwrRun _ => exact .hostSet _ _ _ fun _ _ hu => hu.effPwr _ _
  | pwrQuiet _ => exact .hostSet _ _ _ fun _ _ hu => hu.effPwr _ _
  | pwrSafeHold _ => exact Does.execPwrSafeHold _
  | pwrOff _ _ => exact .hostSet _ _ _ fun _ _ hu => hu.effPwrOff _ _
  | vioPor => exact Does.execVioPor
  | deviceReset cause => exact Does.execDeviceReset cause
  | resetRelease _ _ _ => exact Does.execResetRelease _ _ _
  | pllLock => exact Does.execPllLock
  | analogueHold => exact Does.execAnalogueHold
  | exciterHold => exact Does.execExciterHold
  | tapReset => exact Does.execTapReset
  | analogueRestart => exact Does.execAnalogueRestart
  | exciterHoldRelease => exact Does.execExciterHoldRelease
  | vioPorRelease => exact Does.execVioPorRelease
  | dictServiceReady => exact Does.execDictServiceReady
  | copperTempValidityLoss _ => exact Does.execCopperTempValidityLoss _
  | ethLinkChange _ _ => exact Does.execEthLinkChange _ _
  | canBusError _ _ _ => exact Does.execCanBusError _ _ _
  | runControlHalt => exact Does.execRunControlHalt
  | runControlResume => exact Does.execRunControlResume

theorem Does.trans {s u : State} {o : Host.Outcome State Fault Refusal} (h : Kept s u) (g : Does u o) : Does s o := by
  obtain ⟨v, hv, hk⟩ := g
  exact ⟨v, hv, h.trans hk⟩

/-- A next state is the outcome's state with its safe entry made. -/
theorem Does.next {s t : State} {o : Host.Outcome State Fault Refusal} (h : Does s o) (ho : o = .next t) :
    ∃ u : State, t = u.settled ∧ Kept s t := by
  obtain ⟨u, hu, hk⟩ := h
  rw [ho] at hu
  cases hu
  exact ⟨u, rfl, hk.settled⟩

/-! ### The claim (R235) -/

/-- `s` with CLM_OUT high, of which no invariant of the queues or registers speaks. -/
def State.claimed (s : State) : State := { s with red := { s.red with clmOut := true } }

theorem Kept.of_claimed (s : State) : Kept s.claimed s := ⟨id, id, fun hlow => by cases hlow⟩

/-- CLAIM_ASSERT raises CLM_OUT with its conditions alone. -/
theorem claimAssert_does_or (s : State) : Does s (execClaimAssert s) ∨
    (s.alive = true ∧ s.red.state = .arbitrate ∧ s.red.step3 = true ∧ s.eligible = true ∧ s.anyClaimed = false ∧
      s.pathClear = true) := by
  unfold execClaimAssert
  split
  · exact .inl (.done (.refl s))
  · next hstep =>
    split
    · exact .inl (.done ((Kept.refl s).endAttempt _))
    · next hpath =>
      split
      · next hclear =>
        simp only [Bool.or_eq_true, Bool.not_eq_true', decide_eq_true_eq, not_or, Bool.not_eq_false, ne_eq, not_not,
          Bool.not_eq_true] at hstep hpath
        obtain ⟨⟨halive, harb⟩, hstep⟩ := hstep
        obtain ⟨helig, hclaimed⟩ := hpath
        exact .inr ⟨halive, harb, hstep, helig, hclaimed, hclear⟩
      · exact .inl (.done (.refl s))

/-- Every command keeps the invariants of the registers and the queues. -/
theorem exec_does_claimed (c : Instr) (s : State) : Does s.claimed (exec c s) := by
  by_cases hc : c = .claimAssert
  · subst hc
    have h := Kept.of_claimed s
    exact .ite (.done h) (.ite (.done (h.endAttempt _)) (.ite (.done (h.claim rfl)) (.done h)))
  · exact .trans (Kept.of_claimed s) (exec_does c hc s)

/-- A step is a command's outcome or that of one clock edge. -/
theorem step_does (s : State) : Does s.claimed (step s) := by
  unfold step
  split
  · exact .done (Kept.of_claimed s).sclkEdge
  · next c rest _ =>
    exact .trans (u := { s with pending := rest }.claimed) ⟨id, id, fun hlow => by cases hlow⟩ (exec_does_claimed c _)

/-! ### The invariants -/

/-- Settles O5: every step ends with the safe entry that was asked for. -/
theorem everyStepSettlesDeviceSafe : Obligations.EveryStepSettlesDeviceSafe := by
  intro s t hst
  obtain ⟨u, rfl, _⟩ := (step_does s).next hst
  exact (settled_safe u).2

/-- Settles O6: a register is written by `setReg` alone, which keeps the canonical form. -/
theorem everyStepKeepsRegistersCanonical : Obligations.EveryStepKeepsRegistersCanonical := by
  intro s t hs hst
  obtain ⟨_, _, hk⟩ := (step_does s).next hst
  exact hk.canonical hs

/-- Settles O7: every entry into a queue is cut to its size or made where there is room. -/
theorem everyStepKeepsQueuesBounded : Obligations.EveryStepKeepsQueuesBounded := by
  intro s t hs hst
  obtain ⟨_, _, hk⟩ := (step_does s).next hst
  exact hk.bounded hs

/-- Settles O60: every other command lets CLM_OUT low, and CLAIM_ASSERT raises it under its conditions. -/
theorem onlyTheClaimSequencerRaisesTheClaimLine : Obligations.OnlyTheClaimSequencerRaisesTheClaimLine := by
  have hlow : ∀ {o : Host.Outcome State Fault Refusal} {s t : State}, Does s o → o = .next t → t.red.clmOut = true →
      s.red.clmOut = true := by
    intro o s t hd ho hhigh
    obtain ⟨_, _, hk⟩ := hd.next ho
    by_contra hs
    exact absurd hhigh (by rw [hk.low (Bool.eq_false_iff.mpr hs)]; decide)
  refine ⟨fun c s t hst hs ht => ?_, fun s t hq hst ht => ?_⟩
  · have hno : ¬ Does s (exec c s) := fun hd => absurd (hlow hd hst ht) (by rw [hs]; decide)
    by_cases hc : c = .claimAssert
    · subst hc
      exact ⟨rfl, (claimAssert_does_or s).resolve_left hno⟩
    · exact absurd (exec_does c hc s) hno
  · rw [step, hq] at hst
    exact hlow (.done (Kept.refl s).sclkEdge) hst ht

end Sys2Proof.Machine
end

section
/-!
PROOFS. What the parts of a DEVICE-SAFE entry leave to one another (R207): the exciters, the device state, the Mitten's
hold and its count, a captured first fault, a request for an entry, and the conditions of the sources that the entry
does not take back.
-/

namespace Sys2Proof.Machine

set_option Elab.async false

/-- What the parts of a DEVICE-SAFE entry, apart from the change of the device state, the hold and the stop of the
exciters, leave as it was. `B` marks the sources
whose condition they may move. -/
structure EntryFrame (B : Nat → Bool) (s t : State) : Prop where
  exc : t.exc = s.exc
  dev : t.dev = s.dev
  deviceSafe : t.floor.deviceSafe = s.floor.deviceSafe
  safeCnt : t.floor.safeCnt = s.floor.safeCnt
  wdogCnt : t.floor.wdogCnt = s.floor.wdogCnt
  ch : ∀ n : ChId, t.ch[n].loop = s.ch[n].loop ∧ t.ch[n].state = s.ch[n].state
  first : s.floor.first.isSome = true → t.floor.first.isSome = true
  request : s.floor.request = true → t.floor.request = true
  copyOk : B 1 = false → t.fc.copyOk = s.fc.copyOk
  src : ∀ j, B j = false → (t.src j).cond = (s.src j).cond ∧ (t.src j).rail = (s.src j).rail

theorem EntryFrame.refl {B : Nat → Bool} (s : State) : EntryFrame B s s := ⟨rfl, rfl, rfl, rfl, rfl, fun _ => ⟨rfl, rfl⟩, id, id, fun _ => rfl, fun _ _ => ⟨rfl, rfl⟩⟩

theorem EntryFrame.trans {B : Nat → Bool} {s t u : State} (h : EntryFrame B s t) (g : EntryFrame B t u) : EntryFrame B s u where
  exc := g.exc.trans h.exc
  dev := g.dev.trans h.dev
  deviceSafe := g.deviceSafe.trans h.deviceSafe
  safeCnt := g.safeCnt.trans h.safeCnt
  wdogCnt := g.wdogCnt.trans h.wdogCnt
  ch := fun n => ⟨(g.ch n).1.trans (h.ch n).1, (g.ch n).2.trans (h.ch n).2⟩
  first := g.first ∘ h.first
  request := g.request ∘ h.request
  copyOk := fun hb => (g.copyOk hb).trans (h.copyOk hb)
  src := fun j hj => ⟨(g.src j hj).1.trans (h.src j hj).1, (g.src j hj).2.trans (h.src j hj).2⟩

/-- A change of a part that the frame does not speak of. -/
theorem EntryFrame.of_eq {B : Nat → Bool} {s t : State} (he : t.exc = s.exc := by rfl) (hd : t.dev = s.dev := by rfl)
    (hf : t.floor = s.floor := by rfl) (hc : t.fc.srcs = s.fc.srcs := by rfl)
    (hk : t.fc.copyOk = s.fc.copyOk := by rfl) (hch : t.ch = s.ch := by rfl) : EntryFrame B s t where
  exc := he
  dev := hd
  deviceSafe := by rw [hf]
  safeCnt := by rw [hf]
  wdogCnt := by rw [hf]
  ch := fun n => by rw [hch]; exact ⟨rfl, rfl⟩
  first := fun h => by rw [hf]; exact h
  request := fun h => by rw [hf]; exact h
  copyOk := fun _ => hk
  src := fun j _ => by unfold State.src; rw [hc]; exact ⟨rfl, rfl⟩

section
variable {B : Nat → Bool} {s t : State} (h : EntryFrame B s t)
include h

theorem EntryFrame.ite {p : Prop} [Decidable p] {u : State} (g : EntryFrame B s u) :
    EntryFrame B s (if p then t else u) := by
  split
  · exact h
  · exact g

theorem EntryFrame.each {α : Type} (l : List α) {f : State → α → State}
    (hf : ∀ u a, EntryFrame B s u → EntryFrame B s (f u a)) : EntryFrame B s (t.each l f) := by
  induction l generalizing t with
  | nil => exact h
  | cons a l ih => exact ih (hf t a h)

/-! ### Raising and clearing -/

/-- New data of a source, with its condition, or of a source that an entry takes back. -/
theorem EntryFrame.setSrc (id : Nat) (f : FSrc)
    (hf : B id = false → f.cond = (t.src id).cond ∧ f.rail = (t.src id).rail := by
      exact fun _ => ⟨rfl, rfl⟩) :
    EntryFrame B s (t.setSrc id f) := by
  refine h.trans ⟨rfl, rfl, rfl, rfl, rfl, fun _ => ⟨rfl, rfl⟩, fun x => x, fun x => x, fun _ => rfl, fun j hj => ?_⟩
  by_cases e : id = j
  · subst e
    rw [src_setSrc]
    exact hf hj
  · rw [src_setSrc_ne t f e]
    exact ⟨rfl, rfl⟩

theorem EntryFrame.countRaise (id : Nat) (upd : FSrc → FSrc)
    (hu : B id = false → ∀ f, (upd f).cond = f.cond ∧ (upd f).rail = f.rail) :
    EntryFrame B s (t.countRaise id upd) := by
  unfold State.countRaise
  dsimp only
  split <;> exact h.setSrc _ _ fun hj => hu hj _

theorem EntryFrame.dropSrc (id : Nat) : EntryFrame B s (t.dropSrc id) := by
  unfold State.dropSrc
  exact h.ite ((h.setSrc _ _).ite (h.setSrc _ _))

omit h in
/-- A captured first fault stays or gives way to an earlier one. -/
theorem captureFirst_first (u : State) (id : Nat) (hs : u.floor.first.isSome = true) :
    (u.captureFirst id).floor.first.isSome = true := by
  unfold State.captureFirst State.modFloor
  dsimp only
  repeat' split
  all_goals first | exact hs | rfl

omit h in
theorem captureFirst_keeps_request (u : State) (id : Nat) (hs : u.floor.request = true) :
    (u.captureFirst id).floor.request = true := by
  rw [captureFirst_floor]
  simp [hs]

theorem EntryFrame.captureFirst (id : Nat) : EntryFrame B s (t.captureFirst id) :=
  h.trans ⟨rfl, rfl, (captureFirst_frame t id).deviceSafe, (captureFirst_frame t id).counts.2.2,
    (captureFirst_frame t id).counts.2.1, fun _ => ⟨rfl, rfl⟩,
    captureFirst_first t id, captureFirst_keeps_request t id, fun _ => rfl, fun _ _ => ⟨rfl, rfl⟩⟩

theorem EntryFrame.markTrial (id : Nat) : EntryFrame B s (t.markTrial id) := by
  unfold State.markTrial
  exact (h.trans .of_eq).ite h

theorem EntryFrame.overflow : EntryFrame B s t.overflow := by
  unfold State.overflow
  exact h.ite ((((h.countRaise _ _ fun _ _ => ⟨rfl, rfl⟩).captureFirst _).markTrial _).dropSrc _)

theorem EntryFrame.enqueue (e : LogEvent) : EntryFrame B s (t.enqueue e) := by
  unfold State.enqueue
  exact h.ite ((h.trans .of_eq).ite (EntryFrame.overflow (h.trans .of_eq)))

theorem EntryFrame.logKind (kind info : Nat) (detail : Bytes) : EntryFrame B s (t.logKind kind info detail) :=
  h.enqueue _

theorem EntryFrame.of_quota {id : Nat} {u : State} (hu : t.quota id = some u) : EntryFrame B s u := by
  unfold State.quota at hu
  dsimp only at hu
  split at hu <;> split at hu <;> cases hu <;> exact h.trans .of_eq

theorem EntryFrame.logSrc (kind id : Nat) : EntryFrame B s (t.logSrc kind id) := by
  unfold State.logSrc
  split
  · exact h
  · next u hu =>
    have hq := h.of_quota hu
    exact hq.enqueue _

theorem EntryFrame.showOutputs : EntryFrame B s t.showOutputs :=
  (h.each _ (f := State.showEmu) fun _ _ hu => hu.trans .of_eq).each _ (f := State.showPsw) fun _ _ hu => hu.trans .of_eq

theorem EntryFrame.releaseScopes : EntryFrame B s t.releaseScopes :=
  h.each _ (f := State.showPsw) fun _ _ hu => hu.trans .of_eq

/-- FC_COPY alone moves the comparison that it waits for (R222). -/
theorem EntryFrame.raiseMarks (id : Nat) (h1 : id = 1 → B 1 = true) : EntryFrame B s (t.raiseMarks id) := by
  unfold State.raiseMarks
  split
  · exact h.trans .of_eq
  · split
    · next he =>
      exact h.trans ⟨rfl, rfl, rfl, rfl, rfl, fun _ => ⟨rfl, rfl⟩, fun x => x, fun x => x,
        fun hb => absurd ((h1 he).symm.trans hb) (by decide), fun _ _ => ⟨rfl, rfl⟩⟩
    · exact h

theorem EntryFrame.holdScope (id r : Nat) : EntryFrame B s (t.holdScope id r) := by
  unfold State.holdScope
  exact (h.setSrc _ _).ite h

theorem EntryFrame.capFault (id : Nat) : EntryFrame B s (t.capFault id) := by
  unfold State.capFault State.capTrigger
  dsimp only
  split
  · exact (h.trans .of_eq).ite ((h.trans .of_eq).ite h)
  · exact h

theorem EntryFrame.showRaise (r : Nat) : EntryFrame B s (t.showRaise r) := by
  unfold State.showRaise
  exact h.showOutputs.ite h

/-- What follows the count, the scope and the first fault in a raise (R92, R218, R328). -/
theorem EntryFrame.raiseRest (id r : Nat) :
    EntryFrame B s ((((t.logSrc 0 id).showRaise r).markTrial id).capFault id) :=
  (((h.logSrc _ _).showRaise _).markTrial _).capFault _

theorem EntryFrame.raiseWith (id : Nat) (upd : FSrc → FSrc)
    (h1 : id = 1 → B 1 = true) (hu : B id = false → ∀ f, (upd f).cond = f.cond ∧ (upd f).rail = f.rail) :
    EntryFrame B s (t.raiseWith id upd) := by
  unfold State.raiseWith
  exact h.ite ((h.setSrc _ _ fun hj => hu hj _).ite
    ((((h.countRaise _ _ hu).raiseMarks _ h1).holdScope _ _).captureFirst _ |>.raiseRest _ _))

theorem EntryFrame.raise {id : Nat} (hb : B id = true) : EntryFrame B s (t.raise id) :=
  h.raiseWith id _ (fun e => e ▸ hb) fun hj => absurd (hb.symm.trans hj) (by decide)

theorem EntryFrame.gone {id : Nat} (hb : B id = true) : EntryFrame B s (t.gone id) := by
  unfold State.gone
  exact h.ite (((h.setSrc _ _ fun hj => absurd (hb.symm.trans hj) (by decide)).dropSrc _).releaseScopes)

theorem EntryFrame.pulse {id : Nat} (hb : B id = true) : EntryFrame B s (t.pulse id) :=
  (h.raise hb).gone hb

end

/-! ### Activities, tests and runs -/

section
variable {s t : State} (h : EntryFrame takenBack s t)
include h

theorem EntryFrame.startActivity (d : Fin 17) (a : Activity) : EntryFrame takenBack s (t.startActivity d a) := by
  unfold State.startActivity
  exact (h.trans .of_eq).ite h

theorem EntryFrame.schedEnd (d : Fin 17) : EntryFrame takenBack s (t.schedEnd d) := by
  unfold State.schedEnd
  dsimp only
  split
  · exact h.trans .of_eq
  · split
    · exact (h.trans .of_eq).ite (EntryFrame.startActivity (h.trans .of_eq) _ _)
    · exact h.trans .of_eq

theorem EntryFrame.schedWithdraw (d : Fin 17) (a : Activity) : EntryFrame takenBack s (t.schedWithdraw d a) := by
  unfold State.schedWithdraw
  extract_lets x u v
  have hu : EntryFrame takenBack s u := (h.trans .of_eq).ite h
  have hv : EntryFrame takenBack s v := (hu.trans .of_eq).ite hu
  exact (hv.schedEnd d).ite hv

/-- A change of a channel's test leaves its loop and its state. -/
theorem EntryFrame.modInj (n : ChId) (f : Inject → Inject) : EntryFrame takenBack s (t.modCh n fun c => { c with inj := f c.inj }) :=
  h.trans ⟨rfl, rfl, rfl, rfl, rfl, fun m => by
    simp only [State.modCh_ch, Fin.getElem_fin, vmod_get]
    split
    · next e => subst e; exact ⟨rfl, rfl⟩
    · exact ⟨rfl, rfl⟩, fun x => x, fun x => x, fun _ => rfl, fun _ _ => ⟨rfl, rfl⟩⟩

theorem EntryFrame.abortTest (n : ChId) (reason : Nat) : EntryFrame takenBack s (t.abortTest n reason) := by
  unfold State.abortTest
  split
  · exact EntryFrame.schedWithdraw ((h.modInj n fun x => { x with state := .aborted }).trans .of_eq) _ _
  · exact h.ite (h.modInj n fun x => { x with stopping := some (true, reason) })
  · exact h

theorem EntryFrame.abortTests (reason : Nat) : EntryFrame takenBack s (t.abortTests reason) :=
  h.each _ fun _ _ hu => hu.ite (hu.abortTest _ _)

omit h in
/-- CAL_RUN of a channel is taken back (R136). -/
theorem takenBack_calRun (n : ChId) : takenBack (chSrc n 16) = true := by decide +revert

omit h in
/-- FOLDBACK of an exciter is taken back (R49). -/
theorem takenBack_foldback (e : ExcId) : takenBack (excSrc e 1) = true := by decide +revert

theorem EntryFrame.endRun (n : ChId) (result detail : Nat) : EntryFrame takenBack s (t.endRun n result detail) := by
  unfold State.endRun
  refine (((?_ : EntryFrame takenBack s _).logKind _ _ _).schedWithdraw _ _).pulse (takenBack_calRun n)
  split <;> exact h.trans .of_eq

theorem EntryFrame.abortRun (n : ChId) (detail : Nat) : EntryFrame takenBack s (t.abortRun n detail) := by
  unfold State.abortRun
  split <;> first | exact h.endRun _ _ _ | exact h

theorem EntryFrame.abortRuns (leftService : Bool) : EntryFrame takenBack s (t.abortRuns leftService) :=
  h.each _ fun _ _ hu => (hu.abortRun _ _).ite ((hu.abortRun _ _).ite hu)

/-! ### Claim, debug level, force bits -/

theorem EntryFrame.setSeat (new : SeatState) : EntryFrame takenBack s (t.setSeat new) := by
  unfold State.setSeat
  exact h.ite (EntryFrame.logKind (h.trans .of_eq) _ _ _)

theorem EntryFrame.endAttempt (dest : SeatState) : EntryFrame takenBack s (t.endAttempt dest) := by
  unfold State.endAttempt
  extract_lets u v
  have hv : EntryFrame takenBack s v := (h.setSeat dest).trans .of_eq
  exact (EntryFrame.pulse (hv.trans .of_eq) (by decide)).ite hv

theorem EntryFrame.sendRelease : EntryFrame takenBack s t.sendRelease :=
  h.each _ fun _ _ hu => (hu.trans .of_eq).ite hu

theorem EntryFrame.releaseClaim (dest : SeatState) : EntryFrame takenBack s (t.releaseClaim dest) := by
  unfold State.releaseClaim
  exact (EntryFrame.setSeat (h.sendRelease.trans .of_eq) _).showOutputs.ite (h.sendRelease.endAttempt _)

theorem EntryFrame.setDebug (v reason p : Nat) : EntryFrame takenBack s (t.setDebug v reason p) := by
  unfold State.setDebug
  extract_lets old u w
  have hu : EntryFrame takenBack s u := h.trans .of_eq
  have hw : EntryFrame takenBack s w :=
    (EntryFrame.raise (hu.trans .of_eq) (by decide)).ite (hu.gone (by decide))
  exact h.ite (hw.logKind _ _ _)

theorem EntryFrame.dropForces : EntryFrame takenBack s t.dropForces := by
  unfold State.dropForces
  exact (h.each _ fun _ _ hu => ((hu.setSrc _ _).dropSrc _).ite hu).releaseScopes

theorem EntryFrame.leaveService (reason p : Nat) : EntryFrame takenBack s (t.leaveService reason p) := by
  unfold State.leaveService
  exact (h.dropForces.setDebug _ _ _).ite h

theorem EntryFrame.leaveRun (dest : SeatState) : EntryFrame takenBack s (t.leaveRun dest) := by
  unfold State.leaveRun
  exact (h.releaseClaim _).trans .of_eq

end

/-- The change to SAFE leaves what its parts leave, but for the device state itself (R264). -/
theorem enterDev_entry (s : State) (r p : Nat) :
    ∃ d : Device, d.state = .safe ∧ EntryFrame takenBack (s.modDev fun _ => d) (s.enterDev .safe r p) := by
  unfold State.enterDev
  extract_lets old at_ a b c d e f
  rw [if_neg (show ¬ DevState.safe = DevState.run by decide)]
  split
  · next hs => exact ⟨s.dev, hs, .refl s⟩
  · have hb : EntryFrame takenBack a b := (EntryFrame.refl a).logKind _ _ _
    have hc : EntryFrame takenBack a c := (hb.leaveRun _).ite hb
    have hd : EntryFrame takenBack a d := hc.abortTests _
    have he : EntryFrame takenBack a e := (hd.leaveService _ _).ite hd
    exact ⟨_, rfl, he.abortRuns _⟩

end Sys2Proof.Machine
end

section
/-!
PROOFS. A raised source with reaction DEVICE-SAFE, and the entry that it brings (R206, R207, R219).
-/

namespace Sys2Proof.Machine

set_option Elab.async false

/-! ### The entry -/

/-- The Mitten's action for an exciter is no register that a fault may move. -/
theorem faultReg_mitExc (e : ExcId) : faultReg (mitExc e) = false := by decide +revert

/-- The stop of one exciter (R207, R208). -/
def State.stopExc (s : State) (e : ExcId) : State :=
  if s.reg (mitExc e) = 1 ∧ (s.exc[e].state = .ramp ∨ s.exc[e].state = .run) then
    (s.modExc e fun x => { x with state := .held, restart := false }).foldClear e
  else s

theorem holdExciters_eq (s : State) : s.holdExciters = s.each (List.finRange 4) State.stopExc := rfl

theorem stopExc_safe (s : State) (e : ExcId) : SafeFrame s (s.stopExc e) := by
  unfold State.stopExc
  split
  · exact (modExc_safe s _ _).trans (foldClear_safe _ _)
  · exact SafeFrame.refl s

theorem foldClear_exc (s : State) (e : ExcId) :
    (s.foldClear e).exc = vmod s.exc e fun x => { x with fold := false, pendFold := false, applied := 0, step := 0 } :=
  (gone_frame _ _).exc

theorem stopExc_same (s : State) (e : ExcId) :
    (s.stopExc e).exc[e] = if s.reg (mitExc e) = 1 then s.exc[e].heldBy else s.exc[e] := by
  unfold State.stopExc Exc.heldBy Exc.driving
  by_cases hm : s.reg (mitExc e) = 1
  · by_cases hx : s.exc[e].state = .ramp ∨ s.exc[e].state = .run
    · rw [if_pos ⟨hm, hx⟩, if_pos hm, if_pos (by simpa using hx), foldClear_exc]
      simp only [State.modExc_exc, Fin.getElem_fin, vmod_get, if_true]
    · rw [if_neg fun h => hx h.2, if_pos hm, if_neg (by simpa using hx)]
  · rw [if_neg fun h => hm h.1, if_neg hm]

theorem stopExc_ne (s : State) {e d : ExcId} (h : d ≠ e) : (s.stopExc e).exc[d] = s.exc[d] := by
  unfold State.stopExc
  split
  · simp only [foldClear_exc]
    exact (vmod_ne _ _ h.symm).trans (vmod_ne _ _ h.symm)
  · rfl

theorem each_stopExc (l : List ExcId) (hl : l.Nodup) (s : State) (e : ExcId) :
    (s.each l State.stopExc).exc[e] = if e ∈ l ∧ s.reg (mitExc e) = 1 then s.exc[e].heldBy else s.exc[e] := by
  induction l generalizing s with
  | nil => rw [if_neg (by simp)]; rfl
  | cons a l ih =>
    obtain ⟨ha, hl⟩ := List.nodup_cons.1 hl
    show ((s.stopExc a).each l State.stopExc).exc[e] = _
    rw [ih hl, (stopExc_safe s a).reg _ (faultReg_mitExc e)]
    by_cases he : e = a
    · subst he
      rw [if_neg fun h => ha h.1, stopExc_same]
      simp
    · rw [stopExc_ne s he]
      simp [he]

/-- The exciters after the Mitten has stopped those that it stops (R207, R208). -/
theorem holdExciters_exc (s : State) (e : ExcId) :
    s.holdExciters.exc[e] = if s.reg (mitExc e) = 1 then s.exc[e].heldBy else s.exc[e] := by
  rw [holdExciters_eq, each_stopExc _ (List.nodup_finRange 4)]
  simp [List.mem_finRange]

/-- What the stop of the exciters leaves, but for the exciters. -/
theorem stopExc_entry (s : State) (e : ExcId) : ∃ v, EntryFrame takenBack { s with exc := v } (s.stopExc e) := by
  unfold State.stopExc
  split
  · exact ⟨_, (EntryFrame.refl _).gone (takenBack_foldback e)⟩
  · exact ⟨s.exc, .refl s⟩

theorem each_stopExc_entry (l : List ExcId) (s : State) :
    ∃ v, EntryFrame takenBack { s with exc := v } (s.each l State.stopExc) := by
  induction l generalizing s with
  | nil => exact ⟨s.exc, .refl s⟩
  | cons a l ih =>
    obtain ⟨v, hv⟩ := stopExc_entry s a
    obtain ⟨w, hw⟩ := ih (s.stopExc a)
    exact ⟨w, ⟨hw.exc, hw.dev.trans hv.dev, hw.deviceSafe.trans hv.deviceSafe, hw.safeCnt.trans hv.safeCnt,
      hw.wdogCnt.trans hv.wdogCnt, fun n => ⟨(hw.ch n).1.trans (hv.ch n).1, (hw.ch n).2.trans (hv.ch n).2⟩,
      hw.first ∘ hv.first, hw.request ∘ hv.request,
      fun hb => (hw.copyOk hb).trans (hv.copyOk hb), fun j hj =>
        ⟨(hw.src j hj).1.trans (hv.src j hj).1, (hw.src j hj).2.trans (hv.src j hj).2⟩⟩⟩

theorem holdExciters_entry (s : State) : ∃ v, EntryFrame takenBack { s with exc := v } s.holdExciters :=
  each_stopExc_entry (List.finRange 4) s

/-- What the stop of the exciters keeps of the seat. -/
theorem stopExc_red (s : State) (e : ExcId) : (s.stopExc e).red = { s.red with err := (s.stopExc e).red.err } := by
  unfold State.stopExc
  split
  · exact (gone_frame _ _).red
  · rfl

theorem each_stopExc_red (l : List ExcId) (s : State) : (s.each l State.stopExc).red.state = s.red.state := by
  induction l generalizing s with
  | nil => rfl
  | cons a l ih =>
    have h := ih (s.stopExc a)
    rw [stopExc_red s a] at h
    exact h

/-- The claim line is low after a release (R236). -/
theorem releaseClaim_low (s : State) (x : SeatState) : (s.releaseClaim x).red.clmOut = false := by
  unfold State.releaseClaim
  extract_lets u
  split
  · exact (((Kept.refl _).setSeat x).showOutputs).low rfl
  · next h =>
    rw [Bool.or_eq_true] at h
    exact ((Kept.refl u).endAttempt x).low (by simpa using (not_or.1 h).1)

theorem setSeat_state (s : State) (x : SeatState) : (s.setSeat x).red.state = x := by
  unfold State.setSeat
  extract_lets old
  split
  · next h => exact h
  · exact congrArg Red.state (logKind_frame (s.modRed fun r => { r with state := x }) _ _ _).red

/-- What a DEVICE-SAFE entry leaves of `s`, out of a device reset (R207). -/
structure EntryMade (s t : State) : Prop where
  deviceSafe : t.floor.deviceSafe = true
  dev : t.dev.state = .safe
  safeCnt : t.floor.safeCnt = min (s.floor.safeCnt + 1) 0xFFFF
  first : s.floor.first.isSome = true → t.floor.first.isSome = true
  low : t.red.clmOut = false
  seat : t.red.state = .safe
  wdogCnt : t.floor.wdogCnt = s.floor.wdogCnt
  ch : ∀ n : ChId, t.ch[n].loop = s.ch[n].loop ∧ t.ch[n].state = s.ch[n].state
  copyOk : t.fc.copyOk = s.fc.copyOk
  src : ∀ j, takenBack j = false → (t.src j).cond = (s.src j).cond ∧ (t.src j).rail = (s.src j).rail
  exc : ∀ e : ExcId, t.exc[e] = if s.reg (mitExc e) = 1 then s.exc[e].heldBy else s.exc[e]

/-- The frame speaks of the device state and of the exciters each as a whole. -/
theorem EntryFrame.withParts {s t : State} (h : EntryFrame takenBack s t) (d : Device) (v : Vector Exc 4) :
    EntryFrame takenBack { s with dev := d, exc := v } { t with dev := d, exc := v } :=
  ⟨rfl, rfl, h.deviceSafe, h.safeCnt, h.wdogCnt, h.ch, h.first, h.request, h.copyOk, h.src⟩

theorem EntryFrame.withDev {s t : State} (h : EntryFrame takenBack s t) (d : Device) :
    EntryFrame takenBack (s.modDev fun _ => d) (t.modDev fun _ => d) :=
  ⟨h.exc, rfl, h.deviceSafe, h.safeCnt, h.wdogCnt, h.ch, h.first, h.request, h.copyOk, h.src⟩

/-- The release of the claim and the changes of device and seat state (R207, R236, R264). -/
def State.entryStates (s : State) : State := ((s.releaseClaim .safe).enterDev .safe 3 0xFF).setSeat .safe

theorem entryStates_entry (s : State) :
    ∃ d : Device, d.state = .safe ∧ EntryFrame takenBack (s.modDev fun _ => d) s.entryStates := by
  have hb : EntryFrame takenBack s (s.releaseClaim .safe) := (EntryFrame.refl s).releaseClaim _
  obtain ⟨d, hd, hde⟩ := enterDev_entry (s.releaseClaim .safe) 3 0xFF
  exact ⟨d, hd, (hb.withDev d).trans (hde.setSeat _)⟩

theorem entryStates_safe (s : State) : SafeFrame s s.entryStates :=
  (releaseClaim_safe s _).trans ((enterDev_safe _ _ _).trans (setSeat_safe _ _))

theorem entryStates_low (s : State) : s.entryStates.red.clmOut = false :=
  (((Kept.refl _).enterDev _ _ _).setSeat _).low (releaseClaim_low s _)

theorem safeEntry_eq {s : State} (hi : s.inSafe = false) (hr : s.sup.reset = false) :
    s.safeEntry = (s.modFloor fun f =>
      { f with deviceSafe := true, safeCnt := min (f.safeCnt + 1) 0xFFFF }).entryStates.holdExciters.showOutputs := by
  unfold State.safeEntry
  rw [if_neg (by rw [hi]; decide)]
  exact if_neg (by rw [show (s.modFloor _).sup = s.sup from rfl, hr]; decide)

/-- The stop of the exciters after the change of states, and the outputs set anew (R207). -/
theorem stopped_entry (s : State) :
    ∃ (d : Device) (v : Vector Exc 4), d.state = .safe ∧
      EntryFrame takenBack { s with dev := d, exc := v } s.entryStates.holdExciters.showOutputs := by
  obtain ⟨d, hd, hs⟩ := entryStates_entry s
  obtain ⟨v, hv⟩ := holdExciters_entry s.entryStates
  refine ⟨d, v, hd, (hs.withParts d v).trans ?_⟩
  have hdev : s.entryStates.dev = d := hs.dev
  generalize s.entryStates = c at *
  subst hdev
  exact hv.showOutputs

theorem stopped_seat (s : State) : s.entryStates.holdExciters.showOutputs.red.state = .safe := by
  have hstates : s.entryStates.red.state = .safe := setSeat_state _ _
  generalize s.entryStates = c at *
  have hheld : c.holdExciters.red.state = .safe := (each_stopExc_red _ c).trans hstates
  exact (congrArg Red.state (showOutputs_frame c.holdExciters).red).trans hheld

theorem stopped_exc (s : State) (e : ExcId) :
    s.entryStates.holdExciters.showOutputs.exc[e] = if s.reg (mitExc e) = 1 then s.exc[e].heldBy else s.exc[e] := by
  obtain ⟨d, -, hs⟩ := entryStates_entry s
  have hexc : s.entryStates.exc = s.exc := hs.exc
  have hreg := (entryStates_safe s).reg _ (faultReg_mitExc e)
  generalize s.entryStates = c at *
  rw [(showOutputs_frame _).exc, holdExciters_exc, hreg]
  simp only [hexc]

theorem safeEntry_made (s : State) (hi : s.inSafe = false) (hr : s.sup.reset = false) : EntryMade s s.safeEntry := by
  rw [safeEntry_eq hi hr]
  obtain ⟨a, ha⟩ : ∃ a, a = s.modFloor fun f => { f with deviceSafe := true, safeCnt := min (f.safeCnt + 1) 0xFFFF } :=
    ⟨_, rfl⟩
  rw [← ha]
  obtain ⟨d, v, hd, ht⟩ := stopped_entry a
  have hlow := ((Kept.refl a.entryStates).holdExciters.showOutputs).low (entryStates_low a)
  have hseat := stopped_seat a
  have hexc := stopped_exc a
  generalize a.entryStates.holdExciters.showOutputs = t at *
  subst ha
  exact
    { deviceSafe := ht.deviceSafe
      dev := (congrArg Device.state ht.dev).trans hd
      safeCnt := ht.safeCnt
      first := ht.first
      low := hlow
      seat := hseat
      wdogCnt := ht.wdogCnt
      ch := ht.ch
      copyOk := ht.copyOk (by decide)
      src := ht.src
      exc := hexc }

/-! ### The raise that asks for it -/

/-- A DEVICE-SAFE reaction asks for its entry and is captured as a first fault (R207, R219). -/
theorem captureFirst_request (s : State) (id : Nat) (h : (s.fltNow id).2.1 = 3) (hi : s.inSafe = false) :
    (s.captureFirst id).floor.request = true := by
  rw [captureFirst_floor]
  simp [h, hi]

theorem captureFirst_captured (s : State) (id : Nat) (h : 2 ≤ (s.fltNow id).2.1) (ho : s.floor.oscLost = false) :
    (s.captureFirst id).floor.first.isSome = true := by
  unfold State.captureFirst State.modFloor
  cases hf : s.floor.first <;> by_cases h3 : (s.fltNow id).2.1 = 3 <;> simp [h, h3, ho, hf] <;> split <;> simp [hf]

/-- The raised source holds its condition, whatever it was before. -/
theorem countRaise_src (s : State) (id : Nat) (upd : FSrc → FSrc) :
    ((s.countRaise id upd).src id).cond = (upd (s.src id)).cond ∧
    ((s.countRaise id upd).src id).rail = (upd (s.src id)).rail := by
  unfold State.countRaise
  dsimp only
  split <;> simp

/-- The state in which a raise captures its first fault: counted, marked, with its scope (R206). -/
def State.raising (s : State) (id : Nat) (upd : FSrc → FSrc) : State :=
  ((s.countRaise id upd).raiseMarks id).holdScope id (s.fltNow id).2.1

theorem raising_frame (s : State) (id : Nat) (upd : FSrc → FSrc) : RaiseFrame s (s.raising id upd) :=
  ((countRaise_frame s id upd).trans (raiseMarks_frame _ _)).trans (holdScope_frame _ _ _)

theorem raising_src (s : State) (id : Nat) (upd : FSrc → FSrc) :
    ((s.raising id upd).src id).cond = (upd (s.src id)).cond ∧
    ((s.raising id upd).src id).rail = (upd (s.src id)).rail := by
  have hmarks : ((s.countRaise id upd).raiseMarks id).src id = (s.countRaise id upd).src id := by
    unfold State.raiseMarks
    repeat' split
    all_goals rfl
  have h : EntryFrame (fun _ => false) ((s.countRaise id upd).raiseMarks id) (s.raising id upd) :=
    (EntryFrame.refl _).holdScope _ _
  obtain ⟨hc, hr⟩ := h.src id rfl
  obtain ⟨gc, gr⟩ := countRaise_src s id upd
  rw [hmarks] at hc hr
  exact ⟨hc.trans gc, hr.trans gr⟩

section
variable {s : State} {id : Nat} (upd : FSrc → FSrc) (ha : assigned id = true) (hc : (s.src id).cond = false)
  (hf : (s.src id).force = false)
include ha hc hf

/-- A source that raises is captured, and what follows moves no condition. -/
theorem raiseWith_entry (B : Nat → Bool) : EntryFrame B ((s.raising id upd).captureFirst id) (s.raiseWith id upd) := by
  unfold State.raiseWith
  rw [if_neg (by rw [ha]; decide), if_neg (by rw [hc, hf]; decide)]
  exact (EntryFrame.refl _).raiseRest _ _

theorem raiseWith_src : ((s.raiseWith id upd).src id).cond = (upd (s.src id)).cond ∧
    ((s.raiseWith id upd).src id).rail = (upd (s.src id)).rail := by
  obtain ⟨h1, h2⟩ := (raiseWith_entry upd ha hc hf fun _ => false).src id rfl
  obtain ⟨g1, g2⟩ := raising_src s id upd
  exact ⟨h1.trans g1, h2.trans g2⟩

/-- A DEVICE-SAFE reaction out of the safe entry asks for one (R207). -/
theorem raiseWith_request (hu : ∀ f, (upd f).eff = f.eff) (h3 : (s.fltNow id).2.1 = 3) (hi : s.inSafe = false) :
    (s.raiseWith id upd).floor.request = true :=
  (raiseWith_entry upd ha hc hf fun _ => false).request <| captureFirst_request _ _
    (by rw [State.raising, fltNow_raising s id _ upd hu]; exact h3) ((raising_frame s id upd).inSafe.trans hi)

/-- A reaction of CHANNEL-SAFE or more is captured as a first fault while FLOOROSC runs (R213, R219). -/
theorem raiseWith_first (hu : ∀ f, (upd f).eff = f.eff) (h2 : 2 ≤ (s.fltNow id).2.1) (ho : s.floor.oscLost = false) :
    (s.raiseWith id upd).floor.first.isSome = true :=
  (raiseWith_entry upd ha hc hf fun _ => false).first <| captureFirst_captured _ _
    (by rw [State.raising, fltNow_raising s id _ upd hu]; exact h2) ((raising_frame s id upd).osc.1.trans ho)

end

/-! ### The command -/

/-- With the request settled, the entry has been made and the rest is the entry's (R207). -/
theorem settled_made (s : State) (hq : s.floor.request = true) (hi : s.inSafe = false) (hr : s.sup.reset = false) :
    EntryMade s s.settled := by
  unfold State.settled
  rw [if_pos hq]
  obtain ⟨hsafe, hdev, hcnt, hfirst, hlow, hseat, hwdog, hch, hcopy, hsrc, hexc⟩ := safeEntry_made s hi hr
  exact ⟨hsafe, hdev, hcnt, hfirst, hlow, hseat, hwdog, hch, hcopy, hsrc, hexc⟩

/-- In a device reset the floor alone makes the entry (R13, R351). -/
theorem settled_inReset (s : State) (hq : s.floor.request = true) (hi : s.inSafe = false) (hr : s.sup.reset = true) :
    s.settled = s.modFloor fun f =>
      { f with deviceSafe := true, safeCnt := min (f.safeCnt + 1) 0xFFFF, request := false } := by
  unfold State.settled State.safeEntry
  rw [if_pos hq, if_neg (by rw [hi]; decide)]
  dsimp only
  rw [if_pos (show (s.modFloor _).sup.reset = true from hr)]
  rfl

/-- FLOOROSC is lost by CLK_FLOOR alone, and the loss moves the floor's own time only (R213). -/
theorem oscRaise_eq (s : State) (id : Nat) : ∃ o n, s.oscRaise id = s.modFloor (fun f => { f with oscLost := o, since := n }) ∧
    (id ≠ 6 → o = s.floor.oscLost ∧ n = s.floor.since) := by
  unfold State.oscRaise
  split
  · next h =>
    simp only [Bool.and_eq_true, decide_eq_true_eq] at h
    exact ⟨_, _, rfl, fun h6 => absurd h.1.1 h6⟩
  · exact ⟨s.floor.oscLost, s.floor.since, rfl, fun _ => ⟨rfl, rfl⟩⟩

/-- The floor's own time is no part of what a source's configuration or the safe entry follows. -/
theorem oscRaise_facts (s : State) (id j : Nat) : (s.oscRaise id).src j = s.src j ∧
    (s.oscRaise id).fltNow j = s.fltNow j ∧ (s.oscRaise id).inSafe = s.inSafe ∧ (s.oscRaise id).sup = s.sup ∧
    (s.oscRaise id).floor.safeCnt = s.floor.safeCnt ∧ (s.oscRaise id).ch = s.ch ∧ (s.oscRaise id).exc = s.exc ∧
    (s.oscRaise id).dev = s.dev ∧ (s.oscRaise id).time = s.time := by
  obtain ⟨o, n, h, -⟩ := oscRaise_eq s id
  rw [h]
  exact ⟨rfl, rfl, rfl, rfl, rfl, rfl, rfl, rfl, rfl⟩

theorem heldBy_of_driving (x : Exc) (h : x.state = .ramp ∨ x.state = .run) :
    x.heldBy = { x with
      state := .held, step := 0, restart := false, applied := 0, fold := false, pendFold := false } := by
  unfold Exc.heldBy Exc.driving
  rw [if_pos (by simpa using h)]

theorem heldBy_of_idle (x : Exc) (h : x.state ≠ .ramp ∧ x.state ≠ .run) : x.heldBy = x := by
  unfold Exc.heldBy Exc.driving
  rw [if_neg (by simpa using h)]

/-- Settles O40: the raise asks for the entry and captures its first fault, and the end of the command makes it. -/
theorem deviceSafeEntryReleasesStopsAndHolds : Obligations.DeviceSafeEntryReleasesStopsAndHolds := by
  intro id s _ hrails ha hc hf h3 hds
  have hi : s.inSafe = false := by unfold State.inSafe; rw [hds]; rfl
  have hexec : exec (.faultRaise id) s = .next ((s.oscRaise id.val).raise id.val).settled := if_pos hrails
  obtain ⟨hsrc, hnow, hin, hsup, hcnt, hch, hexc, hdev, htime⟩ := oscRaise_facts s id.val id.val
  have hrf : RaiseFrame (s.oscRaise id.val) ((s.oscRaise id.val).raise id.val) := raise_frame _ _
  have hreq : ((s.oscRaise id.val).raise id.val).floor.request = true :=
    raiseWith_request _ ha (by rw [hsrc]; exact hc) (by rw [hsrc]; exact hf) (fun _ => rfl) (by rw [hnow]; exact h3)
      (hin.trans hi)
  have hcond : (((s.oscRaise id.val).raise id.val).src id.val).cond = true :=
    (raiseWith_src _ ha (by rw [hsrc]; exact hc) (by rw [hsrc]; exact hf)).1
  have hi' : ((s.oscRaise id.val).raise id.val).inSafe = false := hrf.inSafe.trans (hin.trans hi)
  refine ⟨fun hr => ?_, fun hr hosc h6 => ?_⟩
  · have hset := settled_inReset _ hreq hi' ((congrArg Sup.reset (hrf.sup.trans hsup)).trans hr)
    refine ⟨_, hexec, ?_⟩
    rw [hset]
    refine ⟨rfl, ?_, hcond, rfl, hrf.ch.trans hch, hrf.exc.trans hexc, hrf.dev.trans hdev, hrf.time.trans htime⟩
    simp only [State.modFloor_floor, hrf.counts.2.2, hcnt]
  · obtain ⟨o, n, hoe, hon⟩ := oscRaise_eq s id.val
    obtain ⟨rfl, rfl⟩ := hon h6
    have hs : s.oscRaise id.val = s := hoe
    rw [hs] at hexec hrf hreq hi' hcond
    have hmade := settled_made _ hreq hi' ((congrArg Sup.reset hrf.sup).trans hr)
    obtain ⟨hsafe, hq⟩ := settled_safe (s.raise id.val)
    have hfirst : (s.raise id.val).floor.first.isSome = true :=
      raiseWith_first _ ha hc hf (fun _ => rfl) (by rw [h3]; decide) hosc
    have hmit : ∀ e, (s.raise id.val).reg (mitExc e) = s.reg (mitExc e) := fun e =>
      (hrf.safe).reg _ (faultReg_mitExc e)
    refine ⟨_, hexec, hmade.deviceSafe, ⟨hq, .inl ?_⟩, ?_, hmade.first hfirst, hmade.low, hmade.seat, hmade.dev,
      hrf.safe.trans hsafe, fun e hm hd => ?_, fun e hd => ?_⟩
    · unfold State.inSafe
      rw [hmade.deviceSafe, hmade.dev]
      rfl
    · rw [hmade.safeCnt, hrf.counts.2.2]
    · rw [hmade.exc, hmit, if_pos hm]
      simp only [hrf.exc]
      exact heldBy_of_driving _ hd
    · rw [hmade.exc, hmit]
      simp only [hrf.exc]
      rcases hd with hm | hd
      · rw [if_neg hm]
      · rw [heldBy_of_idle _ hd, ite_self]

end Sys2Proof.Machine
end

section
/-!
PROOFS. What the collector holds of a source while it and others are raised, logged, cleared and cleared again (R204,
R215, R218), and an accepted access that asks for no DEVICE-SAFE entry.
-/

namespace Sys2Proof.Machine

set_option Elab.async false

/-! ### The end of a command that asks for no entry -/

theorem settled_quiet {s : State} (h : s.floor.request = false) : s.settled = s := by
  unfold State.settled
  rw [if_neg (by rw [h]; decide)]

theorem done_quiet {s : State} (h : s.floor.request = false) : done s = .next s := by rw [done, settled_quiet h]

/-- An accepted access whose effect asks for no entry answers its effect. -/
theorem hostWrite_next {s t : State} {p : Port} {k : Key} {data : Bytes} {v : Int} {eff : Int → Eff}
    (h : s.Admits p k data v) (he : eff v (s.beat p) = .ok t) (hq : t.floor.request = false) :
    hostWrite p k data eff s = .next t := by
  rw [hostWrite_admitted s t p k data v eff h he, settled_quiet hq]

/-! ### Logging and showing leave a source as it is -/

section
variable {s : State} {j : Nat}

/-- LOG_QUEUE_OVF is raised only while it is not raised already (R204, R218). -/
theorem overflow_src (h : j ≠ 1029 ∨ (s.src 1029).cond = true ∨ (s.src 1029).force = true) : s.overflow.src j = s.src j := by
  unfold State.overflow
  split
  · rfl
  · next hc =>
    have hj : (1029 : Nat) ≠ j := by
      rcases h with h | h
      · exact h.symm
      · exact absurd (by simpa using h) hc
    have hcount : (s.countRaise 1029 id).src j = s.src j := by
      unfold State.countRaise
      dsimp only
      split <;> exact src_setSrc_ne s _ hj
    have hmark : (((s.countRaise 1029 id).captureFirst 1029).markTrial 1029).src j = (s.countRaise 1029 id).src j := by
      unfold State.markTrial
      split <;> rfl
    rw [← hcount, ← hmark]
    unfold State.dropSrc
    dsimp only
    split
    · rfl
    · split <;> exact src_setSrc_ne _ _ hj

theorem enqueue_src (e : LogEvent) (h : j ≠ 1029 ∨ (s.src 1029).cond = true ∨ (s.src 1029).force = true) : (s.enqueue e).src j = s.src j := by
  unfold State.enqueue
  split
  · rfl
  · split
    · rfl
    · exact overflow_src (s := (s.modFc fun c => { c with lost := true }).bump Reg.FC_LOG_LOST) h

theorem logKind_src (k i : Nat) (d : Bytes) (h : j ≠ 1029 ∨ (s.src 1029).cond = true ∨ (s.src 1029).force = true) :
    (s.logKind k i d).src j = s.src j := enqueue_src _ h

theorem quota_src {u : State} {id : Nat} (hu : s.quota id = some u) (i : Nat) : u.src i = s.src i := by
  unfold State.quota at hu
  dsimp only at hu
  split at hu <;> split at hu <;> cases hu <;> rfl

theorem logSrc_src (k id : Nat) (h : j ≠ 1029 ∨ (s.src 1029).cond = true ∨ (s.src 1029).force = true) : (s.logSrc k id).src j = s.src j := by
  unfold State.logSrc
  split
  · rfl
  · next u hu =>
    rw [← quota_src hu j]
    exact enqueue_src _ (by rwa [quota_src hu])

theorem each_src {α : Type} {f : State → α → State} (h : ∀ u a, (f u a).src j = u.src j) (l : List α) (u : State) :
    (u.each l f).src j = u.src j := by
  induction l generalizing u with
  | nil => rfl
  | cons a l ih => exact (ih (f u a)).trans (h u a)

theorem showOutputs_src : s.showOutputs.src j = s.src j :=
  (each_src (f := State.showPsw) (fun _ _ => rfl) _ _).trans (each_src (f := State.showEmu) (fun _ _ => rfl) _ s)

theorem releaseScopes_src : s.releaseScopes.src j = s.src j := each_src (f := State.showPsw) (fun _ _ => rfl) _ s

theorem showRaise_src (r : Nat) : (s.showRaise r).src j = s.src j := by
  unfold State.showRaise
  split
  · exact showOutputs_src
  · rfl

theorem markTrial_src (id : Nat) : (s.markTrial id).src j = s.src j := by
  unfold State.markTrial
  split <;> rfl

theorem capFault_src (id : Nat) : (s.capFault id).src j = s.src j := by
  unfold State.capFault State.capTrigger
  dsimp only
  repeat' split
  all_goals rfl

theorem raiseMarks_src (id : Nat) : (s.raiseMarks id).src j = s.src j := by
  unfold State.raiseMarks
  repeat' split
  all_goals rfl

end

/-! ### A raise -/

/-- The condition after a raise. -/
theorem raiseWith_idle_assigned {s : State} {id : Nat} (upd : FSrc → FSrc) (ha : assigned id = true) :
    s.raiseWith id upd =
      if (s.src id).cond || (s.src id).force then s.setSrc id (upd (s.src id))
      else
        (((((s.raising id upd).captureFirst id).logSrc 0 id).showRaise (s.fltNow id).2.1).markTrial id).capFault id := by
  unfold State.raiseWith State.raising
  rw [if_neg (by rw [ha]; decide)]

/-- A raise moves no other source but LOG_QUEUE_OVF, which the loss of its log record raises. -/
theorem raiseWith_src_ne (s : State) {id j : Nat} (upd : FSrc → FSrc) (hj : j ≠ id) (ho : j ≠ 1029) :
    (s.raiseWith id upd).src j = s.src j := by
  have hraising : (s.raising id upd).src j = s.src j := by
    have hcount : (s.countRaise id upd).src j = s.src j := by
      unfold State.countRaise
      dsimp only
      split <;> exact src_setSrc_ne s _ hj.symm
    unfold State.raising State.holdScope
    split
    · rw [src_setSrc_ne _ _ hj.symm, raiseMarks_src, hcount]
    · rw [raiseMarks_src, hcount]
  by_cases ha : assigned id = true
  · rw [raiseWith_idle_assigned upd ha]
    split
    · exact src_setSrc_ne s _ hj.symm
    · rw [capFault_src, markTrial_src, showRaise_src, logSrc_src _ _ (.inl ho)]
      exact hraising
  · unfold State.raiseWith
    rw [if_pos (by simpa using ha)]

theorem raising_force (s : State) (id : Nat) (upd : FSrc → FSrc) :
    ((s.raising id upd).src id).force = (upd (s.src id)).force := by
  have hcount : ((s.countRaise id upd).src id).force = (upd (s.src id)).force := by
    unfold State.countRaise
    dsimp only
    split <;> rw [src_setSrc]
  unfold State.raising State.holdScope
  split
  · rw [src_setSrc, raiseMarks_src, hcount]
  · rw [raiseMarks_src, hcount]

/-- What the raise leaves of its own source is what it counted, stamped and held (R206, R215, R218). -/
theorem raiseWith_src_self {s : State} {id : Nat} (upd : FSrc → FSrc) (ha : assigned id = true)
    (hc : (s.src id).cond = false) (hf : (s.src id).force = false)
    (hu : (upd (s.src id)).cond = true ∨ (upd (s.src id)).force = true) :
    (s.raiseWith id upd).src id = (s.raising id upd).src id := by
  rw [raiseWith_idle_assigned upd ha, if_neg (by rw [hc, hf]; decide), capFault_src, markTrial_src, showRaise_src,
    logSrc_src]
  · rfl
  · by_cases h : id = 1029
    · subst h
      exact .inr (hu.imp (raising_src s 1029 upd).1.trans (raising_force s 1029 upd).trans)
    · exact .inl h

theorem raising_state (s : State) (id : Nat) (upd : FSrc → FSrc) : ((s.raising id upd).src id).state = .active := by
  have hcount : ((s.countRaise id upd).src id).state = .active := by
    unfold State.countRaise
    dsimp only
    split <;> rw [src_setSrc]
  unfold State.raising State.holdScope
  split
  · rw [src_setSrc, raiseMarks_src, hcount]
  · rw [raiseMarks_src, hcount]

/-- Out of a device reset a raise is stamped and counted (R13, R218). -/
theorem raising_counted {s : State} (id : Nat) (upd : FSrc → FSrc) (hr : s.sup.reset = false) :
    ((s.raising id upd).src id).last = some (s.timeNow, s.time.wraps) ∧
    ((s.raising id upd).src id).count = (satInc 32 (Int.ofNat (s.src id).count)).toNat := by
  have hcount : ((s.countRaise id upd).src id).last = some (s.timeNow, s.time.wraps) ∧
      ((s.countRaise id upd).src id).count = (satInc 32 (Int.ofNat (s.src id).count)).toNat := by
    unfold State.countRaise
    rw [hr]
    simp
  unfold State.raising State.holdScope
  split
  · rw [src_setSrc, raiseMarks_src]
    exact hcount
  · rw [raiseMarks_src]
    exact hcount

theorem satInc_ofNat_toNat (w n : Nat) : Int.ofNat (satInc w (Int.ofNat n)).toNat = satInc w (Int.ofNat n) := by
  unfold satInc
  have hp : (0 : Int) < 2 ^ w := by positivity
  simp only [Int.ofNat_eq_natCast]
  omega

/-- A source that is raised already takes the new condition alone. -/
theorem raiseWith_again {s : State} {id : Nat} (upd : FSrc → FSrc) (ha : assigned id = true)
    (h : (s.src id).cond = true ∨ (s.src id).force = true) : s.raiseWith id upd = s.setSrc id (upd (s.src id)) := by
  rw [raiseWith_idle_assigned upd ha, if_pos (by simpa using h)]

/-! ### The end of a condition -/

/-- A source whose condition ends falls, or stands by its force bit (R215, R217). -/
theorem gone_state {s : State} {id : Nat} (hc : (s.src id).cond = true) :
    ((s.gone id).src id).cond = false ∧
    ((s.gone id).src id).state = if (s.src id).force = true ∨ (s.src id).state ≠ .active then (s.src id).state
      else if (s.fltNow id).1 = 0 then .idle else .latched := by
  unfold State.gone
  rw [hc, if_neg (by decide), releaseScopes_src]
  have hnow := fltNow_setSrc s id { s.src id with cond := false, rail := false } rfl
  unfold State.dropSrc
  dsimp only
  rw [src_setSrc, hnow]
  simp only [Bool.false_or, Bool.or_eq_true, decide_eq_true_eq]
  split
  · rw [src_setSrc]
    exact ⟨rfl, rfl⟩
  · split <;> rw [src_setSrc] <;> exact ⟨rfl, rfl⟩

theorem gone_floor (s : State) (id : Nat) : (s.gone id).floor = s.floor := by
  have hshow : ∀ u : State, u.releaseScopes.floor = u.floor := fun u => by
    unfold State.releaseScopes
    generalize all16 = l
    induction l generalizing u with
    | nil => rfl
    | cons a l ih => exact ih (u.showPsw a)
  unfold State.gone
  split
  · rfl
  · rw [hshow]
    unfold State.dropSrc
    dsimp only
    repeat' split
    all_goals rfl

theorem gone_absent {s : State} {id : Nat} (hc : (s.src id).cond = false) : s.gone id = s := by
  unfold State.gone
  rw [hc, if_pos (by decide)]

end Sys2Proof.Machine
end

section
/-!
PROOFS. The clearing of a source by which a DEVICE-SAFE hold ends may raise that source again (R32, R215, R351).
-/

namespace Sys2Proof.Machine

set_option Elab.async false

/-- What an answered next state shows of it. -/
def shown {α : Type} (o : Host.Outcome State Fault Refusal) (f : State → α) : Option α :=
  match o with
  | .next t => some (f t)
  | _ => none

/-- A state with the clocks running, the dictionary service up, and sessions that may write everything. -/
def openState : State :=
  { State.reset with
    sup := { reset := false, pll := true, booted := true }
    mgmt := { service := true }
    dev := { State.reset.dev with state := .config }
    sec := { lifecycle := 1 }
    port := Vector.replicate 7 { role := .vendor } }

/-- An access in a form that evaluates. -/
theorem admits_of {s : State} {p : Port} {k : Key} {data : Bytes} {v : Int} (hg : s.gate p = .ready)
    (hc : ((s.beat p).writeChecks p k data).toOption.map (fun x => x.2) = some v) : s.Admits p k data v := by
  refine ⟨hg, ?_⟩
  cases h : (s.beat p).writeChecks p k data with
  | error n => rw [h] at hc; cases hc
  | ok x =>
    rw [h] at hc
    obtain ⟨o, w⟩ := x
    exact ⟨o, by cases hc; rfl⟩

/-- A DEVICE-SAFE hold that has outlasted a reset, and FOLDBACK0 latched; the supply of exciter 0, which is enabled and
off, is too low for its amplitude. -/
def foldbackHeld : State :=
  { openState with
    floor := { State.reset.floor with deviceSafe := true }
    exc := Vector.replicate 4 { vexc := 0 }
    fc := { State.reset.fc with srcs := [(577, { state := .latched })] }
    regs := [(Reg.EXC_ENABLE 0, 1), (Reg.EXC_MODE 0, 1), (Reg.EXC_AMPL 0, 8000)] }

theorem foldbackHeld_calm : foldbackHeld.Calm := by
  unfold State.Calm
  decide +kernel

theorem foldbackHeld_admits : foldbackHeld.AdmitsCmd 0 (Reg.FLT_CLEAR 577) :=
  admits_of (by decide +kernel) (by decide +kernel)

/-- Refutes O41: FLT_CLEAR of FOLDBACK0 ends the hold, the exciter that starts folds back, and the source is ACTIVE. -/
theorem not_sourcesRaiseLatchAndClear : ¬ Obligations.SourcesRaiseLatchAndClear := by
  intro h
  obtain ⟨-, -, -, hclear, -⟩ := h
  obtain ⟨hlatched, -⟩ := hclear 0 577 foldbackHeld foldbackHeld_calm foldbackHeld_admits
  obtain ⟨t, hexec, hidle, -⟩ := hlatched (by decide +kernel) (by decide +kernel)
  have hshown : shown (exec (.fltClear 0 577) foldbackHeld) (fun t => (t.src 577).state) = some .active := by
    decide +kernel
  rw [hexec] at hshown
  exact absurd (hidle.symm.trans (Option.some.inj hshown)) (by decide)

end Sys2Proof.Machine
end

section
/-!
PROOFS. The configuration of a source, its force bit and its counters (R205, R215 to R218, R221).
-/

namespace Sys2Proof.Machine

set_option Elab.async false

/-! ### Configuration -/

/-- The address of a source's configuration is not CFG_GEN. -/
theorem fltKey_ne_CFG_GEN (o : FltField) (id : SrcId) : fltKey o id.val ≠ Reg.CFG_GEN := by
  have hid := id.isLt
  cases o <;> simp only [fltKey, Reg.FLT_CLASS, Reg.FLT_REACTION, Reg.FLT_OKAY_ROUTE, Reg.FLT_AUTO_CLEAR, Reg.CFG_GEN,
    Key] <;> omega

/-- A visible write leaves its object, CFG_GEN and nothing else (R258, R270). -/
theorem setRws_visible (s : State) {k : Key} (v : Int) (hk : k ≠ Reg.CFG_GEN) : s.Visible (s.setRws k v) k v := by
  unfold State.setRws State.cfgGen
  refine ⟨?_, ?_, fun j hj hg => ?_⟩
  · rw [State.reg_setReg_ne _ _ hk.symm, State.reg_setReg]
  · rw [State.reg_setReg, State.reg_setReg_ne _ _ hk]
  · rw [State.reg_setReg_ne _ _ hg.symm, State.reg_setReg_ne _ _ hj.symm]

/-- The heartbeat leaves the conditions of a configuration write. -/
theorem checkFlt_beat (p : Port) (o : FltField) (id : Nat) (s : State) (get : Key → Int) (k : Key) (v : Int) :
    checkFlt p o id (s.beat p) get k v = checkFlt p o id s get k v := by
  unfold checkFlt
  rw [roleOf_beat]
  rfl

theorem effFlt_ok {p : Port} {o : FltField} {id : Nat} {v : Int} {s : State}
    (h : checkFlt p o id s (overlay s.reg [(fltKey o id, v)]) (fltKey o id) v = .ok ()) :
    effFlt p o id v s = .ok (if o = .autoClear then s.setRws (fltKey o id) v
      else (s.setRws (fltKey o id) v).fltApply id (s.fltNow id)) := by
  unfold effFlt
  simp only [h]
  rfl

/-- A fixed source is refused before any other rule (R201, R205). -/
theorem checkFlt_fixed {p : Port} {o : FltField} {id : Nat} (s : State) (get : Key → Int) (k : Key) (v : Int)
    (ho : o ≠ .autoClear) (hx : fixedSrc id = true) : checkFlt p o id s get k v = .error nakRange := by
  have hn : need (decide (o = .autoClear) || (assigned id && !fixedSrc id)) nakRange = .error nakRange :=
    need_false _ (by simp [ho, hx])
  unfold checkFlt
  simp only [hn]
  rfl

/-- A source that is IDLE takes its visible configuration (R217). -/
theorem fltApply_idle {s : State} {id : Nat} (old : Nat × Nat × Bool) (h : (s.src id).state = .idle) :
    s.fltApply id old = s.setSrc id { s.src id with eff := none } := by
  unfold State.fltApply
  exact if_pos h

/-- What was in effect and what becomes visible, the greater of each (R217). -/
def raisedConfig (old new : Nat × Nat × Bool) : Nat × Nat × Bool :=
  (max old.1 new.1, max old.2.1 new.2.1, old.2.2 || new.2.2)

/-- A source that is not IDLE takes what a change raises; below CHANNEL-SAFE no scope and no entry follows (R217). -/
theorem fltApply_low {s : State} {id : Nat} {old : Nat × Nat × Bool} (h : (s.src id).state ≠ .idle) (ho : old.2.1 < 2)
    (hn : (s.fltVisible id).2.1 < 2) :
    s.fltApply id old = s.setSrc id { s.src id with
      eff := if raisedConfig old (s.fltVisible id) = s.fltVisible id then none
        else some (raisedConfig old (s.fltVisible id)) } := by
  unfold State.fltApply
  have h2 : ¬ 2 ≤ max old.2.1 (s.fltVisible id).2.1 := by omega
  have h3 : ¬ max old.2.1 (s.fltVisible id).2.1 = 3 := by omega
  simp only [h, if_false, h2, h3, and_false]
  rfl

theorem fltNow_of_eff {s : State} {id : Nat} {e : Nat × Nat × Bool}
    (h : (s.src id).eff = if e = s.fltVisible id then none else some e) : s.fltNow id = e := by
  unfold State.fltNow
  rw [h]
  split_ifs with he
  · exact he.symm
  · rfl

theorem fltConfigWrite_accepted {p : Port} {id : SrcId} {o : FltField} {v : Int} {s : State}
    (c : s.Calm) (ha : s.Admits p (fltKey o id.val) (dataAt (fltKey o id.val) v) v)
    (hok : checkFlt p o id.val s (overlay s.reg [(fltKey o id.val, v)]) (fltKey o id.val) v = .ok ()) :
    (o = .autoClear → ∃ t, exec (.fltConfigWrite p id o v) s = .next t ∧ s.Visible t (fltKey o id.val) v ∧
      t = { s.beat p with regs := t.regs }) ∧
    (o ≠ .autoClear → (s.src id).state = .idle →
      ∃ t, exec (.fltConfigWrite p id o v) s = .next t ∧ s.Visible t (fltKey o id.val) v ∧
        t = { s.beat p with regs := t.regs, fc := t.fc } ∧ t.fltNow id = t.fltVisible id ∧
        ∀ j, j ≠ id.val → t.src j = s.src j) ∧
    (o ≠ .autoClear → (s.src id).state ≠ .idle → (s.fltNow id).2.1 < 2 → (s.fltVisible id).2.1 < 2 →
      (o = .reaction → v < 2) →
      ∃ t, exec (.fltConfigWrite p id o v) s = .next t ∧ s.Visible t (fltKey o id.val) v ∧
        t = { s.beat p with regs := t.regs, fc := t.fc } ∧
        t.fltNow id = (max (s.fltNow id).1 (t.fltVisible id).1, max (s.fltNow id).2.1 (t.fltVisible id).2.1,
          (s.fltNow id).2.2 || (t.fltVisible id).2.2)) := by
  have hvis := setRws_visible (s.beat p) v (fltKey_ne_CFG_GEN o id)
  have heff := effFlt_ok (s := s.beat p) (by rw [checkFlt_beat]; exact hok)
  refine ⟨fun ho => ?_, fun ho hidle => ?_, fun ho hactive hnow hvisible hv => ?_⟩
  · rw [if_pos ho] at heff
    exact ⟨_, hostWrite_next ha heff c.1, hvis, rfl⟩
  · rw [if_neg ho, fltApply_idle (s := (s.beat p).setRws (fltKey o id.val) v) _ hidle] at heff
    refine ⟨_, hostWrite_next ha heff c.1, hvis, rfl, ?_, fun j hj => src_setSrc_ne _ _ hj.symm⟩
    unfold State.fltNow
    rw [src_setSrc]
  · have hlow : (((s.beat p).setRws (fltKey o id.val) v).fltVisible id.val).2.1 < 2 := by
      have hreg : ((s.beat p).setRws (fltKey o id.val) v).reg (Reg.FLT_REACTION id.val) =
          if o = .reaction then v else s.reg (Reg.FLT_REACTION id.val) := by
        obtain ⟨hk, -, hother⟩ := hvis
        split_ifs with hr
        · subst hr
          exact hk
        · exact hother _ (by cases o <;> simp_all [fltKey, Reg.FLT_CLASS, Reg.FLT_REACTION, Reg.FLT_OKAY_ROUTE])
            (fltKey_ne_CFG_GEN .reaction id)
      unfold State.fltVisible State.regN at hvisible ⊢
      dsimp only at hvisible ⊢
      rw [hreg]
      split_ifs with hr
      · have := hv hr
        omega
      · exact hvisible
    rw [if_neg ho, fltApply_low (s := (s.beat p).setRws (fltKey o id.val) v) (old := (s.beat p).fltNow id.val) hactive
      hnow hlow] at heff
    refine ⟨_, hostWrite_next ha heff c.1, hvis, rfl, ?_⟩
    exact fltNow_of_eff (by rw [src_setSrc]; rfl)

/-! ### The force bit -/

theorem forceAllowed_beat (s : State) (p : Port) : (s.beat p).forceAllowed p = s.forceAllowed p := by
  unfold State.forceAllowed
  rw [roleOf_beat]
  rfl

theorem need_true {b : Bool} (n : Nak) (h : b = true) : need b n = .ok () := by
  rw [h]
  rfl

theorem fltForce_set {p : Port} {id : SrcId} {s : State} (c : s.Calm)
    (ha : s.Admits p (Reg.FLT_FORCE id) (dataAt (Reg.FLT_FORCE id) 1) 1) (has : assigned id.val = true)
    (hforce : s.forceAllowed p = true) (hm : s.Mild id) (hc : (s.src id).cond = false) (hf : (s.src id).force = false) :
    ∃ t, exec (.fltForce p id 1) s = .next t ∧ RaiseFrame (s.beat p) t ∧ (t.src id).force = true ∧
      (t.src id).state = .active := by
  have heff : effFltForce p id.val 1 (s.beat p) =
      .ok ((s.beat p).raiseWith id.val fun f => { f with force := true }) := by
    unfold effFltForce
    rw [forceAllowed_beat]
    simp only [need_true _ has, need_true _ hforce]
    rfl
  have hself := raiseWith_src_self (s := s.beat p) (fun f => { f with force := true }) has hc hf (.inr rfl)
  have hcalm : ((s.beat p).raiseWith id.val fun f => { f with force := true }).Calm :=
    raiseWith_calm _ _ _ (fun _ => rfl) (.inr hm) (beat_calm s p c)
  refine ⟨_, hostWrite_next ha heff hcalm.1, raiseWith_frame _ _ _, ?_, ?_⟩
  · rw [hself]
    exact raising_force _ _ _
  · rw [hself]
    exact raising_state _ _ _

theorem fltForce_refused {p : Port} {id : SrcId} {s : State} (c : s.Calm)
    (ha : s.Admits p (Reg.FLT_FORCE id) (dataAt (Reg.FLT_FORCE id) 1) 1) (has : assigned id.val = true)
    (hforce : s.forceAllowed p = false) :
    ∃ t, exec (.fltForce p id 1) s = .next t ∧ s.RefusedAs t p (Reg.FLT_FORCE id) nakCond := by
  refine hostWrite_refusedAs c ha ?_ (by decide) (by decide)
  unfold effFltForce
  rw [forceAllowed_beat]
  simp only [need_true _ has, need_false _ hforce]
  rfl

/-- The force bit ends, and with it a source whose condition is absent (R221). -/
theorem fltForce_end {p : Port} {id : SrcId} {s : State} (c : s.Calm)
    (ha : s.Admits p (Reg.FLT_FORCE id) (dataAt (Reg.FLT_FORCE id) 0) 0) (has : assigned id.val = true)
    (hactive : (s.src id).state = .active) (hc : (s.src id).cond = false) :
    ∃ t, exec (.fltForce p id 0) s = .next t ∧ RaiseFrame (s.beat p) t ∧ (t.src id).force = false ∧
      (t.src id).state = if (s.fltNow id).1 = 0 then .idle else .latched := by
  obtain ⟨u, hu⟩ : ∃ u, u = (s.beat p).setSrc id.val { s.src id with force := false } := ⟨_, rfl⟩
  have heff : effFltForce p id.val 0 (s.beat p) = .ok (u.dropSrc id.val).releaseScopes := by
    unfold effFltForce
    simp only [need_true _ has]
    rw [hu]
    rfl
  have hsrc : u.src id.val = { s.src id with force := false } := by rw [hu, src_setSrc]
  have hnow : u.fltNow id.val = s.fltNow id := by rw [hu]; exact fltNow_setSrc (s.beat p) _ _ rfl
  have hframe : RaiseFrame (s.beat p) (u.dropSrc id.val).releaseScopes := by
    rw [hu]
    exact ((setSrc_frame _ _ _).trans (dropSrc_frame _ _)).trans (releaseScopes_frame _)
  have hcalm : (u.dropSrc id.val).releaseScopes.Calm := by
    rw [hu]
    exact releaseScopes_calm _ (dropSrc_calm _ _ (setSrc_calm _ _ _ (.inl rfl) (beat_calm s p c)))
  have hdrop : u.dropSrc id.val = if (s.fltNow id).1 = 0 then
      u.setSrc id.val { u.src id.val with state := .idle, emus := 0, psws := 0, eff := none }
      else u.setSrc id.val { u.src id.val with state := .latched } := by
    unfold State.dropSrc
    simp only [hsrc, hnow, hc, hactive, Bool.or_self, ne_eq, not_true_eq_false, decide_false, Bool.false_eq_true, if_false]
  refine ⟨_, hostWrite_next ha heff hcalm.1, hframe, ?_, ?_⟩ <;> rw [releaseScopes_src, hdrop] <;> split_ifs <;>
    rw [src_setSrc, hsrc]

/-- Settles O42: each clause by the command that it speaks of. -/
theorem sourceConfigurationForceAndCounters : Obligations.SourceConfigurationForceAndCounters := by
  refine ⟨fun p id o v s k c hk ha => ?_, fun p id s c ha => ⟨fltForce_set c ha, fltForce_refused c ha⟩,
    fun p id s c ha => fltForce_end c ha, fun p id s c ha => ?_⟩
  · subst hk
    refine ⟨fltConfigWrite_accepted c ha, fun ho hx => hostWrite_refusedAs c ha ?_ (by decide) (by decide)⟩
    unfold effFlt
    simp only [checkFlt_fixed _ _ _ _ ho hx]
    rfl
  · exact ⟨_, hostWrite_next ha rfl c.1, rfl, src_setSrc _ _ _, fun j hj => src_setSrc_ne _ _ hj.symm⟩

end Sys2Proof.Machine
end

section
/-!
PROOFS. FC_REINIT, FC_FLOOR_REARM and FC_SELFTEST (R220, R222), and what the end of any command leaves.
-/

namespace Sys2Proof.Machine

set_option Elab.async false

/-! ### The end of a command -/

/-- What the end of a command does: nothing, the floor's own part, or a whole entry (R207). -/
theorem settled_cases (s : State) :
    s.settled = s.modFloor (fun f => { f with request := false }) ∨
    (s.inSafe = false ∧ s.sup.reset = true ∧ s.settled = s.modFloor fun f =>
      { f with deviceSafe := true, safeCnt := min (f.safeCnt + 1) 0xFFFF, request := false }) ∨
    (s.inSafe = false ∧ s.sup.reset = false ∧ EntryMade s s.settled) := by
  cases hq : s.floor.request with
  | false => exact .inl ((settled_quiet hq).trans (by unfold State.modFloor; rw [← hq]))
  | true =>
    cases hi : s.inSafe with
    | true =>
      refine .inl ?_
      unfold State.settled State.safeEntry
      rw [if_pos hq, if_pos hi]
    | false =>
      cases hr : s.sup.reset with
      | true => exact .inr (.inl ⟨rfl, rfl, settled_inReset s hq hi hr⟩)
      | false => exact .inr (.inr ⟨rfl, rfl, settled_made s hq hi hr⟩)

theorem settled_dev_safe {s : State} (h : s.dev.state = .safe) : s.settled.dev.state = .safe := by
  rcases settled_cases s with hs | ⟨-, -, hs⟩ | ⟨-, -, hs⟩
  · rw [hs]
    exact h
  · rw [hs]
    exact h
  · exact hs.dev

theorem settled_copyOk (s : State) : s.settled.fc.copyOk = s.fc.copyOk := by
  rcases settled_cases s with hs | ⟨-, -, hs⟩ | ⟨-, -, hs⟩
  · rw [hs]
    rfl
  · rw [hs]
    rfl
  · exact hs.copyOk

theorem settled_src (s : State) {j : Nat} (h : takenBack j = false) :
    (s.settled.src j).cond = (s.src j).cond ∧ (s.settled.src j).rail = (s.src j).rail := by
  rcases settled_cases s with hs | ⟨-, -, hs⟩ | ⟨-, -, hs⟩
  · rw [hs]
    exact ⟨rfl, rfl⟩
  · rw [hs]
    exact ⟨rfl, rfl⟩
  · exact hs.src j h

/-- An entry that is asked for, or made already, leaves the Mitten holding (R207). -/
theorem settled_holds {s : State} (h : s.inSafe = true ∨ s.floor.request = true) :
    s.settled.floor.deviceSafe = true := by
  cases hi : s.inSafe with
  | true =>
    have hin : s.settled.inSafe = true := ((settled_safe s).1.held hi).1
    unfold State.inSafe at hin
    exact (Bool.and_eq_true_iff.1 hin).1
  | false =>
    have hq : s.floor.request = true := h.resolve_left (by rw [hi]; decide)
    cases hr : s.sup.reset with
    | true => rw [settled_inReset s hq hi hr]; rfl
    | false => exact (settled_made s hq hi hr).deviceSafe

/-- The condition of a raised source is present. -/
theorem raise_cond (s : State) {id : Nat} (ha : assigned id = true) : ((s.raise id).src id).cond = true := by
  by_cases h : (s.src id).cond = true ∨ (s.src id).force = true
  · rw [State.raise, raiseWith_again _ ha h, src_setSrc]
  · simp only [not_or, Bool.not_eq_true] at h
    exact (raiseWith_src _ ha h.1 h.2).1

/-- A raise with reaction DEVICE-SAFE leaves the Mitten holding (R206, R207). -/
theorem settled_raise_holds (s : State) {id : Nat} (ha : assigned id = true) (hc : (s.src id).cond = false)
    (hf : (s.src id).force = false) (h3 : (s.fltNow id).2.1 = 3) : (s.raise id).settled.floor.deviceSafe = true := by
  refine settled_holds ?_
  cases hi : s.inSafe with
  | true => exact .inl ((raise_frame s id).inSafe.trans hi)
  | false => exact .inr (raiseWith_request _ ha hc hf (fun _ => rfl) h3 hi)

/-! ### FC_REINIT -/

/-- The floor may take another last source and, out of the safe entry, a request. -/
theorem modFloor_frame (s : State) (n : Nat) :
    RaiseFrame s (s.modFloor fun x => { x with lastId := n, request := x.request || !s.inSafe }) := by
  constructor <;>
    first
    | rfl
    | exact ⟨rfl, rfl, rfl⟩
    | exact ⟨rfl, rfl⟩
    | exact fun _ _ => rfl
    | exact fun w => w
    | (intro hd; simp [hd])

/-- A change of a source's configuration changes what a raise may change. -/
theorem fltApply_frame (s : State) (id : Nat) (old : Nat × Nat × Bool) : RaiseFrame s (s.fltApply id old) := by
  unfold State.fltApply
  extract_lets f new e a g c
  have hc : RaiseFrame a c := by
    dsimp only [c]
    split
    · exact (setSrc_frame _ _ _).trans (showOutputs_frame _)
    · exact RaiseFrame.refl _
  have hc : RaiseFrame s c := (setSrc_frame s _ _).trans hc
  split
  · exact setSrc_frame s _ _
  · split
    · exact hc.trans (modFloor_frame c id)
    · exact hc

/-- Registers after the write of a list of objects, each with its value. -/
theorem foldl_setReg_reg (f : Key → Int) (keys : List Key) (s : State) (j : Key) :
    (keys.foldl (fun s k => s.setReg k (f k)) s).reg j = if j ∈ keys then f j else s.reg j := by
  induction keys generalizing s with
  | nil => simp
  | cons k keys ih =>
    rw [List.foldl_cons, ih, State.reg_setReg_get]
    by_cases hj : j ∈ keys
    · simp [hj]
    · by_cases hk : k = j
      · subst hk; simp
      · simp [hj, hk, Ne.symm hk]

theorem setConfig_reg (f : Key → Int) (keys : List Key) (s : State) {j : Key} (hj : j ≠ Reg.FC_LOG_LOST) :
    (s.setConfig (keys.map fun k => (k, f k))).reg j = if j ∈ keys then f j else s.reg j := by
  unfold State.setConfig
  extract_lets t
  rw [(each_frame (fun u id => fltApply_frame u id (s.fltNow id)) _ t).reg j hj, ← foldl_setReg_reg]
  dsimp only [t]
  rw [List.foldl_map]

theorem foldl_setReg_dev (vs : List (Key × Int)) (s : State) :
    (vs.foldl (fun s x => s.setReg x.1 x.2) s).dev = s.dev := by
  induction vs generalizing s with
  | nil => rfl
  | cons x vs ih => exact ih (s.setReg x.1 x.2)

theorem setConfig_dev (vs : List (Key × Int)) (s : State) : (s.setConfig vs).dev = s.dev :=
  (each_frame (fun u id => fltApply_frame u id (s.fltNow id)) _ _).dev.trans (foldl_setReg_dev vs s)

/-- An object that a sparse map does not list reads its default. -/
theorem SMap.find_of_not_mem {α : Type} (d : α) (m : SMap α) {i : Nat} (h : i ∉ m.map fun x => x.1) :
    SMap.find d m i = d := by
  induction m with
  | nil => rfl
  | cons x m ih =>
    obtain ⟨k, v⟩ := x
    simp only [List.map_cons, List.mem_cons, not_or] at h
    rw [SMap.find_cons, if_neg fun e => h.1 e.symm, ih h.2]

theorem stored_of_not_mem {s : State} {k : Key} (h : k ∉ s.storedKeys) : s.stored k = regDefault k := by
  unfold State.storedKeys at h
  unfold State.stored
  cases hg : newestStore s.store.gens with
  | none => rfl
  | some g =>
    rw [hg] at h
    exact SMap.find_of_not_mem _ _ h

/-- Every configuration field reads as stored after a reload, and no other object moves (R222). -/
theorem reloadFlt_reg (s : State) {k : Key} (hk : k ≠ Reg.FC_LOG_LOST) :
    s.reloadFlt.reg k = if isFltConfig k = true then s.stored k else s.reg k := by
  unfold State.reloadFlt
  rw [setConfig_reg s.stored _ s hk]
  simp only [List.mem_filter, List.mem_append]
  by_cases hc : isFltConfig k = true
  · simp only [hc, and_true, if_true]
    split
    · rfl
    · next h =>
      rw [not_or] at h
      rw [stored_of_not_mem h.2]
      exact SMap.find_of_not_mem _ _ h.1
  · simp [hc]

/-- No counter that a fault moves is a source's configuration. -/
theorem isFltConfig_of_faultReg {k : Key} (h : faultReg k = true) : isFltConfig k = false := by
  simp only [faultReg, Bool.or_eq_true, beq_iff_eq, List.any_eq_true] at h
  rcases h with ((rfl | rfl) | rfl) | ⟨n, -, h⟩
  · decide
  · decide
  · decide
  · rcases h with (((rfl | rfl) | rfl) | rfl) | rfl <;> decide +revert

theorem fcReinit_inSafe {p : Port} {s : State} (ha : s.AdmitsCmd p Reg.FC_REINIT) (hd : s.dev.state = .safe) :
    ∃ t, exec (.fcReinit p) s = .next t ∧ t.fc.copyOk = !(s.src 1).cond ∧ t.dev.state = .safe ∧
      (∀ k, isFltConfig k = true → t.reg k = s.stored k) ∧
      ∀ k, isFltConfig k = false → faultReg k = false → t.reg k = s.reg k := by
  obtain ⟨u, hu⟩ : ∃ u, u = (s.beat p).reloadFlt.modFc fun c => { c with copyOk := !((s.beat p).src 1).cond } := ⟨_, rfl⟩
  have heff : effFcReinit (s.beat p) = .ok u := by
    unfold effFcReinit
    simp only [need_true nakCond (show decide ((s.beat p).dev.state = .safe) = true from decide_eq_true hd)]
    rw [hu]
    rfl
  have hreg : ∀ k, k ≠ Reg.FC_LOG_LOST → u.reg k = if isFltConfig k = true then s.stored k else s.reg k := fun k hk => by
    rw [hu]
    exact reloadFlt_reg (s.beat p) hk
  have hdev : u.dev.state = .safe := by
    rw [hu]
    exact (congrArg Device.state (setConfig_dev _ (s.beat p))).trans hd
  have hset := (settled_safe u).1.reg
  refine ⟨_, hostWrite_admitted s u p _ _ _ _ ha heff, (settled_copyOk u).trans (by rw [hu]; rfl), settled_dev_safe hdev,
    fun k hk => ?_, fun k hk hf => ?_⟩
  · have hf : faultReg k = false := by
      by_contra h
      rw [isFltConfig_of_faultReg (by simpa using h)] at hk
      exact absurd hk (by decide)
    rw [hset k hf, hreg k (by rintro rfl; exact absurd hf (by decide)), if_pos hk]
  · rw [hset k hf, hreg k (by rintro rfl; exact absurd hf (by decide)), if_neg (by rw [hk]; decide)]

theorem fcReinit_refused {p : Port} {s : State} (c : s.Calm) (ha : s.AdmitsCmd p Reg.FC_REINIT)
    (hd : s.dev.state ≠ .safe) : ∃ t, exec (.fcReinit p) s = .next t ∧ s.RefusedAs t p Reg.FC_REINIT nakCond := by
  refine hostWrite_refusedAs c ha ?_ (by decide) (by decide)
  unfold effFcReinit
  simp only [need_false nakCond (show decide ((s.beat p).dev.state = .safe) = false from decide_eq_false hd)]
  rfl

/-! ### The floor's capture and the self-test -/

theorem fcFloorRearm_clears {p : Port} {s : State} (c : s.Calm) (ha : s.AdmitsCmd p Reg.FC_FLOOR_REARM)
    (hi : (s.floor.first.all fun x => (s.src x.id).state = .idle) = true) :
    ∃ t, exec (.fcFloorRearm p) s = .next t ∧ t = { s.beat p with floor := { s.floor with first := none } } := by
  refine ⟨_, hostWrite_next ha (t := (s.beat p).modFloor fun f => { f with first := none }) ?_ c.1, rfl⟩
  have hfirst : (s.beat p).floor.first = s.floor.first := rfl
  unfold effFloorRearm
  cases h : s.floor.first with
  | none => simp only [hfirst, h]; rfl
  | some x =>
    rw [h] at hi
    have hx : decide (((s.beat p).src x.id).state = .idle) = true := hi
    simp only [hfirst, h, need_true _ hx]
    rfl

theorem fcFloorRearm_refused {p : Port} {s : State} (c : s.Calm) (ha : s.AdmitsCmd p Reg.FC_FLOOR_REARM)
    (hi : (s.floor.first.all fun x => (s.src x.id).state = .idle) = false) :
    ∃ t, exec (.fcFloorRearm p) s = .next t ∧ s.RefusedAs t p Reg.FC_FLOOR_REARM nakCond := by
  refine hostWrite_refusedAs c ha ?_ (by decide) (by decide)
  have hfirst : (s.beat p).floor.first = s.floor.first := rfl
  unfold effFloorRearm
  cases h : s.floor.first with
  | none =>
    rw [h] at hi
    exact absurd (show true = false from hi) (by decide)
  | some x =>
    rw [h] at hi
    have hx : decide (((s.beat p).src x.id).state = .idle) = false := hi
    simp only [hfirst, h, need_false _ hx]
    rfl

theorem gone_cond (s : State) (id : Nat) : ((s.gone id).src id).cond = false := by
  cases hc : (s.src id).cond with
  | false => rw [gone_absent hc, hc]
  | true => exact (gone_state hc).1

theorem fcSelftest_passes {s : State} (c : s.Calm) (ha : s.alive = true) :
    ∃ t, exec (.fcSelftest true) s = .next t ∧ RaiseFrame (s.bump Reg.FC_SELFTEST_CNT) t ∧
      t.reg Reg.FC_SELFTEST_CNT = satInc 32 (s.reg Reg.FC_SELFTEST_CNT) ∧ (t.src 2).cond = false := by
  have hexec : exec (.fcSelftest true) s = done ((s.bump Reg.FC_SELFTEST_CNT).gone 2) := if_pos ha
  have hframe := gone_frame (s.bump Reg.FC_SELFTEST_CNT) 2
  refine ⟨_, hexec.trans (done_quiet ?_), hframe, ?_, gone_cond _ _⟩
  · rw [gone_floor]
    exact c.1
  · rw [hframe.reg _ (by decide), State.reg_bump]

theorem fcSelftest_fails {s : State} (ha : s.alive = true) :
    ∃ t, exec (.fcSelftest false) s = .next t ∧ SafeFrame s t ∧ (t.src 2).cond = true ∧
      ((s.src 2).cond = false → (s.src 2).force = false → (s.fltNow 2).2.1 = 3 → t.floor.deviceSafe = true) := by
  have hexec : exec (.fcSelftest false) s = done (s.raise 2) := if_pos ha
  refine ⟨_, hexec, (raise_frame s 2).safe.trans (settled_safe _).1, ?_, settled_raise_holds s (by decide)⟩
  exact ((settled_src _ (by decide)).1).trans (raise_cond s (by decide))

/-- Settles O43: the reload, the rearm and the self-test, each with its refusal or failure. -/
theorem collectorReinitRearmAndSelfTest : Obligations.CollectorReinitRearmAndSelfTest :=
  ⟨fun _ _ c ha => ⟨fcReinit_inSafe ha, fcReinit_refused c ha⟩,
    fun _ _ c ha => ⟨fcFloorRearm_clears c ha, fcFloorRearm_refused c ha⟩,
    fun _ c ha => ⟨fcSelftest_passes c ha, fcSelftest_fails ha⟩⟩

end Sys2Proof.Machine
end

section
/-!
PROOFS. A restart of the management core is counted with its reason and leaves lanes, time, Tally inputs and beads
(R28, R315, R319, R328).
-/

namespace Sys2Proof.Machine

set_option Elab.async false

/-- What the activities that a restart ends, and a DEVICE-SAFE entry, leave of the management core and of the hardware
that goes on (R28, R315). -/
structure RestartFrame (s t : State) : Prop where
  mgmt : t.mgmt = s.mgmt
  time : t.time = s.time
  tal : t.tal = s.tal
  sets : t.sets = s.sets
  working : t.bead.working = s.bead.working
  wdogCnt : t.floor.wdogCnt = s.floor.wdogCnt
  ch : ∀ n : ChId, t.ch[n].loop = s.ch[n].loop ∧ t.ch[n].state = s.ch[n].state
  count : t.reg Reg.MGMT_RESTART_CNT = s.reg Reg.MGMT_RESTART_CNT

theorem RestartFrame.trans {s t u : State} (h : RestartFrame s t) (g : RestartFrame t u) : RestartFrame s u where
  mgmt := g.mgmt.trans h.mgmt
  time := g.time.trans h.time
  tal := g.tal.trans h.tal
  sets := g.sets.trans h.sets
  working := g.working.trans h.working
  wdogCnt := g.wdogCnt.trans h.wdogCnt
  ch := fun n => ⟨(g.ch n).1.trans (h.ch n).1, (g.ch n).2.trans (h.ch n).2⟩
  count := g.count.trans h.count

theorem RestartFrame.refl (s : State) : RestartFrame s s := ⟨rfl, rfl, rfl, rfl, rfl, rfl, fun _ => ⟨rfl, rfl⟩, rfl⟩

/-- What raises or clears a source. -/
theorem RaiseFrame.restart {s t : State} (h : RaiseFrame s t) : RestartFrame s t where
  mgmt := h.mgmt
  time := h.time
  tal := h.tal
  sets := h.sets
  working := by rw [h.bead]
  wdogCnt := h.counts.2.1
  ch := fun n => by rw [h.ch]; exact ⟨rfl, rfl⟩
  count := h.reg _ (by decide)

/-- A part of a DEVICE-SAFE entry. -/
theorem EntryFrame.restart {s t : State} (h : EntryFrame takenBack s t) (g : SafeFrame s t) : RestartFrame s t where
  mgmt := g.mgmt
  time := g.time
  tal := g.tal
  sets := g.sets
  working := by rw [g.bead]
  wdogCnt := h.wdogCnt
  ch := h.ch
  count := g.reg _ (by decide)

/-- The end of the command. -/
theorem settled_restart (s : State) : RestartFrame s s.settled := by
  have g := (settled_safe s).1
  have hparts : s.settled.floor.wdogCnt = s.floor.wdogCnt ∧
      ∀ n : ChId, s.settled.ch[n].loop = s.ch[n].loop ∧ s.settled.ch[n].state = s.ch[n].state := by
    rcases settled_cases s with hs | ⟨-, -, hs⟩ | ⟨-, -, hs⟩
    · rw [hs]
      exact ⟨rfl, fun _ => ⟨rfl, rfl⟩⟩
    · rw [hs]
      exact ⟨rfl, fun _ => ⟨rfl, rfl⟩⟩
    · exact ⟨hs.wdogCnt, hs.ch⟩
  exact ⟨g.mgmt, g.time, g.tal, g.sets, by rw [g.bead], hparts.1, hparts.2, g.reg _ (by decide)⟩

section
variable {s t : State} (h : RestartFrame s t)
include h

/-! ### What a restart ends -/

theorem RestartFrame.ite {p : Prop} [Decidable p] {u : State} (g : RestartFrame s u) :
    RestartFrame s (if p then t else u) := by
  split
  · exact h
  · exact g

theorem RestartFrame.each {α : Type} (l : List α) {f : State → α → State}
    (hf : ∀ u a, RestartFrame s u → RestartFrame s (f u a)) : RestartFrame s (t.each l f) := by
  induction l generalizing t with
  | nil => exact h
  | cons a l ih => exact ih (hf t a h)

theorem RestartFrame.modBead (f : Beads → Beads) (hf : (f t.bead).working = t.bead.working := by rfl) :
    RestartFrame s (t.modBead f) := h.trans ⟨rfl, rfl, rfl, rfl, hf, rfl, fun _ => ⟨rfl, rfl⟩, rfl⟩

theorem RestartFrame.modCal (n : ChId) (f : Cal → Cal) : RestartFrame s (t.modCal n f) :=
  h.trans ⟨rfl, rfl, rfl, rfl, rfl, rfl, fun _ => ⟨rfl, rfl⟩, rfl⟩

theorem RestartFrame.modStore (f : Store → Store) : RestartFrame s (t.modStore f) :=
  h.trans ⟨rfl, rfl, rfl, rfl, rfl, rfl, fun _ => ⟨rfl, rfl⟩, rfl⟩

theorem RestartFrame.modUpd (f : Upd → Upd) : RestartFrame s (t.modUpd f) :=
  h.trans ⟨rfl, rfl, rfl, rfl, rfl, rfl, fun _ => ⟨rfl, rfl⟩, rfl⟩

theorem RestartFrame.modHsp (k : Fin 3) (f : Hsp → Hsp) : RestartFrame s (t.modHsp k f) :=
  h.trans ⟨rfl, rfl, rfl, rfl, rfl, rfl, fun _ => ⟨rfl, rfl⟩, rfl⟩

theorem RestartFrame.modEth (k : Fin 2) (f : Eth → Eth) : RestartFrame s (t.modEth k f) :=
  h.trans ⟨rfl, rfl, rfl, rfl, rfl, rfl, fun _ => ⟨rfl, rfl⟩, rfl⟩

theorem RestartFrame.modCan (c : Fin 2) (f : Can → Can) : RestartFrame s (t.modCan c f) :=
  h.trans ⟨rfl, rfl, rfl, rfl, rfl, rfl, fun _ => ⟨rfl, rfl⟩, rfl⟩

theorem RestartFrame.modDev (f : Device → Device) : RestartFrame s (t.modDev f) :=
  h.trans ⟨rfl, rfl, rfl, rfl, rfl, rfl, fun _ => ⟨rfl, rfl⟩, rfl⟩

theorem RestartFrame.bump (k : Key) (hk : k ≠ Reg.MGMT_RESTART_CNT := by decide) : RestartFrame s (t.bump k) :=
  h.trans ⟨rfl, rfl, rfl, rfl, rfl, rfl, fun _ => ⟨rfl, rfl⟩, State.reg_bump_ne t hk⟩

theorem RestartFrame.logKind (kind info : Nat) (detail : Bytes) : RestartFrame s (t.logKind kind info detail) :=
  h.trans (logKind_frame t _ _ _).restart

theorem RestartFrame.pulse (id : Nat) : RestartFrame s (t.pulse id) := h.trans (pulse_frame t _).restart

theorem RestartFrame.endRun (n : ChId) (result detail : Nat) : RestartFrame s (t.endRun n result detail) :=
  h.trans (((EntryFrame.refl t).endRun n result detail).restart (endRun_safe t n result detail))

theorem RestartFrame.abortRun (n : ChId) (detail : Nat) : RestartFrame s (t.abortRun n detail) :=
  h.trans (((EntryFrame.refl t).abortRun n detail).restart (abortRun_safe t n detail))

theorem RestartFrame.schedEnd (d : Fin 17) : RestartFrame s (t.schedEnd d) :=
  h.trans (((EntryFrame.refl t).schedEnd d).restart (schedEnd_safe t d))

theorem RestartFrame.stageNext (q : Fin 4) : RestartFrame s (t.stageNext q) := by
  unfold State.stageNext
  split
  · exact h
  · split
    · exact h
    · exact h.modBead _

theorem RestartFrame.restartRuns : RestartFrame s t.restartRuns := by
  unfold State.restartRuns State.abortApply
  exact h.each _ fun _ _ hu => ((((hu.modBead _).endRun _ _ _).stageNext _).ite (hu.abortRun _ _)).modCal _ _

theorem RestartFrame.refuse (p : Port) (k : Key) : RestartFrame s (t.refuse p k nakMgmt) := by
  rw [State.refuse_eq t p k (by decide) (by decide)]
  exact (h.bump _).modDev _

theorem RestartFrame.ethSend (k : Fin 2) (r : Reply) : RestartFrame s (t.ethSend k r) := by
  unfold State.ethSend
  exact (h.modEth _ _).ite (h.modEth _ _)

theorem RestartFrame.canSend (c : Fin 2) (b : Bytes) : RestartFrame s (t.canSend c b) := by
  unfold State.canSend
  exact (h.modCan _ _).ite (h.modCan _ _)

theorem RestartFrame.sdoUpload (c : Fin 2) (k : Key) (data : Bytes) : RestartFrame s (t.sdoUpload c k data) := by
  unfold State.sdoUpload
  exact (h.canSend _ _).ite ((h.modCan _ _).canSend _ _)

theorem RestartFrame.answer (r : Route) (abort : Nat) (data : Bytes) : RestartFrame s (t.answer r abort data) := by
  unfold State.answer
  split
  · exact h
  · exact h.modHsp _ _
  · exact (h.modEth _ _).ethSend _ _
  · next c k seg =>
    have hc := h.modCan c fun x => { x with executing := false }
    refine (hc.canSend _ _).ite ?_
    split
    · exact hc.canSend _ _
    · exact (hc.canSend _ _).ite (hc.sdoUpload _ _ _)

theorem RestartFrame.restartWriter : RestartFrame s t.restartWriter := by
  unfold State.restartWriter State.storeEnds
  split
  · exact h
  · refine RestartFrame.schedEnd ?_ _
    split
    · exact (h.modStore _).logKind _ _ _
    · exact ((h.modUpd _).refuse _ _).answer _ _ _
    · exact h

end

/-! ### The restart -/

/-- The management core as a restart for the reason `r` leaves it, and the counts (R315). -/
theorem restart_marks (s : State) (r : RestartReason) :
    (s.restart r).mgmt = { s.mgmt with
      restarting := true, reason := restartNum r, restartAt := s.now
      recent := s.now :: s.mgmt.recent.filter fun t => s.now ≤ t + edgesOf 60 } ∧
    (s.restart r).reg Reg.MGMT_RESTART_CNT = satInc 32 (s.reg Reg.MGMT_RESTART_CNT) ∧
    (s.restart r).time = s.time ∧ (s.restart r).tal = s.tal ∧ (s.restart r).bead.working = s.bead.working ∧
    (s.restart r).sets = s.sets ∧ (s.restart r).floor.wdogCnt = s.floor.wdogCnt ∧
    ∀ n : ChId, (s.restart r).ch[n].loop = s.ch[n].loop ∧ (s.restart r).ch[n].state = s.ch[n].state := by
  unfold State.restart
  extract_lets recent a b c
  have hb : RestartFrame (a.bump Reg.MGMT_RESTART_CNT) b := (RestartFrame.refl _).logKind _ _ _
  have hc : RestartFrame (a.bump Reg.MGMT_RESTART_CNT) c := (hb.pulse 26).ite hb
  have h := hc.restartRuns.restartWriter
  exact ⟨h.mgmt, h.count.trans (State.reg_bump a _), h.time, h.tal, h.working, h.sets, h.wdogCnt, h.ch⟩

/-- A watchdog or lockstep restart out of TRIAL, and the end of its command (R315). -/
theorem settled_faultRestart (s : State) (r : RestartReason) (ht : s.upd.state ≠ .trial) :
    (s.faultRestart r).settled.mgmt = { s.mgmt with
      restarting := true, reason := restartNum r, restartAt := s.now
      recent := s.now :: s.mgmt.recent.filter fun t => s.now ≤ t + edgesOf 60 } ∧
    (s.faultRestart r).settled.reg Reg.MGMT_RESTART_CNT = satInc 32 (s.reg Reg.MGMT_RESTART_CNT) ∧
    (s.faultRestart r).settled.time = s.time ∧ (s.faultRestart r).settled.tal = s.tal ∧
    (s.faultRestart r).settled.bead.working = s.bead.working ∧ (s.faultRestart r).settled.sets = s.sets ∧
    (s.faultRestart r).settled.floor.wdogCnt = min (s.floor.wdogCnt + 1) 255 ∧
    ∀ n : ChId, (s.faultRestart r).settled.ch[n].loop = s.ch[n].loop ∧
      (s.faultRestart r).settled.ch[n].state = s.ch[n].state := by
  obtain ⟨u, hu⟩ : ∃ u, u = s.modFloor fun f => { f with wdogCnt := min (f.wdogCnt + 1) 255 } := ⟨_, rfl⟩
  have hfault : s.faultRestart r = u.restart r := by
    unfold State.faultRestart
    rw [← hu]
    exact if_neg (by rw [hu]; exact fun h => ht (of_decide_eq_true h))
  obtain ⟨hmgmt, hcount, htime, htal, hwork, hsets, hwdog, hch⟩ := restart_marks u r
  rw [hfault]
  generalize u.restart r = t at *
  subst hu
  have h := settled_restart t
  exact ⟨h.mgmt.trans hmgmt, h.count.trans hcount, h.time.trans htime, h.tal.trans htal, h.working.trans hwork,
    h.sets.trans hsets, h.wdogCnt.trans hwdog, fun n => ⟨(h.ch n).1.trans (hch n).1, (h.ch n).2.trans (hch n).2⟩⟩

/-! ### Watchdog and lockstep -/

/-- Another source's pulse leaves the spacing of restarts as it is (R315). -/
theorem restartSpaced_pulse (s : State) {id : Nat} (h : id ≠ 26) : (s.pulse id).restartSpaced = s.restartSpaced := by
  have hsrc : (s.pulse id).src 26 = s.src 26 := by
    have hgone : ∀ u : State, (u.gone id).src 26 = u.src 26 := fun u => by
      unfold State.gone
      split
      · rfl
      · rw [releaseScopes_src]
        unfold State.dropSrc
        dsimp only
        split
        · exact src_setSrc_ne u _ h
        · split <;> exact (src_setSrc_ne _ _ h).trans (src_setSrc_ne u _ h)
    exact (hgone _).trans (raiseWith_src_ne s _ h.symm (by decide))
  have hframe := pulse_frame s id
  unfold State.restartSpaced
  rw [hsrc, hframe.mgmt, hframe.now]

/-- A core fault while restarts are spaced is noted as due (R315). -/
theorem coreFault_spaced {s : State} {id : Nat} (r : RestartReason) (h : id ≠ 26) (hs : s.restartSpaced = true) :
    SafeFrame { s with mgmt := ((s.pulse id).coreFault r).settled.mgmt } ((s.pulse id).coreFault r).settled ∧
    ((s.pulse id).coreFault r).settled.mgmt = { s.mgmt with due := some r } := by
  have hfault : (s.pulse id).coreFault r = (s.pulse id).modMgmt fun m => { m with due := some r } :=
    if_pos ((restartSpaced_pulse s h).trans hs)
  have hframe := pulse_frame s id
  have hset := (settled_safe ((s.pulse id).coreFault r)).1
  rw [hfault] at hset ⊢
  have hmgmt : (((s.pulse id).modMgmt fun m => { m with due := some r }).settled).mgmt =
      { s.mgmt with due := some r } := by
    rw [hset.mgmt, ← hframe.mgmt]
    rfl
  refine ⟨?_, hmgmt⟩
  rw [hmgmt]
  have hstep : RaiseFrame { s with mgmt := { s.mgmt with due := some r } }
      ((s.pulse id).modMgmt fun m => { m with due := some r }) :=
    { hframe with mgmt := by rw [← hframe.mgmt]; rfl, reg := hframe.reg, wf := hframe.wf }
  exact hstep.safe.trans hset

theorem exec_mgmtWdog {s : State} (ho : s.oscOn = true) (hr : s.sup.reset = false) (hh : s.tap.halted = false) :
    exec .mgmtWdog s = done ((s.pulse 25).coreFault .watchdog) := if_pos (by rw [ho, hr, hh]; rfl)

theorem exec_mgmtLockstep {s : State} (ha : s.alive = true) :
    exec .mgmtLockstep s = done ((s.pulse 24).coreFault .lockstep) := if_pos ha

/-- A core fault out of spacing and TRIAL restarts the core at once (R315). -/
theorem coreFault_restarts {s : State} {id : Nat} (r : RestartReason) (h : id ≠ 26) (hs : s.restartSpaced = false) :
    (s.pulse id).coreFault r = (s.pulse id).faultRestart r :=
  if_neg (by rw [restartSpaced_pulse s h, hs]; decide)

theorem pulse_not_trial {s : State} (id : Nat) (h : s.upd.state ≠ .trial) : (s.pulse id).upd.state ≠ .trial := by
  rw [(pulse_frame s id).upd]
  exact h

/-- What a restart after the pulse of its source leaves, in the terms of the state before both. -/
theorem coreFault_marks {s : State} {id : Nat} (r : RestartReason) (h : id ≠ 26) (hs : s.restartSpaced = false)
    (ht : s.upd.state ≠ .trial) :
    ((s.pulse id).coreFault r).settled.mgmt = { s.mgmt with
      restarting := true, reason := restartNum r, restartAt := s.now
      recent := s.now :: s.mgmt.recent.filter fun t => s.now ≤ t + edgesOf 60 } ∧
    ((s.pulse id).coreFault r).settled.reg Reg.MGMT_RESTART_CNT = satInc 32 (s.reg Reg.MGMT_RESTART_CNT) ∧
    ((s.pulse id).coreFault r).settled.time = s.time ∧ ((s.pulse id).coreFault r).settled.tal = s.tal ∧
    ((s.pulse id).coreFault r).settled.bead.working = s.bead.working ∧
    ((s.pulse id).coreFault r).settled.sets = s.sets ∧
    ((s.pulse id).coreFault r).settled.floor.wdogCnt = min (s.floor.wdogCnt + 1) 255 ∧
    ∀ n : ChId, ((s.pulse id).coreFault r).settled.ch[n].loop = s.ch[n].loop ∧
      ((s.pulse id).coreFault r).settled.ch[n].state = s.ch[n].state := by
  rw [coreFault_restarts r h hs]
  have hp := (pulse_frame s id).restart
  have hnow := (pulse_frame s id).now
  obtain ⟨hmgmt, hcount, htime, htal, hwork, hsets, hwdog, hch⟩ :=
    settled_faultRestart (s.pulse id) r (pulse_not_trial id ht)
  generalize ((s.pulse id).faultRestart r).settled = t at *
  rw [hp.mgmt, hnow] at hmgmt
  rw [hp.count] at hcount
  rw [hp.wdogCnt] at hwdog
  exact ⟨hmgmt, hcount, htime.trans hp.time, htal.trans hp.tal, hwork.trans hp.working, hsets.trans hp.sets, hwdog,
    fun n => ⟨(hch n).1.trans (hp.ch n).1, (hch n).2.trans (hp.ch n).2⟩⟩

/-! ### The end of a restart -/

/-- The start of an activity takes at most the copy that a commit writes (R143). -/
theorem startActivity_eq (s : State) (d : Fin 17) (a : Activity) :
    s.startActivity d a = s.modBead fun b => { b with writing := (s.startActivity d a).bead.writing } := by
  unfold State.startActivity
  split <;> rfl

/-- What a request to the MRAM domain changes (R318). -/
theorem schedDo_mram (s : State) (a : Activity) :
    (s.schedDo mramDomain a).2 = { s with
      sched := (s.schedDo mramDomain a).2.sched
      bead := { s.bead with writing := (s.schedDo mramDomain a).2.bead.writing } } ∧
    ∀ d, d ≠ mramDomain → (s.schedDo mramDomain a).2.sched[d] = s.sched[d] := by
  have hmod : ∀ (u : State) (f : Sched → Sched) (d : Fin 17), d ≠ mramDomain →
      (u.modSched mramDomain f).sched[d] = u.sched[d] := fun u f d hd => vmod_ne _ _ hd.symm
  have hdis : s.displace mramDomain = s := rfl
  unfold State.schedDo
  rw [hdis]
  split
  · exact ⟨rfl, fun _ _ => rfl⟩
  · exact ⟨rfl, fun _ _ => rfl⟩
  · exact ⟨rfl, hmod s _⟩
  · rw [startActivity_eq]
    exact ⟨rfl, hmod s _⟩
  · dsimp only
    rw [dif_neg (by decide), startActivity_eq]
    exact ⟨rfl, hmod s _⟩

/-- A commit asked for in an idle MRAM domain runs (R318). -/
theorem schedDo_commit_runs {s : State} (hr : s.sched[mramDomain].running = none)
    (hp : s.sched[mramDomain].pending ≠ some .beadCommit) :
    (s.schedDo mramDomain .beadCommit).2.sched[mramDomain].running = some .beadCommit := by
  have hask : s.schedAsk mramDomain .beadCommit = .run := by
    unfold State.schedAsk
    simp only [Fin.getElem_fin] at hr hp ⊢
    simp [hr, hp]
  unfold State.schedDo
  rw [hask]
  dsimp only
  rw [dif_neg (by decide), startActivity_eq]
  exact congrArg Sched.running (vmod_self _ _ _)

theorem mgmtRestartDone_ends {s : State} (c : s.Calm) (ha : s.alive = true) (hr : s.mgmt.restarting = true) :
    ∃ t, exec .mgmtRestartDone s = .next t ∧
      t = { s with mgmt := t.mgmt, sched := t.sched, bead := { s.bead with writing := t.bead.writing } } ∧
      (s.beadsDiffer = false → t.sched = s.sched ∧ t.bead = s.bead) ∧
      (s.beadsDiffer = true → s.updWaits = false → s.sched[mramDomain].running = none →
        s.sched[mramDomain].pending ≠ some .beadCommit → t.sched[mramDomain].running = some .beadCommit) ∧
      t.mgmt = { s.mgmt with restarting := false } ∧ ∀ d, d ≠ mramDomain → t.sched[d] = s.sched[d] := by
  obtain ⟨u, hu⟩ : ∃ u, u = s.modMgmt fun m => { m with restarting := false } := ⟨_, rfl⟩
  have hdiffer : u.beadsDiffer = s.beadsDiffer := by rw [hu]; rfl
  have hexec : exec .mgmtRestartDone s = done (if u.beadsDiffer then u.commitOffer else u) := by
    rw [hu]
    exact if_pos (by rw [ha, hr]; rfl)
  cases hb : s.beadsDiffer with
  | false =>
    rw [hdiffer, hb, if_neg (by decide)] at hexec
    exact ⟨u, hexec.trans (done_quiet (by rw [hu]; exact c.1)), by rw [hu]; rfl, fun _ => by rw [hu]; exact ⟨rfl, rfl⟩,
      fun h => absurd h (by decide), by rw [hu]; rfl, fun _ _ => by rw [hu]; rfl⟩
  | true =>
    rw [hdiffer, hb, if_pos rfl] at hexec
    unfold State.commitOffer at hexec
    cases hw : s.updWaits with
    | true =>
      rw [if_pos (by rw [hu]; exact hw)] at hexec
      exact ⟨u, hexec.trans (done_quiet (by rw [hu]; exact c.1)), by rw [hu]; rfl, fun h => absurd h (by decide),
        fun _ h => absurd h (by decide), by rw [hu]; rfl, fun _ _ => by rw [hu]; rfl⟩
    | false =>
      rw [if_neg (by rw [hu]; exact fun h => absurd (hw.symm.trans h) (by decide))] at hexec
      obtain ⟨heq, hother⟩ := schedDo_mram u .beadCommit
      have hruns := schedDo_commit_runs (s := u)
      generalize (u.schedDo mramDomain .beadCommit).2 = t at *
      refine ⟨t, hexec.trans (done_quiet (by rw [heq, hu]; exact c.1)), ?_, fun h => absurd h (by decide),
        fun _ _ hrun hpend => hruns (by rw [hu]; exact hrun) (by rw [hu]; exact hpend), by rw [heq, hu]; rfl, fun d hd => ?_⟩
      · rw [heq, hu]
        rfl
      · rw [hother d hd, hu]
        rfl

/-- Settles O44: watchdog, lockstep and a restart put off, and the end of a restart. -/
theorem managementRestartsAreCountedAndTheHardwareGoesOn : Obligations.ManagementRestartsAreCountedAndTheHardwareGoesOn := by
  refine ⟨fun s _ ho hr hh ht => ⟨fun hs => ?_, fun hs => ?_⟩, fun s _ ha hs => ?_, fun r s c ha hn => ?_,
    fun s _ ha hs ht => ⟨?_, fun hd => ?_⟩, fun s c ha hr => mgmtRestartDone_ends c ha hr⟩
  · obtain ⟨hmgmt, hcount, htime, htal, hwork, hsets, hwdog, hch⟩ := coreFault_marks (id := 25) .watchdog (by decide) hs ht
    exact ⟨_, exec_mgmtWdog ho hr hh, by rw [hmgmt], by rw [hmgmt]; rfl, by rw [hmgmt], by rw [hmgmt], hwdog, hcount, htime,
      htal, hwork, hsets, hch⟩
  · exact ⟨_, exec_mgmtWdog ho hr hh, coreFault_spaced (id := 25) .watchdog (by decide) hs⟩
  · exact ⟨_, exec_mgmtLockstep ha, coreFault_spaced (id := 24) .lockstep (by decide) hs⟩
  · have hexec : exec (.mgmtRestart r) s = done s := by
      refine if_neg fun h => ?_
      simp only [Bool.and_eq_true, decide_eq_true_eq, Bool.not_eq_true'] at h
      rcases hn with hn | hn
      · exact hn h.1.2
      · exact absurd (hn.symm.trans h.2) (by decide)
    rw [hexec, done_calm s c]
  · obtain ⟨hmgmt, hcount, htime, htal, hwork, hsets, hwdog, hch⟩ := coreFault_marks (id := 24) .lockstep (by decide) hs ht
    exact ⟨_, exec_mgmtLockstep ha, by rw [hmgmt], by rw [hmgmt]; rfl, by rw [hmgmt], hwdog, htime, hwork, hcount, hch⟩
  · have hexec : exec (.mgmtRestart .watchdog) s =
        done ((s.modMgmt fun m => { m with due := none }).faultRestart .watchdog) :=
      if_pos (by rw [ha, hd, hs]; rfl)
    obtain ⟨hmgmt, hcount, htime, htal, hwork, hsets, hwdog, hch⟩ :=
      settled_faultRestart (s.modMgmt fun m => { m with due := none }) .watchdog ht
    exact ⟨_, hexec, by rw [hmgmt], by rw [hmgmt]; rfl, by rw [hmgmt]; rfl, by rw [hmgmt]; rfl, hcount, htime, hch⟩

end Sys2Proof.Machine
end

section
/-!
PROOFS. Statements that a state outside the manual's ranges or between its cases refutes: a fallen ramp that starts again
with a tone that crosses at every LCLK edge (R31, R39), an emulator whose count leaves 64 bits (R166), and a switch that
freezes at the safe level of a source that came and went within one sample (R175, R206).
-/

namespace Sys2Proof.Machine

set_option Elab.async false

/-- Exciter 0 is about to end its falling ramp at the first LCLK edge; it is wanted again, with a visible frequency of
250 MHz, whose tuning word crosses 80000000h at the very next LCLK edge. -/
def fastRestart : State :=
  { openState with
    exc := (Vector.replicate 4 {}).set 0 { state := .ramp, rising := false, step := 1, mode := 1, acc := 0xFFFFFFFF, ftw := 2 }
    regs := [(Reg.EXC_ENABLE 0, 1), (Reg.EXC_MODE 0, 1), (Reg.EXC_FREQ 0, 250000000)] }

theorem fastRestart_oneCrossing : fastRestart.OneCrossing 0 false := by
  unfold State.OneCrossing
  decide +kernel

/-- Refutes O15: the exciter that starts again at the edge's first LCLK period has made a ramp step at its second. -/
theorem not_zeroCrossingStepsTheRampAndAppliesChanges :
    ¬ Obligations.ZeroCrossingStepsTheRampAndAppliesChanges := by
  intro h
  obtain ⟨t, hexec, -, -, -, -, hquiet, -⟩ := h 0 false fastRestart fastRestart_oneCrossing
  have hshown : shown (exec (.zeroCrossing 0 false) fastRestart)
      (fun t => (t.exc[(0 : ExcId)].step, t.floor.deviceSafe, t.dev.state)) = some (1, false, .config) := by
    decide +kernel
  rw [hexec] at hshown
  obtain ⟨hstep, hsafe, hdev⟩ : t.exc[(0 : ExcId)].step = 1 ∧ t.floor.deviceSafe = false ∧ t.dev.state = .config := by
    simpa [shown] using hshown
  have hstays : ¬ fastRestart.Entered t := by
    rw [State.Entered, hsafe, hdev]
    decide
  obtain ⟨-, -, -, -, hstarts⟩ := hquiet (.inl (by decide +kernel))
  obtain ⟨-, hzero, -⟩ := hstarts (by decide +kernel) (by decide +kernel) (by decide +kernel) (by decide +kernel) hstays
  exact absurd (hzero.symm.trans hstep) (by decide)

/-- Emulator 0 follows Tally input 0, with a count one turn of the 64-bit counter above its target. -/
def wrappedCount : State :=
  { openState with
    emu := (Vector.replicate 16 {}).set 0 { started := true, valid := true, c := 2 ^ 64 }
    regs := [(Reg.EMU_ENABLE 0, 1), (Reg.EMU_SRC_KIND 0, 1), (Reg.TAL_ENABLE 0, 1)] }

theorem wrappedCount_calm : wrappedCount.Calm := by
  unfold State.Calm
  decide +kernel

/-- Refutes O36: the release that begins a catch-up takes no step, and yet wraps a count that lies outside 64 bits. -/
theorem not_emulatorsStartFollowAndLeaveSafeLevels : ¬ Obligations.EmulatorsStartFollowAndLeaveSafeLevels := by
  have hshown : shown (exec (.emuTallyRelease 0) wrappedCount) (fun t => t.emu[(0 : Fin 16)].c) = some 0 := by
    decide +kernel
  intro h
  obtain ⟨-, -, -, htally, -⟩ := h
  obtain ⟨-, -, -, -, -, hcatch⟩ := htally 0 wrappedCount wrappedCount_calm (by decide +kernel) (by decide +kernel)
    (by decide +kernel) (by decide +kernel)
  obtain ⟨t, hexec, -, -, -, hkept, -⟩ := hcatch (by decide +kernel) (by decide +kernel) (by decide +kernel)
    (by decide +kernel) (by decide +kernel) (by decide +kernel) (by decide +kernel) (by decide +kernel)
  rw [hexec] at hshown
  exact absurd (hkept.symm.trans (Option.some.inj hshown)) (by decide +kernel)

/-- Channel 0 settles on hold steps, and its next step wraps the carry count, a CORRECTED source of reaction CHANNEL-SAFE
here. Switch 0, fed by it, is invalid and keeps its level high; its safe level is low. -/
def frozenSwitch : State :=
  { openState with
    ch := (Vector.replicate 16 {}).set 0 { state := .settle, loop := { th := 0xFFFFFFFF, carry := 32767, v := 2 ^ 38 } }
    front := (Vector.replicate 16 {}).set 0 { settle := .holding 5 }
    psw := (Vector.replicate 16 {}).set 0 { started := true, level := .high }
    regs := [(Reg.PSW_ENABLE 0, 1), (Reg.PSW_INVALID 0, 0), (Reg.PSW_SEAT_GATE 0, 0), (mitPsw 0, 2),
      (Reg.FLT_CLASS 73, 0), (Reg.FLT_REACTION 73, 2)] }

/-- Refutes O37: the source's moment takes the frozen switch to its safe level, where it stays. -/
theorem not_positionSwitchesRestartAndChangeSource : ¬ Obligations.PositionSwitchesRestartAndChangeSource := by
  intro h
  obtain ⟨-, -, hsample, -⟩ := h
  obtain ⟨t, hexec, -, -, -, -, hinvalid, -⟩ := hsample 0 0 0 frozenSwitch 0 (by decide +kernel) (by decide +kernel)
    (by decide +kernel)
  have hshown : shown (exec (.sampleProcess 0 0 0) frozenSwitch)
      (fun t => (t.chValid 0, t.pswDrive 0, t.psw[(0 : Fin 16)].level)) = some (false, .follow, .low) := by
    decide +kernel
  rw [hexec] at hshown
  obtain ⟨hvalid, hdrive, hlow⟩ : t.chValid 0 = false ∧ t.pswDrive 0 = .follow ∧ t.psw[(0 : Fin 16)].level = .low := by
    simpa [shown] using hshown
  obtain ⟨-, -, -, -, hfreezes⟩ := hinvalid hvalid
  exact absurd ((hfreezes hdrive (by decide +kernel)).symm.trans hlow) (by decide +kernel)

end Sys2Proof.Machine
end

section
/-!
PROOFS. A record with ERR aligns the line count where the partner has just become PRESENT (R233, R243).
-/

namespace Sys2Proof.Machine

set_option Elab.async false

/-! ### The CRC of a record that is 0 but for its head -/

theorem crc32Reg_append (c : BitVec 32) (a b : Bytes) : crc32Reg c (a ++ b) = crc32Reg (crc32Reg c a) b := by
  simp [crc32Reg]

/-- Each register of the list follows from the one before by 60 zero bytes. -/
def crcChain : BitVec 32 → List (BitVec 32) → Bool
  | _, [] => true
  | c, x :: xs => decide (crc32Reg c (List.replicate 60 0#8) = x) && crcChain x xs

theorem crc32Reg_of_crcChain : ∀ (c : BitVec 32) (xs : List (BitVec 32)), crcChain c xs = true →
    crc32Reg c (List.replicate (60 * xs.length) 0#8) = xs.getLast?.getD c
  | c, [], _ => by simp [crc32Reg]
  | c, x :: xs, h => by
    simp only [crcChain, Bool.and_eq_true, decide_eq_true_eq] at h
    rw [List.length_cons, Nat.mul_succ, Nat.add_comm, ← List.replicate_append_replicate, crc32Reg_append, h.1,
      crc32Reg_of_crcChain x xs h.2]
    simp [List.getLast?_cons]

/-- A record of version 1 with the seat number 1, ERR and nothing else. -/
def errHead : Bytes := [1#8, 1#8, 0x80#8] ++ List.replicate 57 0#8

def errBody : Bytes := errHead ++ List.replicate 960 0#8

theorem crc32Reg_errHead : crc32Reg 0xFFFFFFFF#32 errHead = 1411880123#32 := by decide +kernel

theorem crc32_errBody : crc32 errBody = 3986190851#32 := by
  have hzeros := crc32Reg_of_crcChain 1411880123#32
    [1782989889#32, 4189830319#32, 469338283#32, 3769740436#32, 1388400230#32, 3960219126#32, 2828554284#32,
      626431682#32, 1880498242#32, 442758850#32, 3793645543#32, 2866260684#32, 2365281432#32, 3290182846#32,
      2126447053#32, 308776444#32] (by decide +kernel)
  rw [crc32, errBody, crc32Reg_append, crc32Reg_errHead]
  exact congrArg (· ^^^ 0xFFFFFFFF#32) hzeros

def errRecord : Bytes := errBody ++ leBytes 4 3986190851

theorem errRecord_ok : recordOk errRecord = true := by
  have hbody : errRecord.take 1020 = errBody := by decide +kernel
  rw [recordOk, hbody, crc32_errBody]
  decide +kernel

/-! ### The record received -/

/-- What a valid record of a partner that is no copy does. -/
theorem recordReceive_taken (k q : Fin 2) (b : Bytes) (s : State) (ha : s.alive = true) (hu : s.lnk[k].state = .up)
    (hok : recordOk b = true) (hq : s.linkPartner k = some q) (hc : s.isCopy q b = false) :
    exec (.recordReceive k b) s = done ((s.bump (Reg.LNK_REC_CNT k)).takeRecord q b) := by
  have hne : ∀ k : Fin 2, Reg.LNK_REC_CNT k ≠ Reg.RED_MODE ∧ Reg.LNK_REC_CNT k ≠ Reg.RED_LNK1_MODE := by decide
  have hmode := State.reg_bump_ne s (hne k).1
  have hlnk1 := State.reg_bump_ne s (hne k).2
  have hq' : (s.bump (Reg.LNK_REC_CNT k)).linkPartner k = some q := by
    simpa only [State.linkPartner, hmode, hlnk1] using hq
  have hc' : (s.bump (Reg.LNK_REC_CNT k)).isCopy q b = false := by
    rw [State.isCopy, hmode, hlnk1]
    exact hc
  change execRecordReceive k b s = _
  simp only [execRecordReceive, ha, hok, hq', hc', Bool.not_true, Bool.false_or, Bool.false_eq_true, if_false]
  exact if_neg (by simpa using hu)

/-- A partner that has sent five pulses and whose record is the first since it became PRESENT. -/
def newPartner : State :=
  { openState with
    lnk := Vector.replicate 2 { state := .up }
    pt := (Vector.replicate 2 {}).set 0 { seen := 5 } }

theorem newPartner_calm : newPartner.Calm := by
  unfold State.Calm
  decide +kernel

theorem newPartner_mild : ∀ id ∈ [900, 910, 912, 903, 905], newPartner.Mild id := by
  unfold State.Mild
  decide +kernel

theorem newPartner_mild_vote (n : ChId) : newPartner.Mild (chSrc n 19) := by
  unfold State.Mild
  decide +kernel +revert

/-- Refutes O46: the record's ERR leaves no offset alone, since the line count is aligned whatever the record says. -/
theorem not_recordsAreLatchedTakenInAndMissed : ¬ Obligations.RecordsAreLatchedTakenInAndMissed := by
  have hshown : shown (done ((newPartner.bump (Reg.LNK_REC_CNT 0)).takeRecord 0 errRecord))
      (fun t => t.pt[(0 : Fin 2)].offset) = some 5 := by
    decide +kernel
  have hexec : exec (.recordReceive 0 errRecord) newPartner =
      done ((newPartner.bump (Reg.LNK_REC_CNT 0)).takeRecord 0 errRecord) :=
    recordReceive_taken 0 0 errRecord newPartner (by decide +kernel) (by decide +kernel) errRecord_ok (by decide +kernel)
      (by decide +kernel)
  intro h
  obtain ⟨-, -, hreceive, -⟩ := h
  obtain ⟨-, htaken⟩ := hreceive 0 errRecord newPartner newPartner_calm (by decide +kernel) (by decide +kernel)
  obtain ⟨-, -, hnext⟩ := htaken errRecord_ok 0 (by decide +kernel)
  obtain ⟨t, ht, hrest⟩ := hnext (by decide +kernel) (by decide +kernel) (newPartner_mild _ (by decide))
    (newPartner_mild _ (by decide)) (newPartner_mild _ (by decide)) (newPartner_mild _ (by decide))
    (newPartner_mild _ (by decide)) newPartner_mild_vote
  obtain ⟨-, -, -, -, -, -, -, -, -, -, herr, -⟩ := hrest
  obtain ⟨-, -, -, -, hkept, -⟩ := herr (by decide +kernel)
  rw [← hexec, ht] at hshown
  exact absurd (hkept.symm.trans (Option.some.inj hshown)) (by decide +kernel)

end Sys2Proof.Machine
end

section
/-!
PROOFS. A claim beside a loop test whose successor waits in the same domain (R88, R235, R318).
-/

namespace Sys2Proof.Machine

set_option Elab.async false

/-- An eligible device in step 3 with a clear path, whose channel 0 feeds an emulator. The channel's test is to end as
its duration has elapsed, and a further test is PENDING behind it. -/
def behindTest : State :=
  { openState with
    dev := { openState.dev with state := .run }
    floor := { openState.floor with testOk := true }
    red := { openState.red with state := .arbitrate, step3 := true }
    pt := Vector.replicate 2 { e2 := some 0, okin := true }
    ch := (Vector.replicate 16 {}).set 0 { state := .track, inj := { state := .running, stopping := some (false, 0) } }
    sched := (Vector.replicate 17 {}).set 0 { running := some .test, pending := some .test }
    regs := [(Reg.EMU_ENABLE 0, 1), (Reg.EMU_SRC_KIND 0, 0)] }

theorem behindTest_calm : behindTest.Calm := by
  unfold State.Calm
  decide +kernel

theorem behindTest_mild : behindTest.Mild 914 := by
  unfold State.Mild
  decide +kernel

/-- Refutes O48: the test that has run its time leaves, and the one behind it is PENDING in the ACTIVE seat. -/
theorem not_claimSequencerMovesThroughItsStates : ¬ Obligations.ClaimSequencerMovesThroughItsStates := by
  have hshown : shown (exec .claimAssert behindTest) (fun t => t.ch[(0 : ChId)].inj.state) = some .pending := by
    decide +kernel
  intro h
  obtain ⟨-, -, -, hassert, -⟩ := h
  obtain ⟨hclaims, -⟩ := hassert behindTest behindTest_calm (by decide +kernel) (by decide +kernel) (by decide +kernel)
    (by decide +kernel) (by decide +kernel)
  obtain ⟨t, hexec, -, -, -, -, -, -, htests, -⟩ := hclaims (by decide +kernel) behindTest_mild
  obtain ⟨-, -, hended, -⟩ := htests 0
  obtain ⟨-, hpending⟩ := hended (by decide +kernel)
  rw [hexec] at hshown
  exact hpending (Option.some.inj hshown)

end Sys2Proof.Machine
end

section
/-!
PROOFS. Ports, device states, the store and DICT: states in which a fence waits behind an older result (R268, R271), a
freed exciter folds back (R32, R264), a store comes at the edge of a firmware block (R318), and an observed TAP answers a
challenge (R331, R334).
-/

namespace Sys2Proof.Machine

set_option Elab.async false

/-! ### A fence that waits -/

/-- Port 0 has a bank swap waiting for its sample boundary, and its last tag has been visible. -/
def waitingFence : State :=
  { openState with
    ch := (Vector.replicate 16 {}).set 0 { swap := .sample 0 }
    port := Vector.replicate 7 { role := .vendor, tagResult := 1 } }

theorem waitingFence_calm : waitingFence.Calm := by
  unfold State.Calm
  decide +kernel

theorem waitingFence_admits : waitingFence.Admits 0 Reg.FENCE_LOCAL (leBytes 4 (0#32).toNat) (Int.ofNat (0#32).toNat) :=
  admits_of (by decide +kernel) (by decide +kernel)

/-- Refutes O50: a group that is sealed without a fate takes the older tag's result away. -/
theorem not_writesGroupsAndFencesTakeEffectTogether : ¬ Obligations.WritesGroupsAndFencesTakeEffectTogether := by
  have hshown : shown (exec (.fenceLocal 0 0) waitingFence) (fun t => t.port[(0 : Port)].tagResult) = some 0 := by
    decide +kernel
  intro h
  obtain ⟨-, -, hfence, -⟩ := h
  obtain ⟨t, hexec, -, hsealed⟩ := hfence 0 0 waitingFence waitingFence_calm waitingFence_admits
  obtain ⟨-, hwaits, -⟩ := hsealed (by decide +kernel)
  obtain ⟨-, hport, -⟩ := hwaits (by decide) (by decide +kernel)
  rw [hexec] at hshown
  have hkept : t.port[(0 : Port)].tagResult = 1 := by
    rw [hport]
    decide +kernel
  exact absurd (hkept.symm.trans (Option.some.inj hshown)) (by decide)

/-! ### LEAVE_SAFE with an exciter that folds back -/

/-- A device in SAFE with no source left that holds it. Exciter 0 is held and enabled; its supply is too low for its
amplitude, and FOLDBACK0 asks for DEVICE-SAFE. -/
def safeFold : State :=
  { openState with
    dev := { openState.dev with state := .safe }
    floor := { openState.floor with deviceSafe := true }
    exc := (Vector.replicate 4 {}).set 0 { state := .held, vexc := 0 }
    regs := [(Reg.EXC_ENABLE 0, 1), (Reg.EXC_MODE 0, 1), (Reg.EXC_AMPL 0, 8000), (Reg.FLT_REACTION 577, 3)] }

theorem safeFold_calm : safeFold.Calm := by
  unfold State.Calm
  decide +kernel

theorem safeFold_mild : safeFold.Mild 913 := by
  unfold State.Mild
  decide +kernel

theorem safeFold_mild_run (n : ChId) : safeFold.Mild (chSrc n 16) := by
  unfold State.Mild
  decide +kernel +revert

theorem safeFold_admits : safeFold.Admits 0 Reg.DEV_STATE_CMD (dataAt Reg.DEV_STATE_CMD 4) 4 :=
  admits_of (by decide +kernel) (by decide +kernel)

/-- Refutes O51: LEAVE_SAFE frees an exciter whose fold-back takes the device back to SAFE. -/
theorem not_portsAndDeviceStatesFollowTheirCommands : ¬ Obligations.PortsAndDeviceStatesFollowTheirCommands := by
  have hshown : shown (exec (.leaveSafe 0) safeFold) (fun t => t.dev.state) = some .safe := by
    decide +kernel
  intro h
  obtain ⟨-, -, -, -, hstates, -⟩ := h
  obtain ⟨-, -, -, hleave⟩ := hstates 0 safeFold safeFold_calm (fun _ => safeFold_mild) safeFold_mild_run
  obtain ⟨hleaves, -⟩ := hleave safeFold_admits
  obtain ⟨t, hexec, hconfig, -⟩ := hleaves (by decide +kernel)
  rw [hexec] at hshown
  exact absurd (hconfig.symm.trans (Option.some.inj hshown)) (by decide)

/-! ### A store at the edge of a firmware block -/

/-- The MRAM domain has begun a firmware block at this very edge. -/
def blockEdge : State :=
  { openState with sched := (Vector.replicate 17 {}).set 16 { running := some .fwBlock, edge := some openState.now } }

theorem blockEdge_calm : blockEdge.Calm := by
  unfold State.Calm
  decide +kernel

theorem blockEdge_admits : blockEdge.Admits 0 Reg.DEV_STORE
    (dataAt Reg.DEV_STORE (Int.ofNat (0x65766173#32).toNat)) (Int.ofNat (0x65766173#32).toNat) :=
  admits_of (by decide +kernel) (by decide +kernel)

/-- Refutes O52: the store displaces the block that began at its edge, and the block waits instead. -/
theorem not_storeAndRestoreMoveTheWholeConfiguration : ¬ Obligations.StoreAndRestoreMoveTheWholeConfiguration := by
  have hshown : shown (exec (.devStore 0 0x65766173) blockEdge) (fun t => t.sched[mramDomain].pending) =
      some (some .fwBlock) := by
    decide +kernel
  intro h
  obtain ⟨hstore, -⟩ := h
  obtain ⟨-, hwaits, -⟩ := hstore 0 0x65766173 blockEdge blockEdge_calm blockEdge_admits
  obtain ⟨t, hexec, -, hpends⟩ := hwaits (by decide) (by decide +kernel) (by decide +kernel) (by decide +kernel)
  rw [hexec] at hshown
  have hpending : t.sched[mramDomain].pending = some .store := by rw [hpends]
  exact absurd (hpending.symm.trans (Option.some.inj hshown)) (by decide)

/-! ### A response to a challenge in OBSERVE -/

/-- The debug level is OBSERVE. -/
def observed : State := { openState with sec := { openState.sec with debug := 1 } }

theorem observed_calm : observed.Calm := by
  unfold State.Calm
  decide +kernel

/-- The DICT frame that writes 33 zero bytes to DBG's AUTH_RESPONSE. -/
def responseFrame : Bytes := hspFrame 2 0 ([0x16#8, 0x7C#8, 2#8, 0#8] ++ List.replicate 33 0)

theorem responseFrame_parse :
    hspParse responseFrame = .write 0 (Reg.AUTH_RESPONSE 6) (List.replicate 33 0) := by decide +kernel

/-- Refutes O53: the response that OBSERVE refuses counts as a failed one of its session (R331). -/
theorem not_hostSerialPortsAndTheTapAnswer : ¬ Obligations.HostSerialPortsAndTheTapAnswer := by
  have hshown : shown (exec (.dbgDictUpdate ⟨0x21, responseFrame⟩) observed) (fun t => t.reg (Reg.AUTH_FAIL_CNT 6)) =
      some 1 := by
    decide +kernel
  intro h
  obtain ⟨-, -, -, -, -, -, htap⟩ := h
  obtain ⟨-, -, -, -, -, hdict⟩ := htap 0x21 responseFrame observed _ observed_calm (by decide +kernel) rfl
  obtain ⟨-, -, -, hwrite⟩ := hdict rfl (by decide +kernel) (by decide +kernel)
  obtain ⟨t, hexec, hregs, -⟩ := hwrite _ _ _ responseFrame_parse (by decide +kernel)
  rw [hexec] at hshown
  exact absurd ((hregs (Reg.AUTH_FAIL_CNT 6) (by decide)).symm.trans (Option.some.inj hshown)) (by decide +kernel)

end Sys2Proof.Machine
end

section
/-!
PROOFS. Live update and power states: a firmware block ends while a bead commit waits (R318, R326), and QUIET ends a
calibration run whose source holds its outputs (R136, R206, R336).
-/

namespace Sys2Proof.Machine

set_option Elab.async false

/-! ### A firmware block with a commit behind it -/

/-- The MRAM domain writes the block that UPD_BEGIN has asked for, and a bead commit waits behind it. -/
def blockThenCommit : State :=
  { openState with
    sched := (Vector.replicate 17 {}).set 16 { running := some .fwBlock, pending := some .beadCommit }
    upd := { openState.upd with blocks := [⟨0, some 4096, [], .none⟩] } }

theorem blockThenCommit_calm : blockThenCommit.Calm := by
  unfold State.Calm
  decide +kernel

/-- Refutes O57: the commit that waited behind the block begins at its end and takes its copy of the beads. -/
theorem not_logAndUpdateGoThroughTheirSteps : ¬ Obligations.LogAndUpdateGoThroughTheirSteps := by
  have hshown : shown (exec (.schedActivityEnd .mram) blockThenCommit) (fun t => t.bead.writing.isSome) = some true := by
    decide +kernel
  intro h
  obtain ⟨-, -, -, hblock, -⟩ := h
  obtain ⟨t, hexec, hframe, -⟩ := hblock ⟨0, some 4096, [], .none⟩ [] 4096 blockThenCommit blockThenCommit_calm
    (by decide +kernel) (by decide +kernel) rfl rfl rfl
  rw [hexec] at hshown
  have hkept : t.bead.writing.isSome = false := by
    rw [hframe.bead]
    rfl
  exact absurd (hkept.symm.trans (Option.some.inj hshown)) (by decide)

/-! ### QUIET with a run that ends -/

/-- Channel 0 is in TRACK with a calibration run that waits for its grant. The source of the run's end latches and holds
the outputs that the channel feeds: emulator 0, whose safe level is low and whose invalid-source action is
high-impedance. -/
def endingRun : State :=
  { openState with
    ch := (Vector.replicate 16 {}).set 0 { state := .track }
    cal := (Vector.replicate 16 {}).set 0 { state := .pending }
    emu := (Vector.replicate 16 {}).set 0 { started := true }
    regs := [(Reg.EMU_ENABLE 0, 1), (Reg.EMU_INVALID 0, 1), (Reg.EMU_SEAT_GATE 0, 0), (Reg.FLT_CLASS 80, 1),
      (Reg.FLT_REACTION 80, 2), (mitEmu 0, 2)] }

theorem endingRun_calm : endingRun.Calm := by
  unfold State.Calm
  decide +kernel

theorem endingRun_mild (n : ChId) : endingRun.Mild (chSrc n 16) := by
  unfold State.Mild
  decide +kernel +revert

theorem endingRun_admits : endingRun.Admits 0 Reg.PWR_CMD (dataAt Reg.PWR_CMD 1) 1 :=
  admits_of (by decide +kernel) (by decide +kernel)

/-- Refutes O58: QUIET ends the run, whose source takes the emulator to its safe level. -/
theorem not_securityDebugAndPowerChangeByTheirConditions :
    ¬ Obligations.SecurityDebugAndPowerChangeByTheirConditions := by
  have hshown : shown (exec (.pwrQuiet 0) endingRun) (fun t => t.emu[(0 : Fin 16)].a) = some .low := by
    decide +kernel
  intro h
  obtain ⟨-, -, -, -, -, -, -, -, hpower, -⟩ := h
  obtain ⟨-, hquiet, -⟩ := hpower 0 endingRun endingRun_calm
  obtain ⟨hquiets, -⟩ := hquiet endingRun_admits
  obtain ⟨t, hexec, -, -, houts⟩ := hquiets (by decide +kernel) (by decide +kernel) (by decide +kernel)
  obtain ⟨-, hout⟩ := houts endingRun_mild
  obtain ⟨hemu, -⟩ := hout 0 (by decide +kernel) (by decide +kernel)
  obtain ⟨hcut, -⟩ := hemu (by decide +kernel) (by decide +kernel) (by decide +kernel) (by decide +kernel)
  obtain ⟨hhiz, -⟩ := hcut (by decide +kernel)
  rw [hexec] at hshown
  exact absurd (hhiz.symm.trans (Option.some.inj hshown)) (by decide)

end Sys2Proof.Machine
end

section
/-!
PROOFS. What one register write leaves of the register file, and the snapshots: an event latches every channel or is
counted as missed (R157 to R160).
-/

namespace Sys2Proof.Machine

set_option Elab.async false

/-! ### One register -/

/-- A register write changes that register alone. -/
theorem oneReg_setReg (s : State) (k : Key) (v : Int) : s.OneReg (s.setReg k v) k v :=
  ⟨State.reg_setReg s k v, fun _ hj => State.reg_setReg_ne s v fun h => hj (h ▸ List.mem_singleton.mpr rfl)⟩

/-- A count changes its counter alone. -/
theorem oneReg_bump (s : State) (k : Key) : s.OneReg (s.bump k) k (satInc 32 (s.reg k)) :=
  ⟨State.reg_bump s k, fun _ hj => State.reg_bump_ne s fun h => hj (h ▸ List.mem_singleton.mpr rfl)⟩

/-! ### Snapshot sources -/

/-- One source after a change of one source. -/
theorem modSnap_get (s : State) (k j : Fin 3) (f : Snap → Snap) :
    (s.modSnap k f).snap[j] = if k = j then f s.snap[k] else s.snap[j] := vmod_get s.snap k j f

theorem modSnap_self (s : State) (k : Fin 3) (f : Snap → Snap) : (s.modSnap k f).snap[k] = f s.snap[k] :=
  vmod_self s.snap k f

theorem modSnap_ne (s : State) {k j : Fin 3} (f : Snap → Snap) (h : j ≠ k) : (s.modSnap k f).snap[j] = s.snap[j] :=
  vmod_ne s.snap f h.symm

/-- The source as it stands once an event at `e` is latched (R158, R159). -/
def State.latched (s : State) (k : Fin 3) (e : Time32) : Snap :=
  { state := .latched, seq := s.snap[k].seq + 1, event := e, recs := Vector.ofFn fun n => s.snapRec k n e
    frame := some s.frames }

/-- An event that its source does not take is counted (R158, R160). -/
theorem snapEvent_missed {s : State} {k : Fin 3} (e : Time32)
    (h : (s.snap[k].state ≠ .armed ∧ s.reg (Reg.SNAP_MODE k) ≠ 1) ∨ s.snap[k].frame = some s.frames) :
    s.snapEvent k e = s.bump (Reg.SNAP_MISSED k) := by
  unfold State.snapEvent
  exact if_pos (by rcases h with ⟨h, h'⟩ | h <;> simp_all)

/-- An event that its source takes latches every channel, and a period moves SNAP_TIME on (R157, R158). -/
theorem snapEvent_latched {s : State} {k : Fin 3} (e : Time32)
    (h : s.snap[k].state = .armed ∨ s.reg (Reg.SNAP_MODE k) = 1) (hf : s.snap[k].frame ≠ some s.frames) :
    s.snapEvent k e =
      if k = 2 && s.reg (Reg.SNAP_PERIOD 2) ≠ 0 then
        (s.modSnap k fun _ => s.latched k e).setReg (Reg.SNAP_TIME 2)
          ((s.reg (Reg.SNAP_TIME 2) + s.reg (Reg.SNAP_PERIOD 2)) % 2 ^ 32)
      else s.modSnap k fun _ => s.latched k e := by
  have hmod : s.modSnap k (fun x => { state := .latched, seq := x.seq + 1, event := e
                                      recs := Vector.ofFn fun n : ChId => s.snapRec k n e, frame := some s.frames }) =
      s.modSnap k fun _ => s.latched k e := by
    unfold State.modSnap
    exact congrArg (fun v => { s with snap := v }) (vmod_congr s.snap k rfl)
  unfold State.snapEvent
  rw [if_neg (by rcases h with h | h <;> simp_all)]
  exact hmod ▸ rfl

/-- The pin's edge is one that SNAP_EDGE selects (R157). -/
theorem exec_syncEdge {pin : Fin 2} {rising : Bool} {s : State} (ha : s.alive = true)
    (he : s.reg (Reg.SNAP_EDGE (syncSrc pin)) = 2 ∨ s.reg (Reg.SNAP_EDGE (syncSrc pin)) = if rising then 0 else 1) :
    exec (.syncEdge pin rising) s = done (s.snapEvent (syncSrc pin) (s.timeNow - 2)) := by
  refine if_pos ?_
  cases rising <;> rcases he with he | he <;> simp [ha, he]

theorem syncSrc_ne_two (pin : Fin 2) : syncSrc pin ≠ 2 := by decide +revert

/-- A selected edge latches, or is missed. -/
theorem syncEdge_event {pin : Fin 2} {rising : Bool} {s : State} (c : s.Calm) (ha : s.alive = true)
    (he : s.reg (Reg.SNAP_EDGE (syncSrc pin)) = 2 ∨ s.reg (Reg.SNAP_EDGE (syncSrc pin)) = if rising then 0 else 1) :
    ((s.snap[syncSrc pin].state = .armed ∨ s.reg (Reg.SNAP_MODE (syncSrc pin)) = 1) →
      s.snap[syncSrc pin].frame ≠ some s.frames →
      ∃ t, exec (.syncEdge pin rising) s = .next t ∧ t = { s with snap := t.snap } ∧
        t.snap[syncSrc pin] = s.latched (syncSrc pin) (s.timeNow - 2) ∧
        ∀ k, k ≠ syncSrc pin → t.snap[k] = s.snap[k]) ∧
    (((s.snap[syncSrc pin].state ≠ .armed ∧ s.reg (Reg.SNAP_MODE (syncSrc pin)) ≠ 1) ∨
        s.snap[syncSrc pin].frame = some s.frames) →
      ∃ t, exec (.syncEdge pin rising) s = .next t ∧ t = { s with regs := t.regs } ∧
        s.OneReg t (Reg.SNAP_MISSED (syncSrc pin)) (satInc 32 (s.reg (Reg.SNAP_MISSED (syncSrc pin))))) := by
  rw [exec_syncEdge ha he]
  constructor
  · intro htakes hframe
    rw [snapEvent_latched _ htakes hframe, if_neg (by simp [syncSrc_ne_two])]
    exact ⟨_, done_quiet c.1, rfl, modSnap_self s _ _, fun k hk => modSnap_ne s _ hk⟩
  · intro hmiss
    rw [snapEvent_missed _ hmiss]
    exact ⟨_, done_quiet c.1, rfl, oneReg_bump s _⟩

/-- The instant of SNAP_TIME latches, and a period moves it on (R157). -/
theorem snapTimeLatch_latched {s : State} (c : s.Calm) (ha : s.alive = true)
    (hr : reached s.timeNow (t32 (s.reg (Reg.SNAP_TIME 2))) = true)
    (ht : s.snap[(2 : Fin 3)].state = .armed ∨ (s.reg (Reg.SNAP_MODE 2) = 1 ∧ s.reg (Reg.SNAP_PERIOD 2) ≠ 0))
    (hf : s.snap[(2 : Fin 3)].frame ≠ some s.frames) :
    ∃ t, exec .snapTimeLatch s = .next t ∧ t = { s with snap := t.snap, regs := t.regs } ∧
      t.snap[(2 : Fin 3)] = s.latched 2 (t32 (s.reg (Reg.SNAP_TIME 2))) ∧
      (s.reg (Reg.SNAP_PERIOD 2) = 0 → t.regs = s.regs) ∧
      (s.reg (Reg.SNAP_PERIOD 2) ≠ 0 →
        s.OneReg t (Reg.SNAP_TIME 2) ((s.reg (Reg.SNAP_TIME 2) + s.reg (Reg.SNAP_PERIOD 2)) % 2 ^ 32)) := by
  obtain ⟨e, he⟩ : ∃ e, e = t32 (s.reg (Reg.SNAP_TIME 2)) := ⟨_, rfl⟩
  have hspent : s.snapSpent e = false := by
    unfold State.snapSpent
    rcases ht with ht | ⟨-, hp⟩
    · rw [ht, Bool.and_assoc]
      exact Bool.and_false _
    · rw [decide_eq_false hp]
      rfl
  have hexec : exec .snapTimeLatch s = done (s.snapEvent 2 e) := by
    rw [he] at hspent ⊢
    exact if_pos (by rw [ha, hr, hspent]; rfl)
  have hevent := snapEvent_latched (s := s) (k := 2) e (ht.imp_right And.left) hf
  rw [← he, hexec]
  by_cases hp : s.reg (Reg.SNAP_PERIOD 2) = 0
  · rw [if_neg (by simp [hp])] at hevent
    rw [hevent]
    exact ⟨_, done_quiet c.1, rfl, modSnap_self s _ _, fun _ => rfl, fun h => absurd hp h⟩
  · rw [if_pos (by simp [hp])] at hevent
    rw [hevent]
    exact ⟨_, done_quiet c.1, rfl, modSnap_self s 2 _, fun h => absurd h hp, fun _ => oneReg_setReg _ _ _⟩

/-- SNAP_ARM arms its source (R158). -/
theorem snapArm_armed {p : Port} {k : Fin 3} {s : State} (c : s.Calm) (ha : s.AdmitsCmd p (Reg.SNAP_ARM k)) :
    ∃ t, exec (.snapArm p k) s = .next t ∧ t = { s.beat p with snap := t.snap } ∧
      t.snap[k] = { s.snap[k] with state := .armed } ∧ ∀ j, j ≠ k → t.snap[j] = s.snap[j] :=
  ⟨_, hostWrite_next ha rfl c.1, rfl, modSnap_self _ k _, fun _ hj => modSnap_ne (s.beat p) _ hj⟩

/-- A setting that changes returns its source to IDLE (R160). -/
theorem snapConfigWrite_visible {p : Port} {k : Fin 3} {o : SnapObj} {v : Int} {s : State} (c : s.Calm)
    (ha : s.Admits p (snapKey o k) (dataAt (snapKey o k) v) v) :
    ∃ t, exec (.snapConfigWrite p k o v) s = .next t ∧ t = { s.beat p with regs := t.regs, snap := t.snap } ∧
      s.OneReg t (snapKey o k) v ∧ (∀ j, j ≠ k → t.snap[j] = s.snap[j]) ∧
      t.snap[k] = if s.reg (snapKey o k) = v then s.snap[k] else { s.snap[k] with state := .idle } := by
  by_cases hv : s.reg (snapKey o k) = v
  · refine ⟨(s.beat p).setReg (snapKey o k) v, hostWrite_next ha (congrArg Except.ok (if_pos hv)) c.1, rfl,
      oneReg_setReg (s.beat p) _ v, fun _ _ => rfl, (if_pos hv).symm⟩
  · refine ⟨((s.beat p).setReg (snapKey o k) v).modSnap k fun x => { x with state := .idle },
      hostWrite_next ha (congrArg Except.ok (if_neg hv)) c.1, rfl, oneReg_setReg (s.beat p) _ v,
      fun _ hj => modSnap_ne _ _ hj, ?_⟩
    rw [if_neg hv]
    exact modSnap_self _ _ _

/-- Settles O35: a taken event is `State.latched`, any other one count. -/
theorem snapshotsLatchMissAndReturnToIdle : Obligations.SnapshotsLatchMissAndReturnToIdle := by
  refine ⟨fun pin rising s c ha he => syncEdge_event c ha he, fun s c ha hr ht hf => ?_,
    fun p k s c ha => snapArm_armed c ha, fun p k o v s c ha => snapConfigWrite_visible c ha⟩
  obtain ⟨t, hexec, hkept, hlatched, hstays, hmoves⟩ := snapTimeLatch_latched c ha hr ht hf
  refine ⟨t, hexec, hkept, by rw [hlatched]; rfl, by rw [hlatched]; rfl, by rw [hlatched]; rfl, fun n => ?_, hstays, hmoves⟩
  rw [hlatched]
  exact Vector.getElem_ofFn n.isLt

end Sys2Proof.Machine
end

section
/-!
PROOFS. Visible writes, and the front end: a sense sample within a carrier period (R45), the hatband comparators and the
Glove drivers (R50, R62, R101).
-/

namespace Sys2Proof.Machine

set_option Elab.async false

/-! ### Visible writes (R258, R270) -/

/-- A visible write whose check passes takes effect at once. -/
theorem effVisible_ok {check : State → (Key → Int) → Key → Int → Except Nak Unit}
    {apply : State → Key → Int → Int → State} {k : Key} {v : Int} {s : State}
    (h : check s (overlay s.reg [(k, v)]) k v = .ok ()) :
    effVisible check apply k v s = .ok (apply (s.setReg k v) k (s.reg k) v).cfgGen := by
  rw [effVisible, h]
  rfl

/-- What a write of `k` leaves of the register file once CFG_GEN has moved on. -/
theorem visible_cfgGen {s u : State} {k : Key} {v : Int} (hk : k ≠ Reg.CFG_GEN)
    (hu : ∀ j, u.reg j = (s.setReg k v).reg j) : s.Visible u.cfgGen k v := by
  refine ⟨?_, ?_, fun j hjk hjg => ?_⟩
  · rw [State.cfgGen, State.reg_setReg_ne _ _ hk.symm, hu, State.reg_setReg]
  · rw [State.cfgGen, State.reg_setReg, hu, State.reg_setReg_ne _ _ hk]
  · rw [State.cfgGen, State.reg_setReg_ne _ _ hjg.symm, hu, State.reg_setReg_ne _ _ hjk.symm]

/-! ### The sense sample (R45) -/

theorem modKelvin_self (s : State) (e : ExcId) (f : Kelvin → Kelvin) : (s.modKelvin e f).kelvin[e] = f s.kelvin[e] :=
  vmod_self s.kelvin e f

theorem modKelvin_ne (s : State) {e d : ExcId} (f : Kelvin → Kelvin) (h : d ≠ e) :
    (s.modKelvin e f).kelvin[d] = s.kelvin[d] := vmod_ne s.kelvin f h.symm

/-- The sense window with one more sample in front (R45). -/
def State.senseWin (s : State) (e : ExcId) (x : BitVec 16) : List Sense :=
  (({ x := divRound (x.toInt * (if s.reg (Reg.EXC_SENSE_RANGE e) = 0 then 12000000000 else 30000000000)) 32768
      phi := s.phiAt e (lateSlot 0) } : Sense) :: s.kelvin[e].win).take (senseWindow s.exc[e].freq)

/-- Window and count of a sense sample within a carrier period. -/
def State.senseTaken (s : State) (e : ExcId) (x : BitVec 16) : State :=
  s.modKelvin e fun k => { k with win := s.senseWin e x, n := k.n + 1 }

/-- What an estimate leaves of its exciter's sense window: the one in use follows while the carrier is there (R45). -/
def State.senseMark (s : State) (e : ExcId) (eh : Int) (psi : BitVec 32) (k : Kelvin) : Kelvin :=
  let ex := s.senseExpected e
  let inside : Bool := Int.ofNat (eh - ex).natAbs * 65536 ≤ ex * s.reg (Reg.EXC_SENSE_WIN e)
  let above : Bool := ex ≤ eh * 10
  { k with
    anyIn := k.anyIn || inside, anyAbove := k.anyAbove || above, anyOut := k.anyOut || !inside
    okE := if above then eh else k.okE, okPsi := if above then psi else k.okPsi
    ehat := if k.lost then k.ehat else eh, psi := if k.lost then k.psi else psi }

/-- The estimate that follows a sense sample, and what reports it (R45). -/
def State.senseShown (s : State) (e : ExcId) (eh : Int) (psi : BitVec 32) : State :=
  let s := s.modKelvin e (s.senseMark e eh psi)
  (s.setReg (Reg.EXC_SENSE_AMPL e) (clampI 0 (2 ^ 32 - 1) (divRound eh 1000))).setReg (Reg.EXC_SENSE_PHASE e)
    (Int.ofNat (psi.toNat / 256))

/-- Without a wrap of the accumulator a sample enters the window, and the estimate follows. -/
theorem senseSample_within {s : State} {e : ExcId} (x : BitVec 16) (hv : s.sup.vanaHold = false)
    (hw : (s.kelvin[e].win.head?.all fun y => y.phi.toNat ≤ (s.phiAt e (lateSlot 0)).toNat) = true) :
    s.senseSample e x = (s.senseTaken e x).senseShown e (senseOf (senseWindow s.exc[e].freq) (s.senseWin e x)).1
      (senseOf (senseWindow s.exc[e].freq) (s.senseWin e x)).2 := by
  unfold State.senseSample State.senseTaken State.senseWin
  cases hwin : s.kelvin[e].win with
  | nil =>
    simp only [hwin, hv, Bool.false_and, Bool.false_eq_true, if_false]
    rfl
  | cons y ys =>
    rw [hwin] at hw
    have hphi : ¬ (s.phiAt e (lateSlot 0)).toNat < y.phi.toNat := by simpa using hw
    simp only [hwin, hv, decide_eq_false hphi, Bool.false_and, Bool.false_eq_true, if_false]
    rfl

theorem SENSE_AMPL_ne_PHASE (e : ExcId) : Reg.EXC_SENSE_PHASE e ≠ Reg.EXC_SENSE_AMPL e := by decide +revert

/-- What the shown estimate leaves of the registers. -/
theorem senseShown_reg (s : State) (e : ExcId) (eh : Int) (psi : BitVec 32) :
    (s.senseShown e eh psi).reg (Reg.EXC_SENSE_AMPL e) = clampI 0 (2 ^ 32 - 1) (divRound eh 1000) ∧
    (s.senseShown e eh psi).reg (Reg.EXC_SENSE_PHASE e) = Int.ofNat (psi.toNat / 256) ∧
    s.SameRegs (s.senseShown e eh psi) [Reg.EXC_SENSE_AMPL e, Reg.EXC_SENSE_PHASE e] := by
  unfold State.senseShown
  refine ⟨?_, State.reg_setReg _ _ _, fun j hj => ?_⟩
  · rw [State.reg_setReg_ne _ _ (SENSE_AMPL_ne_PHASE e), State.reg_setReg]
  · rw [List.mem_cons, List.mem_singleton, not_or] at hj
    rw [State.reg_setReg_ne _ _ (Ne.symm hj.2), State.reg_setReg_ne _ _ (Ne.symm hj.1)]
    rfl

/-- What the shown estimate leaves of the sense windows. -/
theorem senseShown_kelvin (s : State) (e : ExcId) (eh : Int) (psi : BitVec 32) :
    (s.senseShown e eh psi).kelvin[e] = s.senseMark e eh psi s.kelvin[e] ∧
    ∀ d, d ≠ e → (s.senseShown e eh psi).kelvin[d] = s.kelvin[d] :=
  ⟨modKelvin_self s e _, fun _ hd => modKelvin_ne s _ hd⟩

/-- Settles O14: the sample is `State.senseTaken`, the estimate `State.senseShown`. -/
theorem senseSampleEntersTheWindowAndTheEstimate : Obligations.SenseSampleEntersTheWindowAndTheEstimate := by
  intro e x s c hl hv hw
  obtain ⟨r, hr⟩ : ∃ r, r = senseOf (senseWindow s.exc[e].freq) (s.senseWin e x) := ⟨_, rfl⟩
  have hexec : exec (.senseEstimate e x) s = .next ((s.senseTaken e x).senseShown e r.1 r.2) := by
    rw [hr, ← senseSample_within x hv hw]
    refine (if_pos hl).trans (done_quiet ?_)
    rw [senseSample_within x hv hw]
    exact c.1
  have htaken : (s.senseTaken e x).kelvin[e] = { s.kelvin[e] with win := s.senseWin e x, n := s.kelvin[e].n + 1 } :=
    modKelvin_self s e _
  obtain ⟨hampl, hphase, hregs⟩ := senseShown_reg (s.senseTaken e x) e r.1 r.2
  obtain ⟨hmark, hother⟩ := senseShown_kelvin (s.senseTaken e x) e r.1 r.2
  rw [htaken] at hmark
  have hwin : ((s.senseTaken e x).senseShown e r.1 r.2).kelvin[e].win = s.senseWin e x := congrArg Kelvin.win hmark
  refine ⟨_, hexec, rfl, fun d hd => (hother d hd).trans (modKelvin_ne s _ hd), hwin, congrArg Kelvin.n hmark, fun hlost => ?_, fun hlost => ?_,
    ?_, ?_, hregs⟩
  · have hn : ¬ s.kelvin[e].lost = true := by rw [hlost]; decide
    rw [hwin, ← hr, hmark]
    exact Prod.ext (if_neg hn) (if_neg hn)
  · rw [hmark]
    exact ⟨if_pos hlost, if_pos hlost⟩
  · rw [hwin, ← hr]; exact hampl
  · rw [hwin, ← hr]; exact hphase

/-! ### Hatband and Glove drivers (R50, R62) -/

theorem modWatch_self (s : State) (n : ChId) (f : Watch → Watch) : (s.modWatch n f).watch[n] = f s.watch[n] :=
  vmod_self s.watch n f

theorem modWatch_ne (s : State) {n m : ChId} (f : Watch → Watch) (h : m ≠ n) : (s.modWatch n f).watch[m] = s.watch[m] :=
  vmod_ne s.watch f h.symm

theorem modGlv_self (s : State) (g : Fin 8) (f : Glv → Glv) : (s.modGlv g f).glv[g] = f s.glv[g] := vmod_self s.glv g f

theorem modGlv_ne (s : State) {g h : Fin 8} (f : Glv → Glv) (hh : h ≠ g) : (s.modGlv g f).glv[h] = s.glv[h] :=
  vmod_ne s.glv f hh.symm

theorem glvMode_ne_CFG_GEN (g : Fin 8) : glvMode g ≠ Reg.CFG_GEN := by decide +revert

/-- An overload turns its driver high-impedance and raises its source (R62). -/
theorem glvOverload_marks {g : Fin 8} {s : State} (c : s.Calm) (ha : s.alive = true) (hm : s.reg (glvMode g) ≠ 0)
    (ho : s.glv[g].overload = false) (mild : s.Mild (glvSrc g)) :
    ∃ t, exec (.glvOverload g) s = .next t ∧ RaiseFrame { s with glv := t.glv } t ∧ t.glv[g].overload = true ∧
      t.glvOut g = .hiz ∧ ∀ h, h ≠ g → t.glv[h] = s.glv[h] := by
  obtain ⟨u, hu⟩ : ∃ u, u = s.modGlv g fun x => { x with overload := true } := ⟨_, rfl⟩
  have hcalm : u.Calm := hu ▸ c
  have hmild : u.Mild (glvSrc g) := hu ▸ mild
  have hframe := pulse_frame u (glvSrc g)
  have hexec : exec (.glvOverload g) s = done (u.pulse (glvSrc g)) := by
    rw [hu]
    exact if_pos (by rw [ha, ho]; simp [hm])
  have hmark : (u.pulse (glvSrc g)).glv[g].overload = true := by
    rw [hframe.glv, hu, modGlv_self]
  refine ⟨_, hexec.trans (done_calm _ (pulse_calm u _ (.inr hmild) hcalm)), ?_, hmark, if_pos (by rw [hmark]; simp),
    fun h hh => by rw [hframe.glv, hu, modGlv_ne s _ hh]⟩
  rw [hframe.glv, hu]
  exact pulse_frame _ _

/-- A GLV_MODE write is visible and ends an overload whose source is IDLE (R62). -/
theorem glvModeWrite_visible {p : Port} {g : Fin 8} {v : Int} {s : State} (c : s.Calm)
    (ha : s.Admits p (glvMode g) (dataAt (glvMode g) v) v) :
    ∃ t, exec (.glvModeWrite p g v) s = .next t ∧ s.Visible t (glvMode g) v ∧
      t = { s.beat p with regs := t.regs, glv := t.glv } ∧ (∀ h, h ≠ g → t.glv[h] = s.glv[h]) ∧
      t.glv[g].overload = (s.glv[g].overload && !decide ((s.src (glvSrc g)).state = .idle)) := by
  have heff := effVisible_ok (check := noCheck) (apply := applyGlvMode g) (k := glvMode g) (v := v) (s := s.beat p) rfl
  obtain ⟨u, hu⟩ : ∃ u, u = applyGlvMode g ((s.beat p).setReg (glvMode g) v) (glvMode g) ((s.beat p).reg (glvMode g)) v :=
    ⟨_, rfl⟩
  rw [← hu] at heff
  by_cases hi : (s.src (glvSrc g)).state = .idle
  · have hset : u = ((s.beat p).setReg (glvMode g) v).modGlv g fun x => { x with overload := false } := hu.trans (if_pos hi)
    refine ⟨u.cfgGen, hostWrite_next ha heff (by rw [hset]; exact c.1), visible_cfgGen (glvMode_ne_CFG_GEN g) ?_, ?_,
      fun h hh => ?_, ?_⟩
    · intro j; rw [hset]; rfl
    · rw [hset]; rfl
    · rw [hset]; exact modGlv_ne _ _ hh
    · rw [hset, decide_eq_true hi, Bool.not_true, Bool.and_false]
      exact congrArg Glv.overload (modGlv_self _ g _)
  · have hset : u = (s.beat p).setReg (glvMode g) v := hu.trans (if_neg hi)
    refine ⟨u.cfgGen, hostWrite_next ha heff (by rw [hset]; exact c.1), visible_cfgGen (glvMode_ne_CFG_GEN g) ?_, ?_,
      fun h _ => ?_, ?_⟩
    · intro j; rw [hset]; rfl
    · rw [hset]; rfl
    · rw [hset]; rfl
    · rw [hset, decide_eq_false hi, Bool.not_false, Bool.and_true]
      rfl

/-- Settles O21: a trip and a release change one comparator's marks, an overload and GLV_MODE one driver's. -/
theorem hatbandsAndGloveDriversKeepTheirMarks : Obligations.HatbandsAndGloveDriversKeepTheirMarks := by
  refine ⟨fun n pin above s c hl hv => ⟨?_, ?_⟩, fun g s c ha hm ho mild => glvOverload_marks c ha hm ho mild,
    fun p g v s c ha => glvModeWrite_visible c ha⟩
  · exact ⟨_, (if_pos (by rw [hl, hv]; rfl)).trans (done_quiet (s := s.modWatch n _) c.1), rfl,
      fun m hm => modWatch_ne s _ hm, modWatch_self s n _⟩
  · exact ⟨_, (if_pos (by rw [hl, hv]; rfl)).trans (done_quiet (s := s.modWatch n _) c.1), rfl,
      fun m hm => modWatch_ne s _ hm, modWatch_self s n _⟩

end Sys2Proof.Machine
end

section
/-!
PROOFS. The seat's states, and what a partner's lines move of them: a claim line that rises, is held and falls, and the
OKAY line (R231, R232, R235, R237, R246).
-/

namespace Sys2Proof.Machine

set_option Elab.async false

/-! ### Sources that a change leaves as they are (R217) -/

/-- Where no class, reaction or route changes, the visible configuration stays. -/
theorem fltVisible_congr {s t : State} {id : Nat} (hid : id < 1280)
    (h : ∀ k : Nat, 0x500000 ≤ k → k < 0x550000 → t.reg k = s.reg k) : t.fltVisible id = s.fltVisible id := by
  unfold State.fltVisible State.regN State.flag Reg.FLT_CLASS Reg.FLT_REACTION Reg.FLT_OKAY_ROUTE
  rw [h (0x500002 + 0x100 * id) (by omega) (by omega), h (0x500003 + 0x100 * id) (by omega) (by omega),
    h (0x500004 + 0x100 * id) (by omega) (by omega)]

/-- A source that has been left alone keeps its reaction. -/
theorem mild_congr {s t : State} {id : Nat} (hs : t.src id = s.src id) (hv : t.fltVisible id = s.fltVisible id)
    (m : s.Mild id) : t.Mild id := by
  unfold State.Mild State.fltNow at m ⊢
  rw [hs, hv]
  exact m

theorem RaiseFrame.mild {s t : State} (h : RaiseFrame s t) {id : Nat} (hid : id < 1280) (hs : t.src id = s.src id)
    (m : s.Mild id) : t.Mild id :=
  mild_congr hs (fltVisible_congr hid fun k _ hk => h.reg k fun hl => absurd (hl ▸ hk) (by decide)) m

section
variable (s : State) {k : Nat} (hk : k < 0x500000 ∨ 0x550000 ≤ k)
include hk

theorem fltVisible_setReg (v : Int) {id : Nat} (hid : id < 1280) : (s.setReg k v).fltVisible id = s.fltVisible id :=
  fltVisible_congr hid fun j hlo hhi => State.reg_setReg_ne s v fun h => by
    have hj : k = j := h
    omega

/-- A write outside the sources' configuration asks for no DEVICE-SAFE entry. -/
theorem setReg_calm (v : Int) (c : s.Calm) : (s.setReg k v).Calm :=
  calm_of (s := s) rfl rfl (.inl rfl) (fltVisible_setReg s hk v (by decide)) c

theorem bump_calm (c : s.Calm) : (s.bump k).Calm := setReg_calm s hk _ c

theorem setReg_mild (v : Int) {id : Nat} (hid : id < 1280) (m : s.Mild id) : (s.setReg k v).Mild id :=
  mild_congr (s := s) rfl (fltVisible_setReg s hk v hid) m

theorem bump_mild {id : Nat} (hid : id < 1280) (m : s.Mild id) : (s.bump k).Mild id := setReg_mild s hk _ hid m

end

theorem dropSrc_src_ne (s : State) {id j : Nat} (h : j ≠ id) : (s.dropSrc id).src j = s.src j := by
  unfold State.dropSrc
  extract_lets f
  split
  · rfl
  · split <;> exact src_setSrc_ne s _ h.symm

theorem gone_src_ne (s : State) {id j : Nat} (h : j ≠ id) : (s.gone id).src j = s.src j := by
  unfold State.gone
  split
  · rfl
  · rw [releaseScopes_src, dropSrc_src_ne _ h, src_setSrc_ne s _ h.symm]

theorem pulse_src_ne (s : State) {id j : Nat} (h : j ≠ id) (ho : j ≠ 1029) : (s.pulse id).src j = s.src j := by
  rw [State.pulse, gone_src_ne _ h]
  exact raiseWith_src_ne s _ h ho

theorem level_src_ne (s : State) {id j : Nat} (b : Bool) (h : j ≠ id) (ho : j ≠ 1029) :
    (s.level id b).src j = s.src j := by
  cases b with
  | false => exact gone_src_ne s h
  | true => exact raiseWith_src_ne s _ h ho

/-! ### A new seat state (R235, R320) -/

/-- A new seat state changes the seat alone, and is logged. -/
theorem setSeat_frame (s : State) (x : SeatState) : RaiseFrame { s with red := (s.setSeat x).red } (s.setSeat x) := by
  unfold State.setSeat
  extract_lets old
  split
  · exact RaiseFrame.refl s
  · exact { logKind_frame (s.modRed fun r => { r with state := x }) _ _ _ with red := rfl }

theorem setSeat_red (s : State) (x : SeatState) :
    (s.setSeat x).red = { s.red with state := x, err := (s.setSeat x).red.err } := by
  unfold State.setSeat
  extract_lets old
  split
  · next h => rw [← h]
  · exact (logKind_frame (s.modRed fun r => { r with state := x }) _ _ _).red

theorem setSeat_calm (s : State) (x : SeatState) (c : s.Calm) : (s.setSeat x).Calm := by
  unfold State.setSeat
  extract_lets old
  split
  · exact c
  · exact logKind_calm (s.modRed fun r => { r with state := x }) _ _ _ c

theorem setSeat_regs (s : State) (x : SeatState) : s.SameRegs (s.setSeat x) [Reg.FC_LOG_LOST] := fun j hj =>
  (setSeat_frame s x).reg j fun h => hj (h ▸ List.mem_singleton.mpr rfl)

theorem setSeat_src (s : State) (x : SeatState) {id : Nat} (h : id ≠ 1029) : (s.setSeat x).src id = s.src id := by
  unfold State.setSeat
  extract_lets old
  split
  · rfl
  · exact logKind_src (s := s.modRed fun r => { r with state := x }) _ _ _ (.inl h)

/-- No seat state decides a source's reaction. -/
theorem setSeat_mild (s : State) (x : SeatState) {id : Nat} (hid : id < 1280) (h : id ≠ 1029) (m : s.Mild id) :
    (s.setSeat x).Mild id :=
  (setSeat_frame s x).mild hid (setSeat_src s x h) m

/-! ### The end of an attempt (R235) -/

/-- The seat once an attempt has ended in `x`. -/
theorem endAttempt_red (s : State) (x : SeatState) : ∃ b, (s.endAttempt x).red =
    { s.red with state := x, step3 := false, sawHigher := false, attempt := false, err := b } := by
  unfold State.endAttempt
  extract_lets u v
  obtain ⟨b, hb⟩ : ∃ b, u.red = { s.red with state := x, err := b } := ⟨_, setSeat_red s x⟩
  have hv : v.red = { s.red with state := x, step3 := false, sawHigher := false, err := b } := by
    change { u.red with step3 := false, sawHigher := false } = _
    rw [hb]
  split
  · obtain ⟨w, hw⟩ : ∃ w, w = (v.modRed fun r => { r with attempt := false }).bump Reg.RED_ABANDON_CNT := ⟨_, rfl⟩
    have hwr : w.red = { v.red with attempt := false } := by rw [hw]; rfl
    rw [← hw]
    refine ⟨(w.pulse 913).red.err, (pulse_frame w 913).red.trans ?_⟩
    rw [hwr, hv]
  · next h =>
    rw [hv, Bool.not_eq_true] at h
    have hs : s.red.attempt = false := h
    exact ⟨b, by rw [hv, ← hs]⟩

/-- An ended attempt changes the seat and its count. -/
theorem endAttempt_frame (s : State) (x : SeatState) :
    RaiseFrame { s with red := (s.endAttempt x).red, regs := (s.endAttempt x).regs } (s.endAttempt x) ∧
    s.SameRegs (s.endAttempt x) [Reg.RED_ABANDON_CNT, Reg.FC_LOG_LOST] := by
  obtain ⟨u, hu⟩ : ∃ u, u = s.setSeat x := ⟨_, rfl⟩
  have hseat : RaiseFrame { s with red := u.red } u := hu ▸ setSeat_frame s x
  unfold State.endAttempt
  rw [← hu]
  extract_lets u' v
  split
  · obtain ⟨w, hw⟩ : ∃ w, w = (v.modRed fun r => { r with attempt := false }).bump Reg.RED_ABANDON_CNT := ⟨_, rfl⟩
    rw [← hw]
    have hall : RaiseFrame { s with red := w.red, regs := w.regs } w := by
      rw [hw]
      exact { hseat with red := rfl, reg := fun _ _ => rfl, wf := id }
    refine ⟨{ hall.trans (pulse_frame w 913) with red := rfl, reg := fun _ _ => rfl, wf := id }, fun j hj => ?_⟩
    rw [List.mem_cons, List.mem_singleton, not_or] at hj
    rw [(pulse_frame w 913).reg j hj.2, hw, State.reg_bump_ne _ (Ne.symm hj.1)]
    exact hseat.reg j hj.2
  · exact ⟨{ hseat with red := rfl, reg := fun _ _ => rfl, wf := id }, fun j hj => hseat.reg j fun h => hj (by simp [h])⟩

theorem endAttempt_calm (s : State) (x : SeatState) (c : s.Calm) (m : s.red.attempt = true → s.Mild 913) :
    (s.endAttempt x).Calm := by
  unfold State.endAttempt
  extract_lets u v
  have hu : u.red = { s.red with state := x, err := u.red.err } := setSeat_red s x
  have hv : v.Calm := setSeat_calm s x c
  split
  · next h =>
    have hs : s.red.attempt = true := by
      have hattempt : v.red.attempt = u.red.attempt := rfl
      rw [hattempt, hu] at h
      exact h
    have hmild : v.Mild 913 := setSeat_mild s x (by decide) (by decide) (m hs)
    exact pulse_calm _ _ (.inr (bump_mild (v.modRed fun r => { r with attempt := false }) (by decide) (by decide) hmild))
      (bump_calm (v.modRed fun r => { r with attempt := false }) (by decide) hv)
  · exact hv

/-! ### A partner's lines (R231, R232) -/

theorem modPt_self (s : State) (q : Fin 2) (f : Partner → Partner) : (s.modPt q f).pt[q] = f s.pt[q] :=
  vmod_self s.pt q f

theorem modPt_ne (s : State) {q j : Fin 2} (f : Partner → Partner) (h : j ≠ q) : (s.modPt q f).pt[j] = s.pt[j] :=
  vmod_ne s.pt f h.symm

/-- Without a running sequencer or that partner only the level moves (R231). -/
theorem clmInHigh_level {q : Fin 2} {s : State} (c : s.Calm) (h : s.alive = false ∨ s.hasPartner q = false) :
    ∃ t, exec (.clmInHigh q) s = .next t ∧ t = { s with pt := t.pt } ∧ t.pt[q] = { s.pt[q] with line := true } ∧
      ∀ j, j ≠ q → t.pt[j] = s.pt[j] := by
  have hn : (!s.alive || !s.hasPartner q) = true := by rcases h with h | h <;> simp [h]
  exact ⟨_, (if_pos hn).trans (done_quiet (s := s.modPt q _) c.1), rfl, modPt_self s q _, fun _ hj => modPt_ne s _ hj⟩

/-- The line of a partner as it has risen (R232). -/
def State.risen (s : State) (q : Fin 2) : State :=
  s.modPt q fun x => { x with line := true, counted := true, seen := x.seen + 1, riseAt := s.ext }

theorem exec_clmInHigh {q : Fin 2} {s : State} (ha : s.alive = true) (hp : s.hasPartner q = true) :
    exec (.clmInHigh q) s =
      if s.red.state ≠ .arbitrate then done (s.risen q)
      else if s.red.step3 then
        done (((s.risen q).setSeat .backoff).modRed fun r => { r with step3 := false, sawHigher := false })
      else if s.partnerSeat q < s.seatNo then done ((s.risen q).modRed fun r => { r with sawHigher := true })
      else done (s.risen q) :=
  if_neg (by rw [ha, hp]; decide)

/-- A rising claim line counts; in ARBITRATE it decides as R235 says. -/
theorem clmInHigh_rises {q : Fin 2} {s : State} (c : s.Calm) (ha : s.alive = true) (hp : s.hasPartner q = true) :
    ∃ t, exec (.clmInHigh q) s = .next t ∧ RaiseFrame { s with pt := t.pt, red := t.red } t ∧
      t.pt = (s.risen q).pt ∧ (s.red.state ≠ .arbitrate → t.red = s.red) ∧
      (s.red.state = .arbitrate → s.red.step3 = true → t.red.state = .backoff ∧ t.red.clmOut = s.red.clmOut) ∧
      (s.red.state = .arbitrate → s.red.step3 = false →
        t.red = { s.red with sawHigher := s.red.sawHigher || decide (s.partnerSeat q < s.seatNo) }) := by
  rw [exec_clmInHigh ha hp]
  by_cases hst : s.red.state = .arbitrate
  · rw [if_neg (not_not.mpr hst)]
    cases h3 : s.red.step3 with
    | true =>
      have hseat := setSeat_frame (s.risen q) .backoff
      have hst' : ((s.risen q).setSeat .backoff).red.state = .backoff ∧
          ((s.risen q).setSeat .backoff).red.clmOut = s.red.clmOut := by
        rw [setSeat_red]
        exact ⟨rfl, rfl⟩
      refine ⟨_, done_quiet (setSeat_calm (s.risen q) .backoff c).1, { hseat with red := rfl, pt := rfl }, hseat.pt,
        fun h => absurd hst h, fun _ _ => hst', fun _ h => absurd h (by decide)⟩
    | false =>
      rw [if_neg (by decide)]
      by_cases hlt : s.partnerSeat q < s.seatNo
      · rw [if_pos hlt]
        refine ⟨_, done_quiet (s := (s.risen q).modRed _) c.1, RaiseFrame.refl _, rfl, fun h => absurd hst h,
          fun _ h => absurd h (by decide), fun _ _ => ?_⟩
        rw [decide_eq_true hlt, Bool.or_true]
        rfl
      · rw [if_neg hlt]
        refine ⟨_, done_quiet (s := s.risen q) c.1, RaiseFrame.refl _, rfl, fun _ => rfl,
          fun _ h => absurd h (by decide), fun _ _ => ?_⟩
        rw [decide_eq_false hlt, Bool.or_false]
        rfl
  · rw [if_pos hst]
    exact ⟨_, done_quiet (s := s.risen q) c.1, RaiseFrame.refl _, rfl, fun _ => rfl, fun h => absurd h hst,
      fun h => absurd h hst⟩

/-- A partner as CLAIMED: its level is no pulse, yielding ends, and in RUN the orphan rule is armed (R232, R236, R237). -/
def State.claimedBy (s : State) (q : Fin 2) : State :=
  (s.modPt q fun x =>
    { x with
      claimed := true, counted := false, seen := if x.counted then x.seen - 1 else x.seen
      origin := max x.riseAt s.red.runEntry }).modRed fun r =>
    { r with yielding := false, armed := r.armed || decide (s.dev.state = .run) }

/-- A level held for 100 ns is a claim, and ends an attempt (R232, R235). -/
theorem partnerClaimed_marks {q : Fin 2} {s : State} (c : s.Calm) (ha : s.alive = true) (hp : s.hasPartner q = true)
    (hl : s.pt[q].line = true) (hc : s.pt[q].claimed = false)
    (hm : s.attempting = true → s.red.attempt = true → s.Mild 913) :
    ∃ t, exec (.partnerClaimed q) s = .next t ∧ RaiseFrame { s with pt := t.pt, red := t.red, regs := t.regs } t ∧
      t.pt = (s.claimedBy q).pt ∧ t.red.yielding = false ∧ t.red.clmOut = s.red.clmOut ∧
      t.red.armed = (s.red.armed || decide (s.dev.state = .run)) ∧
      s.SameRegs t [Reg.RED_ABANDON_CNT, Reg.FC_LOG_LOST] ∧
      t.red.state = if s.attempting then .standby else s.red.state := by
  have hexec : exec (.partnerClaimed q) s =
      done (if s.attempting then (s.claimedBy q).endAttempt .standby else s.claimedBy q) :=
    if_pos (by rw [ha, hp, hl, hc]; rfl)
  rw [hexec]
  by_cases hat : s.attempting = true
  · obtain ⟨hframe, hregs⟩ := endAttempt_frame (s.claimedBy q) .standby
    obtain ⟨b, hred⟩ := endAttempt_red (s.claimedBy q) .standby
    rw [if_pos hat, if_pos hat]
    exact ⟨_, done_quiet (endAttempt_calm (s.claimedBy q) .standby c fun h => hm hat h).1,
      { hframe with red := rfl, pt := rfl, reg := fun _ _ => rfl, wf := id }, hframe.pt, by rw [hred]; rfl,
      by rw [hred]; rfl, by rw [hred]; rfl, hregs, by rw [hred]⟩
  · rw [if_neg hat, if_neg hat]
    exact ⟨_, done_quiet (s := s.claimedBy q) c.1, RaiseFrame.refl _, rfl, rfl, rfl, rfl, fun _ _ => rfl, rfl⟩

/-- A falling claim line ends the claim, and a CLAIMED partner is the former seat (R232, R246). -/
theorem clmInFall_ends {q : Fin 2} {s : State} (c : s.Calm) (ha : s.alive = true) (hp : s.hasPartner q = true)
    (hl : s.pt[q].line = true) :
    ∃ t, exec (.clmInFall q) s = .next t ∧ t = { s with pt := t.pt, red := { s.red with former := t.red.former } } ∧
      t.pt[q] = { s.pt[q] with line := false, counted := false, claimed := false, fallAt := s.ext } ∧
      (∀ j, j ≠ q → t.pt[j] = s.pt[j]) ∧ t.red.former = if s.pt[q].claimed then some q else s.red.former := by
  obtain ⟨u, hu⟩ : ∃ u, u = s.modPt q fun x =>
      { x with line := false, counted := false, claimed := false, fallAt := s.ext } := ⟨_, rfl⟩
  have hexec : exec (.clmInFall q) s =
      done (if s.pt[q].claimed then u.modRed fun r => { r with former := some q } else u) :=
    (if_pos (by rw [ha, hp, hl]; rfl)).trans (by rw [hu])
  have hself : u.pt[q] = { s.pt[q] with line := false, counted := false, claimed := false, fallAt := s.ext } :=
    hu ▸ modPt_self s q _
  have hne : ∀ j, j ≠ q → u.pt[j] = s.pt[j] := fun j hj => hu ▸ modPt_ne s _ hj
  have hquiet : u.floor.request = false := hu ▸ c.1
  rw [hexec]
  by_cases hc : s.pt[q].claimed = true
  · rw [if_pos hc, if_pos hc]
    exact ⟨_, done_quiet (s := u.modRed _) hquiet, by rw [hu]; rfl, hself, hne, rfl⟩
  · rw [if_neg hc, if_neg hc]
    exact ⟨u, done_quiet hquiet, by rw [hu]; rfl, hself, hne, by rw [hu]; rfl⟩

theorem noteE3_pt (s : State) (q : Fin 2) : s.noteE3 q =
    s.modPt q fun x => { x with e3 := if s.e3Now q = true then some s.ext else x.e3 } := by
  unfold State.noteE3
  split
  · rfl
  · refine congrArg (fun v => { s with pt := v }) (vmod_id (f := ?_) s.pt q ?_).symm
    rfl

/-- A change of a partner's OKAY line notes E3 before it may go (R231, R232). -/
theorem okinChange_notes (q : Fin 2) (level : Bool) {s : State} (c : s.Calm) :
    ∃ t, exec (.okinChange q level) s = .next t ∧ t = { s with pt := t.pt } ∧ (∀ j, j ≠ q → t.pt[j] = s.pt[j]) ∧
      t.pt[q] = { s.pt[q] with
        okin := level
        e3 := if s.alive = true ∧ s.hasPartner q = true ∧ s.e3Now q = true then some s.ext else s.pt[q].e3 } := by
  by_cases h : (s.alive && s.hasPartner q) = true
  · rw [Bool.and_eq_true] at h
    have hexec : exec (.okinChange q level) s = done ((s.noteE3 q).modPt q fun x => { x with okin := level }) :=
      if_pos (by rw [h.1, h.2]; rfl)
    rw [noteE3_pt] at hexec
    refine ⟨_, hexec.trans (done_quiet (s := (s.modPt q _).modPt q _) c.1), rfl,
      fun _ hj => (modPt_ne _ _ hj).trans (modPt_ne s _ hj), ?_⟩
    rw [modPt_self, modPt_self]
    simp only [h.1, h.2, true_and]
  · refine ⟨_, (if_neg h).trans (done_quiet (s := s.modPt q fun x => { x with okin := level }) c.1), rfl,
      fun _ hj => modPt_ne s _ hj, ?_⟩
    rw [modPt_self, if_neg fun h' => h (by rw [h'.1, h'.2.1]; rfl)]

/-- Settles O47: `State.risen` and `State.claimedBy` are what the line says, the seat follows by R235. -/
theorem partnerLinesGiveClaimsAndEvidence : Obligations.PartnerLinesGiveClaimsAndEvidence := by
  refine ⟨fun q s c => ⟨clmInHigh_level c, fun ha hp => ?_⟩, fun q s c ha hp hl hc hm => ?_,
    fun q s c ha hp hl => clmInFall_ends c ha hp hl, fun q level s c => okinChange_notes q level c⟩
  · obtain ⟨t, hexec, hframe, hpt, hred⟩ := clmInHigh_rises c ha hp
    exact ⟨t, hexec, hframe, by rw [hpt]; exact modPt_self s q _, fun j hj => by rw [hpt]; exact modPt_ne s _ hj, hred⟩
  · obtain ⟨t, hexec, hframe, hpt, hred⟩ := partnerClaimed_marks c ha hp hl hc hm
    exact ⟨t, hexec, hframe, by rw [hpt]; exact modPt_self s q _, fun j hj => by rw [hpt]; exact modPt_ne s _ hj, hred⟩

end Sys2Proof.Machine
end

section
/-!
PROOFS. A channel's scheduler domain and its probe (R68, R317, R318): what the end of an activity and a withdrawal leave,
and a channel that leaves INVALID (R108, R115).
-/

namespace Sys2Proof.Machine

set_option Elab.async false

/-! ### A channel's domain (R318) -/

theorem modSched_self (s : State) (d : Fin 17) (f : Sched → Sched) : (s.modSched d f).sched[d] = f s.sched[d] :=
  vmod_self s.sched d f

theorem modSched_ne (s : State) {d e : Fin 17} (f : Sched → Sched) (h : e ≠ d) : (s.modSched d f).sched[e] = s.sched[e] :=
  vmod_ne s.sched f h.symm

theorem modSched_congr (s : State) (d : Fin 17) {f g : Sched → Sched} (h : f s.sched[d] = g s.sched[d]) :
    s.modSched d f = s.modSched d g := congrArg (fun v => { s with sched := v }) (vmod_congr s.sched d h)

theorem modSched_modSched (s : State) (d : Fin 17) (f g : Sched → Sched) :
    (s.modSched d f).modSched d g = s.modSched d (g ∘ f) := congrArg (fun v => { s with sched := v }) (vmod_vmod s.sched d f g)

theorem modSched_id (s : State) (d : Fin 17) {f : Sched → Sched} (h : f s.sched[d] = s.sched[d]) : s.modSched d f = s :=
  congrArg (fun v => { s with sched := v }) (vmod_id s.sched d h)

theorem chDomain_ne_mram (n : ChId) : chDomain n ≠ mramDomain := by decide +revert

/-- A channel's activity takes nothing at its start. -/
theorem startActivity_chan (s : State) (n : ChId) (a : Activity) : s.startActivity (chDomain n) a = s :=
  if_neg fun h => chDomain_ne_mram n h.1

/-- A channel's domain once its running activity has ended (R318 step 7). -/
def Sched.ended (now : Nat) (x : Sched) : Sched :=
  if x.suspended then { x with running := some .cal, suspended := false, since := now, edge := none }
  else
    match x.pending with
    | some a => if waitsGrant a then { x with running := none, edge := none } else { running := some a, since := now }
    | none => {}

theorem schedEnd_chan (s : State) (n : ChId) :
    s.schedEnd (chDomain n) = s.modSched (chDomain n) (Sched.ended s.now) := by
  unfold State.schedEnd
  simp only [startActivity_chan, chDomain_ne_mram, decide_false, Bool.false_and, Bool.or_false]
  by_cases hs : s.sched[chDomain n].suspended = true
  · rw [if_pos hs]
    exact modSched_congr s _ (by rw [Sched.ended, if_pos hs])
  · rw [if_neg hs]
    cases hp : s.sched[chDomain n].pending with
    | none => exact modSched_congr s _ (by rw [Sched.ended, if_neg hs, hp])
    | some a =>
      by_cases ha : waitsGrant a = true
      · exact (if_pos ha).trans (modSched_congr s _ (by rw [Sched.ended, if_neg hs, hp]; exact (if_pos ha).symm))
      · exact (if_neg ha).trans (modSched_congr s _ (by rw [Sched.ended, if_neg hs, hp]; exact (if_neg ha).symm))

/-- A channel's domain once an activity has left it, wherever it stood. -/
def Sched.withdrawn (now : Nat) (a : Activity) (x : Sched) : Sched :=
  let y : Sched :=
    { x with
      pending := if x.pending = some a then none else x.pending
      suspended := x.suspended && !(decide (a = .cal)) }
  if x.running = some a then y.ended now else y

theorem schedWithdraw_chan (s : State) (n : ChId) (a : Activity) :
    s.schedWithdraw (chDomain n) a = s.modSched (chDomain n) (Sched.withdrawn s.now a) := by
  unfold State.schedWithdraw
  extract_lets x u v
  have hu : u = s.modSched (chDomain n) fun x => { x with pending := if x.pending = some a then none else x.pending } := by
    by_cases hp : x.pending = some a
    · exact (if_pos hp).trans (modSched_congr s _ (by rw [if_pos hp]))
    · exact (if_neg hp).trans (modSched_id s _ (by rw [if_neg hp])).symm
  have hv : v = s.modSched (chDomain n) fun x =>
      { x with
        pending := if x.pending = some a then none else x.pending
        suspended := x.suspended && !(decide (a = .cal)) } := by
    by_cases hc : (decide (a = .cal) && x.suspended) = true
    · refine (if_pos hc).trans ?_
      rw [hu, modSched_modSched]
      refine modSched_congr s _ ?_
      rw [Bool.and_eq_true] at hc
      simp only [Function.comp_apply, hc.1, Bool.not_true, Bool.and_false]
    · refine (if_neg hc).trans (hu.trans (modSched_congr s _ ?_))
      have hs : s.sched[chDomain n].suspended = (s.sched[chDomain n].suspended && !(decide (a = .cal))) := by
        change ¬ (decide (a = .cal) && s.sched[chDomain n].suspended) = true at hc
        cases hd : decide (a = .cal) <;> cases hs : s.sched[chDomain n].suspended <;> simp_all
      rw [← hs]
  by_cases hr : x.running = some a
  · rw [if_pos hr, schedEnd_chan, hv, modSched_modSched]
    exact modSched_congr s _ (if_pos hr).symm
  · rw [if_neg hr, hv]
    exact modSched_congr s _ (if_neg hr).symm

theorem ended_running (now : Nat) (x : Sched) (hp : x.pending ≠ some .probe) : (x.ended now).running ≠ some .probe := by
  unfold Sched.ended
  split
  · exact fun h => by cases h
  · split
    · next a ha =>
      split
      · exact fun h => by cases h
      · intro h
        cases h
        exact hp ha
    · exact fun h => by cases h

/-- A withdrawn probe does not run. -/
theorem withdrawn_probe (now : Nat) (x : Sched) : (x.withdrawn now .probe).running ≠ some .probe := by
  unfold Sched.withdrawn
  extract_lets y
  have hy : y.pending ≠ some .probe := by
    change (if x.pending = some .probe then none else x.pending) ≠ some .probe
    split
    · exact fun h => by cases h
    · next h => exact h
  split
  · exact ended_running now y hy
  · next h => exact h

/-! ### A probe that may not run (R68) -/

theorem modFront_self (s : State) (n : ChId) (f : Front → Front) : (s.modFront n f).front[n] = f s.front[n] :=
  vmod_self s.front n f

theorem modFront_ne (s : State) {n m : ChId} (f : Front → Front) (h : m ≠ n) : (s.modFront n f).front[m] = s.front[m] :=
  vmod_ne s.front f h.symm

theorem modCh_self (s : State) (n : ChId) (f : Chan → Chan) : (s.modCh n f).ch[n] = f s.ch[n] := vmod_self s.ch n f

theorem modCh_ne (s : State) {n m : ChId} (f : Chan → Chan) (h : m ≠ n) : (s.modCh n f).ch[m] = s.ch[m] :=
  vmod_ne s.ch f h.symm

/-- A probe of a channel that may not run it any more: it is DEFERRED and leaves its domain. -/
theorem probeRecheck_barred {s : State} {n : ChId} {b : ProbeState} (h : s.probeBar n = some b)
    (hp : s.front[n].probe = .pending ∨ s.front[n].probe = .running) :
    s.probeRecheck n = (s.modFront n fun f => { f with probe := b }).modSched (chDomain n) (Sched.withdrawn s.now .probe) := by
  unfold State.probeRecheck
  rw [h]
  rcases hp with hp | hp <;> rw [hp] <;> exact schedWithdraw_chan _ n .probe

/-- Where no probe waits or runs there is nothing to recheck. -/
theorem probeRecheck_none {s : State} {n : ChId} (h₁ : s.front[n].probe ≠ .pending) (h₂ : s.front[n].probe ≠ .running) :
    s.probeRecheck n = s := by
  unfold State.probeRecheck
  split
  · next h _ => exact absurd h h₁
  · next h _ => exact absurd h h₂
  · rfl

/-- A channel outside TRACK and OFF runs no probe. -/
theorem probeBar_state {s : State} {n : ChId} (h₁ : s.ch[n].state ≠ .track) (h₂ : s.ch[n].state ≠ .off) :
    s.probeBar n = some .deferredState := by
  unfold State.probeBar
  exact if_pos (by simp only [decide_eq_false h₁, decide_eq_false h₂]; rfl)

/-- What entering a state without probes takes of the channel's probe. -/
theorem probeRecheck_left {s : State} {n : ChId} (h₁ : s.ch[n].state ≠ .track) (h₂ : s.ch[n].state ≠ .off) :
    s.ProbeLeft (s.probeRecheck n) n ∧
    s.probeRecheck n = { s with front := (s.probeRecheck n).front, sched := (s.probeRecheck n).sched } ∧
    (∃ b, (s.probeRecheck n).front[n] = { s.front[n] with probe := b }) ∧
    ∀ m, m ≠ n → (s.probeRecheck n).front[m] = s.front[m] := by
  by_cases hp : s.front[n].probe = .pending ∨ s.front[n].probe = .running
  · rw [probeRecheck_barred (probeBar_state h₁ h₂) hp]
    have hself := modFront_self s n fun f => { f with probe := .deferredState }
    refine ⟨⟨fun h h' => absurd hp (not_or.mpr ⟨h, h'⟩), fun _ => ⟨congrArg Front.probe hself, ?_⟩, fun d hd => ?_⟩, rfl,
      ⟨_, hself⟩, fun m hm => modFront_ne s _ hm⟩
    · rw [modSched_self]
      exact withdrawn_probe _ _
    · exact modSched_ne _ _ hd
  · rw [not_or] at hp
    rw [probeRecheck_none hp.1 hp.2]
    exact ⟨⟨fun _ _ => ⟨rfl, rfl⟩, fun h => absurd h (not_or.mpr hp), fun _ _ => rfl⟩, rfl, ⟨_, rfl⟩, fun _ _ => rfl⟩

/-! ### A cold settle (R108, R109) -/

/-- A channel that enters a cold settle, not out of TRACK: the channel, its probe and what its monitors wait for. -/
structure ColdSettle (s t : State) (n : ChId) (reason : Nat) : Prop where
  frame : t = { s with ch := t.ch, watch := t.watch, front := t.front, sched := t.sched }
  ch : t.ch[n] = { s.ch[n] with state := .settle, reason := reason }
  settle : t.front[n].settle = .waiting
  cold : t.front[n].warm = false
  probe : s.ProbeLeft t n
  others : ∀ m, m ≠ n → t.ch[m] = s.ch[m] ∧ t.front[m] = s.front[m] ∧ t.watch[m] = s.watch[m]

/-- The channel in SETTLE, before its probe is looked at. -/
def State.settling0 (s : State) (n : ChId) (reason : Nat) : State :=
  (s.modCh n fun c => { c with state := .settle, reason := reason }).modWatch n fun w =>
    { w with excWait := false, coastCause := false, freqChanged := false }

theorem enterCh_settle {s : State} {n : ChId} (reason : Nat) (h : s.ch[n].state ≠ .track) :
    s.enterCh n .settle reason = (s.settling0 n reason).probeRecheck n := by
  have hold : (decide (s.ch[n].state = .track) && decide (ChState.settle ≠ .track)) = false := by
    rw [decide_eq_false h, Bool.false_and]
  unfold State.enterCh
  simp only [hold, Bool.false_eq_true, if_false]
  rfl

theorem settling0_ch (s : State) (n : ChId) (reason : Nat) :
    (s.settling0 n reason).ch[n] = { s.ch[n] with state := .settle, reason := reason } := modCh_self s n _

theorem enterCold_settles {s : State} {n : ChId} (reason : Nat) (h : s.ch[n].state ≠ .track) :
    ColdSettle s (s.enterCold n reason) n reason := by
  have hst : (s.settling0 n reason).ch[n].state = .settle := congrArg Chan.state (settling0_ch s n reason)
  obtain ⟨hleft, hframe, -, hfront⟩ := probeRecheck_left (s := s.settling0 n reason) (n := n) (by rw [hst]; decide)
    (by rw [hst]; decide)
  obtain ⟨u, hu⟩ : ∃ u, u = (s.settling0 n reason).probeRecheck n := ⟨_, rfl⟩
  have henter : s.enterCold n reason = u.modFront n fun f =>
      { f with settle := .waiting, warm := false, settlePeriods := 0, settleClean := false } := by
    rw [State.enterCold, enterCh_settle reason h, hu]
  rw [← hu] at hleft hframe hfront
  have hself := modFront_self u n fun f => { f with settle := .waiting, warm := false, settlePeriods := 0, settleClean := false }
  obtain ⟨hkeeps, hleaves, hother⟩ := hleft
  rw [henter]
  refine ⟨?_, ?_, congrArg Front.settle hself, congrArg Front.warm hself, ⟨fun h₁ h₂ => ?_, fun hp => ?_, hother⟩,
    fun m hm => ⟨?_, (modFront_ne u _ hm).trans (hfront m hm), ?_⟩⟩
  · rw [hframe]; rfl
  · rw [hframe]; exact settling0_ch s n reason
  · exact ⟨(congrArg Front.probe hself).trans (hkeeps h₁ h₂).1, (hkeeps h₁ h₂).2⟩
  · exact ⟨(congrArg Front.probe hself).trans (hleaves hp).1, (hleaves hp).2⟩
  · rw [hframe]; exact modCh_ne s _ hm
  · rw [hframe]; exact modWatch_ne _ _ hm

/-! ### INVALID and homing (R108, R115) -/

theorem autoRecover_cold {n : ChId} {s : State} (c : s.Calm) (hl : s.lanesOn = true) (hi : s.ch[n].state = .invalid)
    (hf : s.flag (Reg.CH_AUTO_RECOVER n) = true) (hx : s.exitBase n = true) :
    ∃ t, exec (.autoRecover n) s = .next t ∧ ColdSettle s t n 15 := by
  have hcold := enterCold_settles (s := s) (n := n) 15 (by rw [hi]; decide)
  refine ⟨s.enterCold n 15, (if_pos (by rw [hl, hi, hf, hx]; rfl)).trans (done_quiet ?_), hcold⟩
  rw [hcold.frame]
  exact c.1

theorem chRecover_cold {p : Port} {n : ChId} {s : State} (c : s.Calm) (ha : s.AdmitsCmd p (Reg.CH_RECOVER n))
    (hi : s.ch[n].state = .invalid) (hx : s.exitBase n = true) :
    ∃ t, exec (.chRecover p n) s = .next t ∧ ColdSettle (s.beat p) t n 15 := by
  have hcold := enterCold_settles (s := s.beat p) (n := n) 15 (by change s.ch[n].state ≠ _; rw [hi]; decide)
  refine ⟨(s.beat p).enterCold n 15, hostWrite_next ha ?_ ?_, hcold⟩
  · have hok : (decide ((s.beat p).ch[n].state = .invalid) && (s.beat p).exitBase n) = true := by
      change (decide (s.ch[n].state = .invalid) && s.exitBase n) = true
      rw [hi, hx]; rfl
    unfold effRecover
    rw [need_true _ hok]
    rfl
  · rw [hcold.frame]
    exact c.1

theorem chRecover_refused {p : Port} {n : ChId} {s : State} (c : s.Calm) (ha : s.AdmitsCmd p (Reg.CH_RECOVER n))
    (h : s.ch[n].state ≠ .invalid ∨ s.exitBase n = false) :
    ∃ t, exec (.chRecover p n) s = .next t ∧ s.RefusedAs t p (Reg.CH_RECOVER n) nakCond := by
  refine hostWrite_refusedAs c ha ?_ (by decide) (by decide)
  have hno : (decide ((s.beat p).ch[n].state = .invalid) && (s.beat p).exitBase n) = false := by
    change (decide (s.ch[n].state = .invalid) && s.exitBase n) = false
    rcases h with h | h
    · rw [decide_eq_false h]; rfl
    · rw [h, Bool.and_false]
  unfold effRecover
  rw [need_false _ hno]
  rfl

theorem chHome_armed {p : Port} {n : ChId} {s : State} (c : s.Calm) (ha : s.AdmitsCmd p (Reg.CH_HOME n))
    (ht : s.ch[n].state = .track) :
    ∃ t, exec (.chHome p n) s = .next t ∧ t = { s.beat p with front := t.front } ∧
      t.front[n] = { s.front[n] with homePort := some p } ∧ ∀ m, m ≠ n → t.front[m] = s.front[m] := by
  refine ⟨_, hostWrite_next (t := (s.beat p).modFront n fun f => { f with homePort := some p }) ha ?_ c.1, rfl,
    modFront_self _ n _, fun m hm => modFront_ne (s.beat p) _ hm⟩
  unfold effHome
  rw [need_true _ (show decide ((s.beat p).ch[n].state = .track) = true from decide_eq_true ht)]
  rfl

theorem chHome_refused {p : Port} {n : ChId} {s : State} (c : s.Calm) (ha : s.AdmitsCmd p (Reg.CH_HOME n))
    (ht : s.ch[n].state ≠ .track) :
    ∃ t, exec (.chHome p n) s = .next t ∧ s.RefusedAs t p (Reg.CH_HOME n) nakCond := by
  refine hostWrite_refusedAs c ha ?_ (by decide) (by decide)
  unfold effHome
  rw [need_false _ (show decide ((s.beat p).ch[n].state = .track) = false from decide_eq_false ht)]
  rfl

/-- Settles O29: both ways out of INVALID are a cold settle, and homing is armed in TRACK only. -/
theorem invalidIsLeftColdAndHomingIsArmed : Obligations.InvalidIsLeftColdAndHomingIsArmed := by
  refine ⟨fun n s c hl hi hf hx => ?_, fun p n s c ha => ⟨fun hi hx => ?_, fun h => chRecover_refused c ha h⟩,
    fun p n s c ha => ⟨fun ht => chHome_armed c ha ht, fun ht => chHome_refused c ha ht⟩⟩
  · obtain ⟨t, hexec, hframe, hch, hsettle, hcold, hprobe, hothers⟩ := autoRecover_cold c hl hi hf hx
    exact ⟨t, hexec, hframe, hch, hsettle, hcold, hprobe, hothers⟩
  · obtain ⟨t, hexec, hframe, hch, hsettle, hcold, hprobe, hothers⟩ := chRecover_cold c ha hi hx
    exact ⟨t, hexec, hframe, hch, hsettle, hcold, hprobe, hothers⟩

end Sys2Proof.Machine
end

section
/-!
PROOFS. Resets, the release of the device reset, and the holds of the supplies (R351 to R355, R325, R332).
-/

namespace Sys2Proof.Machine

set_option Elab.async false

/-! ### What a reset keeps of the collector (R217, R351; log entry 86) -/

/-- A key below every key of a canonical map is not listed. -/
theorem SMap.not_mem_of_wfFrom {α : Type} [DecidableEq α] (d : Nat → α) {b k : Nat} {m : SMap α}
    (h : SMap.wfFrom d (some b) m = true) (hk : k ≤ b) : k ∉ m.map fun x => x.1 := by
  induction m generalizing b with
  | nil => exact List.not_mem_nil
  | cons x m ih =>
    obtain ⟨a, v⟩ := x
    simp only [SMap.wfFrom, Bool.and_eq_true, decide_eq_true_eq] at h
    obtain ⟨⟨hb, -⟩, hm⟩ := h
    simp only [List.map_cons, List.mem_cons, not_or]
    exact ⟨by omega, ih hm (by omega)⟩

/-- Writing the image of every entry of a canonical map leaves each key the image of what it read. -/
theorem SMap.find_foldl_put {α : Type} [DecidableEq α] (d : α) (g : Nat → α → α) (hg : ∀ k, g k d = d) (b : Option Nat)
    (m : SMap α) (h : SMap.wfFrom (fun _ => d) b m = true) (a : SMap α) (i : Nat) :
    SMap.find d (m.foldl (fun a x => SMap.put d a x.1 (g x.1 x.2)) a) i =
      if i ∈ m.map (fun x => x.1) then g i (SMap.find d m i) else SMap.find d a i := by
  induction m generalizing a b with
  | nil => exact (if_neg List.not_mem_nil).symm
  | cons x m ih =>
    obtain ⟨k, v⟩ := x
    have hm : SMap.wfFrom (fun _ => d) (some k) m = true := by
      simp only [SMap.wfFrom, Bool.and_eq_true] at h
      exact h.2
    rw [List.foldl_cons, ih (some k) hm, List.map_cons]
    by_cases hik : i = k
    · subst hik
      rw [if_neg (SMap.not_mem_of_wfFrom _ hm (Nat.le_refl i)), if_pos (List.mem_cons_self ..), SMap.find_put_self,
        SMap.find_cons, if_pos rfl]
    · rw [SMap.find_cons, if_neg (Ne.symm hik), SMap.find_put_ne _ _ _ _ (Ne.symm hik)]
      by_cases him : i ∈ m.map fun x => x.1
      · rw [if_pos him, if_pos (List.mem_cons_of_mem _ him)]
      · rw [if_neg him, if_neg fun h => (List.mem_cons.1 h).elim hik him]

theorem keepSrc_default (s : State) (id : Nat) : s.keepSrc id {} = {} := rfl

/-- A source over a device reset. -/
theorem keepFc_find {s : State} (h : SMap.wf (fun _ => {}) s.fc.srcs = true) (id : Nat) :
    SMap.find {} s.keepFc.srcs id = s.keepSrc id (s.src id) := by
  refine (SMap.find_foldl_put ({} : FSrc) s.keepSrc (keepSrc_default s) none s.fc.srcs h [] id).trans ?_
  by_cases hm : id ∈ s.fc.srcs.map fun x => x.1
  · exact if_pos hm
  · rw [if_neg hm, State.src, SMap.find_of_not_mem _ _ hm]
    rfl

/-- What is in effect for a source that has kept its state. -/
theorem fltNow_eff {t : State} {id : Nat} {e : Nat × Nat × Bool} (h : (t.src id).eff = some e) : t.fltNow id = e := by
  unfold State.fltNow
  rw [h]

/-- What a device reset keeps of a source, case by case. -/
theorem keepSrc_kept {s t : State} {id : Nat} (ht : t.src id = s.keepSrc id (s.src id)) :
    ((s.src id).state = .idle → (t.src id).state = .idle ∧ (t.src id).cond = false) ∧
    ((s.src id).state = .latched → (t.src id).state = .latched ∧ t.fltNow id = s.fltNow id ∧
      (t.src id).emus = (s.src id).emus ∧ (t.src id).psws = (s.src id).psws) ∧
    ((s.src id).state = .active → (s.src id).cond = true → (id < 16 ∨ (s.src id).rail = true) →
      (t.src id).state = .active ∧ (t.src id).cond = true ∧ t.fltNow id = s.fltNow id) ∧
    ((s.src id).state = .active → ¬ ((s.src id).cond = true ∧ (id < 16 ∨ (s.src id).rail = true)) →
      (t.src id).cond = false ∧ (t.src id).state = if (s.fltNow id).1 = 0 then .idle else .latched) := by
  unfold State.keepSrc at ht
  extract_lets cond st at ht
  have hcond : cond = true ↔ (s.src id).cond = true ∧ (id < 16 ∨ (s.src id).rail = true) := by
    change ((s.src id).cond && (decide (id < 16) || (s.src id).rail)) = true ↔ _
    rw [Bool.and_eq_true, Bool.or_eq_true, decide_eq_true_eq]
  have hst : (s.src id).state ≠ .active ∨ cond = true → st = (s.src id).state := fun h =>
    if_neg fun hc => by
      rw [Bool.and_eq_true, decide_eq_true_eq, Bool.not_eq_true'] at hc
      exact h.elim (fun hn => hn hc.1) fun h => absurd (h.symm.trans hc.2) (by decide)
  refine ⟨fun h => ?_, fun h => ?_, fun h hc hw => ?_, fun h hn => ?_⟩
  · rw [if_pos ((hst (.inl (by rw [h]; decide))).trans h)] at ht
    rw [ht]
    exact ⟨rfl, rfl⟩
  · have h' : st = .latched := (hst (.inl (by rw [h]; decide))).trans h
    rw [if_neg (by rw [h']; decide)] at ht
    exact ⟨by rw [ht]; exact h', fltNow_eff (by rw [ht]), by rw [ht], by rw [ht]⟩
  · have hk : cond = true := hcond.2 ⟨hc, hw⟩
    have h' : st = .active := (hst (.inr hk)).trans h
    rw [if_neg (by rw [h']; decide)] at ht
    exact ⟨by rw [ht]; exact h', by rw [ht]; exact hk, fltNow_eff (by rw [ht])⟩
  · have hk : cond = false := Bool.eq_false_iff.2 fun hk => hn (hcond.1 hk)
    have h' : st = if (s.fltNow id).1 = 0 then .idle else .latched := if_pos (by rw [h, hk]; rfl)
    rw [← h']
    by_cases hi : st = .idle
    · rw [if_pos hi] at ht
      rw [ht]
      exact ⟨rfl, hi.symm⟩
    · rw [if_neg hi] at ht
      rw [ht]
      exact ⟨hk, rfl⟩

theorem deviceReset_keeps {s : State} (c : s.Calm) (r : ResetCause) (ho : s.floorOn = true) :
    ∃ t, exec (.deviceReset r) s = .next t ∧
      t = { s.afterReset with floor := s.floor, fc := { State.reset.fc with srcs := t.fc.srcs } } ∧
      t.fc = s.keepFc := by
  have hfloor : { s.floor with request := false } = s.floor := by rw [← c.1]
  refine ⟨_, (show exec (.deviceReset r) s = _ from if_pos ho).trans (done_quiet rfl), ?_, rfl⟩
  unfold State.modFloor State.modFc
  rw [hfloor]
  rfl

/-! ### What no safe entry touches (R207, R264) -/

/-- A part of the state that raises, requests to the scheduler, and what a safe entry ends leave alone: `P` reads none of
the parts that they move. -/
structure Untouched {α : Type} (P : State → α) : Prop where
  raised : ∀ {s t : State}, RaiseFrame s t → P t = P s
  reg : ∀ (s : State) (k : Key) (v : Int), faultReg k = true → P (s.setReg k v) = P s
  parts : ∀ (s : State) sched cal bead tap sec dev exc lnk front watch,
    P { s with
      sched := sched, cal := cal, bead := bead, tap := tap, sec := sec, dev := dev, exc := exc, lnk := lnk
      front := front, watch := watch } = P s
  inj : ∀ (s : State) (n : ChId) (f : Inject → Inject), P (s.modCh n fun c => { c with inj := f c.inj }) = P s
  red : ∀ (s : State) (r : Red), r.seat = s.red.seat → P { s with red := r } = P s
  floor : ∀ (s : State) (f : Floor), f.testOk = s.floor.testOk → P { s with floor := f } = P s

/-- The counters of the runs' results are among those that a safe entry may move. -/
theorem calCounter_faultReg {n : ChId} {r : Nat} {k : Key} (h : calCounter n r = some k) : faultReg k = true := by
  obtain ⟨-, h₁, h₂, h₃, h₄⟩ := faultReg_chan n
  unfold calCounter at h
  split at h <;> cases h <;> assumption

section
variable {α : Type} {P : State → α} (h : Untouched P) {t : State} {a : α} (k : P t = a)
include h k

theorem Untouched.frame {u : State} (g : RaiseFrame t u) : P u = a := (h.raised g).trans k

omit h in
theorem Untouched.ite {p : Prop} [Decidable p] {u : State} (g : P u = a) : P (if p then t else u) = a := by
  split <;> assumption

omit h in
theorem Untouched.each {β : Type} (l : List β) {f : State → β → State} (hf : ∀ v b, P v = a → P (f v b) = a) :
    P (t.each l f) = a := by
  unfold State.each
  induction l generalizing t with
  | nil => exact k
  | cons b l ih => exact ih (hf t b k)

theorem Untouched.modSched (d : Fin 17) (f : Sched → Sched) : P (t.modSched d f) = a :=
  (h.parts t _ t.cal t.bead t.tap t.sec t.dev t.exc t.lnk t.front t.watch).trans k

theorem Untouched.modBead (f : Beads → Beads) : P (t.modBead f) = a :=
  (h.parts t t.sched t.cal _ t.tap t.sec t.dev t.exc t.lnk t.front t.watch).trans k

theorem Untouched.modCal (n : ChId) (f : Cal → Cal) : P (t.modCal n f) = a :=
  (h.parts t t.sched _ t.bead t.tap t.sec t.dev t.exc t.lnk t.front t.watch).trans k

theorem Untouched.modExc (e : ExcId) (f : Exc → Exc) : P (t.modExc e f) = a :=
  (h.parts t t.sched t.cal t.bead t.tap t.sec t.dev _ t.lnk t.front t.watch).trans k

theorem Untouched.modLnk (n : Fin 2) (f : Link → Link) : P (t.modLnk n f) = a :=
  (h.parts t t.sched t.cal t.bead t.tap t.sec t.dev t.exc _ t.front t.watch).trans k

theorem Untouched.modFront (n : ChId) (f : Front → Front) : P (t.modFront n f) = a :=
  (h.parts t t.sched t.cal t.bead t.tap t.sec t.dev t.exc t.lnk _ t.watch).trans k

theorem Untouched.modWatch (n : ChId) (f : Watch → Watch) : P (t.modWatch n f) = a :=
  (h.parts t t.sched t.cal t.bead t.tap t.sec t.dev t.exc t.lnk t.front _).trans k

theorem Untouched.setReg (x : Key) (v : Int) (hx : faultReg x = true) : P (t.setReg x v) = a := (h.reg t x v hx).trans k

theorem Untouched.modRed (f : Red → Red) (hf : (f t.red).seat = t.red.seat := by rfl) : P (t.modRed f) = a :=
  (h.red t _ hf).trans k

theorem Untouched.modFloor (f : Floor → Floor) (hf : (f t.floor).testOk = t.floor.testOk := by rfl) : P (t.modFloor f) = a :=
  (h.floor t _ hf).trans k

theorem Untouched.setDebugLevel (f : Sec → Sec) (g : Tap → Tap) : P ((t.modSec f).modTap g) = a :=
  (h.parts t t.sched t.cal t.bead _ _ t.dev t.exc t.lnk t.front t.watch).trans k

theorem Untouched.modDev (f : Device → Device) : P (t.modDev f) = a :=
  (h.parts t t.sched t.cal t.bead t.tap t.sec _ t.exc t.lnk t.front t.watch).trans k

theorem Untouched.startActivity (d : Fin 17) (x : Activity) : P (t.startActivity d x) = a :=
  Untouched.ite (h.modBead k _) k

theorem Untouched.schedEnd (d : Fin 17) : P (t.schedEnd d) = a := by
  unfold State.schedEnd
  dsimp only
  split
  · exact h.modSched k _ _
  · split
    · exact Untouched.ite (h.modSched k _ _) (h.startActivity (h.modSched k _ _) _ _)
    · exact h.modSched k _ _

theorem Untouched.schedWithdraw (d : Fin 17) (x : Activity) : P (t.schedWithdraw d x) = a := by
  unfold State.schedWithdraw
  extract_lets y u v
  have hu : P u = a := Untouched.ite (h.modSched k _ _) k
  have hv : P v = a := Untouched.ite (h.modSched hu _ _) hu
  exact Untouched.ite (h.schedEnd hv d) hv

theorem Untouched.abortTest (n : ChId) (reason : Nat) : P (t.abortTest n reason) = a := by
  unfold State.abortTest
  split
  · exact h.schedWithdraw
      (h.setReg ((h.inj t n fun x => { x with state := .aborted }).trans k) _ _ (faultReg_chan n).1) _ _
  · exact Untouched.ite k ((h.inj t n fun x => { x with stopping := some (true, reason) }).trans k)
  · exact k

theorem Untouched.abortTests (reason : Nat) : P (t.abortTests reason) = a :=
  Untouched.each k _ fun _ n hv => Untouched.ite hv (h.abortTest hv n reason)

theorem Untouched.endRun (n : ChId) (result detail : Nat) : P (t.endRun n result detail) = a := by
  unfold State.endRun
  refine h.frame (h.schedWithdraw (h.frame ?_ (logKind_frame _ _ _ _)) _ _) (pulse_frame _ _)
  split
  · next hk => exact h.setReg (h.modCal k n _) _ _ (calCounter_faultReg hk)
  · exact h.modCal k n _

theorem Untouched.abortRun (n : ChId) (detail : Nat) : P (t.abortRun n detail) = a := by
  unfold State.abortRun
  split <;> first | exact k | exact h.endRun k _ _ _

theorem Untouched.abortRuns (leftService : Bool) : P (t.abortRuns leftService) = a :=
  Untouched.each k _ fun _ n hv => Untouched.ite (h.abortRun hv n 4) (Untouched.ite (h.abortRun hv n 4) hv)

theorem Untouched.setSeat (new : SeatState) : P (t.setSeat new) = a :=
  ((h.raised (setSeat_frame t new)).trans (h.red t _ (by rw [setSeat_red]))).trans k

theorem Untouched.endAttempt (dest : SeatState) : P (t.endAttempt dest) = a := by
  unfold State.endAttempt
  extract_lets u v
  have hv : P v = a := h.modRed (h.setSeat k dest) _
  exact Untouched.ite (h.frame (h.setReg (h.modRed hv _) _ _ (by decide)) (pulse_frame _ _)) hv

theorem Untouched.releaseClaim (dest : SeatState) : P (t.releaseClaim dest) = a := by
  unfold State.releaseClaim
  have hs : P t.sendRelease = a := Untouched.each k _ fun _ _ hv => Untouched.ite (h.modLnk hv _ _) hv
  exact Untouched.ite (h.frame (h.setSeat (h.modRed hs _) dest) (showOutputs_frame _)) (h.endAttempt hs dest)

theorem Untouched.setDebug (v reason p : Nat) : P (t.setDebug v reason p) = a := by
  unfold State.setDebug
  extract_lets old u w
  have hu : P u = a := h.setDebugLevel k _ _
  have hw : P w = a :=
    Untouched.ite (h.frame (h.setReg hu _ _ (by decide)) (raise_frame _ _)) (h.frame hu (gone_frame _ _))
  exact Untouched.ite k (h.frame hw (logKind_frame _ _ _ _))

theorem Untouched.leaveService (reason p : Nat) : P (t.leaveService reason p) = a := by
  unfold State.leaveService State.dropForces
  refine Untouched.ite (h.setDebug (h.frame (Untouched.each k _ fun _ _ hv => ?_) (releaseScopes_frame _)) 0 reason p) k
  exact Untouched.ite (h.frame hv ((setSrc_frame _ _ _).trans (dropSrc_frame _ _))) hv

theorem Untouched.leaveRun (dest : SeatState) : P (t.leaveRun dest) = a :=
  h.modRed (h.releaseClaim k dest) _

theorem Untouched.enterSafe (reason p : Nat) : P (t.enterDev .safe reason p) = a := by
  unfold State.enterDev
  extract_lets old at_ u b c d e f
  rw [if_neg (show ¬ DevState.safe = DevState.run by decide)]
  have hu : P u = a := h.modDev k _
  have hb : P b = a := h.frame hu (logKind_frame _ _ _ _)
  have hc : P c = a := Untouched.ite (h.leaveRun hb _) hb
  have hd : P d = a := h.abortTests hc _
  have he : P e = a := Untouched.ite (h.leaveService hd _ _) hd
  exact Untouched.ite k (h.abortRuns he _)

theorem Untouched.holdExciters : P t.holdExciters = a :=
  Untouched.each k _ fun _ _ hv =>
    Untouched.ite (h.frame (h.modExc (h.modExc hv _ _) _ _) (gone_frame _ _)) hv

/-- The end of the command. -/
theorem Untouched.settled : P t.settled = a := by
  unfold State.settled
  split
  on_goal 2 => exact k
  refine h.modFloor (t := t.safeEntry) ?_ _
  unfold State.safeEntry
  refine Untouched.ite k ?_
  have hf : P (t.modFloor fun f => { f with deviceSafe := true, safeCnt := min (f.safeCnt + 1) 0xFFFF }) = a :=
    h.modFloor k _
  exact Untouched.ite hf (h.frame (h.holdExciters (h.setSeat (h.enterSafe (h.releaseClaim hf _) _ _) _))
    (showOutputs_frame _))

end

/-! ### The release of the reset (R325, R353) -/

/-- The straps and the floor test as latched. -/
def State.straps (s : State) : BitVec 2 × Bool := (s.red.seat, s.floor.testOk)

theorem straps_untouched : Untouched State.straps where
  raised h := Prod.ext (by rw [State.straps, h.red]; rfl) h.counts.1
  reg _ _ _ _ := rfl
  parts _ _ _ _ _ _ _ _ _ _ _ := rfl
  inj _ _ _ := rfl
  red s r h := Prod.ext h rfl
  floor s f h := Prod.ext rfl h

/-- The bank that boots (R325): the one of the newest selection, the other where it alone is bootable. -/
def State.bootBank (s : State) (b : Bool) : Bool := if s.bootable b = false ∧ s.bootable (!b) = true then !b else b

/-- What the selection of the bank leaves: the selection records and the running bank move, a revert is counted, logged
and reported, and either raises. -/
structure SelectFrame (s t : State) : Prop where
  time : t.time = s.time
  log : t.log = s.log
  store : t.store = s.store
  sup : t.sup = s.sup
  straps : t.straps = s.straps
  src : ∀ j, j ≠ 1029 → j ≠ 1031 → j ≠ 1032 → t.src j = s.src j

theorem SelectFrame.trans {s t u : State} (h : SelectFrame s t) (g : SelectFrame t u) : SelectFrame s u where
  time := g.time.trans h.time
  log := g.log.trans h.log
  store := g.store.trans h.store
  sup := g.sup.trans h.sup
  straps := g.straps.trans h.straps
  src := fun j ho hr hb => (g.src j ho hr hb).trans (h.src j ho hr hb)

theorem RaiseFrame.select {s t : State} (h : RaiseFrame s t) (hs : ∀ j, j ≠ 1029 → j ≠ 1031 → j ≠ 1032 → t.src j = s.src j) :
    SelectFrame s t := ⟨h.time, h.log, h.store, h.sup, straps_untouched.raised h, hs⟩

theorem modUpd_select (s : State) (f : Upd → Upd) : SelectFrame s (s.modUpd f) :=
  ⟨rfl, rfl, rfl, rfl, rfl, fun _ _ _ _ => rfl⟩

theorem writeSel_select (s : State) (a p t : Bool) : SelectFrame s (s.writeSel a p t) := by
  unfold State.writeSel
  extract_lets i o c r u
  have hu : SelectFrame s u := by
    by_cases h : s.upd.sel[i].active ≠ a
    · rw [show u = s.bump Reg.FW_SWITCH_CNT from if_pos h]
      exact ⟨rfl, rfl, rfl, rfl, rfl, fun _ _ _ _ => rfl⟩
    · rw [show u = s from if_neg h]
      exact modUpd_select s id
  exact hu.trans (modUpd_select u _)

theorem revertBank_select (s : State) (d : Nat) : SelectFrame s (s.revertBank d) := by
  unfold State.revertBank
  extract_lets old prev u
  have hu : SelectFrame s u := (writeSel_select s _ _ _).trans (modUpd_select _ _)
  have hp : SelectFrame s (u.pulse 1031) :=
    hu.trans ((pulse_frame u 1031).select fun j ho hr _ => pulse_src_ne u hr ho)
  exact (hp.trans (modUpd_select _ _)).trans ((logKind_frame _ _ _ _).select fun j ho _ _ => logKind_src _ _ _ (.inl ho))

/-- The banks and the rollback floor stand, and the previous bank runs (R328). -/
theorem revertBank_bank (s : State) (d : Nat) : (s.revertBank d).upd.bank = s.upd.sel[newestSel s.upd.sel].previous ∧
    (s.revertBank d).upd.banks = s.upd.banks ∧ (s.revertBank d).upd.otp = s.upd.otp := by
  unfold State.revertBank State.setUpd
  extract_lets old prev u v
  have hu : u.upd.bank = prev ∧ u.upd.banks = s.upd.banks ∧ u.upd.otp = s.upd.otp := by
    change prev = prev ∧ (s.writeSel prev old false).upd.banks = _ ∧ (s.writeSel prev old false).upd.otp = _
    unfold State.writeSel
    extract_lets i o c r w
    have hw : w.upd = s.upd := by
      change (ite _ _ _ : State).upd = _
      split <;> rfl
    have hbanks : w.upd.banks = s.upd.banks := by rw [hw]
    have hotp : w.upd.otp = s.upd.otp := by rw [hw]
    exact ⟨rfl, hbanks, hotp⟩
  have hv : v.upd.bank = u.upd.bank ∧ v.upd.banks = u.upd.banks ∧ v.upd.otp = u.upd.otp := by
    have hp := (pulse_frame u 1031).upd
    change (u.pulse 1031).upd.bank = _ ∧ (u.pulse 1031).upd.banks = _ ∧ (u.pulse 1031).upd.otp = _
    rw [hp]
    exact ⟨rfl, rfl, rfl⟩
  rw [(logKind_frame v _ _ _).upd]
  exact ⟨hv.1.trans hu.1, hv.2.1.trans hu.2.1, hv.2.2.trans hu.2.2⟩

theorem bootable_congr {s t : State} (hb : t.upd.banks = s.upd.banks) (ho : t.upd.otp = s.upd.otp) (b : Bool) :
    t.bootable b = s.bootable b := by
  unfold State.bootable
  rw [hb, ho]

theorem selectBank_selects (s : State) {r : BankSel} {v : Vector BankSel 2} (hv : s.upd.sel = v)
    (hr : r = (v.map BankSel.checked)[newestSel (v.map BankSel.checked)]) :
    SelectFrame s s.selectBank ∧ s.selectBank.upd.bank = s.bootBank (if r.trial then r.previous else r.active) := by
  subst hv
  unfold State.selectBank
  extract_lets a r' b c d
  have hrr : r' = r := hr.symm
  have hb : SelectFrame s b := (modUpd_select s _).trans (modUpd_select _ _)
  have hc : SelectFrame s c ∧ c.upd.bank = (if r.trial then r.previous else r.active) ∧
      c.upd.banks = s.upd.banks ∧ c.upd.otp = s.upd.otp := by
    rw [← hrr]
    by_cases ht : r'.trial = true
    · rw [show c = b.revertBank 6 from if_pos ht, if_pos ht]
      exact ⟨hb.trans (revertBank_select b 6), revertBank_bank b 6⟩
    · rw [show c = b from if_neg ht, if_neg ht]
      exact ⟨hb, rfl, rfl, rfl⟩
  obtain ⟨hc, hbank, hbanks, hotp⟩ := hc
  have hd : d = if r.trial then r.previous else r.active := hbank
  unfold State.bootBank
  rw [← hd, bootable_congr hbanks hotp, bootable_congr hbanks hotp]
  by_cases h : s.bootable d = false ∧ s.bootable (!d) = true
  · rw [if_pos h, if_pos (by rw [h.1, h.2]; rfl)]
    refine ⟨(hc.trans (modUpd_select c _)).trans ((pulse_frame _ 1032).select fun j ho _ hb => pulse_src_ne _ hb ho), ?_⟩
    rw [(pulse_frame _ 1032).upd]
    rfl
  · rw [if_neg h, if_neg fun h' => h (by
      rw [Bool.and_eq_true, Bool.not_eq_true'] at h'
      exact h')]
    exact ⟨hc, rfl⟩

/-- What is raised at the release of the reset: the floor test, the straps and the analogue supply. -/
theorem resetRelease_latches {strap : BitVec 2} {clk ok : Bool} {s : State} {r : BankSel} (ho : s.floorOn = true)
    (hre : s.sup.reset = true)
    (hr : r = (s.upd.sel.map BankSel.checked)[newestSel (s.upd.sel.map BankSel.checked)]) :
    ∃ t, exec (.resetRelease strap clk ok) s = .next t ∧
      t.sup = { s.sup with reset := false, strap := strap, clksel := clk } ∧ t.red.seat = strap ∧ t.floor.testOk = ok ∧
      t.time = s.time ∧ t.log = s.log ∧ t.store = s.store ∧ (strap = 3 → (t.src 907).cond = true) ∧
      (s.sup.vanaHold = true → (t.src 9).cond = true) ∧
      t.upd.bank = s.bootBank (if r.trial then r.previous else r.active) := by
  have hexec : exec (.resetRelease strap clk ok) s = execResetRelease strap clk ok s := rfl
  unfold execResetRelease at hexec
  rw [if_pos (by rw [ho, hre]; rfl)] at hexec
  extract_lets a b c d e at hexec
  have hb : b.time = s.time ∧ b.log = s.log ∧ b.store = s.store ∧ b.upd = s.upd ∧
      b.sup = { s.sup with reset := false, strap := strap, clksel := clk } ∧ b.red.seat = strap ∧ b.floor.testOk = ok :=
    ⟨rfl, rfl, rfl, rfl, rfl, rfl, rfl⟩
  have hc : RaiseFrame b c := by
    by_cases h : ok = true
    · rw [show c = b from if_pos h]
      exact .refl b
    · rw [show c = b.pulse 2 from if_neg h]
      exact pulse_frame b 2
  have hd : RaiseFrame c d ∧ (strap = 3 → (d.src 907).cond = true) := by
    by_cases h : strap = 3
    · rw [show d = c.raise 907 from if_pos h]
      exact ⟨raise_frame c 907, fun _ => raise_cond c (by decide)⟩
    · rw [show d = c from if_neg h]
      exact ⟨.refl c, fun h' => absurd h' h⟩
  have he : RaiseFrame d e ∧ (s.sup.vanaHold = true → (e.src 9).cond = true) ∧ (e.src 907) = d.src 907 := by
    have hv : d.sup.vanaHold = s.sup.vanaHold := by rw [hd.1.sup, hc.sup]; rfl
    rw [← hv]
    by_cases h : d.sup.vanaHold = true
    · rw [show e = d.raise 9 from if_pos h]
      exact ⟨raise_frame d 9, fun _ => raise_cond d (by decide), raiseWith_src_ne d _ (by decide) (by decide)⟩
    · rw [show e = d from if_neg h]
      exact ⟨.refl d, fun h' => absurd h' h, rfl⟩
  have hbe : RaiseFrame b e := (hc.trans hd.1).trans he.1
  obtain ⟨hsel, hbank⟩ := selectBank_selects e (v := s.upd.sel) (by rw [hbe.upd]; rfl) hr
  have hset := (settled_safe e.selectBank).1
  have hstrap : e.selectBank.settled.straps = (strap, ok) :=
    straps_untouched.settled (hsel.straps.trans (straps_untouched.raised hbe))
  have hsrc : ∀ j, j ≠ 1029 → j ≠ 1031 → j ≠ 1032 → takenBack j = false →
      (e.selectBank.settled.src j).cond = (e.src j).cond := fun j ho hr hb ht => by
    rw [(settled_src _ ht).1, hsel.src j ho hr hb]
  refine ⟨_, hexec, ?_, congrArg Prod.fst hstrap, congrArg Prod.snd hstrap, ?_, ?_, ?_, fun h => ?_, fun h => ?_, ?_⟩
  · exact hset.sup.trans (hsel.sup.trans hbe.sup)
  · exact hset.time.trans (hsel.time.trans hbe.time)
  · exact hset.log.trans (hsel.log.trans hbe.log)
  · exact hset.store.trans (hsel.store.trans hbe.store)
  · rw [hsrc 907 (by decide) (by decide) (by decide) (by decide), he.2.2]
    exact hd.2 h
  · rw [hsrc 9 (by decide) (by decide) (by decide) (by decide)]
    exact he.2.1 h
  · rw [hset.upd]
    refine hbank.trans ?_
    unfold State.bootBank
    have hbanks : e.upd.banks = s.upd.banks := by
      rw [hbe.upd]
      rfl
    have hotp : e.upd.otp = s.upd.otp := by
      rw [hbe.upd]
      rfl
    rw [bootable_congr hbanks hotp, bootable_congr hbanks hotp]

/-! ### Clocks and the dictionary service (R238, R332, R350, R354) -/

theorem each_modLnk (s : State) (f : Link → Link) :
    ∃ v : Vector Link 2, (s.each (List.finRange 2) fun s k => s.modLnk k f) = { s with lnk := v } ∧
      ∀ k : Fin 2, v[k] = f s.lnk[k] := by
  refine ⟨vmod (vmod s.lnk 0 f) 1 f, rfl, fun k => ?_⟩
  match k with
  | 0 => exact (vmod_ne _ f (by decide)).trans (vmod_self s.lnk 0 f)
  | 1 => exact (vmod_self _ 1 f).trans (congrArg f (vmod_ne s.lnk f (by decide)))

theorem pllLock_starts {s : State} (c : s.Calm) (ho : s.floorOn = true) (hr : s.sup.reset = false)
    (hp : s.sup.pll = false) :
    ∃ t, exec .pllLock s = .next t ∧ RaiseFrame { s with sup := { s.sup with pll := true }, lnk := t.lnk } t ∧
      (t.src 4).cond = false ∧ (t.src 5).cond = false ∧
      ∀ k : Fin 2, t.lnk[k] = { s.lnk[k] with state := .aligning } := by
  have hexec : exec .pllLock s = execPllLock s := rfl
  unfold execPllLock at hexec
  rw [if_pos (by rw [ho, hr, hp]; rfl)] at hexec
  extract_lets b at hexec
  obtain ⟨a, ha⟩ : ∃ a, a = s.modSup fun x => { x with pll := true } := ⟨_, rfl⟩
  have ca : a.Calm := by
    rw [ha]
    exact c
  have hb : b = (a.gone 4).gone 5 := ha ▸ rfl
  clear_value b
  have hab : RaiseFrame a b := hb ▸ (gone_frame a 4).trans (gone_frame _ 5)
  have cb : b.Calm := hb ▸ gone_calm _ 5 (gone_calm a 4 ca)
  have hlnk : b.lnk = s.lnk := hab.lnk.trans (by rw [ha]; rfl)
  obtain ⟨v, hv, hvk⟩ := each_modLnk b fun l => { l with state := .aligning }
  rw [hv] at hexec
  have cv : ({ b with lnk := v } : State).Calm := cb
  refine ⟨_, hexec.trans (done_calm _ cv), ?_, ?_, ?_, fun k => ?_⟩
  · subst ha
    exact { hab with lnk := rfl, reg := hab.reg, wf := hab.wf }
  · change (b.src 4).cond = false
    rw [hb, gone_src_ne _ (by decide)]
    exact gone_cond a 4
  · change (b.src 5).cond = false
    rw [hb]
    exact gone_cond _ 5
  · rw [← hlnk]
    exact hvk k

theorem dictService_not_bootable {s : State} (c : s.Calm) (hb : s.bootable s.upd.bank = false) :
    exec .dictServiceReady s = .next s :=
  (if_neg (by rw [hb, Bool.and_false]; decide)).trans (done_calm s c)

/-- The newest record that a good log leaves gives the next sequence number (R320, R321). -/
def nextLogSeq (recs : List (Nat × Bytes)) : Nat :=
  match recs with
  | x :: _ => (x.1 + 1) % 2 ^ 32
  | [] => 0

theorem nextLogSeq_head {recs : List (Nat × Bytes)} {x : Nat × Bytes} (h : x ∈ recs.head?) :
    nextLogSeq recs = (x.1 + 1) % 2 ^ 32 := by
  cases recs with
  | nil => cases h
  | cons y l =>
    cases Option.some.inj h
    rfl


/-- The state that the service starts from, but for the log's damaged records. -/
def State.served (s : State) : State :=
  { s with
    sec := { s.sec with
      keyOperator := s.sec.keyOperator.filter fun k => s.sec.crcOperator = crc32 k
      keyIntegrator := s.sec.keyIntegrator.filter fun k => s.sec.crcIntegrator = crc32 k }
    log := { recs := s.log.recs.filter fun x => logOk x.2, nextSeq := nextLogSeq (s.log.recs.filter fun x => logOk x.2) } }

def State.logDamage (s : State) : Nat := (s.log.recs.drop 1).countP fun x => !logOk x.2

theorem checkLog_eq (s : State) : s.checkKeys.checkLog =
    if s.logDamage = 0 then s.served
    else (s.served.setReg Reg.LOG_BAD_CNT (satAdd 32 (s.reg Reg.LOG_BAD_CNT) (Int.ofNat s.logDamage))).pulse 1028 := rfl

/-- The state that the service starts from, with its log's damaged records counted and raised. -/
def State.servedDamaged (s : State) : State :=
  s.served.setReg Reg.LOG_BAD_CNT (satAdd 32 (s.reg Reg.LOG_BAD_CNT) (Int.ofNat s.logDamage))

theorem servedDamaged_facts {s : State} (c : s.Calm) (m : s.Mild 1028) : s.servedDamaged.Calm ∧ s.servedDamaged.Mild 1028 ∧
    s.servedDamaged.now = s.now ∧ s.servedDamaged.sec = s.served.sec ∧ s.servedDamaged.log = s.served.log ∧
    s.servedDamaged.reg Reg.LOG_BAD_CNT = satAdd 32 (s.reg Reg.LOG_BAD_CNT) (Int.ofNat s.logDamage) ∧
    (∀ j, j ≠ Reg.LOG_BAD_CNT → s.servedDamaged.reg j = s.reg j) ∧
    s.servedDamaged = { s with regs := s.servedDamaged.regs, sec := s.served.sec, log := s.served.log } := by
  have hk : Reg.LOG_BAD_CNT < 0x500000 ∨ 0x550000 ≤ Reg.LOG_BAD_CNT := by decide
  exact ⟨setReg_calm s.served hk _ c, setReg_mild s.served hk _ (by decide) m, rfl, rfl, rfl, State.reg_setReg s.served _ _,
    fun j hj => State.reg_setReg_ne s.served _ (Ne.symm hj), rfl⟩

theorem exec_dictServiceReady {s : State} (ha : s.alive = true) (hs : s.mgmt.service = false)
    (hb : s.bootable s.upd.bank = true) {u : State} (hu : s.checkKeys.checkLog = u) :
    exec .dictServiceReady s = done (u.modMgmt fun m => { m with service := true, restartAt := u.now }) := by
  have hexec : exec .dictServiceReady s = execDictServiceReady s := rfl
  unfold execDictServiceReady at hexec
  rw [if_pos (by rw [ha, hs, hb]; rfl), hu] at hexec
  exact hexec

theorem dictService_starts {s : State} (c : s.Calm) (ha : s.alive = true) (hs : s.mgmt.service = false)
    (hb : s.bootable s.upd.bank = true) (m : s.Mild 1028) :
    ∃ t, exec .dictServiceReady s = .next t ∧
      RaiseFrame { s with mgmt := { s.mgmt with service := true, restartAt := s.now }, log := t.log, sec := t.sec, regs := t.regs } t ∧
      t.sec = s.served.sec ∧ t.log = s.served.log ∧ s.SameRegs t [Reg.LOG_BAD_CNT, Reg.FC_LOG_LOST] ∧
      (s.logDamage = 0 → t.regs = s.regs ∧ t.fc = s.fc) ∧
      (s.logDamage ≠ 0 → t.reg Reg.LOG_BAD_CNT = satAdd 32 (s.reg Reg.LOG_BAD_CNT) (Int.ofNat s.logDamage)) := by
  by_cases h : s.logDamage = 0
  · have hexec := exec_dictServiceReady ha hs hb ((checkLog_eq s).trans (if_pos h))
    have cu : s.served.Calm := c
    exact ⟨_, hexec.trans (done_calm _ cu), .refl _, rfl, rfl, fun _ _ => rfl, fun _ => ⟨rfl, rfl⟩, fun h' => absurd h h'⟩
  · obtain ⟨cw, mw, hnow, hsec, hlog, hbad, hregs, hw⟩ := servedDamaged_facts c m
    have hexec := exec_dictServiceReady ha hs hb ((checkLog_eq s).trans (if_neg h))
    change _ = done ((s.servedDamaged.pulse 1028).modMgmt fun m =>
      { m with service := true, restartAt := (s.servedDamaged.pulse 1028).now }) at hexec
    generalize s.servedDamaged = w at *
    have hframe := pulse_frame w 1028
    have hcalm := pulse_calm w 1028 (.inr mw) cw
    generalize w.pulse 1028 = v at *
    refine ⟨_, hexec.trans (done_calm _ hcalm), ?_, hframe.sec.trans hsec, hframe.log.trans hlog, fun j hj => ?_,
      fun h' => absurd h' h, fun _ => (hframe.reg _ (by decide)).trans hbad⟩
    · rw [hw] at hframe
      exact { hframe with
        mgmt := by rw [hframe.now]; exact congrArg (fun m : Mgmt => { m with service := true, restartAt := s.now }) hframe.mgmt
        log := rfl, sec := rfl, reg := fun _ _ => rfl, wf := id }
    · rw [List.mem_cons, List.mem_singleton, not_or] at hj
      exact (hframe.reg j hj.2).trans (hregs j hj.1)

theorem logDamage_zero (s : State) : s.logDamage = 0 ↔ (s.log.recs.drop 1).all (fun x => logOk x.2) = true := by
  unfold State.logDamage
  rw [List.countP_eq_zero, List.all_eq_true]
  simp only [Bool.not_eq_true', Bool.not_eq_false]

/-! ### Every clause -/

theorem vioPorRelease_floor {s : State} (h : s.sup.vio = false) :
    ∃ t, exec .vioPorRelease s = .next t ∧ t = { s.afterReset with
      floor := { State.reset.floor with since := s.now }, sup := { s.afterReset.sup with vio := true } } :=
  ⟨_, (show exec .vioPorRelease s = _ from if_neg (by rw [h]; decide)).trans (done_quiet rfl), rfl⟩

/-- In reset the balls are off, low or high as R355 says. -/
theorem balls_inReset {s : State} (hv : s.sup.vio = true) (hr : s.sup.reset = true) :
    s.ballCore .okay = .low ∧ s.ballCore .clmOut = .low ∧
    (∀ h, s.ballCore (.rdy h) = .low ∧ s.ballCore (.miso h) = .hiz) ∧ (∀ c, s.ballCore (.canTx c) = .high) ∧
    ∀ k i, s.ballCore (.ethOut k i) = .low ∧ s.ballCore (.mdc k) = .low ∧ s.ballCore (.mdio k) = .hiz := by
  unfold State.ballCore State.okay State.hspRdy State.alive
  simp only [hv, hr]
  refine ⟨?_, rfl, fun _ => ⟨?_, rfl⟩, fun _ => rfl, fun _ _ => ⟨rfl, rfl, rfl⟩⟩ <;> simp [outBit]

/-- Settles O59: a reset keeps what `afterReset` and `keepSrc` name, the release selects the bank by its record, and each
hold, lock and service start changes its own part. -/
theorem resetsReleasesAndHoldsOfTheSupplies : Obligations.ResetsReleasesAndHoldsOfTheSupplies := by
  unfold Obligations.ResetsReleasesAndHoldsOfTheSupplies
  refine ⟨fun s c => ⟨⟨_, done_quiet rfl, rfl⟩, fun h => (if_pos h).trans (done_calm s c), vioPorRelease_floor,
      fun r ho => ?_, fun r ho => (if_neg (by rw [ho]; decide)).trans (done_calm s c)⟩,
    fun s => ⟨rfl, rfl, rfl, rfl, rfl, rfl, rfl, rfl, rfl, rfl, rfl, rfl, rfl, rfl, rfl, rfl, rfl, rfl, rfl, rfl, rfl,
      fun q => ?_, fun k => ?_, fun e => ?_⟩,
    fun s => ⟨fun h b => ?_, balls_inReset, fun h e => ?_⟩,
    fun strap clk ok s r c ho hre hr => ?_,
    fun s c ho hr hp => pllLock_starts c ho hr hp,
    fun s c ha hs => ⟨fun hb m => ?_, dictService_not_bootable c⟩,
    fun s c => ⟨done_calm _ c, done_calm _ c, done_calm _ c, done_calm _ c, done_calm _ c⟩⟩
  · obtain ⟨t, hexec, ht, hfc⟩ := deviceReset_keeps c r ho
    exact ⟨t, hexec, ht, fun hw id => keepSrc_kept (by rw [State.src, hfc]; exact keepFc_find hw id)⟩
  · simp only [State.afterReset, Fin.getElem_fin, Vector.getElem_ofFn]
    match q with
    | 0 => exact ⟨trivial, trivial, rfl⟩
    | 1 => exact ⟨trivial, trivial, rfl⟩
  · simp only [State.afterReset, Fin.getElem_fin, Vector.getElem_ofFn]
    match k with
    | 0 => rfl
    | 1 => rfl
  · simp only [State.afterReset, Fin.getElem_fin, Vector.getElem_ofFn]
    match e with
    | 0 => rfl
    | 1 => rfl
    | 2 => rfl
    | 3 => rfl
  · exact if_pos (by rw [h]; rfl)
  · exact if_pos (by rcases h with h | h <;> simp [h])
  · obtain ⟨t, h⟩ := resetRelease_latches (strap := strap) (clk := clk) (ok := ok) ho hre hr
    exact ⟨t, h⟩
  · obtain ⟨t, hexec, hframe, hsec, hlog, hregs, hgood, hbad⟩ := dictService_starts c ha hs hb m
    refine ⟨t, hexec, hframe, hsec, by rw [hlog]; rfl, fun x hx => ?_, hregs, fun h => hgood ((logDamage_zero s).2 h),
      fun h => hbad fun h' => ?_⟩
    · rw [hlog] at hx ⊢
      exact nextLogSeq_head hx
    · rw [(logDamage_zero s).1 h'] at h
      cases h

end Sys2Proof.Machine
end

section
/-!
PROOFS. A probe asked for, granted and begun (R68, R128, R318).
-/

namespace Sys2Proof.Machine

set_option Elab.async false

/-- A request at an idle domain of a channel is granted at once (R318). -/
theorem schedDo_idle {s : State} {n : ChId} {a : Activity} (h : s.sched[chDomain n] = {}) (ha : a ≠ .cal) :
    s.schedDo (chDomain n) a =
      (.run, s.modSched (chDomain n) fun x => { x with running := some a, since := s.now, edge := some s.now }) := by
  have hrun : s.sched[chDomain n].running = none := by rw [h]
  have hpend : s.sched[chDomain n].pending = none := by rw [h]
  have hask : s.schedAsk (chDomain n) a = .run := by
    unfold State.schedAsk
    simp only [hrun, hpend, ha]
    simp
  have hpre : s.preempt ⟨(chDomain n).val, n.isLt⟩ = s := by
    unfold State.preempt
    dsimp only
    rw [show s.sched[chDomain ⟨(chDomain n).val, n.isLt⟩].running = none from hrun]
  unfold State.schedDo
  rw [hask]
  simp only [hrun, dif_pos (show (chDomain n).val < 16 from n.isLt), startActivity_chan]
  rw [hpre]
  rfl

/-- A probe asked for at an idle domain, before the mark that CH_RREF_LEARN adds. -/
def State.probed (s : State) (n : ChId) : State :=
  match s.probeBar n with
  | some b => s.setProbe n b
  | none =>
    (s.modSched (chDomain n) fun x =>
      { x with running := some .probe, since := s.now, edge := some s.now }).setProbe n .pending

theorem probeAsk_idle {s : State} {n : ChId} (hm : s.reg (Reg.CH_PROBE_MODE n) ≠ 0) (h : s.sched[chDomain n] = {}) :
    s.probeAsk n = .ok (s.probed n) := by
  unfold State.probeAsk State.probed
  rw [need_true _ (decide_eq_true hm), schedDo_idle h (by decide)]
  cases s.probeBar n <;> rfl

theorem probeAsk_off {s : State} {n : ChId} (hm : s.reg (Reg.CH_PROBE_MODE n) = 0) : s.probeAsk n = .error nakCond := by
  unfold State.probeAsk
  rw [need_false _ (decide_eq_false (not_not.2 hm))]
  rfl

/-- Why a probe may not run, in the statement's cases. -/
theorem probeBar_freq {s : State} {n : ChId} (h : s.ch[n].state = .track ∨ s.ch[n].state = .off) :
    s.probeBar n = if s.probeFreqBad n then some .deferredFreq else none := by
  unfold State.probeBar
  exact if_neg (by rcases h with h | h <;> simp only [h] <;> decide)

theorem probed_frame (s : State) (n : ChId) :
    s.probed n = { s with front := (s.probed n).front, sched := (s.probed n).sched } := by
  unfold State.probed
  cases s.probeBar n <;> rfl

theorem probed_front (s : State) (n : ChId) :
    (∃ b, (s.probed n).front[n] = { s.front[n] with probe := b }) ∧ ∀ m, m ≠ n → (s.probed n).front[m] = s.front[m] := by
  unfold State.probed
  cases s.probeBar n with
  | some b => exact ⟨⟨_, modFront_self s n _⟩, fun m hm => modFront_ne s _ hm⟩
  | none => exact ⟨⟨_, modFront_self _ n _⟩, fun m hm => modFront_ne _ _ hm⟩

theorem probed_asked (s : State) (n : ChId) : s.ProbeAsked (s.probed n) n := by
  refine ⟨(probed_front s n).2, fun d hd => ?_, fun h => ?_, fun h => ⟨fun hf => ?_, fun hf => ?_⟩⟩
  · unfold State.probed
    cases s.probeBar n with
    | some b => rfl
    | none => exact modSched_ne s _ hd
  · rw [State.probed, probeBar_state h.1 h.2]
    exact ⟨congrArg Front.probe (modFront_self s n _), rfl⟩
  · rw [State.probed, probeBar_freq h, if_pos hf]
    exact ⟨congrArg Front.probe (modFront_self s n _), rfl⟩
  · rw [State.probed, probeBar_freq h, if_neg (by rw [hf]; decide)]
    exact ⟨congrArg Front.probe (modFront_self _ n _), congrArg Sched.running (modSched_self s _ _)⟩

/-- What the beat of a port's heartbeat leaves of a request. -/
theorem probed_beat (s : State) (p : Port) (n : ChId) : s.ProbeAsked ((s.beat p).probed n) n := probed_asked (s.beat p) n

theorem probePeriodDue_asks {n : ChId} {s : State} (c : s.Calm) (ha : s.alive = true)
    (hm : s.reg (Reg.CH_PROBE_MODE n) = 1) (h : s.sched[chDomain n] = {}) :
    exec (.probePeriodDue n) s = .next (s.probed n) := by
  have hoffer : s.probeOffer n = s.probed n := by
    unfold State.probeOffer
    rw [probeAsk_idle (by rw [hm]; decide) h]
  refine (if_pos (by rw [ha, hm]; rfl)).trans ((congrArg done hoffer).trans (done_quiet ?_))
  rw [probed_frame]
  exact c.1

theorem chProbeStart_asks {p : Port} {n : ChId} {s : State} (c : s.Calm) (ha : s.AdmitsCmd p (Reg.CH_PROBE_START n))
    (hm : s.reg (Reg.CH_PROBE_MODE n) ≠ 0) (h : s.sched[chDomain n] = {}) :
    exec (.chProbeStart p n) s = .next ((s.beat p).probed n) :=
  hostWrite_next ha (probeAsk_idle (s := s.beat p) hm h) (by rw [probed_frame]; exact c.1)

theorem chProbeStart_refused {p : Port} {n : ChId} {s : State} (c : s.Calm) (ha : s.AdmitsCmd p (Reg.CH_PROBE_START n))
    (hm : s.reg (Reg.CH_PROBE_MODE n) = 0) :
    ∃ t, exec (.chProbeStart p n) s = .next t ∧ s.RefusedAs t p (Reg.CH_PROBE_START n) nakCond :=
  hostWrite_refusedAs c ha (probeAsk_off (s := s.beat p) hm) (by decide) (by decide)

theorem chRrefLearn_asks {p : Port} {n : ChId} {s : State} (c : s.Calm) (ha : s.AdmitsCmd p (Reg.CH_RREF_LEARN n))
    (hm : s.reg (Reg.CH_PROBE_MODE n) ≠ 0) (h : s.sched[chDomain n] = {}) :
    ∃ t, exec (.chRrefLearn p n) s = .next t ∧ t = { s.beat p with front := t.front, sched := t.sched } ∧
      s.ProbeAsked t n ∧ t.front[n].learn = true := by
  obtain ⟨u, hu⟩ : ∃ u, u = (s.beat p).probed n := ⟨_, rfl⟩
  have hframe := hu ▸ probed_frame (s.beat p) n
  obtain ⟨hother, hsched, hstate, hok⟩ := hu ▸ probed_beat s p n
  have hself := modFront_self u n fun f => { f with learn := true }
  refine ⟨u.modFront n fun f => { f with learn := true }, hostWrite_next ha ?_ ?_, ?_,
    ⟨fun m hm => (modFront_ne u _ hm).trans (hother m hm), hsched, fun h => ?_, fun h => ⟨fun hf => ?_, fun hf => ?_⟩⟩,
    congrArg Front.learn hself⟩
  · unfold effRrefLearn
    rw [probeAsk_idle (s := s.beat p) hm h, hu]
    rfl
  · rw [hframe]
    exact c.1
  · rw [hframe]
    rfl
  · exact ⟨(congrArg Front.probe hself).trans (hstate h).1, (hstate h).2⟩
  · exact ⟨(congrArg Front.probe hself).trans ((hok h).1 hf).1, ((hok h).1 hf).2⟩
  · exact ⟨(congrArg Front.probe hself).trans ((hok h).2 hf).1, ((hok h).2 hf).2⟩

/-! ### A probe begins (R63, R128) -/

theorem modCal_self (s : State) (n : ChId) (f : Cal → Cal) : (s.modCal n f).cal[n] = f s.cal[n] := vmod_self s.cal n f

theorem modCal_ne (s : State) {n m : ChId} (f : Cal → Cal) (h : m ≠ n) : (s.modCal n f).cal[m] = s.cal[m] :=
  vmod_ne s.cal f h.symm

theorem calPause_cal (s : State) (n : ChId) (r : Nat) :
    s.calPause n r = { s with cal := (s.calPause n r).cal } ∧ (∀ m, m ≠ n → (s.calPause n r).cal[m] = s.cal[m]) ∧
    (s.cal[n].state = .acquire → (s.calPause n r).cal[n] =
      { s.cal[n] with state := .paused, pause := r, window := none, gates := false }) ∧
    (s.cal[n].state ≠ .acquire → (s.calPause n r).cal[n] = s.cal[n]) := by
  unfold State.calPause
  by_cases h : s.cal[n].state = .acquire
  · rw [if_pos h]
    exact ⟨rfl, fun m hm => modCal_ne s _ hm, fun _ => modCal_self s n _, fun h' => absurd h h'⟩
  · rw [if_neg h]
    exact ⟨rfl, fun _ _ => rfl, fun h' => absurd h' h, fun _ => rfl⟩

theorem probeRun_begins {n : ChId} {s : State} (c : s.Calm) (hl : s.lanesOn = true) (hp : s.front[n].probe = .pending)
    (hr : s.sched[chDomain n].running = some .probe) (hb : s.probeBar n = none) :
    exec (.probeRun n) s = .next ((s.modFront n fun f =>
      { f with probe := .running, probeRun := { crossings := if s.exc[s.excIx n].state = .run then 0 else 1 } }).calPause n 5) := by
  refine (if_pos (by rw [hl, hp, hr]; rfl)).trans ((if_neg (by rw [hb]; decide)).trans (done_quiet ?_))
  rw [(calPause_cal _ n 5).1]
  exact c.1

theorem probeRun_deferred {n : ChId} {s : State} (c : s.Calm) (hl : s.lanesOn = true) (hp : s.front[n].probe = .pending)
    (hr : s.sched[chDomain n].running = some .probe) {b : ProbeState} (hb : s.probeBar n = some b) :
    exec (.probeRun n) s = .next ((s.modFront n fun f => { f with probe := b }).modSched (chDomain n)
      (Sched.withdrawn s.now .probe)) := by
  refine (if_pos (by rw [hl, hp, hr]; rfl)).trans ((if_pos (by rw [hb]; rfl)).trans ?_)
  rw [probeRecheck_barred hb (.inl hp)]
  exact done_quiet c.1

/-- Settles O22: a request at an idle domain is deferred by what bars it or granted, and a granted probe begins or is
deferred by the same rule. -/
theorem probesAreGrantedDeferredAndRun : Obligations.ProbesAreGrantedDeferredAndRun := by
  refine ⟨fun n s c ha hm h => ⟨_, probePeriodDue_asks c ha hm h, probed_frame s n, probed_asked s n⟩,
    fun p n s c ha => ⟨fun hm h => ?_, chProbeStart_refused c ha⟩, fun p n s c ha hm h => chRrefLearn_asks c ha hm h,
    fun n s c hl hp hr => ⟨fun hb => ?_, fun b hb => ?_⟩⟩
  · obtain ⟨b, hb⟩ := (probed_front (s.beat p) n).1
    exact ⟨_, chProbeStart_asks c ha hm h, probed_frame (s.beat p) n, probed_beat s p n, by rw [hb]; rfl⟩
  · refine ⟨_, probeRun_begins c hl hp hr hb, ?_⟩
    obtain ⟨u, hu⟩ : ∃ u, u = s.modFront n fun f =>
      { f with probe := .running, probeRun := { crossings := if s.exc[s.excIx n].state = .run then 0 else 1 } } := ⟨_, rfl⟩
    obtain ⟨hframe, hother, hpaused, hstands⟩ := calPause_cal u n 5
    rw [← hu]
    have hfront : (u.calPause n 5).front = u.front := by rw [hframe]
    have hcal : u.cal = s.cal := by rw [hu]; rfl
    rw [hcal] at hother hpaused hstands
    refine ⟨?_, ?_, fun m hm => ⟨?_, hother m hm⟩, hpaused, hstands⟩
    · rw [hframe, hu]
      rfl
    · rw [hfront, hu]
      exact modFront_self s n _
    · rw [hfront, hu]
      exact modFront_ne s _ hm
  · exact ⟨_, probeRun_deferred c hl hp hr hb, rfl, modFront_self s n _, fun m hm => modFront_ne s _ hm,
      (congrArg (fun x : Sched => x.running ≠ some .probe) (modSched_self _ _ _)).mpr (withdrawn_probe _ _),
      fun d hd => modSched_ne _ _ hd⟩

end Sys2Proof.Machine
end

section
/-!
PROOFS. Loop tests by their commands, and the arming of a capture (R86 to R92, R318).
-/

namespace Sys2Proof.Machine

set_option Elab.async false

/-! ### A test is asked for (R87, R318) -/

/-- A test as it begins: the channel's visible parameters, running. -/
theorem beginTest_ch (s : State) (n : ChId) :
    (s.beginTest n).ch[n] = { s.ch[n] with inj := { s.injParams n with state := .running } } := modCh_self s n _

theorem beginTest_ch_ne (s : State) {n m : ChId} (h : m ≠ n) : (s.beginTest n).ch[m] = s.ch[m] := modCh_ne s _ h

theorem injStart_granted {p : Port} {n : ChId} {s : State} (c : s.Calm) (ha : s.AdmitsCmd p (Reg.CH_INJ_START n))
    (ht : s.testAllowed n = true) (h : s.sched[chDomain n] = {}) :
    exec (.chInjStart p n) s = .next (((s.beat p).modSched (chDomain n) fun x =>
      { x with running := some .test, since := s.now, edge := some s.now }).beginTest n) := by
  refine hostWrite_next ha ?_ c.1
  unfold effInjStart
  rw [need_true _ (show (s.beat p).testAllowed n = true from ht),
    schedDo_idle (show (s.beat p).sched[chDomain n] = {} from h) (by decide)]
  rfl

/-- A test asked for behind another activity waits for it (R318). -/
theorem schedDo_behind {s : State} {n : ChId} {b : Activity} (hr : s.sched[chDomain n].running = some b)
    (he : s.sched[chDomain n].edge = none) (hp : s.sched[chDomain n].pending = none) :
    s.schedDo (chDomain n) .test = (.pend, s.modSched (chDomain n) fun x => { x with pending := some .test }) := by
  have hask : s.schedAsk (chDomain n) .test = .pend := by
    unfold State.schedAsk
    simp only [hr, he, hp]
    simp
  unfold State.schedDo
  rw [hask]

theorem injStart_waits {p : Port} {n : ChId} {s : State} {b : Activity} (c : s.Calm)
    (ha : s.AdmitsCmd p (Reg.CH_INJ_START n)) (ht : s.testAllowed n = true)
    (hr : s.sched[chDomain n].running = some b) (he : s.sched[chDomain n].edge = none)
    (hp : s.sched[chDomain n].pending = none) (hi : s.ch[n].inj.state ≠ .running) :
    exec (.chInjStart p n) s = .next (((s.beat p).modSched (chDomain n) fun x => { x with pending := some .test }).modCh n
      fun c => { c with inj := { c.inj with state := .pending } }) := by
  refine hostWrite_next ha ?_ c.1
  unfold effInjStart
  rw [need_true _ (show (s.beat p).testAllowed n = true from ht), schedDo_behind (s := s.beat p) hr he hp]
  exact if_neg hi

theorem injStart_refused {p : Port} {n : ChId} {s : State} (c : s.Calm) (ha : s.AdmitsCmd p (Reg.CH_INJ_START n))
    (ht : s.testAllowed n = false) :
    ∃ t, exec (.chInjStart p n) s = .next t ∧ s.RefusedAs t p (Reg.CH_INJ_START n) nakCond := by
  refine hostWrite_refusedAs c ha ?_ (by decide) (by decide)
  unfold effInjStart
  rw [need_false _ (show (s.beat p).testAllowed n = false from ht)]
  rfl

/-! ### The end of a test (R88) -/

/-- A PENDING test that ends does so at once, and leaves its domain. -/
theorem abortTest_pending {s : State} {n : ChId} (reason : Nat) (h : s.ch[n].inj.state = .pending) :
    s.abortTest n reason =
      ((s.modCh n fun c => { c with inj := { c.inj with state := .aborted } }).setReg (Reg.CH_INJ_ABORT n)
        (Int.ofNat reason)).modSched (chDomain n) (Sched.withdrawn s.now .test) := by
  unfold State.abortTest
  rw [h]
  exact schedWithdraw_chan _ n .test

/-- An activity that waited in its domain waits there no more. -/
theorem withdrawn_waiting (now : Nat) {a : Activity} {x : Sched} (hr : x.running = none) (hp : x.pending = some a) :
    (x.withdrawn now a).pending = none := by
  unfold Sched.withdrawn
  rw [hr, if_neg (fun h => by cases h)]
  exact if_pos hp

/-- A running test ends at the next sample boundary, by the first reason that it is given. -/
theorem abortTest_running {s : State} {n : ChId} (reason : Nat) (h : s.ch[n].inj.state = .running) :
    s.abortTest n reason = { s with ch := (s.abortTest n reason).ch } ∧
    (∀ m, m ≠ n → (s.abortTest n reason).ch[m] = s.ch[m]) ∧
    (s.abortTest n reason).ch[n].inj.stopping = some (s.ch[n].inj.stopping.getD (true, reason)) := by
  unfold State.abortTest
  rw [h]
  cases hs : s.ch[n].inj.stopping with
  | some x => exact ⟨rfl, fun _ _ => rfl, hs⟩
  | none => exact ⟨rfl, fun m hm => modCh_ne s _ hm, congrArg (fun c : Chan => c.inj.stopping) (modCh_self s n _)⟩

theorem abortTest_none {s : State} {n : ChId} (reason : Nat) (h₁ : s.ch[n].inj.state ≠ .pending)
    (h₂ : s.ch[n].inj.state ≠ .running) : s.abortTest n reason = s := by
  unfold State.abortTest
  split
  · next h => exact absurd h h₁
  · next h => exact absurd h h₂
  · rfl

theorem injTestBegin_begins {n : ChId} {s : State} (c : s.Calm) (hl : s.lanesOn = true)
    (hi : s.ch[n].inj.state = .pending) (hr : s.sched[chDomain n].running = none)
    (hp : s.sched[chDomain n].pending = some .test) (ht : s.testAllowed n = true) :
    exec (.injTestBegin n) s = .next ((s.modSched (chDomain n) fun x =>
      { x with running := some .test, pending := none, since := s.now, edge := none }).beginTest n) :=
  (if_pos (by rw [hl, hi, hr, hp]; rfl)).trans ((if_pos ht).trans (done_quiet c.1))

theorem injTestBegin_ends {n : ChId} {s : State} (c : s.Calm) (hl : s.lanesOn = true)
    (hi : s.ch[n].inj.state = .pending) (hr : s.sched[chDomain n].running = none)
    (hp : s.sched[chDomain n].pending = some .test) (ht : s.testAllowed n = false) :
    exec (.injTestBegin n) s = .next (s.abortTest n (s.testReason n)) := by
  refine (if_pos (by rw [hl, hi, hr, hp]; rfl)).trans ((if_neg (by rw [ht]; decide)).trans (done_quiet ?_))
  rw [abortTest_pending _ hi]
  exact c.1

theorem injStop_ends {p : Port} {n : ChId} {s : State} (c : s.Calm) (ha : s.AdmitsCmd p (Reg.CH_INJ_STOP n)) :
    exec (.chInjStop p n) s = .next ((s.beat p).abortTest n 1) := by
  refine hostWrite_next ha rfl ?_
  by_cases h₁ : s.ch[n].inj.state = .pending
  · rw [abortTest_pending (s := s.beat p) 1 h₁]
    exact c.1
  · by_cases h₂ : s.ch[n].inj.state = .running
    · rw [(abortTest_running (s := s.beat p) 1 h₂).1]
      exact c.1
    · rw [abortTest_none (s := s.beat p) 1 h₁ h₂]
      exact c.1

/-! ### The capture (R90, R92) -/

/-- A change of every front end. -/
theorem each_modFront (s : State) (f : Front → Front) : ∀ (l : List ChId), l.Nodup →
    ∃ v : Vector Front 16, (s.each l fun s n => s.modFront n f) = { s with front := v } ∧
      ∀ n : ChId, v[n] = if n ∈ l then f s.front[n] else s.front[n] := by
  intro l
  induction l generalizing s with
  | nil => exact fun _ => ⟨s.front, rfl, fun n => (if_neg List.not_mem_nil).symm⟩
  | cons a l ih =>
    intro hl
    obtain ⟨ha, hl⟩ := List.nodup_cons.1 hl
    obtain ⟨v, hv, hvn⟩ := ih (s.modFront a f) hl
    refine ⟨v, hv, fun n => ?_⟩
    rw [hvn n]
    by_cases hn : n = a
    · subst hn
      rw [if_neg ha, if_pos (List.mem_cons_self ..)]
      exact modFront_self s n f
    · rw [modFront_ne s f hn]
      simp [hn]

/-- The capture that CAP_ARM makes. -/
def State.armed (s : State) : Capture :=
  let ring : Bool := s.reg Reg.CAP_MODE = 1
  let c : Capture :=
    { state := if s.reg Reg.CAP_TRIGGER = 0 then .triggered else if ring then .running else .armed
      ring := ring, trigger := s.reg Reg.CAP_TRIGGER, trigTime := t32 (s.reg Reg.CAP_TRIG_TIME), post := s.regN Reg.CAP_POST
      mask := (List.range 16).filter fun n => s.flag (Reg.CH_CAP_EN n)
      decim := (List.range 16).map fun n => s.regN (Reg.CH_CAP_DECIM n)
      recs := [], since := if ring && s.reg Reg.CAP_TRIGGER = 0 then some 0 else none }
  if ring && s.reg Reg.CAP_TRIGGER = 0 && s.regN Reg.CAP_POST = 0 then { c with state := .done } else c

theorem armed_fields (s : State) : s.armed.recs = [] ∧ s.armed.trigger = s.reg Reg.CAP_TRIGGER ∧
    s.armed.ring = decide (s.reg Reg.CAP_MODE = 1) ∧ s.armed.post = s.regN Reg.CAP_POST ∧
    s.armed.mask = (List.range 16).filter (fun n => s.flag (Reg.CH_CAP_EN n)) := by
  unfold State.armed
  dsimp only
  split <;> exact ⟨rfl, rfl, rfl, rfl, rfl⟩

theorem armed_mask (s : State) (n : ChId) : s.armed.mask.contains n.val = s.flag (Reg.CH_CAP_EN n) := by
  rw [(armed_fields s).2.2.2.2, Bool.eq_iff_iff, List.contains_iff_mem, List.mem_filter, List.mem_range]
  exact and_iff_right n.isLt

theorem armed_state (s : State) :
    (s.reg Reg.CAP_TRIGGER ≠ 0 → s.armed.state = if s.reg Reg.CAP_MODE = 1 then .running else .armed) ∧
    (s.reg Reg.CAP_TRIGGER = 0 →
      s.armed.state = if s.reg Reg.CAP_MODE = 1 ∧ s.regN Reg.CAP_POST = 0 then .done else .triggered) := by
  unfold State.armed
  dsimp only
  refine ⟨fun h => ?_, fun h => ?_⟩
  · rw [if_neg (by simp [h])]
    simp [h]
  · by_cases hr : s.reg Reg.CAP_MODE = 1 <;> by_cases hp : s.regN Reg.CAP_POST = 0 <;> simp [h, hr, hp]

theorem capArm_arms {p : Port} {s : State} (c : s.Calm) (ha : s.AdmitsCmd p Reg.CAP_ARM) :
    ∃ t, exec (.capArm p) s = .next t ∧ t = { s.beat p with cap := t.cap, front := t.front } ∧
      (∀ n : ChId, t.front[n] = { s.front[n] with capN := 0 }) ∧ t.cap = s.armed := by
  obtain ⟨v, hv, hvn⟩ := each_modFront ((s.beat p).modCap fun _ => s.armed) (fun f => { f with capN := 0 }) all16
    (List.nodup_finRange 16)
  refine ⟨{ s.beat p with cap := s.armed, front := v }, hostWrite_next ha (congrArg Except.ok hv) c.1, rfl, fun n => ?_, rfl⟩
  exact (hvn n).trans (if_pos (List.mem_finRange n))

/-- Settles O26: a test begins with the visible parameters or waits, ends at once or at the boundary, and a capture is
armed from its configuration. -/
theorem loopTestsAndCapturesFollowTheirCommands : Obligations.LoopTestsAndCapturesFollowTheirCommands := by
  refine ⟨fun p n s c ha => ⟨fun ht h => ?_, fun a hr ht _ he hp hi => ?_, injStart_refused c ha⟩,
    fun n s c hl hi hr hp => ⟨fun ht => ?_, fun ht => ?_⟩, fun p n s c ha => ⟨_, injStop_ends c ha, ?_⟩,
    fun n s c hl hi hs => ?_, fun p s c ha => ?_, fun p s c ha => ?_⟩
  · exact ⟨_, injStart_granted c ha ht h, rfl, beginTest_ch _ n, congrArg Sched.running (modSched_self _ _ _),
      fun m hm => beginTest_ch_ne _ hm, fun d hd => modSched_ne _ _ hd⟩
  · exact ⟨_, injStart_waits c ha ht hr he hp hi, rfl, modCh_self _ n _, modSched_self _ _ _, fun m hm => modCh_ne _ _ hm,
      fun d hd => modSched_ne _ _ hd⟩
  · exact ⟨_, injTestBegin_begins c hl hi hr hp ht, rfl, fun m hm => beginTest_ch_ne _ hm, beginTest_ch _ n,
      modSched_self _ _ _, fun d hd => modSched_ne _ _ hd⟩
  · refine ⟨_, injTestBegin_ends c hl hi hr hp ht, ?_⟩
    rw [abortTest_pending _ hi]
    refine ⟨rfl, modCh_self s n _, fun m hm => modCh_ne s _ hm, ?_, ?_, fun d hd => modSched_ne _ _ hd⟩
    · have hreason : Int.ofNat (s.testReason n) = if s.ch[n].state = .track then 2 else 4 := by
        unfold State.testReason
        split <;> rfl
      rw [← hreason]
      exact oneReg_setReg (s.modCh n _) _ _
    · rw [modSched_self]
      exact withdrawn_waiting s.now hr hp
  · by_cases h₁ : s.ch[n].inj.state = .pending
    · rw [abortTest_pending (s := s.beat p) 1 h₁]
      have hch := modCh_self (s.beat p) n fun c => { c with inj := { c.inj with state := .aborted } }
      exact ⟨fun m hm => modCh_ne (s.beat p) _ hm,
        fun _ => ⟨congrArg (fun c : Chan => c.inj.state) hch, oneReg_setReg ((s.beat p).modCh n _) _ _⟩,
        fun h => absurd (h₁.symm.trans h) (by decide), fun h => absurd h₁ h⟩
    · by_cases h₂ : s.ch[n].inj.state = .running
      · obtain ⟨hframe, hother, hstop⟩ := abortTest_running (s := s.beat p) 1 h₂
        exact ⟨hother, fun h => absurd h h₁, fun _ => ⟨hframe, hstop⟩, fun _ h => absurd h₂ h⟩
      · rw [abortTest_none (s := s.beat p) 1 h₁ h₂]
        exact ⟨fun _ _ => rfl, fun h => absurd h h₁, fun h => absurd h h₂, fun _ _ => rfl⟩
  · exact ⟨_, (if_pos (by rw [hl, hi, hs]; rfl)).trans (done_quiet c.1), rfl, fun m hm => modCh_ne s _ hm, modCh_self s n _⟩
  · obtain ⟨t, hexec, hframe, hfront, hcap⟩ := capArm_arms c ha
    obtain ⟨hrecs, htrig, hring, hpost, -⟩ := armed_fields s
    rw [← hcap] at hrecs htrig hring hpost
    refine ⟨t, hexec, hframe, hfront, hrecs, htrig, hring, hpost, fun n => ?_, ?_⟩
    · rw [hcap]
      exact armed_mask s n
    · rw [hcap]
      exact armed_state s
  · exact ⟨_, hostWrite_next ha rfl c.1, rfl⟩

end Sys2Proof.Machine
end

section
/-!
PROOFS. Timeouts of SETTLE and COAST, and the end of COAST (R98, R106, R107, R111, R112).
-/

namespace Sys2Proof.Machine

set_option Elab.async false

/-! ### INVALID is entered (R98, R108) -/

/-- The channel in INVALID, before its probe is looked at. -/
def State.invalid0 (s : State) (n : ChId) (reason : Nat) : State :=
  ((s.modCh n fun c => { c with state := .invalid, reason := reason }).bump (Reg.CH_INVALID_CNT n)).modWatch n fun w =>
    { w with perFresh := false, carPass := false, excWait := false, coastCause := false, freqChanged := false }

theorem enterCh_invalid {s : State} {n : ChId} (reason : Nat) (h : s.ch[n].state ≠ .track) :
    s.enterCh n .invalid reason = (s.invalid0 n reason).probeRecheck n := by
  have hold : (decide (s.ch[n].state = .track) && decide (ChState.invalid ≠ .track)) = false := by
    rw [decide_eq_false h, Bool.false_and]
  unfold State.enterCh
  simp only [hold, Bool.false_eq_true, if_false]
  rfl

/-- A channel that enters INVALID, not out of TRACK: the channel, its count, its probe and what its monitors wait for. -/
structure InvalidEntry (s t : State) (n : ChId) (reason : Nat) : Prop where
  frame : t = { s with regs := t.regs, ch := t.ch, watch := t.watch, front := t.front, sched := t.sched }
  ch : t.ch[n] = { s.ch[n] with state := .invalid, reason := reason }
  regs : t.regs = (s.bump (Reg.CH_INVALID_CNT n)).regs
  probe : s.ProbeLeft t n
  others : ∀ m, m ≠ n → t.ch[m] = s.ch[m] ∧ t.front[m] = s.front[m]

theorem enterCh_invalid_enters {s : State} {n : ChId} (reason : Nat) (h : s.ch[n].state ≠ .track) :
    InvalidEntry s (s.enterCh n .invalid reason) n reason := by
  have hch : (s.invalid0 n reason).ch[n] = { s.ch[n] with state := .invalid, reason := reason } := modCh_self s n _
  have hst : (s.invalid0 n reason).ch[n].state = .invalid := congrArg Chan.state hch
  obtain ⟨hleft, hframe, -, hfront⟩ := probeRecheck_left (s := s.invalid0 n reason) (n := n) (by rw [hst]; decide)
    (by rw [hst]; decide)
  rw [enterCh_invalid reason h]
  generalize (s.invalid0 n reason).probeRecheck n = t at *
  refine ⟨?_, ?_, ?_, hleft, fun m hm => ⟨?_, hfront m hm⟩⟩
  · rw [hframe]; rfl
  · rw [hframe]; exact hch
  · rw [hframe]; rfl
  · rw [hframe]; exact modCh_ne s _ hm

/-- A frame of raises goes on over a change of channels, monitors, probes and registers. -/
theorem settlingEnd_none {s : State} {e : ExcId} (h : s.exc[e].changing = false) : s.settlingEnd e = s := by
  unfold State.settlingEnd
  exact if_pos (by rw [h]; simp)

/-- A monitor bit with its source, live and sticky. -/
def Chan.tripped (c : Chan) (bit : Fin 13) : Chan :=
  { c with mon := vmod c.mon bit fun _ => true, sticky := vmod c.sticky bit fun _ => true }

theorem monTrip_frame (s : State) (n : ChId) (bit : Fin 13) (o : Nat) :
    RaiseFrame (s.modCh n fun c => c.tripped bit) (s.monTrip n bit (some o)) := raise_frame _ _

theorem monTrip_calm {s : State} {n : ChId} {bit : Fin 13} {o : Nat} (m : s.Mild (chSrc n o)) (c : s.Calm) :
    (s.monTrip n bit (some o)).Calm := raise_calm (s.modCh n fun c => c.tripped bit) _ (.inr m) c

/-- The outcome of a channel that is given up: INVALID with its reason and its sticky bit, counted, its loop standing. -/
structure GivenUp (s t : State) (n : ChId) (bit : Fin 13) (reason : Nat) : Prop where
  state : t.ch[n].state = .invalid
  reason : t.ch[n].reason = reason
  sticky : t.ch[n].sticky[bit] = true
  loop : t.ch[n].loop = s.ch[n].loop
  others : ∀ m, m ≠ n → t.ch[m] = s.ch[m]
  count : t.reg (Reg.CH_INVALID_CNT n) = satInc 32 (s.reg (Reg.CH_INVALID_CNT n))
  regs : s.SameRegs t [Reg.CH_INVALID_CNT n, Reg.FC_LOG_LOST]
  probe : s.ProbeLeft t n
  front : ∀ m, m ≠ n → t.front[m] = s.front[m]
  frame : RaiseFrame { s with regs := t.regs, ch := t.ch, watch := t.watch, front := t.front, sched := t.sched } t

theorem invalidCnt_ne_logLost (n : ChId) : Reg.CH_INVALID_CNT n ≠ Reg.FC_LOG_LOST := by decide +revert

theorem givenUp_of_trip {s t : State} {n : ChId} {bit : Fin 13} {o reason : Nat}
    (h : InvalidEntry (s.monTrip n bit (some o)) t n reason) : GivenUp s t n bit reason := by
  have hraise := monTrip_frame s n bit o
  generalize s.monTrip n bit (some o) = u at *
  have hself : u.ch[n] = s.ch[n].tripped bit := by rw [hraise.ch]; exact modCh_self s n _
  have hfront : u.front = s.front := hraise.front
  have hsched : u.sched = s.sched := hraise.sched
  have hreg : ∀ k, t.reg k = (u.bump (Reg.CH_INVALID_CNT n)).reg k := fun k => by rw [State.reg, h.regs]; rfl
  refine ⟨?_, ?_, ?_, ?_, fun m hm => ?_, ?_, fun j hj => ?_, ?_, fun m hm => ?_, ?_⟩
  · rw [h.ch]
  · rw [h.ch]
  · rw [h.ch, hself]
    exact vmod_self s.ch[n].sticky bit fun _ => true
  · rw [h.ch, hself]
    rfl
  · rw [(h.others m hm).1, hraise.ch]
    exact modCh_ne s _ hm
  · rw [hreg, State.reg_bump, hraise.reg _ (invalidCnt_ne_logLost n)]
    rfl
  · rw [List.mem_cons, List.mem_singleton, not_or] at hj
    rw [hreg, State.reg_bump_ne _ (Ne.symm hj.1), hraise.reg _ hj.2]
    rfl
  · obtain ⟨h₁, h₂, h₃⟩ := h.probe
    rw [hfront, hsched] at h₁
    rw [hfront] at h₂
    rw [hsched] at h₃
    exact ⟨h₁, h₂, h₃⟩
  · rw [(h.others m hm).2, hfront]
  · rw [h.frame]
    exact { hraise with ch := rfl, watch := rfl, front := rfl, sched := rfl, reg := fun _ _ => rfl, wf := id }

theorem InvalidEntry.quiet {s t : State} {n : ChId} {reason : Nat} (h : InvalidEntry s t n reason) (c : s.Calm) :
    done t = .next t := by
  refine done_quiet ?_
  rw [h.frame]
  exact c.1

theorem excSel_unlisted (n : ChId) : Reg.CH_EXC_SEL n ∉ [Reg.CH_INVALID_CNT n, Reg.FC_LOG_LOST] := by decide +revert

theorem settleTmo_gives_up {n : ChId} {s : State} (c : s.Calm) (hl : s.lanesOn = true) (hs : s.ch[n].state = .settle)
    (m : s.Mild (chSrc n 8)) (hx : s.exc[s.excIx n].changing = false) :
    ∃ t, exec (.chSettleTmo n) s = .next t ∧ GivenUp s t n 12 14 := by
  have hraise := monTrip_frame s n 12 8
  have hexec : exec (.chSettleTmo n) s = done ((s.monTrip n 12 (some 8)).enterInvalid n 14) := if_pos (by rw [hl, hs]; rfl)
  have hcalm := monTrip_calm (bit := 12) m c
  obtain ⟨u, hu⟩ : ∃ u, u = s.monTrip n 12 (some 8) := ⟨_, rfl⟩
  have hstate : u.ch[n].state = .settle := by
    rw [hu, hraise.ch]
    exact (congrArg Chan.state (modCh_self s n _)).trans hs
  have hentry := enterCh_invalid_enters (s := u) 14 (by rw [hstate]; decide)
  have hgiven := givenUp_of_trip (hu ▸ hentry)
  obtain ⟨t, ht⟩ : ∃ t, t = u.enterCh n .invalid 14 := ⟨_, rfl⟩
  rw [← hu] at hexec hcalm
  rw [← hu, ← ht] at hgiven
  rw [← ht] at hentry
  have hix : t.excIx n = s.excIx n := by
    unfold State.excIx
    rw [hgiven.regs _ (excSel_unlisted n)]
  have hend : u.enterInvalid n 14 = t := by
    unfold State.enterInvalid
    rw [← ht]
    refine (if_pos hstate).trans (settlingEnd_none ?_)
    rw [hix, hgiven.frame.exc]
    exact hx
  rw [hend] at hexec
  exact ⟨t, hexec.trans (hentry.quiet hcalm), hgiven⟩

theorem coastExpired_gives_up {n : ChId} {s : State} (c : s.Calm) (hl : s.lanesOn = true) (hs : s.ch[n].state = .coast)
    (m : s.Mild (chSrc n 7)) (hx : s.regN (Reg.CH_COAST_LIM n) * 1000 ≤ s.watch[n].coastUsed * 120) :
    ∃ t, exec (.chCoastExpired n) s = .next t ∧ GivenUp s t n 11 13 := by
  have hraise := monTrip_frame s n 11 7
  have hexec : exec (.chCoastExpired n) s = done ((s.monTrip n 11 (some 7)).enterInvalid n 13) :=
    if_pos (by rw [hl, hs, decide_eq_true hx]; rfl)
  have hcalm := monTrip_calm (bit := 11) m c
  obtain ⟨u, hu⟩ : ∃ u, u = s.monTrip n 11 (some 7) := ⟨_, rfl⟩
  have hstate : u.ch[n].state = .coast := by
    rw [hu, hraise.ch]
    exact (congrArg Chan.state (modCh_self s n _)).trans hs
  have hentry := enterCh_invalid_enters (s := u) 13 (by rw [hstate]; decide)
  have hgiven := givenUp_of_trip (hu ▸ hentry)
  rw [← hu] at hexec hcalm hgiven
  have hend : u.enterInvalid n 13 = u.enterCh n .invalid 13 := if_neg (by rw [hstate]; decide)
  rw [hend] at hexec
  exact ⟨_, hexec.trans (hentry.quiet hcalm), hgiven⟩

/-! ### COAST is left (R107, R112) -/

/-- A probe that is not deferred is not offered again. -/
theorem probeRetry_none {s : State} {n : ChId} (h₁ : s.front[n].probe ≠ .deferredState)
    (h₂ : s.front[n].probe ≠ .deferredFreq) : s.probeRetry n = s := by
  unfold State.probeRetry
  split
  · next h => exact absurd h h₁
  · next h => exact absurd h h₂
  · rfl

/-- TRACK is entered, not out of TRACK, by a channel whose probe is not deferred. -/
theorem enterCh_track {s : State} {n : ChId} (reason : Nat) (h₁ : s.front[n].probe ≠ .deferredState)
    (h₂ : s.front[n].probe ≠ .deferredFreq) :
    s.enterCh n .track reason = (s.modCh n fun c => { c with state := .track, reason := reason }).modWatch n fun w =>
      { w with excWait := false, coastCause := false, freqChanged := false, trackRun := 0 } := by
  have hold : (decide (s.ch[n].state = .track) && decide (ChState.track ≠ .track)) = false := by
    rw [show decide (ChState.track ≠ .track) = false by decide, Bool.and_false]
  unfold State.enterCh
  simp only [hold, Bool.false_eq_true, if_false]
  exact probeRetry_none h₁ h₂

/-- What a warm settle, entered not out of TRACK, leaves (R100, R110). -/
structure WarmSettle (s t : State) (n : ChId) (reason : Nat) : Prop where
  frame : t = { s with ch := t.ch, watch := t.watch, front := t.front, sched := t.sched }
  ch : t.ch[n] = { s.ch[n] with state := .settle, reason := reason }
  settle : t.front[n].settle = .holding (senseWindow s.exc[s.excIx n].freq)
  warm : t.front[n].warm = true
  probe : s.ProbeLeft t n
  others : ∀ m, m ≠ n → t.ch[m] = s.ch[m] ∧ t.front[m] = s.front[m] ∧ t.watch[m] = s.watch[m]

theorem enterWarm_settles {s : State} {n : ChId} (reason : Nat) (h : s.ch[n].state ≠ .track) :
    WarmSettle s (s.enterWarm n reason) n reason := by
  have hst : (s.settling0 n reason).ch[n].state = .settle := congrArg Chan.state (settling0_ch s n reason)
  obtain ⟨hleft, hframe, -, hfront⟩ := probeRecheck_left (s := s.settling0 n reason) (n := n) (by rw [hst]; decide)
    (by rw [hst]; decide)
  obtain ⟨u, hu⟩ : ∃ u, u = (s.settling0 n reason).probeRecheck n := ⟨_, rfl⟩
  have henter : s.enterWarm n reason = (u.modFront n fun f =>
      { f with settle := .holding (senseWindow s.exc[s.excIx n].freq), warm := true, settlePeriods := 0, settleClean := false }).modWatch
        n fun w => { w with win := [] } := by
    rw [State.enterWarm, enterCh_settle reason h, hu]
  rw [← hu] at hleft hframe hfront
  have hself := modFront_self u n fun f =>
    { f with settle := .holding (senseWindow s.exc[s.excIx n].freq), warm := true, settlePeriods := 0, settleClean := false }
  obtain ⟨hkeeps, hleaves, hother⟩ := hleft
  rw [henter]
  refine ⟨?_, ?_, congrArg Front.settle hself, congrArg Front.warm hself, ⟨fun h₁ h₂ => ?_, fun hp => ?_, hother⟩,
    fun m hm => ⟨?_, (modFront_ne u _ hm).trans (hfront m hm), (modWatch_ne _ _ hm).trans ?_⟩⟩
  · rw [hframe]; rfl
  · rw [hframe]; exact settling0_ch s n reason
  · exact ⟨(congrArg Front.probe hself).trans (hkeeps h₁ h₂).1, (hkeeps h₁ h₂).2⟩
  · exact ⟨(congrArg Front.probe hself).trans (hleaves hp).1, (hleaves hp).2⟩
  · rw [hframe]; exact modCh_ne s _ hm
  · rw [hframe]; exact modWatch_ne _ _ hm

theorem coastExit_leaves {n : ChId} {s : State} (hs : s.ch[n].state = .coast)
    (h₁ : s.front[n].probe ≠ .deferredState) (h₂ : s.front[n].probe ≠ .deferredFreq) :
    s.coastExit n = { s with ch := (s.coastExit n).ch, watch := (s.coastExit n).watch, front := (s.coastExit n).front, sched := (s.coastExit n).sched } ∧
    (∀ m, m ≠ n → (s.coastExit n).ch[m] = s.ch[m] ∧ (s.coastExit n).front[m] = s.front[m] ∧ (s.coastExit n).watch[m] = s.watch[m]) ∧
    (s.watch[n].freqChanged = true → (s.coastExit n).ch[n] = { s.ch[n] with state := .settle, reason := 3 } ∧
      (s.coastExit n).front[n].settle = .holding (senseWindow s.exc[s.excIx n].freq) ∧ (s.coastExit n).front[n].warm = true ∧
      s.ProbeLeft (s.coastExit n) n) ∧
    (s.watch[n].freqChanged = false → (s.coastExit n).sched = s.sched) ∧
    (s.watch[n].freqChanged = false → ((s.users (s.excIx n)).any fun m => s.watch[m].excWait) = true →
      (s.coastExit n).ch = s.ch ∧ (s.coastExit n).front = s.front ∧ (s.coastExit n).watch[n].excWait = true ∧
        (s.coastExit n).watch[n].coastCause = false) ∧
    (s.watch[n].freqChanged = false → ((s.users (s.excIx n)).any fun m => s.watch[m].excWait) = false →
      (s.coastExit n).ch[n] = { s.ch[n] with state := .track, reason := 17 } ∧ (s.coastExit n).front = s.front) := by
  unfold State.coastExit
  dsimp only
  by_cases hf : s.watch[n].freqChanged = true
  · rw [if_pos hf]
    obtain ⟨hframe, hch, hsettle, hwarm, hprobe, hothers⟩ := enterWarm_settles (s := s) (n := n) 3 (by rw [hs]; decide)
    have hno : ¬ s.watch[n].freqChanged = false := by rw [hf]; decide
    exact ⟨hframe, hothers, fun _ => ⟨hch, hsettle, hwarm, hprobe⟩, fun h => absurd h hno, fun h => absurd h hno,
      fun h => absurd h hno⟩
  · rw [if_neg hf]
    by_cases hw : ((s.users (s.excIx n)).any fun m => s.watch[m].excWait) = true
    · rw [if_pos hw]
      have hself := modWatch_self s n fun w => { w with excWait := true, coastCause := false }
      exact ⟨rfl, fun m hm => ⟨rfl, rfl, modWatch_ne s _ hm⟩, fun h => absurd h hf, fun _ => rfl,
        fun _ _ => ⟨rfl, rfl, congrArg Watch.excWait hself, congrArg Watch.coastCause hself⟩,
        fun _ h => absurd (hw.symm.trans h) (by decide)⟩
    · rw [if_neg hw, enterCh_track 17 h₁ h₂]
      exact ⟨rfl, fun m hm => ⟨modCh_ne s _ hm, rfl, modWatch_ne _ _ hm⟩, fun h => absurd h hf, fun _ => rfl,
        fun _ h => absurd h hw, fun _ _ => ⟨modCh_self s n _, rfl⟩⟩

/-- Settles O28: both timeouts give the channel up by `givenUp_of_trip`, and COAST is left as its watch says. -/
theorem timeoutsAndCoastEndsMoveTheChannel : Obligations.TimeoutsAndCoastEndsMoveTheChannel := by
  refine ⟨fun n s c hl hs m hx => ?_, fun n s c hl hs m hx => ?_, fun n s c hl hs hc hx h₁ h₂ => ?_⟩
  · obtain ⟨t, hexec, hstate, hreason, hsticky, hloop, hothers, hcount, hregs, hprobe, hfront, hframe⟩ :=
      settleTmo_gives_up c hl hs m hx
    exact ⟨t, hexec, hstate, hreason, hsticky, hloop, hothers, hcount, hregs, hprobe, hfront, hframe⟩
  · obtain ⟨t, hexec, hstate, hreason, hsticky, hloop, hothers, hcount, hregs, hprobe, hfront, hframe⟩ :=
      coastExpired_gives_up c hl hs m hx
    exact ⟨t, hexec, hstate, hreason, hsticky, hloop, hothers, hcount, hregs, hprobe, hfront, hframe⟩
  · have hleaves := coastExit_leaves hs h₁ h₂
    refine ⟨s.coastExit n, (if_pos (by rw [hl, hs, hc, hx]; rfl)).trans (done_quiet ?_), hleaves⟩
    rw [hleaves.1]
    exact c.1

end Sys2Proof.Machine
end

section
/-!
PROOFS. A channel switched on and off, seeded, resumed and taken into TRACK (R98, R109 to R112, R115, R245, R247).
-/

namespace Sys2Proof.Machine

set_option Elab.async false

/-! ### Switched on (R98, R109) -/

theorem chEnable_ne_CFG_GEN (n : ChId) : Reg.CH_ENABLE n ≠ Reg.CFG_GEN := by decide +revert

/-- An admitted write of CH_ENABLE is visible, and the channel follows it. -/
theorem chEnable_eff (s : State) (p : Port) (n : ChId) (v : Int) :
    effVisible noCheck (fun s _ _ v => s.setEnable n v) (Reg.CH_ENABLE n) v (s.beat p) =
      .ok (((s.beat p).setReg (Reg.CH_ENABLE n) v).setEnable n v).cfgGen := effVisible_ok rfl

theorem chEnable_on {p : Port} {n : ChId} {s : State} (c : s.Calm)
    (ha : s.Admits p (Reg.CH_ENABLE n) (dataAt (Reg.CH_ENABLE n) 1) 1) (hs : s.ch[n].state = .off)
    (hl : s.lanesOn = true) :
    ∃ t u, exec (.chEnableWrite p n 1) s = .next t ∧ t = u.cfgGen ∧
      ColdSettle ((s.beat p).setReg (Reg.CH_ENABLE n) 1) u n 1 := by
  have hcold := enterCold_settles (s := (s.beat p).setReg (Reg.CH_ENABLE n) 1) (n := n) 1
    (by change s.ch[n].state ≠ _; rw [hs]; decide)
  have hset : ((s.beat p).setReg (Reg.CH_ENABLE n) 1).setEnable n 1 =
      ((s.beat p).setReg (Reg.CH_ENABLE n) 1).enterCold n 1 :=
    if_pos (show (decide (s.ch[n].state = .off) && s.lanesOn) = true by rw [hs, hl]; rfl)
  refine ⟨_, _, hostWrite_next ha ((chEnable_eff s p n 1).trans (by rw [hset])) ?_, rfl, hcold⟩
  change (((s.beat p).setReg (Reg.CH_ENABLE n) 1).enterCold n 1).floor.request = false
  rw [hcold.frame]
  exact c.1

theorem chEnable_already {p : Port} {n : ChId} {s : State} (c : s.Calm)
    (ha : s.Admits p (Reg.CH_ENABLE n) (dataAt (Reg.CH_ENABLE n) 1) 1) (hs : s.ch[n].state ≠ .off) :
    exec (.chEnableWrite p n 1) s = .next ((s.beat p).setReg (Reg.CH_ENABLE n) 1).cfgGen := by
  have hset : ((s.beat p).setReg (Reg.CH_ENABLE n) 1).setEnable n 1 = (s.beat p).setReg (Reg.CH_ENABLE n) 1 :=
    if_neg (show ¬ (decide (s.ch[n].state = .off) && s.lanesOn) = true by rw [decide_eq_false hs]; exact Bool.noConfusion)
  exact hostWrite_next ha ((chEnable_eff s p n 1).trans (by rw [hset])) c.1

/-! ### Switched off (R98) -/

/-- The channels but for their loop tests. -/
def State.testless (s : State) : Vector Chan 16 := s.ch.map fun c => { c with inj := {} }

/-- What a channel's switch-off leaves of the other channels, and of its own register. -/
def State.offView (n : ChId) (s : State) : Int × Vector Chan 16 := (s.reg (Reg.CH_ENABLE n), s.testless)

theorem testless_get (s : State) (m : ChId) : s.testless[m] = { s.ch[m] with inj := {} } := by
  unfold State.testless
  exact Vector.getElem_map _ m.isLt

theorem modCh_testless (s : State) (n : ChId) (f : Inject → Inject) :
    (s.modCh n fun c => { c with inj := f c.inj }).testless = s.testless := by
  refine Vector.ext fun i hi => ?_
  have h := testless_get (s.modCh n fun c => { c with inj := f c.inj }) ⟨i, hi⟩
  refine h.trans (Eq.trans ?_ (testless_get s ⟨i, hi⟩).symm)
  by_cases hin : (⟨i, hi⟩ : ChId) = n
  · rw [hin, modCh_self]
  · rw [modCh_ne s _ hin]

theorem chEnable_not_faultReg (n : ChId) : faultReg (Reg.CH_ENABLE n) = false := by decide +revert

theorem offView_untouched (n : ChId) : Untouched (State.offView n) where
  raised h := Prod.ext (h.reg _ fun hk => by
    have hn := chEnable_not_faultReg n
    rw [hk] at hn
    exact absurd hn (by decide)) (by rw [State.offView, State.offView, State.testless, h.ch, State.testless])
  reg s k v hk := Prod.ext (State.reg_setReg_ne s v fun h => by
    have hn := chEnable_not_faultReg n
    rw [← h, hk] at hn
    exact absurd hn (by decide)) rfl
  parts _ _ _ _ _ _ _ _ _ _ _ := rfl
  inj s m f := Prod.ext rfl (modCh_testless s m f)
  red _ _ _ := rfl
  floor _ _ _ := rfl

/-- An automatic request for a probe. -/
theorem Untouched.schedDo {α : Type} {P : State → α} (h : Untouched P) {t : State} {a : α} (k : P t = a) (n : ChId)
    (x : Activity) : P (t.schedDo (chDomain n) x).2 = a := by
  have hpause : ∀ u : State, P u = a → P (u.calPause n 5) = a := fun u hu => Untouched.ite (h.modCal hu n _) hu
  have hpre : P (t.preempt n) = a := by
    unfold State.preempt
    dsimp only
    split
    · exact hpause _ (h.modSched k _ _)
    · exact h.abortTest k _ _
    · exact k
  unfold State.schedDo
  rw [dif_pos (show (chDomain n).val < 16 from n.isLt)]
  split
  · exact k
  · exact k
  · exact h.modSched k _ _
  · refine h.startActivity (h.modSched ?_ _ _) _ _
    unfold State.displace
    rw [dif_pos (show (chDomain n).val < 16 from n.isLt)]
    exact (h.inj t _ fun j => if j.state = .running then { j with state := .pending } else j).trans k
  · exact h.startActivity (h.modSched hpre _ _) _ _

theorem Untouched.probeAsk {α : Type} {P : State → α} (h : Untouched P) {t u : State} {a : α} (k : P t = a) {n : ChId}
    (hu : t.probeAsk n = .ok u) : P u = a := by
  have hsched := h.schedDo k n .probe
  unfold State.probeAsk at hu
  by_cases hm : t.reg (Reg.CH_PROBE_MODE n) ≠ 0
  · rw [need_true _ (decide_eq_true hm)] at hu
    cases hb : t.probeBar n with
    | some b =>
      rw [hb] at hu
      cases hu
      exact h.modFront k n _
    | none =>
      rw [hb] at hu
      rcases hv : t.schedDo (chDomain n) .probe with ⟨g, v⟩
      rw [hv] at hsched
      cases g with
      | refuse => rw [hv] at hu; cases hu
      | merge => rw [hv] at hu; cases hu; exact hsched
      | run => rw [hv] at hu; cases hu; exact h.modFront hsched n _
      | swap => rw [hv] at hu; cases hu; exact h.modFront hsched n _
      | pend => rw [hv] at hu; cases hu; exact h.modFront hsched n _
  · rw [need_false _ (decide_eq_false hm)] at hu
    cases hu

theorem Untouched.probeRetry {α : Type} {P : State → α} (h : Untouched P) {t : State} {a : α} (k : P t = a) (n : ChId) :
    P (t.probeRetry n) = a := by
  have hoffer : P (t.probeOffer n) = a := by
    unfold State.probeOffer
    split
    · next hu => exact h.probeAsk k hu
    · split
      · exact h.modFront k n _
      · exact h.modFront k n _
      · exact k
  unfold State.probeRetry
  split
  · exact hoffer
  · exact hoffer
  · exact k

/-- What follows a channel's change to OFF. -/
theorem enterCh_off_untouched {α : Type} {P : State → α} (h : Untouched P) (s : State) (n : ChId) (reason : Nat) :
    P (s.enterCh n .off reason) = P (s.modCh n fun c => { c with state := .off, reason := reason }) := by
  unfold State.enterCh
  extract_lets old u w
  have hu : P u = P (s.modCh n fun c => { c with state := .off, reason := reason }) := rfl
  have hw : P w = P (s.modCh n fun c => { c with state := .off, reason := reason }) := by
    refine Untouched.ite ?_ hu
    have hpause : P ((u.abortTest n 4).calPause n 4) = _ := Untouched.ite (h.modCal (h.abortTest hu n 4) n _) (h.abortTest hu n 4)
    exact h.modWatch (h.modFront hpause n _) n _
  exact h.probeRetry (h.abortRun (h.modFront (h.modWatch hw n _) n _) n 2) n

/-- A channel that is switched off keeps its loop and its record, and no other channel moves. -/
theorem chEnable_off {p : Port} {n : ChId} {s : State} (ha : s.Admits p (Reg.CH_ENABLE n) (dataAt (Reg.CH_ENABLE n) 0) 0)
    (hs : s.ch[n].state ≠ .off) :
    ∃ t, exec (.chEnableWrite p n 0) s = .next t ∧ t.reg (Reg.CH_ENABLE n) = 0 ∧
      t.testless = (s.modCh n fun c => { c with state := .off, reason := 1 }).testless := by
  have hset : ((s.beat p).setReg (Reg.CH_ENABLE n) 0).setEnable n 0 =
      ((s.beat p).setReg (Reg.CH_ENABLE n) 0).enterCh n .off 1 := if_neg hs
  obtain ⟨u, hu⟩ : ∃ u, u = ((s.beat p).setReg (Reg.CH_ENABLE n) 0).enterCh n .off 1 := ⟨_, rfl⟩
  have hview : u.offView n = (((s.beat p).setReg (Reg.CH_ENABLE n) 0).modCh n fun c =>
      { c with state := .off, reason := 1 }).offView n := hu ▸ enterCh_off_untouched (offView_untouched n) _ n 1
  have hgen : u.cfgGen.offView n = u.offView n :=
    Prod.ext (State.reg_setReg_ne u _ (chEnable_ne_CFG_GEN n).symm) rfl
  have hend := (offView_untouched n).settled (hgen.trans hview)
  refine ⟨_, hostWrite_admitted s u.cfgGen p _ _ _ _ ha ((chEnable_eff s p n 0).trans (by rw [hset, hu])), ?_, ?_⟩
  · exact (congrArg Prod.fst hend).trans (State.reg_setReg (s.beat p) _ _)
  · exact congrArg Prod.snd hend

/-- Out of another state than TRACK, with no run and no probe, nothing else goes with a switch-off. -/
theorem enterCh_off_plain {s : State} {n : ChId} (reason : Nat) (h : s.ch[n].state ≠ .track)
    (hc : s.cal[n].state = .idle) (hp : s.front[n].probe = .idle) :
    s.enterCh n .off reason = ((s.modCh n fun c => { c with state := .off, reason := reason }).modWatch n fun w =>
      { w with excWait := false, coastCause := false, freqChanged := false }).modFront n fun f =>
        { f with homePort := none, align := none } := by
  have hold : (decide (s.ch[n].state = .track) && decide (ChState.off ≠ .track)) = false := by
    rw [decide_eq_false h, Bool.false_and]
  unfold State.enterCh
  simp only [hold, Bool.false_eq_true, if_false]
  obtain ⟨u, hu⟩ : ∃ u, u = ((s.modCh n fun c => { c with state := .off, reason := reason }).modWatch n fun w =>
    { w with excWait := false, coastCause := false, freqChanged := false }).modFront n fun f =>
      { f with homePort := none, align := none } := ⟨_, rfl⟩
  have hcal : u.cal[n].state = .idle := hu ▸ hc
  have hself : u.front[n] = { s.front[n] with homePort := none, align := none } := hu ▸ modFront_self _ n _
  have hprobe : u.front[n].probe = .idle := (congrArg Front.probe hself).trans hp
  have hrun : u.abortRun n 2 = u := by
    unfold State.abortRun
    rw [hcal]
  rw [← hu, hrun]
  exact probeRetry_none (by rw [hprobe]; decide) (by rw [hprobe]; decide)

theorem chEnable_off_plain {p : Port} {n : ChId} {s : State} (c : s.Calm)
    (ha : s.Admits p (Reg.CH_ENABLE n) (dataAt (Reg.CH_ENABLE n) 0) 0) (hs : s.ch[n].state ≠ .off)
    (ht : s.ch[n].state ≠ .track) (hc : s.cal[n].state = .idle) (hp : s.front[n].probe = .idle) :
    exec (.chEnableWrite p n 0) s = .next (((((s.beat p).setReg (Reg.CH_ENABLE n) 0).modCh n fun c =>
      { c with state := .off, reason := 1 }).modWatch n fun w =>
        { w with excWait := false, coastCause := false, freqChanged := false }).modFront n fun f =>
          { f with homePort := none, align := none }).cfgGen := by
  have hset : ((s.beat p).setReg (Reg.CH_ENABLE n) 0).setEnable n 0 = _ :=
    (if_neg hs).trans (enterCh_off_plain (s := (s.beat p).setReg (Reg.CH_ENABLE n) 0) 1 ht hc hp)
  exact hostWrite_next ha ((chEnable_eff s p n 0).trans (by rw [hset])) c.1

/-! ### Seeding (R109, R247) -/

theorem modCh_modCh (s : State) (n : ChId) (f g : Chan → Chan) : (s.modCh n f).modCh n g = s.modCh n (g ∘ f) :=
  congrArg (fun v => { s with ch := v }) (vmod_vmod s.ch n f g)

theorem modCh_congr (s : State) (n : ChId) {f g : Chan → Chan} (h : f s.ch[n] = g s.ch[n]) : s.modCh n f = s.modCh n g :=
  congrArg (fun v => { s with ch := v }) (vmod_congr s.ch n h)

/-- A channel seeded from its own means: the angle, the turn count nearest its record, everything else from 0. -/
def Chan.seeded (a b : Int) (c : Chan) : Chan :=
  { c with
    loop := { th := atan2Phase a b
              carry := wrapS 16 (nearestTurn (Int.ofNat ((atan2Phase a b).toNat / 256)) c.out.pos) }
    satInt := false, satVel := false, satOut := false }

theorem seedOwn_eq (s : State) (n : ChId) (a b : Int) :
    s.seedOwn n a b = (s.modCh n (Chan.seeded a b)).setReg (Reg.CH_HOMED n) 0 := by
  unfold State.seedOwn State.turnTo
  dsimp only
  rw [modCh_modCh]
  exact congrArg (fun u : State => u.setReg (Reg.CH_HOMED n) 0) (modCh_congr s n rfl)

theorem seedKeys_ne_homed (n : ChId) : Reg.RED_SEED ≠ Reg.CH_HOMED n ∧ Reg.RED_ALIGN_MASK ≠ Reg.CH_HOMED n ∧
    Reg.RED_MODE ≠ Reg.CH_HOMED n ∧ Reg.RED_CYCLE ≠ Reg.CH_HOMED n ∧ Reg.CH_VEL_FS n ≠ Reg.CH_HOMED n := by decide +revert

/-- What decides on a partner's record is no part that the seed of the channel itself moves. -/
theorem seedFrom_seedOwn (s : State) (n : ChId) (a b : Int) : (s.seedOwn n a b).seedFrom n = s.seedFrom n := by
  have hreg : ∀ k, k ≠ Reg.CH_HOMED n → (s.seedOwn n a b).reg k = s.reg k := fun k hk => by
    rw [seedOwn_eq]
    exact State.reg_setReg_ne (s.modCh n _) _ hk.symm
  obtain ⟨h₁, h₂, h₃, h₄, -⟩ := seedKeys_ne_homed n
  have hseed := hreg _ h₁
  have hmask := hreg _ h₂
  have hmode := hreg _ h₃
  have hcycle := hreg _ h₄
  have hpt : (s.seedOwn n a b).pt = s.pt := rfl
  have htime : (s.seedOwn n a b).time = s.time := rfl
  generalize s.seedOwn n a b = t at *
  unfold State.seedFrom State.partners State.bit State.flag State.regN State.extOf State.ext State.timeNow
  rw [hseed, hmask, hmode, hcycle, hpt, htime]

/-- The state from which a seed goes on: the samples start afresh and normal steps follow. -/
def State.seedDone (s : State) (n : ChId) : State :=
  (s.modWatch n fun w => { w with win := [] }).modFront n fun f =>
    { f with settle := .running, settlePeriods := 0, settleClean := false }

/-- The loop with the rates of a partner's record (R247). -/
def State.withRates (s : State) (n : ChId) (r : Bytes) : State :=
  s.modCh n fun c => { c with loop := { c.loop with
    v := blockInt r n 30 5, a := blockInt r n 35 5
    i := seedI (coefsOf s.reg n s.ch[n].bankB) (blockInt r n 30 5) } }

/-- The seed from a partner's record: its rates, then its turn count and homing (R247). -/
def State.seedRecord (s : State) (n : ChId) (q : Fin 2) (r : Bytes) : State :=
  (s.withRates n r).alignTo n ((s.withRates n r).blockPos r n (s.withRates n r).ch[n].out.time) (blockHomed r n)
    (blockInt r n 40 2) q

section
variable {n : ChId} {s : State} {k : Nat} {a b : Int} (hl : s.lanesOn = true) (hs : s.ch[n].state = .settle)
  (hf : s.front[n].settle = .seeding k a b) (hk : periodSamples s.exc[s.excIx n].freq ≤ k)
include hl hs hf hk

theorem settleSeed_own (hseed : s.seedFrom n = none) : exec (.settleSeed n) s = done ((s.seedOwn n a b).seedDone n) := by
  have hexec : exec (.settleSeed n) s = execSettleSeed n s := rfl
  unfold execSettleSeed at hexec
  simp only [hs, hf] at hexec
  rw [if_neg (by rw [hl, decide_eq_false (Nat.not_lt.mpr hk)]; decide), seedFrom_seedOwn, hseed] at hexec
  exact hexec

theorem settleSeed_record {q : Fin 2} {r : Bytes} (hseed : s.seedFrom n = some (q, r)) :
    exec (.settleSeed n) s = done (((s.seedOwn n a b).seedRecord n q r).seedDone n) := by
  have hexec : exec (.settleSeed n) s = execSettleSeed n s := rfl
  unfold execSettleSeed at hexec
  simp only [hs, hf] at hexec
  rw [if_neg (by rw [hl, decide_eq_false (Nat.not_lt.mpr hk)]; decide), seedFrom_seedOwn, hseed] at hexec
  exact hexec

end

/-- A fold of changes to emulators changes emulators only. -/
theorem each_emu {β : Type} (f : State → β → State) (hf : ∀ u b, f u b = { u with emu := (f u b).emu }) (l : List β)
    (s : State) : s.each l f = { s with emu := (s.each l f).emu } := by
  unfold State.each
  induction l generalizing s with
  | nil => rfl
  | cons b l ih =>
    rw [List.foldl_cons, ih (f s b)]
    generalize (l.foldl f (f s b)).emu = v
    rw [hf s b]

theorem alignCount_ne (n : ChId) (q : Fin 2) : Reg.PT_ALIGN_CNT q ≠ Reg.CH_HOMED n ∧
    Reg.PT_ALIGN_CNT q ≠ Reg.CH_HOME_OFS n ∧ Reg.CH_HOME_OFS n ≠ Reg.CH_HOMED n := by decide +revert

/-- The turn count, HOMED and HOME_OFS of an alignment, before it is counted. -/
def State.turned (s : State) (n : ChId) (target homed ofs : Int) : State :=
  ((s.turnTo n target).setReg (Reg.CH_HOMED n) homed).setReg (Reg.CH_HOME_OFS n) ofs

/-- Gated emulators of a channel follow its alignment without catch-up (R245). -/
def State.gatedJumps (s : State) (n : ChId) : State :=
  s.each all16 fun s m =>
    if s.flag (Reg.EMU_SEAT_GATE m) && s.reg (Reg.EMU_SRC_KIND m) = 0 && s.reg (Reg.EMU_SRC m) = Int.ofNat n.val then
      s.modEmu m fun e => { e with jump := true }
    else s

theorem gatedJumps_emu (s : State) (n : ChId) : s.gatedJumps n = { s with emu := (s.gatedJumps n).emu } :=
  each_emu _ (fun v m => by split <;> rfl) all16 s

theorem alignTo_eq (s : State) (n : ChId) (target homed ofs : Int) (q : Fin 2) : s.alignTo n target homed ofs q =
    if (s.turned n target homed ofs).ch[n].loop.carry = s.ch[n].loop.carry then s.turned n target homed ofs
    else ((s.turned n target homed ofs).bump (Reg.PT_ALIGN_CNT q)).gatedJumps n := rfl

/-- The alignment of a channel: its turn count, HOMED and HOME_OFS, a count, and gated emulators that jump. -/
theorem alignTo_aligned (s : State) (n : ChId) (target homed ofs : Int) (q : Fin 2) :
    ∃ regs emu, s.alignTo n target homed ofs q = { s.turnTo n target with regs := regs, emu := emu } ∧
      (s.alignTo n target homed ofs q).reg (Reg.CH_HOMED n) = homed ∧
      (s.alignTo n target homed ofs q).reg (Reg.CH_HOME_OFS n) = ofs := by
  obtain ⟨hc₁, hc₂, hofs⟩ := alignCount_ne n q
  have h₁ : (s.turned n target homed ofs).reg (Reg.CH_HOMED n) = homed := by
    rw [State.turned, State.reg_setReg_ne _ _ hofs, State.reg_setReg]
  have h₂ : (s.turned n target homed ofs).reg (Reg.CH_HOME_OFS n) = ofs := by
    rw [State.turned, State.reg_setReg]
  have hframe : s.turned n target homed ofs =
      { s.turnTo n target with regs := (s.turned n target homed ofs).regs, emu := s.emu } := rfl
  rw [alignTo_eq]
  generalize s.turned n target homed ofs = w at *
  by_cases h : w.ch[n].loop.carry = s.ch[n].loop.carry
  · rw [if_pos h]
    exact ⟨w.regs, s.emu, hframe, h₁, h₂⟩
  · obtain ⟨x, hx⟩ : ∃ x, x = w.bump (Reg.PT_ALIGN_CNT q) := ⟨_, rfl⟩
    have hx₁ : x.reg (Reg.CH_HOMED n) = homed := hx ▸ (State.reg_bump_ne w hc₁).trans h₁
    have hx₂ : x.reg (Reg.CH_HOME_OFS n) = ofs := hx ▸ (State.reg_bump_ne w hc₂).trans h₂
    have hxw : x = { w with regs := x.regs } := by
      rw [hx]
      rfl
    rw [if_neg h, ← hx]
    obtain ⟨v, hv⟩ : ∃ v, x.gatedJumps n = { x with emu := v } := ⟨_, gatedJumps_emu x n⟩
    rw [hv]
    refine ⟨x.regs, v, ?_, hx₁, hx₂⟩
    rw [hxw, hframe]

theorem bankKey_ne_homed (n : ChId) (b : Bool) (i : Fin 8) : bankKey b (i.val + 1) n ≠ Reg.CH_HOMED n := by decide +revert

/-- The loop that a partner's record seeds. -/
theorem seedRecord_seeds (s : State) (n : ChId) (q : Fin 2) (r : Bytes) (a b : Int) :
    ∃ u, u = (s.seedOwn n a b).seedRecord n q r ∧ u = { s with regs := u.regs, ch := u.ch, emu := u.emu } ∧
      u.reg (Reg.CH_HOMED n) = blockHomed r n ∧ u.reg (Reg.CH_HOME_OFS n) = blockInt r n 40 2 ∧
      u.ch[n].state = s.ch[n].state ∧ (∀ m, m ≠ n → u.ch[m] = s.ch[m]) ∧
      u.ch[n].loop = { s.ch[n].loop with
        th := atan2Phase a b
        carry := wrapS 16 (nearestTurn (Int.ofNat ((atan2Phase a b).toNat / 256)) (s.blockPos r n s.ch[n].out.time))
        w := 0, u := 0, v := blockInt r n 30 5, a := blockInt r n 35 5
        i := seedI (coefsOf s.reg n s.ch[n].bankB) (blockInt r n 30 5) } := by
  obtain ⟨y, hy⟩ : ∃ y, y = s.seedOwn n a b := ⟨_, rfl⟩
  obtain ⟨x, hx⟩ : ∃ x, x = y.withRates n r := ⟨_, rfl⟩
  obtain ⟨-, -, -, -, hvel⟩ := seedKeys_ne_homed n
  have hyframe : y = { s with regs := y.regs, ch := y.ch } := by
    rw [hy, seedOwn_eq]
    rfl
  have hych : y.ch = vmod s.ch n (Chan.seeded a b) := by
    rw [hy, seedOwn_eq]
    rfl
  have hyreg : ∀ k, k ≠ Reg.CH_HOMED n → y.reg k = s.reg k := fun k hk => by
    rw [hy, seedOwn_eq]
    exact State.reg_setReg_ne (s.modCh n _) _ hk.symm
  have hyn : y.ch[n] = s.ch[n].seeded a b := by rw [hych]; exact vmod_self s.ch n _
  have hcoefs : coefsOf y.reg n y.ch[n].bankB = coefsOf s.reg n s.ch[n].bankB := by
    have hbank : y.ch[n].bankB = s.ch[n].bankB := by
      rw [hyn]
      rfl
    rw [hbank]
    unfold coefsOf
    have hb : ∀ i : Fin 8, y.reg (bankKey s.ch[n].bankB (i.val + 1) n) = s.reg (bankKey s.ch[n].bankB (i.val + 1) n) :=
      fun i => hyreg _ (bankKey_ne_homed n _ i)
    exact Coefs.mk.injEq .. ▸ ⟨hb 0, hb 1, hb 2, hb 3, hb 4, hb 5, hb 6, hb 7⟩
  have hpos : x.blockPos r n x.ch[n].out.time = s.blockPos r n s.ch[n].out.time := by
    have hxn : x.ch[n].out = s.ch[n].out := by
      rw [hx, State.withRates, modCh_self, hyn]
      rfl
    have hxv : x.reg (Reg.CH_VEL_FS n) = s.reg (Reg.CH_VEL_FS n) := hx ▸ hyreg _ hvel
    unfold State.blockPos
    rw [hxn, hxv]
  obtain ⟨regs, emu, hframe, hhomed, hofs⟩ := alignTo_aligned x n (x.blockPos r n x.ch[n].out.time) (blockHomed r n) (blockInt r n 40 2) q
  have hturn : (x.turnTo n (x.blockPos r n x.ch[n].out.time)).ch[n].loop = { s.ch[n].loop with
      th := atan2Phase a b
      carry := wrapS 16 (nearestTurn (Int.ofNat ((atan2Phase a b).toNat / 256)) (s.blockPos r n s.ch[n].out.time))
      w := 0, u := 0, v := blockInt r n 30 5, a := blockInt r n 35 5
      i := seedI (coefsOf s.reg n s.ch[n].bankB) (blockInt r n 30 5) } := by
    rw [hpos, State.turnTo, modCh_self, hx, State.withRates, modCh_self, hcoefs, hyn]
    rfl
  have hrec : y.seedRecord n q r = x.alignTo n (x.blockPos r n x.ch[n].out.time) (blockHomed r n) (blockInt r n 40 2) q := by
    rw [hx]
    rfl
  refine ⟨_, rfl, ?_⟩
  rw [← hy, hrec]
  generalize x.alignTo n (x.blockPos r n x.ch[n].out.time) (blockHomed r n) (blockInt r n 40 2) q = u at *
  have hch : u.ch = (x.turnTo n (x.blockPos r n x.ch[n].out.time)).ch := by rw [hframe]
  refine ⟨?_, hhomed, hofs, ?_, fun m hm => ?_, ?_⟩
  · rw [hframe, hx, hyframe]
    rfl
  · rw [hch, State.turnTo, modCh_self, hx, State.withRates, modCh_self, hyn]
    rfl
  · rw [hch, State.turnTo, modCh_ne _ _ hm, hx, State.withRates, modCh_ne _ _ hm, hych]
    exact vmod_ne s.ch _ hm.symm
  · rw [hch]
    exact hturn

/-! ### Resumed and taken into TRACK (R110, R111) -/

theorem warmSettleResume_resumes {n : ChId} {s : State} (c : s.Calm) (hs : s.ch[n].state = .settle)
    (hf : s.front[n].settle = .holding 0) :
    exec (.warmSettleResume n) s = .next (s.modFront n fun f =>
      { f with settle := .running, settlePeriods := 0, settleClean := false }) := by
  have hexec : exec (.warmSettleResume n) s = execWarmSettleResume n s := rfl
  unfold execWarmSettleResume at hexec
  simp only [hs, hf] at hexec
  exact hexec.trans (done_quiet c.1)

theorem settleComplete_tracks {n : ChId} {s : State} (c : s.Calm) (hl : s.lanesOn = true) (hs : s.ch[n].state = .settle)
    (hf : s.front[n].settle = .running) (hn : s.regN (Reg.CH_SETTLE_N n) ≤ s.front[n].settlePeriods)
    (hx : s.exc[s.excIx n].changing = false) (h₁ : s.front[n].probe ≠ .deferredState)
    (h₂ : s.front[n].probe ≠ .deferredFreq) :
    exec (.settleComplete n) s = .next ((s.modCh n fun c => { c with state := .track, reason := 16 }).modWatch n fun w =>
      { w with excWait := false, coastCause := false, freqChanged := false, trackRun := 0 }) := by
  refine (if_pos (by rw [hl, hs, hf, decide_eq_true hn]; rfl)).trans ?_
  rw [enterCh_track 16 h₁ h₂]
  rw [settlingEnd_none (by exact hx)]
  exact done_quiet c.1

/-! ### Every clause -/

theorem chEnable_settles {p : Port} {n : ChId} {s : State} (c : s.Calm)
    (ha : s.Admits p (Reg.CH_ENABLE n) (dataAt (Reg.CH_ENABLE n) 1) 1) (hs : s.ch[n].state = .off) (hl : s.lanesOn = true) :
    ∃ t, exec (.chEnableWrite p n 1) s = .next t ∧ s.Visible t (Reg.CH_ENABLE n) 1 ∧
      t = { s.beat p with regs := t.regs, ch := t.ch, watch := t.watch, front := t.front, sched := t.sched } ∧
      t.ch[n] = { s.ch[n] with state := .settle, reason := 1 } ∧ t.front[n].settle = .waiting ∧
      t.front[n].warm = false ∧ s.ProbeLeft t n ∧
      ∀ m, m ≠ n → t.ch[m] = s.ch[m] ∧ t.front[m] = s.front[m] ∧ t.watch[m] = s.watch[m] := by
  obtain ⟨t, u, hexec, rfl, hcold⟩ := chEnable_on c ha hs hl
  obtain ⟨hframe, hch, hsettle, hwarm, hprobe, hothers⟩ := hcold
  refine ⟨_, hexec, visible_cfgGen (chEnable_ne_CFG_GEN n) fun j => ?_, ?_, hch, hsettle, hwarm, hprobe, hothers⟩
  · rw [hframe]
    rfl
  · rw [hframe]
    rfl

/-- A channel that is switched off keeps its loop and record; another keeps its state and loop. -/
theorem chEnable_off_keeps {p : Port} {n : ChId} {s : State}
    (ha : s.Admits p (Reg.CH_ENABLE n) (dataAt (Reg.CH_ENABLE n) 0) 0) (hs : s.ch[n].state ≠ .off) :
    ∃ t, exec (.chEnableWrite p n 0) s = .next t ∧ t.reg (Reg.CH_ENABLE n) = 0 ∧ t.ch[n].state = .off ∧
      t.ch[n].reason = 1 ∧ t.ch[n].loop = s.ch[n].loop ∧ t.ch[n].out = s.ch[n].out ∧
      ∀ m, m ≠ n → t.ch[m].state = s.ch[m].state ∧ t.ch[m].loop = s.ch[m].loop := by
  obtain ⟨t, hexec, hreg, htest⟩ := chEnable_off ha hs
  have hself := modCh_self s n fun c => { c with state := .off, reason := 1 }
  have hview : ∀ m : ChId, { t.ch[m] with inj := {} } =
      { (s.modCh n fun c => { c with state := .off, reason := 1 }).ch[m] with inj := {} } := fun m => by
    rw [← testless_get, ← testless_get, htest]
  have hn := hview n
  rw [hself] at hn
  have hloop := congrArg Chan.loop hn
  have hout := congrArg Chan.out hn
  have hstate := congrArg Chan.state hn
  have hreason := congrArg Chan.reason hn
  refine ⟨t, hexec, hreg, hstate, hreason, hloop, hout, fun m hm => ?_⟩
  have hm' := hview m
  rw [modCh_ne s _ hm] at hm'
  have hstate := congrArg Chan.state hm'
  have hloop := congrArg Chan.loop hm'
  exact ⟨hstate, hloop⟩

/-- A channel without activity that is switched off outside TRACK changes nothing besides (R98). -/
theorem chEnable_off_idle {p : Port} {n : ChId} {s t : State} (c : s.Calm)
    (ha : s.Admits p (Reg.CH_ENABLE n) (dataAt (Reg.CH_ENABLE n) 0) 0) (hs : s.ch[n].state ≠ .off)
    (ht : s.ch[n].state ≠ .track) (hc : s.cal[n].state = .idle) (hp : s.front[n].probe = .idle)
    (hexec : exec (.chEnableWrite p n 0) s = .next t) : s.Visible t (Reg.CH_ENABLE n) 0 ∧
      t = { s.beat p with regs := t.regs, ch := t.ch, watch := t.watch, front := t.front } ∧
      t.front[n] = { s.front[n] with homePort := none, align := none } ∧ ∀ m, m ≠ n → t.front[m] = s.front[m] := by
  have ht' := Host.Outcome.next.inj (hexec.symm.trans (chEnable_off_plain c ha hs ht hc hp))
  generalize hw : ((((s.beat p).setReg (Reg.CH_ENABLE n) 0).modCh n fun c =>
    { c with state := .off, reason := 1 }).modWatch n fun w =>
      { w with excWait := false, coastCause := false, freqChanged := false }) = w at ht'
  have hframe : w = { s.beat p with regs := w.regs, ch := w.ch, watch := w.watch } := by rw [← hw]; rfl
  have hreg : ∀ j, w.reg j = (s.setReg (Reg.CH_ENABLE n) 0).reg j := fun j => by rw [← hw]; rfl
  clear hw
  have hfront : w.front = s.front := by rw [hframe]; rfl
  rw [ht']
  refine ⟨visible_cfgGen (chEnable_ne_CFG_GEN n) hreg, ?_, (modFront_self w n _).trans (by rw [hfront]),
    fun m hm => (modFront_ne w _ hm).trans (by rw [hfront])⟩
  rw [hframe]
  rfl

theorem seedOwn_seeds {n : ChId} {s : State} (c : s.Calm) (hl : s.lanesOn = true) (hs : s.ch[n].state = .settle)
    {k : Nat} {a b : Int} (hf : s.front[n].settle = .seeding k a b) (hk : periodSamples s.exc[s.excIx n].freq ≤ k)
    (hseed : s.seedFrom n = none) :
    ∃ t, exec (.settleSeed n) s = .next t ∧
      t = { s with regs := t.regs, ch := t.ch, watch := t.watch, front := t.front } ∧ s.OneReg t (Reg.CH_HOMED n) 0 ∧
      t.ch[n] = s.ch[n].seeded a b ∧ t.watch[n].win = [] ∧ t.front[n].settle = .running ∧
      ∀ m, m ≠ n → t.ch[m] = s.ch[m] ∧ t.front[m] = s.front[m] ∧ t.watch[m] = s.watch[m] := by
  refine ⟨(s.seedOwn n a b).seedDone n, (settleSeed_own hl hs hf hk hseed).trans (done_quiet c.1), ?_⟩
  rw [seedOwn_eq]
  exact ⟨rfl, oneReg_setReg (s.modCh n _) _ _, modCh_self s n (Chan.seeded a b),
    congrArg Watch.win (modWatch_self _ n _), congrArg Front.settle (modFront_self _ n _),
    fun m hm => ⟨modCh_ne s _ hm, modFront_ne _ _ hm, modWatch_ne _ _ hm⟩⟩

theorem seedDone_marks (u : State) (n : ChId) : (u.seedDone n).front[n].settle = .running ∧
    (u.seedDone n).regs = u.regs ∧ (u.seedDone n).ch = u.ch ∧ (u.seedDone n).floor = u.floor ∧
    ∀ m, m ≠ n → (u.seedDone n).front[m] = u.front[m] ∧ (u.seedDone n).watch[m] = u.watch[m] :=
  ⟨congrArg Front.settle (modFront_self _ n _), rfl, rfl, rfl, fun _ hm => ⟨modFront_ne _ _ hm, modWatch_ne _ _ hm⟩⟩

/-- Settles O27: on and off by `enterCh`, a seed of its own or from a partner's record, and the two steps that follow. -/
theorem channelsSettleColdSeedAndTrack : Obligations.ChannelsSettleColdSeedAndTrack := by
  refine ⟨fun p n s c ha => ⟨chEnable_settles c ha, fun hs => ?_⟩, fun p n s ha hs => ?_,
    fun n s c hl hs k a b hf hk hseed => ?_, fun n s c hl hs k a b hf hk q r hseed x hx => ?_,
    fun n s c hs hf => ?_, fun n s c hl hs hf hn hx h₁ h₂ => ?_⟩
  · exact ⟨_, chEnable_already c ha hs, visible_cfgGen (chEnable_ne_CFG_GEN n) fun _ => rfl, rfl⟩
  · obtain ⟨t, hexec, hreg, hstate, hreason, hloop, hout, hothers⟩ := chEnable_off_keeps ha hs
    exact ⟨t, hexec, hreg, hstate, hreason, hloop, hout, hothers, fun c ht hc hp => chEnable_off_idle c ha hs ht hc hp hexec⟩
  · obtain ⟨t, hexec, hframe, hhomed, hch, hrest⟩ := seedOwn_seeds c hl hs hf hk hseed
    exact ⟨t, hexec, hframe, hhomed, congrArg Chan.loop hch, (congrArg Chan.state hch).trans hs, hrest⟩
  · obtain ⟨u, hu, hframe, hhomed, hofs, hstate, hothers, hloop⟩ := seedRecord_seeds s n q r a b
    have hfront : u.front = s.front := by rw [hframe]
    have hwatch : u.watch = s.watch := by rw [hframe]
    have hexec := settleSeed_record hl hs hf hk hseed
    rw [← hu] at hexec
    obtain ⟨hsettle, hregs, hch, hfloor, hrest⟩ := seedDone_marks u n
    generalize u.seedDone n = v at *
    refine ⟨v, hexec.trans (done_quiet (by rw [hfloor, hframe]; exact c.1)), hsettle, ?_, ?_, by rw [hch]; exact hstate.trans hs,
      by rw [hch]; exact hloop.trans (by rw [hx]), fun m hm => ⟨by rw [hch]; exact hothers m hm, ?_, ?_⟩⟩
    · rw [State.reg, hregs]; exact hhomed
    · rw [State.reg, hregs]; exact hofs
    · rw [(hrest m hm).1, hfront]
    · rw [(hrest m hm).2, hwatch]
  · exact ⟨_, warmSettleResume_resumes c hs hf, rfl, modFront_self s n _, fun m hm => modFront_ne s _ hm⟩
  · exact ⟨_, settleComplete_tracks c hl hs hf hn hx h₁ h₂, rfl, modCh_self s n _,
      fun m hm => ⟨modCh_ne s _ hm, modWatch_ne _ _ hm⟩⟩

end Sys2Proof.Machine
end

section
/-!
PROOFS. The results of a probe and the source of a channel's temperature (R63 to R67).
-/

namespace Sys2Proof.Machine

set_option Elab.async false

/-! ### Registers written one after another -/

/-- `s` with a list of registers written in order. -/
def State.setAll (s : State) (l : List (Key × Int)) : State := l.foldl (fun s x => s.setReg x.1 x.2) s

theorem setAll_frame (s : State) (l : List (Key × Int)) : s.setAll l = { s with regs := (s.setAll l).regs } := by
  unfold State.setAll
  induction l generalizing s with
  | nil => rfl
  | cons x l ih => exact (ih (s.setReg x.1 x.2)).trans rfl

theorem setAll_reg_ne (s : State) (l : List (Key × Int)) {k : Key} (h : k ∉ l.map fun x => x.1) :
    (s.setAll l).reg k = s.reg k := by
  induction l generalizing s with
  | nil => rfl
  | cons x l ih =>
    rw [List.map_cons, List.mem_cons, not_or] at h
    exact (ih (s.setReg x.1 x.2) h.2).trans (State.reg_setReg_ne s x.2 (Ne.symm h.1))

theorem setAll_reg (s : State) (l : List (Key × Int)) (hl : (l.map fun x => x.1).Nodup) {k : Key} {v : Int}
    (h : (k, v) ∈ l) : (s.setAll l).reg k = v := by
  induction l generalizing s with
  | nil => cases h
  | cons x l ih =>
    rw [List.map_cons, List.nodup_cons] at hl
    rcases List.mem_cons.1 h with rfl | h
    · exact (setAll_reg_ne (s.setReg k v) l hl.1).trans (State.reg_setReg s k v)
    · exact ih (s.setReg x.1 x.2) hl.2 h

/-- None of the keys is a configuration of a fault source. -/
def plainKeys (l : List (Key × Int)) : Prop := ∀ k ∈ l.map (fun x => x.1), k < 0x500000 ∨ 0x550000 ≤ k

theorem setAll_calm {s : State} {l : List (Key × Int)} (h : plainKeys l) (c : s.Calm) : (s.setAll l).Calm := by
  induction l generalizing s with
  | nil => exact c
  | cons x l ih =>
    exact ih (fun k hk => h k (List.mem_cons_of_mem _ hk)) (setReg_calm s (h x.1 (List.mem_cons_self ..)) x.2 c)

theorem setAll_mild {s : State} {l : List (Key × Int)} (h : plainKeys l) {id : Nat} (hid : id < 1280) (m : s.Mild id) :
    (s.setAll l).Mild id := by
  induction l generalizing s with
  | nil => exact m
  | cons x l ih =>
    exact ih (fun k hk => h k (List.mem_cons_of_mem _ hk)) (setReg_mild s (h x.1 (List.mem_cons_self ..)) x.2 hid m)

/-! ### What a probe's end leaves alone -/

/-- `t` differs from `s` by registers, front ends, domains and runs, and by what raised sources may change. -/
def FrontFrame (s t : State) : Prop :=
  RaiseFrame { s with regs := t.regs, front := t.front, sched := t.sched, cal := t.cal } t

theorem FrontFrame.refl (s : State) : FrontFrame s s := RaiseFrame.refl s

theorem RaiseFrame.toFront {s t : State} (h : RaiseFrame s t) : FrontFrame s t :=
  { h with front := rfl, sched := rfl, cal := rfl, reg := fun _ _ => rfl, wf := id }

theorem FrontFrame.trans {s t u : State} (h : FrontFrame s t) (g : FrontFrame t u) : FrontFrame s u := by
  have hs : RaiseFrame { s with regs := u.regs, front := u.front, sched := u.sched, cal := u.cal }
      { t with regs := u.regs, front := u.front, sched := u.sched, cal := u.cal } :=
    { h with front := rfl, sched := rfl, cal := rfl, reg := fun _ _ => rfl, wf := id }
  exact hs.trans g

theorem FrontFrame.of_eq {s t : State} (h : t = { s with regs := t.regs, front := t.front, sched := t.sched, cal := t.cal }) :
    FrontFrame s t := by
  unfold FrontFrame
  rw [← h]
  exact RaiseFrame.refl t

theorem setAll_front (s : State) (l : List (Key × Int)) : FrontFrame s (s.setAll l) := .of_eq (by rw [setAll_frame])

/-! ### The parts of a probe's results (R64 to R67) -/

/-- A part of a probe's results: registers of a list, the channel's own front end, and what a raise may change. -/
structure ProbePart (n : ChId) (ks : List Key) (s t : State) : Prop where
  frame : FrontFrame s t
  regs : s.SameRegs t ks
  others : ∀ m, m ≠ n → t.front[m] = s.front[m] ∧ t.cal[m] = s.cal[m]
  calm : s.Calm → t.Calm

theorem ProbePart.trans {n : ChId} {ks : List Key} {s t u : State} (h : ProbePart n ks s t) (g : ProbePart n ks t u) :
    ProbePart n ks s u where
  frame := h.frame.trans g.frame
  regs := fun j hj => (g.regs j hj).trans (h.regs j hj)
  others := fun m hm => ⟨(g.others m hm).1.trans (h.others m hm).1, (g.others m hm).2.trans (h.others m hm).2⟩
  calm := g.calm ∘ h.calm

theorem ProbePart.mono {n : ChId} {ks ls : List Key} {s t : State} (h : ProbePart n ks s t) (hs : ∀ k ∈ ks, k ∈ ls) :
    ProbePart n ls s t := ⟨h.frame, fun j hj => h.regs j fun hk => hj (hs j hk), h.others, h.calm⟩

theorem setAll_part (s : State) (n : ChId) {l : List (Key × Int)} (h : plainKeys l) :
    ProbePart n (l.map fun x => x.1) s (s.setAll l) where
  frame := setAll_front s l
  regs := fun _ hj => setAll_reg_ne s l hj
  others := fun m _ => by rw [setAll_frame]; exact ⟨rfl, rfl⟩
  calm := setAll_calm h

theorem modFront_part (s : State) (n : ChId) (f : Front → Front) : ProbePart n [] s (s.modFront n f) where
  frame := .of_eq rfl
  regs := fun _ _ => rfl
  others := fun _ hm => ⟨modFront_ne s f hm, rfl⟩
  calm := id

theorem modSched_part (s : State) (n : ChId) (d : Fin 17) (f : Sched → Sched) : ProbePart n [] s (s.modSched d f) where
  frame := .of_eq rfl
  regs := fun _ _ => rfl
  others := fun _ _ => ⟨rfl, rfl⟩
  calm := id

theorem level_part {s : State} (n : ChId) (id : Nat) (b : Bool) (m : s.Mild id) :
    ProbePart n [Reg.FC_LOG_LOST] s (s.level id b) where
  frame := (level_frame s id b).toFront
  regs := fun j hj => (level_frame s id b).reg j fun h => hj (h ▸ List.mem_singleton.mpr rfl)
  others := fun m _ => by rw [(level_frame s id b).front, (level_frame s id b).cal]; exact ⟨rfl, rfl⟩
  calm := level_calm s id b (.inr m)

/-- The source in use and its temperature. -/
theorem tempChoose_eq (s : State) (n : ChId) : ∃ x v, s.tempChoose n = s.setAll [(Reg.CH_TEMP_USED n, x), (Reg.CH_TEMP n, v)] :=
  ⟨_, _, rfl⟩

/-- The registers that a probe's results set, in groups: results, references, temperatures. -/
def probeRegs (n : ChId) : List Key := [Reg.CH_RW_SIN n, Reg.CH_RW_COS n, Reg.CH_ZW_SIN n, Reg.CH_ZW_COS n]
def probeRefs (n : ChId) : List Key := [Reg.CH_RREF_SIN n, Reg.CH_RREF_COS n, Reg.CH_ZREF_SIN n, Reg.CH_ZREF_COS n]
def probeTemps (n : ChId) : List Key := [Reg.CH_TEMP_CU n, Reg.CH_TEMP_USED n, Reg.CH_TEMP n, Reg.FC_LOG_LOST]

theorem probeKeys_plain (n : ChId) : ∀ k ∈ probeRegs n ++ probeRefs n ++ probeTemps n, k < 0x500000 ∨ 0x550000 ≤ k := by
  decide +revert

theorem probeKeys_nodup (n : ChId) :
    (probeRegs n ++ probeRefs n ++ probeTemps n).Nodup ∧ Reg.CH_TREF n ∉ probeRegs n ++ probeRefs n ++ probeTemps n := by
  decide +revert

theorem probeSrcs_apart (n : ChId) : chSrc n 15 ≠ chSrc n 14 ∧ chSrc n 15 ≠ 1029 ∧ chSrc n 15 < 1280 ∧ chSrc n 14 < 1280 := by
  decide +revert

theorem tempChoose_part (s : State) (n : ChId) : ProbePart n (probeTemps n) s (s.tempChoose n) := by
  obtain ⟨x, v, h⟩ := tempChoose_eq s n
  rw [h]
  refine (setAll_part s n fun k hk => probeKeys_plain n k ?_).mono fun k hk => ?_
  · simp only [List.map_cons, List.map_nil, List.mem_cons, List.not_mem_nil, or_false] at hk
    rcases hk with rfl | rfl <;> simp [probeTemps]
  · simp only [List.map_cons, List.map_nil, List.mem_cons, List.not_mem_nil, or_false] at hk
    rcases hk with rfl | rfl <;> simp [probeTemps]

/-- The four results, and the four references, in the order of their registers. -/
def probeShow (n : ChId) (rs rc zs zc : Int) : List (Key × Int) :=
  [(Reg.CH_RW_SIN n, rs), (Reg.CH_RW_COS n, rc), (Reg.CH_ZW_SIN n, zs), (Reg.CH_ZW_COS n, zc)]
def probeLearn (n : ChId) (rs rc zs zc : Int) : List (Key × Int) :=
  [(Reg.CH_RREF_SIN n, rs), (Reg.CH_RREF_COS n, rc), (Reg.CH_ZREF_SIN n, zs), (Reg.CH_ZREF_COS n, zc)]

theorem probeShow_keys (n : ChId) (rs rc zs zc : Int) : (probeShow n rs rc zs zc).map (fun x => x.1) = probeRegs n := rfl

theorem probeLearn_keys (n : ChId) (rs rc zs zc : Int) : (probeLearn n rs rc zs zc).map (fun x => x.1) = probeRefs n := rfl

/-- The results as published. -/
def State.probeShown (s : State) (n : ChId) (rs rc zs zc : Int) : State :=
  s.setAll (probeShow n rs rc zs zc)

/-- The references as learned, where they are to be learned. -/
def State.probeLearned (s : State) (n : ChId) (rs rc zs zc : Int) : State :=
  if s.front[n].learn then
    (s.setAll (probeLearn n rs rc zs zc)).modFront n fun f => { f with learn := false }
  else s

/-- The copper temperature from the references. -/
def State.probeTemp (s : State) (n : ChId) (rs rc : Int) : State :=
  let refS := s.reg (Reg.CH_RREF_SIN n)
  let refC := s.reg (Reg.CH_RREF_COS n)
  if refS = 0 || refC = 0 then (s.modFront n fun f => { f with cuOk := false }).tempChoose n
  else
    let a := copperTemp (s.reg (Reg.CH_TREF n)) rs refS
    let b := copperTemp (s.reg (Reg.CH_TREF n)) rc refC
    let t := divRound (a + b) 2
    let s := (s.setReg (Reg.CH_TEMP_CU n) (clampI (-32768) 32767 t)).level (chSrc n 15) (10 < (a - b).natAbs)
    (s.modFront n fun f => { f with cuOk := -110 ≤ t && t ≤ 400 }).tempChoose n

theorem probeResults_eq (s : State) (n : ChId) (rs rc zs zc : Int) : ∃ x,
    s.probeResults n rs rc zs zc =
      ((((s.probeShown n rs rc zs zc).probeLearned n rs rc zs zc).level (chSrc n 14) x).probeTemp n rs rc) := ⟨_, rfl⟩

theorem probeShown_part (s : State) (n : ChId) (rs rc zs zc : Int) :
    ProbePart n (probeRegs n) s (s.probeShown n rs rc zs zc) :=
  setAll_part s n (l := probeShow n rs rc zs zc) fun k hk =>
    probeKeys_plain n k (List.mem_append_left _ (List.mem_append_left _ hk))

theorem probeShown_regs (s : State) (n : ChId) (rs rc zs zc : Int) :
    (s.probeShown n rs rc zs zc).reg (Reg.CH_RW_SIN n) = rs ∧ (s.probeShown n rs rc zs zc).reg (Reg.CH_RW_COS n) = rc ∧
    (s.probeShown n rs rc zs zc).reg (Reg.CH_ZW_SIN n) = zs ∧ (s.probeShown n rs rc zs zc).reg (Reg.CH_ZW_COS n) = zc := by
  have hl := (List.nodup_append.1 (List.nodup_append.1 (probeKeys_nodup n).1).1).1
  rw [← probeShow_keys n rs rc zs zc] at hl
  unfold State.probeShown
  refine ⟨setAll_reg s _ hl ?_, setAll_reg s _ hl ?_, setAll_reg s _ hl ?_, setAll_reg s _ hl ?_⟩ <;> simp [probeShow]

theorem probeLearned_part (s : State) (n : ChId) (rs rc zs zc : Int) :
    ProbePart n (probeRefs n) s (s.probeLearned n rs rc zs zc) := by
  unfold State.probeLearned
  split
  · exact (setAll_part s n (l := probeLearn n rs rc zs zc) fun k hk => probeKeys_plain n k (List.mem_append_left _ (List.mem_append_right _ hk))).trans
      ((modFront_part _ n _).mono fun k hk => by cases hk)
  · exact ⟨.refl s, fun _ _ => rfl, fun _ _ => ⟨rfl, rfl⟩, id⟩

theorem probeLearned_regs {s : State} {n : ChId} (rs rc zs zc : Int) (h : s.front[n].learn = true) :
    (s.probeLearned n rs rc zs zc).reg (Reg.CH_RREF_SIN n) = rs ∧ (s.probeLearned n rs rc zs zc).reg (Reg.CH_RREF_COS n) = rc ∧
    (s.probeLearned n rs rc zs zc).reg (Reg.CH_ZREF_SIN n) = zs ∧ (s.probeLearned n rs rc zs zc).reg (Reg.CH_ZREF_COS n) = zc := by
  have hl := (List.nodup_append.1 (List.nodup_append.1 (probeKeys_nodup n).1).1).2.1
  rw [← probeLearn_keys n rs rc zs zc] at hl
  have hreg : ∀ k v, (k, v) ∈ probeLearn n rs rc zs zc → (s.probeLearned n rs rc zs zc).reg k = v := fun k v hk => by
    have hset := setAll_reg s _ hl hk
    unfold State.probeLearned
    rw [if_pos h]
    exact (State.modFront_reg _ n _ k).trans hset
  refine ⟨hreg _ _ ?_, hreg _ _ ?_, hreg _ _ ?_, hreg _ _ ?_⟩ <;> simp [probeLearn]

theorem probeLearned_front (s : State) (n : ChId) (rs rc zs zc : Int) :
    (s.probeLearned n rs rc zs zc).front[n] = { s.front[n] with learn := false } := by
  unfold State.probeLearned
  by_cases h : s.front[n].learn = true
  · rw [if_pos h, modFront_self, setAll_frame]
  · rw [if_neg h, ← Bool.eq_false_iff.2 h]

theorem probeTemp_part {s : State} {n : ChId} (rs rc : Int) (m : s.Mild (chSrc n 15)) :
    ProbePart n (probeTemps n) s (s.probeTemp n rs rc) := by
  obtain ⟨-, -, hid, -⟩ := probeSrcs_apart n
  have hplain : ∀ v, plainKeys [(Reg.CH_TEMP_CU n, v)] := fun v k hk =>
    probeKeys_plain n k (List.mem_append_right _ (List.mem_of_mem_head? (by cases List.mem_singleton.1 hk; rfl)))
  have hno : ∀ k ∈ ([] : List Key), k ∈ probeTemps n := fun k hk => by cases hk
  unfold State.probeTemp
  extract_lets refS refC a b x u
  split
  · exact ((modFront_part s n _).mono hno).trans (tempChoose_part _ n)
  · have hset : ProbePart n (probeTemps n) s (s.setReg (Reg.CH_TEMP_CU n) (clampI (-32768) 32767 x)) :=
      (setAll_part s n (hplain _)).mono fun k hk => by cases List.mem_singleton.1 hk; exact List.mem_cons_self ..
    have hlevel := level_part (s := s.setReg (Reg.CH_TEMP_CU n) (clampI (-32768) 32767 x)) n (chSrc n 15)
      (10 < (a - b).natAbs) (setAll_mild (hplain _) hid m)
    exact ((hset.trans (hlevel.mono fun k hk => by cases List.mem_singleton.1 hk; simp [probeTemps])).trans
      ((modFront_part _ n _).mono hno)).trans (tempChoose_part _ n)

theorem tempChoose_front (s : State) (n : ChId) : (s.tempChoose n).front = s.front := rfl

theorem probeTemp_front (s : State) (n : ChId) (rs rc : Int) :
    ∃ x, (s.probeTemp n rs rc).front[n] = { s.front[n] with cuOk := x } := by
  unfold State.probeTemp
  extract_lets refS refC a b x u
  split
  · exact ⟨_, modFront_self s n _⟩
  · have hu : u.front = s.front := (level_frame _ _ _).front
    refine ⟨decide (-110 ≤ x) && decide (x ≤ 400), (modFront_self u n _).trans ?_⟩
    rw [hu]

theorem probeTemp_copper {s : State} {n : ChId} (rs rc : Int) (h₁ : s.reg (Reg.CH_RREF_SIN n) ≠ 0)
    (h₂ : s.reg (Reg.CH_RREF_COS n) ≠ 0) :
    (s.probeTemp n rs rc).reg (Reg.CH_TEMP_CU n) = clampI (-32768) 32767 (divRound
      (copperTemp (s.reg (Reg.CH_TREF n)) rs (s.reg (Reg.CH_RREF_SIN n)) +
        copperTemp (s.reg (Reg.CH_TREF n)) rc (s.reg (Reg.CH_RREF_COS n))) 2) := by
  have hkeys := (List.nodup_append.1 (probeKeys_nodup n).1).2.1
  have hcu : Reg.CH_TEMP_CU n ∉ [Reg.CH_TEMP_USED n, Reg.CH_TEMP n, Reg.FC_LOG_LOST] := (List.nodup_cons.1 hkeys).1
  unfold State.probeTemp
  extract_lets refS refC a b x u
  rw [if_neg (by simp [refS, refC, h₁, h₂])]
  obtain ⟨y, v, hset⟩ := tempChoose_eq (u.modFront n fun f => { f with cuOk := -110 ≤ x && x ≤ 400 }) n
  rw [hset, setAll_reg_ne _ _ fun h => hcu (List.mem_append_left [Reg.FC_LOG_LOST] h)]
  refine ((level_frame _ _ _).reg _ fun h => hcu ?_).trans (State.reg_setReg s _ _)
  rw [h]
  simp

/-! ### Every clause -/

/-- Where a probe's whole result lies. -/
def probeAll (n : ChId) : List Key := probeRegs n ++ probeRefs n ++ probeTemps n

theorem probeKeys_apart (n : ChId) : (∀ k ∈ probeRegs n, k ∉ probeRefs n ∧ k ∉ probeTemps n) ∧
    (∀ k ∈ probeRefs n, k ∉ probeRegs n ∧ k ∉ probeTemps n) ∧ Reg.CH_TREF n ∉ probeAll n := by decide +revert

theorem probeLearned_mild {s : State} {n : ChId} (rs rc zs zc : Int) {id : Nat} (hid : id < 1280) (m : s.Mild id) :
    (s.probeLearned n rs rc zs zc).Mild id := by
  have hset : (s.setAll (probeLearn n rs rc zs zc)).Mild id :=
    setAll_mild (l := probeLearn n rs rc zs zc)
      (fun k hk => probeKeys_plain n k (List.mem_append_left _ (List.mem_append_right _ hk))) hid m
  have hfront : ∀ u : State, u.Mild id → (u.modFront n fun f => { f with learn := false }).Mild id := fun _ h => h
  unfold State.probeLearned
  split
  · exact hfront _ hset
  · exact m

/-- The results, references and copper temperature of a probe. -/
structure ProbeShows (s t : State) (n : ChId) (rs rc zs zc : Int) : Prop where
  part : ProbePart n (probeAll n) s t
  front : ∃ x, t.front[n] = { s.front[n] with learn := false, cuOk := x }
  results : t.reg (Reg.CH_RW_SIN n) = rs ∧ t.reg (Reg.CH_RW_COS n) = rc ∧ t.reg (Reg.CH_ZW_SIN n) = zs ∧
    t.reg (Reg.CH_ZW_COS n) = zc
  learned : s.front[n].learn = true → t.reg (Reg.CH_RREF_SIN n) = rs ∧ t.reg (Reg.CH_RREF_COS n) = rc ∧
    t.reg (Reg.CH_ZREF_SIN n) = zs ∧ t.reg (Reg.CH_ZREF_COS n) = zc
  copper : s.front[n].learn = false → s.reg (Reg.CH_RREF_SIN n) ≠ 0 → s.reg (Reg.CH_RREF_COS n) ≠ 0 →
    t.reg (Reg.CH_TEMP_CU n) = clampI (-32768) 32767 (divRound
      (copperTemp (s.reg (Reg.CH_TREF n)) rs (s.reg (Reg.CH_RREF_SIN n)) +
        copperTemp (s.reg (Reg.CH_TREF n)) rc (s.reg (Reg.CH_RREF_COS n))) 2)

theorem probeResults_shows {s : State} {n : ChId} (rs rc zs zc : Int) (m₁ : s.Mild (chSrc n 14))
    (m₂ : s.Mild (chSrc n 15)) : ProbeShows s (s.probeResults n rs rc zs zc) n rs rc zs zc := by
  obtain ⟨hne, hovf, hid₂, hid₁⟩ := probeSrcs_apart n
  obtain ⟨hregs, hrefs, htref⟩ := probeKeys_apart n
  obtain ⟨x, hx⟩ := probeResults_eq s n rs rc zs zc
  rw [hx]
  have hplain : plainKeys (probeShow n rs rc zs zc) := fun k hk =>
    probeKeys_plain n k (List.mem_append_left _ (List.mem_append_left _ hk))
  have mu : ∀ id, id < 1280 → s.Mild id → (s.probeShown n rs rc zs zc).Mild id := fun id hid m => setAll_mild hplain hid m
  have hushow := probeShown_regs s n rs rc zs zc
  have hufront : (s.probeShown n rs rc zs zc).front = s.front := by rw [State.probeShown, setAll_frame]
  have pu := probeShown_part s n rs rc zs zc
  generalize s.probeShown n rs rc zs zc = u at *
  have mv : ∀ id, id < 1280 → s.Mild id → (u.probeLearned n rs rc zs zc).Mild id := fun id hid m =>
    probeLearned_mild rs rc zs zc hid (mu id hid m)
  have hvlearn := probeLearned_regs (s := u) (n := n) rs rc zs zc
  have hvfront := probeLearned_front u n rs rc zs zc
  have hvsame : u.front[n].learn = false → u.probeLearned n rs rc zs zc = u := fun h => if_neg (by rw [h]; decide)
  have pv := probeLearned_part u n rs rc zs zc
  generalize u.probeLearned n rs rc zs zc = v at *
  have hwframe := level_frame v (chSrc n 14) x
  have mw : (v.level (chSrc n 14) x).Mild (chSrc n 15) :=
    hwframe.mild hid₂ (level_src_ne v x hne hovf) (mv _ hid₂ m₂)
  have pw := level_part (s := v) n (chSrc n 14) x (mv _ hid₁ m₁)
  generalize v.level (chSrc n 14) x = w at *
  have pt := probeTemp_part (n := n) rs rc mw
  have hcopper := probeTemp_copper (s := w) (n := n) rs rc
  obtain ⟨y, hy⟩ := probeTemp_front w n rs rc
  generalize w.probeTemp n rs rc = t at *
  have hwt : ∀ k, k ∉ probeTemps n → t.reg k = v.reg k := fun k hk =>
    (pt.regs k hk).trans (hwframe.reg k fun h => hk (by rw [h]; simp [probeTemps]))
  have hshown : ∀ k ∈ probeRegs n, t.reg k = u.reg k := fun k hk =>
    (hwt k (hregs k hk).2).trans (pv.regs k (hregs k hk).1)
  have hlearned : ∀ k ∈ probeRefs n, t.reg k = v.reg k := fun k hk => hwt k (hrefs k hk).2
  refine ⟨?_, ⟨y, ?_⟩, ⟨?_, ?_, ?_, ?_⟩, fun h => ⟨?_, ?_, ?_, ?_⟩, fun h h₁ h₂ => ?_⟩
  · have hl : ∀ k ∈ probeRegs n, k ∈ probeAll n := fun k hk => List.mem_append_left _ (List.mem_append_left _ hk)
    have hm : ∀ k ∈ probeRefs n, k ∈ probeAll n := fun k hk => List.mem_append_left _ (List.mem_append_right _ hk)
    have ht : ∀ k ∈ probeTemps n, k ∈ probeAll n := fun k hk => List.mem_append_right _ hk
    have hw : ∀ k ∈ [Reg.FC_LOG_LOST], k ∈ probeAll n := fun k hk => ht k (by rw [List.mem_singleton.1 hk]; simp [probeTemps])
    exact (((pu.mono hl).trans (pv.mono hm)).trans (pw.mono hw)).trans (pt.mono ht)
  · rw [hy, hwframe.front, hvfront, hufront]
  · exact (hshown _ (by simp [probeRegs])).trans hushow.1
  · exact (hshown _ (by simp [probeRegs])).trans hushow.2.1
  · exact (hshown _ (by simp [probeRegs])).trans hushow.2.2.1
  · exact (hshown _ (by simp [probeRegs])).trans hushow.2.2.2
  · exact (hlearned _ (by simp [probeRefs])).trans (hvlearn (by rw [hufront]; exact h)).1
  · exact (hlearned _ (by simp [probeRefs])).trans (hvlearn (by rw [hufront]; exact h)).2.1
  · exact (hlearned _ (by simp [probeRefs])).trans (hvlearn (by rw [hufront]; exact h)).2.2.1
  · exact (hlearned _ (by simp [probeRefs])).trans (hvlearn (by rw [hufront]; exact h)).2.2.2
  · have huv : v = u := hvsame (by rw [hufront]; exact h)
    have hws : ∀ k, k ∉ probeRegs n → k ≠ Reg.FC_LOG_LOST → w.reg k = s.reg k := fun k hk hl =>
      (hwframe.reg k hl).trans (huv ▸ pu.regs k hk)
    have hr : ∀ k ∈ probeRefs n, w.reg k = s.reg k := fun k hk =>
      hws k (hrefs k hk).1 fun hl => (hrefs k hk).2 (by rw [hl]; simp [probeTemps])
    have h1 := hr (Reg.CH_RREF_SIN n) (by simp [probeRefs])
    have h2 := hr (Reg.CH_RREF_COS n) (by simp [probeRefs])
    have h3 : w.reg (Reg.CH_TREF n) = s.reg (Reg.CH_TREF n) :=
      hws _ (fun hk => htref (List.mem_append_left _ (List.mem_append_left _ hk)))
        fun hl => htref (List.mem_append_right _ (by rw [hl]; simp [probeTemps]))
    rw [h1, h2, h3] at hcopper
    exact hcopper h₁ h₂

theorem tempKeys_ne (n : ChId) : Reg.CH_TEMP_USED n ≠ Reg.CH_TEMP n ∧ Reg.CH_TEMP_EXT n ≠ Reg.CH_TEMP_USED n := by
  decide +revert

/-- The source of a channel whose copper temperature is not valid (R67). -/
theorem tempChoose_fallback {s : State} {n : ChId} (h : s.cuValid n = false) :
    (s.tempChoose n).reg (Reg.CH_TEMP_USED n) = s.reg (Reg.CH_TEMP_FALLBACK n) ∧
    (s.reg (Reg.CH_TEMP_FALLBACK n) = 1 → (s.tempChoose n).reg (Reg.CH_TEMP n) = s.dieOf n) ∧
    (s.reg (Reg.CH_TEMP_FALLBACK n) = 2 → (s.tempChoose n).reg (Reg.CH_TEMP n) = s.reg (Reg.CH_TEMP_EXT n)) ∧
    s.SameRegs (s.tempChoose n) [Reg.CH_TEMP_USED n, Reg.CH_TEMP n] := by
  obtain ⟨hne, hext⟩ := tempKeys_ne n
  obtain ⟨u, hu⟩ : ∃ u, u = s.setReg (Reg.CH_TEMP_USED n) (s.reg (Reg.CH_TEMP_FALLBACK n)) := ⟨_, rfl⟩
  have hchoose : s.tempChoose n = u.tempFollow n := by
    rw [State.tempChoose, h, hu]
    rfl
  have hused : u.reg (Reg.CH_TEMP_USED n) = s.reg (Reg.CH_TEMP_FALLBACK n) := hu ▸ State.reg_setReg s _ _
  rw [hchoose]
  unfold State.tempFollow State.regN
  refine ⟨(State.reg_setReg_ne u _ hne.symm).trans hused, fun h₁ => ?_, fun h₂ => ?_, fun j hj => ?_⟩
  · rw [hused, h₁, State.reg_setReg]
    exact hu ▸ rfl
  · rw [hused, h₂, State.reg_setReg]
    change u.reg (Reg.CH_TEMP_EXT n) = _
    rw [hu, State.reg_setReg_ne _ _ hext.symm]
  · rw [List.mem_cons, List.mem_singleton, not_or] at hj
    rw [State.reg_setReg_ne _ _ (Ne.symm hj.2), hu, State.reg_setReg_ne _ _ (Ne.symm hj.1)]

/-- Settles O23: the results, references and copper temperature of a probe, and the fall-back of a lost validity. -/
theorem probeResultsAndTemperatureSources : Obligations.ProbeResultsAndTemperatureSources := by
  refine ⟨fun n vs us zs vc uc zc s c hl hp m₁ m₂ r hr hx a b z d ha hb hz hd => ?_, fun n s c ha hs hc => ?_⟩
  · obtain ⟨u, hu⟩ : ∃ u, u = s.modFront n fun f => { f with probe := .idle, probeRun := {} } := ⟨_, rfl⟩
    have hself : u.front[n] = { s.front[n] with probe := .idle, probeRun := {} } := hu ▸ modFront_self s n _
    have pu : ProbePart n [] s u := hu ▸ modFront_part s n _
    have hreg : ∀ k, u.reg k = s.reg k := fun k => hu ▸ rfl
    have hshows := probeResults_shows (s := u) (n := n) a b z d (hu ▸ m₁) (hu ▸ m₂)
    obtain ⟨part, ⟨x, hx'⟩, ⟨h₁, h₂, h₃, h₄⟩, hlearn, hcopper⟩ := hshows
    have hphase : r.phase = .over := by
      unfold ProbeRun.phase
      rw [if_neg (by omega), if_neg (by omega), if_neg (by omega), if_neg (by omega), if_neg (by omega)]
    have hexec : exec (.probeComplete n vs us zs vc uc zc) s =
        done ((u.probeResults n a b z d).modSched (chDomain n) (Sched.withdrawn (u.probeResults n a b z d).now .probe)) := by
      have hexec : exec (.probeComplete n vs us zs vc uc zc) s = execProbeComplete n vs us zs vc uc zc s := rfl
      unfold execProbeComplete at hexec
      dsimp only at hexec
      rw [← hr, if_pos (by rw [hl, hp, hphase]; rfl), ← ha, ← hb, ← hz, ← hd, ← hu, schedWithdraw_chan] at hexec
      exact hexec
    generalize u.probeResults n a b z d = t at *
    have ct : t.Calm := part.calm (hu ▸ c)
    have hsched := modSched_part t n (chDomain n) (Sched.withdrawn t.now .probe)
    have hall := (pu.mono fun k hk => by cases hk).trans (part.trans (hsched.mono fun k hk => by cases hk))
    have hfront : t.front[n] = { s.front[n] with probe := .idle, probeRun := {}, learn := false, cuOk := x } := by
      rw [hx', hself]
    have hlearn' : u.front[n].learn = s.front[n].learn := by rw [hself]
    rw [hlearn'] at hlearn hcopper
    rw [hreg, hreg, hreg] at hcopper
    exact ⟨_, hexec.trans (done_calm _ (hsched.calm ct)), congrArg Front.probe hfront, congrArg Front.probeRun hfront,
      h₁, h₂, h₃, h₄, congrArg Front.learn hfront, hlearn, hcopper, hall.regs, hall.frame, hall.others⟩
  · obtain ⟨u, hu⟩ : ∃ u, u = s.modFront n fun f => { f with cuOk := false } := ⟨_, rfl⟩
    have hself : u.front[n] = { s.front[n] with cuOk := false } := hu ▸ modFront_self s n _
    have hother : ∀ m, m ≠ n → u.front[m] = s.front[m] := fun m hm => hu ▸ modFront_ne s _ hm
    have hexec : exec (.copperTempValidityLoss n) s = done (s.cuLost n) := if_pos (by rw [ha, hs, hc]; rfl)
    have hreg : ∀ k, u.reg k = s.reg k := fun k => hu ▸ rfl
    unfold State.cuLost at hexec
    rw [← hu] at hexec
    dsimp only at hexec
    rw [hreg] at hexec
    by_cases h : s.reg (Reg.CH_TEMP_USED n) = 0
    · rw [if_pos h] at hexec
      have hinvalid : u.cuValid n = false := by
        unfold State.cuValid
        rw [hself]
        rfl
      obtain ⟨hused, hone, htwo, hregs⟩ := tempChoose_fallback hinvalid
      rw [hreg] at hused
      exact ⟨_, hexec.trans (done_calm _ ((tempChoose_part u n).calm (hu ▸ c))), hu ▸ rfl, hself, hother, fun h' => absurd h h',
        fun _ => ⟨hused, fun h₁ => (hone ((hreg _).trans h₁)).trans (hu ▸ rfl),
          fun h₂ => (htwo ((hreg _).trans h₂)).trans (hreg _), fun j hj => (hregs j hj).trans (hreg j)⟩⟩
    · rw [if_neg h] at hexec
      exact ⟨u, hexec.trans (done_calm u (hu ▸ c)), hu ▸ rfl, hself, hother, fun _ => hu ▸ rfl, fun h' => absurd h' h⟩

end Sys2Proof.Machine
end

section
/-!
PROOFS. Coefficient banks and their swaps (R81 to R85).
-/

namespace Sys2Proof.Machine

set_option Elab.async false

/-! ### Design and coefficient writes (R81 to R83) -/

theorem bankKeys_nodup (n : ChId) (b : Bool) : ((List.range 8).map fun i => bankKey b (i + 1) n).Nodup := by
  decide +revert

/-- A design has its eight values. -/
theorem designOf_eight (f z vfs : Int) : ∃ v₁ v₂ v₃ v₄ v₅ v₆ v₇ v₈ : Int,
    designOf f z vfs = [v₁, v₂, v₃, v₄, v₅, v₆, v₇, v₈] := ⟨_, _, _, _, _, _, _, _, rfl⟩

/-- The registers of a bank after its eight entries have been written. -/
theorem bankEntries_written (s : State) (n : ChId) (b : Bool) {vs : List Int} (hvs : vs.length = 8) :
    (∀ i : Fin 8, (s.setAll (bankEntries n b vs)).reg (bankKey b (i.val + 1) n) = vs.getD i.val 0) ∧
    s.SameRegs (s.setAll (bankEntries n b vs)) ((List.range 8).map fun i => bankKey b (i + 1) n) := by
  have hkeys : (bankEntries n b vs).map (fun x => x.1) = (List.range 8).map fun i => bankKey b (i + 1) n := by
    unfold bankEntries
    rw [List.map_map, ← hvs, List.range_eq_range', ← List.zipIdx_map_snd 0 vs, List.map_map]
    rfl
  refine ⟨fun i => setAll_reg s _ (by rw [hkeys]; exact bankKeys_nodup n b) ?_, fun j hj => setAll_reg_ne s _ (by rwa [hkeys])⟩
  have hi : i.val < vs.length := by rw [hvs]; exact i.isLt
  rw [List.getD_eq_getElem _ _ hi]
  exact List.mem_map.2 ⟨(vs[i.val], i.val), List.mk_mem_zipIdx_iff_getElem?.2 (List.getElem?_eq_getElem hi), rfl⟩

section
variable {s : State} {n : ChId} {b : Bool} {f z : Int}
  (hf : f = s.reg (if b then Reg.CH_B_BW_SET n else Reg.CH_A_BW_SET n))
  (hz : z = s.reg (if b then Reg.CH_B_ZETA_SET n else Reg.CH_A_ZETA_SET n))
  (hfr : (decide (50 ≤ f) && decide (f ≤ 8000)) = true) (hzr : (decide (700 ≤ z) && decide (z ≤ 1500)) = true)
include hf hz hfr hzr

theorem effDesign_ok (hb : s.bankBusy n b = false)
    (hk : s.bankCheck (overlay s.reg (bankEntries n b (designOf f z (s.reg (Reg.CH_VEL_FS n))))) n = .ok ()) :
    effDesign n b s = .ok (s.setAll (bankEntries n b (designOf f z (s.reg (Reg.CH_VEL_FS n))))) := by
  subst hf hz
  unfold effDesign
  dsimp only
  rw [need_true _ hfr, need_true _ hzr, need_true _ (show (!s.bankBusy n b) = true by rw [hb]; rfl)]
  exact (congrArg (fun r : Except Nak Unit => r.bind fun _ => .ok _) hk).trans rfl

theorem effDesign_busy (hb : s.bankBusy n b = true) : effDesign n b s = .error nakCond := by
  subst hf hz
  unfold effDesign
  dsimp only
  rw [need_true _ hfr, need_true _ hzr, need_false _ (show (!s.bankBusy n b) = false by rw [hb]; rfl)]
  rfl

end

/-- The heartbeat is no condition of a bank object. -/
theorem bankObjCheck_beat (s : State) (p : Port) (o : BankObj) (n : ChId) :
    bankObjCheck o n (s.beat p) = bankObjCheck o n s := by
  cases o <;> rfl

theorem bankObjKey_ne_CFG_GEN (o : BankObj) (n : ChId) : bankObjKey o n ≠ Reg.CFG_GEN := by
  cases o with
  | mant b c => cases c <;> decide +revert
  | shift b c => cases c <;> decide +revert
  | velFs => decide +revert
  | accFs => decide +revert

/-- What a bank object's own condition refuses. -/
theorem bankObjCheck_refused {o : BankObj} {n : ChId} {s : State} (get : Key → Int) (k : Key) (v : Int)
    (h : (∃ b c, (o = .mant b c ∨ o = .shift b c) ∧ s.bankBusy n b = true) ∨
      ((o = .velFs ∨ o = .accFs) ∧ s.ch[n].state ≠ .off)) : bankObjCheck o n s get k v = .error nakCond := by
  have hbusy : ∀ b, s.bankBusy n b = true → checkBank n (some b) s get k v = .error nakCond := fun b hb => by
    unfold checkBank
    dsimp only
    rw [need_false _ (show (!s.bankBusy n b) = false by rw [hb]; rfl)]
    rfl
  have hoff : s.ch[n].state ≠ .off → need (decide (s.ch[n].state = .off)) nakCond = .error nakCond := fun hs =>
    need_false _ (decide_eq_false hs)
  rcases h with ⟨b, c, rfl | rfl, hb⟩ | ⟨rfl | rfl, hs⟩
  · exact hbusy b hb
  · exact hbusy b hb
  · change checkBank n none s get k v = _
    unfold checkBank
    dsimp only
    rw [hoff hs]
    rfl
  · exact hoff hs

/-- Settles O24: a design and a coefficient write change their bank's registers alone, and are refused on a busy bank. -/
theorem bankChangesReachInactiveBanksOnly : Obligations.BankChangesReachInactiveBanksOnly := by
  refine ⟨fun p n b s f z c ha hf hz h₁ h₂ h₃ h₄ => ?_, fun p n o v s c ha => ⟨fun hk => ?_, fun h => ?_⟩⟩
  · have hfr : (decide (50 ≤ f) && decide (f ≤ 8000)) = true := by rw [decide_eq_true h₁, decide_eq_true h₂]; rfl
    have hzr : (decide (700 ≤ z) && decide (z ≤ 1500)) = true := by rw [decide_eq_true h₃, decide_eq_true h₄]; rfl
    refine ⟨fun hb hk => ?_, fun hb => hostWrite_refusedAs c ha (effDesign_busy (s := s.beat p) hf hz hfr hzr hb) (by decide)
      (by decide)⟩
    have hlen : (designOf f z (s.reg (Reg.CH_VEL_FS n))).length = 8 := by
      obtain ⟨v₁, v₂, v₃, v₄, v₅, v₆, v₇, v₈, hd⟩ := designOf_eight f z (s.reg (Reg.CH_VEL_FS n))
      rw [hd]
      rfl
    refine ⟨_, hostWrite_next ha (effDesign_ok (s := s.beat p) hf hz hfr hzr hb hk) ?_, setAll_frame _ _, bankEntries_written (s.beat p) n b hlen⟩
    rw [setAll_frame]
    exact c.1
  · exact ⟨_, hostWrite_next ha (effVisible_ok (by rw [bankObjCheck_beat]; exact hk)) c.1, visible_cfgGen (bankObjKey_ne_CFG_GEN o n) fun _ => rfl, rfl⟩
  · exact hostWrite_refusedAs c ha (effVisible_error (by rw [bankObjCheck_beat]; exact bankObjCheck_refused _ _ _ h)) (by decide) (by decide)

/-! ### Swaps (R84, R85) -/

theorem noSwap_ok {s : State} {n : ChId} (h : s.ch[n].swap = .none) : s.noSwap n = .ok () :=
  need_true _ (decide_eq_true h)

theorem noSwap_error {s : State} {n : ChId} (h : s.ch[n].swap ≠ .none) : s.noSwap n = .error nakCond :=
  need_false _ (decide_eq_false h)

theorem bankSel_ne_CFG_GEN (n : ChId) : Reg.CH_BANK_SEL n ≠ Reg.CFG_GEN := by decide +revert

/-- CH_BANK_SEL with the inactive bank arms a swap, and with the active one keeps what it read. -/
theorem bankSel_visible {p : Port} {n : ChId} {v : Int} {s : State} (c : s.Calm)
    (ha : s.Admits p (Reg.CH_BANK_SEL n) (dataAt (Reg.CH_BANK_SEL n) v) v)
    (h : v = s.otherBank n → s.ch[n].swap = .none) :
    ∃ t, exec (.chBankSelWrite p n v) s = .next t ∧
      s.Visible t (Reg.CH_BANK_SEL n) (if v = s.otherBank n then v else s.reg (Reg.CH_BANK_SEL n)) ∧
      t = { s.beat p with regs := t.regs, ch := t.ch } ∧ (∀ m, m ≠ n → t.ch[m] = s.ch[m]) ∧
      t.ch[n] = if v = s.otherBank n then { s.ch[n] with swap := .fence p } else s.ch[n] := by
  have hcheck : checkBankSel n (s.beat p) (overlay (s.beat p).reg [(Reg.CH_BANK_SEL n, v)]) (Reg.CH_BANK_SEL n) v = .ok () := by
    unfold checkBankSel
    by_cases hv : v = s.otherBank n
    · exact (if_pos hv).trans (noSwap_ok (s := s.beat p) (h hv))
    · exact if_neg hv
  by_cases hv : v = s.otherBank n
  · have happly : applyBankSel p n ((s.beat p).setReg (Reg.CH_BANK_SEL n) v) (Reg.CH_BANK_SEL n)
        ((s.beat p).reg (Reg.CH_BANK_SEL n)) v =
        ((s.beat p).setReg (Reg.CH_BANK_SEL n) v).modCh n fun c => { c with swap := .fence p } := if_pos hv
    have heff := effVisible_ok (apply := applyBankSel p n) hcheck
    rw [happly] at heff
    rw [if_pos hv, if_pos hv]
    exact ⟨_, hostWrite_next ha heff c.1,
      visible_cfgGen (bankSel_ne_CFG_GEN n) fun _ => rfl, rfl, fun m hm => modCh_ne _ _ hm, modCh_self _ n _⟩
  · have happly : applyBankSel p n ((s.beat p).setReg (Reg.CH_BANK_SEL n) v) (Reg.CH_BANK_SEL n)
        ((s.beat p).reg (Reg.CH_BANK_SEL n)) v =
        ((s.beat p).setReg (Reg.CH_BANK_SEL n) v).setReg (Reg.CH_BANK_SEL n) (s.reg (Reg.CH_BANK_SEL n)) := if_neg hv
    have heff := effVisible_ok (apply := applyBankSel p n) hcheck
    rw [happly] at heff
    rw [if_neg hv, if_neg hv]
    refine ⟨_, hostWrite_next ha heff c.1,
      visible_cfgGen (bankSel_ne_CFG_GEN n) fun j => ?_, rfl, fun _ _ => rfl, rfl⟩
    by_cases hj : j = Reg.CH_BANK_SEL n
    · rw [hj, State.reg_setReg, State.reg_setReg]
    · rw [State.reg_setReg_ne _ _ (Ne.symm hj), State.reg_setReg_ne _ _ (Ne.symm hj), State.reg_setReg_ne _ _ (Ne.symm hj)]
      rfl

theorem bankSel_refused {p : Port} {n : ChId} {v : Int} {s : State} (c : s.Calm)
    (ha : s.Admits p (Reg.CH_BANK_SEL n) (dataAt (Reg.CH_BANK_SEL n) v) v) (hv : v = s.otherBank n)
    (h : s.ch[n].swap ≠ .none) :
    ∃ t, exec (.chBankSelWrite p n v) s = .next t ∧ s.RefusedAs t p (Reg.CH_BANK_SEL n) nakCond := by
  refine hostWrite_refusedAs c ha (effVisible_error ?_) (by decide) (by decide)
  exact (if_pos hv).trans (noSwap_error (s := s.beat p) h)

theorem bankSwap_armed {p : Port} {n : ChId} {s : State} (c : s.Calm) (ha : s.AdmitsCmd p (Reg.CH_BANK_SWAP n))
    (h : s.ch[n].swap = .none) :
    exec (.chBankSwap p n) s = .next ((s.beat p).modCh n fun c => { c with swap := .sample p }) := by
  refine hostWrite_next ha ?_ c.1
  unfold effBankSwap
  rw [noSwap_ok (s := s.beat p) h]
  rfl

theorem bankSwap_refused {p : Port} {n : ChId} {s : State} (c : s.Calm) (ha : s.AdmitsCmd p (Reg.CH_BANK_SWAP n))
    (h : s.ch[n].swap ≠ .none) :
    ∃ t, exec (.chBankSwap p n) s = .next t ∧ s.RefusedAs t p (Reg.CH_BANK_SWAP n) nakCond := by
  refine hostWrite_refusedAs c ha ?_ (by decide) (by decide)
  unfold effBankSwap
  rw [noSwap_error (s := s.beat p) h]
  rfl

theorem t32_toNat (x : Time32) : t32 (Int.ofNat x.toNat) = x := by
  unfold t32
  refine BitVec.eq_of_toNat_eq ?_
  simp

theorem bankSwapAt_armed {p : Port} {n : ChId} {x : Time32} {s : State} (c : s.Calm)
    (ha : s.Admits p (Reg.CH_BANK_SWAP_AT n) (dataAt (Reg.CH_BANK_SWAP_AT n) (Int.ofNat x.toNat)) (Int.ofNat x.toNat))
    (h : s.ch[n].swap = .none) :
    exec (.chBankSwapAt p n x) s = .next (((s.beat p).setReg (Reg.CH_BANK_SWAP_AT n) (Int.ofNat x.toNat)).modCh n fun c =>
      { c with swap := .time x false }) := by
  refine hostWrite_next ha ?_ c.1
  unfold effBankSwapAt
  rw [noSwap_ok (s := s.beat p) h, t32_toNat]
  rfl

theorem swapKeys_apart (n : ChId) : Reg.CH_SWAP_COUNT n ≠ Reg.CH_BANK_ACTIVE n ∧ Reg.CH_SWAP_COUNT n ≠ Reg.CH_BANK_SEL n ∧
    Reg.CH_BANK_ACTIVE n ≠ Reg.CH_BANK_SEL n ∧
    Reg.FC_LOG_LOST ∉ [Reg.CH_SWAP_COUNT n, Reg.CH_BANK_ACTIVE n, Reg.CH_BANK_SEL n] := by decide +revert

theorem bankKey_not_swapKey (n : ChId) (b : Bool) (i : Fin 8) :
    bankKey b (i.val + 1) n ∉ [Reg.CH_BANK_ACTIVE n, Reg.CH_BANK_SEL n, Reg.CH_SWAP_COUNT n, Reg.FC_LOG_LOST] := by
  decide +revert

/-- The coefficients of a bank, as far as the registers agree on them. -/
theorem coefsOf_congr {get get' : Key → Int} {n : ChId} {b : Bool}
    (h : ∀ i : Fin 8, get' (bankKey b (i.val + 1) n) = get (bankKey b (i.val + 1) n)) : coefsOf get' n b = coefsOf get n b := by
  unfold coefsOf
  exact Coefs.mk.injEq .. ▸ ⟨h 0, h 1, h 2, h 3, h 4, h 5, h 6, h 7⟩

/-- The other bank in use and reported, before the loop is rescaled. -/
def State.swapped (s : State) (n : ChId) (b : Bool) : State :=
  (((s.modCh n fun c => { c with bankB := b, swap := .none }).setReg (Reg.CH_BANK_SEL n) (b2i b)).setReg
    (Reg.CH_BANK_ACTIVE n) (b2i b)).bump (Reg.CH_SWAP_COUNT n)

theorem swapped_regs (s : State) (n : ChId) (b : Bool) :
    (s.swapped n b).reg (Reg.CH_BANK_ACTIVE n) = b2i b ∧ (s.swapped n b).reg (Reg.CH_BANK_SEL n) = b2i b ∧
    (s.swapped n b).reg (Reg.CH_SWAP_COUNT n) = satInc 32 (s.reg (Reg.CH_SWAP_COUNT n)) ∧
    s.SameRegs (s.swapped n b) [Reg.CH_BANK_ACTIVE n, Reg.CH_BANK_SEL n, Reg.CH_SWAP_COUNT n, Reg.FC_LOG_LOST] := by
  obtain ⟨h₁, h₂, h₃, -⟩ := swapKeys_apart n
  unfold State.swapped
  refine ⟨?_, ?_, ?_, fun j hj => ?_⟩
  · rw [State.reg_bump_ne _ h₁, State.reg_setReg]
  · rw [State.reg_bump_ne _ h₂, State.reg_setReg_ne _ _ h₃, State.reg_setReg]
  · rw [State.reg_bump, State.reg_setReg_ne _ _ h₁.symm, State.reg_setReg_ne _ _ h₂.symm]
    rfl
  · rw [List.mem_cons, List.mem_cons, List.mem_cons, not_or, not_or, not_or] at hj
    obtain ⟨hj₁, hj₂, hj₃, -⟩ := hj
    rw [State.reg_bump_ne _ (Ne.symm hj₃), State.reg_setReg_ne _ _ (Ne.symm hj₁), State.reg_setReg_ne _ _ (Ne.symm hj₂)]
    rfl

/-- The swap of a channel that is not OFF rescales its integrator and marks a limit. -/
def Chan.rescaled (x : Int × Bool) (inSat : Bool) (c : Chan) : Chan :=
  { c with loop := { c.loop with i := x.1 }, satInt := x.2, swapInSat := c.swapInSat || inSat }

theorem swapNow_on {s : State} {n : ChId} (h : s.ch[n].state ≠ .off) {u v : State} {x : Int × Bool}
    (hu : u = s.swapped n (!s.ch[n].bankB))
    (hx : x = swapI s.ch[n].loop.i (coefsOf u.reg n s.ch[n].bankB) (coefsOf u.reg n (!s.ch[n].bankB)))
    (hv : v = u.modCh n (Chan.rescaled x (s.ch[n].satInt || s.ch[n].satVel))) :
    s.swapNow n = if s.ch[n].satInt || s.ch[n].satVel then v.raise (chSrc n 13) else v := by
  unfold State.swapNow
  extract_lets c b w z
  have hz : z = u := hu ▸ rfl
  obtain ⟨i, lim⟩ := x
  have hx' : swapI c.loop.i (coefsOf u.reg n c.bankB) (coefsOf u.reg n b) = (i, lim) := hx.symm
  rw [if_neg (show ¬ c.state = .off from h), hz, hx', hv]
  clear hz hx hx' hu hv
  clear_value z w
  rfl

theorem swapped_ch (s : State) (n : ChId) (b : Bool) :
    (s.swapped n b).ch[n] = { s.ch[n] with bankB := b, swap := .none } ∧ ∀ m, m ≠ n → (s.swapped n b).ch[m] = s.ch[m] :=
  ⟨modCh_self s n _, fun _ hm => modCh_ne s _ hm⟩

theorem swapped_frame (s : State) (n : ChId) (b : Bool) :
    ∃ r v, s.swapped n b = { s with regs := r, ch := v } := ⟨_, _, rfl⟩

theorem swapKeys_plain (n : ChId) : (Reg.CH_BANK_SEL n < 0x500000 ∨ 0x550000 ≤ Reg.CH_BANK_SEL n) ∧
    (Reg.CH_BANK_ACTIVE n < 0x500000 ∨ 0x550000 ≤ Reg.CH_BANK_ACTIVE n) ∧
    (Reg.CH_SWAP_COUNT n < 0x500000 ∨ 0x550000 ≤ Reg.CH_SWAP_COUNT n) ∧ chSrc n 13 < 1280 := by decide +revert

/-- A due swap, as the statement says it. -/
theorem swapNow_swaps {s : State} {n : ChId} (c : s.Calm) (m : s.Mild (chSrc n 13)) :
    ∃ t, s.swapNow n = t ∧ t.Calm ∧ t.ch[n].bankB = !s.ch[n].bankB ∧ t.ch[n].swap = .none ∧
      (∀ k, k ≠ Reg.FC_LOG_LOST → t.reg k = (s.swapped n (!s.ch[n].bankB)).reg k) ∧
      RaiseFrame { s with regs := t.regs, ch := t.ch } t ∧ (∀ m, m ≠ n → t.ch[m] = s.ch[m]) ∧
      (s.ch[n].state = .off → t.ch[n].loop = s.ch[n].loop) ∧
      (s.ch[n].state ≠ .off → t.ch[n].loop = { s.ch[n].loop with
        i := (swapI s.ch[n].loop.i (coefsOf s.reg n s.ch[n].bankB) (coefsOf s.reg n (!s.ch[n].bankB))).1 }) := by
  obtain ⟨hself, hother⟩ := swapped_ch s n (!s.ch[n].bankB)
  obtain ⟨-, -, -, hregs⟩ := swapped_regs s n (!s.ch[n].bankB)
  obtain ⟨u, hu⟩ : ∃ u, u = s.swapped n (!s.ch[n].bankB) := ⟨_, rfl⟩
  have huframe : u = { s with regs := u.regs, ch := u.ch } := by
    obtain ⟨r, v, h⟩ := swapped_frame s n (!s.ch[n].bankB)
    rw [hu, h]
  have cu : u.Calm := by
    obtain ⟨h₁, h₂, h₃, -⟩ := swapKeys_plain n
    have ch : (s.modCh n fun c => { c with bankB := !s.ch[n].bankB, swap := .none }).Calm := c
    rw [hu]
    unfold State.swapped
    exact bump_calm _ h₃ (setReg_calm _ h₂ _ (setReg_calm _ h₁ _ ch))
  have mu : u.Mild (chSrc n 13) := by
    obtain ⟨h₁, h₂, h₃, hid⟩ := swapKeys_plain n
    have mh : (s.modCh n fun c => { c with bankB := !s.ch[n].bankB, swap := .none }).Mild (chSrc n 13) := m
    rw [hu]
    unfold State.swapped
    exact bump_mild _ h₃ hid (setReg_mild _ h₂ _ hid (setReg_mild _ h₁ _ hid mh))
  rw [← hu] at hself hother hregs ⊢
  by_cases hs : s.ch[n].state = .off
  · have hnow : s.swapNow n = u := by
      rw [hu]
      unfold State.swapNow
      exact if_pos hs
    refine ⟨u, hnow, cu, by rw [hself], by rw [hself], fun _ _ => rfl, ?_, hother, fun _ => by rw [hself], fun h => absurd hs h⟩
    rw [← huframe]
    exact .refl u
  · obtain ⟨x, hx⟩ : ∃ x, x = swapI s.ch[n].loop.i (coefsOf u.reg n s.ch[n].bankB) (coefsOf u.reg n (!s.ch[n].bankB)) := ⟨_, rfl⟩
    obtain ⟨v, hv⟩ : ∃ v, v = u.modCh n (Chan.rescaled x (s.ch[n].satInt || s.ch[n].satVel)) := ⟨_, rfl⟩
    have hnow := swapNow_on hs hu hx hv
    have hvself : v.ch[n] = u.ch[n].rescaled x (s.ch[n].satInt || s.ch[n].satVel) := hv ▸ modCh_self u n _
    have hvother : ∀ m, m ≠ n → v.ch[m] = s.ch[m] := fun m hm => (hv ▸ modCh_ne u _ hm : v.ch[m] = u.ch[m]).trans (hother m hm)
    have cv : v.Calm := hv ▸ cu
    have mv : v.Mild (chSrc n 13) := hv ▸ mu
    have hvreg : ∀ k, v.reg k = u.reg k := fun k => hv ▸ rfl
    have hvframe : v = { s with regs := v.regs, ch := v.ch } := by
      rw [hv]
      exact (congrArg (fun w : State => w.modCh n _) huframe).trans rfl
    have hcoefs : ∀ b, coefsOf u.reg n b = coefsOf s.reg n b := fun b =>
      coefsOf_congr fun i => hregs _ (bankKey_not_swapKey n b i)
    have hloop : v.ch[n].loop = { s.ch[n].loop with
        i := (swapI s.ch[n].loop.i (coefsOf s.reg n s.ch[n].bankB) (coefsOf s.reg n (!s.ch[n].bankB))).1 } := by
      rw [hvself, hself, ← hcoefs, ← hcoefs, ← hx]
      rfl
    have hbank : v.ch[n].bankB = !s.ch[n].bankB := by rw [hvself, hself]; rfl
    have hswap : v.ch[n].swap = .none := by rw [hvself, hself]; rfl
    by_cases hsat : (s.ch[n].satInt || s.ch[n].satVel) = true
    · rw [if_pos hsat] at hnow
      have hraise := raise_frame v (chSrc n 13)
      have hch := hraise.ch
      refine ⟨_, hnow, raise_calm v _ (.inr mv) cv, by rw [hch]; exact hbank, by rw [hch]; exact hswap,
        fun k hk => (hraise.reg k hk).trans (hvreg k), ?_, fun m hm => by rw [hch]; exact hvother m hm, fun h => absurd h hs,
        fun _ => by rw [hch]; exact hloop⟩
      generalize v.raise (chSrc n 13) = t at *
      rw [hvframe] at hraise
      exact { hraise with ch := rfl, reg := fun _ _ => rfl, wf := id }
    · rw [if_neg hsat] at hnow
      refine ⟨_, hnow, cv, hbank, hswap, fun k _ => hvreg k, ?_, hvother, fun h => absurd h hs, fun _ => hloop⟩
      rw [← hvframe]
      exact .refl v

/-- Settles O25: a swap is armed where none is pending, and a due one exchanges the banks. -/
theorem bankSwapsAreArmedAndApplied : Obligations.BankSwapsAreArmedAndApplied := by
  refine ⟨fun p n s c ha => ⟨fun h => ?_, bankSwap_refused c ha⟩,
    fun p n v s c ha => ⟨bankSel_visible c ha, bankSel_refused c ha⟩, fun p n x s c ha h => ?_,
    fun p n x due s c ha h => ?_, fun n x s c hl h hx => ?_, fun n s c hl hd m => ?_⟩
  · exact ⟨_, bankSwap_armed c ha h, rfl, modCh_self (s.beat p) n _, fun m hm => modCh_ne (s.beat p) _ hm⟩
  · exact ⟨_, bankSwapAt_armed c ha h, rfl, oneReg_setReg (s.beat p) _ _, modCh_self _ n _, fun m hm => modCh_ne _ _ hm⟩
  · have heff : effBankSwapCancel n (s.beat p) = .ok ((s.beat p).modCh n fun c => { c with swap := .none }) := by
      unfold effBankSwapCancel
      rw [show (s.beat p).ch[n].swap = .time x due from h]
    exact ⟨_, hostWrite_next ha heff c.1, rfl, modCh_self (s.beat p) n _, fun m hm => modCh_ne (s.beat p) _ hm⟩
  · have hexec : exec (.timedSwapDue n) s = execTimedSwapDue n s := rfl
    unfold execTimedSwapDue at hexec
    simp only [h] at hexec
    rw [if_pos (by rw [hl, hx]; rfl)] at hexec
    exact ⟨_, hexec.trans (done_quiet c.1), rfl, modCh_self s n _, fun m hm => modCh_ne s _ hm⟩
  · obtain ⟨t, ht, ct, hbank, hswap, hregs, hframe, hother, hoff, hon⟩ := swapNow_swaps c m
    obtain ⟨h₁, h₂, h₃, hsame⟩ := swapped_regs s n (!s.ch[n].bankB)
    obtain ⟨-, -, -, hlost⟩ := swapKeys_apart n
    have hne : ∀ k ∈ [Reg.CH_SWAP_COUNT n, Reg.CH_BANK_ACTIVE n, Reg.CH_BANK_SEL n], k ≠ Reg.FC_LOG_LOST :=
      fun k hk h => hlost (h ▸ hk)
    refine ⟨t, (if_pos (by rw [hl, hd]; rfl)).trans ((congrArg done ht).trans (done_calm t ct)), hbank, hswap,
      (hregs _ (hne _ (by simp))).trans h₁, (hregs _ (hne _ (by simp))).trans h₂, (hregs _ (hne _ (by simp))).trans h₃,
      fun j hj => (hregs j fun h => hj (by rw [h]; simp)).trans (hsame j hj), hframe, hother, hoff, hon⟩

end Sys2Proof.Machine
end

section
/-!
PROOFS. The commands of the Tally inputs (R186, R189, R190, R193, R194).
-/

namespace Sys2Proof.Machine

set_option Elab.async false

theorem modTal_self (s : State) (n : Fin 16) (f : Tally → Tally) : (s.modTal n f).tal[n] = f s.tal[n] := vmod_self s.tal n f

theorem modTal_ne (s : State) {n m : Fin 16} (f : Tally → Tally) (h : m ≠ n) : (s.modTal n f).tal[m] = s.tal[m] :=
  vmod_ne s.tal f h.symm

theorem modTal_modTal (s : State) (n : Fin 16) (f g : Tally → Tally) : (s.modTal n f).modTal n g = s.modTal n (g ∘ f) :=
  congrArg (fun v => { s with tal := v }) (vmod_vmod s.tal n f g)

theorem talKeys_apart (n : Fin 16) : Reg.TAL_ENABLE n ≠ Reg.CFG_GEN ∧ Reg.TAL_SPEED n ≠ Reg.CFG_GEN ∧
    Reg.TAL_SPEED n ≠ Reg.TAL_ENABLE n ∧ Reg.TAL_LIM_LO n ≠ Reg.TAL_ENABLE n ∧ Reg.TAL_LIM_HI n ≠ Reg.TAL_ENABLE n ∧
    Reg.TAL_LIM_LO n ≠ Reg.CFG_GEN ∧ Reg.TAL_LIM_HI n ≠ Reg.CFG_GEN ∧ Reg.TAL_LIM_LO n ≠ Reg.TAL_LIM_HI n := by
  decide +revert

/-! ### Enabled and disabled (R186, R194) -/

/-- An input that is enabled afresh, at a counter value. -/
def Tally.fresh (c : Int) (t : Tally) : Tally :=
  { t with
    fault := false, raw := 0, count := c, div := 0, back := none, xref := none, hist := [], timedOut := false
    atHi := false, atLo := false }

theorem talEnable_starts {p : Port} {n : Fin 16} {s : State} (c : s.Calm)
    (ha : s.Admits p (Reg.TAL_ENABLE n) (dataAt (Reg.TAL_ENABLE n) 1) 1) (h : s.reg (Reg.TAL_ENABLE n) ≠ 1) :
    exec (.talEnableWrite p n 1) s = .next ((((s.beat p).setReg (Reg.TAL_ENABLE n) 1).modTal n
      (Tally.fresh (clampI (s.reg (Reg.TAL_LIM_LO n)) (s.reg (Reg.TAL_LIM_HI n)) 0))).setReg (Reg.TAL_SPEED n) 0).cfgGen := by
  obtain ⟨-, -, -, h₁, h₂, -⟩ := talKeys_apart n
  have happly : applyTalEnable n ((s.beat p).setReg (Reg.TAL_ENABLE n) 1) (Reg.TAL_ENABLE n)
      ((s.beat p).reg (Reg.TAL_ENABLE n)) 1 = (((s.beat p).setReg (Reg.TAL_ENABLE n) 1).modTal n
        (Tally.fresh (clampI (s.reg (Reg.TAL_LIM_LO n)) (s.reg (Reg.TAL_LIM_HI n)) 0))).setReg (Reg.TAL_SPEED n) 0 := by
    refine (if_neg h).trans ((if_pos rfl).trans ?_)
    rw [State.reg_setReg_ne _ _ h₁.symm, State.reg_setReg_ne _ _ h₂.symm]
    rfl
  have heff := effVisible_ok (s := s.beat p) (k := Reg.TAL_ENABLE n) (v := 1) (apply := applyTalEnable n)
    (check := noCheck) rfl
  rw [happly] at heff
  exact hostWrite_next ha heff c.1

theorem talFault_faults (s : State) (n : Fin 16) :
    ∃ v, s.talFault n = { s.modTal n fun t => { t with fault := true } with emu := v } :=
  ⟨_, each_emu _ (fun u m => by split <;> rfl) all16 (s.modTal n fun t => { t with fault := true })⟩

theorem talEnable_stops {p : Port} {n : Fin 16} {s : State} (c : s.Calm)
    (ha : s.Admits p (Reg.TAL_ENABLE n) (dataAt (Reg.TAL_ENABLE n) 0) 0) (h : s.reg (Reg.TAL_ENABLE n) ≠ 0) :
    ∃ v, exec (.talEnableWrite p n 0) s = .next (State.cfgGen { ((s.beat p).setReg (Reg.TAL_ENABLE n) 0).modTal n fun t =>
      { t with fault := false, preset := none } with emu := v }) := by
  obtain ⟨v, hv⟩ := talFault_faults ((s.beat p).setReg (Reg.TAL_ENABLE n) 0) n
  have happly : applyTalEnable n ((s.beat p).setReg (Reg.TAL_ENABLE n) 0) (Reg.TAL_ENABLE n)
      ((s.beat p).reg (Reg.TAL_ENABLE n)) 0 = { ((s.beat p).setReg (Reg.TAL_ENABLE n) 0).modTal n fun t =>
        { t with fault := false, preset := none } with emu := v } := by
    refine (if_neg h).trans ((if_neg (by decide)).trans ?_)
    rw [hv]
    obtain ⟨u, hu⟩ : ∃ u, u = (s.beat p).setReg (Reg.TAL_ENABLE n) 0 := ⟨_, rfl⟩
    rw [← hu]
    exact (congrArg (fun w : State => { w with emu := v }) (modTal_modTal u n (fun t => { t with fault := true })
      fun t => { t with fault := false, preset := none })).trans rfl
  have heff := effVisible_ok (s := s.beat p) (k := Reg.TAL_ENABLE n) (v := 0) (apply := applyTalEnable n)
    (check := noCheck) rfl
  rw [happly] at heff
  exact ⟨v, hostWrite_next ha heff c.1⟩

/-! ### Limits and presets (R189) -/

/-- A counter under new limits: clamped, with the bits of the limit that it met. -/
def Tally.limited (lo hi : Int) (t : Tally) : Tally :=
  if hi < t.count then { t with count := hi, atHi := true, sHi := true }
  else if t.count < lo then { t with count := lo, atLo := true, sLo := true }
  else t

theorem modTal_id (s : State) (n : Fin 16) {f : Tally → Tally} (h : f s.tal[n] = s.tal[n]) : s.modTal n f = s :=
  congrArg (fun v => { s with tal := v }) (vmod_id s.tal n h)

theorem modTal_congr (s : State) (n : Fin 16) {f g : Tally → Tally} (h : f s.tal[n] = g s.tal[n]) :
    s.modTal n f = s.modTal n g := congrArg (fun v => { s with tal := v }) (vmod_congr s.tal n h)

theorem applyTalLimits_eq (s : State) (n : Fin 16) (k : Key) (old v : Int) :
    applyTalLimits n s k old v = s.modTal n (Tally.limited (s.reg (Reg.TAL_LIM_LO n)) (s.reg (Reg.TAL_LIM_HI n))) := by
  unfold applyTalLimits
  dsimp only
  by_cases h₁ : s.reg (Reg.TAL_LIM_HI n) < s.tal[n].count
  · rw [if_pos h₁]
    exact modTal_congr s n (if_pos h₁).symm
  · rw [if_neg h₁]
    by_cases h₂ : s.tal[n].count < s.reg (Reg.TAL_LIM_LO n)
    · rw [if_pos h₂]
      exact modTal_congr s n ((if_neg h₁).trans (if_pos h₂)).symm
    · rw [if_neg h₂]
      exact (modTal_id s n (by rw [Tally.limited, if_neg h₁, if_neg h₂])).symm

theorem limited_count {lo hi : Int} (h : lo < hi) (t : Tally) : (t.limited lo hi).count = clampI lo hi t.count ∧
    (hi < t.count → (t.limited lo hi).atHi = true ∧ (t.limited lo hi).sHi = true) ∧
    (t.count < lo → (t.limited lo hi).atLo = true ∧ (t.limited lo hi).sLo = true) ∧ (t.limited lo hi).raw = t.raw := by
  unfold Tally.limited clampI
  by_cases h₁ : hi < t.count
  · rw [if_pos h₁, if_neg (by omega), if_pos h₁]
    exact ⟨rfl, fun _ => ⟨rfl, rfl⟩, fun h₂ => by omega, rfl⟩
  · rw [if_neg h₁]
    by_cases h₂ : t.count < lo
    · rw [if_pos h₂, if_pos h₂]
      exact ⟨rfl, fun h => absurd h h₁, fun _ => ⟨rfl, rfl⟩, rfl⟩
    · rw [if_neg h₂, if_neg h₂, if_neg h₁]
      exact ⟨rfl, fun h => absurd h h₁, fun h => absurd h h₂, rfl⟩

/-- The limits as written. -/
def State.talLimited (s : State) (n : Fin 16) (lo hi : Int) : State :=
  (((s.setReg (Reg.TAL_LIM_LO n) lo).setReg (Reg.TAL_LIM_HI n) hi).modTal n (Tally.limited lo hi)).cfgGen

theorem talLimits_write {p : Port} {n : Fin 16} {lo hi : Int} {s : State} (c : s.Calm) (h₁ : -(2 ^ 31) ≤ hi)
    (h₂ : hi < 2 ^ 31) (ha : s.Admits p (Reg.TAL_LIM_LO n) (dataAt (Reg.TAL_LIM_LO n) lo) lo) (h : lo < hi) :
    exec (.talLimitsWrite p n lo hi) s = .next ((s.beat p).talLimited n lo hi) := by
  obtain ⟨-, -, -, -, -, -, -, hlh⟩ := talKeys_apart n
  refine hostWrite_next ha ?_ c.1
  rw [wrapS_of_bounds (by decide) h₁ h₂]
  unfold effTalLimits
  rw [need_true _ (decide_eq_true h)]
  refine congrArg (fun u : State => Except.ok u.cfgGen) ((applyTalLimits_eq _ n 0 0 0).trans ?_)
  rw [State.reg_setReg_ne _ _ hlh.symm, State.reg_setReg, State.reg_setReg]

theorem talLimits_refused {p : Port} {n : Fin 16} {lo hi : Int} {s : State} (c : s.Calm) (h₁ : -(2 ^ 31) ≤ hi)
    (h₂ : hi < 2 ^ 31) (ha : s.Admits p (Reg.TAL_LIM_LO n) (dataAt (Reg.TAL_LIM_LO n) lo) lo) (h : hi ≤ lo) :
    ∃ t, exec (.talLimitsWrite p n lo hi) s = .next t ∧ s.RefusedAs t p (Reg.TAL_LIM_LO n) nakRange := by
  refine hostWrite_refusedAs c ha ?_ (by decide) (by decide)
  rw [wrapS_of_bounds (by decide) h₁ h₂]
  unfold effTalLimits
  rw [need_false _ (decide_eq_false (by omega))]
  rfl

theorem talPreset_armed {p : Port} {n : Fin 16} {s : State} (c : s.Calm) (ha : s.AdmitsCmd p (Reg.TAL_PRESET n))
    (h₁ : s.reg (Reg.TAL_LIM_LO n) ≤ s.reg (Reg.TAL_PRESET_VAL n)) (h₂ : s.reg (Reg.TAL_PRESET_VAL n) ≤ s.reg (Reg.TAL_LIM_HI n)) :
    exec (.talPreset p n) s = .next ((s.beat p).modTal n fun t => { t with preset := some p }) := by
  have hval : (s.beat p).presetVal n = (s.beat p).reg (Reg.TAL_PRESET_VAL n) :=
    (if_neg (by exact not_lt.2 h₁)).trans (if_neg (by exact not_lt.2 h₂))
  refine hostWrite_next ha ?_ c.1
  unfold effTalPreset
  rw [need_true _ (decide_eq_true hval)]
  rfl

theorem talPreset_refused {p : Port} {n : Fin 16} {s : State} (c : s.Calm) (ha : s.AdmitsCmd p (Reg.TAL_PRESET n))
    (hl : s.reg (Reg.TAL_LIM_LO n) ≤ s.reg (Reg.TAL_LIM_HI n))
    (h : s.reg (Reg.TAL_PRESET_VAL n) < s.reg (Reg.TAL_LIM_LO n) ∨ s.reg (Reg.TAL_LIM_HI n) < s.reg (Reg.TAL_PRESET_VAL n)) :
    ∃ t, exec (.talPreset p n) s = .next t ∧ s.RefusedAs t p (Reg.TAL_PRESET n) nakRange := by
  have hval : (s.beat p).presetVal n ≠ (s.beat p).reg (Reg.TAL_PRESET_VAL n) := by
    change clampI (s.reg (Reg.TAL_LIM_LO n)) (s.reg (Reg.TAL_LIM_HI n)) (s.reg (Reg.TAL_PRESET_VAL n)) ≠ s.reg (Reg.TAL_PRESET_VAL n)
    unfold clampI
    split
    · omega
    · split <;> omega
  refine hostWrite_refusedAs c ha ?_ (by decide) (by decide)
  unfold effTalPreset
  rw [need_false _ (decide_eq_false hval)]
  rfl

/-! ### FAULT and the speed (R190, R194) -/

theorem talResume_resumes {p : Port} {n : Fin 16} {s : State} (c : s.Calm) (ha : s.AdmitsCmd p (Reg.TAL_RESUME n))
    (he : s.flag (Reg.TAL_ENABLE n) = true) (hf : s.tal[n].fault = true) :
    exec (.talResume p n) s = .next ((s.beat p).modTal n fun t => { t with fault := false }) := by
  refine hostWrite_next ha ?_ c.1
  unfold effTalResume
  rw [need_true _ (show ((s.beat p).flag (Reg.TAL_ENABLE n) && (s.beat p).tal[n].fault) = true by
    rw [show (s.beat p).flag (Reg.TAL_ENABLE n) = true from he, show (s.beat p).tal[n].fault = true from hf]; rfl)]
  rfl

theorem talResume_refused {p : Port} {n : Fin 16} {s : State} (c : s.Calm) (ha : s.AdmitsCmd p (Reg.TAL_RESUME n))
    (h : s.flag (Reg.TAL_ENABLE n) = false ∨ s.tal[n].fault = false) :
    ∃ t, exec (.talResume p n) s = .next t ∧ s.RefusedAs t p (Reg.TAL_RESUME n) nakCond := by
  have hno : ((s.beat p).flag (Reg.TAL_ENABLE n) && (s.beat p).tal[n].fault) = false := by
    change (s.flag (Reg.TAL_ENABLE n) && s.tal[n].fault) = false
    rcases h with h | h
    · rw [h]; rfl
    · rw [h, Bool.and_false]
  refine hostWrite_refusedAs c ha ?_ (by decide) (by decide)
  unfold effTalResume
  rw [need_false _ hno]
  rfl

/-- Settles O39: each command by its effect on the input's own counter. -/
theorem tallyCommandsSetTheCounter : Obligations.TallyCommandsSetTheCounter := by
  refine ⟨fun p n s c ha h => ?_, fun p n s c ha h => ?_, fun p n lo hi s c h₁ h₂ ha => ⟨fun h => ?_, talLimits_refused c h₁ h₂ ha⟩,
    fun p n s c ha => ⟨fun h₁ h₂ => ?_, talPreset_refused c ha⟩, fun p n s c ha => ?_,
    fun p n s c ha => ⟨fun he hf => ?_, talResume_refused c ha⟩, fun n s c ha he => ⟨fun h => ?_, fun h => ?_⟩⟩
  · obtain ⟨h₁, h₂, h₃, -⟩ := talKeys_apart n
    have hself := modTal_self ((s.beat p).setReg (Reg.TAL_ENABLE n) 1) n
      (Tally.fresh (clampI (s.reg (Reg.TAL_LIM_LO n)) (s.reg (Reg.TAL_LIM_HI n)) 0))
    refine ⟨_, talEnable_starts c ha h, rfl, ?_, ?_, ?_, fun j hj => ?_, fun m hm => modTal_ne _ _ hm,
      congrArg Tally.raw hself, congrArg Tally.count hself, congrArg Tally.fault hself, congrArg Tally.xref hself,
      congrArg Tally.hist hself, ?_⟩
    · rw [State.cfgGen, State.reg_setReg_ne _ _ h₁.symm, State.reg_setReg_ne _ _ h₃]
      exact State.reg_setReg (s.beat p) _ _
    · rw [State.cfgGen, State.reg_setReg_ne _ _ h₂.symm, State.reg_setReg]
    · rw [State.cfgGen, State.reg_setReg, State.reg_setReg_ne _ _ h₂]
      exact congrArg (fun x : Int => (x + 1) % 2 ^ 32) (State.reg_setReg_ne (s.beat p) _ h₁)
    · rw [List.mem_cons, List.mem_cons, List.mem_singleton, not_or, not_or] at hj
      rw [State.cfgGen, State.reg_setReg_ne _ _ (Ne.symm hj.2.2), State.reg_setReg_ne _ _ (Ne.symm hj.2.1)]
      exact State.reg_setReg_ne (s.beat p) _ (Ne.symm hj.1)
    · have hon : State.reg _ (Reg.TAL_ENABLE n) = 1 := State.reg_setReg (s.beat p) (Reg.TAL_ENABLE n) 1
      have hfault := congrArg Tally.fault hself
      unfold State.talValid State.flag State.cfgGen
      rw [State.reg_setReg_ne _ _ h₁.symm, State.reg_setReg_ne _ _ h₃]
      refine Bool.and_eq_true_iff.2 ⟨decide_eq_true ?_, ?_⟩
      · intro h0
        exact absurd (hon.symm.trans h0) (by decide)
      · rw [Bool.not_eq_true']
        exact hfault
  · obtain ⟨v, hexec⟩ := talEnable_stops c ha h
    obtain ⟨h₁, -⟩ := talKeys_apart n
    have hself := modTal_self ((s.beat p).setReg (Reg.TAL_ENABLE n) 0) n fun t => { t with fault := false, preset := none }
    have hcount := congrArg Tally.count hself
    have harmed := congrArg Tally.armed hself
    have henable : ∀ u : State, u.cfgGen.reg (Reg.TAL_ENABLE n) = u.reg (Reg.TAL_ENABLE n) := fun u =>
      State.reg_setReg_ne u _ h₁.symm
    refine ⟨_, hexec, visible_cfgGen h₁ fun _ => rfl, rfl, hcount, congrArg Tally.fault hself,
      congrArg Tally.preset hself, harmed, ?_, fun m hm => modTal_ne ((s.beat p).setReg _ 0) _ hm⟩
    unfold State.talValid State.flag
    have hoff : ((s.beat p).setReg (Reg.TAL_ENABLE n) 0).reg (Reg.TAL_ENABLE n) = 0 := State.reg_setReg _ _ _
    rw [henable]
    exact Bool.and_eq_false_iff.2 (.inl (decide_eq_false (not_not.2 hoff)))
  · have hself := modTal_self (((s.beat p).setReg (Reg.TAL_LIM_LO n) lo).setReg (Reg.TAL_LIM_HI n) hi) n (Tally.limited lo hi)
    obtain ⟨hcount, hhi, hlo, hraw⟩ := limited_count h s.tal[n]
    obtain ⟨-, -, -, -, -, hlg, hhg, hlh⟩ := talKeys_apart n
    refine ⟨_, talLimits_write c h₁ h₂ ha h, ?_, ?_, ?_, (congrArg Tally.count hself).trans hcount, rfl, fun j hj => ?_,
      fun h => ⟨(congrArg Tally.atHi hself).trans (hhi h).1, (congrArg Tally.sHi hself).trans (hhi h).2⟩,
      fun h => ⟨(congrArg Tally.atLo hself).trans (hlo h).1, (congrArg Tally.sLo hself).trans (hlo h).2⟩,
      (congrArg Tally.raw hself).trans hraw, fun m hm => modTal_ne _ _ hm⟩
    · rw [State.talLimited, State.cfgGen, State.reg_setReg_ne _ _ hlg.symm]
      exact (State.reg_setReg_ne ((s.beat p).setReg _ lo) _ hlh.symm).trans (State.reg_setReg _ _ _)
    · rw [State.talLimited, State.cfgGen, State.reg_setReg_ne _ _ hhg.symm]
      exact State.reg_setReg ((s.beat p).setReg _ lo) _ _
    · rw [State.talLimited, State.cfgGen, State.reg_setReg]
      refine congrArg (fun x : Int => (x + 1) % 2 ^ 32) ?_
      exact (State.reg_setReg_ne ((s.beat p).setReg _ lo) _ hhg).trans (State.reg_setReg_ne (s.beat p) _ hlg)
    · rw [List.mem_cons, List.mem_cons, List.mem_singleton, not_or, not_or] at hj
      rw [State.talLimited, State.cfgGen, State.reg_setReg_ne _ _ (Ne.symm hj.2.2)]
      exact (State.reg_setReg_ne ((s.beat p).setReg _ lo) _ (Ne.symm hj.2.1)).trans
        (State.reg_setReg_ne (s.beat p) _ (Ne.symm hj.1))
  · exact ⟨_, talPreset_armed c ha h₁ h₂, rfl, modTal_self (s.beat p) n _, fun m hm => modTal_ne (s.beat p) _ hm⟩
  · exact ⟨_, hostWrite_next ha rfl c.1, rfl, modTal_self (s.beat p) n _, fun m hm => modTal_ne (s.beat p) _ hm⟩
  · have hself := modTal_self (s.beat p) n fun t => { t with fault := false }
    refine ⟨_, talResume_resumes c ha he hf, rfl, hself, ?_, fun m hm => modTal_ne (s.beat p) _ hm⟩
    unfold State.talValid
    rw [hself]
    exact (Bool.and_true _).trans he
  · have htime : s.talTimeout n = true := decide_eq_true h
    have hself := modTal_self s n fun t => { t with timedOut := true }
    refine ⟨if_pos (by rw [htime, Bool.or_true]), _, (if_pos (by rw [ha, he, htime]; rfl)).trans (done_quiet c.1), rfl, hself,
      if_pos (by rw [hself]; rfl), fun m hm => modTal_ne s _ hm⟩
  · have htime : s.talTimeout n = false := decide_eq_false (by omega)
    exact (if_neg (by rw [htime, Bool.and_false]; decide)).trans (done_quiet c.1)

end Sys2Proof.Machine
end

section
/-!
PROOFS. Gains, static trims and the learned phase (R52, R55, R56, R75).
-/

namespace Sys2Proof.Machine

set_option Elab.async false

theorem trimKey_ne_CFG_GEN (o : TrimObj) (n : ChId) : trimKey o n ≠ Reg.CFG_GEN := by
  cases o <;> decide +revert

/-- A run beyond IDLE locks the static trims alone. -/
theorem checkTrim_eq (o : TrimObj) (n : ChId) (s : State) (get : Key → Int) (k : Key) (v : Int) :
    checkTrim o n s get k v = if isStatic o = true ∧ s.cal[n].state ≠ .idle then .error nakCond else .ok () := by
  unfold checkTrim
  by_cases ho : isStatic o = true
  · by_cases hc : s.cal[n].state = .idle
    · rw [if_neg (fun h => h.2 hc)]
      exact need_true _ (by rw [decide_eq_false (not_not.2 hc)]; simp)
    · rw [if_pos ⟨ho, hc⟩]
      exact need_false _ (by rw [decide_eq_true hc, ho]; rfl)
  · rw [if_neg (fun h => ho h.1)]
    exact need_true _ (by rw [Bool.eq_false_iff.2 ho]; rfl)

theorem trimWrite_waits {p : Port} {n : ChId} {o : TrimObj} {v : Int} {s : State} (c : s.Calm)
    (ha : s.Admits p (trimKey o n) (dataAt (trimKey o n) v) v) (h : isStatic o = false ∨ s.cal[n].state = .idle) :
    exec (.staticTrimWrite p n o v) s = .next (((s.beat p).setReg (trimKey o n) v).trimWait n).cfgGen := by
  refine hostWrite_next ha (effVisible_ok (apply := fun s _ _ _ => s.trimWait n) ((checkTrim_eq o n _ _ _ _).trans (if_neg ?_))) c.1
  rintro ⟨ho, hc⟩
  rcases h with h | h
  · exact absurd (h.symm.trans ho) (by decide)
  · exact hc h

theorem trimWrite_refused {p : Port} {n : ChId} {o : TrimObj} {v : Int} {s : State} (c : s.Calm)
    (ha : s.Admits p (trimKey o n) (dataAt (trimKey o n) v) v) (ho : isStatic o = true) (hc : s.cal[n].state ≠ .idle) :
    ∃ t, exec (.staticTrimWrite p n o v) s = .next t ∧ s.RefusedAs t p (trimKey o n) nakCond :=
  hostWrite_refusedAs c ha (effVisible_error ((checkTrim_eq o n _ _ _ _).trans (if_pos ⟨ho, hc⟩))) (by decide) (by decide)

/-- The set that a boundary applies: the one that a crossing has released, or the visible one. -/
theorem trimApply_eq {s : State} {n : ChId} (h : s.exc[s.excIx n].driving = false ∨ s.ch[n].armed.isSome = true) :
    s.trimApply n = s.modCh n fun c => { c with
      trims := s.ch[n].armed.getD (s.visTrims n), armed := none
      trimPending := decide (s.ch[n].armed.getD (s.visTrims n) ≠ s.visTrims n) } := by
  have hnew : (if s.exc[s.excIx n].driving = true then s.ch[n].armed else some (s.ch[n].armed.getD (s.visTrims n))) =
      some (s.ch[n].armed.getD (s.visTrims n)) := by
    by_cases hd : s.exc[s.excIx n].driving = true
    · obtain ⟨t, ht⟩ := Option.isSome_iff_exists.1 (h.resolve_left (by rw [hd]; decide))
      rw [if_pos hd, ht]
      rfl
    · exact if_neg hd
  unfold State.trimApply
  dsimp only
  rw [hnew]

theorem betaKeys (n : ChId) : Reg.CH_BETA n ≠ Reg.CH_BETA_MEAS n := by decide +revert

/-- Settles O20: a trim object is visible and waits, the boundary applies one set, and the phase is measured and learned. -/
theorem trimsWaitForTheirBoundaryAndThePhaseIsLearned : Obligations.TrimsWaitForTheirBoundaryAndThePhaseIsLearned := by
  refine ⟨fun p n o v s c ha => ⟨fun h => ?_, trimWrite_refused c ha⟩, fun n s c hl hp h => ?_, fun n s c hl ht hb => ?_,
    fun p n s c ha => ⟨fun ht hf => ?_, fun h => ?_⟩⟩
  · exact ⟨_, trimWrite_waits c ha h, visible_cfgGen (trimKey_ne_CFG_GEN o n) fun _ => rfl, rfl, modCh_self _ n _,
      fun m hm => modCh_ne _ _ hm⟩
  · refine ⟨s.trimApply n, (if_pos (by rw [hl, hp]; rfl)).trans (done_quiet ?_), ?_⟩
    · rw [trimApply_eq h]; exact c.1
    · rw [trimApply_eq h]
      exact ⟨rfl, modCh_self s n _, fun m hm => modCh_ne s _ hm⟩
  · obtain ⟨u, hu⟩ : ∃ u, u = s.modFront n fun f => { f with betaFresh := true, betaPeriods := 1, betaQ := 0, betaI := 0, betaN := 0 } :=
      ⟨_, rfl⟩
    have hexec : exec (.betaMeasRefresh n) s = .next (u.setReg (Reg.CH_BETA_MEAS n) (Int.ofNat
        ((BitVec.ofInt 32 (s.ch[n].trims.beta * 256) + atan2Phase s.front[n].betaQ s.front[n].betaI).toNat / 256))) := by
      rw [hu]
      exact (if_pos (by rw [hl, ht, decide_eq_true hb]; rfl)).trans (done_quiet (by exact c.1))
    refine ⟨_, hexec, by rw [hu]; rfl, ⟨State.reg_setReg u _ _, fun j hj => ?_⟩, ?_, fun m hm => ?_⟩
    · rw [List.mem_singleton] at hj
      rw [State.reg_setReg_ne u _ (Ne.symm hj), hu]
      rfl
    · rw [hu]
      exact congrArg Front.betaFresh (modFront_self s n _)
    · rw [hu]
      exact modFront_ne s _ hm
  · have heff : effBetaLearn n (s.beat p) = .ok (((s.beat p).setReg (Reg.CH_BETA n) (s.reg (Reg.CH_BETA_MEAS n))).trimWait n) := by
      unfold effBetaLearn
      rw [need_true _ (show (decide ((s.beat p).ch[n].state = .track) && (s.beat p).front[n].betaFresh) = true from
        Bool.and_eq_true_iff.2 ⟨decide_eq_true ht, hf⟩)]
      rfl
    refine ⟨_, hostWrite_next ha heff c.1, rfl, ⟨State.reg_setReg (s.beat p) _ _, fun j hj => ?_⟩, modCh_self _ n _,
      fun m hm => modCh_ne _ _ hm⟩
    rw [List.mem_singleton] at hj
    exact State.reg_setReg_ne (s.beat p) _ (Ne.symm hj)
  · refine hostWrite_refusedAs c ha ?_ (by decide) (by decide)
    unfold effBetaLearn
    rw [need_false _ (show (decide ((s.beat p).ch[n].state = .track) && (s.beat p).front[n].betaFresh) = false from
      Bool.and_eq_false_iff.2 (h.imp (fun h => decide_eq_false h) id))]
    rfl

end Sys2Proof.Machine
end

section
/-!
PROOFS. Fold-back and the over-current shutdown of an exciter (R32, R37).
-/

namespace Sys2Proof.Machine

set_option Elab.async false

/-! ### The end of a condition, and a pulse (R215) -/

/-- The end of a condition moves the collector and the position switches alone. -/
theorem gone_parts (s : State) (id : Nat) : ∃ c w, s.gone id = { s with fc := c, psw := w } := by
  have hshow : ∀ (l : List (Fin 16)) (u : State), ∃ w, u.each l State.showPsw = { u with psw := w } := fun l => by
    induction l with
    | nil => exact fun u => ⟨_, rfl⟩
    | cons n l ih =>
      intro u
      obtain ⟨w, hw⟩ := ih (u.showPsw n)
      exact ⟨w, hw.trans rfl⟩
  have hdrop : ∀ u : State, ∃ c, u.dropSrc id = { u with fc := c } := fun u => by
    unfold State.dropSrc
    dsimp only
    split
    · exact ⟨_, rfl⟩
    · split <;> exact ⟨_, rfl⟩
  unfold State.gone
  split
  · exact ⟨_, _, rfl⟩
  · obtain ⟨c, hc⟩ := hdrop (s.setSrc id { s.src id with cond := false, rail := false })
    obtain ⟨w, hw⟩ := hshow all16 ((s.setSrc id { s.src id with cond := false, rail := false }).dropSrc id)
    exact ⟨c, w, hw.trans (by rw [hc]; rfl)⟩

/-- The collector and the position switches are among what a raise may change. -/
theorem withFcPsw_frame (s : State) (c : Collector) (w : Vector Psw 16) : RaiseFrame s { s with fc := c, psw := w } :=
  { RaiseFrame.refl s with red := rfl, upd := rfl, reg := fun _ _ => rfl, wf := id }

/-- A source that is raised keeps what is in effect for it. -/
theorem raise_fltNow {s : State} {id : Nat} (hid : id < 1280) (ha : assigned id = true) (hc : (s.src id).cond = false)
    (hf : (s.src id).force = false) : (s.raise id).fltNow id = s.fltNow id := by
  obtain ⟨upd, hupd⟩ : ∃ upd : FSrc → FSrc, upd = fun f => { f with cond := true } := ⟨_, rfl⟩
  have hraise : s.raise id = s.raiseWith id upd := by rw [hupd]; rfl
  have hsrc := raiseWith_src_self upd ha hc hf (.inl (by rw [hupd]))
  have hkeep : (s.raising id upd).fltNow id = s.fltNow id := fltNow_raising s id _ upd (by rw [hupd]; exact fun _ => rfl)
  have hvis : ∀ {t : State}, RaiseFrame s t → t.fltVisible id = s.fltVisible id := fun h =>
    fltVisible_congr hid fun k _ hk => h.reg k fun hl => absurd (hl ▸ hk) (by decide)
  rw [hraise, ← hkeep]
  unfold State.fltNow
  rw [hsrc, (hvis (raiseWith_frame s id upd)).trans (hvis (raising_frame s id upd)).symm]

/-- A pulse of a source whose class latches leaves it LATCHED (R204, R215). -/
theorem pulse_latched {s : State} {id : Nat} (hid : id < 1280) (ha : assigned id = true) (hc : (s.src id).cond = false)
    (hf : (s.src id).force = false) (hclass : (s.fltNow id).1 ≠ 0) : ((s.pulse id).src id).state = .latched := by
  obtain ⟨upd, hupd⟩ : ∃ upd : FSrc → FSrc, upd = fun f => { f with cond := true } := ⟨_, rfl⟩
  have hsrc : (s.raise id).src id = (s.raising id upd).src id := by
    rw [hupd]
    exact raiseWith_src_self _ ha hc hf (.inl rfl)
  have hforce : ((s.raise id).src id).force = false := by rw [hsrc, raising_force, hupd]; exact hf
  have hactive : ((s.raise id).src id).state = .active := by rw [hsrc, raising_state]
  rw [State.pulse, (gone_state (raise_cond s ha)).2, if_neg, if_neg]
  · rw [raise_fltNow hid ha hc hf]; exact hclass
  · rw [hforce, hactive]; decide

/-! ### Fold-back (R32) -/

theorem modExc_self (s : State) (e : ExcId) (f : Exc → Exc) : (s.modExc e f).exc[e] = f s.exc[e] := vmod_self s.exc e f

theorem modExc_ne (s : State) {e d : ExcId} (f : Exc → Exc) (h : d ≠ e) : (s.modExc e f).exc[d] = s.exc[d] :=
  vmod_ne s.exc f h.symm

/-- What fold-back decided anew leaves of an exciter. -/
def Exc.folded (x : Exc) : Exc :=
  if !(x.driving && x.mode = 1) then x
  else if !x.fold && foldOn x.ampl x.vexc then { x with fold := true, pendFold := true }
  else if x.fold && foldOff x.ampl x.vexc then { x with fold := false, pendFold := true }
  else if x.fold then { x with pendFold := true }
  else x

theorem vmod_self_id {α : Type} {n : Nat} (v : Vector α n) (i : Fin n) : vmod v i id = v := vmod_id v i rfl

/-- Fold-back changes its exciter, and what its source may. -/
theorem foldEval_frame (s : State) (e : ExcId) :
    RaiseFrame (s.modExc e Exc.folded) (s.foldEval e) := by
  have hcase : ∀ {f : Exc → Exc}, Exc.folded s.exc[e] = f s.exc[e] → s.modExc e Exc.folded = s.modExc e f := fun h =>
    congrArg (fun v => { s with exc := v }) (vmod_congr s.exc e h)
  have hstay : Exc.folded s.exc[e] = s.exc[e] → s.modExc e Exc.folded = s := fun h =>
    congrArg (fun v => { s with exc := v }) (vmod_id s.exc e h)
  unfold State.foldEval
  dsimp only
  split_ifs with h₁ h₂ h₃ h₄
  · rw [hstay (if_pos h₁)]
    exact .refl s
  · rw [hcase (f := fun x => { x with fold := true, pendFold := true }) ((if_neg h₁).trans (if_pos h₂))]
    exact raise_frame _ _
  · rw [hcase (f := fun x => { x with fold := false, pendFold := true }) ((if_neg h₁).trans ((if_neg h₂).trans (if_pos h₃)))]
    exact gone_frame _ _
  · rw [hcase (f := fun x => { x with pendFold := true })
      ((if_neg h₁).trans ((if_neg h₂).trans ((if_neg h₃).trans (if_pos h₄))))]
    exact .refl _
  · rw [hstay ((if_neg h₁).trans ((if_neg h₂).trans ((if_neg h₃).trans (if_neg h₄))))]
    exact .refl s

theorem foldEval_calm {s : State} {e : ExcId} (c : s.Calm) (m : s.Mild (excSrc e 1)) : (s.foldEval e).Calm := by
  unfold State.foldEval
  dsimp only
  split_ifs
  · exact c
  · exact raise_calm _ _ (.inr m) c
  · exact gone_calm _ _ c
  · exact c
  · exact c

/-- The state of fold-back, case by case. -/
theorem folded_fold (x : Exc) : x.folded = { x with fold := x.folded.fold, pendFold := x.folded.pendFold } ∧
    (x.driving = true → x.mode = 1 → x.folded.fold = if x.fold then !foldOff x.ampl x.vexc else foldOn x.ampl x.vexc) ∧
    ((x.driving = false ∨ x.mode ≠ 1) → x.folded.fold = x.fold ∧ x.folded.pendFold = x.pendFold) := by
  refine ⟨?_, fun hd hm => ?_, fun h => ?_⟩
  · unfold Exc.folded
    split_ifs <;> rfl
  · have hdrive : ¬ (!(x.driving && x.mode = 1)) = true := by rw [hd, decide_eq_true hm]; decide
    unfold Exc.folded
    rw [if_neg hdrive]
    cases hf : x.fold with
    | false => cases hon : foldOn x.ampl x.vexc <;> simp [hf]
    | true => cases hoff : foldOff x.ampl x.vexc <;> simp [hf]
  · have hidle : (!(x.driving && x.mode = 1)) = true := by
      rcases h with h | h
      · rw [h]; rfl
      · rw [decide_eq_false h, Bool.and_false]; rfl
    unfold Exc.folded
    rw [if_pos hidle]
    exact ⟨rfl, rfl⟩

theorem foldbackChange_folds {e : ExcId} {v : Nat} {s : State} (c : s.Calm) (ha : s.alive = true)
    (m : s.Mild (excSrc e 1)) :
    ∃ t, exec (.foldbackChange e v) s = .next t ∧ RaiseFrame { s with exc := t.exc } t ∧
      t.exc[e] = Exc.folded { s.exc[e] with vexc := Int.ofNat v } ∧ ∀ d, d ≠ e → t.exc[d] = s.exc[d] := by
  obtain ⟨u, hu⟩ : ∃ u, u = s.modExc e fun x => { x with vexc := Int.ofNat v } := ⟨_, rfl⟩
  have hframe := foldEval_frame u e
  have hexec : exec (.foldbackChange e v) s = .next (u.foldEval e) := by
    rw [hu]
    refine (if_pos ha).trans (done_calm _ (foldEval_calm ?_ ?_))
    · exact c
    · exact m
  refine ⟨_, hexec, ?_, ?_, fun d hd => ?_⟩
  · rw [hframe.exc]
    rw [hu] at hframe ⊢
    exact hframe
  · rw [hframe.exc, modExc_self, hu, modExc_self]
  · rw [hframe.exc, modExc_ne _ _ hd, hu, modExc_ne _ _ hd]

/-! ### The over-current shutdown (R37) -/

theorem excSrc_facts (e : ExcId) : assigned (excSrc e 0) = true ∧ excSrc e 0 < 1280 ∧ excSrc e 0 ≠ excSrc e 1 ∧
    (Reg.EXC_OC_COUNT e < 0x500000 ∨ 0x550000 ≤ Reg.EXC_OC_COUNT e) ∧ Reg.EXC_OC_COUNT e ≠ Reg.FC_LOG_LOST := by
  decide +revert

/-- The exciter after its shutdown. -/
def Exc.shut (x : Exc) : Exc :=
  { x with state := .shutdown, restart := false, fold := false, pendFold := false, applied := 0, step := 0 }

/-- The shutdown before its own source is raised: fold-back over, the exciter in SHUTDOWN. -/
def State.shutDown (s : State) (e : ExcId) : State :=
  ((s.foldClear e).modExc e fun x => { x with state := .shutdown, restart := false }).bump (Reg.EXC_OC_COUNT e)

theorem shutDown_eq (s : State) (e : ExcId) :
    ∃ c w, s.shutDown e = { (s.modExc e Exc.shut).bump (Reg.EXC_OC_COUNT e) with fc := c, psw := w } := by
  obtain ⟨c, w, h⟩ := gone_parts (s.modExc e fun x => { x with fold := false, pendFold := false, applied := 0, step := 0 }) (excSrc e 1)
  refine ⟨c, w, ?_⟩
  unfold State.shutDown State.foldClear
  rw [h]
  have hvv := vmod_vmod s.exc e (fun x => { x with fold := false, pendFold := false, applied := 0, step := 0 })
    fun x => { x with state := .shutdown, restart := false }
  exact (congrArg (fun v => ({ s with fc := c, psw := w, exc := v } : State).bump (Reg.EXC_OC_COUNT e)) hvv).trans rfl

theorem shutDown_src (s : State) (e : ExcId) : (s.shutDown e).src (excSrc e 0) = s.src (excSrc e 0) :=
  gone_src_ne _ (excSrc_facts e).2.2.1

/-- A shutdown clamps the balls, or gives a booster zero differential. -/
theorem excOut_shutdown {s : State} {e : ExcId} (ha : s.alive = true) (hx : s.sup.vexcHold = false)
    (hv : s.sup.vanaHold = false) (hs : s.exc[e].state = .shutdown) :
    s.excOut e = if s.exc[e].mode = 2 then .zero else .clamped := by
  unfold State.excOut
  dsimp only
  rw [if_neg (by rw [ha, hx, hv]; decide), hs]

/-- Settles O16: fold-back by `Exc.folded`, the shutdown by `State.shutDown`. -/
theorem foldbackAndShutdownFollowTheSupplyAndTheLimit : Obligations.FoldbackAndShutdownFollowTheSupplyAndTheLimit := by
  refine ⟨fun e v s c ha m => ?_, fun e s c hf hd m => ?_⟩
  · obtain ⟨t, hexec, hframe, hself, hother⟩ := foldbackChange_folds (v := v) c ha m
    obtain ⟨hparts, hon, hoff⟩ := folded_fold { s.exc[e] with vexc := Int.ofNat v }
    rw [← hself] at hparts hon hoff
    exact ⟨t, hexec, hframe, hother, hparts, hon, hoff⟩
  · obtain ⟨has, hid, hne, hplain, hlost⟩ := excSrc_facts e
    obtain ⟨u, hu⟩ : ∃ u, u = s.shutDown e := ⟨_, rfl⟩
    have hsrc : u.src (excSrc e 0) = s.src (excSrc e 0) := hu ▸ shutDown_src s e
    obtain ⟨fc, w, hparts⟩ := shutDown_eq s e
    rw [← hu] at hparts
    have hframe : RaiseFrame ((s.modExc e Exc.shut).bump (Reg.EXC_OC_COUNT e)) (u.pulse (excSrc e 0)) := by
      rw [hparts]
      exact (withFcPsw_frame _ fc w).trans (pulse_frame _ _)
    have hvis : u.fltVisible (excSrc e 0) = s.fltVisible (excSrc e 0) := by
      rw [hparts]
      exact fltVisible_setReg (s.modExc e Exc.shut) hplain _ hid
    have hmild : u.Mild (excSrc e 0) := mild_congr hsrc hvis m
    have hcalm : u.Calm := by
      rw [hu]
      have hfold : (s.foldClear e).Calm := gone_calm _ _ c
      exact bump_calm ((s.foldClear e).modExc e fun x => { x with state := .shutdown, restart := false }) hplain hfold
    have hself : (u.pulse (excSrc e 0)).exc[e] = (s.exc[e]).shut := by rw [hframe.exc]; exact modExc_self s e _
    have hexec : exec (.excOcShutdown e) s = .next (u.pulse (excSrc e 0)) := by
      rw [hu]
      refine (if_pos (by rw [hf, hd]; rfl)).trans (done_calm _ (pulse_calm _ _ (.inr ?_) ?_))
      · rw [hu] at hmild; exact hmild
      · rw [hu] at hcalm; exact hcalm
    refine ⟨_, hexec, hself, fun ha hx hv => ?_, fun d hd => ?_, ?_, ?_, fun hc hforce hclass => ?_⟩
    · have hsup : (u.pulse (excSrc e 0)).sup = s.sup := hframe.sup
      refine (excOut_shutdown ?_ (by rw [hsup, hx]) (by rw [hsup, hv]) (by rw [hself]; rfl)).trans (by rw [hself]; rfl)
      unfold State.alive at ha ⊢
      rw [hsup, ha]
    · rw [hframe.exc]; exact modExc_ne s _ hd
    · rw [hframe.reg _ hlost, State.reg_bump]
      rfl
    · rw [hframe.exc]; exact hframe
    · refine pulse_latched hid has (by rw [hsrc, hc]) (by rw [hsrc, hforce]) ?_
      unfold State.fltNow
      rw [hsrc, hvis]
      exact hclass

end Sys2Proof.Machine
end

section
/-!
PROOFS. What a channel's transitions touch, and the start of an exciter (R39 to R41, R98, R112).
-/

namespace Sys2Proof.Machine

set_option Elab.async false

/-! ### What a transition of a channel may change (R98) -/

/-- What a transition of channel `n` into SETTLE or TRACK may change beside its state: its test, monitors, front end, run
and domain, and the reason of an aborted test. -/
structure LaneFrame (n : ChId) (s t : State) : Prop where
  parts : t = { s with regs := t.regs, ch := t.ch, watch := t.watch, front := t.front, cal := t.cal, sched := t.sched }
  chan : t.ch[n] = { s.ch[n] with inj := t.ch[n].inj }
  others : ∀ m, m ≠ n → t.ch[m] = s.ch[m] ∧ t.front[m] = s.front[m] ∧ t.watch[m] = s.watch[m]
  regs : s.SameRegs t [Reg.CH_INJ_ABORT n]
  cal : s.cal[n].state ≠ .acquire → t.cal = s.cal
  domains : ∀ d, d ≠ chDomain n → t.sched[d] = s.sched[d]

theorem LaneFrame.refl (n : ChId) (s : State) : LaneFrame n s s :=
  ⟨rfl, rfl, fun _ _ => ⟨rfl, rfl, rfl⟩, fun _ _ => rfl, fun _ => rfl, fun _ _ => rfl⟩

theorem LaneFrame.trans {n : ChId} {s t u : State} (h : LaneFrame n s t) (g : LaneFrame n t u) : LaneFrame n s u := by
  refine ⟨?_, ?_, fun m hm => ⟨?_, ?_, ?_⟩, fun k hk => (g.regs k hk).trans (h.regs k hk), fun hc => ?_,
    fun d hd => (g.domains d hd).trans (h.domains d hd)⟩
  · rw [g.parts, h.parts]
  · rw [g.chan, h.chan]
  · exact (g.others m hm).1.trans (h.others m hm).1
  · exact (g.others m hm).2.1.trans (h.others m hm).2.1
  · exact (g.others m hm).2.2.trans (h.others m hm).2.2
  · have ht := h.cal hc
    exact (g.cal (by rw [ht]; exact hc)).trans ht

theorem modSched_lane (n : ChId) (s : State) (f : Sched → Sched) : LaneFrame n s (s.modSched (chDomain n) f) :=
  { LaneFrame.refl n s with
    parts := rfl, chan := rfl, others := fun _ _ => ⟨rfl, rfl, rfl⟩, regs := fun _ _ => rfl
    domains := fun _ hd => vmod_ne s.sched f hd.symm }

theorem modFront_lane (n : ChId) (s : State) (f : Front → Front) : LaneFrame n s (s.modFront n f) :=
  { LaneFrame.refl n s with
    parts := rfl, chan := rfl, others := fun _ hm => ⟨rfl, modFront_ne s f hm, rfl⟩, regs := fun _ _ => rfl }

theorem modWatch_lane (n : ChId) (s : State) (f : Watch → Watch) : LaneFrame n s (s.modWatch n f) :=
  { LaneFrame.refl n s with
    parts := rfl, chan := rfl, others := fun _ hm => ⟨rfl, rfl, modWatch_ne s f hm⟩, regs := fun _ _ => rfl }

/-- A change of a channel's test. -/
theorem modInj_lane (n : ChId) (s : State) (f : Inject → Inject) : LaneFrame n s (s.modCh n fun c => { c with inj := f c.inj }) :=
  { LaneFrame.refl n s with
    parts := rfl
    chan := by rw [modCh_self]
    others := fun _ hm => ⟨modCh_ne s _ hm, rfl, rfl⟩, regs := fun _ _ => rfl }

theorem injAbort_lane (n : ChId) (s : State) (v : Int) : LaneFrame n s (s.setReg (Reg.CH_INJ_ABORT n) v) :=
  { LaneFrame.refl n s with
    parts := rfl, chan := rfl, others := fun _ _ => ⟨rfl, rfl, rfl⟩
    regs := fun k hk => State.reg_setReg_ne s v (Ne.symm fun h => hk (List.mem_singleton.2 h)) }

section
variable {n : ChId} {s t : State} (h : LaneFrame n s t)
include h

theorem LaneFrame.ite {c : Prop} [Decidable c] {u : State} (g : LaneFrame n s u) : LaneFrame n s (if c then t else u) := by
  split
  · exact h
  · exact g

theorem LaneFrame.modSched (f : Sched → Sched) : LaneFrame n s (t.modSched (chDomain n) f) := h.trans (modSched_lane n t f)

theorem LaneFrame.modFront (f : Front → Front) : LaneFrame n s (t.modFront n f) := h.trans (modFront_lane n t f)

theorem LaneFrame.modWatch (f : Watch → Watch) : LaneFrame n s (t.modWatch n f) := h.trans (modWatch_lane n t f)

theorem LaneFrame.modInj (f : Inject → Inject) : LaneFrame n s (t.modCh n fun c => { c with inj := f c.inj }) :=
  h.trans (modInj_lane n t f)

theorem LaneFrame.schedEnd : LaneFrame n s (t.schedEnd (chDomain n)) := by
  rw [schedEnd_chan]
  exact h.modSched _

theorem LaneFrame.schedWithdraw (a : Activity) : LaneFrame n s (t.schedWithdraw (chDomain n) a) := by
  rw [schedWithdraw_chan]
  exact h.modSched _

theorem LaneFrame.calPause (r : Nat) : LaneFrame n s (t.calPause n r) := by
  refine h.trans ?_
  unfold State.calPause
  split
  · next hc =>
    exact { LaneFrame.refl n t with
      parts := rfl, chan := rfl, others := fun _ _ => ⟨rfl, rfl, rfl⟩, regs := fun _ _ => rfl
      cal := fun hn => absurd hc hn }
  · exact .refl n t

theorem LaneFrame.abortTest (r : Nat) : LaneFrame n s (t.abortTest n r) := by
  unfold State.abortTest
  split
  · exact ((h.modInj fun i => { i with state := .aborted }).trans (injAbort_lane n _ _)).schedWithdraw _
  · exact h.ite (h.modInj fun i => { i with stopping := some (true, r) })
  · exact h

theorem LaneFrame.probeRecheck : LaneFrame n s (t.probeRecheck n) := by
  unfold State.probeRecheck
  split
  · exact (h.modFront _).schedWithdraw _
  · exact (h.modFront _).schedWithdraw _
  · exact h

theorem LaneFrame.preempt : LaneFrame n s (t.preempt n) := by
  unfold State.preempt
  dsimp only
  split
  · exact (h.modSched _).calPause _
  · exact h.abortTest _
  · exact h

/-- A request to the channel's domain. -/
theorem LaneFrame.schedDo (a : Activity) : LaneFrame n s (t.schedDo (chDomain n) a).2 := by
  have hn : (chDomain n).val < 16 := n.isLt
  unfold State.schedDo
  rw [dif_pos hn]
  split
  · exact h
  · exact h
  · exact h.modSched _
  · rw [startActivity_chan]
    refine LaneFrame.modSched ?_ _
    unfold State.displace
    rw [dif_pos hn]
    exact h.modInj fun i => if i.state = .running then { i with state := .pending } else i
  · dsimp only
    rw [startActivity_chan]
    exact h.preempt.modSched _

theorem LaneFrame.probeAsk {u : State} (hu : t.probeAsk n = .ok u) : LaneFrame n s u := by
  have hsched := h.schedDo .probe
  unfold State.probeAsk at hu
  by_cases hm : t.reg (Reg.CH_PROBE_MODE n) ≠ 0
  · rw [need_true _ (decide_eq_true hm)] at hu
    cases hb : t.probeBar n with
    | some b =>
      rw [hb] at hu
      cases hu
      exact h.modFront _
    | none =>
      rw [hb] at hu
      rcases hv : t.schedDo (chDomain n) .probe with ⟨g, v⟩
      rw [hv] at hsched
      cases g with
      | refuse => rw [hv] at hu; cases hu
      | merge => rw [hv] at hu; cases hu; exact hsched
      | run => rw [hv] at hu; cases hu; exact hsched.modFront _
      | swap => rw [hv] at hu; cases hu; exact hsched.modFront _
      | pend => rw [hv] at hu; cases hu; exact hsched.modFront _
  · rw [need_false _ (decide_eq_false hm)] at hu
    cases hu

theorem LaneFrame.probeRetry : LaneFrame n s (t.probeRetry n) := by
  have hoffer : LaneFrame n s (t.probeOffer n) := by
    unfold State.probeOffer
    split
    · next hu => exact h.probeAsk hu
    · split
      · exact h.modFront _
      · exact h.modFront _
      · exact h
  unfold State.probeRetry
  split
  · exact hoffer
  · exact hoffer
  · exact h

theorem LaneFrame.leaveTrack : LaneFrame n s (t.leaveTrack n) := by
  unfold State.leaveTrack
  exact (((h.abortTest _).calPause _).modFront _).modWatch _

end

/-- A channel in another state, before what follows from it. -/
def State.shifted (s : State) (n : ChId) (x : ChState) (r : Nat) : State :=
  s.modCh n fun c => { c with state := x, reason := r }

theorem enterSettle_lane (s : State) (n : ChId) (r : Nat) : LaneFrame n (s.shifted n .settle r) (s.enterCh n .settle r) := by
  unfold State.enterCh
  exact (LaneFrame.modWatch (.ite (LaneFrame.refl n _).leaveTrack (LaneFrame.refl n _)) _).probeRecheck

theorem enterTrack_lane (s : State) (n : ChId) (r : Nat) : LaneFrame n (s.shifted n .track r) (s.enterCh n .track r) := by
  unfold State.enterCh
  exact (LaneFrame.modWatch (.ite (LaneFrame.refl n _).leaveTrack (LaneFrame.refl n _)) _).probeRetry

theorem enterWarm_lane (s : State) (n : ChId) (r : Nat) : LaneFrame n (s.shifted n .settle r) (s.enterWarm n r) := by
  unfold State.enterWarm
  exact ((enterSettle_lane s n r).modFront _).modWatch _

theorem enterCold_lane (s : State) (n : ChId) (r : Nat) : LaneFrame n (s.shifted n .settle r) (s.enterCold n r) := by
  unfold State.enterCold
  exact (enterSettle_lane s n r).modFront _

/-! ### The channels of an exciter (R40, R41, R68) -/

/-- The reasons of aborted tests. -/
def injAborts : List Key := all16.map fun n : ChId => Reg.CH_INJ_ABORT n

/-- What transitions of several channels may change. -/
structure LanesFrame (s t : State) : Prop where
  parts : t = { s with regs := t.regs, ch := t.ch, watch := t.watch, front := t.front, cal := t.cal, sched := t.sched }
  regs : s.SameRegs t injAborts

theorem LanesFrame.refl (s : State) : LanesFrame s s := ⟨rfl, fun _ _ => rfl⟩

theorem LanesFrame.trans {s t u : State} (h : LanesFrame s t) (g : LanesFrame t u) : LanesFrame s u :=
  ⟨by rw [g.parts, h.parts], fun k hk => (g.regs k hk).trans (h.regs k hk)⟩

theorem LaneFrame.lanes {n : ChId} {s t : State} (h : LaneFrame n s t) : LanesFrame s t := by
  refine ⟨h.parts, fun k hk => h.regs k fun hn => hk ?_⟩
  rw [List.mem_singleton] at hn
  exact List.mem_map.2 ⟨n, List.mem_finRange n, hn.symm⟩

theorem shifted_lanes {n : ChId} {s t : State} {x : ChState} {r : Nat} (h : LaneFrame n (s.shifted n x r) t) : LanesFrame s t :=
  LanesFrame.trans (t := s.shifted n x r) ⟨rfl, fun _ _ => rfl⟩ h.lanes

/-- A change of each channel of a list. -/
theorem lanes_each (f : State → ChId → State) (hf : ∀ u n, LanesFrame u (f u n)) (l : List ChId) (s : State) :
    LanesFrame s (s.each l f) := by
  induction l generalizing s with
  | nil => exact .refl s
  | cons n l ih => exact (hf s n).trans (ih (f s n))

theorem LanesFrame.ite {s t u : State} {c : Prop} [Decidable c] (h : LanesFrame s t) (g : LanesFrame s u) :
    LanesFrame s (if c then t else u) := by
  split
  · exact h
  · exact g

theorem excChanged_lanes (s : State) (e : ExcId) (freq : Bool) : LanesFrame s (s.excChanged e freq) := by
  refine lanes_each _ (fun u n => ?_) _ s
  have hw : LanesFrame u (if freq = true then u.modWatch n fun w => { w with win := [] } else u) :=
    .ite (modWatch_lane n u _).lanes (.refl u)
  dsimp only
  generalize (if freq = true then u.modWatch n fun w => { w with win := [] } else u) = v at *
  have hwarm := hw.trans (shifted_lanes (enterWarm_lane v n 3))
  split
  · exact hwarm.ite hw
  · exact (hwarm.ite (hw.trans (shifted_lanes (enterTrack_lane v n 17)))).ite (hw.trans (modWatch_lane n v _).lanes)
  · exact hw

theorem excProbes_lanes (s : State) (e : ExcId) : LanesFrame s (s.excProbes e) :=
  lanes_each _ (fun u n => (LaneFrame.refl n u).probeRecheck.probeRetry.lanes) _ s

theorem injAbort_low : ∀ k ∈ injAborts, k < 0x500000 := by decide

theorem LanesFrame.calm {s t : State} (h : LanesFrame s t) (c : s.Calm) : t.Calm := by
  refine calm_of (s := s) (by rw [h.parts]) (by rw [h.parts]; rfl) (.inl (by rw [h.parts]; rfl)) ?_ c
  exact fltVisible_congr (by decide) fun k hk _ => h.regs k fun hm => absurd (injAbort_low k hm) (Nat.not_lt.2 hk)

/-! ### An exciter starts (R39, R40) -/

/-- An exciter at the start of its ramp, with the visible settings. -/
def State.ramped (s : State) (e : ExcId) (x : Exc) : Exc :=
  { x with
    state := .ramp, mode := s.reg (Reg.EXC_MODE e), freq := s.reg (Reg.EXC_FREQ e), ftw := ftwOf (s.reg (Reg.EXC_FREQ e))
    ampl := s.reg (Reg.EXC_AMPL e), pendFreq := none, pendAmpl := none, acc := 0, step := 0, rising := true
    restart := false, applied := 0 }

/-- The start of an exciter before its channels follow. -/
def State.started (s : State) (e : ExcId) : State :=
  (((s.modExc e (s.ramped e)).modKelvin e fun k =>
    { k with n := 0, whole := false, outRun := 0, lostRun := 0, okRun := 0, anyIn := false, anyAbove := false, anyOut := false }).foldEval e).modExc e
      fun x => { x with pendFold := false, full := x.target }

theorem excStart_eq (s : State) (e : ExcId) :
    s.excStart e = (s.started e).excChanged e (s.exc[e].freq ≠ s.reg (Reg.EXC_FREQ e)) := rfl

/-- The start changes its exciter, its sense window, and what its fold-back source may. -/
theorem started_starts {s : State} {e : ExcId} (c : s.Calm) (m : s.Mild (excSrc e 1)) :
    (s.started e).Calm ∧ (∀ k, k ≠ Reg.FC_LOG_LOST → (s.started e).reg k = s.reg k) ∧
    (∃ f p a, (s.started e).exc[e] = { s.ramped e s.exc[e] with fold := f, pendFold := p, full := a }) ∧
    ∀ d, d ≠ e → (s.started e).exc[d] = s.exc[d] := by
  obtain ⟨u, hu⟩ : ∃ u, u = (s.modExc e (s.ramped e)).modKelvin e fun k =>
    { k with n := 0, whole := false, outRun := 0, lostRun := 0, okRun := 0, anyIn := false, anyAbove := false, anyOut := false } :=
    ⟨_, rfl⟩
  have cu : u.Calm := hu ▸ c
  have mu : u.Mild (excSrc e 1) := hu ▸ m
  have hself : u.exc[e] = s.ramped e s.exc[e] := by rw [hu]; exact modExc_self s e _
  have hother : ∀ d, d ≠ e → u.exc[d] = s.exc[d] := fun d hd => by rw [hu]; exact modExc_ne s _ hd
  have hreg : ∀ k, u.reg k = s.reg k := fun k => by rw [hu]; rfl
  have hstarted : s.started e = (u.foldEval e).modExc e fun x => { x with pendFold := false, full := x.target } := by rw [hu]; rfl
  have hframe := foldEval_frame u e
  have hcalm := foldEval_calm cu mu
  rw [hstarted]
  clear hu hstarted
  generalize u.foldEval e = v at *
  refine ⟨hcalm, fun k hk => (hframe.reg k hk).trans (hreg k), ?_, fun d hd => ?_⟩
  · obtain ⟨hparts, -, -⟩ := folded_fold u.exc[e]
    rw [modExc_self, hframe.exc, modExc_self, hparts, hself]
    exact ⟨_, _, _, rfl⟩
  · rw [modExc_ne _ _ hd, hframe.exc, modExc_ne _ _ hd, hother d hd]

/-- What the start of an exciter leaves of it, and of the registers. -/
theorem excStart_starts {s : State} {e : ExcId} (c : s.Calm) (m : s.Mild (excSrc e 1)) :
    (s.excStart e).Calm ∧
    (∀ k, k ≠ Reg.FC_LOG_LOST → k ∉ injAborts → (s.excStart e).reg k = s.reg k) ∧
    (∃ f p a, (s.excStart e).exc[e] = { s.ramped e s.exc[e] with fold := f, pendFold := p, full := a }) ∧
    ∀ d, d ≠ e → (s.excStart e).exc[d] = s.exc[d] := by
  obtain ⟨hcalm, hreg, hself, hother⟩ := started_starts c m
  have h := excChanged_lanes (s.started e) e (s.exc[e].freq ≠ s.reg (Reg.EXC_FREQ e))
  have hexc : (s.excStart e).exc = (s.started e).exc := by
    rw [excStart_eq, h.parts]
  rw [hexc, excStart_eq]
  exact ⟨h.calm hcalm, fun k hk hn => (h.regs k hn).trans (hreg k hk), hself, hother⟩

end Sys2Proof.Machine
end

section
/-!
PROOFS. Exciters by their writes: starts, stops, mode, frequency and amplitude (R35, R39, R40).
-/

namespace Sys2Proof.Machine

set_option Elab.async false

theorem excKeys (e : ExcId) : Reg.EXC_ENABLE e ≠ Reg.CFG_GEN ∧ Reg.EXC_MODE e ≠ Reg.CFG_GEN ∧ Reg.EXC_FREQ e ≠ Reg.CFG_GEN ∧
    Reg.EXC_AMPL e ≠ Reg.CFG_GEN ∧ Reg.EXC_AMPL e ≠ Reg.EXC_MODE e ∧ mitExc e ≠ Reg.EXC_ENABLE e ∧
    Reg.EXC_MODE e ≠ Reg.EXC_ENABLE e ∧ Reg.EXC_FREQ e ≠ Reg.EXC_ENABLE e ∧ Reg.EXC_AMPL e ≠ Reg.EXC_ENABLE e := by
  decide +revert

theorem excStart_keys (e : ExcId) : (Reg.EXC_ENABLE e < 0x500000 ∨ 0x550000 ≤ Reg.EXC_ENABLE e) ∧ excSrc e 1 < 1280 ∧
    Reg.EXC_ENABLE e ≠ Reg.FC_LOG_LOST ∧ Reg.EXC_ENABLE e ∉ injAborts ∧ Reg.EXC_FREQ e ∉ injAborts ∧
    (Reg.EXC_FREQ e < 0x500000 ∨ 0x550000 ≤ Reg.EXC_FREQ e) := by decide +revert

/-! ### What an exciter follows (R39) -/

/-- An exciter that is not to run falls, or stays as it is. -/
theorem excSync_unwanted {s : State} {e : ExcId} (h : s.excWanted e = false) :
    (s.exc[e].state = .run → s.excSync e = s.modExc e fun x => { x with state := .ramp, step := 16, rising := false }) ∧
    (s.exc[e].state = .ramp → s.excSync e = s.modExc e fun x => { x with rising := false }) ∧
    (s.exc[e].state ≠ .run → s.exc[e].state ≠ .ramp → s.excSync e = s) := by
  unfold State.excSync
  dsimp only
  refine ⟨fun hs => ?_, fun hs => ?_, fun h₁ h₂ => ?_⟩
  · rw [hs, h]
    rfl
  · rw [hs, h]
    rfl
  · cases hs : s.exc[e].state with
    | off => rw [h]; rfl
    | ramp => exact absurd hs h₂
    | run => exact absurd hs h₁
    | shutdown => rfl
    | held => rfl

/-- An exciter that is to run starts, turns its ramp round, or stays as it is. -/
theorem excSync_wanted {s : State} {e : ExcId} (h : s.excWanted e = true) :
    (s.exc[e].state = .off → s.excSync e = s.excStart e) ∧
    (s.exc[e].state = .ramp → s.excSync e = s.modExc e fun x => { x with rising := !x.restart }) ∧
    (s.exc[e].state = .run → s.exc[e].restart = true →
      s.excSync e = s.modExc e fun x => { x with state := .ramp, step := 16, rising := false }) ∧
    (s.exc[e].state = .run → s.exc[e].restart = false → s.excSync e = s) ∧
    (s.exc[e].state = .shutdown ∨ s.exc[e].state = .held → s.excSync e = s) := by
  unfold State.excSync
  dsimp only
  refine ⟨fun hs => ?_, fun hs => ?_, fun hs hr => ?_, fun hs hr => ?_, fun hs => ?_⟩
  · rw [hs, h]
    rfl
  · rw [hs, h]
    rfl
  · rw [hs, h, hr]
    rfl
  · rw [hs, h, hr]
    rfl
  · rcases hs with hs | hs <;> rw [hs]

/-- A mode that has changed under a running exciter makes it fall, wanted or not. -/
theorem excSync_restart {s : State} {e : ExcId} (hs : s.exc[e].state = .run) (hr : s.exc[e].restart = true) :
    s.excSync e = s.modExc e fun x => { x with state := .ramp, step := 16, rising := false } := by
  cases h : s.excWanted e with
  | true => exact (excSync_wanted h).2.2.1 hs hr
  | false => exact (excSync_unwanted h).1 hs

/-! ### EXC_ENABLE -/

theorem excEnable_eff (s : State) (p : Port) (e : ExcId) (v : Int) :
    effVisible noCheck (fun s _ _ _ => s.excSync e) (Reg.EXC_ENABLE e) v (s.beat p) =
      .ok (((s.beat p).setReg (Reg.EXC_ENABLE e) v).excSync e).cfgGen := effVisible_ok rfl

theorem excDisable_falls {p : Port} {e : ExcId} {s : State} (c : s.Calm)
    (ha : s.Admits p (Reg.EXC_ENABLE e) (dataAt (Reg.EXC_ENABLE e) 0) 0) :
    ∃ t, exec (.excEnableWrite p e 0) s = .next t ∧ s.Visible t (Reg.EXC_ENABLE e) 0 ∧
      t = { s.beat p with regs := t.regs, exc := t.exc } ∧ (∀ d, d ≠ e → t.exc[d] = s.exc[d]) ∧
      (s.exc[e].state = .run → t.exc[e] = { s.exc[e] with state := .ramp, step := 16, rising := false }) ∧
      (s.exc[e].state = .ramp → t.exc[e] = { s.exc[e] with rising := false }) ∧
      (s.exc[e].state ≠ .run → s.exc[e].state ≠ .ramp → t.exc[e] = s.exc[e]) := by
  obtain ⟨hgen, -⟩ := excKeys e
  have heff := excEnable_eff s p e 0
  obtain ⟨u, hu⟩ : ∃ u, u = (s.beat p).setReg (Reg.EXC_ENABLE e) 0 := ⟨_, rfl⟩
  have hwant : u.excWanted e = false := by
    have hoff : u.reg (Reg.EXC_ENABLE e) = 0 := by rw [hu]; exact State.reg_setReg _ _ _
    unfold State.excWanted State.flag
    rw [hoff]
    rfl
  have hparts : u = { s.beat p with regs := u.regs } := by rw [hu]; rfl
  have hreg : ∀ j, u.reg j = (s.setReg (Reg.EXC_ENABLE e) 0).reg j := fun j => by rw [hu]; rfl
  have cu : u.Calm := hu ▸ setReg_calm (s.beat p) (excStart_keys e).1 0 c
  have hexc : u.exc = s.exc := by rw [hparts]; rfl
  rw [← hu] at heff
  clear hu
  obtain ⟨hrun, hramp, hstay⟩ := excSync_unwanted hwant
  have hfinish : ∀ f : Exc → Exc, u.excSync e = u.modExc e f →
      ∃ t, exec (.excEnableWrite p e 0) s = .next t ∧ s.Visible t (Reg.EXC_ENABLE e) 0 ∧
        t = { s.beat p with regs := t.regs, exc := t.exc } ∧ (∀ d, d ≠ e → t.exc[d] = s.exc[d]) ∧ t.exc[e] = f s.exc[e] := by
    intro f hf
    rw [hf] at heff
    refine ⟨_, hostWrite_next ha heff cu.1, visible_cfgGen hgen hreg, ?_, fun d hd => (modExc_ne u f hd).trans (by rw [hexc]),
      (modExc_self u e f).trans (by rw [hexc])⟩
    rw [hparts]
    rfl
  rw [hexc] at hrun hramp hstay
  by_cases h₁ : s.exc[e].state = .run
  · obtain ⟨t, hexec, hvis, hframe, hother, hself⟩ := hfinish _ (hrun h₁)
    exact ⟨t, hexec, hvis, hframe, hother, fun _ => hself, fun h => absurd (h₁.symm.trans h) (by decide), fun h => absurd h₁ h⟩
  · by_cases h₂ : s.exc[e].state = .ramp
    · obtain ⟨t, hexec, hvis, hframe, hother, hself⟩ := hfinish _ (hramp h₂)
      exact ⟨t, hexec, hvis, hframe, hother, fun h => absurd h h₁, fun _ => hself, fun _ h => absurd h₂ h⟩
    · have hid : u.modExc e id = u := congrArg (fun v => { u with exc := v }) (vmod_id u.exc e rfl)
      obtain ⟨t, hexec, hvis, hframe, hother, hself⟩ := hfinish id ((hstay h₁ h₂).trans hid.symm)
      exact ⟨t, hexec, hvis, hframe, hother, fun h => absurd h h₁, fun h => absurd h h₂, fun _ _ => hself⟩

theorem excWanted_enabled {s u : State} {e : ExcId} (hen : u.reg (Reg.EXC_ENABLE e) = 1)
    (hmode : u.reg (Reg.EXC_MODE e) = 1 ∨ u.reg (Reg.EXC_MODE e) = 2)
    (hmit : u.floor.deviceSafe = false ∨ u.reg (mitExc e) ≠ 1) (hl : u.lanesOn = true) (hb : u.sup.booted = true) :
    u.excWanted e = true := by
  have hflag : u.flag (Reg.EXC_ENABLE e) = true := by unfold State.flag; rw [hen]; rfl
  have hm : (decide (u.reg (Reg.EXC_MODE e) = 1) || decide (u.reg (Reg.EXC_MODE e) = 2)) = true := by
    rcases hmode with h | h <;> rw [h] <;> rfl
  have hh : (u.floor.deviceSafe && decide (u.reg (mitExc e) = 1)) = false := by
    rcases hmit with h | h
    · rw [h]; rfl
    · rw [decide_eq_false h, Bool.and_false]
  unfold State.excWanted
  rw [hflag, hm, hh, hl, hb]
  rfl

theorem excEnable_starts {p : Port} {e : ExcId} {s : State} (c : s.Calm) (m : s.Mild (excSrc e 1))
    (hmit : s.floor.deviceSafe = false ∨ s.reg (mitExc e) ≠ 1)
    (hmode : s.reg (Reg.EXC_MODE e) = 1 ∨ s.reg (Reg.EXC_MODE e) = 2) (hl : s.lanesOn = true)
    (hb : s.sup.booted = true) (ha : s.Admits p (Reg.EXC_ENABLE e) (dataAt (Reg.EXC_ENABLE e) 1) 1) :
    ∃ t, exec (.excEnableWrite p e 1) s = .next t ∧ t.reg (Reg.EXC_ENABLE e) = 1 ∧
      (s.exc[e].state = .off → ∃ f q a, t.exc[e] = { s.ramped e s.exc[e] with fold := f, pendFold := q, full := a }) ∧
      (s.exc[e].state = .ramp → t.exc[e] = { s.exc[e] with rising := !s.exc[e].restart }) ∧
      (s.exc[e].state = .shutdown ∨ s.exc[e].state = .held → t.exc[e] = s.exc[e]) := by
  obtain ⟨hgen, -, -, -, -, hmk, hok, hfk, hak⟩ := excKeys e
  obtain ⟨hplain, hid, hlost, hinj, -⟩ := excStart_keys e
  have heff := excEnable_eff s p e 1
  obtain ⟨u, hu⟩ : ∃ u, u = (s.beat p).setReg (Reg.EXC_ENABLE e) 1 := ⟨_, rfl⟩
  have hen : u.reg (Reg.EXC_ENABLE e) = 1 := by rw [hu]; exact State.reg_setReg _ _ _
  have hreg : ∀ j, j ≠ Reg.EXC_ENABLE e → u.reg j = s.reg j := fun j hj => by
    rw [hu]; exact State.reg_setReg_ne (s.beat p) _ hj.symm
  have hwant : u.excWanted e = true := by
    refine excWanted_enabled (s := s) hen (by rw [hreg _ hok]; exact hmode) ?_ (by rw [hu]; exact hl) (by rw [hu]; exact hb)
    rw [hreg _ hmk, hu]
    exact hmit
  have cu : u.Calm := hu ▸ setReg_calm (s.beat p) hplain 1 c
  have mu : u.Mild (excSrc e 1) := hu ▸ setReg_mild (s.beat p) hplain 1 hid m
  have hexc : u.exc = s.exc := by rw [hu]; rfl
  have hramped : u.ramped e = s.ramped e := by
    unfold State.ramped
    rw [hreg _ hok, hreg _ hfk, hreg _ hak]
  rw [← hu] at heff
  clear hu
  obtain ⟨hoff, hramp, hfall, hrun, hstay⟩ := excSync_wanted hwant
  rw [hexc] at hoff hramp hfall hrun hstay
  have hfinish : ∀ v : State, u.excSync e = v → v.Calm → v.reg (Reg.EXC_ENABLE e) = 1 →
      exec (.excEnableWrite p e 1) s = .next v.cfgGen ∧ v.cfgGen.reg (Reg.EXC_ENABLE e) = 1 := by
    intro v hv cv hr
    rw [hv] at heff
    refine ⟨hostWrite_next ha heff cv.1, ?_⟩
    rw [State.cfgGen, State.reg_setReg_ne _ _ hgen.symm, hr]
  cases hs : s.exc[e].state with
  | off =>
    obtain ⟨hcalm, hregs, ⟨f, q, a, hself⟩, -⟩ := excStart_starts cu mu
    obtain ⟨hexec, hone⟩ := hfinish _ (hoff hs) hcalm ((hregs _ hlost hinj).trans hen)
    refine ⟨_, hexec, hone, fun _ => ⟨f, q, a, ?_⟩, fun h => ?_, fun h => ?_⟩
    · rw [hexc, hramped] at hself
      exact hself
    · cases h
    · rcases h with h | h <;> cases h
  | ramp =>
    obtain ⟨hexec, hone⟩ := hfinish _ (hramp hs) cu hen
    refine ⟨_, hexec, hone, fun h => ?_, fun _ => ?_, fun h => ?_⟩
    · cases h
    · exact (modExc_self u e _).trans (by rw [hexc])
    · rcases h with h | h <;> cases h
  | run =>
    cases hr : s.exc[e].restart with
    | true =>
      obtain ⟨hexec, hone⟩ := hfinish _ (hfall hs hr) cu hen
      refine ⟨_, hexec, hone, fun h => ?_, fun h => ?_, fun h => ?_⟩
      · cases h
      · cases h
      · rcases h with h | h <;> cases h
    | false =>
      obtain ⟨hexec, hone⟩ := hfinish _ (hrun hs hr) cu hen
      refine ⟨_, hexec, hone, fun h => ?_, fun h => ?_, fun h => ?_⟩
      · cases h
      · cases h
      · rcases h with h | h <;> cases h
  | shutdown =>
    obtain ⟨hexec, hone⟩ := hfinish _ (hstay (.inl hs)) cu hen
    exact ⟨_, hexec, hone, fun h => (nomatch h), fun h => (nomatch h), fun _ => by change u.exc[e] = _; rw [hexc]⟩
  | held =>
    obtain ⟨hexec, hone⟩ := hfinish _ (hstay (.inr hs)) cu hen
    exact ⟨_, hexec, hone, fun h => (nomatch h), fun h => (nomatch h), fun _ => by change u.exc[e] = _; rw [hexc]⟩

/-! ### EXC_MODE (R35, R39) -/

theorem checkExcMode_eq {e : ExcId} {s u : State} {v : Int} :
    checkExcMode e u (overlay s.reg [(Reg.EXC_MODE e, v)]) (Reg.EXC_MODE e) v =
      need ((amplRange v).1 ≤ s.reg (Reg.EXC_AMPL e) && s.reg (Reg.EXC_AMPL e) ≤ (amplRange v).2) nakRange := by
  obtain ⟨-, -, -, -, hne, -⟩ := excKeys e
  unfold checkExcMode
  dsimp only
  rw [overlay_single_ne s.reg v hne]

theorem excMode_stops {p : Port} {e : ExcId} {v : Int} {s : State} (c : s.Calm)
    (ha : s.Admits p (Reg.EXC_MODE e) (dataAt (Reg.EXC_MODE e) v) v)
    (hrange : (amplRange v).1 ≤ s.reg (Reg.EXC_AMPL e) ∧ s.reg (Reg.EXC_AMPL e) ≤ (amplRange v).2)
    (hs : s.exc[e].state = .run) (hv : v ≠ s.reg (Reg.EXC_MODE e)) :
    ∃ t, exec (.excModeWrite p e v) s = .next t ∧ s.Visible t (Reg.EXC_MODE e) v ∧
      t = { s.beat p with regs := t.regs, exc := t.exc } ∧ (∀ d, d ≠ e → t.exc[d] = s.exc[d]) ∧
      t.exc[e] = { s.exc[e] with state := .ramp, step := 16, rising := false, restart := true } := by
  obtain ⟨-, hgen, -⟩ := excKeys e
  have hcheck : checkExcMode e (s.beat p) (overlay (s.beat p).reg [(Reg.EXC_MODE e, v)]) (Reg.EXC_MODE e) v = .ok () :=
    checkExcMode_eq.trans (need_true _ (Bool.and_eq_true_iff.2 ⟨decide_eq_true hrange.1, decide_eq_true hrange.2⟩))
  obtain ⟨u, hu⟩ : ∃ u, u = ((s.beat p).setReg (Reg.EXC_MODE e) v).modExc e fun x => { x with restart := true } := ⟨_, rfl⟩
  have hdrive : ((s.beat p).setReg (Reg.EXC_MODE e) v).exc[e].driving = true := by
    change (s.exc[e]).driving = true
    unfold Exc.driving
    rw [hs]
    rfl
  have happly : applyExcMode e ((s.beat p).setReg (Reg.EXC_MODE e) v) (Reg.EXC_MODE e) ((s.beat p).reg (Reg.EXC_MODE e)) v =
      u.excSync e := by
    rw [hu]
    exact congrArg (fun w : State => w.excSync e) (if_pos (by rw [hdrive, decide_eq_true (show (s.beat p).reg (Reg.EXC_MODE e) ≠ v from Ne.symm hv)]; rfl))
  have hself : u.exc[e] = { s.exc[e] with restart := true } := by rw [hu]; exact modExc_self _ e _
  have heff := effVisible_ok (apply := applyExcMode e) hcheck
  rw [happly, excSync_restart (by rw [hself]; exact hs) (by rw [hself])] at heff
  refine ⟨_, hostWrite_next ha heff (by rw [hu]; exact c.1), visible_cfgGen hgen fun j => by rw [hu]; rfl, by rw [hu]; rfl,
    fun d hd => ?_, ?_⟩
  · refine (modExc_ne u _ hd).trans ?_
    rw [hu]
    exact modExc_ne _ _ hd
  · refine (modExc_self u e _).trans ?_
    rw [hself]

theorem excMode_refused {p : Port} {e : ExcId} {v : Int} {s : State} (c : s.Calm)
    (ha : s.Admits p (Reg.EXC_MODE e) (dataAt (Reg.EXC_MODE e) v) v)
    (h : s.reg (Reg.EXC_AMPL e) < (amplRange v).1 ∨ (amplRange v).2 < s.reg (Reg.EXC_AMPL e)) :
    ∃ t, exec (.excModeWrite p e v) s = .next t ∧ s.RefusedAs t p (Reg.EXC_MODE e) nakRange := by
  refine hostWrite_refusedAs c ha (effVisible_error ?_) (by decide) (by decide)
  refine checkExcMode_eq.trans (need_false _ (Bool.and_eq_false_iff.2 ?_))
  exact h.imp (fun h => decide_eq_false (not_le.2 h)) fun h => decide_eq_false (not_le.2 h)

/-! ### EXC_FREQ and EXC_AMPL (R40, R42) -/

theorem each_same {β : Type} (f : State → β → State) (l : List β) (s : State) (h : ∀ b ∈ l, f s b = s) : s.each l f = s := by
  induction l with
  | nil => rfl
  | cons b l ih =>
    have hb := h b List.mem_cons_self
    refine Eq.trans (congrArg (fun u : State => u.each l f) hb) (ih fun x hx => h x (List.mem_cons_of_mem b hx))

/-- Where no probe waits or runs, another carrier does nothing to them. -/
theorem excProbes_idle {s : State} {e : ExcId} (h : ∀ n, s.excIx n = e → s.front[n].probe = .idle) : s.excProbes e = s := by
  refine each_same _ _ s fun n hn => ?_
  have hidle := h n (of_decide_eq_true (List.mem_filter.1 hn).2)
  rw [probeRecheck_none (by rw [hidle]; decide) (by rw [hidle]; decide),
    probeRetry_none (by rw [hidle]; decide) (by rw [hidle]; decide)]

theorem checkExcFreq_ok {e : ExcId} {s u : State} {v : Int} (h : ∀ n b, s.excIx n = e → bankAbove s.reg n b v = false) :
    checkExcFreq e u (overlay s.reg [(Reg.EXC_FREQ e, v)]) (Reg.EXC_FREQ e) v = .ok () := by
  refine need_true _ ?_
  rw [Bool.not_eq_true', List.any_eq_false]
  intro n _
  rw [overlay_single_ne s.reg v (ne_EXC_FREQ e (CH_EXC_SEL_lt n)), bankAbove_overlay_EXC_FREQ, bankAbove_overlay_EXC_FREQ]
  by_cases hn : excOf (s.reg (Reg.CH_EXC_SEL n)) = e
  · rw [h n false hn, h n true hn]
    simp
  · rw [decide_eq_false hn]
    simp

theorem excFreq_waits {p : Port} {e : ExcId} {v : Int} {s : State} (c : s.Calm)
    (ha : s.Admits p (Reg.EXC_FREQ e) (dataAt (Reg.EXC_FREQ e) v) v)
    (h : ∀ n b, s.excIx n = e → bankAbove s.reg n b v = false) :
    ∃ t, exec (.excFreqWrite p e v) s = .next t ∧ t.reg (Reg.EXC_FREQ e) = v ∧
      t.exc[e] = { s.exc[e] with pendFreq := pendOf s.exc[e] s.exc[e].pendFreq s.exc[e].freq v } ∧
      (∀ d, d ≠ e → t.exc[d] = s.exc[d]) ∧
      ((∀ n, s.excIx n = e → s.front[n].probe = .idle) → s.Visible t (Reg.EXC_FREQ e) v ∧
        t = { s.beat p with regs := t.regs, exc := t.exc }) := by
  obtain ⟨-, -, hgen, -⟩ := excKeys e
  obtain ⟨-, -, -, -, hinj, hplain⟩ := excStart_keys e
  have heff := effVisible_ok (apply := applyExcFreq e) (checkExcFreq_ok (s := s.beat p) (u := s.beat p) h)
  obtain ⟨u, hu⟩ : ∃ u, u = ((s.beat p).setReg (Reg.EXC_FREQ e) v).modExc e fun x =>
    { x with pendFreq := pendOf x x.pendFreq x.freq v } := ⟨_, rfl⟩
  have happly : applyExcFreq e ((s.beat p).setReg (Reg.EXC_FREQ e) v) (Reg.EXC_FREQ e) ((s.beat p).reg (Reg.EXC_FREQ e)) v =
      u.excProbes e := by rw [hu]; rfl
  rw [happly] at heff
  have hl := excProbes_lanes u e
  have hcalm : u.Calm := hu ▸ setReg_calm (s.beat p) hplain v c
  have hexc : (u.excProbes e).exc = u.exc := by rw [hl.parts]
  refine ⟨_, hostWrite_next ha heff (hl.calm hcalm).1, ?_, ?_, fun d hd => ?_, fun hidle => ?_⟩
  · rw [State.cfgGen, State.reg_setReg_ne _ _ hgen.symm, hl.regs _ hinj, hu]
    exact State.reg_setReg (s.beat p) _ _
  · change (u.excProbes e).exc[e] = _
    rw [hexc, hu]
    exact modExc_self _ e _
  · change (u.excProbes e).exc[d] = _
    rw [hexc, hu]
    exact modExc_ne _ _ hd
  · have hsel : ∀ n, u.excIx n = s.excIx n := fun n => by
      unfold State.excIx
      rw [hu]
      exact congrArg excOf (State.reg_setReg_ne (s.beat p) v (ne_EXC_FREQ e (CH_EXC_SEL_lt n)).symm)
    have hnone : u.excProbes e = u := excProbes_idle fun n hn => by
      rw [hsel] at hn
      rw [hu]
      exact hidle n hn
    rw [hnone, hu]
    exact ⟨visible_cfgGen hgen fun _ => rfl, rfl⟩

theorem excAmpl_waits {p : Port} {e : ExcId} {v : Int} {s : State} (c : s.Calm)
    (ha : s.Admits p (Reg.EXC_AMPL e) (dataAt (Reg.EXC_AMPL e) v) v) :
    ∃ t, exec (.excAmplWrite p e v) s = .next t ∧ s.Visible t (Reg.EXC_AMPL e) v ∧
      t = { s.beat p with regs := t.regs, exc := t.exc } ∧ (∀ d, d ≠ e → t.exc[d] = s.exc[d]) ∧
      t.exc[e] = { s.exc[e] with pendAmpl := pendOf s.exc[e] s.exc[e].pendAmpl s.exc[e].ampl v } := by
  obtain ⟨-, -, -, hgen, -⟩ := excKeys e
  have heff := effVisible_ok (check := noCheck) (apply := applyExcAmpl e) (k := Reg.EXC_AMPL e) (v := v) (s := s.beat p) rfl
  exact ⟨_, hostWrite_next ha heff c.1, visible_cfgGen hgen fun _ => rfl, rfl, fun d hd => modExc_ne _ _ hd, modExc_self _ e _⟩

/-- Settles O17: an exciter follows its enable and mode by `excSync`, and a frequency or amplitude waits in `pendOf`. -/
theorem exciterWritesAreVisibleAndWaitForTheCrossing : Obligations.ExciterWritesAreVisibleAndWaitForTheCrossing := by
  refine ⟨fun p e s c ha => excDisable_falls c ha, fun p e s c m hmit hmode hl hb ha => ?_,
    fun p e v s c ha => ⟨fun hr hs hv => excMode_stops c ha hr hs hv, fun h => excMode_refused c ha h⟩,
    fun p e v s c ha h => excFreq_waits c ha h, fun p e v s c ha => excAmpl_waits c ha⟩
  obtain ⟨t, hexec, hen, hoff, hramp, hstay⟩ := excEnable_starts c m hmit hmode hl hb ha
  refine ⟨t, hexec, hen, fun hs => ?_, hramp, hstay⟩
  obtain ⟨f, q, a, h⟩ := hoff hs
  rw [h]
  exact ⟨rfl, rfl, rfl, rfl, rfl, rfl, rfl⟩

end Sys2Proof.Machine
end

section
/-!
PROOFS. EXC_RESTART and the routing of a channel to its exciter (R38, R43, R98).
-/

namespace Sys2Proof.Machine

set_option Elab.async false

/-! ### EXC_RESTART (R38) -/

section
variable {p : Port} {e : ExcId} {s : State} (c : s.Calm) (ha : s.AdmitsCmd p (Reg.EXC_RESTART e))
include c ha

theorem excRestart_refused (h : s.exc[e].state ≠ .shutdown ∨ (s.src (excSrc e 0)).state ≠ .idle) :
    ∃ t, exec (.excRestart p e) s = .next t ∧ s.RefusedAs t p (Reg.EXC_RESTART e) nakCond := by
  refine hostWrite_refusedAs c ha ?_ (by decide) (by decide)
  unfold effExcRestart
  rw [need_false _ (show (decide ((s.beat p).exc[e].state = .shutdown) && decide (((s.beat p).src (excSrc e 0)).state = .idle)) = false from
    Bool.and_eq_false_iff.2 (h.imp (fun h => decide_eq_false h) fun h => decide_eq_false h))]
  rfl

variable (hs : s.exc[e].state = .shutdown) (hi : (s.src (excSrc e 0)).state = .idle)
include hs hi

/-- The exciter that is restarted goes to HELD or OFF, and follows its enable and mode from there. -/
theorem excRestart_next {x : ExcState} (hx : (if s.floor.deviceSafe && s.reg (mitExc e) = 1 then ExcState.held else .off) = x)
    {t : State} (ht : ((s.beat p).modExc e fun y => { y with state := x }).excSync e = t) (hq : t.floor.request = false) :
    exec (.excRestart p e) s = .next t := by
  refine hostWrite_next ha ?_ hq
  unfold effExcRestart
  rw [need_true _ (show (decide ((s.beat p).exc[e].state = .shutdown) && decide (((s.beat p).src (excSrc e 0)).state = .idle)) = true from
    Bool.and_eq_true_iff.2 ⟨decide_eq_true hs, decide_eq_true hi⟩), ← ht, ← hx]
  rfl

theorem excRestart_held (hd : s.floor.deviceSafe = true) (hm : s.reg (mitExc e) = 1) :
    ∃ t, exec (.excRestart p e) s = .next t ∧ t = { s.beat p with exc := t.exc } ∧
      t.exc[e] = { s.exc[e] with state := .held } ∧ ∀ d, d ≠ e → t.exc[d] = s.exc[d] := by
  have hself := modExc_self (s.beat p) e fun y => { y with state := .held }
  have hsync : ((s.beat p).modExc e fun y => { y with state := .held }).excSync e =
      (s.beat p).modExc e fun y => { y with state := .held } := by
    unfold State.excSync
    dsimp only
    rw [hself]
  exact ⟨_, excRestart_next c ha hs hi (if_pos (by rw [hd, hm]; rfl)) hsync c.1, rfl, hself, fun d hd => modExc_ne (s.beat p) _ hd⟩

/-- Off the Mitten's hold the exciter passes through OFF. -/
theorem excRestart_off (h : s.floor.deviceSafe = false ∨ s.reg (mitExc e) ≠ 1) {t : State}
    (ht : ((s.beat p).modExc e fun y => { y with state := .off }).excSync e = t) (hq : t.floor.request = false) :
    exec (.excRestart p e) s = .next t := by
  refine excRestart_next c ha hs hi (if_neg ?_) ht hq
  rw [Bool.and_eq_true, decide_eq_true_eq]
  rintro ⟨h₁, h₂⟩
  rcases h with h | h
  · exact absurd (h.symm.trans h₁) (by decide)
  · exact h h₂

theorem excRestart_idle (h : s.floor.deviceSafe = false ∨ s.reg (mitExc e) ≠ 1) (hw : s.excWanted e = false) :
    ∃ t, exec (.excRestart p e) s = .next t ∧ t = { s.beat p with exc := t.exc } ∧
      t.exc[e] = { s.exc[e] with state := .off } ∧ ∀ d, d ≠ e → t.exc[d] = s.exc[d] := by
  have hself := modExc_self (s.beat p) e fun y => { y with state := .off }
  have hsync := (excSync_unwanted (s := (s.beat p).modExc e fun y => { y with state := .off }) (e := e) hw).2.2
    (by rw [hself]; exact (nomatch ·)) (by rw [hself]; exact (nomatch ·))
  exact ⟨_, excRestart_off c ha hs hi h hsync c.1, rfl, hself, fun d hd => modExc_ne (s.beat p) _ hd⟩

theorem excRestart_starts (hw : s.excWanted e = true) (m : s.Mild (excSrc e 1)) :
    ∃ t, exec (.excRestart p e) s = .next t ∧ t.exc[e].state = .ramp ∧ t.exc[e].acc = 0 ∧ t.exc[e].step = 0 ∧
      t.exc[e].freq = s.reg (Reg.EXC_FREQ e) ∧ t.exc[e].ampl = s.reg (Reg.EXC_AMPL e) := by
  have hfree : s.floor.deviceSafe = false ∨ s.reg (mitExc e) ≠ 1 := by
    have hw' := hw
    unfold State.excWanted at hw'
    rw [Bool.and_eq_true, Bool.and_eq_true, Bool.and_eq_true] at hw'
    obtain ⟨⟨⟨-, hfree⟩, -⟩, -⟩ := hw'
    rw [Bool.not_eq_true', Bool.and_eq_false_iff] at hfree
    exact hfree.imp id of_decide_eq_false
  obtain ⟨u, hu⟩ : ∃ u, u = (s.beat p).modExc e fun y => { y with state := .off } := ⟨_, rfl⟩
  have hself : u.exc[e] = { s.exc[e] with state := .off } := by rw [hu]; exact modExc_self _ e _
  have hwant : u.excWanted e = true := by rw [hu]; exact hw
  obtain ⟨hcalm, -, ⟨f, q, a, hstart⟩, -⟩ := excStart_starts (s := u) (e := e) (hu ▸ c) (hu ▸ m)
  have hreg : ∀ k, u.reg k = s.reg k := fun k => by rw [hu]; rfl
  have hsync := (excSync_wanted hwant).1 (by rw [hself])
  rw [hu] at hsync
  refine ⟨_, excRestart_off c ha hs hi hfree hsync ?_, ?_⟩
  · rw [← hu]; exact hcalm.1
  · rw [← hu, hstart]
    exact ⟨rfl, rfl, rfl, hreg _, hreg _⟩

end

/-! ### CH_EXC_SEL (R43) -/

theorem selKeys (n : ChId) : Reg.CH_EXC_SEL n ≠ Reg.CFG_GEN ∧ Reg.CH_VEL_FS n ≠ Reg.CH_EXC_SEL n ∧
    Reg.CH_EXC_SEL n ∉ [Reg.CH_INJ_ABORT n] ∧ Reg.CFG_GEN ∉ [Reg.CH_INJ_ABORT n] ∧
    (Reg.CH_EXC_SEL n < 0x500000 ∨ 0x550000 ≤ Reg.CH_EXC_SEL n) := by decide +revert

theorem bankKey_ne_EXC_SEL (n : ChId) (b : Bool) : bankKey b 3 n ≠ Reg.CH_EXC_SEL n ∧ bankKey b 4 n ≠ Reg.CH_EXC_SEL n := by
  decide +revert

theorem bankAbove_overlay_EXC_SEL (get : Key → Int) (n : ChId) (w : Int) (b : Bool) (f : Int) :
    bankAbove (overlay get [(Reg.CH_EXC_SEL n, w)]) n b f = bankAbove get n b f := by
  obtain ⟨-, hv, -⟩ := selKeys n
  obtain ⟨h₃, h₄⟩ := bankKey_ne_EXC_SEL n b
  exact bankAbove_congr f (overlay_single_ne get w hv) (overlay_single_ne get w h₃) (overlay_single_ne get w h₄)

/-- A bandwidth that the new exciter's frequencies do not carry, in use or pending. -/
def State.tooWide (s : State) (n : ChId) (v : Int) : Bool :=
  (s.freqsAt (excOf v)).any fun f => bankAbove s.reg n false f || bankAbove s.reg n true f

theorem tooWide_iff {s : State} {n : ChId} {v : Int} :
    s.tooWide n v = true ↔ ∃ f ∈ s.freqsAt (excOf v), ∃ b, bankAbove s.reg n b f = true := by
  unfold State.tooWide
  rw [List.any_eq_true]
  refine exists_congr fun f => and_congr_right fun _ => ?_
  rw [Bool.or_eq_true, Bool.exists_bool]

theorem checkExcSel_eq (s : State) (n : ChId) (v : Int) :
    checkExcSel n s (overlay s.reg [(Reg.CH_EXC_SEL n, v)]) (Reg.CH_EXC_SEL n) v =
      (do need (!s.tooWide n v) nakHigh; need (s.cal[n].state = .idle) nakCond) := by
  unfold checkExcSel State.tooWide
  simp only [bankAbove_overlay_EXC_SEL]

/-- The routing's own effect: a channel that is on and changes its exciter settles cold. -/
def State.rerouted (s : State) (n : ChId) : State :=
  s.modWatch n fun w => { w with perWhole := false, perFresh := false, actS := 0, actC := 0 }

/-- What a channel's cold settle after a change of exciter leaves. -/
theorem enterCold_reroutes (s : State) (n : ChId) (r : Nat) :
    (s.enterCold n r).front[n].settle = .waiting ∧ (s.enterCold n r).front[n].warm = false ∧
    (s.enterCold n r).ch[n].state = .settle ∧ (s.enterCold n r).ch[n].reason = r ∧
    (s.enterCold n r).ch[n].loop = s.ch[n].loop ∧ ∀ m, m ≠ n → (s.enterCold n r).ch[m] = s.ch[m] := by
  have hl := enterCold_lane s n r
  have hshift : (s.shifted n .settle r).ch[n] = { s.ch[n] with state := .settle, reason := r } := modCh_self s n _
  have hself := modFront_self (s.enterCh n .settle r) n fun f =>
    { f with settle := .waiting, warm := false, settlePeriods := 0, settleClean := false }
  refine ⟨congrArg Front.settle hself, congrArg Front.warm hself, ?_, ?_, ?_, fun m hm => ((hl.others m hm).1).trans (modCh_ne s _ hm)⟩
  · rw [hl.chan, hshift]
  · rw [hl.chan, hshift]
  · rw [hl.chan, hshift]

/-- What the routing leaves beside its register. -/
structure Rerouted (s t : State) (n : ChId) : Prop where
  frame : t = { s with regs := t.regs, ch := t.ch, watch := t.watch, front := t.front, sched := t.sched }
  regs : s.SameRegs t [Reg.CH_INJ_ABORT n]
  others : ∀ m, m ≠ n → t.ch[m] = s.ch[m] ∧ t.front[m] = s.front[m] ∧ t.watch[m] = s.watch[m]

theorem rerouted_cold {s : State} {n : ChId} (hc : s.cal[n].state = .idle) :
    Rerouted s ((s.rerouted n).enterCold n 2) n := by
  have hl := enterCold_lane (s.rerouted n) n 2
  have hcal : ((s.rerouted n).enterCold n 2).cal = s.cal := hl.cal (by change s.cal[n].state ≠ _; rw [hc]; decide)
  generalize (s.rerouted n).enterCold n 2 = t at *
  refine ⟨?_, fun k hk => hl.regs k hk, fun m hm => ?_⟩
  · have hparts := hl.parts
    rw [hcal] at hparts
    exact hparts.trans rfl
  · obtain ⟨h₁, h₂, h₃⟩ := hl.others m hm
    exact ⟨h₁.trans (modCh_ne (s.rerouted n) _ hm), h₂, h₃.trans (modWatch_ne s _ hm)⟩

theorem applyExcSel_reroutes (s : State) (n : ChId) (k : Key) (old v : Int) (hc : s.cal[n].state = .idle) :
    Rerouted s (applyExcSel n s k old v) n ∧
    (s.ch[n].state = .off ∨ old = v → (applyExcSel n s k old v).ch = s.ch ∧ (applyExcSel n s k old v).front = s.front) ∧
    (s.ch[n].state ≠ .off → old ≠ v → applyExcSel n s k old v = (s.rerouted n).enterCold n 2) := by
  have hstay : Rerouted s s n := ⟨rfl, fun _ _ => rfl, fun _ _ => ⟨rfl, rfl, rfl⟩⟩
  have hmark : Rerouted s (s.rerouted n) n := ⟨rfl, fun _ _ => rfl, fun _ hm => ⟨rfl, rfl, modWatch_ne s _ hm⟩⟩
  by_cases hv : old = v
  · have happly : applyExcSel n s k old v = s := if_pos hv
    rw [happly]
    exact ⟨hstay, fun _ => ⟨rfl, rfl⟩, fun _ h => absurd hv h⟩
  · by_cases ho : s.ch[n].state = .off
    · have happly : applyExcSel n s k old v = s.rerouted n := (if_neg hv).trans (if_neg (not_not.2 ho))
      rw [happly]
      exact ⟨hmark, fun _ => ⟨rfl, rfl⟩, fun h => absurd ho h⟩
    · have happly : applyExcSel n s k old v = (s.rerouted n).enterCold n 2 := (if_neg hv).trans (if_pos ho)
      rw [happly]
      exact ⟨rerouted_cold hc, fun h => (h.elim ho hv).elim, fun _ _ => rfl⟩

theorem excSel_routes {p : Port} {n : ChId} {v : Int} {s : State} (c : s.Calm)
    (ha : s.Admits p (Reg.CH_EXC_SEL n) (dataAt (Reg.CH_EXC_SEL n) v) v)
    (hw : ∀ f ∈ s.freqsAt (excOf v), ∀ b, bankAbove s.reg n b f = false) (hc : s.cal[n].state = .idle) :
    ∃ t, exec (.chExcSelWrite p n v) s = .next t ∧ t.reg (Reg.CH_EXC_SEL n) = v ∧
      t.reg Reg.CFG_GEN = (s.reg Reg.CFG_GEN + 1) % 2 ^ 32 ∧
      s.SameRegs t [Reg.CH_EXC_SEL n, Reg.CFG_GEN, Reg.CH_INJ_ABORT n] ∧
      t = { s.beat p with regs := t.regs, ch := t.ch, watch := t.watch, front := t.front, sched := t.sched } ∧
      (∀ m, m ≠ n → t.ch[m] = s.ch[m] ∧ t.front[m] = s.front[m] ∧ t.watch[m] = s.watch[m]) ∧
      (s.ch[n].state = .off ∨ s.reg (Reg.CH_EXC_SEL n) = v → t.ch = s.ch ∧ t.front = s.front) ∧
      (s.ch[n].state ≠ .off → s.reg (Reg.CH_EXC_SEL n) ≠ v → t.ch[n].state = .settle ∧ t.ch[n].reason = 2 ∧
        t.ch[n].loop = s.ch[n].loop ∧ t.front[n].settle = .waiting ∧ t.front[n].warm = false) := by
  obtain ⟨hgen, -, hsel, hcfg, -⟩ := selKeys n
  have hfit : (s.beat p).tooWide n v = false := by
    rw [Bool.eq_false_iff, Ne, tooWide_iff]
    rintro ⟨f, hf, b, hb⟩
    exact absurd ((hw f hf b).symm.trans hb) (by decide)
  have hcheck : checkExcSel n (s.beat p) (overlay (s.beat p).reg [(Reg.CH_EXC_SEL n, v)]) (Reg.CH_EXC_SEL n) v = .ok () := by
    rw [checkExcSel_eq, need_true _ (by rw [hfit]; rfl), need_true _ (decide_eq_true (show (s.beat p).cal[n].state = .idle from hc))]
    rfl
  have heff := effVisible_ok (apply := applyExcSel n) hcheck
  obtain ⟨u, hu⟩ : ∃ u, u = (s.beat p).setReg (Reg.CH_EXC_SEL n) v := ⟨_, rfl⟩
  have hframe : u = { s.beat p with regs := u.regs } := by rw [hu]; rfl
  have hreg : u.reg (Reg.CH_EXC_SEL n) = v ∧ ∀ j, j ≠ Reg.CH_EXC_SEL n → u.reg j = s.reg j := by
    rw [hu]
    exact ⟨State.reg_setReg _ _ _, fun j hj => State.reg_setReg_ne (s.beat p) v hj.symm⟩
  rw [← hu] at heff
  clear hu
  have hch : u.ch = s.ch := by rw [hframe]; rfl
  have hfront : u.front = s.front := by rw [hframe]; rfl
  have hwatch : u.watch = s.watch := by rw [hframe]; rfl
  obtain ⟨⟨hparts, hregs, hothers⟩, hstays, hcold⟩ := applyExcSel_reroutes u n (Reg.CH_EXC_SEL n)
    (s.reg (Reg.CH_EXC_SEL n)) v (by rw [hframe]; exact hc)
  have hsettles := enterCold_reroutes (u.rerouted n) n 2
  change effVisible _ _ _ _ _ = .ok (applyExcSel n u (Reg.CH_EXC_SEL n) (s.reg (Reg.CH_EXC_SEL n)) v).cfgGen at heff
  generalize applyExcSel n u (Reg.CH_EXC_SEL n) (s.reg (Reg.CH_EXC_SEL n)) v = t at *
  have hquiet : t.floor.request = false := by rw [hparts, hframe]; exact c.1
  refine ⟨t.cfgGen, hostWrite_next ha heff hquiet, ?_, ?_, fun j hj => ?_, ?_, fun m hm => ?_, fun h => ?_, fun h₁ h₂ => ?_⟩
  · rw [State.cfgGen, State.reg_setReg_ne _ _ hgen.symm, hregs _ hsel, hreg.1]
  · rw [State.cfgGen, State.reg_setReg, hregs _ hcfg, hreg.2 _ hgen.symm]
  · rw [List.mem_cons, List.mem_cons, not_or, not_or] at hj
    rw [State.cfgGen, State.reg_setReg_ne _ _ (Ne.symm hj.2.1), hregs _ hj.2.2, hreg.2 _ hj.1]
  · rw [hparts, hframe]
    rfl
  · obtain ⟨g₁, g₂, g₃⟩ := hothers m hm
    exact ⟨by rw [← hch]; exact g₁, by rw [← hfront]; exact g₂, by rw [← hwatch]; exact g₃⟩
  · obtain ⟨g₁, g₂⟩ := hstays (by rw [hch]; exact h)
    exact ⟨g₁.trans hch, g₂.trans hfront⟩
  · have hcold' := hcold (by rw [hch]; exact h₁) h₂
    obtain ⟨g₁, g₂, g₃, g₄, g₅, -⟩ := hsettles
    rw [← hcold'] at g₁ g₂ g₃ g₄ g₅
    refine ⟨g₃, g₄, g₅.trans ?_, g₁, g₂⟩
    change u.ch[n].loop = _
    rw [hch]

theorem excSel_refused {p : Port} {n : ChId} {v : Int} {s : State} (c : s.Calm)
    (ha : s.Admits p (Reg.CH_EXC_SEL n) (dataAt (Reg.CH_EXC_SEL n) v) v) :
    ((∀ f ∈ s.freqsAt (excOf v), ∀ b, bankAbove s.reg n b f = false) → s.cal[n].state ≠ .idle →
      ∃ t, exec (.chExcSelWrite p n v) s = .next t ∧ s.RefusedAs t p (Reg.CH_EXC_SEL n) nakCond) ∧
    ((∃ f ∈ s.freqsAt (excOf v), ∃ b, bankAbove s.reg n b f = true) →
      ∃ t, exec (.chExcSelWrite p n v) s = .next t ∧ s.RefusedAs t p (Reg.CH_EXC_SEL n) nakHigh) := by
  refine ⟨fun hw hc => ?_, fun hw => ?_⟩
  · have hfit : (s.beat p).tooWide n v = false := by
      rw [Bool.eq_false_iff, Ne, tooWide_iff]
      rintro ⟨f, hf, b, hb⟩
      exact absurd ((hw f hf b).symm.trans hb) (by decide)
    refine hostWrite_refusedAs c ha (effVisible_error ?_) (by decide) (by decide)
    rw [checkExcSel_eq, need_true _ (by rw [hfit]; rfl), need_false _ (decide_eq_false (show (s.beat p).cal[n].state ≠ .idle from hc))]
    rfl
  · have hwide : (s.beat p).tooWide n v = true := tooWide_iff.2 hw
    refine hostWrite_refusedAs c ha (effVisible_error ?_) (by decide) (by decide)
    rw [checkExcSel_eq, need_false _ (by rw [hwide]; rfl)]
    rfl

/-- Settles O19: a restart passes through HELD or OFF, and another exciter takes its channel into a cold SETTLE. -/
theorem restartAndRoutingOfExciters : Obligations.RestartAndRoutingOfExciters := by
  refine ⟨fun p e s c ha => ⟨fun hs hi => ⟨excRestart_held c ha hs hi, excRestart_idle c ha hs hi, excRestart_starts c ha hs hi⟩,
    excRestart_refused c ha⟩, fun p n v s c ha => ⟨excSel_routes c ha, excSel_refused c ha⟩⟩

end Sys2Proof.Machine
end

section
/-!
PROOFS. The seat mode, the record grid and the links (R229, R238 to R240).
-/

namespace Sys2Proof.Machine

set_option Elab.async false

/-! ### LNKk_DOWN (R238) -/

/-- A level leaves its source's condition as it is. -/
theorem level_cond (s : State) {id : Nat} (b : Bool) (ha : assigned id = true) : ((s.level id b).src id).cond = b := by
  unfold State.level
  cases b with
  | true => exact raise_cond s ha
  | false => exact gone_cond s id

theorem linkNeeded_congr {s t : State} (h₁ : t.reg Reg.RED_MODE = s.reg Reg.RED_MODE)
    (h₂ : t.reg Reg.RED_LNK1_MODE = s.reg Reg.RED_LNK1_MODE) (k : Fin 2) : t.linkNeeded k = s.linkNeeded k := by
  unfold State.linkNeeded State.linkPartner
  rw [h₁, h₂]

theorem RaiseFrame.linkNeeded {s t : State} (h : RaiseFrame s t) (k : Fin 2) : t.linkNeeded k = s.linkNeeded k :=
  linkNeeded_congr (h.reg _ (by decide)) (h.reg _ (by decide)) k

/-- LNKk_DOWN of both ports. -/
def State.linkDown (s : State) (k : Fin 2) : Bool := s.linkNeeded k && decide (s.lnk[k].state = .down)

theorem RaiseFrame.linkDown {s t : State} (h : RaiseFrame s t) (k : Fin 2) : t.linkDown k = s.linkDown k := by
  unfold State.linkDown
  rw [h.linkNeeded, h.lnk]

theorem showLinks_eq (s : State) : s.showLinks = (s.level 896 (s.linkDown 0)).level 897 (s.linkDown 1) :=
  congrArg (State.level (s.level 896 (s.linkDown 0)) 897) ((level_frame s 896 (s.linkDown 0)).linkDown 1)

theorem showLinks_shows {s : State} (c : s.Calm) (m₀ : s.Mild 896) (m₁ : s.Mild 897) :
    RaiseFrame s s.showLinks ∧ s.showLinks.Calm ∧ ∀ k : Fin 2, (s.showLinks.src (896 + k.val)).cond = s.linkDown k := by
  rw [showLinks_eq]
  obtain ⟨u, hu⟩ : ∃ u, u = s.level 896 (s.linkDown 0) := ⟨_, rfl⟩
  have hframe : RaiseFrame s u := hu ▸ level_frame s 896 _
  have hcalm : u.Calm := hu ▸ level_calm s 896 _ (.inr m₀) c
  have hfirst : (u.src 896).cond = s.linkDown 0 := hu ▸ level_cond s _ (by decide)
  have hsecond : u.src 897 = s.src 897 := hu ▸ level_src_ne s _ (by decide) (by decide)
  rw [← hu]
  refine ⟨hframe.trans (level_frame u 897 _), level_calm u 897 _ (.inr (hframe.mild (by decide) hsecond m₁)) hcalm, Fin.forall_fin_two.2 ⟨?_, ?_⟩⟩
  · exact (congrArg FSrc.cond (level_src_ne u _ (by decide) (by decide))).trans hfirst
  · exact level_cond u _ (by decide)

/-! ### RED_MODE and the grid (R229, R240) -/

theorem redModeWrite_shows {p : Port} {v : Int} {s : State} (c : s.Calm) (ha : s.Admits p Reg.RED_MODE (dataAt Reg.RED_MODE v) v)
    (m₀ : s.Mild 896) (m₁ : s.Mild 897) :
    ∃ t, exec (.redModeWrite p v) s = .next t ∧ t.reg Reg.RED_MODE = v ∧
      t.reg Reg.CFG_GEN = (s.reg Reg.CFG_GEN + 1) % 2 ^ 32 ∧
      s.SameRegs t [Reg.RED_MODE, Reg.CFG_GEN, Reg.FC_LOG_LOST] ∧ RaiseFrame { s.beat p with regs := t.regs } t ∧
      ∀ k : Fin 2, (t.src (896 + k.val)).cond = (t.linkNeeded k && decide (t.lnk[k].state = .down)) := by
  have hplain : Reg.RED_MODE < 0x500000 ∨ 0x550000 ≤ Reg.RED_MODE := by decide
  have heff := effVisible_ok (check := noCheck) (apply := applyRedMode) (k := Reg.RED_MODE) (v := v) (s := s.beat p) rfl
  obtain ⟨u, hu⟩ : ∃ u, u = (s.beat p).setReg Reg.RED_MODE v := ⟨_, rfl⟩
  have hregs : u.reg Reg.RED_MODE = v ∧ ∀ j, j ≠ Reg.RED_MODE → u.reg j = s.reg j := by
    rw [hu]
    exact ⟨State.reg_setReg _ _ _, fun j hj => State.reg_setReg_ne (s.beat p) v hj.symm⟩
  have hparts : u = { s.beat p with regs := u.regs } := by rw [hu]; rfl
  obtain ⟨hframe, hcalm, hshown⟩ := showLinks_shows (s := u) (hu ▸ setReg_calm (s.beat p) hplain v c)
    (hu ▸ setReg_mild (s.beat p) hplain v (by decide) m₀) (hu ▸ setReg_mild (s.beat p) hplain v (by decide) m₁)
  change effVisible _ _ _ _ _ = .ok (applyRedMode ((s.beat p).setReg Reg.RED_MODE v) _ _ v).cfgGen at heff
  rw [← hu] at heff
  change effVisible _ _ _ _ _ = .ok u.showLinks.cfgGen at heff
  generalize u.showLinks = t at *
  have hneed : ∀ k, t.cfgGen.linkNeeded k = t.linkNeeded k := fun k =>
    linkNeeded_congr (State.reg_setReg_ne t _ (by decide)) (State.reg_setReg_ne t _ (by decide)) k
  refine ⟨t.cfgGen, hostWrite_next ha heff hcalm.1, ?_, ?_, fun j hj => ?_, ?_, fun k => ?_⟩
  · rw [State.cfgGen, State.reg_setReg_ne _ _ (by decide), hframe.reg _ (by decide), hregs.1]
  · rw [State.cfgGen, State.reg_setReg, hframe.reg _ (by decide), hregs.2 _ (by decide)]
  · rw [List.mem_cons, List.mem_cons, List.mem_singleton, not_or, not_or] at hj
    rw [State.cfgGen, State.reg_setReg_ne _ _ (Ne.symm hj.2.1), hframe.reg _ hj.2.2, hregs.2 _ hj.1]
  · rw [hparts] at hframe
    exact { hframe with reg := fun _ _ => rfl, wf := id }
  · rw [hneed, hframe.linkNeeded]
    refine (hshown k).trans ?_
    change _ = (_ && decide (t.lnk[k].state = .down))
    rw [hframe.lnk]
    rfl

theorem redCycle_keys (first : Bool) : (if first then Reg.RED_CYCLE_FIRST else Reg.RED_CYCLE) ≠ Reg.CFG_GEN := by
  decide +revert

/-- The latch that the visible grid gives next. -/
theorem setGrid_eq (s : State) : s.setGrid = s.modRed fun r => { r with
    nextLatch := (gridNext (t32 (s.reg Reg.RED_CYCLE_FIRST)) (s.regN Reg.RED_CYCLE) s.timeNow).1
    latchNo := (gridNext (t32 (s.reg Reg.RED_CYCLE_FIRST)) (s.regN Reg.RED_CYCLE) s.timeNow).2 } := rfl

theorem redCycleWrite_grids {p : Port} {first : Bool} {v : Int} {s : State} {k : Key} (c : s.Calm)
    (hk : k = if first then Reg.RED_CYCLE_FIRST else Reg.RED_CYCLE) (ha : s.Admits p k (dataAt k v) v) :
    ∃ t, exec (.redCycleWrite p first v) s = .next t ∧ s.Visible t k v ∧
      (t.red.nextLatch, t.red.latchNo) = gridNext (t32 (t.reg Reg.RED_CYCLE_FIRST)) (t.regN Reg.RED_CYCLE) s.timeNow ∧
      t = { s.beat p with regs := t.regs, red := { s.red with nextLatch := t.red.nextLatch, latchNo := t.red.latchNo } } := by
  have heff := effVisible_ok (check := noCheck) (apply := applyGrid) (k := k) (v := v) (s := s.beat p) rfl
  have hgen : k ≠ Reg.CFG_GEN := hk ▸ redCycle_keys first
  obtain ⟨u, hu⟩ : ∃ u, u = (s.beat p).setReg k v := ⟨_, rfl⟩
  have happly : applyGrid ((s.beat p).setReg k v) k ((s.beat p).reg k) v = u.setGrid := by rw [hu]; rfl
  rw [happly, setGrid_eq] at heff
  have hexec : exec (.redCycleWrite p first v) s = hostSet p k v (effVisible noCheck applyGrid k) s := by rw [hk]; rfl
  have hkeep : ∀ j, j ≠ Reg.CFG_GEN → u.cfgGen.reg j = u.reg j := fun j hj => State.reg_setReg_ne u _ hj.symm
  refine ⟨_, hexec.trans (hostWrite_next ha heff (by rw [hu]; exact c.1)), visible_cfgGen hgen fun j => by rw [hu]; rfl, ?_, ?_⟩
  · have hfirst := hkeep Reg.RED_CYCLE_FIRST (by decide)
    have hcycle := hkeep Reg.RED_CYCLE (by decide)
    have hnow : u.timeNow = s.timeNow := by rw [hu]; rfl
    have hN : u.cfgGen.regN Reg.RED_CYCLE = u.regN Reg.RED_CYCLE := congrArg Int.toNat hcycle
    change gridNext (t32 (u.reg Reg.RED_CYCLE_FIRST)) (u.regN Reg.RED_CYCLE) u.timeNow =
      gridNext (t32 (u.cfgGen.reg Reg.RED_CYCLE_FIRST)) (u.cfgGen.regN Reg.RED_CYCLE) s.timeNow
    rw [hfirst, hN, hnow]
  · rw [hu]
    rfl

/-! ### LNK_UP and LNK_DOWN (R238) -/

theorem modLnk_self (s : State) (k : Fin 2) (f : Link → Link) : (s.modLnk k f).lnk[k] = f s.lnk[k] := vmod_self s.lnk k f

theorem modLnk_ne (s : State) {k j : Fin 2} (f : Link → Link) (h : j ≠ k) : (s.modLnk k f).lnk[j] = s.lnk[j] :=
  vmod_ne s.lnk f h.symm

/-- The conditions of E3 read a partner's presence and OKAY line alone. -/
theorem e3Now_congr {s : State} {v : Vector Partner 2} {q : Fin 2} (h₁ : v[q].okin = s.pt[q].okin)
    (h₂ : v[q].present = s.pt[q].present) : State.e3Now { s with pt := v } q = s.e3Now q := by
  unfold State.e3Now
  dsimp only
  rw [h₁, h₂]
  rfl

/-- The evidence E3 of a list of partners, each by its own conditions. -/
theorem each_noteE3 (l : List (Fin 2)) (s : State) :
    s.each l State.noteE3 = { s with pt := (s.each l State.noteE3).pt } ∧
    ∀ q : Fin 2, (s.each l State.noteE3).pt[q] = { s.pt[q] with e3 := if q ∈ l ∧ s.e3Now q = true then some s.ext else s.pt[q].e3 } := by
  induction l generalizing s with
  | nil => exact ⟨rfl, fun q => by simp [State.each]⟩
  | cons a l ih =>
    obtain ⟨hframe, hpt⟩ := ih (s.noteE3 a)
    have hnow : ∀ q, (s.noteE3 a).e3Now q = s.e3Now q := fun q => by
      rw [noteE3_pt]
      by_cases hq : q = a
      · subst hq
        have hself := modPt_self s q fun x => { x with e3 := if s.e3Now q = true then some s.ext else x.e3 }
        have hokin := congrArg Partner.okin hself
        have hpresent := congrArg Partner.present hself
        exact e3Now_congr hokin hpresent
      · exact e3Now_congr (congrArg Partner.okin (modPt_ne s _ hq)) (congrArg Partner.present (modPt_ne s _ hq))
    have hext : (s.noteE3 a).ext = s.ext := by rw [noteE3_pt]; rfl
    have hcons : s.each (a :: l) State.noteE3 = (s.noteE3 a).each l State.noteE3 := rfl
    rw [hcons]
    refine ⟨?_, fun q => ?_⟩
    · refine hframe.trans ?_
      rw [noteE3_pt]
      rfl
    · rw [hpt, hnow, hext]
      by_cases hq : q = a
      · subst hq
        rw [noteE3_pt, modPt_self]
        by_cases hl : q ∈ l <;> by_cases he : s.e3Now q = true <;> simp [hl, he]
      · rw [noteE3_pt, modPt_ne _ _ hq]
        simp [hq]

theorem lnkUp_aligns {k : Fin 2} {s : State} (c : s.Calm) (ha : s.alive = true) (hs : s.lnk[k].state ≠ .up) :
    ∃ t, exec (.lnkUp k) s = .next t ∧ RaiseFrame { s with lnk := t.lnk, pt := t.pt } t ∧
      t.lnk[k] = { s.lnk[k] with state := .up, first := true } ∧ (∀ j, j ≠ k → t.lnk[j] = s.lnk[j]) ∧
      (t.src (896 + k.val)).cond = false ∧
      ∀ q : Fin 2, t.pt[q] =
        { s.pt[q] with e3 := if s.hasPartner q = true ∧ s.e3Now q = true then some s.ext else s.pt[q].e3 } := by
  obtain ⟨hparts, hpt⟩ := each_noteE3 s.partners s
  have hexec : exec (.lnkUp k) s = done (((s.each s.partners State.noteE3).modLnk k fun l =>
      { l with state := .up, first := true }).gone (896 + k.val)) :=
    if_pos (by rw [ha, decide_eq_true hs]; rfl)
  generalize s.each s.partners State.noteE3 = u at *
  obtain ⟨w, hw⟩ : ∃ w, w = u.modLnk k fun l => { l with state := .up, first := true } := ⟨_, rfl⟩
  have hlnk : u.lnk = s.lnk := by rw [hparts]
  rw [← hw] at hexec
  have hframe := gone_frame w (896 + k.val)
  have hwparts : w = { s with lnk := w.lnk, pt := w.pt } := by
    rw [hw, hparts]
    rfl
  refine ⟨_, hexec.trans (done_quiet ?_), ?_, ?_, fun j hj => ?_, gone_cond _ _, fun q => ?_⟩
  · rw [gone_floor, hwparts]
    exact c.1
  · rw [hframe.lnk, hframe.pt]
    rw [hwparts] at hframe
    rw [← hwparts] at hframe
    rw [← hwparts]
    exact hframe
  · rw [hframe.lnk, hw, modLnk_self, hlnk]
  · rw [hframe.lnk, hw, modLnk_ne _ _ hj, hlnk]
  · rw [hframe.pt, hw]
    refine (hpt q).trans ?_
    simp only [State.hasPartner, List.contains_iff_mem]

theorem lnkDown_keys (k : Fin 2) : Reg.LNK_DOWN_CNT k ≠ Reg.LNK_CODE_ERR_CNT k ∧ Reg.LNK_DOWN_CNT k ≠ Reg.FC_LOG_LOST ∧
    Reg.LNK_CODE_ERR_CNT k ≠ Reg.FC_LOG_LOST ∧ (Reg.LNK_DOWN_CNT k < 0x500000 ∨ 0x550000 ≤ Reg.LNK_DOWN_CNT k) ∧
    (Reg.LNK_CODE_ERR_CNT k < 0x500000 ∨ 0x550000 ≤ Reg.LNK_CODE_ERR_CNT k) ∧
    Reg.RED_MODE ∉ [Reg.LNK_CODE_ERR_CNT k, Reg.LNK_DOWN_CNT k] ∧
    Reg.RED_LNK1_MODE ∉ [Reg.LNK_CODE_ERR_CNT k, Reg.LNK_DOWN_CNT k] := by decide +revert

/-- A port that goes DOWN, before its source follows: counted, with the code errors of its line. -/
def State.dropped (s : State) (k : Fin 2) : State :=
  ((s.codeErrors k).modLnk k fun l => { l with state := .down }).bump (Reg.LNK_DOWN_CNT k)

theorem dropped_parts (s : State) (k : Fin 2) :
    s.dropped k = { s with lnk := (s.dropped k).lnk, regs := (s.dropped k).regs, fresh := (s.dropped k).fresh } := by
  have h : ∃ l r f, s.dropped k = { s with lnk := l, regs := r, fresh := f } := ⟨_, _, _, rfl⟩
  obtain ⟨l, r, f, h⟩ := h
  rw [h]

theorem dropped_drops (s : State) (k : Fin 2) :
    (s.dropped k).reg (Reg.LNK_DOWN_CNT k) = satInc 32 (s.reg (Reg.LNK_DOWN_CNT k)) ∧
    (s.dropped k).reg (Reg.LNK_CODE_ERR_CNT k) = min (s.reg (Reg.LNK_CODE_ERR_CNT k) + Int.ofNat (Config.unstated s.fresh)) (2 ^ 32 - 1) ∧
    s.SameRegs (s.dropped k) [Reg.LNK_CODE_ERR_CNT k, Reg.LNK_DOWN_CNT k] ∧
    (s.dropped k).lnk[k] = { s.lnk[k] with state := .down } ∧ ∀ j, j ≠ k → (s.dropped k).lnk[j] = s.lnk[j] := by
  obtain ⟨hne, -⟩ := lnkDown_keys k
  unfold State.dropped State.codeErrors
  refine ⟨?_, ?_, fun j hj => ?_, modLnk_self _ k _, fun j hj => modLnk_ne _ _ hj⟩
  · rw [State.reg_bump]
    exact congrArg (satInc 32) (State.reg_setReg_ne s.draw _ hne.symm)
  · rw [State.reg_bump_ne _ hne]
    exact State.reg_setReg s.draw _ _
  · rw [List.mem_cons, List.mem_singleton, not_or] at hj
    rw [State.reg_bump_ne _ (Ne.symm hj.2)]
    exact State.reg_setReg_ne s.draw _ (Ne.symm hj.1)

theorem lnkDown_drops {k : Fin 2} {s : State} (c : s.Calm) (ha : s.alive = true) (hs : s.lnk[k].state ≠ .down)
    (m₀ : s.Mild 896) (m₁ : s.Mild 897) :
    ∃ t, exec (.lnkDown k) s = .next t ∧ RaiseFrame { s with lnk := t.lnk, regs := t.regs, fresh := t.fresh } t ∧
      t.lnk[k] = { s.lnk[k] with state := .down } ∧ (∀ j, j ≠ k → t.lnk[j] = s.lnk[j]) ∧
      t.reg (Reg.LNK_DOWN_CNT k) = satInc 32 (s.reg (Reg.LNK_DOWN_CNT k)) ∧
      (∃ j : Nat, t.reg (Reg.LNK_CODE_ERR_CNT k) = min (s.reg (Reg.LNK_CODE_ERR_CNT k) + Int.ofNat j) (2 ^ 32 - 1)) ∧
      s.SameRegs t [Reg.LNK_DOWN_CNT k, Reg.LNK_CODE_ERR_CNT k, Reg.FC_LOG_LOST] ∧
      (t.src (896 + k.val)).cond = s.linkNeeded k := by
  obtain ⟨-, hdl, hel, hdp, hep, hmode, hmode1⟩ := lnkDown_keys k
  obtain ⟨hcnt, hcode, hregs, hself, hother⟩ := dropped_drops s k
  have hparts := dropped_parts s k
  have hexec : exec (.lnkDown k) s = done (s.dropped k).showLinks := if_pos (by rw [ha, decide_eq_true hs]; rfl)
  have hcalm : (s.dropped k).Calm := bump_calm _ hdp (setReg_calm s.draw hep _ c)
  have hmild : ∀ id, id < 1280 → s.Mild id → (s.dropped k).Mild id := fun id hid m =>
    bump_mild ((s.codeErrors k).modLnk k fun l => { l with state := .down }) hdp hid (setReg_mild s.draw hep _ hid m)
  have m₀' := hmild 896 (by decide) m₀
  have m₁' := hmild 897 (by decide) m₁
  generalize s.dropped k = u at *
  obtain ⟨hframe, hc, hshown⟩ := showLinks_shows hcalm m₀' m₁'
  generalize u.showLinks = t at *
  refine ⟨_, hexec.trans (done_calm _ hc), ?_, by rw [hframe.lnk]; exact hself, fun j hj => by rw [hframe.lnk]; exact hother j hj,
    (hframe.reg _ hdl).trans hcnt, ⟨_, (hframe.reg _ hel).trans hcode⟩, fun j hj => ?_, (hshown k).trans ?_⟩
  · rw [hframe.lnk, hframe.fresh]
    rw [hparts] at hframe
    exact { hframe with reg := fun _ _ => rfl, wf := id }
  · rw [List.mem_cons, List.mem_cons, List.mem_singleton, not_or, not_or] at hj
    refine (hframe.reg _ hj.2.2).trans (hregs j ?_)
    rw [List.mem_cons, List.mem_singleton, not_or]
    exact ⟨hj.2.1, hj.1⟩
  · unfold State.linkDown
    rw [hself, linkNeeded_congr (hregs _ hmode) (hregs _ hmode1)]
    simp

/-- Settles O45: LNKk_DOWN follows `State.linkDown`, the latch its grid, and a port its line. -/
theorem seatModeGridAndLinksFollowTheirCommands : Obligations.SeatModeGridAndLinksFollowTheirCommands :=
  ⟨fun _ _ _ c ha m₀ m₁ => redModeWrite_shows c ha m₀ m₁, fun _ _ _ _ _ c hk ha => redCycleWrite_grids c hk ha,
    fun _ _ c ha hs => lnkUp_aligns c ha hs, fun _ _ c ha hs m₀ m₁ => lnkDown_drops c ha hs m₀ m₁⟩

end Sys2Proof.Machine
end

section
/-!
PROOFS. Two frames that one handover drops, beside a rail error of RED_HANDOVER_DROP whose configuration has changed since
(R217, R249).
-/

namespace Sys2Proof.Machine

set_option Elab.async false

/-- A frame marked ACTIVE whose window has passed. -/
def oldFrame : Desc := { raw := [], frame := [], instant := 0, active := true, header := -(10 ^ 12) }

/-- Two such frames wait. RED_HANDOVER_DROP is ACTIVE by a rail error, class CORRECTED and reaction NONE in effect; its
visible reaction is DEVICE-SAFE, which applies once the source is IDLE. -/
def twoOldFrames : State :=
  { openState with
    tq := (Vector.replicate 16 {}).set 0 { descs := [oldFrame, oldFrame] }
    fc := { openState.fc with srcs := [(911, { state := .active, cond := true, rail := true, eff := some (0, 0, false) })] }
    regs := [(Reg.FLT_REACTION 911, 3)] }

theorem twoOldFrames_calm : twoOldFrames.Calm := by
  unfold State.Calm
  decide +kernel

theorem twoOldFrames_mild : twoOldFrames.Mild 911 := by
  unfold State.Mild
  decide +kernel

/-- Refutes O49: the first frame's pulse ends the rail error, and the second one's asks for a DEVICE-SAFE entry. -/
theorem not_claimsAreReleasedYieldedAndMissed : ¬ Obligations.ClaimsAreReleasedYieldedAndMissed := by
  have hshown : shown (exec (.handoverDrop 0) twoOldFrames) (fun t => t.floor.deviceSafe) = some true := by decide +kernel
  intro h
  obtain ⟨-, -, -, -, hdrop⟩ := h
  obtain ⟨t, hexec, -, hframe, -⟩ := hdrop 0 twoOldFrames _ twoOldFrames_calm (by decide +kernel) twoOldFrames_mild rfl
  have hkept : t.floor.deviceSafe = false := hframe.deviceSafe
  rw [hexec] at hshown
  exact absurd (hkept.symm.trans (Option.some.inj hshown)) (by decide)

end Sys2Proof.Machine
end

section
/-!
PROOFS. Network time by its writes, and what the zero crossings of an SCLK edge leave of it (R301, R302, R305).
-/

namespace Sys2Proof.Machine

set_option Elab.async false

/-! ### What keeps the time base -/

/-- The model's time base and the network time. -/
def State.clock (s : State) : Nat × TimeSt := (s.now, s.time)

theorem SafeFrame.clock {s t : State} (h : SafeFrame s t) : t.clock = s.clock := Prod.ext h.now h.time

theorem LanesFrame.clock {s t : State} (h : LanesFrame s t) : t.clock = s.clock := by rw [h.parts]; rfl

theorem clock_each {β : Type} (f : State → β → State) (hf : ∀ u b, (f u b).clock = u.clock) (l : List β) (s : State) :
    (s.each l f).clock = s.clock := by
  induction l generalizing s with
  | nil => rfl
  | cons b l ih => exact (ih (f s b)).trans (hf s b)

theorem ite_clock {c : Prop} [Decidable c] {s t u : State} (h : t.clock = s.clock) (g : u.clock = s.clock) :
    (if c then t else u).clock = s.clock := by
  split
  · exact h
  · exact g

theorem leaveTrack_clock (s : State) (n : ChId) : (s.leaveTrack n).clock = s.clock :=
  (LaneFrame.refl n s).leaveTrack.lanes.clock

theorem enterCoast_clock (s : State) (n : ChId) (r : Nat) : (s.enterCh n .coast r).clock = s.clock := by
  have hleave : ∀ u : State, u.clock = s.clock → (u.leaveTrack n).clock = s.clock := fun u hu => (leaveTrack_clock u n).trans hu
  unfold State.enterCh
  dsimp only
  refine (LaneFrame.refl n _).probeRecheck.lanes.clock.trans ?_
  change State.clock (if _ then _ else _) = _
  exact ite_clock (hleave _ rfl) rfl

theorem coastFor_clock (s : State) (n : ChId) (r : Nat) : (s.coastFor n r).clock = s.clock := by
  unfold State.coastFor
  split
  · exact enterCoast_clock s n r
  · rfl
  · rfl

theorem rollback_clock (s : State) (n : ChId) : (s.rollback n).clock = s.clock := by
  unfold State.rollback
  split
  · rfl
  · exact ite_clock (pulse_frame _ _).safe.clock rfl

theorem carrierCheck_clock (s : State) (e : ExcId) (n : ChId) : (s.carrierCheck e n).clock = s.clock := by
  have hlevel : ∀ (u : State) id b, u.clock = s.clock → (u.level id b).clock = s.clock := fun u id b hu =>
    (level_frame u id b).safe.clock.trans hu
  have hroll : ∀ u : State, u.clock = s.clock → (u.rollback n).clock = s.clock := fun u hu => (rollback_clock u n).trans hu
  have hcoast : ∀ (u : State) r, u.clock = s.clock → (u.coastFor n r).clock = s.clock := fun u r hu =>
    (coastFor_clock u n r).trans hu
  unfold State.carrierCheck
  refine ite_clock rfl ?_
  extract_lets marked w lim fS fC lost fail live latched raised tracking kept passed rolled checked seen settled
  have hraised : raised.clock = s.clock := hlevel latched _ _ rfl
  have hkept : kept.clock = s.clock := ite_clock hraised hraised
  have hpassed : passed.clock = s.clock := ite_clock hkept hkept
  have hrolled : rolled.clock = s.clock := ite_clock (hroll passed hpassed) hpassed
  have hchecked : checked.clock = s.clock := ite_clock (ite_clock (hcoast rolled _ hrolled) hrolled) rfl
  have hseen : seen.clock = s.clock := ite_clock (hcoast (checked.monTrip n 7 none) _ hchecked) hchecked
  exact ite_clock hseen hseen

/-! ### An SCLK edge (R14, R30, R31) -/

theorem foldEval_clock (s : State) (e : ExcId) : (s.foldEval e).clock = s.clock := (foldEval_frame s e).safe.clock

theorem excStart_clock (s : State) (e : ExcId) : (s.excStart e).clock = s.clock := by
  rw [excStart_eq]
  exact (excChanged_lanes _ e _).clock.trans (foldEval_clock _ e)

theorem excSync_clock (s : State) (e : ExcId) : (s.excSync e).clock = s.clock := by
  unfold State.excSync
  dsimp only
  split
  · exact ite_clock (excStart_clock s e) rfl
  · rfl
  · exact ite_clock rfl rfl
  · rfl
  · rfl

theorem excApply_clock (s : State) (e : ExcId) : (s.excApply e).clock = s.clock := by
  unfold State.excApply
  extract_lets x f changed used folded counted
  have hfolded : folded.clock = s.clock := foldEval_clock used e
  have hcounted : counted.clock = s.clock := ite_clock hfolded hfolded
  exact ite_clock rfl (((excProbes_lanes _ e).clock.trans (excChanged_lanes counted e changed).clock).trans hcounted)

theorem excRamp_clock (s : State) (e : ExcId) : (s.excRamp e).clock = s.clock := by
  unfold State.excRamp
  extract_lets old stepped scaled
  have hscaled : scaled.clock = s.clock := ite_clock (s := s) rfl rfl
  exact ite_clock ((excSync_clock _ e).trans ((gone_frame _ _).safe.clock.trans hscaled)) hscaled

theorem crossing_clock (s : State) (e : ExcId) (half : Bool) : (s.crossing e half).clock = s.clock := by
  have hchannel : ∀ (u : State) n, (((u.carrierCheck e n).settlePeriod n).betaPeriod n).clock = u.clock := fun u n =>
    (ite_clock (s := u) (u := (u.carrierCheck e n).settlePeriod n) (ite_clock (s := u) (carrierCheck_clock u e n) (carrierCheck_clock u e n))
      (ite_clock (s := u) (carrierCheck_clock u e n) (carrierCheck_clock u e n)))
  unfold State.crossing
  extract_lets us applied checked
  have happlied : applied.clock = s.clock := excApply_clock s e
  have hchecked : checked.clock = s.clock := ite_clock happlied ((clock_each _ hchannel us applied).trans happlied)
  refine (clock_each _ (fun u n => ?_) us (checked.excRamp e)).trans ((excRamp_clock checked e).trans hchecked)
  exact ite_clock (s := u) rfl rfl

theorem probeClock_clock (s : State) (e : ExcId) (r : Bool) (c : Option Bool) : (s.probeClock e r c).clock = s.clock := by
  refine clock_each _ (fun u n => ?_) _ s
  exact ite_clock rfl (ite_clock (ite_clock rfl rfl) (ite_clock (s := u) rfl rfl))

theorem excLclk_clock (s : State) (e : ExcId) : (s.excLclk e).clock = s.clock := by
  unfold State.excLclk
  refine ite_clock ((probeClock_clock _ _ _ _).trans ?_) (probeClock_clock s _ _ _)
  split
  · exact crossing_clock (s.modExc e _) _ _
  · rfl

/-- The crossings of an edge leave the time counter to the edge itself. -/
theorem sclkEdge_clock {s : State} (ha : s.alive = true) :
    s.sclkEdge.settled.now = s.now + 1 ∧ s.sclkEdge.settled.time =
      { s.time.add (s.reg Reg.TIME_INC + slewPart s.time.slew) with slew := s.time.slew - slewPart s.time.slew } := by
  have hedge : s.sclkEdge = ({ s with now := s.now + 1 } : State).timeEdge.ddsEdge := if_pos ha
  have hclock : s.sclkEdge.settled.clock = ({ s with now := s.now + 1 } : State).timeEdge.clock := by
    rw [(settled_safe _).1.clock, hedge]
    exact clock_each _ (fun u e => (excLclk_clock _ e).trans (excLclk_clock u e)) _ _
  exact ⟨congrArg Prod.fst hclock, congrArg Prod.snd hclock⟩

/-! ### TIME_STEP (R302, R305) -/

/-- A 64-bit count of 2^32 ns and the nanoseconds below them wraps in its high part. -/
theorem wrapS64_split (a : Int) {r : Int} (h₀ : 0 ≤ r) (h₁ : r < 2 ^ 32) : wrapS 64 (a * 2 ^ 32 + r) = wrapS 32 a * 2 ^ 32 + r := by
  unfold wrapS
  rw [BitVec.toInt_ofInt, BitVec.toInt_ofInt, Int.bmod_def, Int.bmod_def]
  split_ifs <;> omega

/-- The time after a step (R302, R305). -/
def State.steppedTime (s : State) (v : Int) : TimeSt :=
  let n := (extendNs s.timeNow s.time.nref).toNat
  { TimeSt.add { s.time with nref := n } (v * 2 ^ 24) with nref := (Int.ofNat n + v).toNat }

theorem steppedTime_ext {s t : State} {v : Int} (ht : t.time = s.steppedTime v) : t.ext = wrapS 64 (s.ext + v) := by
  have hc := s.time.count.isLt
  have hwraps : t.time.wraps = wrapS 32 (s.time.wraps + (Int.ofNat s.time.count.toNat + v * 2 ^ 24) / 2 ^ 56) := by rw [ht]; rfl
  have hcount : t.time.count = BitVec.ofInt 56 (Int.ofNat s.time.count.toNat + v * 2 ^ 24) := by rw [ht]; rfl
  obtain ⟨y, hy⟩ : ∃ y : Int, y = Int.ofNat (s.time.count.toNat / 2 ^ 24) + v := ⟨_, rfl⟩
  have hnow : Int.ofNat t.timeNow.toNat = y % 2 ^ 32 := by
    rw [timeNow_toNat, hcount, BitVec.toNat_ofInt]
    simp only [Int.ofNat_eq_natCast] at hy ⊢
    omega
  have hcarry : (Int.ofNat s.time.count.toNat + v * 2 ^ 24) / 2 ^ 56 = y / 2 ^ 32 := by
    simp only [Int.ofNat_eq_natCast] at hy ⊢
    omega
  have hext : s.ext + v = (s.time.wraps + y / 2 ^ 32) * 2 ^ 32 + y % 2 ^ 32 := by
    unfold State.ext
    rw [timeNow_toNat]
    simp only [Int.ofNat_eq_natCast] at hy ⊢
    omega
  unfold State.ext at hext ⊢
  rw [hnow, hwraps, hcarry, hext]
  exact (wrapS64_split _ (Int.emod_nonneg _ (by decide)) (Int.emod_lt_of_pos _ (by decide))).symm

theorem steppedTime_frac {s t : State} {v : Int} (ht : t.time = s.steppedTime v) : t.timeFrac = s.timeFrac := by
  have hc := s.time.count.isLt
  have hcount : t.time.count = BitVec.ofInt 56 (Int.ofNat s.time.count.toNat + v * 2 ^ 24) := by rw [ht]; rfl
  refine BitVec.eq_of_toNat_eq ?_
  unfold State.timeFrac
  rw [hcount, BitVec.toNat_setWidth, BitVec.toNat_setWidth, BitVec.toNat_ushiftRight, BitVec.toNat_ushiftRight,
    Nat.shiftRight_eq_div_pow, Nat.shiftRight_eq_div_pow, BitVec.toNat_ofInt]
  simp only [Int.ofNat_eq_natCast]
  omega

theorem timeStep_steps {p : Port} {v : Int} {s : State} (c : s.Calm)
    (ha : s.Admits p Reg.TIME_STEP (dataAt Reg.TIME_STEP v) v) (m : s.Mild 996) :
    ∃ t, exec (.timeStep p v) s = .next t ∧ RaiseFrame { s.beat p with time := t.time, regs := t.regs } t ∧
      t.time = s.steppedTime v ∧ t.reg Reg.TIME_STEP_CNT = satInc 32 (s.reg Reg.TIME_STEP_CNT) ∧
      s.SameRegs t [Reg.TIME_STEP_CNT, Reg.FC_LOG_LOST] := by
  have hplain : Reg.TIME_STEP_CNT < 0x500000 ∨ 0x550000 ≤ Reg.TIME_STEP_CNT := by decide
  obtain ⟨w, hw⟩ : ∃ w, w = (s.beat p).modTime fun _ => s.steppedTime v := ⟨_, rfl⟩
  have heff : effTimeStep v (s.beat p) = .ok ((w.bump Reg.TIME_STEP_CNT).pulse 996) := by rw [hw]; rfl
  have cw : w.Calm := hw ▸ c
  have mw : w.Mild 996 := hw ▸ m
  obtain ⟨u, hu⟩ : ∃ u, u = w.bump Reg.TIME_STEP_CNT := ⟨_, rfl⟩
  have hcalm : (u.pulse 996).Calm := pulse_calm u 996 (.inr (hu ▸ bump_mild w hplain (by decide) mw)) (hu ▸ bump_calm w hplain cw)
  have hparts : u = { s.beat p with time := s.steppedTime v, regs := u.regs } := by rw [hu, hw]; rfl
  have hframe := pulse_frame u 996
  rw [← hu] at heff
  have hreg : ∀ j, j ≠ Reg.TIME_STEP_CNT → u.reg j = s.reg j := fun j hj => by
    rw [hu, State.reg_bump_ne _ hj.symm, hw]
    rfl
  have hcnt : u.reg Reg.TIME_STEP_CNT = satInc 32 (s.reg Reg.TIME_STEP_CNT) := by
    rw [hu, State.reg_bump, hw]
    rfl
  have htime : u.time = s.steppedTime v := by rw [hparts]
  generalize u.pulse 996 = t at *
  refine ⟨t, hostWrite_next ha heff hcalm.1, ?_, hframe.time.trans htime, (hframe.reg _ (by decide)).trans hcnt, fun j hj => ?_⟩
  · rw [hframe.time, htime]
    rw [hparts] at hframe
    exact { hframe with reg := fun _ _ => rfl, wf := id }
  · rw [List.mem_cons, List.mem_singleton, not_or] at hj
    exact (hframe.reg _ hj.2).trans (hreg j hj.1)

end Sys2Proof.Machine
end

section
/-!
PROOFS. The time counter's edges, the sensors, and the scheduler's MRAM domain (R301, R302, R316 to R318, R326).
-/

namespace Sys2Proof.Machine

set_option Elab.async false

/-! ### A pulse counts its source once (R218) -/

theorem gone_count (s : State) (id : Nat) : ((s.gone id).src id).count = (s.src id).count := by
  cases hc : (s.src id).cond with
  | false => rw [gone_absent hc]
  | true =>
    unfold State.gone
    rw [hc, if_neg (by decide), releaseScopes_src]
    unfold State.dropSrc
    dsimp only
    rw [src_setSrc]
    split
    · rw [src_setSrc]
    · split <;> rw [src_setSrc]

theorem pulse_count {s : State} {id : Nat} (ha : assigned id = true) (hr : s.sup.reset = false)
    (hc : (s.src id).cond = false) (hf : (s.src id).force = false) :
    ((s.pulse id).src id).count = (satInc 32 (Int.ofNat (s.src id).count)).toNat := by
  obtain ⟨upd, hupd⟩ : ∃ upd : FSrc → FSrc, upd = fun f => { f with cond := true } := ⟨_, rfl⟩
  have hsrc : (s.raise id).src id = (s.raising id upd).src id := by
    rw [hupd]
    exact raiseWith_src_self _ ha hc hf (.inl rfl)
  rw [State.pulse, gone_count, hsrc, (raising_counted id upd hr).2]

theorem alive_reset {s : State} (ha : s.alive = true) : s.sup.reset = false := by
  unfold State.alive at ha
  simp only [Bool.and_eq_true, Bool.not_eq_true'] at ha
  exact ha.1.1.2

/-! ### Sensors (R67, R316) -/

/-- The readings taken, before the disagreement is judged. -/
def State.read (s : State) (die : Vector Int 4) (mv : Vector Nat 5) (lock : Bool) (dev : Int) : State :=
  s.modMgmt fun m =>
    { m with
      tempDie := die, railMv := mv, pllLock := lock, floorDev := dev
      sensorBad := if dieDiffer die then s.mgmt.sensorBad + 1 else 0
      tempMax := die.toList.foldl max (if s.mgmt.tempRead then s.mgmt.tempMax else die[0]), tempRead := true }

theorem sensors_eq (s : State) (die : Vector Int 4) (mv : Vector Nat 5) (lock : Bool) (dev : Int) :
    s.sensors die mv lock dev = ((s.read die mv lock dev).level 1035
      (decide (1000 ≤ if dieDiffer die then s.mgmt.sensorBad + 1 else 0))).each all16 State.tempFollow := rfl

/-- The temperature of a channel's source in use. -/
def State.tempValue (s : State) (n : ChId) : Int :=
  match s.regN (Reg.CH_TEMP_USED n) with
  | 0 => s.reg (Reg.CH_TEMP_CU n)
  | 1 => s.dieOf n
  | _ => s.reg (Reg.CH_TEMP_EXT n)

theorem tempKeys_apart (n m : ChId) : Reg.CH_TEMP m ≠ Reg.CH_TEMP_USED n ∧ Reg.CH_TEMP m ≠ Reg.CH_TEMP_CU n ∧
    Reg.CH_TEMP m ≠ Reg.CH_TEMP_EXT n := by decide +revert

theorem tempValue_setReg (s : State) (n m : ChId) (v : Int) : (s.setReg (Reg.CH_TEMP m) v).tempValue n = s.tempValue n := by
  obtain ⟨hused, hcu, hext⟩ := tempKeys_apart n m
  unfold State.tempValue State.regN
  rw [State.reg_setReg_ne _ _ hused, State.reg_setReg_ne _ _ hcu, State.reg_setReg_ne _ _ hext]
  rfl

theorem tempFollow_eq (s : State) (n : ChId) : s.tempFollow n = s.setReg (Reg.CH_TEMP n) (s.tempValue n) := rfl

theorem setAll_cons (s : State) (k : Key) (v : Int) (l : List (Key × Int)) :
    s.setAll ((k, v) :: l) = (s.setReg k v).setAll l := rfl

/-- The temperatures of the channels named. -/
def State.temps (s : State) (l : List ChId) : List (Key × Int) := l.map fun n : ChId => ((Reg.CH_TEMP n : Key), s.tempValue n)

theorem temps_congr {s t : State} (h : ∀ n, t.tempValue n = s.tempValue n) (l : List ChId) : t.temps l = s.temps l :=
  List.map_congr_left fun n _ => congrArg (Prod.mk (Reg.CH_TEMP n)) (h n)

/-- Every CH_TEMP follows its source. -/
theorem each_tempFollow (l : List ChId) (s : State) : s.each l State.tempFollow = s.setAll (s.temps l) := by
  induction l generalizing s with
  | nil => rfl
  | cons m l ih =>
    have hvalues := temps_congr (fun n => tempValue_setReg s n m (s.tempValue m)) l
    calc s.each (m :: l) State.tempFollow = (s.tempFollow m).each l State.tempFollow := List.foldl_cons ..
      _ = (s.setReg (Reg.CH_TEMP m) (s.tempValue m)).setAll (s.temps l) := by rw [ih, tempFollow_eq, hvalues]
      _ = s.setAll ((Reg.CH_TEMP m, s.tempValue m) :: s.temps l) := (setAll_cons s _ _ _).symm

theorem temps_keys (s : State) (l : List ChId) : (s.temps l).map (fun x => x.1) = l.map fun n : ChId => (Reg.CH_TEMP n : Key) := by
  unfold State.temps
  rw [List.map_map]
  rfl

theorem tempKeys_nodup : (all16.map fun n : ChId => (Reg.CH_TEMP n : Key)).Nodup := by decide

theorem tempKeys_low : ∀ k ∈ all16.map fun n : ChId => (Reg.CH_TEMP n : Key), k < 0x500000 ∨ 0x550000 ≤ k := by decide

theorem temps_plain (s : State) : plainKeys (s.temps all16) := fun k hk => tempKeys_low k (by rwa [temps_keys] at hk)

theorem tempUsed_ne_lost (n : ChId) : Reg.CH_TEMP_USED n ≠ Reg.FC_LOG_LOST := by decide +revert

theorem tempValue_die {s : State} {n : ChId} (h : s.reg (Reg.CH_TEMP_USED n) = 1) : s.tempValue n = s.dieOf n := by
  unfold State.tempValue State.regN
  rw [h]
  rfl

/-- The temperatures written: registers alone. -/
theorem temps_written {s t : State} (h : t = s.setAll (s.temps all16)) :
    t = { s with regs := t.regs } ∧ (∀ n : ChId, s.reg (Reg.CH_TEMP_USED n) = 1 → t.reg (Reg.CH_TEMP n) = s.dieOf n) ∧
      ∀ j, (∀ n : ChId, j ≠ Reg.CH_TEMP n) → t.reg j = s.reg j := by
  subst h
  refine ⟨setAll_frame .., fun n hn => ?_, fun j hj => ?_⟩
  · rw [← tempValue_die hn]
    exact setAll_reg _ _ (by rw [temps_keys]; exact tempKeys_nodup) (List.mem_map.2 ⟨n, List.mem_finRange n, rfl⟩)
  · refine setAll_reg_ne _ _ ?_
    rw [temps_keys, List.mem_map]
    rintro ⟨n, -, hn⟩
    exact hj n hn.symm

theorem sensorRefresh_reads {die : Vector Int 4} {mv : Vector Nat 5} {lock : Bool} {dev : Int} {s : State} (c : s.Calm)
    (ha : s.alive = true) (hs : s.serviceOn = true) (m : s.Mild 1035) :
    ∃ t, exec (.sensorRefresh die mv lock dev) s = .next t ∧ t.mgmt = (s.read die mv lock dev).mgmt ∧
      RaiseFrame { s with mgmt := t.mgmt, regs := t.regs } t ∧
      (∀ n : ChId, s.reg (Reg.CH_TEMP_USED n) = 1 → t.reg (Reg.CH_TEMP n) = t.dieOf n) ∧
      ∀ j, j ≠ Reg.FC_LOG_LOST → (∀ n : ChId, j ≠ Reg.CH_TEMP n) → t.reg j = s.reg j := by
  have hexec : exec (.sensorRefresh die mv lock dev) s = done (s.sensors die mv lock dev) := if_pos (by rw [ha, hs]; rfl)
  rw [sensors_eq, each_tempFollow] at hexec
  obtain ⟨u, hu⟩ : ∃ u, u = s.read die mv lock dev := ⟨_, rfl⟩
  have hparts : u = { s with mgmt := u.mgmt } := by rw [hu]; rfl
  obtain ⟨b, hb⟩ : ∃ b, b = decide (1000 ≤ if dieDiffer die then s.mgmt.sensorBad + 1 else 0) := ⟨_, rfl⟩
  rw [← hu, ← hb] at hexec
  have hframe := level_frame u 1035 b
  have hcalm : (u.level 1035 b).Calm := level_calm u 1035 b (.inr (hu ▸ m)) (hu ▸ c)
  rw [← hu]
  clear hu hb
  generalize u.level 1035 b = w at *
  have htcalm := setAll_calm (temps_plain w) hcalm
  obtain ⟨t, ht⟩ : ∃ t, t = w.setAll (w.temps all16) := ⟨_, rfl⟩
  obtain ⟨htparts, htemp, hothers⟩ := temps_written ht
  rw [← ht] at hexec htcalm
  clear ht
  have hregs : ∀ k, k ≠ Reg.FC_LOG_LOST → w.reg k = s.reg k := fun k hk => by rw [hframe.reg k hk, hparts]; rfl
  have hmgmt : t.mgmt = u.mgmt := (congrArg State.mgmt htparts).trans hframe.mgmt
  have hdie : ∀ n, t.dieOf n = w.dieOf n := fun n => by rw [htparts]; rfl
  refine ⟨t, hexec.trans (done_calm _ htcalm), hmgmt, ?_, fun n hn => ?_, fun j hj hne => ?_⟩
  · rw [hmgmt, htparts]
    rw [hparts] at hframe
    exact { hframe with reg := fun _ _ => rfl, wf := id }
  · rw [hdie]
    exact htemp n ((hregs _ (tempUsed_ne_lost n)).trans hn)
  · rw [hothers j hne, hregs j hj]

/-! ### Requests to the MRAM domain (R318) -/

section
variable {s : State} {a : Activity}

theorem mramAsk_run (hm : a = .beadCommit ∨ a = .logCompact)
    (hr : s.sched[mramDomain].running = none) (hp : s.sched[mramDomain].pending ≠ some a) :
    s.schedAsk mramDomain a = .run := by
  unfold State.schedAsk
  simp only [Fin.getElem_fin] at hr hp ⊢
  rcases hm with rfl | rfl <;> simp [hr, hp]

theorem mramAsk_merge (hm : a = .beadCommit ∨ a = .logCompact)
    (h : s.sched[mramDomain].running = some a ∨ s.sched[mramDomain].pending = some a) :
    s.schedAsk mramDomain a = .merge := by
  unfold State.schedAsk
  simp only [Fin.getElem_fin] at h ⊢
  rcases hm with rfl | rfl <;> rcases h with h | h <;> simp [h]

theorem mramAsk_swap (hm : a = .beadCommit ∨ a = .logCompact) {c : Activity} (hr : s.sched[mramDomain].running = some c)
    (he : s.sched[mramDomain].edge = some s.now) (hc : prioOf a < prioOf c) (hp : s.sched[mramDomain].pending = none) :
    s.schedAsk mramDomain a = .swap := by
  have hne : c ≠ a := fun h => absurd hc (by rw [h]; exact lt_irrefl _)
  unfold State.schedAsk
  simp only [Fin.getElem_fin] at hr he hp ⊢
  rcases hm with rfl | rfl <;> simp [hr, he, hp, hc, hne]

theorem mramAsk_pend (hm : a = .beadCommit ∨ a = .logCompact)
    (hr : s.sched[mramDomain].running ≠ none) (hra : s.sched[mramDomain].running ≠ some a)
    (hp : s.sched[mramDomain].pending = none) (he : s.sched[mramDomain].edge ≠ some s.now) :
    s.schedAsk mramDomain a = .pend := by
  unfold State.schedAsk
  simp only [Fin.getElem_fin] at hr hra hp he ⊢
  rcases hm with rfl | rfl <;> simp [hr, hra, hp, he]

theorem mramAsk_refuse (hm : a = .beadCommit ∨ a = .logCompact)
    (hr : s.sched[mramDomain].running ≠ none) (hra : s.sched[mramDomain].running ≠ some a)
    {c : Activity} (hp : s.sched[mramDomain].pending = some c) (hc : c ≠ a) : s.schedAsk mramDomain a = .refuse := by
  unfold State.schedAsk
  simp only [Fin.getElem_fin] at hr hra hp ⊢
  rcases hm with rfl | rfl <;> simp [hr, hra, hp, hc]

theorem effCommitNow_eq {s : State} (hw : s.updWaits = false) :
    effCommitNow s = if (s.schedDo mramDomain .beadCommit).1 = .refuse then .error nakSched
      else .ok (s.schedDo mramDomain .beadCommit).2 := by
  unfold effCommitNow
  rw [hw]
  rcases s.schedDo mramDomain .beadCommit with ⟨g, u⟩
  cases g <;> rfl

theorem effLogCompact_eq {s : State} (hw : s.updWaits = false) :
    effLogCompact s = if (s.schedDo mramDomain .logCompact).1 = .refuse then .error nakSched
      else .ok (s.schedDo mramDomain .logCompact).2 := by
  unfold effLogCompact
  rw [hw]
  rcases s.schedDo mramDomain .logCompact with ⟨g, u⟩
  cases g <;> rfl

/-- What a request of the scheduler's leaves: its answer, or the refusal counted. -/
theorem orRefused_eq (s u : State) (r : Prop) [Decidable r] :
    s.orRefused (if r then .error nakSched else .ok u) = if r then s.bump Reg.SCH_REFUSE_CNT else u := by
  split <;> rfl

/-- A commit or compaction asked for, with the scheduler's answer. -/
theorem mramRequest (hm : a = .beadCommit ∨ a = .logCompact) (b : Bool) (ha : s.alive = true) (hw : s.updWaits = false) :
    exec (.schedRequest .mram a b) s = done (if b = true ∧ (s.schedDo mramDomain a).1 = .refuse
      then s.bump Reg.SCH_REFUSE_CNT else (s.schedDo mramDomain a).2) := by
  rcases hm with rfl | rfl <;> cases b
  · calc exec (.schedRequest .mram .beadCommit false) s = done s.commitOffer := if_neg (by rw [ha]; decide)
      _ = _ := by unfold State.commitOffer; rw [hw]; rfl
  · calc exec (.schedRequest .mram .beadCommit true) s = done (s.orRefused (effCommitNow s)) := if_neg (by rw [ha]; decide)
      _ = _ := by rw [effCommitNow_eq hw, orRefused_eq]; simp only [true_and]
  · calc exec (.schedRequest .mram .logCompact false) s = done s.compactOffer := if_neg (by rw [ha]; decide)
      _ = _ := by unfold State.compactOffer; rw [hw]; rfl
  · calc exec (.schedRequest .mram .logCompact true) s = done (s.orRefused (effLogCompact s)) := if_neg (by rw [ha]; decide)
      _ = _ := by rw [effLogCompact_eq hw, orRefused_eq]; simp only [true_and]

/-- A request that the scheduler does not refuse. -/
theorem mramRequest_done {b : Bool} {u : State} {g : Grant} (hm : a = .beadCommit ∨ a = .logCompact) (c : s.Calm)
    (ha : s.alive = true) (hw : s.updWaits = false) (hdo : s.schedDo mramDomain a = (g, u)) (hg : g ≠ .refuse)
    (hparts : u = { s with sched := u.sched, bead := u.bead }) : exec (.schedRequest .mram a b) s = .next u := by
  have hcalm : u.Calm := by
    rw [hparts]
    exact c
  rw [mramRequest hm b ha hw, hdo, if_neg fun h => hg h.2]
  exact done_calm _ hcalm

/-- A commit or compaction asked for (R318): it runs, takes the place of a lower priority, merges, waits, or is refused. -/
theorem mramRequest_answers (b : Bool) (hm : a = .beadCommit ∨ a = .logCompact) (c : s.Calm) (ha : s.alive = true)
    (hw : s.updWaits = false) :
    (s.sched[mramDomain].running = none → s.sched[mramDomain].pending ≠ some a →
      ∃ t, exec (.schedRequest .mram a b) s = .next t ∧ t = { s with sched := t.sched, bead := t.bead } ∧
        t.sched[mramDomain] = { s.sched[mramDomain] with running := some a, since := s.now, edge := some s.now } ∧
        t.bead = { s.bead with
          writing := if a = .beadCommit
            then some { beads := s.bead.working, sets := s.sets.toList, trims := s.allTrims } else s.bead.writing } ∧
        ∀ d, d ≠ mramDomain → t.sched[d] = s.sched[d]) ∧
    (∀ c, s.sched[mramDomain].running = some c → s.sched[mramDomain].edge = some s.now → prioOf a < prioOf c →
      s.sched[mramDomain].pending = none →
      ∃ t, exec (.schedRequest .mram a b) s = .next t ∧ t = { s with sched := t.sched, bead := t.bead } ∧
        t.sched[mramDomain] = { s.sched[mramDomain] with running := some a, pending := some c } ∧
        ∀ d, d ≠ mramDomain → t.sched[d] = s.sched[d]) ∧
    ((s.sched[mramDomain].running = some a ∨ s.sched[mramDomain].pending = some a) →
      exec (.schedRequest .mram a b) s = .next s) ∧
    (s.sched[mramDomain].running ≠ none → s.sched[mramDomain].running ≠ some a → s.sched[mramDomain].pending = none →
      s.sched[mramDomain].edge ≠ some s.now →
      ∃ t, exec (.schedRequest .mram a b) s = .next t ∧ t = { s with sched := t.sched } ∧
        t.sched[mramDomain] = { s.sched[mramDomain] with pending := some a } ∧
        ∀ d, d ≠ mramDomain → t.sched[d] = s.sched[d]) ∧
    (s.sched[mramDomain].running ≠ none → s.sched[mramDomain].running ≠ some a →
      (∃ c, s.sched[mramDomain].pending = some c ∧ c ≠ a) →
      exec (.schedRequest .mram a b) s = .next (if b then s.bump Reg.SCH_REFUSE_CNT else s)) := by
  have hmod : ∀ (f : Sched → Sched) (d : Fin 17), d ≠ mramDomain → (s.modSched mramDomain f).sched[d] = s.sched[d] :=
    fun f d hd => vmod_ne _ _ hd.symm
  have hself : ∀ f : Sched → Sched, (s.modSched mramDomain f).sched[mramDomain] = f s.sched[mramDomain] :=
    fun f => vmod_self _ _ _
  refine ⟨fun hr hp => ?_, fun d hr he hd hp => ?_, fun h => ?_, fun hr hra hp he => ?_, fun hr hra ⟨d, hp, hd⟩ => ?_⟩
  · have hdo : s.schedDo mramDomain a = (.run, (s.modSched mramDomain fun x =>
        { x with running := some a, since := s.now, edge := some s.now }).startActivity mramDomain a) := by
      unfold State.schedDo
      rw [mramAsk_run hm hr hp]
      dsimp only
      rw [dif_neg (by decide), if_pos (by rw [hr]; rfl)]
    have hbead : ((s.modSched mramDomain fun x => { x with running := some a, since := s.now, edge := some s.now }).startActivity
        mramDomain a).bead = { s.bead with
          writing := if a = .beadCommit
            then some { beads := s.bead.working, sets := s.sets.toList, trims := s.allTrims } else s.bead.writing } := by
      rcases hm with rfl | rfl <;> rfl
    refine ⟨_, mramRequest_done hm c ha hw hdo (by decide) ?_, ?_, ?_, hbead, fun d hd => ?_⟩
    · rw [startActivity_eq]
      rfl
    · rw [startActivity_eq]
      rfl
    · rw [startActivity_eq]
      exact hself _
    · rw [startActivity_eq]
      exact hmod _ d hd
  · have hdo : s.schedDo mramDomain a = (.run, (s.modSched mramDomain fun x =>
        { x with running := some a, pending := x.running }).startActivity mramDomain a) := by
      unfold State.schedDo
      rw [mramAsk_swap hm hr he hd hp]
      rfl
    refine ⟨_, mramRequest_done hm c ha hw hdo (by decide) ?_, ?_, ?_, fun e hne => ?_⟩
    · rw [startActivity_eq]
      rfl
    · rw [startActivity_eq]
      rfl
    · rw [startActivity_eq, ← hr]
      exact hself _
    · rw [startActivity_eq]
      exact hmod _ e hne
  · have hdo : s.schedDo mramDomain a = (.merge, s) := by
      unfold State.schedDo
      rw [mramAsk_merge hm h]
    exact mramRequest_done hm c ha hw hdo (by decide) rfl
  · have hdo : s.schedDo mramDomain a = (.pend, s.modSched mramDomain fun x => { x with pending := some a }) := by
      unfold State.schedDo
      rw [mramAsk_pend hm hr hra hp he]
    exact ⟨_, mramRequest_done hm c ha hw hdo (by decide) rfl, rfl, hself _, hmod _⟩
  · have hdo : s.schedDo mramDomain a = (.refuse, s) := by
      unfold State.schedDo
      rw [mramAsk_refuse hm hr hra hp hd]
    rw [mramRequest hm b ha hw, hdo]
    cases b
    · exact done_calm _ c
    · exact done_calm _ (bump_calm s (by decide) c)

end

end Sys2Proof.Machine
end

section
/-!
PROOFS. Network time, the sensors and the maintenance scheduler (R301 to R305, R316 to R318, R326).
-/

namespace Sys2Proof.Machine

set_option Elab.async false

/-! ### Network time -/

theorem timeIncWrite_takes {p : Port} {v : Int} {s : State} (c : s.Calm)
    (ha : s.Admits p Reg.TIME_INC (dataAt Reg.TIME_INC v) v) :
    ∃ t, exec (.timeIncWrite p v) s = .next t ∧ s.OneReg t Reg.TIME_INC v ∧ t = { s.beat p with regs := t.regs } :=
  ⟨(s.beat p).setReg Reg.TIME_INC v, hostWrite_next (eff := effTimeInc) ha rfl c.1, oneReg_setReg _ _ _, rfl⟩

theorem timeSlewWrite_takes {p : Port} {v : Int} {s : State} (c : s.Calm)
    (ha : s.Admits p Reg.TIME_SLEW (dataAt Reg.TIME_SLEW v) v) :
    ∃ t, exec (.timeSlewWrite p v) s = .next t ∧ s.OneReg t Reg.TIME_SLEW v ∧
      t = { s.beat p with regs := t.regs, time := { s.time with slew := v * 2 ^ 24 } } := by
  obtain ⟨x, hx⟩ : ∃ x, x = v * 2 ^ 24 := ⟨_, rfl⟩
  have heff : effTimeSlew v (s.beat p) = .ok { (s.beat p).setReg Reg.TIME_SLEW v with time := { s.time with slew := x } } := by
    rw [hx]
    rfl
  rw [← hx]
  exact ⟨_, hostWrite_next ha heff c.1, oneReg_setReg (s.beat p) _ _, rfl⟩

theorem timeRef80Write_takes {p : Port} {v : Int} {s : State} (c : s.Calm)
    (ha : s.Admits p Reg.TIME_REF80 (dataAt Reg.TIME_REF80 v) v) :
    ∃ t, exec (.timeRef80Write p v) s = .next t ∧ s.OneReg t Reg.TIME_REF80 v ∧ t = { s.beat p with
      regs := t.regs
      time := { s.time with nref := (extendNs s.timeNow (ns80 v.toNat)).toNat, refValid := true } } := by
  obtain ⟨x, hx⟩ : ∃ x, x = (extendNs s.timeNow (ns80 v.toNat)).toNat := ⟨_, rfl⟩
  have heff : effTimeRef80 v (s.beat p) = .ok { (s.beat p).setReg Reg.TIME_REF80 v with
      time := { s.time with nref := x, refValid := true } } := by
    rw [hx]
    rfl
  rw [← hx]
  exact ⟨_, hostWrite_next ha heff c.1, oneReg_setReg (s.beat p) _ _, rfl⟩

theorem step_idle {s : State} (h : s.pending = []) : step s = .next s.sclkEdge.settled := by
  unfold step
  rw [h]

theorem timeEdges_move {s : State} (c : s.Calm) (ha : s.alive = true) :
    (s.pending = [] → (s.edgeCarries = true → exec .timeWrap s = step s) ∧
      (s.time.slew ≠ 0 → slewPart s.time.slew = s.time.slew → exec .timeSlewDone s = step s)) ∧
    (s.edgeCarries = true → ∃ t, exec .timeWrap s = .next t ∧ t.now = s.now + 1 ∧
      t.time.wraps = wrapS 32 (s.time.wraps +
        (Int.ofNat s.time.count.toNat + (s.reg Reg.TIME_INC + slewPart s.time.slew)) / 2 ^ 56)) ∧
    (s.edgeCarries = false → exec .timeWrap s = .next s) ∧
    (s.time.slew ≠ 0 → slewPart s.time.slew = s.time.slew → ∃ t, exec .timeSlewDone s = .next t ∧
      t.now = s.now + 1 ∧ t.time.slew = 0) ∧
    ((s.time.slew = 0 ∨ slewPart s.time.slew ≠ s.time.slew) → exec .timeSlewDone s = .next s) ∧
    (s.serviceOn = true → exec .nrefRefresh s =
      .next { s with time := { s.time with nref := (extendNs s.timeNow s.time.nref).toNat } }) := by
  obtain ⟨hnow, htime⟩ := sclkEdge_clock ha
  have hwrap : s.edgeCarries = true → exec .timeWrap s = .next s.sclkEdge.settled := fun h => if_pos h
  have hslew : s.time.slew ≠ 0 → slewPart s.time.slew = s.time.slew → exec .timeSlewDone s = .next s.sclkEdge.settled :=
    fun h₀ h₁ => if_pos (by rw [ha, decide_eq_true h₀, decide_eq_true h₁]; rfl)
  refine ⟨fun h => ?_, fun h => ⟨_, hwrap h, hnow, ?_⟩, fun h => ?_, fun h₀ h₁ => ⟨_, hslew h₀ h₁, hnow, ?_⟩, fun h => ?_, fun h => ?_⟩
  · rw [step_idle h]
    exact ⟨hwrap, hslew⟩
  · rw [htime]
    rfl
  · exact (if_neg (by rw [h]; decide)).trans (done_calm _ c)
  · rw [htime]
    exact (congrArg (s.time.slew - ·) h₁).trans (sub_self _)
  · refine (if_neg fun hb => ?_).trans (done_calm _ c)
    rw [Bool.and_eq_true, Bool.and_eq_true, decide_eq_true_eq, decide_eq_true_eq] at hb
    exact h.elim hb.1.2 fun hne => hne hb.2
  · have hc : s.refreshNref.Calm := c
    exact (if_pos (by rw [ha, h]; rfl)).trans (done_calm _ hc)

/-! ### Requests on a channel's domain (R318) -/

theorem chanRequests {n : ChId} {s : State} (c : s.Calm) (ha : s.alive = true) :
    (∀ u, s.probeAsk n = .ok u → u.Calm → exec (.schedRequest (.chan n) .probe true) s = .next u ∧
      exec (.schedRequest (.chan n) .probe false) s = .next u) ∧
    (effInjStart n s = .error nakSched →
      exec (.schedRequest (.chan n) .test true) s = .next (s.bump Reg.SCH_REFUSE_CNT)) ∧
    (∀ u, effInjStart n s = .ok u → u.Calm → exec (.schedRequest (.chan n) .test true) s = .next u) ∧
    (∀ u, effCalStart n s = .ok u → u.Calm → exec (.schedRequest (.chan n) .cal true) s = .next u) := by
  have hasked : ∀ b, exec (.schedRequest (.chan n) .probe b) s = done (if b then s.orRefused (s.probeAsk n) else s.probeOffer n) :=
    fun b => if_neg (by rw [ha]; decide)
  have htest : exec (.schedRequest (.chan n) .test true) s = done (s.orRefused (effInjStart n s)) := if_neg (by rw [ha]; decide)
  have hcal : exec (.schedRequest (.chan n) .cal true) s = done (s.orRefused (effCalStart n s)) := if_neg (by rw [ha]; decide)
  refine ⟨fun u hu hc => ⟨?_, ?_⟩, fun he => ?_, fun u hu hc => ?_, fun u hu hc => ?_⟩
  · rw [hasked, if_pos rfl, hu]
    exact done_calm _ hc
  · have hoffer : s.probeOffer n = u := by rw [State.probeOffer, hu]
    rw [hasked, if_neg (by decide), hoffer]
    exact done_calm _ hc
  · rw [htest, he]
    exact done_calm _ (bump_calm s (by decide) c)
  · rw [htest, hu]
    exact done_calm _ hc
  · rw [hcal, hu]
    exact done_calm _ hc

/-! ### The end of an MRAM activity (R318 step 7) -/

/-- The waiting request of the MRAM domain takes its place. -/
theorem schedEnd_mram {s : State} (hsus : s.sched[mramDomain].suspended = false) (hupd : s.upd.state ≠ .waitQuiet)
    (hp : s.sched[mramDomain].pending ∉ [some .cal, some .test]) :
    s.schedEnd mramDomain = { s with sched := (s.schedEnd mramDomain).sched, bead := (s.schedEnd mramDomain).bead } ∧
    (s.schedEnd mramDomain).sched[mramDomain].running = s.sched[mramDomain].pending ∧
    (s.schedEnd mramDomain).sched[mramDomain].pending = none ∧
    (s.schedEnd mramDomain).bead = { s.bead with
      writing := if s.sched[mramDomain].pending = some .beadCommit
        then some { beads := s.bead.working, sets := s.sets.toList, trims := s.allTrims } else s.bead.writing } := by
  have hself : ∀ f : Sched → Sched, (s.modSched mramDomain f).sched[mramDomain] = f s.sched[mramDomain] :=
    fun f => vmod_self _ _ _
  cases hpending : s.sched[mramDomain].pending with
  | none =>
    have hend : s.schedEnd mramDomain = s.modSched mramDomain fun _ => {} := by
      unfold State.schedEnd
      dsimp only
      rw [if_neg (by rw [hsus]; decide), hpending]
    rw [hend]
    exact ⟨rfl, congrArg Sched.running (hself _), congrArg Sched.pending (hself _), rfl⟩
  | some a =>
    have hgrant : waitsGrant a = false := by
      rw [hpending] at hp
      cases a <;> first | rfl | exact absurd (by decide) hp
    have hend : s.schedEnd mramDomain = (s.modSched mramDomain fun _ =>
        { running := some a, since := s.now }).startActivity mramDomain a := by
      unfold State.schedEnd
      dsimp only
      rw [if_neg (by rw [hsus]; decide), hpending]
      dsimp only
      rw [if_neg (by rw [hgrant, decide_eq_false hupd]; decide)]
    rw [hend]
    refine ⟨?_, ?_, ?_, ?_⟩
    · rw [startActivity_eq]
      rfl
    · rw [startActivity_eq]
      exact congrArg Sched.running (hself _)
    · rw [startActivity_eq]
      exact congrArg Sched.pending (hself _)
    · unfold State.startActivity
      by_cases hcommit : a = .beadCommit
      · rw [if_pos ⟨rfl, hcommit⟩, if_pos (congrArg some hcommit)]
        rfl
      · rw [if_neg fun h => hcommit h.2, if_neg fun h => hcommit (Option.some.inj h)]
        rfl

/-- The keys of the static trims. -/
theorem allTrims_setReg {s : State} {k : Key} (hk : ∀ n : ChId,
      k ∉ [Reg.CH_OFS_SIN n, Reg.CH_OFS_COS n, Reg.CH_FGAIN_SIN n, Reg.CH_FGAIN_COS n, Reg.CH_QUAD_TRIM n]) (v : Int) :
    (s.setReg k v).allTrims = s.allTrims := by
  unfold State.allTrims
  refine congrArg List.flatten (List.map_congr_left fun n _ => List.map_congr_left fun j hj => ?_)
  exact congrArg (Prod.mk j) (State.reg_setReg_ne s v fun h : k = j => hk n (h ▸ hj))

theorem rewriteCnt_no_trim : ∀ n : ChId, Reg.LOG_REWRITE_CNT ∉
    [Reg.CH_OFS_SIN n, Reg.CH_OFS_COS n, Reg.CH_FGAIN_SIN n, Reg.CH_FGAIN_COS n, Reg.CH_QUAD_TRIM n] := by decide

theorem compactionEnd {s : State} (c : s.Calm) (ha : s.alive = true) (hsus : s.sched[mramDomain].suspended = false)
    (hupd : s.upd.state ≠ .waitQuiet) (hp : s.sched[mramDomain].pending ∉ [some .cal, some .test])
    (hr : s.sched[mramDomain].running = some .logCompact) :
    ∃ t, exec (.schedActivityEnd .mram) s = .next t ∧
      t = { s with sched := t.sched, regs := t.regs, bead := t.bead, fresh := s.fresh + 1 } ∧
      t.bead = { s.bead with
        writing := if s.sched[mramDomain].pending = some .beadCommit
          then some { beads := s.bead.working, sets := s.sets.toList, trims := s.allTrims } else s.bead.writing } ∧
      s.SameRegs t [Reg.LOG_REWRITE_CNT] ∧
      t.sched[mramDomain].running = s.sched[mramDomain].pending ∧ t.sched[mramDomain].pending = none := by
  have hexec : exec (.schedActivityEnd .mram) s = done (s.compacted.schedEnd mramDomain) := by
    refine (if_neg (by rw [ha]; decide)).trans ?_
    rw [hr]
  obtain ⟨v, hv⟩ : ∃ v, v = (s.reg Reg.LOG_REWRITE_CNT + Int.ofNat (Config.unstated s.fresh % (s.log.recs.length + 1))) % 2 ^ 32 :=
    ⟨_, rfl⟩
  have hcompacted : s.compacted = s.draw.setReg Reg.LOG_REWRITE_CNT v := by rw [hv]; rfl
  have htrims : (s.draw.setReg Reg.LOG_REWRITE_CNT v).allTrims = s.allTrims := allTrims_setReg rewriteCnt_no_trim v
  have hcalm : (s.draw.setReg Reg.LOG_REWRITE_CNT v).Calm := setReg_calm s.draw (by decide) v c
  have hothers : s.SameRegs (s.draw.setReg Reg.LOG_REWRITE_CNT v) [Reg.LOG_REWRITE_CNT] := (oneReg_setReg s.draw _ v).2
  rw [hcompacted] at hexec
  obtain ⟨u, hu⟩ : ∃ u, u = s.draw.setReg Reg.LOG_REWRITE_CNT v := ⟨_, rfl⟩
  have huparts : u = { s with regs := u.regs, fresh := s.fresh + 1 } := by rw [hu]; rfl
  have hend := schedEnd_mram (s := u) (by rw [huparts]; exact hsus) (by rw [huparts]; exact hupd) (by rw [huparts]; exact hp)
  rw [← hu] at hexec htrims hcalm hothers
  clear hu hv hcompacted
  obtain ⟨hparts, hrunning, hpending, hbead⟩ := hend
  generalize u.schedEnd mramDomain = t at *
  refine ⟨t, hexec.trans (done_calm _ ?_), ?_, ?_, ?_, ?_, hpending⟩
  · rw [hparts]
    exact hcalm
  · rw [hparts, huparts]
  · rw [hbead, htrims, huparts]
  · rw [hparts]
    exact hothers
  · rw [hrunning, huparts]

theorem blockEnd {s : State} {b : UpdBlock} {rest : List UpdBlock} (c : s.Calm) (ha : s.alive = true)
    (hsus : s.sched[mramDomain].suspended = false) (hp : s.sched[mramDomain].pending ∉ [some .cal, some .test])
    (hr : s.sched[mramDomain].running = some .fwBlock) (hb : s.upd.blocks = b :: rest) (hl : b.length = none)
    (hu : s.upd.state = .receiving) (hroute : b.route = .none) :
    ∃ t, exec (.schedActivityEnd .mram) s = .next t ∧ t = { s with sched := t.sched, upd := t.upd, bead := t.bead } ∧
      t.upd.blocks = rest ∧ t.upd.offset = s.upd.offset + 1024 ∧
      t.upd.banks[s.spare].image = s.upd.banks[s.spare].image ++ b.data ∧
      t.sched[mramDomain].running = s.sched[mramDomain].pending := by
  have hexec : exec (.schedActivityEnd .mram) s = done (s.endBlock.schedEnd mramDomain) := by
    refine (if_neg (by rw [ha]; decide)).trans ?_
    rw [hr]
  obtain ⟨x, hx⟩ : ∃ x : Upd, x = { s.upd with
      blocks := rest
      offset := s.upd.offset + 1024
      banks := vmod s.upd.banks s.spare fun y => { y with image := y.image ++ b.data } } := ⟨_, rfl⟩
  have hblock : s.endBlock = { s with upd := x } := by
    unfold State.endBlock
    rw [hb]
    dsimp only
    unfold State.blockDone
    rw [hl, hroute, hx]
    exact if_pos hu
  have himage : x.banks[s.spare].image = s.upd.banks[s.spare].image ++ b.data := by
    rw [hx]
    exact congrArg Bank.image (vmod_self _ _ _)
  obtain ⟨hparts, hrunning, -, -⟩ := schedEnd_mram (s := { s with upd := x }) hsus
    (by rw [hx]; exact fun h => absurd (hu.symm.trans h) (by decide)) hp
  rw [hblock] at hexec
  generalize ({ s with upd := x } : State).schedEnd mramDomain = t at *
  have hupd : t.upd = x := by rw [hparts]
  refine ⟨t, hexec.trans (done_calm _ ?_), ?_, ?_, ?_, ?_, hrunning⟩
  · rw [hparts]
    exact c
  · rw [hupd]
    exact hparts
  · rw [hupd, hx]
  · rw [hupd, hx]
  · rw [hupd]
    exact himage

/-! ### A writer that holds the MRAM domain beyond its bound (R317) -/

theorem overrun_raises {s : State} (c : s.Calm) (ha : s.alive = true) :
    ((∃ a, s.sched[mramDomain].running = some a ∧ holdBound a * 10 ^ 6 < s.since s.sched[mramDomain].since) → s.Mild 1034 →
      ∃ t, exec .schedOverrun s = .next t ∧ RaiseFrame s t ∧
        ((s.src 1034).cond = false → (s.src 1034).force = false →
          (t.src 1034).count = (satInc 32 (Int.ofNat (s.src 1034).count)).toNat)) ∧
    ((∀ a, s.sched[mramDomain].running = some a → s.since s.sched[mramDomain].since ≤ holdBound a * 10 ^ 6) →
      exec .schedOverrun s = .next s) := by
  refine ⟨fun ⟨a, hr, hlong⟩ m => ?_, fun h => ?_⟩
  · have hover : s.overrun = true := by
      unfold State.overrun
      rw [hr, Option.any_some]
      exact decide_eq_true hlong
    have hexec : exec .schedOverrun s = done (s.pulse 1034) := if_pos (by rw [ha, hover]; rfl)
    exact ⟨_, hexec.trans (done_calm _ (pulse_calm s 1034 (.inr m) c)), pulse_frame s 1034,
      pulse_count (by decide) (alive_reset ha)⟩
  · have hover : s.overrun = false := by
      unfold State.overrun
      cases hr : s.sched[mramDomain].running with
      | none => rfl
      | some a =>
        rw [Option.any_some]
        exact decide_eq_false (not_lt.2 (h a hr))
    exact (if_neg (by rw [hover, Bool.and_false]; decide)).trans (done_calm _ c)

/-- Settles O56: the clock is carried through the edge's crossings untouched, a step moves the extended counter by whole
nanoseconds, and the MRAM domain answers a request by the rule of R318 that its state meets. -/
theorem timeSensorsAndTheSchedulerFollowTheirRules : Obligations.TimeSensorsAndTheSchedulerFollowTheirRules := by
  unfold Obligations.TimeSensorsAndTheSchedulerFollowTheirRules
  refine ⟨fun p v s c => ?_, fun s c ha => timeEdges_move c ha, fun die mv lock dev s c ha hs m => ?_,
    fun n s c ha => chanRequests c ha, fun a b s c ha hm hw => mramRequest_answers b hm c ha hw,
    fun s c ha hsus hupd hp => ⟨compactionEnd c ha hsus hupd hp, fun b rest hr => blockEnd c ha hsus hp hr⟩,
    fun s c ha => overrun_raises c ha⟩
  · refine ⟨timeIncWrite_takes c, timeSlewWrite_takes c, timeRef80Write_takes c, fun ha m => ?_⟩
    obtain ⟨t, hexec, hframe, htime, hcnt, hothers⟩ := timeStep_steps c ha m
    refine ⟨t, hexec, hframe, steppedTime_ext htime, ?_, steppedTime_frac htime, ?_, hcnt, hothers⟩
    · rw [htime]
      rfl
    · rw [htime]
      rfl
  · obtain ⟨t, hexec, hmgmt, hframe, htemp, hothers⟩ := sensorRefresh_reads (die := die) (mv := mv) (lock := lock) (dev := dev) c ha hs m
    refine ⟨t, hexec, ?_, ?_, ?_, ?_, ?_, ?_, ?_, ?_, hframe, htemp, hothers⟩ <;> rw [hmgmt] <;> rfl

end Sys2Proof.Machine
end

section
/-!
PROOFS. Replies and reads of the ports (R260, R261, R276, R296), and what a read leaves as it is.
-/

namespace Sys2Proof.Machine

set_option Elab.async false

/-! ### Replies (R296) -/

theorem modEth_self (s : State) (k : Fin 2) (f : Eth → Eth) : (s.modEth k f).eth[k] = f s.eth[k] := vmod_self _ _ _

theorem modEth_ne (s : State) {k j : Fin 2} (h : j ≠ k) (f : Eth → Eth) : (s.modEth k f).eth[j] = s.eth[j] :=
  vmod_ne _ _ h.symm

theorem modCan_self (s : State) (c : Fin 2) (f : Can → Can) : (s.modCan c f).can[c] = f s.can[c] := vmod_self _ _ _

theorem modCan_ne (s : State) {c j : Fin 2} (h : j ≠ c) (f : Can → Can) : (s.modCan c f).can[j] = s.can[j] :=
  vmod_ne _ _ h.symm

/-- An Ethernet reply goes out, or waits behind the due frames. -/
theorem ethSend_sends (k : Fin 2) (r : Reply) (s : State) :
    (s.ethSend k r) = { s with eth := (s.ethSend k r).eth } ∧ (∀ j, j ≠ k → (s.ethSend k r).eth[j] = s.eth[j]) ∧
    (s.ethSend k r).eth[k] = if s.netDue ⟨k.val, by omega⟩ then { s.eth[k] with waiting := s.eth[k].waiting ++ [r] }
      else { s.eth[k] with sent := some r } := by
  unfold State.ethSend
  split
  · exact ⟨rfl, fun j hj => modEth_ne s hj _, modEth_self s k _⟩
  · exact ⟨rfl, fun j hj => modEth_ne s hj _, modEth_self s k _⟩

/-- A CAN reply goes out on the port's identifier, or waits behind the due frames. -/
theorem canSend_sends (c : Fin 2) (b : Bytes) (s : State) :
    (s.canSend c b) = { s with can := (s.canSend c b).can } ∧ (∀ j, j ≠ c → (s.canSend c b).can[j] = s.can[j]) ∧
    (s.canSend c b).can[c] = if s.netDue ⟨c.val + 2, by omega⟩ then { s.can[c] with waiting := s.can[c].waiting ++ [b] }
      else { s.can[c] with sent := b, sentId := 0x580 + s.regN (Reg.CAN_NODE_ID c) } := by
  unfold State.canSend
  split
  · exact ⟨rfl, fun j hj => modCan_ne s hj _, modCan_self s c _⟩
  · exact ⟨rfl, fun j hj => modCan_ne s hj _, modCan_self s c _⟩

/-! ### Reads (R261, R276) -/

/-- A refusal that counts as nothing else, with an abort code. -/
def Nak.Plain (n : Nak) : Prop := n ≠ nakSched ∧ n ≠ nakRole ∧ n.abort ≠ 0

theorem nakCond_plain : nakCond.Plain := by
  unfold Nak.Plain
  decide

theorem need_ok {b : Bool} {n : Nak} {u : Unit} (h : need b n = .ok u) : b = true := by
  cases b
  · exact nomatch h
  · rfl

/-- A check that fails with a plain refusal. -/
theorem need_plain {b : Bool} {n m : Nak} (hn : n.Plain) (h : need b n = .error m) : m.Plain := by
  cases b
  · cases h
    exact hn
  · exact nomatch h

theorem bind_error {α : Type} {x : Except Nak Unit} {f : Unit → Except Nak α} {n : Nak} (h : (x >>= f) = .error n) :
    x = .error n ∨ f () = .error n := by
  cases x with
  | error m => exact .inl (by cases h; rfl)
  | ok u => exact .inr h

theorem readChecks_plain {p : Port} {k : Key} {n : Nak} (h : State.readChecks p k = .error n) : n.Plain := by
  have habsent : (⟨0x06020000, 0xF⟩ : Nak).Plain := by unfold Nak.Plain; decide
  have hsub : (⟨0x06090011, 0xF⟩ : Nak).Plain := by unfold Nak.Plain; decide
  have hwo : (⟨0x06010001, 0xE⟩ : Nak).Plain := by unfold Nak.Plain; decide
  have hport : nakAccess.Plain := by unfold Nak.Plain; decide
  rcases bind_error h with h | h
  · exact need_plain habsent h
  · cases hobj : findObj k with
    | none =>
      rw [hobj] at h
      cases h
      exact hsub
    | some o =>
      rw [hobj] at h
      rcases bind_error h with h | h
      · exact need_plain hwo h
      · rcases bind_error h with h | h
        · exact need_plain hport h
        · cases h

theorem beadWindow_plain {s : State} {n : Nak} (h : s.beadWindow = .error n) : n = nakCond := by
  unfold State.beadWindow at h
  dsimp only at h
  split at h
  · cases h
  · cases h
  · cases h
  · split at h
    · split at h <;> cases h
      rfl
    · cases h
      rfl
  · split at h <;> cases h
    rfl
  · cases h

theorem capWindow_plain {s : State} {n : Nak} (h : s.capWindow = .error n) : n = nakCond := by
  unfold State.capWindow at h
  split at h <;> cases h
  rfl

theorem of_ite_ok {c : Prop} [Decidable c] {x : Bytes} {r : Except Nak Bytes} {n : Nak}
    (h : (if c then .ok x else r) = .error n) : r = .error n := by
  split at h
  · cases h
  · exact h

/-- Only the windows that have nothing to show refuse a read. -/
theorem domain_plain {s : State} {k : Key} {n : Nak} (h : s.domain k = .error n) : n = nakCond := by
  unfold State.domain at h
  dsimp only at h
  iterate 15 replace h := of_ite_ok h
  split at h
  · exact beadWindow_plain h
  · iterate 7 replace h := of_ite_ok h
    split at h
    · exact capWindow_plain h
    · cases h

theorem readObj_plain {s : State} {p : Port} {k : Key} {o : Obj} {n : Nak} (h : s.readObj p k o = .error n) : n.Plain := by
  unfold State.readObj at h
  dsimp only at h
  split at h
  · split at h
    · cases h
    · cases hd : s.domain k with
      | error m =>
        rw [hd] at h
        cases h
        rw [domain_plain hd]
        exact nakCond_plain
      | ok d =>
        rw [hd] at h
        cases h
  · split at h <;> cases h

/-- What a read may change: the marks of a refusal, the heartbeat, the nonce of a challenge and a free number. -/
structure ReadFrame (s t : State) : Prop where
  parts : t = { s with port := t.port, sec := { s.sec with nonceNo := t.sec.nonceNo }, dev := t.dev, regs := t.regs, fresh := t.fresh }
  regs : s.SameRegs t [Reg.DEV_REFUSE_CNT]
  calm : s.Calm → t.Calm

theorem ReadFrame.trans {s t u : State} (h : ReadFrame s t) (g : ReadFrame t u) : ReadFrame s u where
  parts := by rw [g.parts, h.parts]
  regs := fun j hj => (g.regs j hj).trans (h.regs j hj)
  calm := fun c => g.calm (h.calm c)

theorem beat_readFrame (s : State) (p : Port) : ReadFrame s (s.beat p) := ⟨rfl, fun _ _ => rfl, fun c => c⟩

theorem refuse_readFrame (s : State) (p : Port) (k : Key) {n : Nak} (h : n.Plain) : ReadFrame s (s.refuse p k n) where
  parts := by rw [State.refuse_eq s p k h.1 h.2.1]; rfl
  regs := fun j hj => by
    rw [State.refuse_eq s p k h.1 h.2.1]
    exact State.reg_bump_ne s fun e => hj (List.mem_singleton.2 e.symm)
  calm := refuse_calm s p k h.1 h.2.1

theorem glvCurrent_readFrame (s : State) (g : Fin 8) : ReadFrame s (s.glvCurrent g).1 := by
  unfold State.glvCurrent
  split <;> exact ⟨rfl, fun _ _ => rfl, fun c => c⟩

theorem readObj_readFrame {s u : State} {p : Port} {k : Key} {o : Obj} {d : Bytes} (h : s.readObj p k o = .ok (u, d)) :
    ReadFrame s u := by
  unfold State.readObj at h
  dsimp only at h
  split at h
  · split at h
    · cases h
      exact ⟨rfl, fun _ _ => rfl, fun c => c⟩
    · cases hd : s.domain k with
      | error m =>
        rw [hd] at h
        cases h
      | ok x =>
        rw [hd] at h
        cases h
        exact ⟨rfl, fun _ _ => rfl, fun c => c⟩
  · split at h
    · cases h
      exact glvCurrent_readFrame s _
    · cases h
      exact ⟨rfl, fun _ _ => rfl, fun c => c⟩

/-- A read that the service takes is answered. -/
theorem perform_read {s : State} {p : Port} (k : Key) (r : Route) (hg : s.gate p = .ready) :
    ∃ t a d, s.perform p k none r = t.answer r a d ∧ ReadFrame s t := by
  have hbeat := beat_readFrame s p
  unfold State.perform
  dsimp only
  unfold State.readWith
  rw [hg]
  dsimp only
  cases hc : State.readChecks p k with
  | error n => exact ⟨_, _, _, rfl, hbeat.trans (refuse_readFrame _ p k (readChecks_plain hc))⟩
  | ok o =>
    dsimp only
    cases ho : (s.beat p).readObj p k o with
    | error n => exact ⟨_, _, _, rfl, hbeat.trans (refuse_readFrame _ p k (readObj_plain ho))⟩
    | ok x =>
      obtain ⟨u, d⟩ := x
      exact ⟨_, _, _, rfl, hbeat.trans (readObj_readFrame ho)⟩

end Sys2Proof.Machine
end

section
/-!
PROOFS. Frames that come in on an Ethernet port (R290 to R293, R306 to R312).
-/

namespace Sys2Proof.Machine

set_option Elab.async false

/-! ### Counting a frame leaves what the port goes by -/

section
variable (s : State) {k : Fin 2} {c : Key}

theorem dgrPeer_bump (h₁ : Reg.DGR_PEER_IP k ≠ c) (h₂ : Reg.DGR_PEER_UDP k ≠ c) : (s.bump c).dgrPeer k = s.dgrPeer k := by
  unfold State.dgrPeer State.regN
  rw [State.reg_bump_ne s h₁.symm, State.reg_bump_ne s h₂.symm]
  rfl

theorem gate_bump {p : Port} (h : (s.bump c).portOpen p = s.portOpen p) : (s.bump c).gate p = s.gate p := by
  unfold State.gate
  rw [h]
  rfl

end

theorem rxCnt_apart (k : Fin 2) : Reg.DGR_PEER_IP k ≠ Reg.ETH_RX_CNT k ∧ Reg.DGR_PEER_UDP k ≠ Reg.ETH_RX_CNT k ∧
    Reg.ETH_ENABLE k ≠ Reg.ETH_RX_CNT k ∧ Reg.ETH_IP k ≠ Reg.ETH_RX_CNT k ∧ Reg.ETH_RX_CNT k ≠ Reg.DEV_REFUSE_CNT := by
  decide +revert

theorem ethKeys_low (k : Fin 2) : (Reg.ETH_RX_CNT k < 0x500000 ∨ 0x550000 ≤ Reg.ETH_RX_CNT k) ∧
    (Reg.ETH_RX_ERR_CNT k < 0x500000 ∨ 0x550000 ≤ Reg.ETH_RX_ERR_CNT k) ∧
    (Reg.ETH_RX_DROP_CNT k < 0x500000 ∨ 0x550000 ≤ Reg.ETH_RX_DROP_CNT k) ∧
    (Reg.DGR_FOREIGN_CNT k < 0x500000 ∨ 0x550000 ≤ Reg.DGR_FOREIGN_CNT k) ∧
    (Reg.DGR_DROP_CNT k < 0x500000 ∨ 0x550000 ≤ Reg.DGR_DROP_CNT k) ∧
    (Reg.PTP_RX_CNT k < 0x500000 ∨ 0x550000 ≤ Reg.PTP_RX_CNT k) ∧
    (Reg.RXR_OVF_CNT k < 0x500000 ∨ 0x550000 ≤ Reg.RXR_OVF_CNT k) := by
  decide +revert

theorem ethSend_calm {s : State} (k : Fin 2) (r : Reply) (c : s.Calm) : (s.ethSend k r).Calm := by
  rw [(ethSend_sends k r s).1]
  exact c

theorem ethAnswers_bump (s : State) (k : Fin 2) (ip : BitVec 32) : (s.bump (Reg.ETH_RX_CNT k)).ethAnswers k ip = s.ethAnswers k ip := by
  unfold State.ethAnswers State.regN
  rw [State.reg_bump_ne s (rxCnt_apart k).2.2.2.1.symm]

/-! ### Datagrams (R291 to R293) -/

section
variable {k : Fin 2} {dst mac : BitVec 48} {ip : BitVec 32} {udp : BitVec 16} {b : Bytes} {s : State}

/-- A datagram that the port takes in, counted, before its source is looked at. -/
theorem dictDatagram_taken (hon : s.ethOn k = true) (ht : s.ethTakes k dst.toNat = true) (hip : s.reg (Reg.ETH_IP k) ≠ 0)
    (hok : dgrOk b = true) {u : State} (hu : u = (s.bump (Reg.ETH_RX_CNT k)).learnPeer k (ip, udp)) :
    exec (.dictDatagram k ⟨dst, mac⟩ ip udp b) s = if u.dgrPeer k = some (ip, udp) then done (u.peerDatagram k mac ip udp b)
      else done (u.bump (Reg.DGR_FOREIGN_CNT k)) := by
  subst hu
  change execDictDatagram k ⟨dst, mac⟩ ip udp b s = _
  unfold execDictDatagram
  rw [hon, ht, hok, if_neg (by decide), if_neg (by decide), if_neg hip, if_neg (by decide)]

theorem learnPeer_known {a : BitVec 32 × BitVec 16} (h : s.dgrPeer k = some a) (src : BitVec 32 × BitVec 16) :
    s.learnPeer k src = s := by
  unfold State.learnPeer
  rw [h]
  rfl

theorem peer_counted {a : BitVec 32 × BitVec 16} (h : s.dgrPeer k = some a) :
    (s.bump (Reg.ETH_RX_CNT k)).dgrPeer k = some a :=
  (dgrPeer_bump s (rxCnt_apart k).1 (rxCnt_apart k).2.1).trans h

theorem datagram_damaged (c : s.Calm) (hon : s.ethOn k = true) (ht : s.ethTakes k dst.toNat = true)
    (hip : s.reg (Reg.ETH_IP k) ≠ 0) (hok : dgrOk b = false) :
    ∃ t, exec (.dictDatagram k ⟨dst, mac⟩ ip udp b) s = .next t ∧ t = { s with regs := t.regs } ∧
      s.OneReg t (Reg.ETH_RX_ERR_CNT k) (satInc 32 (s.reg (Reg.ETH_RX_ERR_CNT k))) := by
  have hexec : exec (.dictDatagram k ⟨dst, mac⟩ ip udp b) s = done (s.bump (Reg.ETH_RX_ERR_CNT k)) := by
    change execDictDatagram k ⟨dst, mac⟩ ip udp b s = _
    unfold execDictDatagram
    rw [hon, ht, hok, if_neg (by decide), if_neg (by decide), if_neg hip, if_pos (by decide)]
  exact ⟨_, hexec.trans (done_calm _ (bump_calm s (ethKeys_low k).2.1 c)), rfl, oneReg_bump _ _⟩

theorem datagram_foreign (c : s.Calm) (hon : s.ethOn k = true) (ht : s.ethTakes k dst.toNat = true)
    (hip : s.reg (Reg.ETH_IP k) ≠ 0) (hok : dgrOk b = true) {a : BitVec 32 × BitVec 16} (hpeer : s.dgrPeer k = some a)
    (hne : a ≠ (ip, udp)) :
    exec (.dictDatagram k ⟨dst, mac⟩ ip udp b) s = .next ((s.bump (Reg.ETH_RX_CNT k)).bump (Reg.DGR_FOREIGN_CNT k)) := by
  rw [dictDatagram_taken hon ht hip hok (learnPeer_known (peer_counted hpeer) _).symm, peer_counted hpeer,
    if_neg fun h => hne (Option.some.inj h)]
  exact done_calm _ (bump_calm _ (ethKeys_low k).2.2.2.1 (bump_calm s (ethKeys_low k).1 c))

/-- A datagram of the known peer. -/
theorem datagram_peer (hon : s.ethOn k = true) (ht : s.ethTakes k dst.toNat = true) (hip : s.reg (Reg.ETH_IP k) ≠ 0)
    (hok : dgrOk b = true) (hpeer : s.dgrPeer k = some (ip, udp)) :
    exec (.dictDatagram k ⟨dst, mac⟩ ip udp b) s = done ((s.bump (Reg.ETH_RX_CNT k)).peerDatagram k mac ip udp b) := by
  rw [dictDatagram_taken hon ht hip hok (learnPeer_known (peer_counted hpeer) _).symm, peer_counted hpeer, if_pos rfl]

theorem datagram_busy (c : s.Calm) (hon : s.ethOn k = true) (ht : s.ethTakes k dst.toNat = true)
    (hip : s.reg (Reg.ETH_IP k) ≠ 0) (hok : dgrOk b = true) (hpeer : s.dgrPeer k = some (ip, udp))
    (hbusy : (s.eth[k].executing.isSome || s.portBusy (ethPort k)) = true) :
    exec (.dictDatagram k ⟨dst, mac⟩ ip udp b) s = .next ((s.bump (Reg.ETH_RX_CNT k)).bump (Reg.DGR_DROP_CNT k)) := by
  have hdrop : (s.bump (Reg.ETH_RX_CNT k)).peerDatagram k mac ip udp b =
      (s.bump (Reg.ETH_RX_CNT k)).bump (Reg.DGR_DROP_CNT k) := if_pos hbusy
  rw [datagram_peer hon ht hip hok hpeer, hdrop]
  exact done_calm _ (bump_calm _ (ethKeys_low k).2.2.2.2.1 (bump_calm s (ethKeys_low k).1 c))

theorem datagram_repeated (c : s.Calm) (hon : s.ethOn k = true) (ht : s.ethTakes k dst.toNat = true)
    (hip : s.reg (Reg.ETH_IP k) ≠ 0) (hok : dgrOk b = true) (hpeer : s.dgrPeer k = some (ip, udp))
    (hfree : (s.eth[k].executing.isSome || s.portBusy (ethPort k)) = false) {req rep : Bytes}
    (hlast : s.eth[k].last = some (req, rep)) (hseq : sliceB 2 2 req = sliceB 2 2 b) :
    exec (.dictDatagram k ⟨dst, mac⟩ ip udp b) s = .next (if req = b then
      (s.bump (Reg.ETH_RX_CNT k)).ethSend k (.udp mac ip udp rep)
      else (s.bump (Reg.ETH_RX_CNT k)).bump (Reg.DGR_DROP_CNT k)) := by
  have hkept : (s.eth[k].last.filter fun l => sliceB 2 2 l.1 = sliceB 2 2 b) = some (req, rep) := by
    rw [hlast]
    exact if_pos (decide_eq_true hseq)
  have hagain : (s.bump (Reg.ETH_RX_CNT k)).peerDatagram k mac ip udp b = if req = b then
      (s.bump (Reg.ETH_RX_CNT k)).ethSend k (.udp mac ip udp rep)
      else (s.bump (Reg.ETH_RX_CNT k)).bump (Reg.DGR_DROP_CNT k) := by
    refine (if_neg (by rw [show ((s.bump (Reg.ETH_RX_CNT k)).eth[k].executing.isSome ||
      (s.bump (Reg.ETH_RX_CNT k)).portBusy (ethPort k)) = false from hfree]; decide)).trans ?_
    rw [show ((s.bump (Reg.ETH_RX_CNT k)).eth[k].last.filter fun l => sliceB 2 2 l.1 = sliceB 2 2 b) = some (req, rep) from hkept]
  have hcalm := bump_calm s (ethKeys_low k).1 c
  rw [datagram_peer hon ht hip hok hpeer, hagain]
  split
  · exact done_calm _ (ethSend_calm k _ hcalm)
  · exact done_calm _ (bump_calm _ (ethKeys_low k).2.2.2.2.1 hcalm)

/-- What the port knows when the datagram of its peer, or of the first source, is looked at. -/
structure Learned (s u : State) (k : Fin 2) (src : BitVec 32 × BitVec 16) (b : Bytes) : Prop where
  knows : u.dgrPeer k = some src
  fresh : (u.eth[k].last.filter fun l => sliceB 2 2 l.1 = sliceB 2 2 b) = none
  free : u.eth[k].executing = none
  peer : u.eth[k].peer = if s.dgrPeer k = none then some src else s.eth[k].peer
  reg : ∀ j, u.reg j = (s.bump (Reg.ETH_RX_CNT k)).reg j
  calm : s.Calm → u.Calm
  gate : u.gate (ethPort k) = s.gate (ethPort k)

theorem rxCnt_no_port (p : Port) (k : Fin 2) : Reg.ETH_RX_CNT k ≠ Reg.ETH_ENABLE (p.val - 2) ∧
    Reg.ETH_RX_CNT k ≠ Reg.CAN_ENABLE (p.val - 4) ∧ Reg.ETH_RX_CNT k ≠ Reg.CAN_NODE_ID (p.val - 4) := by decide +revert

theorem portOpen_counted (s : State) (p : Port) (k : Fin 2) : (s.bump (Reg.ETH_RX_CNT k)).portOpen p = s.portOpen p := by
  obtain ⟨heth, hcan, hnode⟩ := rxCnt_no_port p k
  unfold State.portOpen State.flag
  rw [State.reg_bump_ne s heth, State.reg_bump_ne s hcan, State.reg_bump_ne s hnode]
  rfl

theorem known_learned (hpeer : s.dgrPeer k = some (ip, udp)) (hfree : s.eth[k].executing = none)
    (hlast : ∀ l, s.eth[k].last = some l → sliceB 2 2 l.1 ≠ sliceB 2 2 b) :
    Learned s (s.bump (Reg.ETH_RX_CNT k)) k (ip, udp) b where
  knows := peer_counted hpeer
  fresh := by
    change (s.eth[k].last.filter _) = none
    cases h : s.eth[k].last with
    | none => rfl
    | some l => exact if_neg (by rw [decide_eq_true_eq]; exact hlast l h)
  free := hfree
  peer := by
    rw [hpeer]
    rfl
  reg := fun _ => rfl
  calm := bump_calm s (ethKeys_low k).1
  gate := gate_bump s (portOpen_counted s _ k)

/-- No peer is configured where none is known. -/
theorem dgrPeer_none {s : State} (h : s.dgrPeer k = none) :
    (s.reg (Reg.DGR_PEER_IP k) ≠ 0 && s.reg (Reg.DGR_PEER_UDP k) ≠ 0) = false ∧ s.eth[k].peer = none := by
  unfold State.dgrPeer at h
  split at h
  · cases h
  · next hc => exact ⟨Bool.eq_false_iff.2 hc, h⟩

theorem first_learned (hpeer : s.dgrPeer k = none) (hfree : s.eth[k].executing = none) :
    Learned s ((s.bump (Reg.ETH_RX_CNT k)).learnPeer k (ip, udp)) k (ip, udp) b := by
  have hcounted : (s.bump (Reg.ETH_RX_CNT k)).dgrPeer k = none :=
    (dgrPeer_bump s (rxCnt_apart k).1 (rxCnt_apart k).2.1).trans hpeer
  have hlearn : (s.bump (Reg.ETH_RX_CNT k)).learnPeer k (ip, udp) =
      ((s.bump (Reg.ETH_RX_CNT k)).modEth k fun x => { x with peer := some (ip, udp), last := none }).modPort (ethPort k)
        fun x => { x with role := .observer } := if_neg (by rw [hcounted]; decide)
  rw [hlearn]
  have heth : (((s.bump (Reg.ETH_RX_CNT k)).modEth k fun x => { x with peer := some (ip, udp), last := none }).modPort (ethPort k)
      fun x => { x with role := .observer }).eth[k] = { s.eth[k] with peer := some (ip, udp), last := none } := vmod_self _ _ _
  exact {
    knows := by
      have hnone := (dgrPeer_none hcounted).1
      unfold State.dgrPeer
      refine (if_neg (by rw [Bool.not_eq_true]; exact hnone)).trans ?_
      rw [heth]
    fresh := by
      rw [heth]
      rfl
    free := by
      rw [heth]
      exact hfree
    peer := by rw [heth, if_pos hpeer]
    reg := fun _ => rfl
    calm := fun c => bump_calm s (ethKeys_low k).1 c
    gate := gate_bump s (portOpen_counted s _ k) }

/-- A port that the service would answer has no earlier access open. -/
theorem gate_ready_free {s : State} {p : Port} (h : s.gate p = .ready) : s.portBusy p = false := by
  unfold State.gate at h
  split at h
  · cases h
  · next hb =>
    rw [Bool.not_eq_true, Bool.or_eq_false_iff] at hb
    exact hb.2

/-- A READ with nothing before it is executed and answered. -/
theorem peerDatagram_read {u : State} (hg : u.gate (ethPort k) = .ready) (hfree : u.eth[k].executing = none)
    (hfresh : (u.eth[k].last.filter fun l => sliceB 2 2 l.1 = sliceB 2 2 b) = none) (hop : leNat (sliceB 1 1 b) = 1) :
    ∃ v a d, u.peerDatagram k mac ip udp b = v.answer (.dgr k mac ip udp b) a d ∧
      ReadFrame (u.modEth k fun x => { x with executing := some b }) v := by
  have hbusy : (u.eth[k].executing.isSome || u.portBusy (ethPort k)) = false := by
    rw [hfree, gate_ready_free hg]
    rfl
  have hdata : ¬ leNat (sliceB 1 1 b) = 2 := by
    rw [hop]
    decide
  have hperform : u.peerDatagram k mac ip udp b = (u.modEth k fun x => { x with executing := some b }).perform (ethPort k)
      (leNat (sliceB 4 2 b) * 256 + leNat (sliceB 6 1 b)) none (.dgr k mac ip udp b) := by
    unfold State.peerDatagram
    dsimp only
    rw [if_neg (by rw [hbusy]; decide), hfresh]
    dsimp only
    rw [if_neg hdata]
  rw [hperform]
  exact perform_read _ _ hg

/-- A new READ of the peer, or of the first source, is executed and answered. -/
theorem datagram_read (c : s.Calm) (hon : s.ethOn k = true) (ht : s.ethTakes k dst.toNat = true)
    (hip : s.reg (Reg.ETH_IP k) ≠ 0) (hok : dgrOk b = true) (hop : leNat (sliceB 1 1 b) = 1)
    (hg : s.gate (ethPort k) = .ready) {u : State} (hu : u = (s.bump (Reg.ETH_RX_CNT k)).learnPeer k (ip, udp))
    (hlearned : Learned s u k (ip, udp) b) :
    ∃ t, exec (.dictDatagram k ⟨dst, mac⟩ ip udp b) s = .next t ∧ t.eth[k].executing = none ∧
      t.eth[k].peer = (if s.dgrPeer k = none then some (ip, udp) else s.eth[k].peer) ∧
      t.reg (Reg.ETH_RX_CNT k) = satInc 32 (s.reg (Reg.ETH_RX_CNT k)) ∧
      ∃ abort data, t.eth[k].last = some (b, dgrReply b abort data) := by
  have hexec : exec (.dictDatagram k ⟨dst, mac⟩ ip udp b) s = done (u.peerDatagram k mac ip udp b) := by
    rw [dictDatagram_taken hon ht hip hok hu, if_pos hlearned.knows]
  obtain ⟨v, a, d, hpeer, hread⟩ := peerDatagram_read (mac := mac) (ip := ip) (udp := udp) (hlearned.gate.trans hg)
    hlearned.free hlearned.fresh hop
  have hveth : v.eth[k] = { u.eth[k] with executing := some b } := by
    rw [hread.parts]
    exact modEth_self u k _
  have hcalm : v.Calm := hread.calm (hlearned.calm c)
  have hrx : v.reg (Reg.ETH_RX_CNT k) = satInc 32 (s.reg (Reg.ETH_RX_CNT k)) := by
    rw [hread.regs _ (by rw [List.mem_singleton]; exact (rxCnt_apart k).2.2.2.2)]
    exact (hlearned.reg _).trans (State.reg_bump s _)
  obtain ⟨w, hw⟩ : ∃ w, w = v.modEth k fun x => { x with executing := none, last := some (b, dgrReply b a d) } := ⟨_, rfl⟩
  have hanswer : v.answer (.dgr k mac ip udp b) a d = w.ethSend k (.udp mac ip udp (dgrReply b a d)) := by
    rw [hw]
    rfl
  have hweth : w.eth[k] = { u.eth[k] with executing := none, last := some (b, dgrReply b a d) } := by
    rw [hw, modEth_self, hveth]
  obtain ⟨hparts, -, hsent⟩ := ethSend_sends k (.udp mac ip udp (dgrReply b a d)) w
  have hwcalm : w.Calm := hw ▸ hcalm
  rw [hpeer, hanswer] at hexec
  refine ⟨_, hexec.trans (done_calm _ (ethSend_calm k _ hwcalm)), ?_, ?_, ?_, a, d, ?_⟩
  · rw [hsent]
    split <;> rw [hweth]
  · rw [hsent, ← hlearned.peer]
    split <;> rw [hweth]
  · rw [hparts, ← hrx, hw]
    rfl
  · rw [hsent]
    split <;> rw [hweth]

end

end Sys2Proof.Machine
end

section
/-!
PROOFS. ARP, echo, discarded frames, PTP frames and the link of an Ethernet port (R290, R291, R306 to R312).
-/

namespace Sys2Proof.Machine

set_option Elab.async false

/-- A count and the pulse of its source. -/
theorem bumpPulse_facts (s : State) {k : Key} (id : Nat) (hk : k ≠ Reg.FC_LOG_LOST) :
    RaiseFrame { s with regs := ((s.bump k).pulse id).regs } ((s.bump k).pulse id) ∧
      ((s.bump k).pulse id).reg k = satInc 32 (s.reg k) ∧ s.SameRegs ((s.bump k).pulse id) [k, Reg.FC_LOG_LOST] := by
  have hcnt : (s.bump k).reg k = satInc 32 (s.reg k) := State.reg_bump s k
  have hothers : ∀ j, j ≠ k → (s.bump k).reg j = s.reg j := fun j hj => State.reg_bump_ne s hj.symm
  have hparts : s.bump k = { s with regs := (s.bump k).regs } := rfl
  have hframe := pulse_frame (s.bump k) id
  generalize s.bump k = u at *
  generalize u.pulse id = t at *
  refine ⟨?_, (hframe.reg _ hk).trans hcnt, fun j hj => ?_⟩
  · rw [hparts] at hframe
    exact { hframe with reg := fun _ _ => rfl, wf := fun h => h }
  · rw [List.mem_cons, List.mem_singleton, not_or] at hj
    exact (hframe.reg j hj.2).trans (hothers j hj.1)

theorem ethLost (k : Fin 2) : Reg.ETH_RX_DROP_CNT k ≠ Reg.FC_LOG_LOST ∧ Reg.RXR_OVF_CNT k ≠ Reg.FC_LOG_LOST ∧
    Reg.ETH_ENABLE k ≠ Reg.FC_LOG_LOST ∧ Reg.ETH_SPEED k ≠ Reg.FC_LOG_LOST := by decide +revert

/-! ### Frames outside the dictionary -/

section
variable {k : Fin 2} {target : BitVec 32} {dst mac : BitVec 48} {ip : BitVec 32} {udp : BitVec 16} {body : Bytes} {s : State}

theorem frame_elsewhere (c : s.Calm) (hon : s.ethOn k = true) (ht : s.ethTakes k dst.toNat = false) :
    exec (.arpRequest k target ⟨dst, mac⟩ ip) s = .next (s.bump (Reg.ETH_RX_DROP_CNT k)) ∧
    exec (.icmpEcho k target ⟨dst, mac⟩ ip body) s = .next (s.bump (Reg.ETH_RX_DROP_CNT k)) ∧
    exec (.dictDatagram k ⟨dst, mac⟩ ip udp body) s = .next (s.bump (Reg.ETH_RX_DROP_CNT k)) := by
  have hdrop := done_calm _ (bump_calm s (ethKeys_low k).2.2.1 c)
  have hon' : ¬ (!s.ethOn k) = true := by rw [hon]; decide
  have ht' : (!s.ethTakes k dst.toNat) = true := by rw [ht]; rfl
  exact ⟨((if_neg hon').trans (if_pos ht')).trans hdrop, ((if_neg hon').trans (if_pos ht')).trans hdrop,
    ((if_neg hon').trans (if_pos ht')).trans hdrop⟩

/-- An ARP request or an echo for the port's address is answered. -/
theorem frame_answered (c : s.Calm) (r : Reply) :
    (if (s.bump (Reg.ETH_RX_CNT k)).ethAnswers k target then done ((s.bump (Reg.ETH_RX_CNT k)).ethSend k r)
      else done (s.bump (Reg.ETH_RX_CNT k))) =
    .next (if s.ethAnswers k target then (s.bump (Reg.ETH_RX_CNT k)).ethSend k r else s.bump (Reg.ETH_RX_CNT k)) := by
  have hcalm := bump_calm s (ethKeys_low k).1 c
  rw [ethAnswers_bump]
  split
  · exact done_calm _ (ethSend_calm k r hcalm)
  · exact done_calm _ hcalm

theorem frame_taken (c : s.Calm) (hon : s.ethOn k = true) (ht : s.ethTakes k dst.toNat = true) :
    exec (.arpRequest k target ⟨dst, mac⟩ ip) s = .next (if s.ethAnswers k target
      then (s.bump (Reg.ETH_RX_CNT k)).ethSend k (.arp mac ip) else s.bump (Reg.ETH_RX_CNT k)) ∧
    exec (.icmpEcho k target ⟨dst, mac⟩ ip body) s = .next (if s.ethAnswers k target
      then (s.bump (Reg.ETH_RX_CNT k)).ethSend k (.echo mac ip body) else s.bump (Reg.ETH_RX_CNT k)) ∧
    (s.reg (Reg.ETH_IP k) = 0 →
      exec (.dictDatagram k ⟨dst, mac⟩ ip udp body) s = .next (s.bump (Reg.ETH_RX_CNT k))) := by
  have hon' : ¬ (!s.ethOn k) = true := by rw [hon]; decide
  have ht' : ¬ (!s.ethTakes k dst.toNat) = true := by rw [ht]; decide
  exact ⟨((if_neg hon').trans (if_neg ht')).trans (frame_answered c _), ((if_neg hon').trans (if_neg ht')).trans (frame_answered c _),
    fun hip => (((if_neg hon').trans (if_neg ht')).trans (if_pos hip)).trans (done_calm _ (bump_calm s (ethKeys_low k).1 c))⟩

theorem frame_discarded (c : s.Calm) (hon : s.ethOn k = true) :
    exec (.ethFrameDiscard ⟨k, .filtered⟩) s = .next (s.bump (Reg.ETH_RX_DROP_CNT k)) ∧
    exec (.ethFrameDiscard ⟨k, .fcs⟩) s = .next (s.bump (Reg.ETH_RX_ERR_CNT k)) ∧
    (s.Mild (970 + k.val) → ∃ t, exec (.ethFrameDiscard ⟨k, .overrun⟩) s = .next t ∧ RaiseFrame { s with regs := t.regs } t ∧
      t.reg (Reg.ETH_RX_DROP_CNT k) = satInc 32 (s.reg (Reg.ETH_RX_DROP_CNT k)) ∧
      s.SameRegs t [Reg.ETH_RX_DROP_CNT k, Reg.FC_LOG_LOST]) := by
  have hon' : ¬ (!s.ethOn k) = true := by rw [hon]; decide
  have hdrop := bump_calm s (ethKeys_low k).2.2.1 c
  refine ⟨(if_neg hon').trans (done_calm _ hdrop), (if_neg hon').trans (done_calm _ (bump_calm s (ethKeys_low k).2.1 c)), fun m => ?_⟩
  have hexec : exec (.ethFrameDiscard ⟨k, .overrun⟩) s = done ((s.bump (Reg.ETH_RX_DROP_CNT k)).pulse (970 + k.val)) := if_neg hon'
  have hmild := bump_mild s (ethKeys_low k).2.2.1 (show 970 + k.val < 1280 by omega) m
  obtain ⟨hframe, hcnt, hregs⟩ := bumpPulse_facts s (970 + k.val) (ethLost k).1
  exact ⟨_, hexec.trans (done_calm _ (pulse_calm _ _ (.inr hmild) hdrop)), hframe, hcnt, hregs⟩

end

/-! ### PTP frames (R306, R308) -/

section
variable {k : Fin 2} {dst src : BitVec 48} {rest frame : Bytes} {s : State}
  (hframe : frame = beBytes 6 dst.toNat ++ beBytes 6 src.toNat ++ rest)
include hframe

theorem ptpFrame_unreadable (c : s.Calm) (hon : s.ethOn k = true) (h : 1518 < frame.length ∨ (ptpOffset frame).isNone = true) :
    exec (.ptpFrameReceive k dst src rest) s = .next (s.bump (Reg.ETH_RX_ERR_CNT k)) := by
  subst hframe
  exact ((if_neg (by rw [hon]; decide)).trans (if_pos h)).trans (done_calm _ (bump_calm s (ethKeys_low k).2.1 c))

theorem ptpFrame_readable (hon : s.ethOn k = true) (hl : frame.length ≤ 1518) (ho : (ptpOffset frame).isSome = true) :
    exec (.ptpFrameReceive k dst src rest) s =
      if (s.ethTakes k dst.toNat && s.flag (Reg.PTP_ENABLE k)) = false then done (s.bump (Reg.ETH_RX_DROP_CNT k))
      else if s.eth[k].ring.length < 32 then
        done (((s.bump (Reg.ETH_RX_CNT k)).bump (Reg.PTP_RX_CNT k)).modEth k fun x =>
          { x with ring := x.ring ++ [((s.bump (Reg.ETH_RX_CNT k)).bump (Reg.PTP_RX_CNT k)).ringEntry k frame] })
      else done ((((s.bump (Reg.ETH_RX_CNT k)).bump (Reg.PTP_RX_CNT k)).bump (Reg.RXR_OVF_CNT k)).pulse (994 + k.val)) := by
  subst hframe
  refine ((if_neg (by rw [hon]; decide)).trans (if_neg fun h => ?_)).trans ?_
  · rcases h with h | h
    · exact absurd hl (not_le.2 h)
    · rw [Option.isNone_iff_eq_none.1 h] at ho
      cases ho
  · have hcond : ((!s.ethTakes k dst.toNat || !s.flag (Reg.PTP_ENABLE k)) = true) =
        ((s.ethTakes k dst.toNat && s.flag (Reg.PTP_ENABLE k)) = false) := by
      cases s.ethTakes k dst.toNat <;> cases s.flag (Reg.PTP_ENABLE k) <;> decide
    simp only [hcond]
    rfl

theorem ptpFrame_filtered (c : s.Calm) (hon : s.ethOn k = true) (hl : frame.length ≤ 1518)
    (ho : (ptpOffset frame).isSome = true) (h : (s.ethTakes k dst.toNat && s.flag (Reg.PTP_ENABLE k)) = false) :
    exec (.ptpFrameReceive k dst src rest) s = .next (s.bump (Reg.ETH_RX_DROP_CNT k)) := by
  rw [ptpFrame_readable hframe hon hl ho, if_pos h]
  exact done_calm _ (bump_calm s (ethKeys_low k).2.2.1 c)

end

theorem latKeys_apart (k : Fin 2) :
    Reg.ETH_RX_CNT k ≠ Reg.PTP_ING_LAT k ∧ Reg.ETH_RX_CNT k ≠ Reg.PTP_ING_ASYM k ∧
    Reg.PTP_RX_CNT k ≠ Reg.PTP_ING_LAT k ∧ Reg.PTP_RX_CNT k ≠ Reg.PTP_ING_ASYM k ∧ Reg.PTP_RX_CNT k ≠ Reg.ETH_RX_CNT k ∧
    Reg.RXR_OVF_CNT k ≠ Reg.ETH_RX_CNT k ∧ Reg.RXR_OVF_CNT k ≠ Reg.PTP_RX_CNT k := by decide +revert

theorem ringEntry_counted (s : State) (k : Fin 2) (frame : Bytes) :
    ((s.bump (Reg.ETH_RX_CNT k)).bump (Reg.PTP_RX_CNT k)).ringEntry k frame = s.ringEntry k frame := by
  obtain ⟨hlat, hasym, hlat', hasym', -⟩ := latKeys_apart k
  unfold State.ringEntry
  rw [State.reg_bump_ne _ hlat', State.reg_bump_ne _ hlat, State.reg_bump_ne _ hasym', State.reg_bump_ne _ hasym]
  rfl

section
variable {k : Fin 2} {dst src : BitVec 48} {rest frame : Bytes} {s : State}
  (hframe : frame = beBytes 6 dst.toNat ++ beBytes 6 src.toNat ++ rest) (c : s.Calm) (hon : s.ethOn k = true)
  (hl : frame.length ≤ 1518) (ho : (ptpOffset frame).isSome = true)
  (h : (s.ethTakes k dst.toNat && s.flag (Reg.PTP_ENABLE k)) = true)
include hframe c hon hl ho h

theorem ptpFrame_kept (hroom : s.eth[k].ring.length < 32) :
    ∃ t, exec (.ptpFrameReceive k dst src rest) s = .next t ∧ t = { s with regs := t.regs, eth := t.eth } ∧
      t.eth[k] = { s.eth[k] with ring := s.eth[k].ring ++ [s.ringEntry k frame] } ∧
      (∀ j, j ≠ k → t.eth[j] = s.eth[j]) ∧ s.SameRegs t [Reg.ETH_RX_CNT k, Reg.PTP_RX_CNT k] ∧
      t.reg (Reg.PTP_RX_CNT k) = satInc 32 (s.reg (Reg.PTP_RX_CNT k)) := by
  have hexec := ptpFrame_readable hframe hon hl ho
  rw [if_neg (by rw [h]; decide), if_pos hroom, ringEntry_counted] at hexec
  have hcalm : ((s.bump (Reg.ETH_RX_CNT k)).bump (Reg.PTP_RX_CNT k)).Calm :=
    bump_calm _ (ethKeys_low k).2.2.2.2.2.1 (bump_calm s (ethKeys_low k).1 c)
  obtain ⟨u, hu⟩ : ∃ u, u = (s.bump (Reg.ETH_RX_CNT k)).bump (Reg.PTP_RX_CNT k) := ⟨_, rfl⟩
  have huparts : u = { s with regs := u.regs } := by rw [hu]; rfl
  have hothers : s.SameRegs u [Reg.ETH_RX_CNT k, Reg.PTP_RX_CNT k] := fun j hj => by
    rw [List.mem_cons, List.mem_singleton, not_or] at hj
    rw [hu, State.reg_bump_ne _ (Ne.symm hj.2), State.reg_bump_ne _ (Ne.symm hj.1)]
  have hcnt : u.reg (Reg.PTP_RX_CNT k) = satInc 32 (s.reg (Reg.PTP_RX_CNT k)) := by
    rw [hu, State.reg_bump, State.reg_bump_ne _ (latKeys_apart k).2.2.2.2.1.symm]
  rw [← hu] at hexec hcalm
  have heth : u.eth = s.eth := by rw [huparts]
  refine ⟨_, hexec.trans (done_calm _ hcalm), ?_, ?_, fun j hj => ?_, hothers, hcnt⟩
  · rw [huparts]
    rfl
  · rw [modEth_self, heth]
  · rw [modEth_ne u hj, heth]

theorem ptpFrame_overflows (hfull : 32 ≤ s.eth[k].ring.length) (m : s.Mild (994 + k.val)) :
    ∃ t, exec (.ptpFrameReceive k dst src rest) s = .next t ∧ RaiseFrame { s with regs := t.regs } t ∧
      t.reg (Reg.RXR_OVF_CNT k) = satInc 32 (s.reg (Reg.RXR_OVF_CNT k)) := by
  obtain ⟨hrxlow, -, -, -, -, hptplow, hovflow⟩ := ethKeys_low k
  have hid : 994 + k.val < 1280 := by omega
  have hexec := ptpFrame_readable hframe hon hl ho
  rw [if_neg (by rw [h]; decide), if_neg (not_lt.2 hfull)] at hexec
  have hcalm : ((s.bump (Reg.ETH_RX_CNT k)).bump (Reg.PTP_RX_CNT k)).Calm := bump_calm _ hptplow (bump_calm s hrxlow c)
  have hmild := bump_mild _ hptplow hid (bump_mild s hrxlow hid m)
  obtain ⟨u, hu⟩ : ∃ u, u = (s.bump (Reg.ETH_RX_CNT k)).bump (Reg.PTP_RX_CNT k) := ⟨_, rfl⟩
  have huparts : u = { s with regs := u.regs } := by rw [hu]; rfl
  have hcnt : u.reg (Reg.RXR_OVF_CNT k) = s.reg (Reg.RXR_OVF_CNT k) := by
    obtain ⟨-, -, -, -, -, hrx, hptp⟩ := latKeys_apart k
    rw [hu, State.reg_bump_ne _ hptp.symm, State.reg_bump_ne _ hrx.symm]
  rw [← hu] at hexec hcalm hmild
  clear hu
  obtain ⟨hraised, hovf, -⟩ := bumpPulse_facts u (994 + k.val) (ethLost k).2.1
  rw [huparts] at hraised
  refine ⟨_, hexec.trans (done_calm _ (pulse_calm _ _ (.inr (bump_mild _ hovflow hid hmild)) (bump_calm _ hovflow hcalm))), ?_, ?_⟩
  · rw [huparts]
    exact hraised
  · rw [hovf, hcnt]

end

/-! ### The link (R290, R310, R311) -/

theorem assigned_ethLink (k : Fin 2) : assigned (968 + k.val) = true := by decide +revert

theorem ethLinkChange_shows {k : Fin 2} {speed : Fin 4} {s : State} (c : s.Calm) (ha : s.alive = true)
    (m : s.Mild (968 + k.val)) :
    ∃ t, exec (.ethLinkChange k speed) s = .next t ∧ RaiseFrame { s with eth := t.eth } t ∧
      t.eth[k] = { s.eth[k] with inband := speed.val } ∧
      t.ethLink k = (if s.regN (Reg.ETH_SPEED k) = 0 ∨ speed = 0 then speed.val else s.regN (Reg.ETH_SPEED k)) ∧
      (∀ j, j ≠ k → t.eth[j] = s.eth[j]) ∧
      (t.src (968 + k.val)).cond = (s.flag (Reg.ETH_ENABLE k) && decide (t.ethLink k = 0)) := by
  obtain ⟨u, hu⟩ : ∃ u, u = s.modEth k fun x => { x with inband := speed.val } := ⟨_, rfl⟩
  obtain ⟨b, hb⟩ : ∃ b, b = (u.flag (Reg.ETH_ENABLE k) && decide (u.ethLink k = 0)) := ⟨_, rfl⟩
  have hexec : exec (.ethLinkChange k speed) s = done (u.level (968 + k.val) b) := by
    rw [hb, hu]
    exact if_pos ha
  have hcalm : (u.level (968 + k.val) b).Calm := level_calm u _ b (.inr (hu ▸ m)) (hu ▸ c)
  have hparts : u = { s with eth := u.eth } := by rw [hu]; rfl
  have hself : u.eth[k] = { s.eth[k] with inband := speed.val } := by rw [hu]; exact modEth_self s k _
  have hothers : ∀ j : Fin 2, j ≠ k → u.eth[j] = s.eth[j] := fun j hj => by rw [hu]; exact modEth_ne s hj _
  have hframe := level_frame u (968 + k.val) b
  have hcond := level_cond u (id := 968 + k.val) b (assigned_ethLink k)
  clear hu
  generalize u.level (968 + k.val) b = t at *
  have hspeed : t.regN (Reg.ETH_SPEED k) = s.regN (Reg.ETH_SPEED k) := by
    unfold State.regN
    rw [hframe.reg _ (ethLost k).2.2.2, hparts]
    rfl
  have hspeed' : u.regN (Reg.ETH_SPEED k) = s.regN (Reg.ETH_SPEED k) := by rw [hparts]; rfl
  have henable : u.flag (Reg.ETH_ENABLE k) = s.flag (Reg.ETH_ENABLE k) := by rw [hparts]; rfl
  have hlink : t.ethLink k = (if s.regN (Reg.ETH_SPEED k) = 0 ∨ speed = 0 then speed.val else s.regN (Reg.ETH_SPEED k)) := by
    unfold State.ethLink
    rw [hframe.eth, hself, hspeed]
    have hzero : (speed.val = 0) = (speed = 0) := by rw [Fin.ext_iff]; rfl
    simp only [hzero, or_comm]
  have hsame : u.ethLink k = t.ethLink k := by
    unfold State.ethLink
    rw [hframe.eth, hspeed, hspeed']
  refine ⟨t, hexec.trans (done_calm _ hcalm), ?_, ?_, hlink, fun j hj => ?_, ?_⟩
  · rw [hframe.eth]
    rw [hparts] at hframe
    exact hframe
  · rw [hframe.eth, hself]
  · rw [hframe.eth]
    exact hothers j hj
  · rw [hcond, hb, henable, hsame]

end Sys2Proof.Machine
end

section
/-!
PROOFS. The error states of the CAN ports (R294).
-/

namespace Sys2Proof.Machine

set_option Elab.async false

/-! ### Raised sources beside changed registers -/

/-- What raised sources may change, whatever the registers hold. -/
theorem RaiseFrame.withRegs {s t : State} (h : RaiseFrame s t) (r : SMap Int) :
    RaiseFrame { s with regs := r } { t with regs := r } :=
  { h with reg := fun _ _ => rfl, wf := fun h => h }

/-- A count and its source raised. -/
theorem bumpRaise_facts (s : State) {k : Key} (id : Nat) (hk : k ≠ Reg.FC_LOG_LOST) :
    RaiseFrame { s with regs := ((s.bump k).raise id).regs } ((s.bump k).raise id) ∧
      ((s.bump k).raise id).reg k = satInc 32 (s.reg k) ∧ s.SameRegs ((s.bump k).raise id) [k, Reg.FC_LOG_LOST] := by
  have hcnt : (s.bump k).reg k = satInc 32 (s.reg k) := State.reg_bump s k
  have hothers : ∀ j, j ≠ k → (s.bump k).reg j = s.reg j := fun j hj => State.reg_bump_ne s hj.symm
  have hparts : s.bump k = { s with regs := (s.bump k).regs } := rfl
  have hframe := raise_frame (s.bump k) id
  generalize s.bump k = u at *
  generalize u.raise id = t at *
  refine ⟨?_, (hframe.reg _ hk).trans hcnt, fun j hj => ?_⟩
  · rw [hparts] at hframe
    exact { hframe with reg := fun _ _ => rfl, wf := fun h => h }
  · rw [List.mem_cons, List.mem_singleton, not_or] at hj
    exact (hframe.reg j hj.2).trans (hothers j hj.1)

/-! ### Transmit queues changed one after another -/

theorem modTq_self (s : State) (q : Fin 16) (f : Tq → Tq) : (s.modTq q f).tq[q] = f s.tq[q] := vmod_self _ _ _

theorem modTq_ne (s : State) {q j : Fin 16} (h : j ≠ q) (f : Tq → Tq) : (s.modTq q f).tq[j] = s.tq[j] := vmod_ne _ _ h.symm

/-- The same change, which made twice is made once, of the queues listed. -/
theorem each_modTq {f : Tq → Tq} (hf : ∀ x, f (f x) = f x) (l : List (Fin 16)) (s : State) :
    (s.each l fun u q => u.modTq q f) = { s with tq := (s.each l fun u q => u.modTq q f).tq } ∧
      ∀ q, (s.each l fun u q => u.modTq q f).tq[q] = if q ∈ l then f s.tq[q] else s.tq[q] := by
  unfold State.each
  induction l generalizing s with
  | nil => exact ⟨rfl, fun q => (if_neg List.not_mem_nil).symm⟩
  | cons m l ih =>
    obtain ⟨hparts, hqueues⟩ := ih (s.modTq m f)
    rw [List.foldl_cons]
    refine ⟨hparts.trans rfl, fun q => ?_⟩
    rw [hqueues q]
    by_cases hq : q = m
    · subst hq
      rw [modTq_self, hf, ite_self, if_pos List.mem_cons_self]
    · have hmem : (q ∈ m :: l) = (q ∈ l) := by rw [List.mem_cons, eq_false hq, false_or]
      rw [modTq_ne s hq]
      simp only [hmem]

/-- The medium of a network falls idle. -/
def State.idleNet (s : State) (net : Fin 4) : State :=
  s.each (netQueues net) fun s q => s.modTq q fun t => { t with sending := false }

theorem idleNet_idles (s : State) (net : Fin 4) : s.idleNet net = { s with tq := (s.idleNet net).tq } ∧
    ∀ q, (s.idleNet net).tq[q] = if netOf q = net then { s.tq[q] with sending := false } else s.tq[q] := by
  have hnet : ∀ q : Fin 16, q ∈ netQueues net ↔ netOf q = net := fun q => by
    unfold netQueues
    rw [List.mem_filter, decide_eq_true_eq]
    exact ⟨fun h => h.2, fun h => ⟨List.mem_finRange q, h⟩⟩
  obtain ⟨hparts, hqueues⟩ := each_modTq (f := fun t => { t with sending := false }) (fun _ => rfl) (netQueues net) s
  refine ⟨hparts, fun q => (hqueues q).trans ?_⟩
  simp only [hnet]

/-! ### CAN_BUS_ERROR -/

/-- The port with its new error counters. -/
def State.canErrors (s : State) (c : Fin 2) (tec rec : Nat) : State :=
  (s.idleNet ⟨c.val + 2, by omega⟩).modCan c fun x =>
    { x with
      state := if 256 ≤ tec then .busOff else if 128 ≤ tec ∨ 128 ≤ rec then .passive else .active
      tec := min tec 255, recErr := min rec 255, recovering := false }

theorem canBusError_eq {c : Fin 2} {tec rec : Nat} {s : State} (ha : s.alive = true) (hoff : s.can[c].state ≠ .off)
    (hbus : s.can[c].state ≠ .busOff) :
    exec (.canBusError c tec rec) s =
      if 256 ≤ tec then done (((((s.canErrors c tec rec).level (976 + c.val) false)).bump (Reg.CAN_BOFF_CNT c)).raise (974 + c.val))
      else done ((s.canErrors c tec rec).level (976 + c.val) (decide (128 ≤ tec) || decide (128 ≤ rec))) := by
  change execCanBusError c tec rec s = _
  unfold execCanBusError
  dsimp only
  rw [if_neg (by rw [ha, decide_eq_false hoff, decide_eq_false hbus]; decide)]
  unfold State.canErrors State.idleNet
  by_cases h : 256 ≤ tec
  · rw [decide_eq_true h]
    simp only [h, if_true, Bool.not_true, Bool.false_and]
  · rw [decide_eq_false h]
    simp only [h, if_false, Bool.not_false, Bool.true_and, Bool.or_eq_true, decide_eq_true_eq, Bool.false_eq_true]

theorem canErrors_parts (s : State) (c : Fin 2) (tec rec : Nat) :
    s.canErrors c tec rec = { s with tq := (s.canErrors c tec rec).tq, can := (s.canErrors c tec rec).can } := by
  unfold State.canErrors
  rw [(idleNet_idles s _).1]
  rfl

theorem canKeys (c : Fin 2) : Reg.CAN_BOFF_CNT c ≠ Reg.FC_LOG_LOST ∧
    (Reg.CAN_BOFF_CNT c < 0x500000 ∨ 0x550000 ≤ Reg.CAN_BOFF_CNT c) ∧ assigned (974 + c.val) = true ∧
    assigned (976 + c.val) = true ∧ 974 + c.val ≠ 976 + c.val ∧ 974 + c.val < 1280 := by decide +revert

/-- The errors of a port leave it passive, or in bus-off with its source raised. -/
theorem canBusError_states {c : Fin 2} {tec rec : Nat} {s : State} (hc : s.Calm) (ha : s.alive = true)
    (hoff : s.can[c].state ≠ .off) (hbus : s.can[c].state ≠ .busOff) (m₄ : s.Mild (974 + c.val)) (m₆ : s.Mild (976 + c.val)) :
    ∃ t, exec (.canBusError c tec rec) s = .next t ∧ t.tq = (s.canErrors c tec rec).tq ∧ t.can = (s.canErrors c tec rec).can ∧
      RaiseFrame { s with can := t.can, regs := t.regs, tq := t.tq } t ∧ s.SameRegs t [Reg.CAN_BOFF_CNT c, Reg.FC_LOG_LOST] ∧
      (256 ≤ tec → t.reg (Reg.CAN_BOFF_CNT c) = satInc 32 (s.reg (Reg.CAN_BOFF_CNT c)) ∧ (t.src (974 + c.val)).cond = true) ∧
      (tec < 256 → (t.src (976 + c.val)).cond = (decide (128 ≤ tec) || decide (128 ≤ rec))) := by
  obtain ⟨hlost, hlow, hassigned₄, hassigned₆, hne, hid⟩ := canKeys c
  have hexec := canBusError_eq (tec := tec) (rec := rec) ha hoff hbus
  have hparts := canErrors_parts s c tec rec
  have hm₄ : (s.canErrors c tec rec).Mild (974 + c.val) := by rw [hparts]; exact m₄
  have hm₆ : (s.canErrors c tec rec).Mild (976 + c.val) := by rw [hparts]; exact m₆
  have hcalm : (s.canErrors c tec rec).Calm := by rw [hparts]; exact hc
  generalize s.canErrors c tec rec = u at *
  by_cases h : 256 ≤ tec
  · rw [if_pos h] at hexec
    have hlevel := level_frame u (976 + c.val) false
    have hsrc := level_src_ne u false hne (by omega)
    have hvcalm := level_calm u (976 + c.val) false (.inr hm₆) hcalm
    have hvmild := hlevel.mild hid hsrc hm₄
    generalize u.level (976 + c.val) false = v at *
    obtain ⟨hframe, hcnt, hregs⟩ := bumpRaise_facts v (974 + c.val) hlost
    have htcalm := raise_calm _ (974 + c.val) (.inr (bump_mild v hlow hid hvmild)) (bump_calm v hlow hvcalm)
    have hcond := raise_cond (v.bump (Reg.CAN_BOFF_CNT c)) hassigned₄
    generalize (v.bump (Reg.CAN_BOFF_CNT c)).raise (974 + c.val) = t at *
    have hframe' := (hlevel.withRegs t.regs).trans hframe
    have htq : t.tq = u.tq := hframe'.tq
    have hcan : t.can = u.can := hframe'.can
    have hreg : ∀ j, j ≠ Reg.FC_LOG_LOST → v.reg j = s.reg j := fun j hj => by rw [hlevel.reg j hj, hparts]; rfl
    refine ⟨t, hexec.trans (done_calm _ htcalm), htq, hcan, ?_, fun j hj => ?_, fun _ => ⟨?_, hcond⟩, fun hlt => absurd h (not_le.2 hlt)⟩
    · rw [htq, hcan]
      rw [hparts] at hframe'
      exact hframe'
    · rw [hregs j hj]
      exact hreg j fun e => hj (by rw [e]; exact List.mem_cons_of_mem _ List.mem_cons_self)
    · rw [hcnt, hreg _ hlost]
  · rw [if_neg h] at hexec
    obtain ⟨b, hb⟩ : ∃ b, b = (decide (128 ≤ tec) || decide (128 ≤ rec)) := ⟨_, rfl⟩
    rw [← hb] at hexec ⊢
    have hframe := level_frame u (976 + c.val) b
    have htcalm := level_calm u (976 + c.val) b (.inr hm₆) hcalm
    have hcond := level_cond u b hassigned₆
    generalize u.level (976 + c.val) b = t at *
    have htq : t.tq = u.tq := hframe.tq
    have hcan : t.can = u.can := hframe.can
    refine ⟨t, hexec.trans (done_calm _ htcalm), htq, hcan, ?_, fun j hj => ?_, fun hge => absurd hge h, fun _ => hcond⟩
    · rw [htq, hcan]
      rw [hparts] at hframe
      exact { hframe with reg := fun _ _ => rfl, wf := fun h => h }
    · rw [hframe.reg j fun e => hj (by rw [e]; exact List.mem_cons_of_mem _ List.mem_cons_self), hparts]
      rfl

theorem canErrors_queues (s : State) (c : Fin 2) (tec rec : Nat) (q : Fin 16) :
    (s.canErrors c tec rec).tq[q] = if netOf q = ⟨c.val + 2, by omega⟩ then { s.tq[q] with sending := false } else s.tq[q] :=
  (idleNet_idles s _).2 q

theorem canErrors_self (s : State) (c : Fin 2) (tec rec : Nat) : (s.canErrors c tec rec).can[c] = { s.can[c] with
    state := if 256 ≤ tec then .busOff else if 128 ≤ tec ∨ 128 ≤ rec then .passive else .active
    tec := min tec 255, recErr := min rec 255, recovering := false } := by
  unfold State.canErrors
  rw [modCan_self, (idleNet_idles s _).1]

theorem canErrors_ne (s : State) {c j : Fin 2} (h : j ≠ c) (tec rec : Nat) : (s.canErrors c tec rec).can[j] = s.can[j] := by
  unfold State.canErrors
  rw [modCan_ne _ h, (idleNet_idles s _).1]

/-! ### Recovery -/

theorem canRecover_starts {p : Port} {c : Fin 2} {s : State} (hc : s.Calm) (ha : s.AdmitsCmd p (Reg.CAN_RECOVER c)) :
    exec (.canRecover p c) s = .next ((s.beat p).modCan c fun x =>
      { x with recovering := x.recovering || decide (x.state = .busOff) }) :=
  hostWrite_next (eff := fun _ => effCanRecover c) ha rfl hc.1

theorem busoff_recovered {c : Fin 2} {s : State} (hc : s.Calm) (ha : s.alive = true) (hbus : s.can[c].state = .busOff)
    (hrec : (s.can[c].recovering || s.flag (Reg.CAN_BOFF_AUTO c)) = true) :
    ∃ t, exec (.canBusoffRecovered c) s = .next t ∧ RaiseFrame { s with can := t.can } t ∧
      t.can[c] = { s.can[c] with state := .active, tec := 0, recErr := 0, recovering := false } ∧
      (∀ j, j ≠ c → t.can[j] = s.can[j]) ∧ (t.src (974 + c.val)).cond = false := by
  obtain ⟨u, hu⟩ : ∃ u, u = s.modCan c fun x => { x with state := .active, tec := 0, recErr := 0, recovering := false } := ⟨_, rfl⟩
  have hexec : exec (.canBusoffRecovered c) s = done (u.gone (974 + c.val)) := by
    rw [hu]
    exact if_pos (by rw [ha, decide_eq_true hbus, hrec]; rfl)
  have hcalm := gone_calm u (974 + c.val) (hu ▸ hc)
  have hparts : u = { s with can := u.can } := by rw [hu]; rfl
  have hself : u.can[c] = { s.can[c] with state := .active, tec := 0, recErr := 0, recovering := false } := by
    rw [hu]
    exact modCan_self s c _
  have hothers : ∀ j : Fin 2, j ≠ c → u.can[j] = s.can[j] := fun j hj => by rw [hu]; exact modCan_ne s hj _
  have hframe := gone_frame u (974 + c.val)
  have hcond := gone_cond u (974 + c.val)
  clear hu
  generalize u.gone (974 + c.val) = t at *
  refine ⟨t, hexec.trans (done_calm _ hcalm), ?_, ?_, fun j hj => ?_, hcond⟩
  · rw [hframe.can]
    rw [hparts] at hframe
    exact hframe
  · rw [hframe.can]
    exact hself
  · rw [hframe.can]
    exact hothers j hj

end Sys2Proof.Machine
end

section
/-!
PROOFS. SDO transfers (R295).
-/

namespace Sys2Proof.Machine

set_option Elab.async false

/-! ### Answers on the port -/

theorem canSend_calm {s : State} (c : Fin 2) (b : Bytes) (h : s.Calm) : (s.canSend c b).Calm := by
  rw [(canSend_sends c b s).1]
  exact h

theorem abortCnt_low (c : Fin 2) : Reg.CAN_SDO_ABORT_CNT c < 0x500000 ∨ 0x550000 ≤ Reg.CAN_SDO_ABORT_CNT c := by
  decide +revert

theorem sdoStop_calm {s : State} (c : Fin 2) (k : Key) (code : Nat) (h : s.Calm) : (s.sdoStop c k code).Calm :=
  canSend_calm c _ (bump_calm (s.modCan c fun x => { x with sdo := .idle }) (abortCnt_low c) h)

theorem sdoStop_stops (c : Fin 2) (k : Key) (code : Nat) (s : State) :
    (s.sdoStop c k code).reg (Reg.CAN_SDO_ABORT_CNT c) = satInc 32 (s.reg (Reg.CAN_SDO_ABORT_CNT c)) ∧
    (s.sdoStop c k code).can[c].sdo = .idle ∧
    (s.netDue ⟨c.val + 2, by omega⟩ = false → (s.sdoStop c k code).can[c].sent = sdoAbort k code) := by
  obtain ⟨u, hu⟩ : ∃ u, u = (s.modCan c fun x => { x with sdo := .idle }).bump (Reg.CAN_SDO_ABORT_CNT c) := ⟨_, rfl⟩
  have hstop : s.sdoStop c k code = u.canSend c (sdoAbort k code) := by rw [hu]; rfl
  have hcnt : u.reg (Reg.CAN_SDO_ABORT_CNT c) = satInc 32 (s.reg (Reg.CAN_SDO_ABORT_CNT c)) := by
    rw [hu, State.reg_bump]
    rfl
  have hcan : u.can[c] = { s.can[c] with sdo := .idle } := by rw [hu]; exact modCan_self s c _
  have hdue : u.netDue ⟨c.val + 2, by omega⟩ = s.netDue ⟨c.val + 2, by omega⟩ := by rw [hu]; rfl
  obtain ⟨hparts, -, hsent⟩ := canSend_sends c (sdoAbort k code) u
  rw [hstop]
  refine ⟨?_, ?_, fun h => ?_⟩
  · rw [hparts]
    exact hcnt
  · rw [hsent]
    split <;> rw [hcan]
  · rw [hsent, if_neg (by rw [hdue, h]; decide)]

/-! ### A request by its command specifier -/

/-- What each command specifier asks for. -/
def State.sdoBy (s : State) (c : Fin 2) (f : Bytes) (cmd : Nat) (k : Key) : Nat → State
  | 0 => s.sdoPut c cmd (f.drop 1)
  | 1 => s.sdoDownload c cmd k (f.drop 4)
  | 2 => s.sdoAccess c k none none
  | 3 => s.sdoGet c cmd
  | 4 => s.modCan c fun x => { x with sdo := .idle }
  | _ => s.sdoStop c k 0x05040001

section
variable {c : Fin 2} {f : Bytes} {cmd : Nat} {k : Key} {s : State} (hc : s.Calm)

theorem sdoRequest_served (hon : s.sdoOn c = true) (hl : f.length = 8) (hfree : s.can[c].executing = false)
    (hbusy : s.portBusy (canPort c) = false) : exec (.sdoRequest c f) s = done (s.sdoServe c f) := by
  change execSdoRequest c f s = _
  unfold execSdoRequest
  rw [if_neg (by rw [hon, hl, hfree, hbusy]; decide)]

variable (hexec : exec (.sdoRequest c f) s = done (s.sdoServe c f)) (hcmd : cmd = leNat (f.take 1))
include hexec hcmd

theorem sdoRequest_by {n : Nat} (hn : cmd / 32 = n) (hk : k = leNat (sliceB 1 2 f) * 256 + leNat (sliceB 3 1 f)) :
    exec (.sdoRequest c f) s = done (s.sdoBy c f cmd k n) := by
  subst hcmd hn hk
  rw [hexec]
  unfold State.sdoServe State.sdoBy
  rfl

include hc

theorem sdo_aborted (hn : cmd / 32 = 4) : exec (.sdoRequest c f) s = .next (s.modCan c fun x => { x with sdo := .idle }) :=
  (sdoRequest_by hexec hcmd hn rfl).trans (done_calm _ hc)

theorem sdo_segment_unasked (hn : cmd / 32 = 0 ∨ cmd / 32 = 3) (hidle : s.can[c].sdo = .idle) :
    exec (.sdoRequest c f) s = .next (s.sdoStop c 0 0x05040001) := by
  have hput : s.sdoPut c cmd (f.drop 1) = s.sdoStop c 0 0x05040001 := by
    unfold State.sdoPut
    rw [hidle]
  have hget : s.sdoGet c cmd = s.sdoStop c 0 0x05040001 := by
    unfold State.sdoGet
    rw [hidle]
  have hdone := done_calm _ (sdoStop_calm c 0 0x05040001 hc)
  rcases hn with hn | hn
  · exact (sdoRequest_by hexec hcmd hn rfl).trans ((congrArg done hput).trans hdone)
  · exact (sdoRequest_by hexec hcmd hn rfl).trans ((congrArg done hget).trans hdone)

theorem sdo_download_starts (hn : cmd / 32 = 1) (hb : bitN cmd 1 = false)
    (hk : k = leNat (sliceB 1 2 f) * 256 + leNat (sliceB 3 1 f)) :
    exec (.sdoRequest c f) s =
      .next ((s.modCan c fun x => { x with sdo := .download k [] false }).canSend c (sdoFrame 0x60 k [])) := by
  have hstart : s.sdoDownload c cmd k (f.drop 4) =
      (s.modCan c fun x => { x with sdo := .download k [] false }).canSend c (sdoFrame 0x60 k []) := if_neg (by rw [hb]; decide)
  have hcalm : (s.modCan c fun x => { x with sdo := .download k [] false }).Calm := hc
  exact (sdoRequest_by hexec hcmd hn hk).trans ((congrArg done hstart).trans (done_calm _ (canSend_calm c _ hcalm)))

theorem sdo_download_segment (hn : cmd / 32 = 0) {got : Bytes} {tg : Bool} (hs : s.can[c].sdo = .download k got tg) :
    (bitN cmd 4 ≠ tg → exec (.sdoRequest c f) s = .next (s.sdoStop c k 0x05030000)) ∧
    (bitN cmd 4 = tg → bitN cmd 0 = false → exec (.sdoRequest c f) s =
      .next ((s.modCan c fun x => { x with sdo := .download k (got ++ (f.drop 1).take (7 - cmd / 2 % 8)) (!tg) }).canSend c
        (leBytes 1 (0x20 + b2n tg * 16) ++ leBytes 7 0))) := by
  have hserve : ∀ t, s.sdoPut c cmd (f.drop 1) = t → t.Calm → exec (.sdoRequest c f) s = .next t := fun t ht htc =>
    (sdoRequest_by hexec hcmd hn rfl).trans ((congrArg done ht).trans (done_calm _ htc))
  refine ⟨fun h => hserve _ ?_ (sdoStop_calm c k 0x05030000 hc), fun h h₀ => hserve _ ?_ (canSend_calm c _ ?_)⟩
  · unfold State.sdoPut
    rw [hs]
    exact if_pos h
  · unfold State.sdoPut
    rw [hs]
    exact (if_neg (not_not.2 h)).trans (if_neg (by rw [h₀]; decide))
  · exact hc

theorem sdo_upload_segment (hn : cmd / 32 = 3) {rest : Bytes} {tg : Bool} (hs : s.can[c].sdo = .upload k rest tg)
    (h : bitN cmd 4 = tg) : exec (.sdoRequest c f) s = .next ((s.modCan c fun x =>
        { x with sdo := if rest.length ≤ 7 then .idle else .upload k (rest.drop 7) (!tg) }).canSend c
          (leBytes 1 (b2n tg * 16 + (7 - min 7 rest.length) * 2 + b2n (decide (rest.length ≤ 7))) ++
            padTo 7 (rest.take 7))) := by
  have hget : s.sdoGet c cmd = (s.modCan c fun x =>
        { x with sdo := if rest.length ≤ 7 then .idle else .upload k (rest.drop 7) (!tg) }).canSend c
          (leBytes 1 (b2n tg * 16 + (7 - min 7 rest.length) * 2 + b2n (decide (rest.length ≤ 7))) ++
            padTo 7 (rest.take 7)) := by
    unfold State.sdoGet
    rw [hs]
    refine (if_neg (not_not.2 h)).trans ?_
    simp only [decide_eq_true_eq]
  have hcalm : (s.modCan c fun x =>
      { x with sdo := if rest.length ≤ 7 then .idle else .upload k (rest.drop 7) (!tg) }).Calm := hc
  exact (sdoRequest_by hexec hcmd hn rfl).trans ((congrArg done hget).trans (done_calm _ (canSend_calm c _ hcalm)))

theorem sdo_unknown (hn : 5 ≤ cmd / 32) (hk : k = leNat (sliceB 1 2 f) * 256 + leNat (sliceB 3 1 f)) :
    exec (.sdoRequest c f) s = .next (s.sdoStop c k 0x05040001) := by
  obtain ⟨n, hfive⟩ : ∃ n, cmd / 32 = n + 5 := ⟨cmd / 32 - 5, by omega⟩
  exact (sdoRequest_by hexec hcmd hfive hk).trans (done_calm _ (sdoStop_calm c k 0x05040001 hc))

end

theorem sdoTimeout {c : Fin 2} {s : State} (hc : s.Calm) (hon : s.sdoOn c = true) :
    (s.can[c].sdo = .idle → exec (.sdoSegmentTimeout c) s = .next s) ∧
    (∀ k x tg, (s.can[c].sdo = .download k x tg ∨ s.can[c].sdo = .upload k x tg) →
      exec (.sdoSegmentTimeout c) s = .next (s.sdoStop c k 0x05040000)) := by
  have hon' : ¬ (!s.sdoOn c) = true := by rw [hon]; decide
  refine ⟨fun h => (if_neg hon').trans ?_, fun k x tg h => (if_neg hon').trans ?_⟩
  · rw [h]
    exact done_calm _ hc
  · rcases h with h | h <;> rw [h] <;> exact done_calm _ (sdoStop_calm c k 0x05040000 hc)

end Sys2Proof.Machine
end

section
/-!
PROOFS. The accesses that SDO transfers make (R261, R295), and the ports of Ethernet and CAN.
-/

namespace Sys2Proof.Machine

set_option Elab.async false

/-! ### Accesses of any port -/

theorem perform_read_error {s : State} {p : Port} {k : Key} {n : Nak} (r : Route) (hg : s.gate p = .ready)
    (hc : State.readChecks p k = .error n) : s.perform p k none r = ((s.beat p).refuse p k n).answer r n.abort [] := by
  unfold State.perform State.readWith
  rw [hg]
  dsimp only
  rw [hc]

theorem perform_read_ok {s u : State} {p : Port} {k : Key} {o : Obj} {d : Bytes} (r : Route) (hg : s.gate p = .ready)
    (hc : State.readChecks p k = .ok o) (ho : (s.beat p).readObj p k o = .ok (u, d)) :
    s.perform p k none r = u.answer r 0 d := by
  unfold State.perform State.readWith
  rw [hg]
  dsimp only
  rw [hc]
  dsimp only
  rw [ho]

theorem perform_write_error {s : State} {p : Port} {k : Key} {d : Bytes} {n : Nak} (r : Route) (hg : s.gate p = .ready)
    (hc : (s.beat p).writeChecks p k d = .error n) :
    s.perform p k (some d) r = ((s.beat p).refuse p k n).answer r n.abort [] := by
  unfold State.perform State.dictWrite State.writeWith
  rw [hg]
  dsimp only
  rw [hc]

/-- An accepted write of an object that takes effect at once by itself. -/
theorem perform_write_ok {s u : State} {p : Port} {k : Key} {d : Bytes} {o : Obj} {v : Int} (r : Route)
    (hg : s.gate p = .ready) (hc : (s.beat p).writeChecks p k d = .ok (o, v))
    (he : State.dictEffect p r k d o v (s.beat p) = (u, none)) (hu : u.portBusy p = false) :
    s.perform p k (some d) r = u.answer r 0 [] := by
  unfold State.perform State.dictWrite State.writeWith
  rw [hg]
  dsimp only
  rw [hc]
  dsimp only
  rw [he]
  dsimp only
  rw [hu]
  rfl

/-- The commands that the dictionary handles apart from its objects. -/
theorem apart_not_rws : ∀ k ∈ [Reg.FENCE_LOCAL, Reg.FENCE_GLOBAL, Reg.FENCE_AT, Reg.DEV_STATE_CMD, Reg.RESTORE_DEFAULTS,
    Reg.RESTORE_STORED], (findObj k).all fun o => o.acc ≠ .rws := by
  decide +kernel

theorem dictEffect_rws {s : State} {p : Port} {k : Key} {d : Bytes} {o : Obj} {v : Int} (r : Route) (ho : findObj k = some o)
    (ha : o.acc = .rws) : State.dictEffect p r k d o v s = orElseSame s (effRws p k v s) := by
  have hne : ∀ j ∈ [Reg.FENCE_LOCAL, Reg.FENCE_GLOBAL, Reg.FENCE_AT, Reg.DEV_STATE_CMD, Reg.RESTORE_DEFAULTS,
      Reg.RESTORE_STORED], k ≠ j := fun j hj h => by
    have hall := apart_not_rws j hj
    rw [← h, ho, Option.all_some, ha] at hall
    exact absurd hall (by decide)
  simp only [List.forall_mem_cons] at hne
  obtain ⟨h₁, h₂, h₃, h₄, h₅, h₆, -⟩ := hne
  unfold State.dictEffect
  rw [if_neg h₁, if_neg h₂, if_neg h₃, if_neg h₄, if_neg h₅, if_neg h₆, ha]

/-- A plain object becomes visible alone. -/
theorem effRws_plain {s : State} {p : Port} {k : Key} {v : Int} (h : ownCheck p s (overlay s.reg [(k, v)]) k v = .ok ())
    (hp : plainAt p k v) : effRws p k v s = .ok (s.setReg k v).cfgGen := by
  unfold effRws
  rw [h]
  exact congrArg (fun u : State => Except.ok u.cfgGen) (hp _ _)

theorem rangeCheck_abort {s : State} {get : Key → Int} {o : Obj} {k : Key} {v : Int} {x : Nat}
    (h : rangeCheck s get o k v = some x) : x ≠ 0 := by
  unfold rangeCheck at h
  split at h
  · split at h <;> cases h
    decide
  · split at h <;> cases h
    decide
  · split at h <;> cases h
    decide
  · split at h
    · cases h
    · split at h
      · cases h
        decide
      · split at h
        · cases h
          decide
        · split at h <;> cases h
          decide

theorem need_abort {b : Bool} {m n : Nak} (h : need b m = .error n) (hm : m.abort ≠ 0) : n.abort ≠ 0 := by
  cases b
  · cases h
    exact hm
  · exact nomatch h

theorem roleCheck_abort {s : State} {o : Obj} {p : Port} {k : Key} {v : Int} {n : Nak}
    (h : s.roleCheck o p k v = .error n) : n.abort ≠ 0 := by
  unfold State.roleCheck at h
  rcases bind_error h with h | h
  · exact need_abort h (by decide)
  rcases bind_error h with h | h
  · exact need_abort h (by decide)
  rcases bind_error h with h | h
  · exact need_abort h (by decide)
  rcases bind_error h with h | h
  · exact need_abort h (by decide)
  rcases bind_error h with h | h
  · exact need_abort h (by decide)
  · exact need_abort h (by decide)

/-- Every refusal of a write says why. -/
theorem writeChecks_abort {s : State} {p : Port} {k : Key} {d : Bytes} {n : Nak} (h : s.writeChecks p k d = .error n) :
    n.abort ≠ 0 := by
  unfold State.writeChecks at h
  rcases bind_error h with h | h
  · exact need_abort h (by decide)
  cases ho : findObj k with
  | none =>
    rw [ho] at h
    cases h
    decide
  | some o =>
    rw [ho] at h
    rcases bind_error h with h | h
    · exact need_abort h (by decide)
    rcases bind_error h with h | h
    · exact need_abort h (by decide)
    rcases bind_error h with h | h
    · exact roleCheck_abort h
    rcases bind_error h with h | h
    · exact need_abort h (by decide)
    split at h
    · next hr =>
      cases h
      exact rangeCheck_abort hr
    · cases h

/-! ### The accesses of an SDO transfer -/

/-- The port while its access is under way. -/
def State.sdoOpen (s : State) (c : Fin 2) : State := s.modCan c fun x => { x with sdo := .idle, executing := true }

theorem sdoOpen_self (s : State) (c : Fin 2) : (s.sdoOpen c).can[c] = { s.can[c] with sdo := .idle, executing := true } :=
  modCan_self s c _

theorem sdoAccess_eq (s : State) (c : Fin 2) (k : Key) (d : Option Bytes) (seg : Option Bool) :
    s.sdoAccess c k d seg = (s.sdoOpen c).perform (canPort c) k d (.sdo c k seg) := rfl

theorem sdoOpen_writeChecks (s : State) (c : Fin 2) (p : Port) (k : Key) (d : Bytes) :
    ((s.sdoOpen c).beat p).writeChecks p k d = (s.beat p).writeChecks p k d := rfl

theorem answer_sdo_abort (s : State) (c : Fin 2) (k : Key) (seg : Option Bool) {a : Nat} (d : Bytes) (ha : a ≠ 0) :
    s.answer (.sdo c k seg) a d = (s.modCan c fun x => { x with executing := false }).canSend c (sdoAbort k a) := if_pos ha

theorem refuse_parts {n : Nak} (w : State) (p : Port) (k : Key) (h : n.Plain) :
    w.refuse p k n = { w with dev := (w.refuse p k n).dev, regs := (w.refuse p k n).regs } ∧
      w.OneReg (w.refuse p k n) Reg.DEV_REFUSE_CNT (satInc 32 (w.reg Reg.DEV_REFUSE_CNT)) := by
  rw [State.refuse_eq w p k h.1 h.2.1]
  exact ⟨rfl, oneReg_bump w _⟩

/-- An access that is refused ends its transfer with its abort. -/
theorem sdoRefused {s : State} {c : Fin 2} {k : Key} {n : Nak} (hplain : n.Plain) (hc : s.Calm) {t : State}
    (ht : t = (((s.sdoOpen c).beat (canPort c)).refuse (canPort c) k n).answer (.sdo c k none) n.abort []) :
    t.Calm ∧ t.can[c].executing = false ∧ t.can[c].sdo = .idle ∧
      s.OneReg t Reg.DEV_REFUSE_CNT (satInc 32 (s.reg Reg.DEV_REFUSE_CNT)) ∧
      (s.netDue ⟨c.val + 2, by omega⟩ = false → t.can[c].sent = sdoAbort k n.abort) := by
  obtain ⟨w, hw⟩ : ∃ w, w = (s.sdoOpen c).beat (canPort c) := ⟨_, rfl⟩
  have hwcan : w.can[c] = { s.can[c] with sdo := .idle, executing := true } := by
    rw [hw]
    exact sdoOpen_self s c
  have hwdue : w.netDue ⟨c.val + 2, by omega⟩ = s.netDue ⟨c.val + 2, by omega⟩ := by rw [hw]; rfl
  have hwreg : w.reg = s.reg := by rw [hw]; rfl
  have hwcalm : w.Calm := hw ▸ hc
  rw [← hw, answer_sdo_abort _ _ _ _ _ hplain.2.2] at ht
  clear hw
  obtain ⟨hparts, hone⟩ := refuse_parts w (canPort c) k hplain
  have hrcalm := refuse_calm w (canPort c) k hplain.1 hplain.2.1 hwcalm
  generalize w.refuse (canPort c) k n = r at *
  obtain ⟨v, hv⟩ : ∃ v, v = r.modCan c fun x => { x with executing := false } := ⟨_, rfl⟩
  rw [← hv] at ht
  have hcan : v.can[c] = { s.can[c] with sdo := .idle, executing := false } := by
    have hrcan : r.can = w.can := by rw [hparts]
    rw [hv, modCan_self, hrcan, hwcan]
  have hdue : v.netDue ⟨c.val + 2, by omega⟩ = s.netDue ⟨c.val + 2, by omega⟩ := by
    rw [← hwdue, hv, hparts]
    rfl
  have hvone : s.OneReg v Reg.DEV_REFUSE_CNT (satInc 32 (s.reg Reg.DEV_REFUSE_CNT)) := by
    unfold State.OneReg State.SameRegs at hone ⊢
    rw [hwreg] at hone
    rw [hv]
    exact hone
  have hvcalm : v.Calm := hv ▸ hrcalm
  clear hv
  obtain ⟨hsparts, -, hout⟩ := canSend_sends c (sdoAbort k n.abort) v
  rw [← ht] at hsparts hout
  refine ⟨ht ▸ canSend_calm c _ hvcalm, ?_, ?_, ?_, fun h => ?_⟩
  · rw [hout]
    split <;> rw [hcan]
  · rw [hout]
    split <;> rw [hcan]
  · rw [hsparts]
    exact hvone
  · rw [hout, if_neg (by rw [hdue, h]; decide)]

theorem answer_sdo_data (s : State) (c : Fin 2) (k : Key) {d : Bytes} (hd : d ≠ []) :
    s.answer (.sdo c k none) 0 d = (s.modCan c fun x => { x with executing := false }).sdoUpload c k d := by
  cases d with
  | nil => exact absurd rfl hd
  | cons b d => rfl

section
variable {c : Fin 2} {f : Bytes} {cmd : Nat} {k : Key} {s : State} (hc : s.Calm)
  (hexec : exec (.sdoRequest c f) s = done (s.sdoServe c f)) (hcmd : cmd = leNat (f.take 1))
  (hg : s.gate (canPort c) = .ready) (hk : k = leNat (sliceB 1 2 f) * 256 + leNat (sliceB 3 1 f))
include hc hexec hcmd hg hk

theorem sdo_upload_refused (hn : cmd / 32 = 2) {n : Nak} (hr : State.readChecks (canPort c) k = .error n) :
    ∃ t, exec (.sdoRequest c f) s = .next t ∧ t.can[c].executing = false ∧ t.can[c].sdo = .idle ∧
      s.OneReg t Reg.DEV_REFUSE_CNT (satInc 32 (s.reg Reg.DEV_REFUSE_CNT)) ∧
      (s.netDue ⟨c.val + 2, by omega⟩ = false → t.can[c].sent = sdoAbort k n.abort) := by
  obtain ⟨hcalm, hfacts⟩ := sdoRefused (s := s) (k := k) (readChecks_plain hr) hc rfl
  refine ⟨_, (sdoRequest_by hexec hcmd hn hk).trans ?_, hfacts⟩
  exact (congrArg done (perform_read_error (s := s.sdoOpen c) (.sdo c k none) hg hr)).trans (done_calm _ hcalm)

omit hc in
theorem sdo_upload_answered (hn : cmd / 32 = 2) {o : Obj} {u : State} {d : Bytes} (hr : State.readChecks (canPort c) k = .ok o)
    (ho : ((s.sdoOpen c).beat (canPort c)).readObj (canPort c) k o = .ok (u, d)) (hu : u.Calm) (hd : d ≠ []) :
    (d.length ≤ 4 → exec (.sdoRequest c f) s =
      .next ((u.modCan c fun x => { x with executing := false }).canSend c (sdoFrame (0x43 + (4 - d.length) * 4) k d))) ∧
    (4 < d.length → exec (.sdoRequest c f) s = .next ((u.modCan c fun x =>
      { x with executing := false, sdo := .upload k d false }).canSend c (sdoFrame 0x41 k (leBytes 4 d.length)))) := by
  have hserved := (sdoRequest_by hexec hcmd hn hk).trans
    (congrArg done ((perform_read_ok (s := s.sdoOpen c) (.sdo c k none) hg hr ho).trans (answer_sdo_data u c k hd)))
  refine ⟨fun hl => ?_, fun hl => ?_⟩
  · have hshort : (u.modCan c fun x => { x with executing := false }).sdoUpload c k d =
        (u.modCan c fun x => { x with executing := false }).canSend c (sdoFrame (0x43 + (4 - d.length) * 4) k d) := if_pos hl
    rw [hserved, hshort]
    exact done_calm _ (canSend_calm c _ hu)
  · have hlong : (u.modCan c fun x => { x with executing := false }).sdoUpload c k d = (u.modCan c fun x =>
        { x with executing := false, sdo := .upload k d false }).canSend c (sdoFrame 0x41 k (leBytes 4 d.length)) := by
      refine (if_neg (not_le.2 hl)).trans ?_
      unfold State.modCan
      rw [vmod_vmod]
      rfl
    have hcalm : (u.modCan c fun x => { x with executing := false, sdo := .upload k d false }).Calm := hu
    rw [hserved, hlong]
    exact done_calm _ (canSend_calm c _ hcalm)

variable (hn : cmd / 32 = 1) (hsized : bitN cmd 1 = true) (hshort : bitN cmd 0 = true) {d : Bytes}
  (hd : d = (f.drop 4).take (4 - cmd / 4 % 4))
include hn hsized hshort hd

omit hc hg in
theorem sdo_expedited : exec (.sdoRequest c f) s = done ((s.sdoOpen c).perform (canPort c) k (some d) (.sdo c k none)) := by
  refine (sdoRequest_by hexec hcmd hn hk).trans (congrArg done ?_)
  unfold State.sdoBy State.sdoDownload
  rw [if_pos hsized, hd]
  dsimp only
  rw [if_pos hshort]
  rfl

theorem sdo_write_refused {n : Nak} (hw : (s.beat (canPort c)).writeChecks (canPort c) k d = .error n) (hs : n ≠ nakSched)
    (hrole : n ≠ nakRole) :
    ∃ t, exec (.sdoRequest c f) s = .next t ∧ t.can[c].executing = false ∧ t.can[c].sdo = .idle ∧
      s.OneReg t Reg.DEV_REFUSE_CNT (satInc 32 (s.reg Reg.DEV_REFUSE_CNT)) ∧
      (s.netDue ⟨c.val + 2, by omega⟩ = false → t.can[c].sent = sdoAbort k n.abort) := by
  obtain ⟨hcalm, hfacts⟩ := sdoRefused (s := s) (k := k) ⟨hs, hrole, writeChecks_abort hw⟩ hc rfl
  refine ⟨_, (sdo_expedited hexec hcmd hk hn hsized hshort hd).trans ?_, hfacts⟩
  rw [perform_write_error (s := s.sdoOpen c) _ hg ((sdoOpen_writeChecks s c _ k d).trans hw)]
  exact done_calm _ hcalm

theorem sdo_write_answered {o : Obj} {v : Int} (hbusy : s.portBusy (canPort c) = false)
    (hw : (s.beat (canPort c)).writeChecks (canPort c) k d = .ok (o, v)) (ho : findObj k = some o) (ha : o.acc = .rws)
    (hown : ownCheck (canPort c) ((s.sdoOpen c).beat (canPort c)) (overlay s.reg [(k, v)]) k v = .ok ())
    (hp : plainAt (canPort c) k v) (hgen : k ≠ Reg.CFG_GEN) :
    ∃ t, exec (.sdoRequest c f) s = .next t ∧ s.Visible t k v ∧
      t = { s.beat (canPort c) with regs := t.regs, can := t.can } ∧ (∀ j, j ≠ c → t.can[j] = s.can[j]) ∧
      t.can[c].executing = false ∧ t.can[c].sdo = .idle ∧
      (s.netDue ⟨c.val + 2, by omega⟩ = false → t.can[c].sent = sdoFrame 0x60 k []) := by
  obtain ⟨w, hw₀⟩ : ∃ w, w = (s.sdoOpen c).beat (canPort c) := ⟨_, rfl⟩
  have hwparts : w = { s.beat (canPort c) with can := w.can } := by rw [hw₀]; rfl
  have hwcan : w.can[c] = { s.can[c] with sdo := .idle, executing := true } := by
    rw [hw₀]
    exact sdoOpen_self s c
  have hwne : ∀ j : Fin 2, j ≠ c → w.can[j] = s.can[j] := fun j hj => by rw [hw₀]; exact modCan_ne s hj _
  have hreg : w.reg = s.reg := by rw [hwparts]; rfl
  have hvisible : s.Visible (w.setReg k v).cfgGen k v := by
    have h := visible_cfgGen (s := w) (u := w.setReg k v) hgen fun _ => rfl
    unfold State.Visible at h ⊢
    rw [← hreg]
    exact h
  have heff : State.dictEffect (canPort c) (.sdo c k none) k d o v w = ((w.setReg k v).cfgGen, none) := by
    rw [dictEffect_rws _ ho ha, effRws_plain (by rw [hreg, hw₀]; exact hown) hp]
    rfl
  have hfree : (w.setReg k v).cfgGen.portBusy (canPort c) = false := by
    rw [hwparts]
    exact hbusy
  have hperform := perform_write_ok (s := s.sdoOpen c) (.sdo c k none) hg ((sdoOpen_writeChecks s c _ k d).trans hw)
    (hw₀ ▸ heff) hfree
  obtain ⟨x, hx⟩ : ∃ x, x = (w.setReg k v).cfgGen.modCan c fun x => { x with executing := false } := ⟨_, rfl⟩
  have hanswer : (w.setReg k v).cfgGen.answer (.sdo c k none) 0 [] = x.canSend c (sdoFrame 0x60 k []) := by rw [hx]; rfl
  have hxparts : x = { s.beat (canPort c) with regs := x.regs, can := x.can } := by rw [hx, hwparts]; rfl
  have hxcan : x.can[c] = { s.can[c] with sdo := .idle, executing := false } := by
    rw [hx, modCan_self]
    exact congrArg (fun y : Can => { y with executing := false }) hwcan
  have hxne : ∀ j : Fin 2, j ≠ c → x.can[j] = s.can[j] := fun j hj => by
    rw [hx, modCan_ne _ hj]
    exact hwne j hj
  have hxvisible : s.Visible x k v := by rw [hx]; exact hvisible
  have hserved := sdo_expedited hexec hcmd hk hn hsized hshort hd
  rw [hperform, hanswer] at hserved
  clear hx hw₀ hperform hanswer
  have hdue : x.netDue ⟨c.val + 2, by omega⟩ = s.netDue ⟨c.val + 2, by omega⟩ := by rw [hxparts]; rfl
  obtain ⟨hparts, hne, hout⟩ := canSend_sends c (sdoFrame 0x60 k []) x
  generalize x.canSend c (sdoFrame 0x60 k []) = t at *
  have hquiet : t.floor.request = false := by
    rw [hparts, hxparts]
    exact hc.1
  refine ⟨t, hserved.trans (done_quiet hquiet), ?_, ?_, fun j hj => (hne j hj).trans (hxne j hj), ?_, ?_, fun h => ?_⟩
  · rw [hparts]
    exact hxvisible
  · rw [hparts, hxparts]
  · rw [hout]
    split <;> rw [hxcan]
  · rw [hout]
    split <;> rw [hxcan]
  · rw [hout, if_neg (by rw [hdue, h]; decide)]

end

/-- Settles O54: a reply goes out or waits behind the due frames, a read is answered by the port that asked, and an SDO
transfer is served by its command specifier. -/
theorem ethernetAndCanAnswerCountAndRecover : Obligations.EthernetAndCanAnswerCountAndRecover := by
  unfold Obligations.EthernetAndCanAnswerCountAndRecover
  refine ⟨fun k r s => ethSend_sends k r s, fun c b s => canSend_sends c b s, ?_, ?_, ?_, ?_, ?_, fun c s hc hon => sdoTimeout hc hon,
    fun c k code s => sdoStop_stops c k code s, fun p c s hc ha => canRecover_starts hc ha, fun c s hc ha => ⟨busoff_recovered hc ha, ?_⟩⟩
  · intro k dst mac ip udp b s c hon ht hip
    refine ⟨datagram_damaged c hon ht hip, fun hok a hpeer hne => ⟨_, datagram_foreign c hon ht hip hok hpeer hne, rfl⟩,
      fun hok hpeer => ⟨fun hbusy => ⟨_, datagram_busy c hon ht hip hok hpeer hbusy, rfl⟩, fun hfree req rep hlast hseq => ?_⟩,
      fun hok hop hg hfree hpeer => ?_⟩
    · have hexec := datagram_repeated (dst := dst) (mac := mac) c hon ht hip hok hpeer hfree hlast hseq
      exact ⟨fun he => ⟨_, hexec.trans (by rw [if_pos he]), rfl⟩, fun he => ⟨_, hexec.trans (by rw [if_neg he]), rfl⟩⟩
    · rcases hpeer with hnone | ⟨hknown, hlast⟩
      · exact datagram_read c hon ht hip hok hop hg rfl (first_learned hnone hfree)
      · have hu := (learnPeer_known (peer_counted hknown) (ip, udp)).symm
        exact datagram_read c hon ht hip hok hop hg hu (known_learned hknown hfree hlast)
  · intro k target dst mac ip udp body s c hon
    obtain ⟨hfiltered, hfcs, hoverrun⟩ := frame_discarded c hon
    exact ⟨frame_elsewhere c hon, frame_taken c hon, hfiltered, hfcs, hoverrun⟩
  · intro k dst src rest s c hon frame hframe
    exact ⟨ptpFrame_unreadable hframe c hon, fun hl ho => ⟨ptpFrame_filtered hframe c hon hl ho, fun h =>
      ⟨ptpFrame_kept hframe c hon hl ho h, ptpFrame_overflows hframe c hon hl ho h⟩⟩⟩
  · intro k speed s c ha m
    exact ethLinkChange_shows c ha m
  · intro c f cmd s hc hon hl hfree hbusy hcmd
    have hexec := sdoRequest_served hon hl hfree hbusy
    exact ⟨sdo_aborted hc hexec hcmd, sdo_segment_unasked hc hexec hcmd, fun hn hb k hk => sdo_download_starts hc hexec hcmd hn hb hk,
      fun hn k got tg hs => sdo_download_segment hc hexec hcmd hn hs, fun hn k rest tg hs h => sdo_upload_segment hc hexec hcmd hn hs h,
      fun hn hg k hk n hr => sdo_upload_refused hc hexec hcmd hg hk hn hr,
      fun hn hg k hk o u d hr ho hu hd => sdo_upload_answered hexec hcmd hg hk hn hr ho hu hd,
      fun hn hsized hshort hg k hk d hd => ⟨fun n hw hs hrole => sdo_write_refused hc hexec hcmd hg hk hn hsized hshort hd hw hs hrole,
        fun o v hw ho ha hown hp hgen => sdo_write_answered hc hexec hcmd hg hk hn hsized hshort hd hbusy hw ho ha hown hp hgen⟩,
      fun hn k hk => sdo_unknown hc hexec hcmd hn hk⟩
  · intro tec rec hoff hbus m₄ m₆
    obtain ⟨t, hexec, htq, hcan, hframe, hregs, hoffs, hpassive⟩ := canBusError_states (tec := tec) (rec := rec) hc ha hoff hbus m₄ m₆
    refine ⟨t, hexec, hframe, fun q => ?_, fun j hj => ?_, ?_, hregs, hoffs, hpassive⟩
    · rw [htq]
      exact canErrors_queues s c tec rec q
    · rw [hcan]
      exact canErrors_ne s hj tec rec
    · rw [hcan]
      exact canErrors_self s c tec rec

end Sys2Proof.Machine
end

section
/-!
PROOFS. Staging, pushing and flushing the transmit queues (R296 to R300).
-/

namespace Sys2Proof.Machine

set_option Elab.async false

/-! ### Staging (R297) -/

theorem store_find (m : Memory) (a i : Nat) (bs : Bytes) :
    SMap.find 0#8 (m.store a bs) i = if a ≤ i ∧ i < a + bs.length then bs.getD (i - a) 0#8 else SMap.find 0#8 m i := by
  induction bs generalizing m a with
  | nil => exact (if_neg (by rw [List.length_nil]; omega)).symm
  | cons b bs ih =>
    have hstore : m.store a (b :: bs) = Memory.store (SMap.put 0#8 m a b) (a + 1) bs := rfl
    rw [hstore, ih, List.length_cons]
    by_cases hi : a = i
    · subst hi
      rw [if_neg (by omega), if_pos ⟨le_refl a, by omega⟩, SMap.find_put_self, Nat.sub_self, List.getD_cons_zero]
    · rw [SMap.find_put_ne _ _ _ _ hi]
      by_cases hin : a + 1 ≤ i ∧ i < a + 1 + bs.length
      · obtain ⟨j, rfl⟩ := Nat.exists_eq_add_of_le hin.1
        rw [if_pos hin, if_pos ⟨by omega, by omega⟩, show a + 1 + j - (a + 1) = j by omega, show a + 1 + j - a = j + 1 by omega,
          List.getD_cons_succ]
      · rw [if_neg hin, if_neg (by omega)]

theorem tqStageData_writes {p : Port} {q : Fin 16} {data : Bytes} {v : Int} {s : State} {o : Nat} (c : s.Calm)
    (ha : s.Admits p (Reg.TQ_STAGE_DATA q) data v) (ho : o = s.regN (Reg.TQ_STAGE_OFS q)) :
    ∃ t, exec (.tqStageData p q data) s = .next t ∧ t = { s.beat p with tq := t.tq, regs := t.regs } ∧
      s.OneReg t (Reg.TQ_STAGE_OFS q) (Int.ofNat ((o + 256) % 1024)) ∧ (∀ j, j ≠ q → t.tq[j] = s.tq[j]) ∧
      t.tq[q] = { s.tq[q] with staging := t.tq[q].staging } ∧
      ∀ i, SMap.find 0#8 t.tq[q].staging i =
        if o ≤ i ∧ i < o + data.length then data.getD (i - o) 0#8 else SMap.find 0#8 s.tq[q].staging i := by
  subst ho
  obtain ⟨u, hu⟩ : ∃ u, u = (s.beat p).modTq q fun t => { t with staging := t.staging.store (s.regN (Reg.TQ_STAGE_OFS q)) data } :=
    ⟨_, rfl⟩
  have hself : u.tq[q] = { s.tq[q] with staging := s.tq[q].staging.store (s.regN (Reg.TQ_STAGE_OFS q)) data } := by
    rw [hu]
    exact modTq_self (s.beat p) q _
  have hothers : ∀ j : Fin 16, j ≠ q → u.tq[j] = s.tq[j] := fun j hj => by rw [hu]; exact modTq_ne (s.beat p) hj _
  have hparts : u = { s.beat p with tq := u.tq } := by rw [hu]; rfl
  have heff : effStage q data (s.beat p) = .ok (u.setReg (Reg.TQ_STAGE_OFS q) (Int.ofNat ((s.regN (Reg.TQ_STAGE_OFS q) + 256) % 1024))) := by
    rw [hu]
    rfl
  have hone := oneReg_setReg u (Reg.TQ_STAGE_OFS q) (Int.ofNat ((s.regN (Reg.TQ_STAGE_OFS q) + 256) % 1024))
  have hreg : u.reg = s.reg := by rw [hparts]; rfl
  have hquiet : u.floor.request = false := by rw [hparts]; exact c.1
  clear hu
  obtain ⟨t, ht⟩ : ∃ t, t = u.setReg (Reg.TQ_STAGE_OFS q) (Int.ofNat ((s.regN (Reg.TQ_STAGE_OFS q) + 256) % 1024)) := ⟨_, rfl⟩
  have htparts : t = { u with regs := t.regs } := by rw [ht]; rfl
  have htq : t.tq = u.tq := by rw [htparts]
  rw [← ht] at heff hone
  clear ht
  refine ⟨t, hostWrite_next (eff := fun _ => effStage q data) ha heff (by rw [htparts]; exact hquiet), ?_, ?_, fun j hj => ?_, ?_, fun i => ?_⟩
  · rw [htparts, hparts]
  · unfold State.OneReg State.SameRegs at hone ⊢
    rw [← hreg]
    exact hone
  · rw [htq]
    exact hothers j hj
  · rw [htq, hself]
  · rw [htq, hself]
    exact store_find _ _ i data

/-! ### Pushing (R297, R300) -/

section
variable {p : Port} {q : Fin 16} {desc : Bytes} {v : Int} {s : State} {d : Desc} (c : s.Calm)
  (ha : s.Admits p (Reg.TQ_PUSH q) desc v)
include c ha

theorem tqPush_queues (hraw : d.raw = descMask desc) (hframe : d.frame = s.tq[q].staging.load 0 d.len) (hstream : d.stream = none)
    (hactive : d.active = false) (hheader : d.header = 0)
    (hinstant : d.instant = s.instantOf d.launch (bitN (leNat (sliceB 6 1 (descMask desc))) 0))
    (hok : descOk q (descMask desc) = true) (hroom : (!s.streamOwns q && decide (s.tq[q].descs.length < 16)) = true) :
    ∃ t, exec (.tqPush p q desc) s = .next t ∧ t = { s.beat p with tq := t.tq } ∧ (∀ j, j ≠ q → t.tq[j] = s.tq[j]) ∧
      t.tq[q] = { s.tq[q] with descs := s.tq[q].descs ++ [d] } := by
  have hd : d = {
      raw := descMask desc
      frame := s.tq[q].staging.load 0 d.len
      instant := s.instantOf d.launch (bitN (leNat (sliceB 6 1 (descMask desc))) 0)
      stream := none } := by
    obtain ⟨raw, frame, instant, stream, active, header⟩ := d
    simp only at hraw hframe hstream hactive hheader hinstant
    rw [Desc.mk.injEq]
    exact ⟨hraw, hframe, hinstant, hstream, hactive, hheader⟩
  have hlen : d.len = leNat (sliceB 4 2 (descMask desc)) := by
    unfold Desc.len
    rw [hraw]
  have hlaunch : d.launch = BitVec.ofNat 32 (leNat (sliceB 0 4 (descMask desc))) := by
    unfold Desc.launch
    rw [hraw]
  rw [hlen, hlaunch] at hd
  have heff : effPush q desc (s.beat p) = .ok ((s.beat p).modTq q fun t => { t with descs := t.descs ++ [d] }) := by
    unfold effPush
    dsimp only
    rw [hok, show (!(s.beat p).streamOwns q && decide ((s.beat p).tq[q].descs.length < 16)) = true from hroom, hd]
    rfl
  exact ⟨_, hostWrite_next (eff := fun _ => effPush q desc) ha heff c.1, rfl, fun j hj => modTq_ne (s.beat p) hj _, modTq_self (s.beat p) q _⟩

theorem tqPush_full (hok : descOk q (descMask desc) = true)
    (hroom : (!s.streamOwns q && decide (s.tq[q].descs.length < 16)) = false) :
    ∃ t, exec (.tqPush p q desc) s = .next t ∧ s.RefusedAs t p (Reg.TQ_PUSH q) nakCond := by
  refine hostWrite_refusedAs (eff := fun _ => effPush q desc) c ha ?_ (by decide) (by decide)
  unfold effPush
  dsimp only
  rw [hok, show (!(s.beat p).streamOwns q && decide ((s.beat p).tq[q].descs.length < 16)) = false from hroom]
  rfl

theorem tqPush_unfit (hok : descOk q (descMask desc) = false) :
    ∃ t, exec (.tqPush p q desc) s = .next t ∧ s.RefusedAs t p (Reg.TQ_PUSH q) nakRange := by
  refine hostWrite_refusedAs (eff := fun _ => effPush q desc) c ha ?_ (by decide) (by decide)
  unfold effPush
  dsimp only
  rw [hok]
  rfl

end

/-! ### Completions (R298) -/

theorem completion_result (tag result egress frac len launch : Nat) :
    sliceB 2 1 (leBytes 2 tag ++ leBytes 1 result ++ leBytes 1 0 ++ leBytes 4 egress ++ leBytes 2 frac ++ leBytes 2 len ++
      leBytes 4 launch) = [BitVec.ofNat 8 result] := by
  simp only [List.append_assoc]
  exact sliceB_prefix (pre := leBytes 2 tag) (a := leBytes 1 result) rfl rfl

theorem flushReplies_parts (s : State) (net : Fin 4) :
    s.flushReplies net = { s with eth := (s.flushReplies net).eth, can := (s.flushReplies net).can } := by
  unfold State.flushReplies
  split
  · rfl
  · split <;> rfl

/-- What a removal without transmission leaves. -/
structure Dropped (s t : State) (q : Fin 16) (d : Desc) (result : Nat) : Prop where
  parts : t = { s with tq := t.tq, fresh := s.fresh + 1 }
  others : ∀ j : Fin 16, j ≠ q → t.tq[j] = s.tq[j]
  descs : t.tq[q].descs = s.tq[q].descs.erase d
  sending : t.tq[q].sending = s.tq[q].sending
  compl : ∃ c, t.tq[q].compl = (c :: s.tq[q].compl).take 16 ∧ sliceB 2 1 c = [BitVec.ofNat 8 result]

theorem dropDesc_drops (s : State) (q : Fin 16) (d : Desc) (result : Nat) : Dropped s (s.dropDesc q d result) q d result := by
  obtain ⟨u, hu⟩ : ∃ u, u = s.draw.modTq q fun t =>
    { t with descs := t.descs.erase d, late := t.late && (t.sending || t.descs.head? ≠ some d) } := ⟨_, rfl⟩
  obtain ⟨c, hc⟩ : ∃ c, c = leBytes 2 d.tag ++ leBytes 1 result ++ leBytes 1 0 ++ leBytes 4 (Config.unstated s.fresh % 2 ^ 32) ++
    leBytes 2 (Config.unstated s.fresh / 2 ^ 32) ++ leBytes 2 d.len ++ leBytes 4 d.launch.toNat := ⟨_, rfl⟩
  have hdrop : s.dropDesc q d result = u.modTq q fun t => { t with compl := (c :: t.compl).take 16 } := by
    rw [hu, hc]
    rfl
  have hself : u.tq[q] = { s.tq[q] with
      descs := s.tq[q].descs.erase d, late := s.tq[q].late && (s.tq[q].sending || s.tq[q].descs.head? ≠ some d) } := by
    rw [hu]
    exact modTq_self s.draw q _
  have hothers : ∀ j : Fin 16, j ≠ q → u.tq[j] = s.tq[j] := fun j hj => by rw [hu]; exact modTq_ne s.draw hj _
  have hparts : u = { s with tq := u.tq, fresh := s.fresh + 1 } := by rw [hu]; rfl
  rw [hdrop]
  refine ⟨?_, fun j hj => (modTq_ne u hj _).trans (hothers j hj), ?_, ?_, c, ?_, hc ▸ completion_result ..⟩
  · rw [hparts]
    rfl
  · rw [modTq_self, hself]
  · rw [modTq_self, hself]
  · rw [modTq_self, hself]

end Sys2Proof.Machine
end

section
/-!
PROOFS. Flushing a transmit queue (R299) and putting its head on the medium (R249, R296, R300).
-/

namespace Sys2Proof.Machine

set_option Elab.async false

/-! ### Flushing (R299) -/

/-- The newest `m` completions say FLUSHED, as far as 16 are kept. -/
def flushedUpTo (l : List Bytes) (m : Nat) : Prop :=
  ∀ i, i < 16 → i < m → ∃ c, l[i]? = some c ∧ sliceB 2 1 c = [3#8]

theorem flushedUpTo_cons {l : List Bytes} {m : Nat} {c : Bytes} (h : flushedUpTo l m) (hc : sliceB 2 1 c = [3#8]) :
    flushedUpTo ((c :: l).take 16) (m + 1) := by
  intro i hi hm
  rw [List.getElem?_take_of_lt hi]
  cases i with
  | zero => exact ⟨c, rfl, hc⟩
  | succ j =>
    rw [List.getElem?_cons_succ]
    exact h j (by omega) (by omega)

/-- What the removal of several frames leaves. -/
structure Flushed (s t : State) (q : Fin 16) (out : List Desc) : Prop where
  parts : t = { s with tq := t.tq, fresh := t.fresh }
  others : ∀ j : Fin 16, j ≠ q → t.tq[j] = s.tq[j]
  descs : t.tq[q].descs = s.tq[q].descs.diff out
  sending : t.tq[q].sending = s.tq[q].sending
  compl : ∀ m, flushedUpTo s.tq[q].compl m → flushedUpTo t.tq[q].compl (out.length + m)

theorem each_dropDesc (q : Fin 16) (out : List Desc) (s : State) : Flushed s (s.each out fun s d => s.dropDesc q d 3) q out := by
  unfold State.each
  induction out generalizing s with
  | nil => exact ⟨rfl, fun _ _ => rfl, rfl, rfl, fun m h => by rwa [List.length_nil, Nat.zero_add]⟩
  | cons d out ih =>
    have hdrop := dropDesc_drops s q d 3
    rw [List.foldl_cons]
    have hrest := ih (s.dropDesc q d 3)
    generalize s.dropDesc q d 3 = u at *
    obtain ⟨c, hcompl, hc⟩ := hdrop.compl
    refine ⟨?_, fun j hj => (hrest.others j hj).trans (hdrop.others j hj), ?_, hrest.sending.trans hdrop.sending, fun m hm => ?_⟩
    · rw [hrest.parts, hdrop.parts]
    · rw [hrest.descs, hdrop.descs, List.diff_cons]
    · have hflushed := hrest.compl (m + 1) (hcompl ▸ flushedUpTo_cons hm hc)
      rwa [List.length_cons, Nat.add_assoc, Nat.add_comm 1 m]

/-- A list less its own tail is its head. -/
theorem diff_drop_one (l : List Desc) : l.diff (l.drop 1) = l.take 1 := by
  cases l with
  | nil => rfl
  | cons h l =>
    have hsub : ((h :: l : List Desc) : Multiset Desc) - (l : Multiset Desc) = {h} := by
      rw [← Multiset.cons_coe, ← Multiset.singleton_add, add_tsub_cancel_right]
    exact Multiset.coe_eq_singleton.1 hsub

theorem diff_all (l : List Desc) : l.diff l = [] := by
  have hsub : ((l : Multiset Desc)) - (l : Multiset Desc) = 0 := tsub_self _
  exact (Multiset.coe_eq_zero _).1 hsub

theorem tqFlush_flushes {p : Port} {q : Fin 16} {s : State} (c : s.Calm) (ha : s.AdmitsCmd p (Reg.TQ_FLUSH q)) :
    ∃ t, exec (.tqFlush p q) s = .next t ∧
      t = { s.beat p with tq := t.tq, eth := t.eth, can := t.can, fresh := t.fresh } ∧ (∀ j, j ≠ q → t.tq[j] = s.tq[j]) ∧
      t.tq[q].descs = (if s.tq[q].sending then s.tq[q].descs.take 1 else []) ∧ t.tq[q].sending = s.tq[q].sending ∧
      ∀ i, i < 16 → i < (if s.tq[q].sending then s.tq[q].descs.drop 1 else s.tq[q].descs).length →
        ∃ c, t.tq[q].compl[i]? = some c ∧ sliceB 2 1 c = [3#8] := by
  obtain ⟨out, hout⟩ : ∃ out, out = if s.tq[q].sending then s.tq[q].descs.drop 1 else s.tq[q].descs := ⟨_, rfl⟩
  have heff : effFlush q (s.beat p) = .ok (((s.beat p).each out fun s d => s.dropDesc q d 3).flushReplies (netOf q)) := by
    rw [hout]
    rfl
  have hflushed := each_dropDesc q out (s.beat p)
  generalize (s.beat p).each out (fun s d => s.dropDesc q d 3) = u at *
  have hreplies := flushReplies_parts u (netOf q)
  generalize u.flushReplies (netOf q) = t at *
  have htq : t.tq = u.tq := by rw [hreplies]
  have hquiet : t.floor.request = false := by
    rw [hreplies, hflushed.parts]
    exact c.1
  rw [← hout]
  refine ⟨t, hostWrite_next (eff := fun _ => effFlush q) ha heff hquiet, ?_, fun j hj => ?_, ?_, ?_, fun i hi hl => ?_⟩
  · rw [hreplies, hflushed.parts]
  · rw [htq]
    exact hflushed.others j hj
  · rw [htq, hflushed.descs, hout]
    change s.tq[q].descs.diff _ = _
    split
    · exact diff_drop_one _
    · exact diff_all _
  · rw [htq]
    exact hflushed.sending
  · rw [htq]
    exact hflushed.compl 0 (fun _ _ h => absurd h (Nat.not_lt_zero _)) i hi hl

/-! ### The queue that is presented (R296) -/

theorem mem_netQueues {net : Fin 4} {q : Fin 16} : q ∈ netQueues net ↔ netOf q = net := by
  unfold netQueues
  rw [List.mem_filter, decide_eq_true_eq]
  exact ⟨fun h => h.2, fun h => ⟨List.mem_finRange q, h⟩⟩

theorem presents_sending {s : State} {net : Fin 4} {q : Fin 16} (hn : netOf q = net) (hs : s.tq[q].sending = true) :
    s.presents net = none :=
  if_pos (List.any_eq_true.2 ⟨q, mem_netQueues.2 hn, hs⟩)

/-- The lowest-numbered queue with a due head, on an idle medium. -/
theorem presents_some {s : State} {net : Fin 4} {q : Fin 16} (h : s.presents net = some q) :
    netOf q = net ∧ s.headDue q = true ∧ (∀ r : Fin 16, netOf r = net → s.headDue r = true → q ≤ r) ∧
      ∀ r : Fin 16, netOf r = net → s.tq[r].sending = false := by
  unfold State.presents at h
  split at h
  · cases h
  · next hidle =>
    rw [Bool.not_eq_true, List.any_eq_false] at hidle
    have hq := List.mem_of_find?_eq_some h
    refine ⟨mem_netQueues.1 hq, List.find?_some h, fun r hr hdue => ?_, fun r hr => Bool.not_eq_true _ ▸ hidle r (mem_netQueues.2 hr)⟩
    obtain ⟨-, before, after, hsplit, hbefore⟩ := List.find?_eq_some_iff_append.1 h
    have hsorted : (netQueues net).Pairwise (· ≤ ·) := (List.pairwise_le_finRange 16).filter _
    have hr' : r ∈ before ++ q :: after := hsplit ▸ mem_netQueues.2 hr
    rw [hsplit, List.pairwise_append] at hsorted
    rcases List.mem_append.1 hr' with hb | ha
    · have := hbefore r hb
      rw [hdue] at this
      exact absurd this (by decide)
    · rcases List.mem_cons.1 ha with rfl | ha
      · exact le_refl _
      · exact (List.pairwise_cons.1 hsorted.2.1).1 r ha

theorem tqFrameLaunch_none {net : Fin 4} {wins : Bool} {s : State} (c : s.Calm) (h : s.presents net = none) :
    exec (.tqFrameLaunch ⟨net, wins⟩) s = .next s := by
  change execTqFrameLaunch ⟨net, wins⟩ s = _
  unfold execTqFrameLaunch
  rw [h]
  split <;> exact done_calm _ c

end Sys2Proof.Machine
end

section
/-!
PROOFS. The launch of a due frame (R249, R296, R298, R300).
-/

namespace Sys2Proof.Machine

set_option Elab.async false

/-! ### What sending may change -/

/-- `s` with the queues, ports, registers and free numbers of `x`. -/
def State.withTx (s x : State) : State := { s with tq := x.tq, regs := x.regs, eth := x.eth, can := x.can, fresh := x.fresh }

/-- `t` differs from `s` by queues, ports, registers and free numbers, and by what raised sources may change. -/
def TxFrame (s t : State) : Prop := RaiseFrame (s.withTx t) t

theorem TxFrame.of_parts {s t : State} (h : t = s.withTx t) : TxFrame s t := by
  unfold TxFrame
  rw [← h]
  exact .refl t

theorem TxFrame.of_raise {s t : State} (h : RaiseFrame s t) : TxFrame s t :=
  { h with tq := rfl, eth := rfl, can := rfl, fresh := rfl, reg := fun _ _ => rfl, wf := fun h => h }

theorem TxFrame.trans {s t u : State} (h : TxFrame s t) (g : TxFrame t u) : TxFrame s u := by
  have hs : RaiseFrame (s.withTx u) (t.withTx u) :=
    { h with tq := rfl, eth := rfl, can := rfl, fresh := rfl, reg := fun _ _ => rfl, wf := fun h => h }
  exact hs.trans g

/-! ### The late mark (R300) -/

/-- A frame first found late is counted. -/
def State.lateMark (s : State) (q : Fin 16) (late : Bool) : State :=
  if late && !s.tq[q].late then (s.bump (Reg.TQ_LATE_CNT q)).pulse (978 + q.val) else s

/-- What the late mark leaves for the launch. -/
structure LateMarked (s u : State) (q : Fin 16) : Prop where
  frame : RaiseFrame { s with regs := u.regs } u
  regs : s.SameRegs u [Reg.TQ_LATE_CNT q, Reg.FC_LOG_LOST]
  calm : u.Calm
  mild : u.Mild 911

theorem lateKeys (q : Fin 16) : Reg.TQ_LATE_CNT q ≠ Reg.FC_LOG_LOST ∧ Reg.RED_HANDOVER_DROP_CNT ≠ Reg.TQ_LATE_CNT q ∧
    (Reg.TQ_LATE_CNT q < 0x500000 ∨ 0x550000 ≤ Reg.TQ_LATE_CNT q) ∧ 978 + q.val < 1280 ∧ 911 ≠ 978 + q.val := by
  decide +revert

/-- The keys that a launch goes by are not those of the late mark. -/
theorem sendKeys (q : Fin 16) : Reg.TIME_INC ∉ [Reg.TQ_LATE_CNT q, Reg.FC_LOG_LOST] ∧
    Reg.ETH_SPEED (portOf (netOf q)) ∉ [Reg.TQ_LATE_CNT q, Reg.FC_LOG_LOST] ∧
    Reg.PTP_EGR_LAT (portOf (netOf q)) ∉ [Reg.TQ_LATE_CNT q, Reg.FC_LOG_LOST] ∧
    Reg.PTP_EGR_ASYM (portOf (netOf q)) ∉ [Reg.TQ_LATE_CNT q, Reg.FC_LOG_LOST] ∧
    Reg.RED_HANDOVER_WIN ∉ [Reg.TQ_LATE_CNT q, Reg.FC_LOG_LOST] ∧
    Reg.TQ_LATE_POLICY q ∉ [Reg.TQ_LATE_CNT q, Reg.FC_LOG_LOST] ∧
    Reg.PTP_ENABLE (portOf (netOf q)) ∉ [Reg.TQ_LATE_CNT q, Reg.FC_LOG_LOST] := by
  decide +revert

theorem lateMark_marks {s : State} {q : Fin 16} (late : Bool) (c : s.Calm) (m : s.Mild (978 + q.val)) (m₁ : s.Mild 911) :
    LateMarked s (s.lateMark q late) q ∧
      (late = true → s.tq[q].late = false → (s.lateMark q late).reg (Reg.TQ_LATE_CNT q) = satInc 32 (s.reg (Reg.TQ_LATE_CNT q))) := by
  obtain ⟨hlost, -, hlow, hid, hne⟩ := lateKeys q
  unfold State.lateMark
  split
  · obtain ⟨hframe, hcnt, hregs⟩ := bumpPulse_facts s (978 + q.val) hlost
    have hmild := bump_mild s hlow hid m
    have hcalm := bump_calm s hlow c
    have hsrc := pulse_src_ne (s.bump (Reg.TQ_LATE_CNT q)) hne (by decide)
    exact ⟨⟨hframe, hregs, pulse_calm _ _ (.inr hmild) hcalm,
      (pulse_frame _ _).mild (by decide) hsrc (bump_mild s hlow (by decide) m₁)⟩, fun _ _ => hcnt⟩
  · next h =>
    refine ⟨⟨.refl s, fun _ _ => rfl, c, m₁⟩, fun hl hf => absurd ?_ h⟩
    rw [hl, hf]
    rfl

section
variable {s u : State} {q : Fin 16} (h : LateMarked s u q)
include h

theorem LateMarked.tx : TxFrame s u := TxFrame.trans (t := { s with regs := u.regs }) (.of_parts rfl) (.of_raise h.frame)

theorem LateMarked.reg {k : Key} (hk : k ∉ [Reg.TQ_LATE_CNT q, Reg.FC_LOG_LOST]) : u.reg k = s.reg k := h.regs k hk

theorem LateMarked.ext : u.ext = s.ext := by
  unfold State.ext State.timeNow
  rw [h.frame.time]

theorem LateMarked.pastWindow (d : Desc) : u.pastWindow d = s.pastWindow d := by
  unfold State.pastWindow
  rw [h.ext, h.reg (sendKeys q).2.2.2.2.1]

theorem LateMarked.egressStamp : u.egressStamp q = s.egressStamp q := by
  obtain ⟨hinc, hspeed, hlat, hasym, -⟩ := sendKeys q
  have hlink : u.ethLink (portOf (netOf q)) = s.ethLink (portOf (netOf q)) := by
    unfold State.ethLink State.regN
    rw [h.frame.eth, h.reg hspeed]
  have htime : u.time = s.time := h.frame.time
  unfold State.egressStamp State.countIn State.timeNow State.timeFrac
  dsimp only
  rw [htime, h.reg hinc, h.reg hlat, h.reg hasym, hlink]

end

/-! ### A head that is dropped (R249, R298) -/

theorem handover_low : Reg.RED_HANDOVER_DROP_CNT < 0x500000 ∨ 0x550000 ≤ Reg.RED_HANDOVER_DROP_CNT := by decide

/-- What a dropped head leaves. -/
structure HeadDropped (s t : State) (q : Fin 16) (rest : List Desc) (result : Nat) : Prop where
  frame : TxFrame s t
  others : ∀ j : Fin 16, j ≠ q → t.tq[j] = s.tq[j]
  regs : s.SameRegs t [Reg.RED_HANDOVER_DROP_CNT, Reg.FC_LOG_LOST]
  calm : t.Calm
  descs : t.tq[q].descs = rest
  sending : t.tq[q].sending = s.tq[q].sending
  compl : ∃ c, t.tq[q].compl = (c :: s.tq[q].compl).take 16 ∧ sliceB 2 1 c = [BitVec.ofNat 8 result]

theorem dropped_head {s t : State} {q : Fin 16} {d : Desc} {rest : List Desc} {result : Nat} (h : Dropped s t q d result)
    (hd : s.tq[q].descs = d :: rest) (c : s.Calm) : HeadDropped s t q rest result where
  frame := .of_parts (by rw [h.parts]; rfl)
  others := h.others
  regs := fun _ _ => by rw [h.parts]; rfl
  calm := by rw [h.parts]; exact c
  descs := by rw [h.descs, hd, List.erase_cons_head]
  sending := h.sending
  compl := h.compl

/-- The replies that waited leave the queues alone. -/
theorem HeadDropped.flush {s t : State} {q : Fin 16} {rest : List Desc} {result : Nat} (h : HeadDropped s t q rest result)
    (net : Fin 4) : HeadDropped s (t.flushReplies net) q rest result := by
  have hparts := flushReplies_parts t net
  generalize t.flushReplies net = u at *
  have htq : u.tq = t.tq := by rw [hparts]
  exact {
    frame := h.frame.trans (.of_parts (by rw [hparts]; rfl))
    others := fun j hj => by rw [htq]; exact h.others j hj
    regs := fun j hj => by rw [hparts]; exact h.regs j hj
    calm := by rw [hparts]; exact h.calm
    descs := by rw [htq]; exact h.descs
    sending := by rw [htq]; exact h.sending
    compl := by rw [htq]; exact h.compl }

theorem handover_drops {s : State} {q : Fin 16} {d : Desc} {rest : List Desc} (hd : s.tq[q].descs = d :: rest) (c : s.Calm)
    (m : s.Mild 911) : HeadDropped s (s.handover q d) q rest 5 := by
  have hdrop := dropDesc_drops s q d 5
  have hhead := dropped_head hdrop hd c
  have hmild : (s.dropDesc q d 5).Mild 911 := by rw [hdrop.parts]; exact m
  unfold State.handover
  generalize s.dropDesc q d 5 = u at *
  obtain ⟨-, -, hregs⟩ := bumpPulse_facts u (k := Reg.RED_HANDOVER_DROP_CNT) 911 (by decide)
  have hframe := pulse_frame (u.bump Reg.RED_HANDOVER_DROP_CNT) 911
  have hcalm := pulse_calm _ 911 (.inr (bump_mild u handover_low (by decide) hmild)) (bump_calm u handover_low hhead.calm)
  have htx : TxFrame u ((u.bump Reg.RED_HANDOVER_DROP_CNT).pulse 911) :=
    TxFrame.trans (t := u.bump Reg.RED_HANDOVER_DROP_CNT) (.of_parts rfl) (.of_raise hframe)
  have htq : ((u.bump Reg.RED_HANDOVER_DROP_CNT).pulse 911).tq = u.tq := hframe.tq
  generalize (u.bump Reg.RED_HANDOVER_DROP_CNT).pulse 911 = t at *
  exact {
    frame := hhead.frame.trans htx
    others := fun j hj => by rw [htq]; exact hhead.others j hj
    regs := fun j hj => (hregs j hj).trans (hhead.regs j hj)
    calm := hcalm
    descs := by rw [htq]; exact hhead.descs
    sending := by rw [htq]; exact hhead.sending
    compl := by rw [htq]; exact hhead.compl }

/-! ### TQ_FRAME_LAUNCH -/

/-- The head with what its presentation has found. -/
def State.onMedium (s : State) (q : Fin 16) (d : Desc) (wins late : Bool) : State :=
  s.modTq q fun t =>
    { t with
      sending := wins || isEth q, late := late
      unstamped := d.oneStep && !((oneStepType d.frame).isSome && s.flag (Reg.PTP_ENABLE (portOf (netOf q))))
      egress := (s.egressStamp q).1, egressFrac := (s.egressStamp q).2 }

theorem tqFrameLaunch_eq {net : Fin 4} {wins late : Bool} {q : Fin 16} {d : Desc} {rest : List Desc} {s : State}
    (ha : s.alive = true) (hready : s.netReady net = true) (hp : s.presents net = some q) (hd : s.tq[q].descs = d :: rest)
    (hl : late = decide (s.reg (Reg.TQ_LATE_TOL q) < s.ext - d.instant)) :
    exec (.tqFrameLaunch ⟨net, wins⟩) s = done (
      if (s.lateMark q late).pastWindow d then ((s.lateMark q late).handover q d).flushReplies (netOf q)
      else if late && (s.lateMark q late).reg (Reg.TQ_LATE_POLICY q) = 1 then
        ((s.lateMark q late).dropDesc q d 2).flushReplies (netOf q)
      else (s.lateMark q late).onMedium q d wins late) := by
  have hlaunch : exec (.tqFrameLaunch ⟨net, wins⟩) s = done (s.launch q d wins) := by
    change execTqFrameLaunch ⟨net, wins⟩ s = _
    unfold execTqFrameLaunch
    dsimp only
    rw [if_neg (by rw [ha, hready]; decide), hp]
    dsimp only
    rw [hd]
  rw [hlaunch, hl]
  rfl

/-- What every launch leaves alone. -/
structure Launch (s u t : State) (q : Fin 16) : Prop where
  others : ∀ j : Fin 16, j ≠ q → t.tq[j] = s.tq[j]
  frame : RaiseFrame { s with tq := t.tq, regs := t.regs, eth := t.eth, can := t.can, fresh := t.fresh } t
  regs : s.SameRegs t [Reg.TQ_LATE_CNT q, Reg.RED_HANDOVER_DROP_CNT, Reg.FC_LOG_LOST]
  count : t.reg (Reg.TQ_LATE_CNT q) = u.reg (Reg.TQ_LATE_CNT q)

theorem LateMarked.others {s u : State} {q : Fin 16} (h : LateMarked s u q) {j : Key}
    (hj : j ∉ [Reg.TQ_LATE_CNT q, Reg.RED_HANDOVER_DROP_CNT, Reg.FC_LOG_LOST]) : u.reg j = s.reg j := by
  simp only [List.mem_cons, List.not_mem_nil, or_false, not_or] at hj
  exact h.reg (by simp only [List.mem_cons, List.not_mem_nil, or_false, not_or]; exact ⟨hj.1, hj.2.2⟩)

/-- A head dropped after the late mark. -/
theorem LateMarked.dropped {s u t : State} {q : Fin 16} {rest : List Desc} {result : Nat} (h : LateMarked s u q)
    (g : HeadDropped u t q rest result) (hs : s.tq[q].sending = false) :
    Launch s u t q ∧ t.tq[q].descs = rest ∧ t.tq[q].sending = false ∧
      ∃ c, t.tq[q].compl = (c :: s.tq[q].compl).take 16 ∧ sliceB 2 1 c = [BitVec.ofNat 8 result] := by
  obtain ⟨hlost, hhand, -⟩ := lateKeys q
  have htq : u.tq = s.tq := h.frame.tq
  have hcompl := g.compl
  rw [htq] at hcompl
  refine ⟨⟨fun j hj => (g.others j hj).trans (by rw [htq]), h.tx.trans g.frame, fun j hj => ?_, g.regs _ ?_⟩, g.descs,
    g.sending.trans (by rw [htq, hs]), hcompl⟩
  · have hj' := hj
    simp only [List.mem_cons, List.not_mem_nil, or_false, not_or] at hj
    exact (g.regs j (by simp only [List.mem_cons, List.not_mem_nil, or_false, not_or]; exact hj.2)).trans (h.others hj')
  · simp only [List.mem_cons, List.not_mem_nil, or_false, not_or]
    exact ⟨hhand.symm, hlost⟩

/-- A head put on the medium after the late mark. -/
theorem LateMarked.onMedium {s u t : State} {q : Fin 16} {d : Desc} {wins late : Bool} (h : LateMarked s u q)
    (ht : t = u.onMedium q d wins late) : t.Calm ∧ Launch s u t q ∧ t.tq[q] = { s.tq[q] with
      sending := wins || isEth q, late := late, egress := (s.egressStamp q).1, egressFrac := (s.egressStamp q).2
      unstamped := d.oneStep && !((oneStepType d.frame).isSome && s.flag (Reg.PTP_ENABLE (portOf (netOf q)))) } := by
  obtain ⟨-, -, -, -, -, -, hptp⟩ := sendKeys q
  have htq : u.tq = s.tq := h.frame.tq
  have hflag : u.flag (Reg.PTP_ENABLE (portOf (netOf q))) = s.flag (Reg.PTP_ENABLE (portOf (netOf q))) := by
    unfold State.flag
    rw [h.reg hptp]
  have hself : t.tq[q] = { u.tq[q] with
      sending := wins || isEth q, late := late
      unstamped := d.oneStep && !((oneStepType d.frame).isSome && u.flag (Reg.PTP_ENABLE (portOf (netOf q))))
      egress := (u.egressStamp q).1, egressFrac := (u.egressStamp q).2 } := by
    rw [ht]
    exact modTq_self u q _
  have hothers : ∀ j : Fin 16, j ≠ q → t.tq[j] = u.tq[j] := fun j hj => by rw [ht]; exact modTq_ne u hj _
  have hparts : t = { u with tq := t.tq } := by rw [ht]; rfl
  have hcalm : t.Calm := ht ▸ h.calm
  clear ht
  have hreg : t.reg = u.reg := by rw [hparts]; rfl
  refine ⟨hcalm, ⟨fun j hj => (hothers j hj).trans (by rw [htq]), ?_, fun j hj => ?_, by rw [hreg]⟩, ?_⟩
  · have hframe : TxFrame u t := .of_parts (by rw [hparts]; rfl)
    exact h.tx.trans hframe
  · rw [hreg]
    exact h.others hj
  · rw [hself, htq, hflag, h.egressStamp]

theorem tqFrameLaunch_launches {net : Fin 4} {wins late : Bool} {q : Fin 16} {d : Desc} {rest : List Desc} {s : State}
    (c : s.Calm) (ha : s.alive = true) (hready : s.netReady net = true) (hp : s.presents net = some q)
    (hd : s.tq[q].descs = d :: rest) (m : s.Mild (978 + q.val)) (m₁ : s.Mild 911)
    (hl : late = decide (s.reg (Reg.TQ_LATE_TOL q) < s.ext - d.instant)) :
    ∃ t, exec (.tqFrameLaunch ⟨net, wins⟩) s = .next t ∧ (∀ j, j ≠ q → t.tq[j] = s.tq[j]) ∧
      RaiseFrame { s with tq := t.tq, regs := t.regs, eth := t.eth, can := t.can, fresh := t.fresh } t ∧
      s.SameRegs t [Reg.TQ_LATE_CNT q, Reg.RED_HANDOVER_DROP_CNT, Reg.FC_LOG_LOST] ∧
      (late = true → s.tq[q].late = false → t.reg (Reg.TQ_LATE_CNT q) = satInc 32 (s.reg (Reg.TQ_LATE_CNT q))) ∧
      (s.pastWindow d = true → t.tq[q].descs = rest ∧ t.tq[q].sending = false ∧
        ∃ c, t.tq[q].compl = (c :: s.tq[q].compl).take 16 ∧ sliceB 2 1 c = [5#8]) ∧
      (s.pastWindow d = false → late = true → s.reg (Reg.TQ_LATE_POLICY q) = 1 → t.tq[q].descs = rest ∧
        t.tq[q].sending = false ∧ ∃ c, t.tq[q].compl = (c :: s.tq[q].compl).take 16 ∧ sliceB 2 1 c = [2#8]) ∧
      (s.pastWindow d = false → (late = false ∨ s.reg (Reg.TQ_LATE_POLICY q) ≠ 1) → t.tq[q] = { s.tq[q] with
        sending := wins || isEth q, late := late, egress := (s.egressStamp q).1, egressFrac := (s.egressStamp q).2
        unstamped := d.oneStep && !((oneStepType d.frame).isSome && s.flag (Reg.PTP_ENABLE (portOf (netOf q)))) }) := by
  obtain ⟨hnet, -, -, hidle⟩ := presents_some hp
  have hs := hidle q hnet
  have hexec := tqFrameLaunch_eq (wins := wins) ha hready hp hd hl
  obtain ⟨hmarked, hcnt⟩ := lateMark_marks late c m m₁
  clear hl hp
  generalize s.lateMark q late = u at *
  have hud : u.tq[q].descs = d :: rest := by rw [hmarked.frame.tq, hd]
  have hpolicy : u.reg (Reg.TQ_LATE_POLICY q) = s.reg (Reg.TQ_LATE_POLICY q) := hmarked.reg (sendKeys q).2.2.2.2.2.1
  rw [hmarked.pastWindow, hpolicy] at hexec
  by_cases hpast : s.pastWindow d = true
  · rw [if_pos hpast] at hexec
    have hdrop := (handover_drops hud hmarked.calm hmarked.mild).flush (netOf q)
    obtain ⟨hlaunch, hfacts⟩ := hmarked.dropped hdrop hs
    exact ⟨_, hexec.trans (done_calm _ hdrop.calm), hlaunch.others, hlaunch.frame, hlaunch.regs,
      fun h₀ h₁ => hlaunch.count.trans (hcnt h₀ h₁), fun _ => hfacts, fun h => absurd (hpast.symm.trans h) (by decide),
      fun h => absurd (hpast.symm.trans h) (by decide)⟩
  · rw [if_neg hpast] at hexec
    by_cases hdrops : (late && decide (s.reg (Reg.TQ_LATE_POLICY q) = 1)) = true
    · rw [if_pos hdrops] at hexec
      rw [Bool.and_eq_true, decide_eq_true_eq] at hdrops
      have hdrop := (dropped_head (dropDesc_drops u q d 2) hud hmarked.calm).flush (netOf q)
      obtain ⟨hlaunch, hfacts⟩ := hmarked.dropped hdrop hs
      exact ⟨_, hexec.trans (done_calm _ hdrop.calm), hlaunch.others, hlaunch.frame, hlaunch.regs,
        fun h₀ h₁ => hlaunch.count.trans (hcnt h₀ h₁), fun h => absurd h hpast, fun _ _ _ => hfacts,
        fun _ h => h.elim (fun h => absurd (hdrops.1.symm.trans h) (by decide)) fun h => absurd hdrops.2 h⟩
    · rw [if_neg hdrops] at hexec
      rw [Bool.and_eq_true, decide_eq_true_eq] at hdrops
      obtain ⟨hcalm, hlaunch, hhead⟩ := hmarked.onMedium (d := d) (wins := wins) (late := late) rfl
      exact ⟨_, hexec.trans (done_calm _ hcalm), hlaunch.others, hlaunch.frame, hlaunch.regs,
        fun h₀ h₁ => hlaunch.count.trans (hcnt h₀ h₁), fun h => absurd h hpast, fun _ h₀ h₁ => absurd ⟨h₀, h₁⟩ hdrops,
        fun _ _ => hhead⟩

end Sys2Proof.Machine
end

section
/-!
PROOFS. Completed transmissions (R294, R298, R309), the receive ring (R312) and position streams (R161 to R163).
-/

namespace Sys2Proof.Machine

set_option Elab.async false

/-! ### A frame that has left (R298, R309) -/

/-- The frame as it went out, without its checksum. -/
def Tq.sentFrame (x : Tq) (d : Desc) : Bytes :=
  if d.oneStep && !x.unstamped then insertStamp d.frame (x.egress - d.launch).toInt x.egressFrac else d.frame

/-- The completion of a transmission. -/
def Tq.completion (x : Tq) (d : Desc) : Bytes :=
  leBytes 2 d.tag ++ leBytes 1 (if x.unstamped then 4 else if x.late then 1 else 0) ++ leBytes 1 0 ++ leBytes 4 x.egress.toNat ++
    leBytes 2 x.egressFrac ++ leBytes 2 d.len ++ leBytes 4 d.launch.toNat

/-- The queue once its head has left. -/
def Tq.sent (x : Tq) (d : Desc) (q : Fin 16) : Tq :=
  { x with
    descs := x.descs.drop 1, sending := false, late := false, unstamped := false
    wire := if isEth q then ethWire (x.sentFrame d) else x.sentFrame d
    compl := (x.completion d :: x.compl).take 16 }

/-- The frame counted and completed, before replies that waited leave. -/
def State.sentOff (s : State) (q : Fin 16) (d : Desc) : State :=
  (s.modTq q fun x => x.sent d q).bump (Reg.TQ_SENT_CNT q)

theorem frameDone_eq (s : State) (q : Fin 16) (d : Desc) : s.frameDone q d = (s.sentOff q d).flushReplies (netOf q) := by
  unfold State.frameDone State.sentOff State.complete State.modTq State.bump State.setReg
  dsimp only
  rw [vmod_vmod]
  rfl

theorem sentCnt_low (q : Fin 16) : (Reg.TQ_SENT_CNT q < 0x500000 ∨ 0x550000 ≤ Reg.TQ_SENT_CNT q) ∧
    Reg.TQ_SENT_CNT q ≠ Reg.FC_LOG_LOST := by decide +revert

/-- An Ethernet queue belongs to an Ethernet port, any other to a CAN port. -/
theorem netOf_isEth (q : Fin 16) : isEth q = decide ((netOf q).val < 2) := by decide +revert

theorem flushReplies_eth {net : Fin 4} (h : net.val < 2) (s : State) :
    s.flushReplies net = { s with eth := (s.flushReplies net).eth } ∧
      ∀ k, k ≠ portOf net → (s.flushReplies net).eth[k] = s.eth[k] := by
  by_cases hdue : s.netDue net = true
  · have hwait : s.flushReplies net = s := if_pos hdue
    rw [hwait]
    exact ⟨rfl, fun _ _ => rfl⟩
  · have hsend : s.flushReplies net = s.modEth (portOf net) fun x =>
        { x with sent := x.waiting.getLast?.or x.sent, waiting := [] } := (if_neg hdue).trans (if_pos h)
    rw [hsend]
    exact ⟨rfl, fun k hk => modEth_ne s hk _⟩

theorem flushReplies_can {net : Fin 4} (h : ¬ net.val < 2) (s : State) :
    s.flushReplies net = { s with can := (s.flushReplies net).can } ∧
      (∀ k, k ≠ portOf net → (s.flushReplies net).can[k] = s.can[k]) ∧
      (s.flushReplies net).can[portOf net].tec = s.can[portOf net].tec ∧
      (s.flushReplies net).can[portOf net].recErr = s.can[portOf net].recErr ∧
      (s.flushReplies net).can[portOf net].state = s.can[portOf net].state := by
  by_cases hdue : s.netDue net = true
  · have hwait : s.flushReplies net = s := if_pos hdue
    rw [hwait]
    exact ⟨rfl, fun _ _ => rfl, rfl, rfl, rfl⟩
  · have hsend : s.flushReplies net = s.modCan (portOf net) fun x =>
        match x.waiting.getLast? with
        | some b => { x with sent := b, sentId := s.sdoId (portOf net), waiting := [] }
        | none => x := (if_neg hdue).trans (if_neg h)
    rw [hsend]
    refine ⟨rfl, fun k hk => modCan_ne s hk _, ?_, ?_, ?_⟩ <;> rw [modCan_self] <;> split <;> rfl

/-- The queue and the registers that a completed transmission leaves. -/
structure SentOff (s t : State) (q : Fin 16) (d : Desc) : Prop where
  others : ∀ j : Fin 16, j ≠ q → t.tq[j] = s.tq[j]
  queue : t.tq[q] = s.tq[q].sent d q
  count : t.reg (Reg.TQ_SENT_CNT q) = satInc 32 (s.reg (Reg.TQ_SENT_CNT q))
  regs : s.SameRegs t [Reg.TQ_SENT_CNT q, Reg.FC_LOG_LOST]

theorem sentOff_facts (s : State) (q : Fin 16) (d : Desc) : SentOff s (s.sentOff q d) q d where
  others := fun j hj => modTq_ne s hj _
  queue := modTq_self s q _
  count := State.reg_bump (s.modTq q fun x => x.sent d q) _
  regs := fun j hj => State.reg_bump_ne (s.modTq q fun x => x.sent d q) fun e => hj (by rw [e]; exact List.mem_cons_self)

theorem tqFrameComplete_eq {q : Fin 16} {tec rec : Nat} {d : Desc} {rest : List Desc} {s : State} (ha : s.alive = true)
    (hd : s.tq[q].descs = d :: rest) (hs : s.tq[q].sending = true) :
    exec (.tqFrameComplete q tec rec) s = done (((s.sentOff q d).flushReplies (netOf q)).canSuccess q tec rec) := by
  change execTqFrameComplete q tec rec s = _
  unfold execTqFrameComplete
  rw [hd]
  dsimp only
  rw [if_pos (by rw [ha, hs]; rfl), frameDone_eq]

/-- The end of an Ethernet frame. -/
theorem ethFrame_completes {q : Fin 16} {tec rec : Nat} {d : Desc} {rest : List Desc} {s : State} (c : s.Calm)
    (ha : s.alive = true) (hd : s.tq[q].descs = d :: rest) (hs : s.tq[q].sending = true) (he : isEth q = true) :
    ∃ t, exec (.tqFrameComplete q tec rec) s = .next t ∧ t = { s with tq := t.tq, regs := t.regs, eth := t.eth } ∧
      (∀ k, k ≠ portOf (netOf q) → t.eth[k] = s.eth[k]) ∧ SentOff s t q d := by
  have hexec := tqFrameComplete_eq (tec := tec) (rec := rec) ha hd hs
  have hsame : ∀ u : State, u.canSuccess q tec rec = u := fun u => if_pos he
  rw [hsame] at hexec
  have hnet : (netOf q).val < 2 := by rw [← decide_eq_true_eq (p := (netOf q).val < 2), ← netOf_isEth, he]
  have hsent := sentOff_facts s q d
  have hcalm : (s.sentOff q d).Calm := bump_calm (s.modTq q fun x => x.sent d q) (sentCnt_low q).1 c
  have hparts : s.sentOff q d = { s with tq := (s.sentOff q d).tq, regs := (s.sentOff q d).regs } := rfl
  generalize s.sentOff q d = u at *
  obtain ⟨hflush, hothers⟩ := flushReplies_eth hnet u
  generalize u.flushReplies (netOf q) = t at *
  have htq : t.tq = u.tq := by rw [hflush]
  have hreg : t.reg = u.reg := by rw [hflush]; rfl
  refine ⟨t, hexec.trans (done_calm _ ?_), ?_, fun k hk => (hothers k hk).trans ?_, ⟨?_, ?_, ?_, ?_⟩⟩
  · rw [hflush]
    exact hcalm
  · rw [hflush, hparts]
  · rw [hparts]
  · rw [htq]
    exact hsent.others
  · rw [htq]
    exact hsent.queue
  · rw [hreg]
    exact hsent.count
  · unfold State.SameRegs
    rw [hreg]
    exact hsent.regs

/-! ### The error counters of a CAN port (R294) -/

/-- The state of a port once a frame has left. -/
def Can.succeeds (x : Can) (tec rec : Nat) : Bool := x.state = .passive && min x.tec tec < 128 && min x.recErr rec < 128

theorem canSuccess_eq {q : Fin 16} {c : Fin 2} (he : isEth q = false) (hc : c = portOf (netOf q)) (s : State) (tec rec : Nat) :
    s.canSuccess q tec rec = if s.can[c].succeeds tec rec then
      (s.modCan c fun x =>
        { x with tec := min x.tec tec, recErr := min x.recErr rec, state := .active }).gone (976 + c.val)
      else s.modCan c fun x => { x with tec := min x.tec tec, recErr := min x.recErr rec } := by
  subst hc
  unfold State.canSuccess
  rw [if_neg (by rw [he]; decide)]
  dsimp only
  unfold State.modCan
  rw [vmod_vmod]
  rfl

/-- What a success leaves of its port. -/
structure CanSuccess (s t : State) (c : Fin 2) (tec rec : Nat) : Prop where
  frame : RaiseFrame { s with can := t.can } t
  others : ∀ k : Fin 2, k ≠ c → t.can[k] = s.can[k]
  sends : t.can[c].tec = min s.can[c].tec tec
  receives : t.can[c].recErr = min s.can[c].recErr rec
  state : t.can[c].state = if s.can[c].succeeds tec rec then .active else s.can[c].state
  fc : s.can[c].succeeds tec rec = false → t.fc = s.fc
  cond : s.can[c].succeeds tec rec = true → (t.src (976 + c.val)).cond = false
  calm : s.Calm → t.Calm

theorem canSuccess_facts {q : Fin 16} {c : Fin 2} (he : isEth q = false) (hc : c = portOf (netOf q)) (s : State) (tec rec : Nat) :
    CanSuccess s (s.canSuccess q tec rec) c tec rec := by
  rw [canSuccess_eq he hc]
  split
  · next h =>
    obtain ⟨u, hu⟩ : ∃ u, u = s.modCan c fun x => { x with tec := min x.tec tec, recErr := min x.recErr rec, state := .active } :=
      ⟨_, rfl⟩
    have hself : u.can[c] = { s.can[c] with tec := min s.can[c].tec tec, recErr := min s.can[c].recErr rec, state := .active } := by
      rw [hu]
      exact modCan_self s c _
    have hothers : ∀ k : Fin 2, k ≠ c → u.can[k] = s.can[k] := fun k hk => by rw [hu]; exact modCan_ne s hk _
    have hparts : u = { s with can := u.can } := by rw [hu]; rfl
    rw [← hu]
    clear hu
    have hframe := gone_frame u (976 + c.val)
    have hcond := gone_cond u (976 + c.val)
    have hcalm := gone_calm u (976 + c.val)
    generalize u.gone (976 + c.val) = t at *
    have hcan : t.can = u.can := hframe.can
    exact {
      frame := by
        rw [hcan]
        rw [hparts] at hframe
        exact hframe
      others := fun k hk => by rw [hcan]; exact hothers k hk
      sends := by rw [hcan, hself]
      receives := by rw [hcan, hself]
      state := by rw [hcan, hself, if_pos h]
      fc := fun hf => absurd (h.symm.trans hf) (by decide)
      cond := fun _ => hcond
      calm := fun c => hcalm (by rw [hparts]; exact c) }
  · next h =>
    have hself := modCan_self s c fun x => { x with tec := min x.tec tec, recErr := min x.recErr rec }
    exact {
      frame := .refl _
      others := fun k hk => modCan_ne s hk _
      sends := by rw [hself]
      receives := by rw [hself]
      state := by rw [hself, if_neg h]
      fc := fun _ => rfl
      cond := fun ht => absurd ht h
      calm := fun c => c }

/-- The end of a CAN frame. -/
theorem canFrame_completes {q : Fin 16} {tec rec : Nat} {d : Desc} {rest : List Desc} {s : State} (hc : s.Calm)
    (ha : s.alive = true) (hd : s.tq[q].descs = d :: rest) (hs : s.tq[q].sending = true) (he : isEth q = false) :
    ∃ t, exec (.tqFrameComplete q tec rec) s = .next t ∧ RaiseFrame { s with tq := t.tq, regs := t.regs, can := t.can } t ∧
      (∀ k, k ≠ portOf (netOf q) → t.can[k] = s.can[k]) ∧ t.can[portOf (netOf q)].tec = min s.can[portOf (netOf q)].tec tec ∧
      t.can[portOf (netOf q)].recErr = min s.can[portOf (netOf q)].recErr rec ∧
      t.can[portOf (netOf q)].state = (if s.can[portOf (netOf q)].succeeds tec rec then .active
        else s.can[portOf (netOf q)].state) ∧
      (s.can[portOf (netOf q)].succeeds tec rec = false → t.fc = s.fc) ∧
      (s.can[portOf (netOf q)].succeeds tec rec = true → (t.src (976 + (portOf (netOf q)).val)).cond = false) ∧
      SentOff s t q d := by
  have hexec := tqFrameComplete_eq (tec := tec) (rec := rec) ha hd hs
  have hnet : ¬ (netOf q).val < 2 := by rw [← decide_eq_false_iff_not, ← netOf_isEth, he]
  have hsent := sentOff_facts s q d
  have hcalm : (s.sentOff q d).Calm := bump_calm (s.modTq q fun x => x.sent d q) (sentCnt_low q).1 hc
  have hparts : s.sentOff q d = { s with tq := (s.sentOff q d).tq, regs := (s.sentOff q d).regs } := rfl
  generalize s.sentOff q d = u at *
  obtain ⟨hflush, hothers, htec, hrec, hstate⟩ := flushReplies_can hnet u
  generalize u.flushReplies (netOf q) = v at *
  have hucan : u.can = s.can := by rw [hparts]
  rw [hucan] at hothers htec hrec hstate
  have hsucceeds : v.can[portOf (netOf q)].succeeds tec rec = s.can[portOf (netOf q)].succeeds tec rec := by
    unfold Can.succeeds
    rw [htec, hrec, hstate]
  have hvparts : v = { s with tq := v.tq, regs := v.regs, can := v.can } := by rw [hflush, hparts]
  have hvtq : v.tq = u.tq := by rw [hflush]
  have hvreg : v.reg = u.reg := by rw [hflush]; rfl
  have hvcalm : v.Calm := by rw [hflush]; exact hcalm
  have hvfc : v.fc = s.fc := by rw [hvparts]
  obtain ⟨hframe, hcothers, hctec, hcrec, hcstate, hcfc, hccond, hccalm⟩ := canSuccess_facts he rfl v tec rec
  rw [hsucceeds] at hcstate hcfc hccond
  rw [htec] at hctec
  rw [hrec] at hcrec
  rw [hstate] at hcstate
  clear hflush hparts
  generalize v.canSuccess q tec rec = t at *
  have htq : t.tq = u.tq := hframe.tq.trans hvtq
  have hreg : ∀ j, j ≠ Reg.FC_LOG_LOST → t.reg j = u.reg j := fun j hj => (hframe.reg j hj).trans (by rw [← hvreg]; rfl)
  refine ⟨t, hexec.trans (done_calm _ (hccalm hvcalm)), ?_, fun k hk => (hcothers k hk).trans (hothers k hk), hctec, hcrec, hcstate,
    fun h => (hcfc h).trans hvfc, hccond, ⟨?_, ?_, ?_, fun j hj => ?_⟩⟩
  · have htqv : t.tq = v.tq := hframe.tq
    rw [htqv]
    rw [hvparts] at hframe
    exact { hframe with reg := fun _ _ => rfl, wf := fun h => h }
  · rw [htq]
    exact hsent.others
  · rw [htq]
    exact hsent.queue
  · rw [hreg _ (sentCnt_low q).2]
    exact hsent.count
  · rw [hreg j fun e => hj (by rw [e]; exact List.mem_cons_of_mem _ List.mem_cons_self)]
    exact hsent.regs j hj

end Sys2Proof.Machine
end

section
/-!
PROOFS. The receive ring (R312), position streams (R161 to R163), and the transmit queues as a whole.
-/

namespace Sys2Proof.Machine

set_option Elab.async false

/-! ### The receive ring (R312) -/

theorem rxrRelease_frees {p : Port} {k : Fin 2} {v : Int} {s : State} (c : s.Calm)
    (ha : s.Admits p (Reg.RXR_RELEASE k) (dataAt (Reg.RXR_RELEASE k) v) v) :
    (v ≤ Int.ofNat s.eth[k].ring.length → ∃ t, exec (.rxrRelease p k v) s = .next t ∧
      t = { s.beat p with eth := t.eth } ∧ t.eth[k] = { s.eth[k] with ring := s.eth[k].ring.drop v.toNat } ∧
      ∀ j, j ≠ k → t.eth[j] = s.eth[j]) ∧
    (Int.ofNat s.eth[k].ring.length < v →
      ∃ t, exec (.rxrRelease p k v) s = .next t ∧ s.RefusedAs t p (Reg.RXR_RELEASE k) nakHigh) := by
  have heff : effRxrRelease k v (s.beat p) = (need (decide (v ≤ Int.ofNat s.eth[k].ring.length)) nakHigh >>= fun _ =>
      .ok ((s.beat p).modEth k fun x => { x with ring := x.ring.drop v.toNat })) := rfl
  refine ⟨fun h => ?_, fun h => hostWrite_refusedAs c ha ?_ (by decide) (by decide)⟩
  · rw [decide_eq_true h] at heff
    exact ⟨_, hostWrite_next ha heff c.1, rfl, modEth_self (s.beat p) k _, fun j hj => modEth_ne (s.beat p) hj _⟩
  · rw [heff, decide_eq_false (not_le.2 h)]
    rfl

/-! ### Streams (R161) -/

theorem pfKeys (f : Fin 8) : Reg.PF_ENABLE f ≠ Reg.CFG_GEN ∧ Reg.PF_SEQ f ≠ Reg.CFG_GEN ∧ Reg.PF_ENABLE f ≠ Reg.PF_SEQ f ∧
    Reg.PF_ENABLE f ≠ Reg.PF_FIRST f ∧ Reg.PF_ENABLE f ≠ Reg.PF_PERIOD f ∧ Reg.PF_SEQ f ≠ Reg.PF_PERIOD f ∧
    Reg.PF_SKIP_CNT f ≠ Reg.PF_PERIOD f ∧ Reg.PF_PERIOD f ≠ Reg.FC_LOG_LOST ∧ Reg.PF_SKIP_CNT f ≠ Reg.FC_LOG_LOST ∧
    (Reg.PF_SKIP_CNT f < 0x500000 ∨ 0x550000 ≤ Reg.PF_SKIP_CNT f) ∧
    (Reg.PF_SEQ f < 0x500000 ∨ 0x550000 ≤ Reg.PF_SEQ f) ∧ 960 + f.val < 1280 := by decide +revert

section
variable {p : Port} {f : Fin 8} {v : Int} {s : State} (c : s.Calm)
  (ha : s.Admits p (Reg.PF_ENABLE f) (dataAt (Reg.PF_ENABLE f) v) v)
include c ha

theorem pfEnable_kept (hcheck : checkPf f s (overlay s.reg [(Reg.PF_ENABLE f, v)]) (Reg.PF_ENABLE f) v = .ok ())
    (h : v = 0 ∨ s.reg (Reg.PF_ENABLE f) = v) :
    ∃ t, exec (.pfEnableWrite p f v) s = .next t ∧ s.Visible t (Reg.PF_ENABLE f) v ∧ t = { s.beat p with regs := t.regs } := by
  have heff := effVisible_ok (check := checkPf f) (apply := applyPfEnable f) (k := Reg.PF_ENABLE f) (v := v) (s := s.beat p) hcheck
  have happly : applyPfEnable f ((s.beat p).setReg (Reg.PF_ENABLE f) v) (Reg.PF_ENABLE f) ((s.beat p).reg (Reg.PF_ENABLE f)) v =
      (s.beat p).setReg (Reg.PF_ENABLE f) v := if_pos h.symm
  rw [happly] at heff
  exact ⟨_, hostWrite_next ha heff c.1, visible_cfgGen (s := s.beat p) (pfKeys f).1 fun _ => rfl, rfl⟩

theorem pfEnable_refused {n : Nak} (hcheck : checkPf f s (overlay s.reg [(Reg.PF_ENABLE f, v)]) (Reg.PF_ENABLE f) v = .error n) :
    ∃ t, exec (.pfEnableWrite p f v) s = .next t ∧ s.RefusedAs t p (Reg.PF_ENABLE f) n := by
  have hrange : n = nakRange := by
    unfold checkPf at hcheck
    dsimp only at hcheck
    unfold need at hcheck
    split at hcheck
    · cases hcheck
    · cases hcheck
      rfl
  subst hrange
  exact hostWrite_refusedAs c ha (effVisible_error (s := s.beat p) hcheck) (by decide) (by decide)

theorem pfEnable_starts (hcheck : checkPf f s (overlay s.reg [(Reg.PF_ENABLE f, v)]) (Reg.PF_ENABLE f) v = .ok ())
    (h₀ : v ≠ 0) (h : s.reg (Reg.PF_ENABLE f) ≠ v) :
    ∃ t, exec (.pfEnableWrite p f v) s = .next t ∧
      t = { s.beat p with regs := t.regs, pf := t.pf } ∧ t.reg (Reg.PF_ENABLE f) = v ∧ t.reg (Reg.PF_SEQ f) = 0 ∧
      t.reg Reg.CFG_GEN = (s.reg Reg.CFG_GEN + 1) % 2 ^ 32 ∧
      s.SameRegs t [Reg.PF_ENABLE f, Reg.PF_SEQ f, Reg.CFG_GEN] ∧ (∀ j, j ≠ f → t.pf[j] = s.pf[j]) ∧
      t.pf[f].next = (gridNext (t32 (s.reg (Reg.PF_FIRST f))) (s.regN (Reg.PF_PERIOD f)) s.timeNow).1 := by
  obtain ⟨henable, hseq, hne, hfirst, hperiod, -⟩ := pfKeys f
  have heff := effVisible_ok (check := checkPf f) (apply := applyPfEnable f) (k := Reg.PF_ENABLE f) (v := v) (s := s.beat p) hcheck
  obtain ⟨w, hw⟩ : ∃ w, w = (s.beat p).setReg (Reg.PF_ENABLE f) v := ⟨_, rfl⟩
  obtain ⟨l, hl⟩ : ∃ l, l = (gridNext (t32 (w.reg (Reg.PF_FIRST f))) (w.regN (Reg.PF_PERIOD f)) w.timeNow).1 := ⟨_, rfl⟩
  have happly : applyPfEnable f w (Reg.PF_ENABLE f) ((s.beat p).reg (Reg.PF_ENABLE f)) v =
      (w.modPf f fun x => { x with next := l }).setReg (Reg.PF_SEQ f) 0 := by
    rw [hl]
    exact if_neg (not_or.2 ⟨h, h₀⟩)
  rw [← hw, happly] at heff
  have hnext : l = (gridNext (t32 (s.reg (Reg.PF_FIRST f))) (s.regN (Reg.PF_PERIOD f)) s.timeNow).1 := by
    unfold State.regN at hl ⊢
    rw [hl, hw, State.reg_setReg_ne _ _ hfirst, State.reg_setReg_ne _ _ hperiod]
    rfl
  obtain ⟨u, hu⟩ : ∃ u, u = (w.modPf f fun x => { x with next := l }).setReg (Reg.PF_SEQ f) 0 := ⟨_, rfl⟩
  have hupf : u.pf = vmod s.pf f fun x => { x with next := l } := by rw [hu, hw]; rfl
  have huparts : u = { s.beat p with regs := u.regs, pf := u.pf } := by rw [hu, hw]; rfl
  have hureg : ∀ j, j ≠ Reg.PF_SEQ f → u.reg j = w.reg j := fun j hj => by
    rw [hu]
    exact State.reg_setReg_ne (w.modPf f _) 0 hj.symm
  have huseq : u.reg (Reg.PF_SEQ f) = 0 := by
    rw [hu]
    exact State.reg_setReg (w.modPf f _) _ 0
  have hwreg : ∀ j, j ≠ Reg.PF_ENABLE f → w.reg j = s.reg j := fun j hj => by
    rw [hw]
    exact State.reg_setReg_ne (s.beat p) v hj.symm
  have hwval : w.reg (Reg.PF_ENABLE f) = v := by
    rw [hw]
    exact State.reg_setReg (s.beat p) _ v
  rw [← hu] at heff
  clear hu hw hl happly
  have hgen : ∀ j, j ≠ Reg.CFG_GEN → u.cfgGen.reg j = u.reg j := fun j hj => State.reg_setReg_ne u _ hj.symm
  refine ⟨u.cfgGen, hostWrite_next ha heff (by rw [huparts]; exact c.1), ?_, ?_, ?_, ?_, fun j hj => ?_, fun j hj => ?_, ?_⟩
  · rw [huparts]
    rfl
  · rw [hgen _ henable, hureg _ hne, hwval]
  · rw [hgen _ hseq, huseq]
  · unfold State.cfgGen
    rw [State.reg_setReg, hureg _ hseq.symm, hwreg _ henable.symm]
  · simp only [List.mem_cons, List.not_mem_nil, or_false, not_or] at hj
    rw [hgen j hj.2.2, hureg j hj.2.1, hwreg j hj.1]
  · change u.pf[j] = _
    rw [hupf]
    exact vmod_ne _ _ (Ne.symm hj)
  · change u.pf[f].next = _
    rw [hupf, ← hnext]
    exact congrArg Stream.next (vmod_self _ _ _)

end

section
variable {f : Fin 8} {q : Fin 16} {s : State} (c : s.Calm) (ha : s.alive = true) (he : s.flag (Reg.PF_ENABLE f) = true)
  (hr : reached s.timeNow s.pf[f].next = true) (hq : q = chOf (s.reg (Reg.PF_QUEUE f)))
include c ha he hr hq

theorem positionFrame_queued (hroom : s.tq[q].descs.length < 16) :
    ∃ t, exec (.positionFrameLaunch f) s = .next t ∧ t = { s with tq := t.tq, regs := t.regs, pf := t.pf } ∧
      t.tq[q] = { s.tq[q] with descs := s.tq[q].descs ++ [s.streamDesc f q s.pf[f].next] } ∧
      (∀ j, j ≠ q → t.tq[j] = s.tq[j]) ∧ s.OneReg t (Reg.PF_SEQ f) ((s.reg (Reg.PF_SEQ f) + 1) % 2 ^ 32) ∧
      t.pf[f].next = s.pf[f].next + BitVec.ofNat 32 (s.regN (Reg.PF_PERIOD f)) ∧ ∀ j, j ≠ f → t.pf[j] = s.pf[j] := by
  obtain ⟨w, hw⟩ : ∃ w, w = s.modTq q fun t => { t with descs := t.descs ++ [s.streamDesc f q s.pf[f].next] } := ⟨_, rfl⟩
  obtain ⟨u, hu⟩ : ∃ u, u = w.setReg (Reg.PF_SEQ f) ((s.reg (Reg.PF_SEQ f) + 1) % 2 ^ 32) := ⟨_, rfl⟩
  have hperiod : u.regN (Reg.PF_PERIOD f) = s.regN (Reg.PF_PERIOD f) := by
    unfold State.regN
    rw [hu, State.reg_setReg_ne w _ (pfKeys f).2.2.2.2.2.1, hw]
    rfl
  have hframe : s.streamFrame f = u.modPf f fun x => { x with next := s.pf[f].next + BitVec.ofNat 32 (u.regN (Reg.PF_PERIOD f)) } := by
    subst hq
    unfold State.streamFrame
    dsimp only
    rw [if_neg (not_le.2 hroom), hu, hw]
  have hexec : exec (.positionFrameLaunch f) s = done (s.streamFrame f) := if_pos (by rw [ha, he, hr]; rfl)
  rw [hframe, hperiod] at hexec
  have htq : u.tq = vmod s.tq q fun t => { t with descs := t.descs ++ [s.streamDesc f q s.pf[f].next] } := by rw [hu, hw]; rfl
  have hpf : u.pf = s.pf := by rw [hu, hw]; rfl
  have hparts : u = { s with tq := u.tq, regs := u.regs } := by rw [hu, hw]; rfl
  have hone : s.OneReg u (Reg.PF_SEQ f) ((s.reg (Reg.PF_SEQ f) + 1) % 2 ^ 32) := by
    rw [hu, hw]
    exact oneReg_setReg (s.modTq q _) _ _
  have hcalm : u.Calm := by
    rw [hu]
    exact setReg_calm w (pfKeys f).2.2.2.2.2.2.2.2.2.2.1 _ (hw ▸ c)
  clear hu hw hframe hperiod
  refine ⟨_, hexec.trans (done_calm _ hcalm), ?_, ?_, fun j hj => ?_, hone, ?_, fun j hj => ?_⟩
  · rw [hparts]
    rfl
  · change u.tq[q] = _
    rw [htq]
    exact vmod_self _ _ _
  · change u.tq[j] = _
    rw [htq]
    exact vmod_ne _ _ (Ne.symm hj)
  · change (vmod u.pf f _)[f].next = _
    rw [hpf]
    exact congrArg Stream.next (vmod_self _ _ _)
  · change (vmod u.pf f _)[j] = _
    rw [hpf]
    exact vmod_ne _ _ (Ne.symm hj)

theorem positionFrame_skipped (hfull : 16 ≤ s.tq[q].descs.length) (m : s.Mild (960 + f.val)) :
    ∃ t, exec (.positionFrameLaunch f) s = .next t ∧
      RaiseFrame { s with regs := t.regs, pf := t.pf } t ∧ s.SameRegs t [Reg.PF_SKIP_CNT f, Reg.FC_LOG_LOST] ∧
      t.reg (Reg.PF_SKIP_CNT f) = satInc 32 (s.reg (Reg.PF_SKIP_CNT f)) ∧
      t.pf[f].next = s.pf[f].next + BitVec.ofNat 32 (s.regN (Reg.PF_PERIOD f)) ∧ ∀ j, j ≠ f → t.pf[j] = s.pf[j] := by
  obtain ⟨-, -, -, -, -, -, hskip, hlostPeriod, hlost, hlow, -, hid⟩ := pfKeys f
  have hframe : s.streamFrame f = ((s.bump (Reg.PF_SKIP_CNT f)).pulse (960 + f.val)).modPf f fun x => { x with
      next := s.pf[f].next + BitVec.ofNat 32 (((s.bump (Reg.PF_SKIP_CNT f)).pulse (960 + f.val)).regN (Reg.PF_PERIOD f)) } := by
    subst hq
    unfold State.streamFrame
    dsimp only
    rw [if_pos hfull]
  have hexec : exec (.positionFrameLaunch f) s = done (s.streamFrame f) := if_pos (by rw [ha, he, hr]; rfl)
  obtain ⟨hraised, hcnt, hregs⟩ := bumpPulse_facts s (960 + f.val) hlost
  have hcalm := pulse_calm _ (960 + f.val) (.inr (bump_mild s hlow hid m)) (bump_calm s hlow c)
  rw [hframe] at hexec
  generalize (s.bump (Reg.PF_SKIP_CNT f)).pulse (960 + f.val) = u at *
  have hperiod : u.regN (Reg.PF_PERIOD f) = s.regN (Reg.PF_PERIOD f) := by
    unfold State.regN
    rw [hregs]
    simp only [List.mem_cons, List.not_mem_nil, or_false, not_or]
    exact ⟨hskip.symm, hlostPeriod⟩
  have hpf : u.pf = s.pf := hraised.pf
  rw [hperiod] at hexec
  refine ⟨_, hexec.trans (done_calm _ hcalm), ?_, hregs, hcnt, ?_, fun j hj => ?_⟩
  · exact { hraised with pf := rfl }
  · change (vmod u.pf f _)[f].next = _
    rw [hpf]
    exact congrArg Stream.next (vmod_self _ _ _)
  · change (vmod u.pf f _)[j] = _
    rw [hpf]
    exact vmod_ne _ _ (Ne.symm hj)

end

/-! ### The end of a transmission -/

theorem succeeds_iff (x : Can) (tec rec : Nat) :
    x.succeeds tec rec = true ↔ x.state = .passive ∧ min x.tec tec < 128 ∧ min x.recErr rec < 128 := by
  unfold Can.succeeds
  rw [Bool.and_eq_true, Bool.and_eq_true, decide_eq_true_eq, decide_eq_true_eq, decide_eq_true_eq, and_assoc]

/-- The queue of a completed transmission. -/
theorem SentOff.facts {s t : State} {q : Fin 16} {d : Desc} {rest : List Desc} (h : SentOff s t q d)
    (hd : s.tq[q].descs = d :: rest) :
    (∀ j, j ≠ q → t.tq[j] = s.tq[j]) ∧ t.reg (Reg.TQ_SENT_CNT q) = satInc 32 (s.reg (Reg.TQ_SENT_CNT q)) ∧
      s.SameRegs t [Reg.TQ_SENT_CNT q, Reg.FC_LOG_LOST] ∧ t.tq[q].descs = rest ∧
      t.tq[q].sending = false ∧ t.tq[q].compl = ((leBytes 2 d.tag ++
        leBytes 1 (if s.tq[q].unstamped then 4 else if s.tq[q].late then 1 else 0) ++ leBytes 1 0 ++ leBytes 4 s.tq[q].egress.toNat ++
        leBytes 2 s.tq[q].egressFrac ++ leBytes 2 d.len ++ leBytes 4 d.launch.toNat) :: s.tq[q].compl).take 16 ∧
      (d.oneStep = false → t.tq[q].wire = if isEth q then ethWire d.frame else d.frame) ∧
      (d.oneStep = true → s.tq[q].unstamped = false → t.tq[q].wire = if isEth q
        then ethWire (insertStamp d.frame (s.tq[q].egress - d.launch).toInt s.tq[q].egressFrac)
        else insertStamp d.frame (s.tq[q].egress - d.launch).toInt s.tq[q].egressFrac) := by
  have hwire : t.tq[q].wire = if isEth q then ethWire (s.tq[q].sentFrame d) else s.tq[q].sentFrame d := by rw [h.queue]; rfl
  refine ⟨h.others, h.count, h.regs, ?_, ?_, ?_, fun hone => ?_, fun hone hstamped => ?_⟩
  · rw [h.queue]
    exact (congrArg (List.drop 1) hd).trans rfl
  · rw [h.queue]
    rfl
  · rw [h.queue]
    rfl
  · have hframe : s.tq[q].sentFrame d = d.frame := if_neg (by rw [hone, Bool.false_and]; decide)
    rw [hwire, hframe]
  · have hframe : s.tq[q].sentFrame d = insertStamp d.frame (s.tq[q].egress - d.launch).toInt s.tq[q].egressFrac :=
      if_pos (by rw [hone, hstamped]; rfl)
    rw [hwire, hframe]

/-- The state of the CAN port after a success. -/
theorem canState_facts {x y : Can} {tec rec : Nat} (ht : y.tec = min x.tec tec) (hr : y.recErr = min x.recErr rec)
    (hs : y.state = if x.succeeds tec rec then .active else x.state) :
    (y.state = if x.state = .passive ∧ y.tec < 128 ∧ y.recErr < 128 then .active else x.state) ∧
      (y.state = x.state → x.succeeds tec rec = false) ∧ (y.state ≠ x.state → x.succeeds tec rec = true) := by
  have hiff := succeeds_iff x tec rec
  refine ⟨?_, fun h => ?_, fun h => ?_⟩
  · rw [hs, ht, hr]
    simp only [hiff]
  · by_contra hsucc
    rw [Bool.not_eq_false] at hsucc
    rw [if_pos hsucc, h, (hiff.1 hsucc).1] at hs
    cases hs
  · by_contra hsucc
    exact h (hs.trans (if_neg hsucc))

/-- Settles O55: a drop takes the head's descriptor alone, a launch marks the presented head, and a completion or a stream's
frame goes to its queue's end of the list. -/
theorem queuesLaunchCompleteAndStream : Obligations.QueuesLaunchCompleteAndStream := by
  unfold Obligations.QueuesLaunchCompleteAndStream
  refine ⟨fun p q data v s o c ha ho => tqStageData_writes c ha ho, ?_, fun p q s c ha => tqFlush_flushes c ha, ?_, ?_, ?_,
    fun p k v s c ha => rxrRelease_frees c ha, fun p f v s c ha => ⟨fun hcheck => ⟨pfEnable_kept c ha hcheck,
      pfEnable_starts c ha hcheck⟩, fun n hcheck => pfEnable_refused c ha hcheck⟩,
    fun f q s c ha he hr hq => ⟨positionFrame_queued c ha he hr hq, positionFrame_skipped c ha he hr hq⟩⟩
  · intro p q desc v s d c ha hraw hframe hstream hactive hheader hinstant
    exact ⟨tqPush_queues c ha hraw hframe hstream hactive hheader hinstant, tqPush_full c ha, tqPush_unfit c ha⟩
  · intro net wins q d rest late s c ha hready hp hd m m₁ hl
    exact tqFrameLaunch_launches c ha hready hp hd m m₁ hl
  · intro net wins s c
    exact ⟨tqFrameLaunch_none c, fun q => presents_sending, fun q hq => ⟨(presents_some hq).1, (presents_some hq).2.1,
      (presents_some hq).2.2.1⟩⟩
  · intro q tec rec d rest c s hc ha hd hs hport
    subst hport
    by_cases he : isEth q = true
    · obtain ⟨t, hexec, hparts, hothers, hsent⟩ := ethFrame_completes (tec := tec) (rec := rec) hc ha hd hs he
      exact ⟨t, hexec, fun _ => ⟨hparts, hothers⟩, fun h => absurd (he.symm.trans h) (by decide), hsent.facts hd⟩
    · rw [Bool.not_eq_true] at he
      obtain ⟨t, hexec, hframe, hothers, htec, hrec, hstate, hfc, hcond, hsent⟩ :=
        canFrame_completes (tec := tec) (rec := rec) hc ha hd hs he
      obtain ⟨hactive, hkept, hchanged⟩ := canState_facts htec hrec hstate
      exact ⟨t, hexec, fun h => absurd (he.symm.trans h) (by decide), fun _ => ⟨hframe, hothers, htec, hrec, hactive,
        fun h => hfc (hkept h), fun h => hcond (hchanged h)⟩, hsent.facts hd⟩

end Sys2Proof.Machine
end

section
/-!
PROOFS. The end of a calibration run (R136, R137, R150).
-/

namespace Sys2Proof.Machine

set_option Elab.async false

/-! ### What a run's commands may change -/

/-- `s` with the registers, runs and domains of `x`. -/
def State.withRun (s x : State) : State := { s with regs := x.regs, cal := x.cal, sched := x.sched }

/-- `t` differs from `s` by registers, runs and domains, and by what raised sources may change. -/
def RunFrame (s t : State) : Prop := RaiseFrame { s with regs := t.regs, cal := t.cal, sched := t.sched } t

theorem RunFrame.of_parts {s t : State} (h : t = s.withRun t) : RunFrame s t := by
  have hframe : RaiseFrame (s.withRun t) t := by
    rw [← h]
    exact .refl t
  exact hframe

theorem RunFrame.of_raise {s t : State} (h : RaiseFrame s t) : RunFrame s t :=
  { h with cal := rfl, sched := rfl, reg := fun _ _ => rfl, wf := fun h => h }

theorem RunFrame.trans {s t u : State} (h : RunFrame s t) (g : RunFrame t u) : RunFrame s u := by
  have hs : RaiseFrame (s.withRun u) (t.withRun u) := { h with cal := rfl, sched := rfl, reg := fun _ _ => rfl, wf := fun h => h }
  exact hs.trans g

/-! ### The end of a run -/

theorem chSrc_facts (n : ChId) : chSrc n 16 < 1280 ∧ chSrc n 16 ≠ 1029 ∧ assigned (chSrc n 16) = true := by decide +revert

theorem calKeys (n : ChId) : (Reg.CAL_CNT_ACCEPTED n < 0x500000 ∨ 0x550000 ≤ Reg.CAL_CNT_ACCEPTED n) ∧
    (Reg.CAL_CNT_REJECTED n < 0x500000 ∨ 0x550000 ≤ Reg.CAL_CNT_REJECTED n) ∧
    (Reg.CAL_CNT_INSUFFICIENT n < 0x500000 ∨ 0x550000 ≤ Reg.CAL_CNT_INSUFFICIENT n) ∧
    (Reg.CAL_CNT_ABORTED n < 0x500000 ∨ 0x550000 ≤ Reg.CAL_CNT_ABORTED n) ∧
    (Reg.CAL_CNT_STARTED n < 0x500000 ∨ 0x550000 ≤ Reg.CAL_CNT_STARTED n) ∧
    Reg.CAL_CNT_ACCEPTED n ≠ Reg.FC_LOG_LOST ∧ Reg.CAL_CNT_REJECTED n ≠ Reg.FC_LOG_LOST ∧
    Reg.CAL_CNT_INSUFFICIENT n ≠ Reg.FC_LOG_LOST ∧ Reg.CAL_CNT_ABORTED n ≠ Reg.FC_LOG_LOST := by decide +revert

/-- The counters of the results are counters alone. -/
theorem calCounter_facts {n : ChId} {r : Nat} {k : Key} (h : calCounter n r = some k) :
    (k < 0x500000 ∨ 0x550000 ≤ k) ∧ k ≠ Reg.FC_LOG_LOST := by
  obtain ⟨haccepted, hrejected, hinsufficient, haborted, -, ha, hr, hi, hb⟩ := calKeys n
  unfold calCounter at h
  split at h <;> cases h
  · exact ⟨haccepted, ha⟩
  · exact ⟨hrejected, hr⟩
  · exact ⟨hinsufficient, hi⟩
  · exact ⟨haborted, hb⟩

/-- The result counted. -/
def State.countRun (s : State) (n : ChId) (r : Nat) : State := match calCounter n r with | some k => s.bump k | none => s

theorem countRun_facts (s : State) (n : ChId) (r : Nat) : s.countRun n r = { s with regs := (s.countRun n r).regs } ∧
    (∀ k, calCounter n r = some k → (s.countRun n r).reg k = satInc 32 (s.reg k)) ∧
    (∀ j, calCounter n r ≠ some j → (s.countRun n r).reg j = s.reg j) ∧ (s.Calm → (s.countRun n r).Calm) ∧
    (s.Mild (chSrc n 16) → (s.countRun n r).Mild (chSrc n 16)) := by
  unfold State.countRun
  cases h : calCounter n r with
  | none => exact ⟨rfl, fun k hk => (nomatch hk), fun _ _ => rfl, fun c => c, fun m => m⟩
  | some k =>
    obtain ⟨hlow, -⟩ := calCounter_facts h
    refine ⟨rfl, fun j hj => ?_, fun j hj => State.reg_bump_ne s fun e => hj (congrArg some e), bump_calm s hlow,
      bump_mild s hlow (chSrc_facts n).1⟩
    cases hj
    exact State.reg_bump s k

/-- When the retry hold of a run ends. -/
def State.holdEnd (s : State) (n : ChId) (r d : Nat) : Nat :=
  if r = 5 ∧ d = 1 then s.cal[n].holdUntil
  else s.now + (if s.cal[n].state = .pending then s.regN (Reg.CAL_RETRY_HOLD n) else s.cal[n].cfg.retryHold.toNat) * 250000000

/-- A run once it has ended. -/
def Cal.over (c : Cal) (r d hold : Nat) : Cal :=
  { c with
    state := .idle, pause := 0, result := r, detail := d, window := none, granted := false, gates := false, holdUntil := hold }

theorem endRun_eq (s : State) (n : ChId) (r d : Nat) :
    s.endRun n r d = (((((s.modCal n fun c => c.over r d (s.holdEnd n r d)).countRun n r).logCal n).modSched (chDomain n)
      (Sched.withdrawn s.now .cal)).pulse (chSrc n 16)) := by
  have hrun : (s.modCal n fun c => { c with
      state := .idle, pause := 0, result := r, detail := d, window := none, granted := false, gates := false
      holdUntil := if r = 5 ∧ d = 1 then c.holdUntil else s.now +
        (if s.cal[n].state = .pending then s.regN (Reg.CAL_RETRY_HOLD n) else s.cal[n].cfg.retryHold.toNat) * 250000000 }) =
      s.modCal n fun c => c.over r d (s.holdEnd n r d) :=
    congrArg (fun v => { s with cal := v }) (vmod_congr s.cal n rfl)
  obtain ⟨u, hu⟩ : ∃ u, u = ((s.modCal n fun c => c.over r d (s.holdEnd n r d)).countRun n r).logCal n := ⟨_, rfl⟩
  have hend : s.endRun n r d = (u.schedWithdraw (chDomain n) .cal).pulse (chSrc n 16) := by
    unfold State.endRun
    dsimp only
    rw [hrun, hu]
    rfl
  have hnow : u.now = s.now := by
    rw [hu, State.logCal, (logKind_frame _ _ _ _).now, (countRun_facts _ n r).1]
    rfl
  rw [hend, schedWithdraw_chan, hnow, hu]

/-- What the end of a run leaves. -/
structure RunEnded (s t : State) (n : ChId) (r d : Nat) : Prop where
  frame : RunFrame s t
  run : t.cal[n] = s.cal[n].over r d (s.holdEnd n r d)
  runs : ∀ m, m ≠ n → t.cal[m] = s.cal[m]
  domains : ∀ e, e ≠ chDomain n → t.sched[e] = s.sched[e]
  count : ∀ k, calCounter n r = some k → t.reg k = satInc 32 (s.reg k)
  regs : ∀ j, calCounter n r ≠ some j → j ≠ Reg.FC_LOG_LOST → t.reg j = s.reg j
  calm : s.Calm → s.Mild (chSrc n 16) → t.Calm

theorem endRun_ends (s : State) (n : ChId) (r d : Nat) : RunEnded s (s.endRun n r d) n r d := by
  obtain ⟨hid, hsrc, -⟩ := chSrc_facts n
  rw [endRun_eq]
  obtain ⟨x, hx⟩ : ∃ x, x = s.cal[n].over r d (s.holdEnd n r d) := ⟨_, rfl⟩
  obtain ⟨u, hu⟩ : ∃ u, u = s.modCal n fun c => c.over r d (s.holdEnd n r d) := ⟨_, rfl⟩
  have huself : u.cal[n] = x := by rw [hu, hx]; exact modCal_self s n _
  have huothers : ∀ m : ChId, m ≠ n → u.cal[m] = s.cal[m] := fun m hm => by rw [hu]; exact modCal_ne s _ hm
  have huparts : u = { s with cal := u.cal } := by rw [hu]; rfl
  rw [← hu]
  clear hu
  obtain ⟨hvparts, hvcount, hvregs, hvcalm, hvmild⟩ := countRun_facts u n r
  generalize u.countRun n r = v at *
  have hlog : RaiseFrame v (v.logCal n) := logKind_frame _ _ _ _
  have hlogsrc : (v.logCal n).src (chSrc n 16) = v.src (chSrc n 16) := logKind_src _ _ _ (.inl hsrc)
  have hlogcalm : v.Calm → (v.logCal n).Calm := logKind_calm _ _ _ _
  generalize v.logCal n = w at *
  obtain ⟨y, hy⟩ : ∃ y, y = w.modSched (chDomain n) (Sched.withdrawn s.now .cal) := ⟨_, rfl⟩
  have hyparts : y = { w with sched := y.sched } := by rw [hy]; rfl
  have hydomains : ∀ e, e ≠ chDomain n → y.sched[e] = w.sched[e] := fun e he => by rw [hy]; exact modSched_ne w _ he
  rw [← hy]
  clear hy
  have hpulse := pulse_frame y (chSrc n 16)
  have hpcalm := fun m c => pulse_calm y (chSrc n 16) (.inr m) c
  generalize y.pulse (chSrc n 16) = t at *
  have hcal : t.cal = u.cal := by rw [hpulse.cal, hyparts, hlog.cal, hvparts]
  have hsched : ∀ e, e ≠ chDomain n → t.sched[e] = s.sched[e] := fun e he => by
    rw [hpulse.sched, hydomains e he, hlog.sched, hvparts, huparts]
  have hreg : ∀ j, j ≠ Reg.FC_LOG_LOST → t.reg j = v.reg j := fun j hj => by
    rw [hpulse.reg j hj, hyparts]
    exact hlog.reg j hj
  have hureg : u.reg = s.reg := by rw [huparts]; rfl
  rw [hureg] at hvcount hvregs
  refine ⟨?_, by rw [hcal, huself, hx], fun m hm => by rw [hcal, huothers m hm], hsched, fun k hk => ?_, fun j hj hl => ?_, fun c m => ?_⟩
  · have hsu : RunFrame s u := .of_parts (by rw [huparts]; rfl)
    have huv : RunFrame u v := .of_parts (by rw [hvparts]; rfl)
    have hwy : RunFrame w y := .of_parts (by rw [hyparts]; rfl)
    exact (((hsu.trans huv).trans (.of_raise hlog)).trans hwy).trans (.of_raise hpulse)
  · rw [hreg k (calCounter_facts hk).2, hvcount k hk]
  · rw [hreg j hl, hvregs j hj]
  · have hum : u.Mild (chSrc n 16) := by rw [huparts]; exact m
    have huc : u.Calm := by rw [huparts]; exact c
    have hwm : w.Mild (chSrc n 16) := hlog.mild hid hlogsrc (hvmild hum)
    have hwc : w.Calm := hlogcalm (hvcalm huc)
    exact hpcalm (by rw [hyparts]; exact hwm) (by rw [hyparts]; exact hwc)

theorem calCounter_aborted (n : ChId) : calCounter n 5 = some (Reg.CAL_CNT_ABORTED n) := rfl

/-- A run that has not passed EVALUATE is aborted. -/
theorem abortRun_eq {s : State} {n : ChId} (h : s.cal[n].state = .pending ∨ s.cal[n].state = .acquire ∨
    s.cal[n].state = .paused ∨ s.cal[n].state = .evaluate) (d : Nat) : s.abortRun n d = s.endRun n 5 d := by
  unfold State.abortRun
  rcases h with h | h | h | h <;> rw [h]

end Sys2Proof.Machine
end

section
/-!
PROOFS. Calibration runs: the request, the trigger, the grant and the cancellation (R131, R134, R136, R139, R150).
-/

namespace Sys2Proof.Machine

set_option Elab.async false

/-! ### A run that is asked for -/

/-- A run takes its channel's domain by waiting. -/
theorem schedDo_cal {s : State} {n : ChId} (h : s.sched[chDomain n].pending = none) :
    s.schedDo (chDomain n) .cal = (.pend, s.modSched (chDomain n) fun x => { x with pending := some .cal }) := by
  have hask : s.schedAsk (chDomain n) .cal = .pend := by
    unfold State.schedAsk
    simp only [h]
    rfl
  unfold State.schedDo
  rw [hask]

/-- A run that has been asked for, and waits in its domain. -/
def State.calAsked (s : State) (n : ChId) (trigger : Nat) (commanded : Bool) : State :=
  (s.modSched (chDomain n) fun x => { x with pending := some .cal }).calPend n trigger commanded

theorem calAsked_facts (s : State) (n : ChId) (x : Nat) (b : Bool) :
    s.calAsked n x b = { s with
      regs := (s.calAsked n x b).regs, cal := (s.calAsked n x b).cal, sched := (s.calAsked n x b).sched } ∧
    s.OneReg (s.calAsked n x b) (Reg.CAL_CNT_STARTED n) (satInc 32 (s.reg (Reg.CAL_CNT_STARTED n))) ∧
    (s.calAsked n x b).cal[n] =
      { s.cal[n] with state := .pending, trigger := x, commanded := b, repeatDue := false } ∧
    (s.calAsked n x b).sched[chDomain n] = { s.sched[chDomain n] with pending := some .cal } ∧
    (∀ d, d ≠ chDomain n → (s.calAsked n x b).sched[d] = s.sched[d]) ∧
    (∀ m, m ≠ n → (s.calAsked n x b).cal[m] = s.cal[m]) ∧ (s.calAsked n x b).floor = s.floor :=
  ⟨rfl, oneReg_bump _ _, modCal_self _ n _, modSched_self s _ _, fun _ hd => modSched_ne s _ hd,
    fun _ hm => modCal_ne _ _ hm, rfl⟩

theorem calOffer_asked {s : State} {n : ChId} (hu : s.updWaits = false) (h : s.sched[chDomain n].pending = none)
    (x : Nat) (b : Bool) : s.calOffer n x b = s.calAsked n x b := by
  unfold State.calOffer
  rw [hu, schedDo_cal h]
  rfl

/-! ### CAL_START -/

theorem baselineArc_false {s : State} {n : ChId} (h : s.reg (Reg.CAL_KIND n) ≠ 1 ∨ s.reg (Reg.CAL_SCOPE n) ≠ 1) :
    s.baselineArc n = false := by
  unfold State.baselineArc
  rcases h with h | h
  · rw [decide_eq_false h, Bool.false_and]
  · rw [decide_eq_false h, Bool.and_false]

theorem baselineArc_true {s : State} {n : ChId} (hk : s.reg (Reg.CAL_KIND n) = 1) (hs : s.reg (Reg.CAL_SCOPE n) = 1) :
    s.baselineArc n = true := by
  unfold State.baselineArc
  rw [decide_eq_true hk, decide_eq_true hs]
  rfl

theorem effCalStart_refuses {s : State} {n : ChId} (hu : s.updWaits = false)
    (hb : s.reg (Reg.CAL_KIND n) ≠ 1 ∨ s.reg (Reg.CAL_SCOPE n) ≠ 1)
    (h : s.cal[n].state ≠ .idle ∨ (s.dev.state ≠ .run ∧ s.dev.state ≠ .service) ∨ s.ch[n].state = .off ∨
      s.kindAllowed n = false) : effCalStart n s = .error nakCond := by
  have hok : (decide (s.cal[n].state = .idle) && (decide (s.dev.state = .run) || decide (s.dev.state = .service)) &&
      decide (s.ch[n].state ≠ .off)) = false ∨ s.kindAllowed n = false := by
    rcases h with h | h | h | h
    · exact .inl (by rw [decide_eq_false h]; rfl)
    · exact .inl (by rw [decide_eq_false h.1, decide_eq_false h.2, Bool.or_false, Bool.and_false]; rfl)
    · exact .inl (by rw [decide_eq_false (not_not.2 h), Bool.and_false])
    · exact .inr h
  unfold effCalStart
  rw [hu, baselineArc_false hb]
  cases hrest : (decide (s.cal[n].state = .idle) && (decide (s.dev.state = .run) || decide (s.dev.state = .service)) &&
      decide (s.ch[n].state ≠ .off)) with
  | false => rfl
  | true => rw [hok.resolve_left (by rw [hrest]; decide)]; rfl

theorem effCalStart_asks {s : State} {n : ChId} (hu : s.updWaits = false)
    (hb : s.reg (Reg.CAL_KIND n) ≠ 1 ∨ s.reg (Reg.CAL_SCOPE n) ≠ 1) (hi : s.cal[n].state = .idle)
    (hd : s.dev.state = .run ∨ s.dev.state = .service) (ho : s.ch[n].state ≠ .off) (hk : s.kindAllowed n = true)
    (hp : s.sched[chDomain n].pending = none) : effCalStart n s = .ok (s.calAsked n 3 true) := by
  have hok : (decide (s.cal[n].state = .idle) && (decide (s.dev.state = .run) || decide (s.dev.state = .service)) &&
      decide (s.ch[n].state ≠ .off)) = true := by
    rw [decide_eq_true hi, decide_eq_true ho]
    rcases hd with hd | hd <;> rw [hd] <;> rfl
  unfold effCalStart
  rw [hu, baselineArc_false hb, hok, hk, schedDo_cal hp]
  rfl

theorem effCalStart_held {s : State} {n : ChId} (hu : s.updWaits = true) : effCalStart n s = .error nakMgmt := by
  unfold effCalStart
  rw [hu]
  rfl

theorem effCalStart_arc {s : State} {n : ChId} (hu : s.updWaits = false) (hk : s.reg (Reg.CAL_KIND n) = 1)
    (hs : s.reg (Reg.CAL_SCOPE n) = 1) : effCalStart n s = .error nakRange := by
  unfold effCalStart
  rw [hu, baselineArc_true hk hs]
  rfl

theorem calStart_requested {p : Port} {n : ChId} {s : State} (c : s.Calm) (ha : s.AdmitsCmd p (Reg.CAL_START n)) :
    (s.updWaits = false → (s.reg (Reg.CAL_KIND n) ≠ 1 ∨ s.reg (Reg.CAL_SCOPE n) ≠ 1) →
      (s.cal[n].state ≠ .idle ∨ (s.dev.state ≠ .run ∧ s.dev.state ≠ .service) ∨ s.ch[n].state = .off ∨
        s.kindAllowed n = false) →
      ∃ t, exec (.calStart p n) s = .next t ∧ s.RefusedAs t p (Reg.CAL_START n) nakCond) ∧
    (s.updWaits = false → (s.reg (Reg.CAL_KIND n) ≠ 1 ∨ s.reg (Reg.CAL_SCOPE n) ≠ 1) → s.cal[n].state = .idle →
      (s.dev.state = .run ∨ s.dev.state = .service) → s.ch[n].state ≠ .off → s.kindAllowed n = true →
      s.sched[chDomain n].pending = none →
      exec (.calStart p n) s = .next ((s.beat p).calAsked n 3 true)) ∧
    (s.updWaits = true → ∃ t, exec (.calStart p n) s = .next t ∧ s.RefusedAs t p (Reg.CAL_START n) nakMgmt) ∧
    (s.updWaits = false → s.reg (Reg.CAL_KIND n) = 1 → s.reg (Reg.CAL_SCOPE n) = 1 →
      ∃ t, exec (.calStart p n) s = .next t ∧ s.RefusedAs t p (Reg.CAL_START n) nakRange) :=
  ⟨fun hu hb h => hostWrite_refusedAs c ha (effCalStart_refuses (s := s.beat p) hu hb h) (by decide) (by decide),
    fun hu hb hi hd ho hk hp => hostWrite_next ha (effCalStart_asks (s := s.beat p) hu hb hi hd ho hk hp) c.1,
    fun hu => hostWrite_refusedAs c ha (effCalStart_held (s := s.beat p) hu) (by decide) (by decide),
    fun hu hk hs => hostWrite_refusedAs c ha (effCalStart_arc (s := s.beat p) hu hk hs) (by decide) (by decide)⟩

/-! ### CAL_CANCEL -/

theorem effCalCancel_refuses {s : State} {n : ChId}
    (h : s.cal[n].state ≠ .pending ∧ s.cal[n].state ≠ .acquire ∧ s.cal[n].state ≠ .paused) :
    effCalCancel n s = .error nakCond := by
  unfold effCalCancel
  rw [decide_eq_false h.1, decide_eq_false h.2.1, decide_eq_false h.2.2]
  rfl

theorem effCalCancel_ends {s : State} {n : ChId}
    (h : s.cal[n].state = .pending ∨ s.cal[n].state = .acquire ∨ s.cal[n].state = .paused) :
    effCalCancel n s = .ok (s.endRun n 5 1) := by
  have habort : s.abortRun n 1 = s.endRun n 5 1 := abortRun_eq (by tauto) 1
  unfold effCalCancel
  rw [habort]
  rcases h with h | h | h <;> rw [h] <;> rfl

theorem calCancel_refused {p : Port} {n : ChId} {s : State} (c : s.Calm) (ha : s.AdmitsCmd p (Reg.CAL_CANCEL n))
    (h : s.cal[n].state ≠ .pending ∧ s.cal[n].state ≠ .acquire ∧ s.cal[n].state ≠ .paused) :
    ∃ t, exec (.calCancel p n) s = .next t ∧ s.RefusedAs t p (Reg.CAL_CANCEL n) nakCond :=
  hostWrite_refusedAs c ha (effCalCancel_refuses (s := s.beat p) h) (by decide) (by decide)

theorem calCancel_ends {p : Port} {n : ChId} {s : State} (c : s.Calm) (ha : s.AdmitsCmd p (Reg.CAL_CANCEL n))
    (h : s.cal[n].state = .pending ∨ s.cal[n].state = .acquire ∨ s.cal[n].state = .paused) (m : s.Mild (chSrc n 16)) :
    ∃ t, exec (.calCancel p n) s = .next t ∧ RunEnded (s.beat p) t n 5 1 :=
  have hend := endRun_ends (s.beat p) n 5 1
  ⟨_, hostWrite_next ha (effCalCancel_ends (s := s.beat p) h) (hend.calm c m).1, hend⟩

/-! ### CAL_TRIGGER_EVAL -/

/-- The temperature of a run that stands has left its tolerance (R136). -/
def State.drifted (s : State) (n : ChId) : Bool :=
  (s.cal[n].state = .acquire || s.cal[n].state = .paused || s.cal[n].state = .evaluate) &&
    s.cal[n].cfg.tempTol.toNat < (s.reg (Reg.CH_TEMP n) - s.cal[n].tStart).natAbs

theorem drifted_idle {s : State} {n : ChId} (h : s.cal[n].state = .idle) : s.drifted n = false := by
  unfold State.drifted
  rw [h]
  rfl

/-- What the evaluation asks for in `u`, once a run of `s` that has drifted is ended. -/
def State.calAsks (s u : State) (n : ChId) : Host.Outcome State Fault Refusal :=
  if s.cal[n].state = .idle && s.cal[n].repeatDue && (u.dev.state = .run || u.dev.state = .service) then
    done (u.calOffer n 5 s.cal[n].commanded)
  else if u.calAuto n then
    match u.calTrigger n with
    | some x => done (u.calOffer n x false)
    | none => done u
  else done u

theorem calTriggerEval_eq {n : ChId} {s : State} (ha : s.alive = true) (hv : s.serviceOn = true) :
    exec (.calTriggerEval n) s = s.calAsks (if s.drifted n then s.abortRun n 3 else s) n :=
  if_neg (by rw [ha, hv]; decide)

theorem calTriggerEval_steady {n : ChId} {s : State} (ha : s.alive = true) (hv : s.serviceOn = true)
    (hi : s.cal[n].state = .idle) : exec (.calTriggerEval n) s = s.calAsks s n := by
  rw [calTriggerEval_eq ha hv, drifted_idle hi]
  rfl

theorem calTriggerEval_starts {n : ChId} {x : Nat} {s : State} (c : s.Calm) (ha : s.alive = true)
    (hv : s.serviceOn = true) (hr : s.cal[n].repeatDue = false) (hauto : s.calAuto n = true)
    (hx : s.calTrigger n = some x) (hu : s.updWaits = false) (hp : s.sched[chDomain n].pending = none) :
    exec (.calTriggerEval n) s = .next (s.calAsked n x false) := by
  have hidle : s.cal[n].state = .idle := by
    simp only [State.calAuto, Bool.and_eq_true, decide_eq_true_eq] at hauto
    exact hauto.1.1.1.1.1
  rw [calTriggerEval_steady ha hv hidle, State.calAsks, hr, Bool.and_false, Bool.false_and, hauto, hx]
  exact (congrArg done (calOffer_asked hu hp x false)).trans (done_quiet c.1)

theorem calTriggerEval_repeats {n : ChId} {s : State} (c : s.Calm) (ha : s.alive = true)
    (hv : s.serviceOn = true) (hidle : s.cal[n].state = .idle) (hr : s.cal[n].repeatDue = true)
    (hd : s.dev.state = .run ∨ s.dev.state = .service) (hu : s.updWaits = false) (hp : s.sched[chDomain n].pending = none) :
    exec (.calTriggerEval n) s = .next (s.calAsked n 5 s.cal[n].commanded) := by
  have hdev : (decide (s.dev.state = .run) || decide (s.dev.state = .service)) = true := by
    rcases hd with hd | hd <;> rw [hd] <;> rfl
  rw [calTriggerEval_steady ha hv hidle, State.calAsks, hr, hdev, decide_eq_true hidle]
  exact (congrArg done (calOffer_asked hu hp 5 _)).trans (done_quiet c.1)

theorem autoAll_facts (n : ChId) : calCounter n 5 ≠ some Reg.CAL_AUTO_ALL ∧ Reg.CAL_AUTO_ALL ≠ Reg.FC_LOG_LOST := by
  decide +revert

/-- No run starts by itself while CAL_AUTO_ALL is 0. -/
theorem calAuto_off {s : State} (n : ChId) (h : s.flag Reg.CAL_AUTO_ALL = false) : s.calAuto n = false := by
  unfold State.calAuto
  rw [h]
  simp only [Bool.and_false, Bool.false_and]

theorem calTriggerEval_drifts {n : ChId} {s : State} (c : s.Calm) (ha : s.alive = true)
    (hv : s.serviceOn = true) (m : s.Mild (chSrc n 16))
    (hst : s.cal[n].state = .acquire ∨ s.cal[n].state = .paused ∨ s.cal[n].state = .evaluate)
    (htol : s.cal[n].cfg.tempTol.toNat < (s.reg (Reg.CH_TEMP n) - s.cal[n].tStart).natAbs)
    (hauto : s.flag Reg.CAL_AUTO_ALL = false) :
    ∃ t, exec (.calTriggerEval n) s = .next t ∧ RunEnded s t n 5 3 := by
  have hend := endRun_ends s n 5 3
  have hdrift : s.drifted n = true := by
    unfold State.drifted
    rw [decide_eq_true htol]
    rcases hst with h | h | h <;> rw [h] <;> rfl
  have hrepeat : decide (s.cal[n].state = .idle) = false :=
    decide_eq_false (by rcases hst with h | h | h <;> rw [h] <;> decide)
  have hoff : (s.endRun n 5 3).calAuto n = false := calAuto_off n (by
    unfold State.flag
    rw [hend.regs _ (autoAll_facts n).1 (autoAll_facts n).2]
    exact hauto)
  refine ⟨_, ?_, hend⟩
  rw [calTriggerEval_eq ha hv, hdrift, if_pos rfl, abortRun_eq (.inr hst), State.calAsks, hrepeat, Bool.false_and,
    Bool.false_and, hoff]
  exact done_quiet (hend.calm c m).1

/-! ### CAL_GRANT -/

/-- A run that waits for the statistics unit alone. -/
theorem unitGranted_waits {s : State} {n : ChId} (h : s.unitGranted n = true) :
    s.cal[n].state = .pending ∧ s.sched[chDomain n].pending = some .cal ∧ s.sched[chDomain n].running = none := by
  simp only [State.unitGranted, State.waitsUnit, Bool.and_eq_true, decide_eq_true_eq, Option.isNone_iff_eq_none] at h
  obtain ⟨⟨⟨hst, hpend⟩, hrun⟩, -⟩ := h
  exact ⟨hst, hpend, hrun⟩

/-- A run that an automatic trigger has asked for (R139). -/
def Cal.auto (c : Cal) : Bool := c.trigger = 1 || c.trigger = 2 || c.trigger = 4

/-- R131 and R139 permit the run (log entry 82). -/
def State.calFits (s : State) (n : ChId) : Bool :=
  s.kindAllowed n && !s.baselineArc n && (s.dev.state = .run || s.dev.state = .service)

theorem withdrawn_alone (now : Nat) {x : Sched} (hr : x.running = none) (hp : x.pending = some .cal) :
    x.withdrawn now .cal = { x with pending := none, suspended := false } := by
  cases x
  cases hr
  cases hp
  simp [Sched.withdrawn]

theorem calGrant_exec {n : ChId} {s : State} (ha : s.alive = true) (hv : s.serviceOn = true) (hg : s.unitGranted n = true) :
    exec (.calGrant n) s = done (s.calGrant n) := if_pos (by rw [ha, hv, hg]; rfl)

/-- A granted run: its configuration is read, its target set and temperature are fixed. -/
def State.calBegun (s : State) (n : ChId) (c : Cal) : Cal :=
  { c with
    state := .acquire, pause := 3, target := s.governing n, cfg := s.calCfg n, tStart := s.reg (Reg.CH_TEMP n)
    acquireAt := some s.now, granted := true, gates := false, window := none, winN := 0, stats := [], sumTemp := 0, tMean := 0
    numObs := 0, sumXs := 0, sumXc := 0, candidate := c.candidate.filter fun r => r.sameAs (s.calCfg n) (s.governing n) }

/-- The state in which a granted run enters ACQUIRE. -/
def State.calTaken (s : State) (n : ChId) : State :=
  ((((s.takeDomain n).modCal n (s.calBegun n)).setReg (Reg.CAL_COVERED n) 0).setReg (Reg.CAL_SCOPE_NODES n)
    (Int.ofNat (scopeNodes (s.calCfg n)).length))

theorem calGrant_eq (s : State) (n : ChId) : s.calGrant n =
    (if (s.cal[n].auto && ((s.calTrigger n).isNone || !s.calFits n)) = true then
      (s.modCal n fun c => { c with state := .idle, granted := false }).schedWithdraw (chDomain n) .cal
    else if s.ch[n].state = .off then s.abortRun n 2
    else if (!s.calFits n) = true then s.abortRun n 4
    else if (s.calTaken n).ch[n].state = .track then s.calTaken n else (s.calTaken n).calPause n 4) := rfl

/-- An automatic trigger that no longer holds takes its run back without a result. -/
theorem calGrant_dropped {n : ChId} {s : State} (hg : s.unitGranted n = true)
    (hauto : s.cal[n].auto = true) (hno : ((s.calTrigger n).isNone || !s.calFits n) = true) :
    s.calGrant n = (s.modCal n fun c => { c with state := .idle, granted := false }).modSched (chDomain n)
      (fun x => { x with pending := none, suspended := false }) := by
  obtain ⟨-, hpend, hrun⟩ := unitGranted_waits hg
  rw [calGrant_eq, hauto, hno, Bool.and_self, if_pos rfl, schedWithdraw_chan]
  exact modSched_congr _ _ (withdrawn_alone _ hrun hpend)

/-- A run whose trigger stands is not taken back. -/
theorem calKept {n : ChId} {s : State}
    (hauto : s.cal[n].auto = true → (s.calTrigger n).isSome = true ∧ s.calFits n = true) :
    (s.cal[n].auto && ((s.calTrigger n).isNone || !s.calFits n)) = false := by
  cases ha : s.cal[n].auto with
  | false => rfl
  | true =>
    obtain ⟨hx, hf⟩ := hauto ha
    rw [hf, ← Option.not_isSome, hx]
    rfl

/-- A run that R131 and R139 no longer permit ends ABORTED. -/
theorem calGrant_aborted {n : ChId} {s : State} (hg : s.unitGranted n = true)
    (hbar : s.ch[n].state = .off ∨ s.calFits n = false)
    (hauto : s.cal[n].auto = true → (s.calTrigger n).isSome = true ∧ s.calFits n = true) :
    s.calGrant n = s.endRun n 5 (if s.ch[n].state = .off then 2 else 4) := by
  obtain ⟨hst, -, -⟩ := unitGranted_waits hg
  rw [calGrant_eq, calKept hauto, if_neg Bool.false_ne_true]
  by_cases ho : s.ch[n].state = .off
  · rw [if_pos ho, if_pos ho, abortRun_eq (.inl hst)]
  · rw [if_neg ho, if_neg ho, hbar.resolve_left ho, Bool.not_false, if_pos rfl, abortRun_eq (.inl hst)]

theorem calGrant_begins {n : ChId} {s : State} (hf : s.calFits n = true) (ho : s.ch[n].state ≠ .off)
    (hauto : s.cal[n].auto = true → (s.calTrigger n).isSome = true) :
    s.calGrant n = if (s.calTaken n).ch[n].state = .track then s.calTaken n else (s.calTaken n).calPause n 4 := by
  rw [calGrant_eq, calKept fun ha => ⟨hauto ha, hf⟩, if_neg Bool.false_ne_true, if_neg ho, hf, Bool.not_true,
    if_neg Bool.false_ne_true]

theorem scopeKeys (n : ChId) : Reg.CAL_COVERED n ≠ Reg.CAL_SCOPE_NODES n := by decide +revert

/-- What the grant of a run leaves. -/
structure RunGranted (s t : State) (n : ChId) : Prop where
  frame : t = { s with regs := t.regs, cal := t.cal, sched := t.sched }
  runs : ∀ m, m ≠ n → t.cal[m] = s.cal[m]
  run : t.cal[n] = if s.ch[n].state = .track then s.calBegun n s.cal[n]
    else { s.calBegun n s.cal[n] with state := .paused, pause := 4 }
  domain : t.sched[chDomain n] =
    { s.sched[chDomain n] with running := some .cal, pending := none, since := s.now, edge := none }
  domains : ∀ d, d ≠ chDomain n → t.sched[d] = s.sched[d]
  covered : t.reg (Reg.CAL_COVERED n) = 0
  nodes : t.reg (Reg.CAL_SCOPE_NODES n) = Int.ofNat (scopeNodes (s.calCfg n)).length
  regs : s.SameRegs t [Reg.CAL_COVERED n, Reg.CAL_SCOPE_NODES n]

theorem calTaken_granted {s : State} {n : ChId} :
    RunGranted s (if (s.calTaken n).ch[n].state = .track then s.calTaken n else (s.calTaken n).calPause n 4) n := by
  have hself : (s.calTaken n).cal[n] = s.calBegun n s.cal[n] := modCal_self (s.takeDomain n) n _
  have hothers : ∀ m, m ≠ n → (s.calTaken n).cal[m] = s.cal[m] := fun m hm => modCal_ne (s.takeDomain n) _ hm
  have hdomain : (s.calTaken n).sched[chDomain n] =
      { s.sched[chDomain n] with running := some .cal, pending := none, since := s.now, edge := none } := modSched_self s _ _
  have hdomains : ∀ d, d ≠ chDomain n → (s.calTaken n).sched[d] = s.sched[d] := fun d hd => modSched_ne s _ hd
  have hcovered : (s.calTaken n).reg (Reg.CAL_COVERED n) = 0 := by
    rw [State.calTaken, State.reg_setReg_ne _ _ (scopeKeys n).symm, State.reg_setReg]
  have hnodes : (s.calTaken n).reg (Reg.CAL_SCOPE_NODES n) = Int.ofNat (scopeNodes (s.calCfg n)).length := by
    rw [State.calTaken, State.reg_setReg]
  have hregs : s.SameRegs (s.calTaken n) [Reg.CAL_COVERED n, Reg.CAL_SCOPE_NODES n] := fun j hj => by
    simp only [List.mem_cons, List.not_mem_nil, or_false, not_or] at hj
    rw [State.calTaken, State.reg_setReg_ne _ _ (Ne.symm hj.2), State.reg_setReg_ne _ _ (Ne.symm hj.1)]
    rfl
  have hparts : s.calTaken n = { s with
      regs := (s.calTaken n).regs, cal := (s.calTaken n).cal, sched := (s.calTaken n).sched } := rfl
  have hch : (s.calTaken n).ch = s.ch := rfl
  generalize s.calTaken n = u at *
  rw [hch]
  by_cases ht : s.ch[n].state = .track
  · rw [if_pos ht]
    exact ⟨hparts, hothers, by rw [hself, if_pos ht], hdomain, hdomains, hcovered, hnodes, hregs⟩
  · obtain ⟨hpparts, hpothers, hpself, -⟩ := calPause_cal u n 4
    have hpaused := hpself (by rw [hself]; rfl)
    rw [if_neg ht]
    generalize u.calPause n 4 = t at *
    refine ⟨by rw [hpparts, hparts], fun m hm => by rw [hpothers m hm, hothers m hm], ?_, by rw [hpparts]; exact hdomain,
      fun d hd => by rw [hpparts]; exact hdomains d hd, by rw [hpparts]; exact hcovered, by rw [hpparts]; exact hnodes,
      fun j hj => by rw [hpparts]; exact hregs j hj⟩
    rw [if_neg ht, hpaused, hself]
    rfl

theorem abortedKeys (n : ChId) : calCounter n 5 = some (Reg.CAL_CNT_ABORTED n) := rfl

/-- An aborted run leaves every register but its counter and the log's loss counter. -/
theorem RunEnded.aborted_regs {s t : State} {n : ChId} {d : Nat} (h : RunEnded s t n 5 d) :
    s.SameRegs t [Reg.CAL_CNT_ABORTED n, Reg.FC_LOG_LOST] := fun j hj => by
  simp only [List.mem_cons, List.not_mem_nil, or_false, not_or] at hj
  exact h.regs j (fun e => hj.1 (Option.some.inj e).symm) hj.2

/-- Settles O30: a request and a trigger leave the run waiting in its domain, and every other way out is the end of a run
or the grant with the configuration read. -/
theorem calibrationRunsAreRequestedGrantedAndCancelled : Obligations.CalibrationRunsAreRequestedGrantedAndCancelled := by
  refine ⟨fun p n s c ha => ?_, fun p n s c ha => ⟨fun h m => ?_, calCancel_refused c ha⟩,
    fun n x s c ha hv hr hauto hx hu hp => ?_, fun n s c ha hv hi hr hd hu hp => ?_,
    fun n s c ha hv m hst htol hauto => ?_, fun n auto fits s c ha hv hg hauto hfits => ?_⟩
  · obtain ⟨hrefused, hasks, hheld, harc⟩ := calStart_requested c ha
    refine ⟨hrefused, fun hu hb hi hd ho hk hp => ?_, hheld, harc⟩
    obtain ⟨hparts, hcount, hself, hdomain, hdomains, hothers, -⟩ := calAsked_facts (s.beat p) n 3 true
    exact ⟨_, hasks hu hb hi hd ho hk hp, hparts, hcount, hself, hdomain, hdomains, hothers⟩
  · obtain ⟨t, hexec, hend⟩ := calCancel_ends c ha h m
    have hself := hend.run
    refine ⟨t, hexec, ?_, ?_, ?_, ?_, ?_, hend.runs, hend.count _ (abortedKeys n), hend.aborted_regs, hend.domains, hend.frame⟩
    all_goals rw [hself]; rfl
  · obtain ⟨hparts, hcount, hself, hdomain, -, hothers, -⟩ := calAsked_facts s n x false
    exact ⟨_, calTriggerEval_starts c ha hv hr hauto hx hu hp, hparts, hcount, by rw [hself]; dsimp only; rw [hr],
      hdomain, hothers⟩
  · obtain ⟨hparts, -, hself, -, -, hothers, -⟩ := calAsked_facts s n 5 s.cal[n].commanded
    exact ⟨_, calTriggerEval_repeats c ha hv hi hr hd hu hp, hparts, hself, hothers⟩
  · obtain ⟨t, hexec, hend⟩ := calTriggerEval_drifts c ha hv m hst htol hauto
    have hself := hend.run
    refine ⟨t, hexec, ?_, ?_, ?_, hend.count _ (abortedKeys n), hend.frame.bead, hend.frame.sets⟩
    all_goals rw [hself]; rfl
  · have hauto' : auto = s.cal[n].auto := hauto
    have hfits' : fits = s.calFits n := hfits
    rw [hauto', hfits']
    rw [calGrant_exec ha hv hg]
    refine ⟨fun hf ho hx => ?_, fun ha hno => ?_, fun hbar hx m => ?_⟩
    · have hgrant := calTaken_granted (s := s) (n := n)
      rw [← calGrant_begins hf ho hx] at hgrant
      generalize s.calGrant n = t at *
      have hrun := hgrant.run
      refine ⟨t, done_quiet (by rw [hgrant.frame]; exact c.1), hgrant.frame, hgrant.runs, ?_, ?_, ?_, ?_, ?_, ?_, ?_, ?_, ?_, ?_,
        hgrant.domains, hgrant.covered, hgrant.nodes, hgrant.regs⟩
      iterate 7 · rw [hrun]; split <;> rfl
      · rw [hrun]; split <;> rfl
      · rw [hgrant.domain]
      · rw [hgrant.domain]
    · rw [calGrant_dropped hg ha (by
        rcases hno with hno | hno
        · rw [hno, Bool.not_false, Bool.or_true]
        · rw [← Option.not_isSome, hno]; rfl)]
      exact ⟨_, done_quiet c.1, rfl, modCal_self s n _, fun m hm => modCal_ne s _ hm, modSched_self _ _ _⟩
    · rw [calGrant_aborted hg hbar hx]
      have hend := endRun_ends s n 5 (if s.ch[n].state = .off then 2 else 4)
      generalize s.endRun n 5 _ = t at *
      have hself := hend.run
      refine ⟨t, done_quiet (hend.calm c m).1, ?_, ?_, ?_, hend.runs, hend.frame⟩
      all_goals rw [hself]; rfl

end Sys2Proof.Machine
end

section
/-!
PROOFS. The windows of a calibration run (R126, R128, R129, R134, R135).
-/

namespace Sys2Proof.Machine

set_option Elab.async false

/-! ### The close of a window -/

/-- The fit of a window is one that its run takes. -/
def Cal.takes (c : Cal) (os : List Obs) : Bool := (fitOf os).d ≠ 0 && (fitOf os).within os c.cfg.winResid

/-- A run after a window: with its observations, or without them. -/
def Cal.closed (c : Cal) (os : List Obs) : Cal :=
  { (if c.takes os then c.accept (fitOf os) os else c) with window := none, pause := 3 }

/-- A run with its mean temperature. -/
def Cal.averaged (c : Cal) : Cal := { c with tMean := if c.numObs = 0 then 0 else divRound c.sumTemp c.numObs }

/-- A run whose coverage is complete. -/
def Cal.evaluating (c : Cal) : Cal := { c with state := .evaluate, pause := 0, granted := false }

/-- What a run's statistics leave of it. -/
theorem accept_keeps (c : Cal) (f : Fit) (os : List Obs) :
    (c.accept f os).candidate = c.candidate ∧ (c.accept f os).cfg = c.cfg ∧ (c.accept f os).state = c.state := ⟨rfl, rfl, rfl⟩

theorem closed_keeps (c : Cal) (os : List Obs) : (c.closed os).averaged.window = none ∧
    (c.closed os).averaged.candidate = c.candidate ∧ (c.closed os).averaged.cfg = c.cfg ∧
    (c.closed os).averaged.state = c.state := by
  unfold Cal.closed
  obtain ⟨hcandidate, hcfg, hstate⟩ := accept_keeps c (fitOf os) os
  cases c.takes os
  · exact ⟨rfl, rfl, rfl, rfl⟩
  · exact ⟨rfl, hcandidate, hcfg, hstate⟩

theorem closed_discards {c : Cal} {os : List Obs} (h : c.takes os = false) :
    (c.closed os).averaged.stats = c.stats ∧ (c.closed os).averaged.numObs = c.numObs := by
  unfold Cal.closed
  rw [h]
  exact ⟨rfl, rfl⟩

theorem closed_takes {c : Cal} {os : List Obs} (h : c.takes os = true) :
    (c.closed os).averaged.stats = (c.accept (fitOf os) os).stats := by
  unfold Cal.closed
  rw [h]
  rfl

/-- The state in which a window has been added or discarded. -/
def State.windowClosed (s : State) (n : ChId) (os : List Obs) : State :=
  (((s.modCal n fun c => c.closed os).modCal n Cal.averaged).setReg (Reg.CAL_COVERED n)
    (Int.ofNat (s.cal[n].closed os).averaged.coveredCount)).setReg (Reg.CAL_T_MEAN n) (s.cal[n].closed os).averaged.tMean

theorem closeWindow_eq (s : State) (n : ChId) (os : List Obs) : s.closeWindow n os =
    if (s.cal[n].closed os).averaged.coveredCount = (scopeNodes (s.cal[n].closed os).averaged.cfg).length then
      ((s.windowClosed n os).modCal n Cal.evaluating).modSched (chDomain n) (Sched.withdrawn s.now .cal)
    else s.windowClosed n os := by
  obtain ⟨u, hu⟩ : ∃ u, u = s.modCal n fun c => c.closed os := ⟨_, rfl⟩
  obtain ⟨v, hv⟩ : ∃ v, v = u.modCal n Cal.averaged := ⟨_, rfl⟩
  have huself : u.cal[n] = s.cal[n].closed os := by rw [hu]; exact modCal_self s n _
  have hvself : v.cal[n] = (s.cal[n].closed os).averaged := by
    rw [hv, ← huself]
    exact modCal_self u n _
  have hvnow : v.now = s.now := by rw [hv, hu]; rfl
  have hclosed : s.windowClosed n os = (v.setReg (Reg.CAL_COVERED n)
      (Int.ofNat u.cal[n].coveredCount)).setReg (Reg.CAL_T_MEAN n) v.cal[n].tMean := by
    rw [hvself, huself, hv, hu]
    rfl
  have hclose : s.closeWindow n os = if u.cal[n].coveredCount = (scopeNodes v.cal[n].cfg).length then
      ((s.windowClosed n os).modCal n Cal.evaluating).schedWithdraw (chDomain n) .cal else s.windowClosed n os := by
    rw [hclosed, hv, hu]
    have hrun : (s.modCal n fun c => { (if (decide ((fitOf os).d ≠ 0) && (fitOf os).within os s.cal[n].cfg.winResid) = true then
        c.accept (fitOf os) os else c) with window := none, pause := 3 }) = s.modCal n fun c => c.closed os :=
      congrArg (fun v => { s with cal := v }) (vmod_congr s.cal n rfl)
    rw [← hrun]
    rfl
  have hcount : u.cal[n].coveredCount = (s.cal[n].closed os).averaged.coveredCount := by rw [huself]; rfl
  have hnow : ((s.windowClosed n os).modCal n Cal.evaluating).now = s.now := rfl
  rw [hclose, schedWithdraw_chan, hnow, hcount, hvself]

theorem windowKeys (n : ChId) : Reg.CAL_T_MEAN n ≠ Reg.CAL_COVERED n := by decide +revert

/-- What the close of a window leaves. -/
structure WindowClosed (s t : State) (n : ChId) (c : Cal) : Prop where
  frame : t = { s with regs := t.regs, cal := t.cal, sched := t.sched }
  runs : ∀ m, m ≠ n → t.cal[m] = s.cal[m]
  run : t.cal[n] = if c.coveredCount = (scopeNodes c.cfg).length then c.evaluating else c
  covered : t.reg (Reg.CAL_COVERED n) = Int.ofNat c.coveredCount
  regs : s.SameRegs t [Reg.CAL_COVERED n, Reg.CAL_T_MEAN n]

theorem closeWindow_closes (s : State) (n : ChId) (os : List Obs) :
    WindowClosed s (s.closeWindow n os) n (s.cal[n].closed os).averaged := by
  obtain ⟨c, hc⟩ : ∃ c, c = (s.cal[n].closed os).averaged := ⟨_, rfl⟩
  have hself : (s.windowClosed n os).cal[n] = c := by
    have hfirst : (s.modCal n fun c => c.closed os).cal[n] = s.cal[n].closed os := modCal_self s n _
    rw [hc, ← hfirst]
    exact modCal_self (s.modCal n fun c => c.closed os) n _
  have hothers : ∀ m, m ≠ n → (s.windowClosed n os).cal[m] = s.cal[m] := fun m hm =>
    (modCal_ne (s.modCal n fun c => c.closed os) _ hm).trans (modCal_ne s _ hm)
  have hcovered : (s.windowClosed n os).reg (Reg.CAL_COVERED n) = Int.ofNat c.coveredCount := by
    rw [hc, State.windowClosed, State.reg_setReg_ne _ _ (windowKeys n), State.reg_setReg]
  have hregs : s.SameRegs (s.windowClosed n os) [Reg.CAL_COVERED n, Reg.CAL_T_MEAN n] := fun j hj => by
    simp only [List.mem_cons, List.not_mem_nil, or_false, not_or] at hj
    rw [State.windowClosed, State.reg_setReg_ne _ _ (Ne.symm hj.2), State.reg_setReg_ne _ _ (Ne.symm hj.1)]
    rfl
  have hparts : s.windowClosed n os = { s with
      regs := (s.windowClosed n os).regs, cal := (s.windowClosed n os).cal, sched := (s.windowClosed n os).sched } := rfl
  rw [closeWindow_eq, ← hc]
  generalize s.windowClosed n os = u at *
  by_cases hfull : c.coveredCount = (scopeNodes c.cfg).length
  · rw [if_pos hfull]
    refine ⟨?_, fun m hm => (modCal_ne u _ hm).trans (hothers m hm), ?_, hcovered, hregs⟩
    · rw [hparts]
      rfl
    · rw [if_pos hfull, ← hself]
      exact modCal_self u n _
  · rw [if_neg hfull]
    exact ⟨hparts, hothers, by rw [hself, if_neg hfull], hcovered, hregs⟩

/-! ### The commands -/

theorem calWindowOpen_opens {n : ChId} {s : State} (c : s.Calm) (hl : s.lanesOn = true) (hst : s.cal[n].state = .acquire)
    (hg : s.cal[n].gates = true) (hw : s.cal[n].window = none) :
    exec (.calWindowOpen n) s = .next (s.modCal n fun c => { c with window := some [], winN := 0, pause := 0 }) :=
  (if_pos (by rw [hl, hst, hg, hw]; rfl)).trans (done_quiet c.1)

theorem calWindowTimeout_discards {n : ChId} {s : State} (c : s.Calm) (hl : s.lanesOn = true)
    (hst : s.cal[n].state = .acquire) (hw : s.cal[n].window ≠ none) :
    exec (.calWindowTimeout n) s = .next (s.modCal n fun c => { c with window := none, pause := 3 }) :=
  (if_pos (by rw [hl, hst, Option.isSome_iff_ne_none.2 hw]; rfl)).trans (done_quiet c.1)

theorem calResume_resumes {n : ChId} {s : State} (c : s.Calm) (hl : s.lanesOn = true) (hst : s.cal[n].state = .paused)
    (hg : s.cal[n].gates = true) (ht : s.ch[n].state = .track) (hp : s.noProbe n = true)
    (hd : s.sched[chDomain n].suspended = false) :
    exec (.calResume n) s = .next (s.modCal n fun c => { c with state := .acquire, pause := 3 }) :=
  (if_pos (by rw [hl, hst, hg, ht, hp, hd]; rfl)).trans (done_quiet c.1)

theorem calWindowClose_closes {n : ChId} {os : List Obs} {s : State} (c : s.Calm) (hl : s.lanesOn = true)
    (hst : s.cal[n].state = .acquire) (hw : s.cal[n].window = some os) (ht : s.cal[n].travelled = true) :
    exec (.calWindowClose n) s = .next (s.closeWindow n os.reverse) := by
  have hexec : exec (.calWindowClose n) s = done (s.closeWindow n os.reverse) := by
    change (match s.cal[n].window with
      | some os => if (s.lanesOn && decide (s.cal[n].state = CalState.acquire) && s.cal[n].travelled) = true then
          done (s.closeWindow n os.reverse) else done s
      | none => done s) = _
    rw [hw, hl, hst, ht]
    rfl
  rw [hexec]
  exact done_quiet (by rw [(closeWindow_closes s n os.reverse).frame]; exact c.1)

/-- A window's fit that is not taken. -/
theorem takes_false {c : Cal} {os : List Obs} (h : (fitOf os).d = 0 ∨ (fitOf os).within os c.cfg.winResid = false) :
    c.takes os = false := by
  unfold Cal.takes
  rcases h with h | h
  · rw [decide_eq_false (not_not.2 h)]
    rfl
  · rw [h, Bool.and_false]

theorem takes_true {c : Cal} {os : List Obs} (hd : (fitOf os).d ≠ 0) (hr : (fitOf os).within os c.cfg.winResid = true) :
    c.takes os = true := by
  unfold Cal.takes
  rw [decide_eq_true hd, hr]
  rfl

theorem evaluating_keeps (c : Cal) : c.evaluating.window = c.window ∧ c.evaluating.candidate = c.candidate ∧
    c.evaluating.stats = c.stats ∧ c.evaluating.numObs = c.numObs ∧ c.evaluating.coveredCount = c.coveredCount :=
  ⟨rfl, rfl, rfl, rfl, rfl⟩

/-- A closed run and the evaluated one agree in what the statement asks for. -/
theorem WindowClosed.keeps {s t : State} {n : ChId} {c : Cal} (h : WindowClosed s t n c) : t.cal[n].window = c.window ∧
    t.cal[n].candidate = c.candidate ∧ t.cal[n].stats = c.stats ∧ t.cal[n].numObs = c.numObs ∧
    t.cal[n].coveredCount = c.coveredCount := by
  rw [h.run]
  by_cases hfull : c.coveredCount = (scopeNodes c.cfg).length
  · rw [if_pos hfull]
    exact evaluating_keeps c
  · rw [if_neg hfull]
    exact ⟨rfl, rfl, rfl, rfl, rfl⟩

theorem calTimeout_ends {n : ChId} {s : State} (c : s.Calm) (ha : s.alive = true) (hacq : s.acquiring n = true)
    (m : s.Mild (chSrc n 16)) : ∃ t, exec (.calTimeout n) s = .next t ∧ RunEnded s t n 4 32 :=
  have hend := endRun_ends s n 4 32
  ⟨_, (if_pos (by rw [ha, hacq]; rfl)).trans (done_quiet (hend.calm c m).1), hend⟩

theorem insufficientKey (n : ChId) : calCounter n 4 = some (Reg.CAL_CNT_INSUFFICIENT n) := rfl

/-- A run that acquires holds as its configuration says. -/
theorem holdEnd_acquiring {s : State} {n : ChId} (h : s.acquiring n = true) :
    s.holdEnd n 4 32 = s.now + s.cal[n].cfg.retryHold.toNat * 250000000 := by
  have hpend : s.cal[n].state ≠ .pending := by
    intro hst
    rw [State.acquiring, hst] at h
    exact absurd h (by decide)
  exact (if_neg (by decide)).trans (by rw [if_neg hpend])

/-- Settles O31: a closing window leaves the run with its fit added or without it, and full coverage takes it to
EVALUATE. -/
theorem windowsOpenCloseAndTimeOut : Obligations.WindowsOpenCloseAndTimeOut := by
  refine ⟨fun n s c hl => ⟨fun hst hg hw => ?_, fun hst hw => ?_, fun hst hg ht hp hd => ?_⟩,
    fun n os s c hl hst hw ht => ?_, fun n s c ha hacq m => ?_⟩
  · exact ⟨_, calWindowOpen_opens c hl hst hg hw, rfl, fun m hm => modCal_ne s _ hm, modCal_self s n _⟩
  · exact ⟨_, calWindowTimeout_discards c hl hst hw, rfl, fun m hm => modCal_ne s _ hm, modCal_self s n _⟩
  · exact ⟨_, calResume_resumes c hl hst hg ht hp hd, rfl, fun m hm => modCal_ne s _ hm, modCal_self s n _⟩
  · have hclosed := closeWindow_closes s n os.reverse
    obtain ⟨hcwindow, hccandidate, hccfg, hcstate⟩ := closed_keeps s.cal[n] os.reverse
    obtain ⟨hwindow, hcandidate, hstats, hnum, hcount⟩ := hclosed.keeps
    refine ⟨_, calWindowClose_closes c hl hst hw ht, hclosed.frame, hclosed.runs, by rw [hwindow, hcwindow],
      by rw [hcandidate, hccandidate], fun hno => ?_, fun hd hr => ?_, by rw [hclosed.covered, hcount], ?_, hclosed.regs⟩
    · obtain ⟨hs, hn⟩ := closed_discards (takes_false hno)
      exact ⟨by rw [hstats, hs], by rw [hnum, hn]⟩
    · rw [hstats, closed_takes (takes_true hd hr)]
    · rw [hcount, hclosed.run, hccfg]
      split
      · rfl
      · rw [hcstate, hst]
  · obtain ⟨t, hexec, hend⟩ := calTimeout_ends c ha hacq m
    have hself := hend.run
    rw [holdEnd_acquiring hacq] at hself
    refine ⟨t, hexec, ?_, ?_, ?_, ?_, hend.runs, hend.count _ (insufficientKey n), fun j hj => ?_, hend.frame⟩
    iterate 4 · rw [hself]; rfl
    · simp only [List.mem_cons, List.not_mem_nil, or_false, not_or] at hj
      exact hend.regs j (fun e => hj.1 (Option.some.inj e).symm) hj.2

end Sys2Proof.Machine
end

section
/-!
PROOFS. The evaluation of a calibration run (R132, R133, R137, R140 to R142).
-/

namespace Sys2Proof.Machine

set_option Elab.async false

/-! ### Staging rows (R142) -/

theorem stageNext_parts (s : State) (q : Fin 4) : s.stageNext q = { s with bead := (s.stageNext q).bead } ∧
    (s.stageNext q).bead.working = s.bead.working ∧ (s.stageNext q).bead.gens = s.bead.gens := by
  unfold State.stageNext
  split
  · exact ⟨rfl, rfl, rfl⟩
  · split
    · exact ⟨rfl, rfl, rfl⟩
    · exact ⟨rfl, rfl, rfl⟩

/-- A row that is staged changes neither the working copy nor a generation. -/
theorem stage_parts (s : State) (x : Staging) : s.stage x = { s with bead := (s.stage x).bead } ∧
    (s.stage x).bead.working = s.bead.working ∧ (s.stage x).bead.gens = s.bead.gens := by
  obtain ⟨hparts, hworking, hgens⟩ :=
    stageNext_parts (s.modBead fun b => { b with waiting := b.waiting ++ [x] }) (quadOf x.ch)
  exact ⟨hparts, hworking, hgens⟩

/-- A row that finds its lane's staging row free, and none before it, takes it. -/
theorem stage_free {s : State} {x : Staging} (hq : s.bead.staging[quadOf x.ch] = none) (hw : s.bead.waiting = []) :
    s.stage x = { s with bead := { s.bead with staging := vmod s.bead.staging (quadOf x.ch) fun _ => some x } } := by
  have hfind : (s.bead.waiting ++ [x]).find? (fun y => decide (quadOf y.ch = quadOf x.ch)) = some x := by
    rw [hw, List.nil_append]
    exact List.find?_cons_of_pos (decide_eq_true rfl)
  have herase : (s.bead.waiting ++ [x]).erase x = s.bead.waiting := by
    rw [hw, List.nil_append]
    exact List.erase_cons_head ..
  have hnone : ¬ (s.modBead fun b => { b with waiting := b.waiting ++ [x] }).bead.staging[quadOf x.ch].isSome = true := by
    change ¬ s.bead.staging[quadOf x.ch].isSome = true
    rw [hq]
    decide
  unfold State.stage State.stageNext
  rw [if_neg hnone]
  change (match (s.bead.waiting ++ [x]).find? (fun y => decide (quadOf y.ch = quadOf x.ch)) with
    | none => s.modBead fun b => { b with waiting := b.waiting ++ [x] }
    | some y => (s.modBead fun b => { b with waiting := b.waiting ++ [x] }).modBead fun b =>
      { b with staging := vmod b.staging (quadOf x.ch) fun _ => some y, waiting := b.waiting.erase y }) = _
  rw [hfind]
  exact congrArg (fun l => { s with
    bead := { s.bead with staging := vmod s.bead.staging (quadOf x.ch) fun _ => some x, waiting := l } }) herase

/-! ### What the evaluation reads -/

theorem rowBeads_congr {s t : State} (h : t.bead = s.bead) (n : ChId) (r : CalResult) : t.rowBeads n r = s.rowBeads n r := by
  unfold State.rowBeads State.beadAt State.stagedRow
  rw [h]

theorem calRange_congr {s t : State} (n : ChId) (h : t.visTrims n = s.visTrims n) (r : CalResult) :
    t.calRange n r = s.calRange n r := by
  unfold State.calRange State.newTrims
  rw [h]

theorem calLimits_congr {s t : State} {n : ChId} (hb : t.bead = s.bead) (hc : t.cal[n].cfg = s.cal[n].cfg) (r : CalResult) :
    t.calLimits n r = s.calLimits n r := by
  unfold State.calLimits State.beadStep State.beadAt State.stagedRow
  rw [hb, hc]

/-- The objects of the ellipse terms. -/
def ellipseKeys (n : ChId) (l : List Int) : List (Key × Int) :=
  l.zipIdx.map fun x => (Reg.CAL_ELL_OS n + x.2, clampI (-(2 ^ 31)) (2 ^ 31 - 1) (divRound x.1 (2 ^ 36)))

theorem showEllipse_eq (s : State) (n : ChId) : s.showEllipse n = if s.cal[n].cfg.scope ≠ 0 then s else
    s.setAll (ellipseKeys n (ellipse ((List.range 1024).map (nodeOf s.cal[n].stats)) (·.r))) := by
  unfold State.showEllipse
  dsimp only
  split
  · rfl
  · rw [State.setAll, ellipseKeys, List.foldl_map]

theorem mem_ellipseKeys {n : ChId} {a b c d e : Int} {k : Key}
    (h : k ∈ (ellipseKeys n [a, b, c, d, e]).map fun x => x.1) : ∃ i : Fin 5, k = Reg.CAL_ELL_OS n + i.val := by
  change k ∈ [Reg.CAL_ELL_OS n + 0, Reg.CAL_ELL_OS n + 1, Reg.CAL_ELL_OS n + 2, Reg.CAL_ELL_OS n + 3,
    Reg.CAL_ELL_OS n + 4] at h
  simp only [List.mem_cons, List.not_mem_nil, or_false] at h
  rcases h with h | h | h | h | h
  · exact ⟨0, h⟩
  · exact ⟨1, h⟩
  · exact ⟨2, h⟩
  · exact ⟨3, h⟩
  · exact ⟨4, h⟩

theorem ellipse_five (ns : List Node) (f : Node → Int) : ∃ a b c d e, ellipse ns f = [a, b, c, d, e] :=
  ⟨_, _, _, _, _, rfl⟩

theorem ellipse_plain (n : ChId) (i : Fin 5) : Reg.CAL_ELL_OS n + i.val < 0x500000 ∧
    Reg.CAL_CNT_REJECTED n ≠ Reg.CAL_ELL_OS n + i.val ∧ 0x400000 ≤ Reg.CAL_ELL_OS n + i.val := by decide +revert

theorem trimKeys_low (n : ChId) : Reg.CH_GAIN_SIN n < 0x400000 ∧ Reg.CH_GAIN_COS n < 0x400000 ∧
    Reg.CH_OFS_SIN n < 0x400000 ∧ Reg.CH_OFS_COS n < 0x400000 ∧ Reg.CH_FGAIN_SIN n < 0x400000 ∧
    Reg.CH_FGAIN_COS n < 0x400000 ∧ Reg.CH_QUAD_TRIM n < 0x400000 ∧ Reg.CH_BETA n < 0x400000 := by decide +revert

/-- The ellipse terms are shown in five objects of their own. -/
theorem showEllipse_facts (s : State) (n : ChId) : s.showEllipse n = { s with regs := (s.showEllipse n).regs } ∧
    (∀ k, (∀ i : Fin 5, k ≠ Reg.CAL_ELL_OS n + i.val) → (s.showEllipse n).reg k = s.reg k) ∧
    (s.Calm → (s.showEllipse n).Calm) ∧ (s.Mild (chSrc n 16) → (s.showEllipse n).Mild (chSrc n 16)) := by
  rw [showEllipse_eq]
  split
  · exact ⟨rfl, fun _ _ => rfl, id, id⟩
  · obtain ⟨a, b, c, d, e, hes⟩ := ellipse_five ((List.range 1024).map (nodeOf s.cal[n].stats)) (·.r)
    rw [hes]
    have hplain : plainKeys (ellipseKeys n [a, b, c, d, e]) := fun k hk => by
      obtain ⟨i, rfl⟩ := mem_ellipseKeys hk
      exact .inl (ellipse_plain n i).1
    refine ⟨setAll_frame _ _, fun k hk => setAll_reg_ne _ _ fun hmem => ?_, setAll_calm hplain,
      setAll_mild hplain (chSrc_facts n).1⟩
    obtain ⟨i, hi⟩ := mem_ellipseKeys hmem
    exact hk i hi

/-- A run in EVALUATE with its result formed and shown. -/
def State.evaluated (s : State) (n : ChId) : State :=
  (s.modCal n fun c => { c with qRun := (s.calResult n).q }).showEllipse n

/-- What the evaluation has formed before it decides. -/
structure RunFormed (s t : State) (n : ChId) : Prop where
  frame : t = { s with regs := t.regs, cal := t.cal }
  run : t.cal[n] = { s.cal[n] with qRun := (s.calResult n).q }
  runs : ∀ m, m ≠ n → t.cal[m] = s.cal[m]
  rejected : t.reg (Reg.CAL_CNT_REJECTED n) = s.reg (Reg.CAL_CNT_REJECTED n)
  trims : t.visTrims n = s.visTrims n
  calm : s.Calm → t.Calm
  mild : s.Mild (chSrc n 16) → t.Mild (chSrc n 16)

theorem evaluated_formed (s : State) (n : ChId) : RunFormed s (s.evaluated n) n := by
  obtain ⟨hparts, hregs, hcalm, hmild⟩ := showEllipse_facts (s.modCal n fun c => { c with qRun := (s.calResult n).q }) n
  have hreg : ∀ k, k < 0x400000 → (s.evaluated n).reg k = s.reg k := fun k hk =>
    hregs k fun i hi => absurd (ellipse_plain n i).2.2 (by rw [← hi]; exact Nat.not_le.2 hk)
  refine ⟨by rw [State.evaluated, hparts]; rfl, ?_, fun m hm => ?_, hregs _ fun i => (ellipse_plain n i).2.1, ?_, hcalm, hmild⟩
  · rw [State.evaluated, hparts]
    exact modCal_self s n _
  · rw [State.evaluated, hparts]
    exact modCal_ne s _ hm
  · obtain ⟨hgs, hgc, hos, hoc, hfs, hfc, hq, hb⟩ := trimKeys_low n
    unfold State.visTrims
    rw [hreg _ hgs, hreg _ hgc, hreg _ hos, hreg _ hoc, hreg _ hfs, hreg _ hfc, hreg _ hq, hreg _ hb]

theorem calEvaluate_exec {n : ChId} {s : State} (ha : s.alive = true) (hv : s.serviceOn = true)
    (hst : s.cal[n].state = .evaluate) :
    exec (.calEvaluate n) s = done ((s.evaluated n).calDecide n (s.calResult n)) := if_pos (by rw [ha, hv, hst]; rfl)

/-- The check that a result fails, in the order of R140. -/
def State.calFails (s : State) (n : ChId) (r : CalResult) : Option Nat :=
  match s.calRange n r with
  | some d => some d
  | none => if s.cal[n].cfg.accept = 1 then none else s.calLimits n r

theorem calDecide_fails {s : State} {n : ChId} {r : CalResult} {d : Nat} (h : s.calFails n r = some d) :
    s.calDecide n r = s.endRun n 3 d := by
  unfold State.calFails at h
  unfold State.calDecide
  cases hr : s.calRange n r with
  | some x =>
    rw [hr] at h
    cases h
    rfl
  | none =>
    rw [hr] at h
    dsimp only at h ⊢
    rw [h]

theorem calDecide_passes {s : State} {n : ChId} {r : CalResult} (h : s.calFails n r = none) :
    s.calDecide n r = if s.cal[n].cfg.accept = 0 then s.calAccept n r else s.calRepeat n r := by
  unfold State.calFails at h
  unfold State.calDecide
  cases hr : s.calRange n r with
  | some x =>
    rw [hr] at h
    cases h
  | none =>
    rw [hr] at h
    dsimp only at h ⊢
    rw [h]

theorem calFails_congr {s t : State} {n : ChId} (h : RunFormed s t n) (r : CalResult) : t.calFails n r = s.calFails n r := by
  have hcfg : t.cal[n].cfg = s.cal[n].cfg := by rw [h.run]
  unfold State.calFails
  rw [calRange_congr n h.trims, calLimits_congr (by rw [h.frame]) hcfg, hcfg]

/-! ### An accepted result -/

/-- What an accepted result leaves: its run in APPLY, and its row at its lane. -/
structure RunAccepted (s t : State) (n : ChId) (r : CalResult) : Prop where
  frame : t = { s with cal := t.cal, bead := t.bead }
  run : t.cal[n] = { s.cal[n] with
    state := .apply, qRun := r.q, candidate := if r.kind = 1 then none else s.cal[n].candidate }
  runs : ∀ m, m ≠ n → t.cal[m] = s.cal[m]
  working : t.bead.working = s.bead.working
  gens : t.bead.gens = s.bead.gens
  staged : s.bead.staging[quadOf n] = none → s.bead.waiting = [] →
    ∃ x, t.bead.staging[quadOf n] = some x ∧ x.ch = n ∧ x.set = r.set ∧ x.inUse = false ∧
      x.beads = s.rowBeads n r ∧ x.record.calibrated = true ∧ t.bead.waiting = []

/-- The row of an accepted result. -/
def State.acceptedRow (s : State) (n : ChId) (r : CalResult) : Staging :=
  { ch := n, set := r.set, beads := s.rowBeads n r, source := r.kind.toNat
    trims := if r.kind = 1 then some (s.newTrims n r) else none
    record := { s.sets[setIx n (setNo r.set)] with
      calibrated := true, part := r.scope = 1, hostLoaded := false, tRun := r.tRun, q := r.q
      arcFirst := if r.scope = 1 then r.arcFirst else 0, arcLast := if r.scope = 1 then r.arcLast else 1023 } }

theorem calAccept_accepts (s : State) (n : ChId) (r : CalResult) : RunAccepted s (s.calAccept n r) n r := by
  obtain ⟨u, hu⟩ : ∃ u, u = s.modCal n fun c =>
    { c with state := .apply, qRun := r.q, candidate := if r.kind = 1 then none else c.candidate } := ⟨_, rfl⟩
  have haccept : s.calAccept n r = u.stage (u.acceptedRow n r) := by rw [hu]; rfl
  have huself : u.cal[n] = { s.cal[n] with
      state := .apply, qRun := r.q, candidate := if r.kind = 1 then none else s.cal[n].candidate } := by
    rw [hu]
    exact modCal_self s n _
  have huothers : ∀ m : ChId, m ≠ n → u.cal[m] = s.cal[m] := fun m hm => by rw [hu]; exact modCal_ne s _ hm
  have huparts : u = { s with cal := u.cal } := by rw [hu]; rfl
  have hubead : u.bead = s.bead := by rw [hu]; rfl
  clear hu
  rw [haccept]
  obtain ⟨hparts, hworking, hgens⟩ := stage_parts u (u.acceptedRow n r)
  refine ⟨by rw [hparts, huparts], by rw [hparts]; exact huself, fun m hm => by rw [hparts]; exact huothers m hm,
    by rw [hworking, hubead], by rw [hgens, hubead], fun hq hw => ?_⟩
  have hfree := stage_free (s := u) (x := u.acceptedRow n r) (by rw [hubead]; exact hq) (by rw [hubead]; exact hw)
  refine ⟨u.acceptedRow n r, ?_, rfl, rfl, rfl, ?_, rfl, ?_⟩
  · rw [hfree]
    exact vmod_self u.bead.staging (quadOf n) _
  · rw [← rowBeads_congr hubead n r, State.acceptedRow]
  · rw [hfree, hubead]
    exact hw

/-! ### A candidate -/

/-- A request of the device for a run is taken, or is left for the next evaluation. -/
theorem calOffer_cases (s : State) (n : ChId) (x : Nat) (b : Bool) :
    s.calOffer n x b = s ∨ s.calOffer n x b = s.calAsked n x b := by
  cases hu : s.updWaits with
  | true => exact .inl (if_pos hu)
  | false =>
    cases hp : s.sched[chDomain n].pending with
    | none => exact .inr (calOffer_asked hu hp x b)
    | some a =>
      have hask : s.schedAsk (chDomain n) .cal = .refuse := by
        unfold State.schedAsk
        simp only [hp]
        rfl
      refine .inl ?_
      unfold State.calOffer State.schedDo
      rw [hu, hask]
      rfl

/-- What a first result leaves: it is its run's candidate, and the second run is asked for. -/
theorem calCandidate_waits (s : State) (n : ChId) (r : CalResult) : (s.calCandidate n r).cal[n].result = 2 ∧
    (s.calCandidate n r).cal[n].candidate = some r ∧ RunFrame s (s.calCandidate n r) ∧
    (s.Calm → (s.calCandidate n r).floor.request = false) := by
  obtain ⟨u, hu⟩ : ∃ u, u = s.modCal n fun c =>
    { c with state := .idle, result := 2, detail := 0, candidate := some r, repeatDue := true } := ⟨_, rfl⟩
  have hcand : s.calCandidate n r = (u.logCal n).calOffer n 5 u.cal[n].commanded := by rw [hu]; rfl
  have huself : u.cal[n].result = 2 ∧ u.cal[n].candidate = some r := by
    rw [hu, modCal_self]
    exact ⟨rfl, rfl⟩
  have huparts : u = { s with cal := u.cal } := by rw [hu]; rfl
  clear hu
  rw [hcand]
  have hlog : RaiseFrame u (u.logCal n) := logKind_frame _ _ _ _
  have hlogcalm : u.Calm → (u.logCal n).Calm := logKind_calm _ _ _ _
  generalize u.logCal n = v at *
  have hframe : RunFrame s v := (RunFrame.of_parts (by rw [huparts]; rfl)).trans (.of_raise hlog)
  have hcalm : s.Calm → v.floor.request = false := fun c => (hlogcalm (by rw [huparts]; exact c)).1
  have hself : v.cal[n].result = 2 ∧ v.cal[n].candidate = some r := by rw [hlog.cal]; exact huself
  rcases calOffer_cases v n 5 u.cal[n].commanded with hoffer | hoffer
  · rw [hoffer]
    exact ⟨hself.1, hself.2, hframe, hcalm⟩
  · obtain ⟨hparts, -, hrun, -, -, -, hfloor⟩ := calAsked_facts v n 5 u.cal[n].commanded
    rw [hoffer]
    refine ⟨by rw [hrun]; exact hself.1, by rw [hrun]; exact hself.2, hframe.trans (.of_parts ?_), fun c => by
      rw [hfloor]; exact hcalm c⟩
    exact hparts

/-! ### The decision -/

theorem rejectedKey (n : ChId) : calCounter n 3 = some (Reg.CAL_CNT_REJECTED n) := rfl

/-- A run that is rejected changes no bead, and is counted. -/
theorem rejected_ends {s u : State} {n : ChId} (hparts : u = { s with regs := u.regs, cal := u.cal })
    (hrej : u.reg (Reg.CAL_CNT_REJECTED n) = s.reg (Reg.CAL_CNT_REJECTED n)) (c : u.Calm) (m : u.Mild (chSrc n 16)) (d : Nat) :
    ∃ t, done (u.endRun n 3 d) = .next t ∧ t.cal[n] = u.cal[n].over 3 d (u.holdEnd n 3 d) ∧ t.bead = s.bead ∧
      t.sets = s.sets ∧ t.ch = s.ch ∧ t.reg (Reg.CAL_CNT_REJECTED n) = satInc 32 (s.reg (Reg.CAL_CNT_REJECTED n)) := by
  have hend := endRun_ends u n 3 d
  refine ⟨_, done_quiet (hend.calm c m).1, hend.run, hend.frame.bead.trans ?_, hend.frame.sets.trans ?_,
    hend.frame.ch.trans ?_, by rw [hend.count _ (rejectedKey n), hrej]⟩
  all_goals rw [hparts]

/-- A result that passes every check of its mode. -/
theorem calFails_none {s : State} {n : ChId} {r : CalResult} (hr : s.calRange n r = none)
    (hl : s.cal[n].cfg.accept = 1 ∨ s.calLimits n r = none) : s.calFails n r = none := by
  unfold State.calFails
  rw [hr]
  rcases hl with hl | hl
  · exact if_pos hl
  · dsimp only
    rw [hl, ite_self]

theorem calFails_some {s : State} {n : ChId} {r : CalResult} {d : Nat} (h : s.calRange n r = some d ∨
    (s.calRange n r = none ∧ s.cal[n].cfg.accept ≠ 1 ∧ s.calLimits n r = some d)) : s.calFails n r = some d := by
  unfold State.calFails
  rcases h with hr | ⟨hr, hacc, hl⟩
  · rw [hr]
  · rw [hr]
    exact (if_neg hacc).trans hl

/-- Settles O32: the formed result fails a check, is staged, or goes through REPEAT. -/
theorem evaluationRejectsAcceptsOrWaitsForARepeat : Obligations.EvaluationRejectsAcceptsOrWaitsForARepeat := by
  intro n s c ha hv hst
  have hexec := calEvaluate_exec ha hv hst
  have hform := evaluated_formed s n
  obtain ⟨r, hr⟩ : ∃ r, r = s.calResult n := ⟨_, rfl⟩
  have hfails := calFails_congr hform r
  rw [← hr] at hexec ⊢
  generalize s.evaluated n = u at *
  have hcfg : u.cal[n].cfg = s.cal[n].cfg := by rw [hform.run]
  have hcand : u.cal[n].candidate = s.cal[n].candidate := by rw [hform.run]
  have hbead : u.bead = s.bead := by rw [hform.frame]
  rw [hexec]
  refine ⟨fun d h m => ?_, fun hrange hacc hlim => ?_, fun hrange hacc hnone hlim => ?_, fun old hrange hacc hold hlim =>
    ⟨fun hagree => ?_, fun hagree m => ?_⟩⟩
  · rw [calDecide_fails (hfails.trans (calFails_some h))]
    obtain ⟨t, hnext, hrun, hrest⟩ := rejected_ends hform.frame hform.rejected (hform.calm c) (hform.mild m) d
    rw [hform.run, ← hr] at hrun
    obtain ⟨hb, hs, hc, hcount⟩ := hrest
    refine ⟨t, hnext, ?_, ?_, ?_, ?_, hb, hs, hc, hcount⟩
    all_goals rw [hrun]; rfl
  · rw [calDecide_passes (hfails.trans (calFails_none hrange (.inr hlim))), if_pos (hcfg ▸ hacc)]
    have hacc := calAccept_accepts u n r
    generalize u.calAccept n r = t at *
    refine ⟨t, done_quiet (by rw [hacc.frame]; exact (hform.calm c).1), by rw [hacc.frame, hform.frame], by rw [hacc.run],
      by rw [hacc.run], by rw [hacc.working, hbead], by rw [hacc.gens, hbead],
      fun k hk => by rw [hacc.runs k hk, hform.runs k hk], fun hq hw => ?_⟩
    obtain ⟨x, hx, hxch, hxset, hxuse, hxbeads, hxcal, hxwait⟩ := hacc.staged (by rw [hbead]; exact hq) (by rw [hbead]; exact hw)
    exact ⟨x, hx, hxch, by rw [hxset, hr]; rfl, hxuse, by rw [hxbeads, rowBeads_congr hbead], hxcal, hxwait⟩
  · rw [calDecide_passes (hfails.trans (calFails_none hrange hlim)), if_neg (hcfg ▸ hacc)]
    have hrepeat : u.calRepeat n r = u.calCandidate n r := by
      unfold State.calRepeat
      rw [hcand, hnone]
    rw [hrepeat]
    obtain ⟨hresult, hcandidate, hframe, hquiet⟩ := calCandidate_waits u n r
    refine ⟨_, done_quiet (hquiet (hform.calm c)), hresult, hcandidate, hframe.bead.trans ?_, hframe.sets.trans ?_,
      hframe.ch.trans ?_⟩
    all_goals rw [hform.frame]
  · rw [calDecide_passes (hfails.trans (calFails_none hrange hlim)), if_neg (hcfg ▸ hacc)]
    obtain ⟨v, hv⟩ : ∃ v, v = u.modCal n fun c => { c with candidate := none } := ⟨_, rfl⟩
    have hrepeat : u.calRepeat n r = v.calAccept n (meanResults old r) := by
      unfold State.calRepeat
      rw [hcand, hold]
      dsimp only
      rw [hcfg, if_pos hagree, hv]
    have hvcand : v.cal[n].candidate = none := by rw [hv, modCal_self]
    have hvothers : ∀ k : ChId, k ≠ n → v.cal[k] = s.cal[k] := fun k hk => by
      rw [hv, modCal_ne u _ hk, hform.runs k hk]
    have hvparts : v = { s with regs := v.regs, cal := v.cal } := by
      rw [hv, hform.frame]
      rfl
    have hvquiet : v.floor.request = false := by rw [hv]; exact (hform.calm c).1
    clear hv
    have hvbead : v.bead = s.bead := by rw [hvparts]
    rw [hrepeat]
    have hacc := calAccept_accepts v n (meanResults old r)
    generalize v.calAccept n (meanResults old r) = t at *
    refine ⟨t, done_quiet (by rw [hacc.frame]; exact hvquiet), by rw [hacc.frame, hvparts], by rw [hacc.run],
      by rw [hacc.run, hvcand]; exact ite_self none, by rw [hacc.working, hvbead], by rw [hacc.gens, hvbead],
      fun k hk => by rw [hacc.runs k hk, hvothers k hk], fun hq hw => ?_⟩
    obtain ⟨x, hx, hxch, -, hxuse, hxbeads, -⟩ := hacc.staged (by rw [hvbead]; exact hq) (by rw [hvbead]; exact hw)
    exact ⟨x, hx, hxch, hxuse, by rw [hxbeads, rowBeads_congr hvbead]⟩
  · rw [calDecide_passes (hfails.trans (calFails_none hrange hlim)), if_neg (hcfg ▸ hacc)]
    obtain ⟨v, hv⟩ : ∃ v, v = u.modCal n fun c => { c with candidate := some r } := ⟨_, rfl⟩
    have hrepeat : u.calRepeat n r = v.endRun n 3 22 := by
      unfold State.calRepeat
      rw [hcand, hold]
      dsimp only
      rw [hcfg, hagree, if_neg Bool.false_ne_true, hv]
    have hvcand : v.cal[n].candidate = some r := by rw [hv, modCal_self]
    have hvparts : v = { u with cal := v.cal } := by rw [hv]; rfl
    clear hv
    rw [hrepeat]
    obtain ⟨t, hnext, hrun, hb, hs, hc, hcount⟩ := rejected_ends (s := s) (u := v) (n := n)
      (by rw [hvparts, hform.frame]) (by rw [hvparts]; exact hform.rejected) (by rw [hvparts]; exact hform.calm c)
      (by rw [hvparts]; exact hform.mild m) 22
    refine ⟨t, hnext, ?_, ?_, ?_, ?_, hb, hs, hc, hcount⟩
    iterate 3 · rw [hrun]; rfl
    · rw [hrun, ← hvcand]
      rfl

end Sys2Proof.Machine
end

section
/-!
PROOFS. A DEVICE-SAFE entry leaves the bead table alone, and so the scrub does what R145 says in every state.
-/

namespace Sys2Proof.Machine

set_option Elab.async false

/-! ### A DEVICE-SAFE entry and the bead table (R207) -/

theorem each_bead {α : Type} {f : State → α → State} (h : ∀ s a, (f s a).bead = s.bead) (l : List α) (s : State) :
    (s.each l f).bead = s.bead := by
  induction l generalizing s with
  | nil => rfl
  | cons a l ih => exact (ih (f s a)).trans (h s a)

theorem abortTest_bead (s : State) (n : ChId) (r : Nat) : (s.abortTest n r).bead = s.bead := by
  unfold State.abortTest
  split
  · rw [schedWithdraw_chan]
    rfl
  · split <;> rfl
  · rfl

theorem abortTests_bead (s : State) (r : Nat) : (s.abortTests r).bead = s.bead := by
  refine each_bead (fun t n => ?_) _ s
  split
  · rfl
  · exact abortTest_bead t n r

theorem abortRun_bead (s : State) (n : ChId) (d : Nat) : (s.abortRun n d).bead = s.bead := by
  unfold State.abortRun
  split <;> first | exact (endRun_ends s n 5 d).frame.bead | rfl

theorem abortRuns_bead (s : State) (b : Bool) : (s.abortRuns b).bead = s.bead := by
  refine each_bead (fun t n => ?_) _ s
  have hkind : ∀ (p : Prop) [Decidable p], (if p then t.abortRun n 4 else t).bead = t.bead := fun p _ => by
    split
    · exact abortRun_bead t n 4
    · rfl
  by_cases hd : t.dev.state ≠ .run ∧ t.dev.state ≠ .service
  · rw [if_pos hd]
    exact abortRun_bead t n 4
  · rw [if_neg hd]
    exact hkind _

theorem setSeat_bead (s : State) (x : SeatState) : (s.setSeat x).bead = s.bead := by
  unfold State.setSeat
  dsimp only
  split
  · rfl
  · exact (logKind_frame _ _ _ _).bead

theorem endAttempt_bead (s : State) (x : SeatState) : (s.endAttempt x).bead = s.bead := by
  unfold State.endAttempt
  dsimp only
  split
  · exact (pulse_frame _ _).bead.trans (setSeat_bead s x)
  · exact setSeat_bead s x

theorem sendRelease_bead (s : State) : s.sendRelease.bead = s.bead := by
  refine each_bead (fun t k => ?_) _ s
  split <;> rfl

theorem releaseClaim_bead (s : State) (x : SeatState) : (s.releaseClaim x).bead = s.bead := by
  unfold State.releaseClaim
  dsimp only
  split
  · exact (showOutputs_frame _).bead.trans ((setSeat_bead _ x).trans (sendRelease_bead s))
  · exact (endAttempt_bead _ x).trans (sendRelease_bead s)

theorem setDebug_bead (s : State) (v r p : Nat) : (s.setDebug v r p).bead = s.bead := by
  unfold State.setDebug
  dsimp only
  split
  · rfl
  · refine (logKind_frame _ _ _ _).bead.trans ?_
    split
    · exact (raise_frame _ _).bead
    · exact (gone_frame _ _).bead

theorem dropForces_bead (s : State) : s.dropForces.bead = s.bead := by
  refine (releaseScopes_frame _).bead.trans (each_bead (fun t id => ?_) _ s)
  split
  · exact (dropSrc_frame _ _).bead
  · rfl

theorem leaveService_bead (s : State) (r p : Nat) : (s.leaveService r p).bead = s.bead := by
  unfold State.leaveService
  split
  · exact (setDebug_bead _ _ _ _).trans (dropForces_bead s)
  · rfl

theorem leaveRun_bead (s : State) (x : SeatState) : (s.leaveRun x).bead = s.bead := by
  unfold State.leaveRun
  exact releaseClaim_bead s x

theorem ite_bead {p : Prop} [Decidable p] {s t : State} (h : t.bead = s.bead) : (if p then t else s).bead = s.bead := by
  split
  · exact h
  · rfl

theorem enterSafe_bead (s : State) (r p : Nat) : (s.enterDev .safe r p).bead = s.bead := by
  unfold State.enterDev
  extract_lets old at_ a b c d e f
  have hb : b.bead = s.bead := (logKind_frame a _ _ _).bead
  have hc : c.bead = b.bead := ite_bead (leaveRun_bead b _)
  have hd : d.bead = c.bead := abortTests_bead c 3
  have he : e.bead = d.bead := ite_bead (leaveService_bead d _ _)
  have hf : f.bead = e.bead := abortRuns_bead e _
  have hchanged : f.bead = s.bead := hf.trans (he.trans (hd.trans (hc.trans hb)))
  clear_value f
  rw [if_neg (show ¬ DevState.safe = DevState.run by decide)]
  split
  · rfl
  · exact hchanged

theorem holdExciters_bead (s : State) : s.holdExciters.bead = s.bead := by
  refine each_bead (fun t e => ?_) _ s
  split
  · exact (gone_frame _ _).bead
  · rfl

theorem safeEntry_bead (s : State) : s.safeEntry.bead = s.bead := by
  unfold State.safeEntry
  dsimp only
  split
  · rfl
  · split
    · rfl
    · exact (showOutputs_frame _).bead.trans ((holdExciters_bead _).trans ((setSeat_bead _ _).trans
        ((enterSafe_bead _ _ _).trans (releaseClaim_bead _ _))))

/-- The end of a command leaves the bead table as the command has left it. -/
theorem settled_bead (s : State) : s.settled.bead = s.bead := by
  unfold State.settled
  split
  · exact safeEntry_bead s
  · rfl

/-! ### The scrub (R145) -/

/-- One corrected error counted. -/
theorem scrubbed_facts (s : State) (n : ChId) :
    ((s.bump Reg.BT_ECC_CE_CNT).pulse (chSrc n 17)).bead = s.bead ∧
    ((s.bump Reg.BT_ECC_CE_CNT).pulse (chSrc n 17)).sets = s.sets ∧
    ((s.bump Reg.BT_ECC_CE_CNT).pulse (chSrc n 17)).reg Reg.BT_ECC_CE_CNT = satInc 32 (s.reg Reg.BT_ECC_CE_CNT) := by
  have hpulse := pulse_frame (s.bump Reg.BT_ECC_CE_CNT) (chSrc n 17)
  exact ⟨hpulse.bead, hpulse.sets, (hpulse.reg _ (by decide)).trans (State.reg_bump s _)⟩

/-- The corrected errors of a pass are counted one by one. -/
theorem scrub_counts (cs : List (Fin 131072)) (s : State) (h0 : 0 ≤ s.reg Reg.BT_ECC_CE_CNT)
    (h1 : s.reg Reg.BT_ECC_CE_CNT ≤ 2 ^ 32 - 1) :
    (s.each cs fun s i => (s.bump Reg.BT_ECC_CE_CNT).pulse (chSrc (beadPlace i).1 17)).bead = s.bead ∧
    (s.each cs fun s i => (s.bump Reg.BT_ECC_CE_CNT).pulse (chSrc (beadPlace i).1 17)).sets = s.sets ∧
    (s.each cs fun s i => (s.bump Reg.BT_ECC_CE_CNT).pulse (chSrc (beadPlace i).1 17)).reg Reg.BT_ECC_CE_CNT =
      min (2 ^ 32 - 1) (s.reg Reg.BT_ECC_CE_CNT + Int.ofNat cs.length) := by
  induction cs generalizing s with
  | nil =>
    have hnone : s.reg Reg.BT_ECC_CE_CNT = min (2 ^ 32 - 1) (s.reg Reg.BT_ECC_CE_CNT + 0) := by omega
    exact ⟨rfl, rfl, hnone⟩
  | cons c cs ih =>
    obtain ⟨hbead, hsets, hcount⟩ := scrubbed_facts s (beadPlace c).1
    have hinc : satInc 32 (s.reg Reg.BT_ECC_CE_CNT) = min (2 ^ 32 - 1) (s.reg Reg.BT_ECC_CE_CNT + 1) := by
      unfold satInc
      omega
    obtain ⟨hb, hs, hc⟩ := ih ((s.bump Reg.BT_ECC_CE_CNT).pulse (chSrc (beadPlace c).1 17))
      (by rw [hcount, hinc]; omega) (by rw [hcount, hinc]; omega)
    refine ⟨hb.trans hbead, hs.trans hsets, hc.trans ?_⟩
    rw [hcount, hinc, List.length_cons, Int.ofNat_eq_natCast, Int.ofNat_eq_natCast, Nat.cast_add, Nat.cast_one]
    omega

/-- A reload that is asked for changes staging rows alone. -/
theorem reloadRow_parts (s : State) (n : ChId) (k : Nat) : s.reloadRow n k = { s with bead := (s.reloadRow n k).bead } ∧
    (s.reloadRow n k).bead.working = s.bead.working ∧ (s.reloadRow n k).bead.gens = s.bead.gens ∧
    (s.reloadRow n k).bead.bad = s.bead.bad := by
  unfold State.reloadRow
  extract_lets asked row
  split
  · exact ⟨rfl, rfl, rfl, rfl⟩
  · obtain ⟨hparts, hworking, hgens⟩ := stage_parts s row
    refine ⟨hparts, hworking, hgens, ?_⟩
    unfold State.stage State.stageNext
    split
    · rfl
    · split <;> rfl

/-- An uncorrectable error that is met. -/
theorem beadUe_facts (s : State) (n : ChId) (k : Nat) : (s.beadUe n k).bead.working = s.bead.working ∧
    (s.beadUe n k).bead.gens = s.bead.gens ∧ (s.beadUe n k).bead.bad = s.bead.bad ∧ (s.beadUe n k).sets = s.sets ∧
    (s.beadUe n k).reg Reg.BT_ECC_UE_CNT = satInc 32 (s.reg Reg.BT_ECC_UE_CNT) := by
  have hraise := raise_frame (s.bump Reg.BT_ECC_UE_CNT) (chSrc n 18)
  have hreg := State.reg_bump s Reg.BT_ECC_UE_CNT
  have hbead : ((s.bump Reg.BT_ECC_UE_CNT).raise (chSrc n 18)).bead = s.bead := hraise.bead
  have hsets : ((s.bump Reg.BT_ECC_UE_CNT).raise (chSrc n 18)).sets = s.sets := hraise.sets
  have hcount := (hraise.reg Reg.BT_ECC_UE_CNT (by decide)).trans hreg
  unfold State.beadUe
  generalize (s.bump Reg.BT_ECC_UE_CNT).raise (chSrc n 18) = u at *
  obtain ⟨hparts, hworking, hgens, hbad⟩ := reloadRow_parts u n k
  refine ⟨hworking.trans (by rw [hbead]), hgens.trans (by rw [hbead]), hbad.trans (by rw [hbead]), ?_, ?_⟩
  · rw [hparts]
    exact hsets
  · rw [hparts]
    exact hcount

theorem beadScrub_corrects {cs : List (Fin 131072)} {s : State} (ha : s.alive = true) (h0 : 0 ≤ s.reg Reg.BT_ECC_CE_CNT)
    (h1 : s.reg Reg.BT_ECC_CE_CNT ≤ 2 ^ 32 - 1) : ∃ t, exec (.beadScrub cs []) s = .next t ∧ t.bead = s.bead ∧
    t.sets = s.sets ∧ t.reg Reg.BT_ECC_CE_CNT = min (2 ^ 32 - 1) (s.reg Reg.BT_ECC_CE_CNT + Int.ofNat cs.length) := by
  obtain ⟨hbead, hsets, hcount⟩ := scrub_counts cs s h0 h1
  have hexec : exec (.beadScrub cs []) s =
      done (s.each cs fun s i => (s.bump Reg.BT_ECC_CE_CNT).pulse (chSrc (beadPlace i).1 17)) := if_pos ha
  generalize s.each cs (fun s i => (s.bump Reg.BT_ECC_CE_CNT).pulse (chSrc (beadPlace i).1 17)) = u at *
  have hsafe := (settled_safe u).1
  exact ⟨u.settled, hexec, (settled_bead u).trans hbead, hsafe.sets.trans hsets, (hsafe.reg _ (by decide)).trans hcount⟩

theorem beadScrub_keeps {i : Fin 131072} {s : State} (ha : s.alive = true) :
    ∃ t, exec (.beadScrub [] [i]) s = .next t ∧ t.bead.bad = i.val :: s.bead.bad ∧ t.bead.working = s.bead.working ∧
      t.bead.gens = s.bead.gens ∧ t.sets = s.sets ∧ t.reg Reg.BT_ECC_UE_CNT = satInc 32 (s.reg Reg.BT_ECC_UE_CNT) := by
  obtain ⟨hworking, hgens, hbad, hsets, hcount⟩ := beadUe_facts (s.modBead fun b => { b with bad := i.val :: b.bad })
    (beadPlace i).1 (beadPlace i).2
  have hexec : exec (.beadScrub [] [i]) s = done ((s.modBead fun b => { b with bad := i.val :: b.bad }).beadUe
    (beadPlace i).1 (beadPlace i).2) := if_pos ha
  generalize (s.modBead fun b => { b with bad := i.val :: b.bad }).beadUe (beadPlace i).1 (beadPlace i).2 = u at *
  have hsafe := (settled_safe u).1
  have hb := settled_bead u
  exact ⟨u.settled, hexec, by rw [hb]; exact hbad, by rw [hb]; exact hworking, by rw [hb]; exact hgens,
    hsafe.sets.trans hsets, (hsafe.reg _ (by decide)).trans hcount⟩

end Sys2Proof.Machine
end

section
/-!
PROOFS. Commits of the bead table and host rows (R138, R143, R147, R148, R152).
-/

namespace Sys2Proof.Machine

set_option Elab.async false

/-! ### The end of a writer's hold -/

/-- The end of a domain's activity changes domains, and the copy that a commit may take as it begins. -/
theorem schedEnd_parts (s : State) (d : Fin 17) : s.schedEnd d = { s with
    sched := (s.schedEnd d).sched, bead := { s.bead with writing := (s.schedEnd d).bead.writing } } := by
  unfold State.schedEnd
  dsimp only
  split
  · rfl
  · split
    · split
      · rfl
      · rw [startActivity_eq]
        rfl
    · rfl

/-! ### The runs that a commit ends -/

/-- A run after the end of a commit. -/
def Cal.committed (c : Cal) : Cal := if c.state = .commit then { c with state := .idle } else c

theorem committed_committed (c : Cal) : c.committed.committed = c.committed := by
  unfold Cal.committed
  by_cases h : c.state = .commit
  · rw [if_pos h]
    exact if_neg (fun e => nomatch e)
  · rw [if_neg h, if_neg h]

theorem each_modCal {f : Cal → Cal} (hf : ∀ x, f (f x) = f x) (l : List ChId) (s : State) :
    (s.each l fun u n => u.modCal n f) = { s with cal := (s.each l fun u n => u.modCal n f).cal } ∧
    ∀ n : ChId, n ∈ l → (s.each l fun u n => u.modCal n f).cal[n] = f s.cal[n] := by
  unfold State.each
  induction l generalizing s with
  | nil => exact ⟨rfl, fun _ hn => absurd hn List.not_mem_nil⟩
  | cons m l ih =>
    obtain ⟨hparts, hruns⟩ := ih (s.modCal m f)
    rw [List.foldl_cons]
    refine ⟨hparts.trans rfl, fun n hn => ?_⟩
    by_cases hmem : n ∈ l
    · rw [hruns n hmem]
      by_cases he : n = m
      · subst he
        rw [modCal_self, hf]
      · rw [modCal_ne s f he]
    · have he : n = m := (List.mem_cons.1 hn).resolve_right hmem
      subst he
      have hkeep : ∀ (k : List ChId) (u : State), n ∉ k → (k.foldl (fun u m => u.modCal m f) u).cal[n] = u.cal[n] := by
        intro k
        induction k with
        | nil => exact fun _ _ => rfl
        | cons j k ih =>
          intro u hk
          rw [List.mem_cons, not_or] at hk
          exact (ih (u.modCal j f) hk.2).trans (modCal_ne u f hk.1)
      exact (hkeep l _ hmem).trans (modCal_self s n f)

theorem endCommits_parts (s : State) : s.endCommits = { s with cal := s.endCommits.cal } ∧
    ∀ n : ChId, s.endCommits.cal[n] = s.cal[n].committed := by
  have hstep : (fun (s : State) (n : ChId) => if s.cal[n].state = .commit then
      s.modCal n fun c => { c with state := .idle } else s) = fun s n => s.modCal n Cal.committed := by
    funext u n
    by_cases h : u.cal[n].state = .commit
    · rw [if_pos h]
      exact congrArg (fun v => { u with cal := v }) (vmod_congr u.cal n (if_pos h).symm)
    · rw [if_neg h]
      exact (congrArg (fun v => { u with cal := v }) (vmod_id u.cal n (if_neg h))).symm
  obtain ⟨hparts, hruns⟩ := each_modCal committed_committed all16 s
  unfold State.endCommits
  rw [hstep]
  exact ⟨hparts, fun n => hruns n (List.mem_finRange n)⟩

/-! ### The generation that a commit writes -/

/-- The slot of the older generation. -/
def olderSlot (g : Vector BeadGen 2) : Fin 2 := match newestGen g with | some 0 => 1 | _ => 0

theorem olderSlot_ne (g : Vector BeadGen 2) : newestGen g ≠ some (olderSlot g) := by
  unfold olderSlot
  rcases newestGen g with _ | i
  · decide
  · match i with
    | 0 => decide
    | 1 => decide

/-- What a commit of `copy` makes of the bead table `x`. -/
structure GenWritten (x y : Beads) (copy : BeadGen) : Prop where
  working : y.working = x.working
  failed : y.commitFailed = false
  valid : y.gens[olderSlot x.gens].valid = true
  torn : y.gens[olderSlot x.gens].torn = false
  crc : y.gens[olderSlot x.gens].crc = beadCrc copy.beads
  beads : y.gens[olderSlot x.gens].beads = copy.beads
  sets : y.gens[olderSlot x.gens].sets = copy.sets
  trims : y.gens[olderSlot x.gens].trims = copy.trims
  counter : ∀ h, newestGen x.gens = some h → y.gens[olderSlot x.gens].counter = (x.gens[h].counter + 1) % 2 ^ 32
  others : ∀ h, h ≠ olderSlot x.gens → y.gens[h] = x.gens[h]

/-- The number of the generation that a commit writes. -/
def nextCounter (g : Vector BeadGen 2) : Nat :=
  match newestGen g with
  | some h => g[h].counter + 1
  | none => 1

/-- The generation that a commit writes. -/
def State.newGen (s : State) : BeadGen :=
  { s.commitCopy with
    valid := true, torn := false, counter := nextCounter s.bead.gens % 2 ^ 32, crc := beadCrc s.commitCopy.beads }

theorem writeGen_eq (s : State) : s.writeGen = s.modBead fun b => { b with
    gens := vmod b.gens (olderSlot s.bead.gens) fun _ => s.newGen, commitFailed := false, writing := none } := by
  unfold State.writeGen State.newGen olderSlot nextCounter
  rcases newestGen s.bead.gens with _ | i
  · rfl
  · match i with
    | 0 => rfl
    | 1 => rfl

theorem writeGen_frame (s : State) : s.writeGen = { s with bead := s.writeGen.bead } := by
  rw [writeGen_eq]
  rfl

theorem writeGen_writes (s : State) : GenWritten s.bead s.writeGen.bead s.commitCopy := by
  have hself : s.writeGen.bead.gens[olderSlot s.bead.gens] = s.newGen := by
    rw [writeGen_eq]
    exact vmod_self s.bead.gens (olderSlot s.bead.gens) _
  have hothers : ∀ h, h ≠ olderSlot s.bead.gens → s.writeGen.bead.gens[h] = s.bead.gens[h] := fun h hn => by
    rw [writeGen_eq]
    exact vmod_ne s.bead.gens _ hn.symm
  refine ⟨by rw [writeGen_eq]; rfl, by rw [writeGen_eq]; rfl, ?_, ?_, ?_, ?_, ?_, ?_,
    fun h hn => ?_, hothers⟩
  iterate 6 · rw [hself]; rfl
  · rw [hself, State.newGen, nextCounter, hn]

/-! ### BEAD_COMMIT -/

theorem beadCommit_exec {f : Fin 4} {s : State} (ha : s.alive = true) (hv : s.serviceOn = true) (hw : s.commitWrites = true) :
    exec (.beadCommit f) s = done ((if f.val < 3 then
        (((s.setReg Reg.BT_COMMIT_FAIL_CNT (satAdd 32 (s.reg Reg.BT_COMMIT_FAIL_CNT) (Int.ofNat f.val))).writeGen.bump
          Reg.BT_COMMIT_CNT).gone 36)
      else ((s.setReg Reg.BT_COMMIT_FAIL_CNT (satAdd 32 (s.reg Reg.BT_COMMIT_FAIL_CNT) (Int.ofNat f.val))).modBead fun b =>
        { b with commitFailed := true, writing := none
                 gens := vmod b.gens (olderSlot s.bead.gens) fun g => { g with valid := false, torn := true } }).raise
        36).endCommits.schedEnd mramDomain) := if_pos (by rw [ha, hv, hw]; rfl)

/-- The end of a commit's run leaves what the commit has written and raised. -/
theorem commitEnd_parts (u : State) : (u.endCommits.schedEnd mramDomain) = { u with
      cal := (u.endCommits.schedEnd mramDomain).cal, sched := (u.endCommits.schedEnd mramDomain).sched
      bead := { u.bead with writing := (u.endCommits.schedEnd mramDomain).bead.writing } } ∧
    ∀ n : ChId, (u.endCommits.schedEnd mramDomain).cal[n] = u.cal[n].committed := by
  obtain ⟨hparts, hruns⟩ := endCommits_parts u
  generalize u.endCommits = v at *
  have hend := schedEnd_parts v mramDomain
  generalize v.schedEnd mramDomain = t at *
  have hcal : t.cal = v.cal := by rw [hend]
  refine ⟨?_, fun n => by rw [hcal, hruns n]⟩
  rw [hend, hparts]

theorem failCnt_plain : Reg.BT_COMMIT_FAIL_CNT < 0x500000 ∧ Reg.BT_COMMIT_CNT < 0x500000 := by decide

theorem failCnt_no_trim : ∀ n : ChId, Reg.BT_COMMIT_FAIL_CNT ∉
    [Reg.CH_OFS_SIN n, Reg.CH_OFS_COS n, Reg.CH_FGAIN_SIN n, Reg.CH_FGAIN_COS n, Reg.CH_QUAD_TRIM n] := by decide

/-- A commit that reads back. -/
theorem beadCommit_writes {f : Fin 4} {s : State} (c : s.Calm) (ha : s.alive = true) (hv : s.serviceOn = true)
    (hw : s.commitWrites = true) (hf : f.val < 3) :
    ∃ t x, exec (.beadCommit f) s = .next t ∧ GenWritten s.bead x s.commitCopy ∧
      t.bead = { x with writing := t.bead.writing } ∧
      t.reg Reg.BT_COMMIT_CNT = satInc 32 (s.reg Reg.BT_COMMIT_CNT) ∧
      t.reg Reg.BT_COMMIT_FAIL_CNT = satAdd 32 (s.reg Reg.BT_COMMIT_FAIL_CNT) (Int.ofNat f.val) ∧
      s.SameRegs t [Reg.BT_COMMIT_CNT, Reg.BT_COMMIT_FAIL_CNT] ∧ ∀ n : ChId, t.cal[n] = s.cal[n].committed := by
  obtain ⟨x, hx⟩ : ∃ x, x = satAdd 32 (s.reg Reg.BT_COMMIT_FAIL_CNT) (Int.ofNat f.val) := ⟨_, rfl⟩
  have hexec := beadCommit_exec (f := f) ha hv hw
  rw [if_pos hf, ← hx] at hexec
  have hcopy : (s.setReg Reg.BT_COMMIT_FAIL_CNT x).commitCopy = s.commitCopy := by
    unfold State.commitCopy
    rw [allTrims_setReg failCnt_no_trim]
    rfl
  have hgen := writeGen_writes (s.setReg Reg.BT_COMMIT_FAIL_CNT x)
  rw [hcopy] at hgen
  have hwframe := writeGen_frame (s.setReg Reg.BT_COMMIT_FAIL_CNT x)
  have hucalm : (s.setReg Reg.BT_COMMIT_FAIL_CNT x).Calm := setReg_calm s (.inl failCnt_plain.1) x c
  have hureg := State.reg_setReg s Reg.BT_COMMIT_FAIL_CNT x
  have hunreg : s.SameRegs (s.setReg Reg.BT_COMMIT_FAIL_CNT x) [Reg.BT_COMMIT_FAIL_CNT] := (oneReg_setReg s _ x).2
  have hucal : (s.setReg Reg.BT_COMMIT_FAIL_CNT x).cal = s.cal := rfl
  have hubead : (s.setReg Reg.BT_COMMIT_FAIL_CNT x).bead = s.bead := rfl
  generalize s.setReg Reg.BT_COMMIT_FAIL_CNT x = u at *
  rw [hubead] at hgen
  generalize u.writeGen = w at *
  have hwcalm : w.Calm := by rw [hwframe]; exact hucalm
  have hwreg : w.reg = u.reg := by rw [hwframe]; rfl
  have hwcal : w.cal = u.cal := by rw [hwframe]
  have hbcalm := bump_calm w (.inl failCnt_plain.2) hwcalm
  have hbreg := State.reg_bump w Reg.BT_COMMIT_CNT
  have hbnreg : w.SameRegs (w.bump Reg.BT_COMMIT_CNT) [Reg.BT_COMMIT_CNT] := (oneReg_bump w _).2
  have hbparts : ∃ r, w.bump Reg.BT_COMMIT_CNT = { w with regs := r } := ⟨_, rfl⟩
  generalize w.bump Reg.BT_COMMIT_CNT = b at *
  obtain ⟨r', hbparts⟩ := hbparts
  obtain ⟨fc, psw, hgone⟩ := gone_parts b 36
  have hgcalm := gone_calm b 36 hbcalm
  obtain ⟨hparts, hruns⟩ := commitEnd_parts (b.gone 36)
  generalize b.gone 36 = g at *
  generalize g.endCommits.schedEnd mramDomain = t at *
  have htreg : t.reg = b.reg := by rw [hparts, hgone]; rfl
  refine ⟨t, _, hexec.trans (done_quiet (by rw [hparts]; exact hgcalm.1)), hgen, ?_, ?_, ?_, fun j hj => ?_, fun n => ?_⟩
  · rw [hparts, hgone, hbparts]
  · rw [htreg, hbreg, hwreg, hunreg _ (by decide)]
  · rw [htreg, hbnreg _ (by decide), hwreg, hureg, hx]
  · simp only [List.mem_cons, List.not_mem_nil, or_false, not_or] at hj
    rw [htreg, hbnreg _ (by rw [List.mem_singleton]; exact hj.1), hwreg, hunreg _ (by rw [List.mem_singleton]; exact hj.2)]
  · have hgcal : g.cal = s.cal := by rw [hgone, hbparts, hwframe, hucal]
    rw [hruns n, hgcal]

/-- A commit whose read-backs have all failed. -/
theorem beadCommit_fails {f : Fin 4} {s : State} (c : s.Calm) (ha : s.alive = true) (hv : s.serviceOn = true)
    (hw : s.commitWrites = true) (hf : f.val = 3) (m : s.Mild 36) :
    ∃ t, exec (.beadCommit f) s = .next t ∧ t.bead.working = s.bead.working ∧ t.bead.commitFailed = true ∧
      t.reg Reg.BT_COMMIT_CNT = s.reg Reg.BT_COMMIT_CNT ∧
      (∀ g, newestGen s.bead.gens = some g → t.bead.gens[g] = s.bead.gens[g]) ∧ (t.src 36).cond = true := by
  obtain ⟨x, hx⟩ : ∃ x, x = satAdd 32 (s.reg Reg.BT_COMMIT_FAIL_CNT) (Int.ofNat f.val) := ⟨_, rfl⟩
  have hexec := beadCommit_exec (f := f) ha hv hw
  rw [if_neg (by omega), ← hx] at hexec
  have hucalm : (s.setReg Reg.BT_COMMIT_FAIL_CNT x).Calm := setReg_calm s (.inl failCnt_plain.1) x c
  have humild : (s.setReg Reg.BT_COMMIT_FAIL_CNT x).Mild 36 := setReg_mild s (.inl failCnt_plain.1) x (by decide) m
  have hunreg : (s.setReg Reg.BT_COMMIT_FAIL_CNT x).reg Reg.BT_COMMIT_CNT = s.reg Reg.BT_COMMIT_CNT :=
    (oneReg_setReg s _ x).2 _ (by decide)
  have hubead : (s.setReg Reg.BT_COMMIT_FAIL_CNT x).bead = s.bead := rfl
  generalize s.setReg Reg.BT_COMMIT_FAIL_CNT x = u at *
  obtain ⟨v, hvdef⟩ : ∃ v, v = u.modBead fun b =>
    { b with commitFailed := true, writing := none
             gens := vmod b.gens (olderSlot s.bead.gens) fun g => { g with valid := false, torn := true } } := ⟨_, rfl⟩
  rw [← hvdef] at hexec
  have hvcalm : v.Calm := by rw [hvdef]; exact hucalm
  have hvmild : v.Mild 36 := by rw [hvdef]; exact humild
  have hvreg : v.reg = u.reg := by rw [hvdef]; rfl
  have hvworking : v.bead.working = s.bead.working := by rw [hvdef, ← hubead]; rfl
  have hvfailed : v.bead.commitFailed = true := by rw [hvdef]; rfl
  have hvgens : ∀ g, g ≠ olderSlot s.bead.gens → v.bead.gens[g] = s.bead.gens[g] := fun g hg => by
    rw [hvdef, ← hubead]
    exact vmod_ne u.bead.gens _ (by rw [hubead]; exact hg.symm)
  clear hvdef
  have hraise := raise_frame v 36
  have hrcalm := raise_calm v 36 (.inr hvmild) hvcalm
  have hrcond := raise_cond v (id := 36) (by decide)
  obtain ⟨hparts, -⟩ := commitEnd_parts (v.raise 36)
  generalize v.raise 36 = r at *
  generalize r.endCommits.schedEnd mramDomain = t at *
  have hbead : t.bead = { v.bead with writing := t.bead.writing } := by rw [hparts, hraise.bead]
  have htreg : t.reg = r.reg := by rw [hparts]; rfl
  refine ⟨t, hexec.trans (done_quiet (by rw [hparts]; exact hrcalm.1)), ?_, ?_, ?_, fun g hg => ?_, ?_⟩
  · rw [hbead]
    exact hvworking
  · rw [hbead]
    exact hvfailed
  · rw [htreg, hraise.reg _ (by decide), hvreg, hunreg]
  · rw [hbead]
    exact hvgens g fun e => olderSlot_ne s.bead.gens (by rw [hg, e])
  · rw [hparts]
    exact hrcond

end Sys2Proof.Machine
end

section
/-!
PROOFS. Commits by command and host rows (R138, R143, R147, R148, R152).
-/

namespace Sys2Proof.Machine

set_option Elab.async false

/-! ### BT_COMMIT_NOW -/

/-- A commit in an idle MRAM domain begins at once. -/
theorem schedDo_commit_idle {s : State} (h : s.sched[mramDomain] = {}) : s.schedDo mramDomain .beadCommit =
    (.run, (s.modSched mramDomain fun x =>
      { x with running := some .beadCommit, since := s.now, edge := some s.now }).startActivity mramDomain .beadCommit) := by
  have hrun : s.sched[mramDomain].running = none := by rw [h]
  have hpend : s.sched[mramDomain].pending ≠ some .beadCommit := by rw [h]; decide
  unfold State.schedDo
  rw [mramAsk_run (.inl rfl) hrun hpend]
  dsimp only
  rw [dif_neg (by decide), if_pos (by rw [hrun]; rfl)]

theorem effCommitNow_idle {s : State} (hu : s.updWaits = false) (h : s.sched[mramDomain] = {}) : effCommitNow s =
    .ok ((s.modSched mramDomain fun x =>
      { x with running := some .beadCommit, since := s.now, edge := some s.now }).startActivity mramDomain .beadCommit) := by
  rw [effCommitNow_eq hu, schedDo_commit_idle h]
  exact if_neg (fun e => nomatch e)

theorem btCommitNow_begins {p : Port} {s : State} (c : s.Calm) (ha : s.AdmitsCmd p Reg.BT_COMMIT_NOW)
    (hu : s.updWaits = false) (h : s.sched[mramDomain] = {}) :
    ∃ t, exec (.btCommitNow p) s = .next t ∧ t = { s.beat p with sched := t.sched, bead := t.bead } ∧
      t.bead = { s.bead with
        writing := some { beads := s.bead.working, sets := s.sets.toList, trims := s.allTrims } } ∧
      t.sched[mramDomain].running = some .beadCommit ∧ ∀ d, d ≠ mramDomain → t.sched[d] = s.sched[d] := by
  obtain ⟨u, hu'⟩ : ∃ u, u = (s.beat p).modSched mramDomain fun x =>
    { x with running := some .beadCommit, since := s.now, edge := some s.now } := ⟨_, rfl⟩
  have heff : effCommitNow (s.beat p) = .ok (u.startActivity mramDomain .beadCommit) := by
    rw [hu']
    exact effCommitNow_idle (s := s.beat p) hu h
  have hself : u.sched[mramDomain].running = some .beadCommit := by rw [hu']; exact congrArg Sched.running (modSched_self ..)
  have hothers : ∀ d, d ≠ mramDomain → u.sched[d] = s.sched[d] := fun d hd => by rw [hu']; exact modSched_ne (s.beat p) _ hd
  have hparts : u = { s.beat p with sched := u.sched } := by rw [hu']; rfl
  have htrims : u.allTrims = s.allTrims := by rw [hparts]; rfl
  have hbegin : u.startActivity mramDomain .beadCommit = u.modBead fun b =>
      { b with writing := some { beads := b.working, sets := u.sets.toList, trims := u.allTrims } } :=
    if_pos ⟨rfl, rfl⟩
  clear hu'
  refine ⟨_, hostWrite_next ha heff (by rw [hbegin, hparts]; exact c.1), ?_, ?_, ?_, fun d hd => ?_⟩
  · rw [hbegin, hparts]
    rfl
  · rw [hbegin, htrims, hparts]
    rfl
  · rw [hbegin]
    exact hself
  · rw [hbegin]
    exact hothers d hd

theorem btCommitNow_held {p : Port} {s : State} (c : s.Calm) (ha : s.AdmitsCmd p Reg.BT_COMMIT_NOW)
    (hu : s.updWaits = true) :
    ∃ t, exec (.btCommitNow p) s = .next t ∧ s.RefusedAs t p Reg.BT_COMMIT_NOW nakMgmt := by
  refine hostWrite_refusedAs c ha (?_ : effCommitNow (s.beat p) = _) (by decide) (by decide)
  have hwaits : (s.beat p).updWaits = true := hu
  unfold effCommitNow
  rw [hwaits]
  rfl

/-! ### Host rows -/

/-- The row that BT_ROW_LOAD stages. -/
def State.hostRow (s : State) (n : ChId) (k : Nat) : Staging :=
  { ch := n, set := k, beads := rowOf s.bead.hostRow 0, source := 2, trims := none
    record := { s.sets[setIx n (setNo k)] with calibrated := true, hostLoaded := true, tRun := s.reg Reg.BT_ROW_TEMP } }

theorem configOrService {s : State} (h : s.dev.state = .config ∨ s.dev.state = .service) :
    (decide (s.dev.state = .config) || decide (s.dev.state = .service)) = true := by
  rcases h with h | h <;> rw [h] <;> rfl

theorem notConfigOrService {s : State} (h : s.dev.state ≠ .config ∧ s.dev.state ≠ .service) :
    (decide (s.dev.state = .config) || decide (s.dev.state = .service)) = false := by
  rw [decide_eq_false h.1, decide_eq_false h.2]
  rfl

theorem effRowLoad_stages {s : State} {n : ChId} {k : Nat} (hn : n = chOf (s.reg Reg.BT_WIN_CH))
    (hk : k = s.regN Reg.BT_WIN_SET % 8) (hd : s.dev.state = .config ∨ s.dev.state = .service)
    (hi : s.cal[n].state = .idle) (ht : inCell s.reg k (s.reg Reg.BT_ROW_TEMP) = true) :
    effRowLoad s = .ok (s.stage (s.hostRow n k)) := by
  subst hn hk
  unfold effRowLoad
  dsimp only
  rw [configOrService hd, decide_eq_true hi, ht]
  rfl

theorem btRowLoad_stages {p : Port} {s : State} {n : ChId} {k : Nat} (c : s.Calm) (ha : s.AdmitsCmd p Reg.BT_ROW_LOAD)
    (hn : n = chOf (s.reg Reg.BT_WIN_CH)) (hk : k = s.regN Reg.BT_WIN_SET % 8)
    (hd : s.dev.state = .config ∨ s.dev.state = .service) (hi : s.cal[n].state = .idle)
    (ht : inCell s.reg k (s.reg Reg.BT_ROW_TEMP) = true) (hq : s.bead.staging[quadOf n] = none) (hw : s.bead.waiting = []) :
    exec (.btRowLoad p) s = .next { s.beat p with
      bead := { s.bead with staging := vmod s.bead.staging (quadOf n) fun _ => some (s.hostRow n k) } } :=
  have hstage := stage_free (s := s.beat p) (x := s.hostRow n k) hq hw
  hostWrite_next ha ((effRowLoad_stages (s := s.beat p) hn hk hd hi ht).trans (congrArg Except.ok hstage)) c.1

theorem btRowLoad_refused {p : Port} {s : State} (c : s.Calm) (ha : s.AdmitsCmd p Reg.BT_ROW_LOAD)
    (hd : s.dev.state ≠ .config ∧ s.dev.state ≠ .service) :
    ∃ t, exec (.btRowLoad p) s = .next t ∧ s.RefusedAs t p Reg.BT_ROW_LOAD nakCond := by
  refine hostWrite_refusedAs c ha (?_ : effRowLoad (s.beat p) = _) (by decide) (by decide)
  unfold effRowLoad
  dsimp only
  rw [notConfigOrService (s := s.beat p) hd]
  rfl

theorem setClear_clears {p : Port} {n : ChId} {k : Fin 8} {s : State} (c : s.Calm)
    (ha : s.AdmitsCmd p (Reg.SET_CLEAR n + 0x100 * k)) (hd : s.dev.state = .config ∨ s.dev.state = .service) :
    exec (.setClear p n k) s = .next { s.beat p with
      sets := vmod s.sets (setIx n k) fun r => { r with calibrated := false } } := by
  refine hostWrite_next ha (?_ : effSetClear n k (s.beat p) = _) c.1
  unfold effSetClear
  rw [configOrService (s := s.beat p) hd]
  rfl

theorem setClear_refused {p : Port} {n : ChId} {k : Fin 8} {s : State} (c : s.Calm)
    (ha : s.AdmitsCmd p (Reg.SET_CLEAR n + 0x100 * k)) (hd : s.dev.state ≠ .config ∧ s.dev.state ≠ .service) :
    ∃ t, exec (.setClear p n k) s = .next t ∧ s.RefusedAs t p (Reg.SET_CLEAR n + 0x100 * k) nakCond := by
  refine hostWrite_refusedAs c ha (?_ : effSetClear n k (s.beat p) = _) (by decide) (by decide)
  unfold effSetClear
  rw [notConfigOrService (s := s.beat p) hd]
  rfl

/-- Settles O34: a commit writes the older generation or leaves it torn, the scrub counts in every state, and a host row
is staged or refused. -/
theorem commitsScrubAndHostRows : Obligations.CommitsScrubAndHostRows := by
  refine ⟨fun f s c ha hv hw => ⟨fun hf => ?_, fun hf m => beadCommit_fails c ha hv hw hf m⟩,
    fun p s c ha => ⟨fun hu h => btCommitNow_begins c ha hu h, fun hu => btCommitNow_held c ha hu⟩,
    fun cs s ha h0 h1 => beadScrub_corrects ha h0 h1, fun i s ha => beadScrub_keeps ha,
    fun p s n k c ha hn hk => ⟨fun hd hi ht hq hw => ?_, fun hd => btRowLoad_refused c ha hd⟩,
    fun p s c ha => ⟨_, hostWrite_next ha rfl c.1, rfl⟩,
    fun p n k s c ha => ⟨fun hd => ?_, fun hd => setClear_refused c ha hd⟩⟩
  · obtain ⟨t, x, hexec, hgen, hbead, hcount, hfails, hregs, hruns⟩ := beadCommit_writes c ha hv hw hf
    refine ⟨t, hexec, by rw [hbead]; exact hgen.working, by rw [hbead]; exact hgen.failed,
      ⟨olderSlot s.bead.gens, olderSlot_ne _, ?_, ?_, ?_, ?_, ?_, ?_, ?_, ?_⟩, hcount, hfails, hregs, fun n hn => ?_⟩
    · rw [hbead]; exact hgen.valid
    · rw [hbead]; exact hgen.torn
    · rw [hbead]; exact hgen.crc
    · rw [hbead]; exact hgen.beads
    · rw [hbead]; exact hgen.sets
    · rw [hbead]; exact hgen.trims
    · rw [hbead]; exact hgen.counter
    · rw [hbead]; exact hgen.others
    · rw [hruns n, Cal.committed, if_pos hn]
  · exact ⟨_, btRowLoad_stages c ha hn hk hd hi ht hq hw, rfl, s.hostRow n k, vmod_self s.bead.staging (quadOf n) _, rfl, rfl,
      by rw [State.hostRow], rfl, rfl, rfl, rfl, rfl, rfl⟩
  · exact ⟨_, setClear_clears c ha hd, rfl, vmod_self s.sets (setIx n k) _, fun i hi => vmod_ne s.sets _ hi.symm⟩

end Sys2Proof.Machine
end

section
/-!
PROOFS. The copy of a staged row into the working copy (R142).
-/

namespace Sys2Proof.Machine

set_option Elab.async false

/-! ### The bytes of a row -/

/-- The bytes of a list of words. -/
def rowBytes (ws : List (BitVec 32)) : Bytes := ws.flatMap fun w => leBytes 4 w.toNat

theorem rowBytes_cons (w : BitVec 32) (ws : List (BitVec 32)) : rowBytes (w :: ws) = leBytes 4 w.toNat ++ rowBytes ws := rfl

theorem rowBytes_length (ws : List (BitVec 32)) : (rowBytes ws).length = 4 * ws.length := by
  induction ws with
  | nil => rfl
  | cons w ws ih =>
    rw [rowBytes_cons, List.length_append, leBytes_length, ih, List.length_cons]
    omega

theorem rowBytes_get (ws : List (BitVec 32)) {j i : Nat} (hi : i < 4) (hj : j < ws.length) :
    (rowBytes ws).getD (4 * j + i) 0 = (leBytes 4 (ws.getD j 0).toNat).getD i 0 := by
  induction ws generalizing j with
  | nil => exact absurd hj (Nat.not_lt_zero j)
  | cons w ws ih =>
    have hlen : (leBytes 4 w.toNat).length = 4 := leBytes_length 4 w.toNat
    rw [rowBytes_cons]
    cases j with
    | zero =>
      rw [Nat.mul_zero, Nat.zero_add, List.getD_cons_zero, List.getD_append _ _ _ _ (by rw [hlen]; exact hi)]
    | succ j =>
      rw [List.getD_append_right _ _ _ _ (by rw [hlen]; omega), hlen, List.getD_cons_succ,
        show 4 * (j + 1) + i - 4 = 4 * j + i by omega]
      exact ih (by rw [List.length_cons] at hj; omega)

/-- Four bytes of a word, low byte first, are the word. -/
theorem word_of_bytes {m : Memory} {a : Nat} {w : BitVec 32}
    (h : ∀ i, i < 4 → SMap.find 0#8 m (a + i) = (leBytes 4 w.toNat).getD i 0) : m.word a = w := by
  have hbytes : [SMap.find 0#8 m a, SMap.find 0#8 m (a + 1), SMap.find 0#8 m (a + 2), SMap.find 0#8 m (a + 3)] =
      leBytes 4 w.toNat := by
    rw [show SMap.find 0#8 m a = _ from h 0 (by decide), h 1 (by decide), h 2 (by decide), h 3 (by decide)]
    rfl
  have hlt : w.toNat < 256 ^ 4 := w.isLt
  have hword : m.word a = BitVec.ofNat 32 (leNat (leBytes 4 w.toNat)) := congrArg (fun b => BitVec.ofNat 32 (leNat b)) hbytes
  rw [hword, leNat_leBytes, Nat.mod_eq_of_lt hlt, BitVec.ofNat_toNat, BitVec.setWidth_eq]

/-- A stored row reads back word by word. -/
theorem store_word (m : Memory) (base : Nat) (ws : List (BitVec 32)) {j : Nat} (hj : j < ws.length) :
    (m.store base (rowBytes ws)).word (base + 4 * j) = ws.getD j 0 := by
  refine word_of_bytes fun i hi => ?_
  rw [store_find, rowBytes_length, if_pos ⟨by omega, by omega⟩, show base + 4 * j + i - base = 4 * j + i by omega]
  exact rowBytes_get ws hi hj

/-- A stored row leaves every byte outside it. -/
theorem store_outside (m : Memory) (base : Nat) (ws : List (BitVec 32)) {a : Nat}
    (ha : a < base ∨ base + 4 * ws.length ≤ a) : SMap.find 0#8 (m.store base (rowBytes ws)) a = SMap.find 0#8 m a := by
  rw [store_find, rowBytes_length]
  exact if_neg (by omega)

theorem beadAddr_row (n : ChId) (k j : Nat) : beadAddr n k j = beadAddr n k 0 + 4 * j := by
  unfold beadAddr
  omega

/-! ### ROW_COPY_COMPLETE -/

/-- What the copy of a row leaves of the bead table. -/
structure RowCopied (s t : State) (x : Staging) : Prop where
  working : t.bead.working = s.bead.working.store (beadAddr x.ch x.set 0) (rowBytes x.beads)
  gens : t.bead.gens = s.bead.gens
  hostRow : t.bead.hostRow = s.bead.hostRow
  sets : t.sets = s.sets
  free : s.bead.waiting = [] → t.bead.staging[quadOf x.ch] = none

/-- The bead table with a row copied. -/
def Beads.copied (b : Beads) (x : Staging) : Beads :=
  { b with
    working := b.working.store (beadAddr x.ch x.set 0) (rowBytes x.beads)
    staging := vmod b.staging (quadOf x.ch) fun _ => none
    bad := b.bad.filter fun i =>
      !(8192 * x.ch.val + 1024 * x.set ≤ i && i < 8192 * x.ch.val + 1024 * x.set + 1024) }

theorem stageNext_keeps (s : State) (q : Fin 4) : (s.stageNext q).bead.hostRow = s.bead.hostRow ∧
    (s.bead.waiting = [] → s.stageNext q = s) := by
  unfold State.stageNext
  split
  · exact ⟨rfl, fun _ => rfl⟩
  · split
    · exact ⟨rfl, fun _ => rfl⟩
    · next y hy =>
      refine ⟨rfl, fun hw => ?_⟩
      rw [hw] at hy
      cases hy

theorem rowCopied_copies (s : State) (x : Staging) : RowCopied s (s.rowCopied x) x := by
  obtain ⟨u, hu⟩ : ∃ u, u = s.modBead fun b => b.copied x := ⟨_, rfl⟩
  have hcopy : s.rowCopied x = (if u.bead.bad.all fun i => i / 8192 ≠ x.ch.val then u.gone (chSrc x.ch 18)
      else u).stageNext (quadOf x.ch) := by
    rw [hu]
    rfl
  have hubead : u.bead = s.bead.copied x := by rw [hu]; rfl
  have husets : u.sets = s.sets := by rw [hu]; rfl
  clear hu
  have hv : ∀ p : Prop, [Decidable p] → (if p then u.gone (chSrc x.ch 18) else u).bead = u.bead ∧
      (if p then u.gone (chSrc x.ch 18) else u).sets = u.sets := fun p _ => by
    split
    · exact ⟨(gone_frame u _).bead, (gone_frame u _).sets⟩
    · exact ⟨rfl, rfl⟩
  rw [hcopy]
  obtain ⟨hvbead, hvsets⟩ := hv ((u.bead.bad.all fun i => i / 8192 ≠ x.ch.val) = true)
  generalize (if u.bead.bad.all fun i => i / 8192 ≠ x.ch.val then u.gone (chSrc x.ch 18) else u) = v at *
  obtain ⟨hparts, hworking, hgens⟩ := stageNext_parts v (quadOf x.ch)
  obtain ⟨hhost, hstay⟩ := stageNext_keeps v (quadOf x.ch)
  refine ⟨by rw [hworking, hvbead, hubead]; rfl, by rw [hgens, hvbead, hubead]; rfl, by rw [hhost, hvbead, hubead]; rfl,
    by rw [hparts]; exact hvsets.trans husets, fun hw => ?_⟩
  rw [hstay (by rw [hvbead, hubead]; exact hw), hvbead, hubead]
  exact vmod_self s.bead.staging (quadOf x.ch) _

theorem rowCopyComplete_copies {n : ChId} {s : State} {x : Staging} (hl : s.lanesOn = true)
    (hx : s.bead.staging[quadOf n] = some x) (hch : x.ch = n) (huse : x.inUse = true) :
    ∃ t, exec (.rowCopyComplete n) s = .next t ∧ RowCopied s t x := by
  have hcopied := rowCopied_copies s x
  have hexec : exec (.rowCopyComplete n) s = done (s.rowCopied x) := by
    change (match s.bead.staging[quadOf n] with
      | some x => if (s.lanesOn && decide (x.ch = n) && x.inUse) = true then done (s.rowCopied x) else done s
      | none => done s) = _
    rw [hx]
    exact if_pos (by rw [hl, decide_eq_true hch, huse]; rfl)
  generalize s.rowCopied x = u at *
  have hb := settled_bead u
  exact ⟨u.settled, hexec, by rw [hb]; exact hcopied.working, by rw [hb]; exact hcopied.gens,
    by rw [hb]; exact hcopied.hostRow, (settled_safe u).1.sets.trans hcopied.sets, by rw [hb]; exact hcopied.free⟩

end Sys2Proof.Machine
end

section
/-!
PROOFS. A staged row takes effect (R137, R142, R148).
-/

namespace Sys2Proof.Machine

set_option Elab.async false

/-! ### The set records -/

theorem setIx_ne_channel {m n : ChId} (h : m ≠ n) (j k : Fin 8) : setIx m j ≠ setIx n k := fun e => by
  have hval : 8 * m.val + j.val = 8 * n.val + k.val := congrArg Fin.val e
  exact h (Fin.ext (by omega))

theorem setIx_ne_set {n : ChId} {j k : Fin 8} (h : j ≠ k) : setIx n j ≠ setIx n k := fun e => by
  have hval : 8 * n.val + j.val = 8 * n.val + k.val := congrArg Fin.val e
  exact h (Fin.ext (by omega))

/-- The record that a row brings to its set at the boundary. -/
def State.rowRecord (s : State) (x : Staging) : SetRec :=
  if x.source ≤ 1 then
    { x.record with
      count := (satInc 32 (Int.ofNat s.sets[setIx x.ch (setNo x.set)].count)).toNat, time := s.now80 }
  else x.record

/-- A BASELINE row clears the other sets of its channel first. -/
def State.rowCleared (s : State) (x : Staging) : State :=
  if x.source = 1 then
    s.each (List.finRange 8) fun s k => { s with sets := vmod s.sets (setIx x.ch k) fun r => { r with calibrated := false } }
  else s

theorem rowRecords_eq (s : State) (x : Staging) : s.rowRecords x = { s.rowCleared x with
    sets := vmod (s.rowCleared x).sets (setIx x.ch (setNo x.set)) fun _ => s.rowRecord x } := rfl

theorem each_sets {n : ChId} (f : SetRec → SetRec) (l : List (Fin 8)) (s : State) :
    (s.each l fun s k => { s with sets := vmod s.sets (setIx n k) f }) = { s with
      sets := (s.each l fun s k => { s with sets := vmod s.sets (setIx n k) f }).sets } ∧
    ∀ m k, m ≠ n → (s.each l fun s k => { s with sets := vmod s.sets (setIx n k) f }).sets[setIx m k] = s.sets[setIx m k] := by
  unfold State.each
  induction l generalizing s with
  | nil => exact ⟨rfl, fun _ _ _ => rfl⟩
  | cons j l ih =>
    obtain ⟨hparts, hothers⟩ := ih { s with sets := vmod s.sets (setIx n j) f }
    rw [List.foldl_cons]
    exact ⟨hparts.trans rfl, fun m k hm =>
      (hothers m k hm).trans (vmod_ne s.sets f (setIx_ne_channel hm k j).symm)⟩

theorem rowCleared_parts (s : State) (x : Staging) : s.rowCleared x = { s with sets := (s.rowCleared x).sets } ∧
    (∀ m k, m ≠ x.ch → (s.rowCleared x).sets[setIx m k] = s.sets[setIx m k]) ∧
    (x.source ≠ 1 → s.rowCleared x = s) := by
  unfold State.rowCleared
  by_cases h : x.source = 1
  · rw [if_pos h]
    obtain ⟨hparts, hothers⟩ := each_sets (n := x.ch) (fun r => { r with calibrated := false }) (List.finRange 8) s
    exact ⟨hparts, hothers, fun h' => absurd h h'⟩
  · rw [if_neg h]
    exact ⟨rfl, fun _ _ _ => rfl, fun _ => rfl⟩

/-- What a row leaves of the set records. -/
structure RowRecorded (s t : State) (x : Staging) : Prop where
  frame : t = { s with sets := t.sets }
  record : t.sets[setIx x.ch (setNo x.set)] = s.rowRecord x
  channels : ∀ m k, m ≠ x.ch → t.sets[setIx m k] = s.sets[setIx m k]
  others : x.source ≠ 1 → ∀ k, k ≠ setNo x.set → t.sets[setIx x.ch k] = s.sets[setIx x.ch k]

theorem rowRecords_recorded (s : State) (x : Staging) : RowRecorded s (s.rowRecords x) x := by
  obtain ⟨hparts, hchannels, hsame⟩ := rowCleared_parts s x
  rw [rowRecords_eq]
  generalize s.rowCleared x = u at *
  refine ⟨by rw [hparts], vmod_self u.sets _ _, fun m k hm => ?_, fun h1 k hk => ?_⟩
  · exact (vmod_ne u.sets _ (setIx_ne_channel hm k _).symm).trans (hchannels m k hm)
  · have hu := hsame h1
    subst hu
    exact vmod_ne u.sets _ (setIx_ne_set hk).symm

theorem rowRecord_keeps (s : State) (x : Staging) : (s.rowRecord x).calibrated = x.record.calibrated ∧
    (s.rowRecord x).tRun = x.record.tRun := by
  unfold State.rowRecord
  split <;> exact ⟨rfl, rfl⟩

/-! ### The trims -/

/-- The trims of a row, by object. -/
def rowTrimRegs (n : ChId) (t : Trims) : List (Key × Int) :=
  [(Reg.CH_OFS_SIN n, t.ofsSin), (Reg.CH_OFS_COS n, t.ofsCos), (Reg.CH_FGAIN_SIN n, t.fgainSin),
    (Reg.CH_FGAIN_COS n, t.fgainCos), (Reg.CH_QUAD_TRIM n, t.quad)]

/-- The objects of a row's trims. -/
def rowTrimKeys (n : ChId) : List Key :=
  [Reg.CH_OFS_SIN n, Reg.CH_OFS_COS n, Reg.CH_FGAIN_SIN n, Reg.CH_FGAIN_COS n, Reg.CH_QUAD_TRIM n]

theorem rowTrimRegs_keys (n : ChId) (t : Trims) : (rowTrimRegs n t).map (fun x => x.1) = rowTrimKeys n := rfl

theorem rowTrimKeys_facts (n : ChId) : (rowTrimKeys n).Nodup ∧ (∀ k ∈ rowTrimKeys n, k < 0x500000 ∨ 0x550000 ≤ k) ∧
    Reg.CFG_GEN ∉ rowTrimKeys n ∧ Reg.CAL_CNT_ACCEPTED n ∉ rowTrimKeys n ∧ Reg.FC_LOG_LOST ∉ rowTrimKeys n := by
  decide +revert

/-- What a row's trims leave. -/
structure RowTrimmed (s t : State) (n : ChId) (tr : Trims) : Prop where
  frame : t = { s with regs := t.regs, ch := t.ch }
  written : ∀ k v, (k, v) ∈ rowTrimRegs n tr → t.reg k = v
  regs : s.SameRegs t (rowTrimKeys n)
  trims : t.ch[n].trims.ofsSin = tr.ofsSin ∧ t.ch[n].trims.quad = tr.quad
  calm : s.Calm → t.Calm

/-- A channel with the trims of a row. -/
def Chan.trimmed (c : Chan) (t : Trims) : Chan :=
  { c with
    trims := { c.trims with
      ofsSin := t.ofsSin, ofsCos := t.ofsCos, fgainSin := t.fgainSin, fgainCos := t.fgainCos, quad := t.quad }
    armed := c.armed.map fun a => { a with
      ofsSin := t.ofsSin, ofsCos := t.ofsCos, fgainSin := t.fgainSin, fgainCos := t.fgainCos, quad := t.quad } }

theorem rowTrims_eq (s : State) (n : ChId) (t : Trims) :
    s.rowTrims n t = (s.setAll (rowTrimRegs n t)).modCh n fun c => c.trimmed t := rfl

theorem rowTrims_trimmed (s : State) (n : ChId) (tr : Trims) : RowTrimmed s (s.rowTrims n tr) n tr := by
  obtain ⟨hnodup, hplain, -⟩ := rowTrimKeys_facts n
  have hframe := setAll_frame s (rowTrimRegs n tr)
  have hwritten : ∀ k v, (k, v) ∈ rowTrimRegs n tr → (s.setAll (rowTrimRegs n tr)).reg k = v :=
    fun k v => setAll_reg s (rowTrimRegs n tr) hnodup
  have hregs : s.SameRegs (s.setAll (rowTrimRegs n tr)) (rowTrimKeys n) := fun k hk => setAll_reg_ne s _ hk
  have hcalm : s.Calm → (s.setAll (rowTrimRegs n tr)).Calm := setAll_calm hplain
  rw [rowTrims_eq]
  generalize s.setAll (rowTrimRegs n tr) = u at *
  have hself := modCh_self u n fun c => c.trimmed tr
  refine ⟨?_, hwritten, hregs, by rw [hself]; exact ⟨rfl, rfl⟩, hcalm⟩
  rw [hframe]
  rfl

/-! ### The run whose row has taken effect -/

theorem commitOffer_parts (s : State) : s.commitOffer = { s with
    sched := s.commitOffer.sched, bead := { s.bead with writing := s.commitOffer.bead.writing } } := by
  unfold State.commitOffer
  split
  · rfl
  · exact (schedDo_mram s .beadCommit).1

theorem appliedKeys (n : ChId) : Reg.CAL_CNT_ACCEPTED n ≠ Reg.CFG_GEN ∧ Reg.CFG_GEN ≠ Reg.FC_LOG_LOST ∧
    Reg.CAL_CNT_ACCEPTED n ≠ Reg.FC_LOG_LOST := by decide +revert

/-- What an accepted run leaves once its row has taken effect. -/
structure RunApplied (s t : State) (n : ChId) : Prop where
  run : t.cal[n] = { s.cal[n] with state := .commit, result := 1, detail := 0 }
  bead : t.bead = { s.bead with writing := t.bead.writing }
  sets : t.sets = s.sets
  ch : t.ch = s.ch
  cfgGen : t.reg Reg.CFG_GEN = (s.reg Reg.CFG_GEN + 1) % 2 ^ 32
  accepted : t.reg (Reg.CAL_CNT_ACCEPTED n) = satInc 32 (s.reg (Reg.CAL_CNT_ACCEPTED n))
  regs : s.SameRegs t [Reg.CAL_CNT_ACCEPTED n, Reg.CFG_GEN, Reg.FC_LOG_LOST]
  quiet : s.Calm → t.floor.request = false

theorem calApplied_applies (s : State) (n : ChId) : RunApplied s (s.calApplied n) n := by
  obtain ⟨hagen, hglost, halost⟩ := appliedKeys n
  obtain ⟨u, hu⟩ : ∃ u, u = s.modCal n fun c => { c with state := .commit, result := 1, detail := 0 } := ⟨_, rfl⟩
  have happlied : s.calApplied n = ((u.bump (Reg.CAL_CNT_ACCEPTED n)).logCal n).cfgGen.commitOffer := by rw [hu]; rfl
  have huself : u.cal[n] = { s.cal[n] with state := .commit, result := 1, detail := 0 } := by rw [hu]; exact modCal_self s n _
  have huparts : u = { s with cal := u.cal } := by rw [hu]; rfl
  clear hu
  have hureg : u.reg = s.reg := by rw [huparts]; rfl
  have hbcount := State.reg_bump u (Reg.CAL_CNT_ACCEPTED n)
  have hbregs : u.SameRegs (u.bump (Reg.CAL_CNT_ACCEPTED n)) [Reg.CAL_CNT_ACCEPTED n] := (oneReg_bump u _).2
  have hbparts : u.bump (Reg.CAL_CNT_ACCEPTED n) = { u with regs := (u.bump (Reg.CAL_CNT_ACCEPTED n)).regs } := rfl
  have hbcalm : u.Calm → (u.bump (Reg.CAL_CNT_ACCEPTED n)).Calm := bump_calm u (calKeys n).1
  rw [happlied]
  generalize u.bump (Reg.CAL_CNT_ACCEPTED n) = b at *
  have hlog : RaiseFrame b (b.logCal n) := logKind_frame _ _ _ _
  have hlogcalm : b.Calm → (b.logCal n).Calm := logKind_calm _ _ _ _
  generalize b.logCal n = l at *
  have hggen := State.reg_setReg l Reg.CFG_GEN ((l.reg Reg.CFG_GEN + 1) % 2 ^ 32)
  have hgregs : l.SameRegs l.cfgGen [Reg.CFG_GEN] := (oneReg_setReg l _ _).2
  have hgparts : l.cfgGen = { l with regs := l.cfgGen.regs } := rfl
  change l.cfgGen.reg Reg.CFG_GEN = _ at hggen
  generalize l.cfgGen = g at *
  have hoffer := commitOffer_parts g
  generalize g.commitOffer = t at *
  have htreg : t.reg = g.reg := by rw [hoffer]; rfl
  refine ⟨?_, ?_, ?_, ?_, ?_, ?_, fun j hj => ?_, fun c => ?_⟩
  · rw [hoffer, hgparts, hlog.cal, hbparts, huself]
  · rw [hoffer, hgparts, hlog.bead, hbparts, huparts]
  · rw [hoffer, hgparts, hlog.sets, hbparts, huparts]
  · rw [hoffer, hgparts, hlog.ch, hbparts, huparts]
  · rw [htreg, hggen, hlog.reg _ hglost, hbregs _ (by rw [List.mem_singleton]; exact hagen.symm), hureg]
  · rw [htreg, hgregs _ (by rw [List.mem_singleton]; exact hagen), hlog.reg _ halost, hbcount, hureg]
  · simp only [List.mem_cons, List.not_mem_nil, or_false, not_or] at hj
    obtain ⟨ha, hg, hl⟩ := hj
    rw [htreg, hgregs _ (by rw [List.mem_singleton]; exact hg), hlog.reg _ hl, hbregs _ (by rw [List.mem_singleton]; exact ha),
      hureg]
  · rw [hoffer, hgparts]
    exact (hlogcalm (hbcalm (by rw [huparts]; exact c))).1

end Sys2Proof.Machine
end

section
/-!
PROOFS. ROW_APPLY and ROW_COPY_COMPLETE (R137, R142).
-/

namespace Sys2Proof.Machine

set_option Elab.async false

/-! ### The row as the lane reads it -/

/-- The row's staging entry is in use. -/
def State.rowTaken (s : State) (x : Staging) : State :=
  s.modBead fun b => { b with staging := vmod b.staging (quadOf x.ch) fun _ => some { x with inUse := true } }

/-- The row's trims, where it brings any. -/
def State.rowTrimmed (s : State) (x : Staging) : State := match x.trims with | some t => s.rowTrims x.ch t | none => s

theorem rowTrimmed_facts (s : State) (x : Staging) :
    s.rowTrimmed x = { s with regs := (s.rowTrimmed x).regs, ch := (s.rowTrimmed x).ch } ∧
    (x.trims = none → s.rowTrimmed x = s) ∧ s.SameRegs (s.rowTrimmed x) (rowTrimKeys x.ch) ∧
    (s.Calm → (s.rowTrimmed x).Calm) ∧ ∀ tr, x.trims = some tr → RowTrimmed s (s.rowTrimmed x) x.ch tr := by
  unfold State.rowTrimmed
  cases h : x.trims with
  | none => exact ⟨rfl, fun _ => rfl, fun _ _ => rfl, id, fun tr ht => (nomatch ht)⟩
  | some tr =>
    have htrim := rowTrims_trimmed s x.ch tr
    refine ⟨htrim.frame, fun e => (nomatch e), htrim.regs, htrim.calm, fun tr' e => ?_⟩
    cases e
    exact htrim

/-- The row noted for the next latch. -/
def State.rowNoted (s : State) (x : Staging) : State :=
  if x.source ≤ 2 then s.modBead fun b =>
    { b with deltas := b.deltas ++ [(x.ch.val, x.set, x.source, s.sets[setIx x.ch (setNo x.set)].count)] } else s

theorem rowNoted_parts (s : State) (x : Staging) :
    s.rowNoted x = { s with bead := { s.bead with deltas := (s.rowNoted x).bead.deltas } } := by
  unfold State.rowNoted
  split <;> rfl

/-- A row in effect, before its run goes on. -/
def State.rowSet (s : State) (x : Staging) : State := (((s.rowTaken x).rowRecords x).rowTrimmed x).rowNoted x

theorem rowApply_eq (s : State) (x : Staging) : s.rowApply x =
    if x.source ≤ 1 ∧ (s.rowSet x).cal[x.ch].state = .apply then (s.rowSet x).calApplied x.ch else s.rowSet x := rfl

/-- What a row in effect leaves. -/
structure RowSet (s t : State) (x : Staging) : Prop where
  frame : t = { s with regs := t.regs, ch := t.ch, sets := t.sets, bead := t.bead }
  plain : x.trims = none → t.regs = s.regs ∧ t.ch = s.ch
  bead : t.bead = { s.bead with
    staging := vmod s.bead.staging (quadOf x.ch) fun _ => some { x with inUse := true }, deltas := t.bead.deltas }
  record : t.sets[setIx x.ch (setNo x.set)] = s.rowRecord x
  channels : ∀ m k, m ≠ x.ch → t.sets[setIx m k] = s.sets[setIx m k]
  others : x.source ≠ 1 → ∀ k, k ≠ setNo x.set → t.sets[setIx x.ch k] = s.sets[setIx x.ch k]
  regs : s.SameRegs t (rowTrimKeys x.ch)
  written : ∀ tr, x.trims = some tr → ∀ k v, (k, v) ∈ rowTrimRegs x.ch tr → t.reg k = v
  trims : ∀ tr, x.trims = some tr → t.ch[x.ch].trims.ofsSin = tr.ofsSin ∧ t.ch[x.ch].trims.quad = tr.quad
  calm : s.Calm → t.Calm

theorem rowSet_sets (s : State) (x : Staging) : RowSet s (s.rowSet x) x := by
  have hubead : (s.rowTaken x).bead = { s.bead with
    staging := vmod s.bead.staging (quadOf x.ch) fun _ => some { x with inUse := true } } := rfl
  have huparts : s.rowTaken x = { s with bead := (s.rowTaken x).bead } := rfl
  have hurecord : (s.rowTaken x).rowRecord x = s.rowRecord x := rfl
  unfold State.rowSet
  generalize s.rowTaken x = u at *
  have hrec := rowRecords_recorded u x
  generalize u.rowRecords x = v at *
  obtain ⟨hwparts, hwnone, hwregs, hwcalm, hwtrims⟩ := rowTrimmed_facts v x
  generalize v.rowTrimmed x = w at *
  have htparts := rowNoted_parts w x
  generalize w.rowNoted x = t at *
  have husets : u.sets = s.sets := by rw [huparts]
  have hvcalm : s.Calm → v.Calm := fun c => by rw [hrec.frame, huparts]; exact c
  have hvreg : v.reg = s.reg := by rw [hrec.frame, huparts]; rfl
  have htreg : t.reg = w.reg := by rw [htparts]; rfl
  have htsets : t.sets = v.sets := by rw [htparts, hwparts]
  have htch : t.ch = w.ch := by rw [htparts]
  refine ⟨?_, fun hn => ?_, ?_, by rw [htsets, hrec.record, hurecord], fun m k hm => by rw [htsets, hrec.channels m k hm, husets],
    fun h1 k hk => by rw [htsets, hrec.others h1 k hk, husets], fun j hj => by rw [htreg, hwregs j hj, hvreg],
    fun tr ht k y hk => by rw [htreg, (hwtrims tr ht).written k y hk], fun tr ht => by rw [htch]; exact (hwtrims tr ht).trims,
    fun c => by rw [htparts]; exact hwcalm (hvcalm c)⟩
  · rw [htparts, hwparts, hrec.frame, huparts]
  · have hwv := hwnone hn
    rw [htparts, hwv, hrec.frame, huparts]
    exact ⟨rfl, rfl⟩
  · rw [htparts, hwparts, hrec.frame, hubead]

/-! ### ROW_APPLY -/

/-- What ROW_APPLY leaves: the row in effect, with its run carried on where it waits for it. -/
theorem rowApply_cases (s : State) (x : Staging) : RowSet s (s.rowSet x) x ∧
    ((x.source ≤ 1 ∧ s.cal[x.ch].state = .apply) → RunApplied (s.rowSet x) (s.rowApply x) x.ch) ∧
    (¬ (x.source ≤ 1 ∧ s.cal[x.ch].state = .apply) → s.rowApply x = s.rowSet x) := by
  have hset := rowSet_sets s x
  have hcal : (s.rowSet x).cal = s.cal := by rw [hset.frame]
  rw [rowApply_eq, hcal]
  refine ⟨hset, fun h => ?_, fun h => if_neg h⟩
  rw [if_pos h]
  exact calApplied_applies _ _

theorem rowApply_exec {n : ChId} {s : State} {x : Staging} (hl : s.lanesOn = true) (hw : s.commitWrites = false)
    (hx : s.bead.staging[quadOf n] = some x) (hch : x.ch = n) (huse : x.inUse = false) :
    exec (.rowApply n) s = if s.rowDue x then done (s.rowApply x) else done s := by
  have hgate : (s.lanesOn && decide (x.ch = n) && !x.inUse && !s.commitWrites && s.rowDue x) = s.rowDue x := by
    rw [hl, decide_eq_true hch, huse, hw]
    rfl
  refine Eq.trans (b := execRowApply n s) rfl ?_
  unfold execRowApply
  rw [hx]
  dsimp only
  rw [hgate]

theorem rowApply_waits {n : ChId} {s : State} {x : Staging} (c : s.Calm) (hl : s.lanesOn = true) (hw : s.commitWrites = false)
    (hx : s.bead.staging[quadOf n] = some x) (hch : x.ch = n) (huse : x.inUse = false) (ht : x.trims.isSome = true)
    (harm : x.armed = false) (hd : s.exc[s.excIx n].driving = true) : exec (.rowApply n) s = .next s := by
  have hdue : s.rowDue x = false := by
    subst hch
    unfold State.rowDue
    rw [← Option.not_isSome, ht, harm, hd]
    rfl
  rw [rowApply_exec hl hw hx hch huse, hdue]
  exact done_quiet c.1

theorem rowDue_true {n : ChId} {s : State} {x : Staging} (hch : x.ch = n)
    (h : x.trims = none ∨ x.armed = true ∨ s.exc[s.excIx n].driving = false) : s.rowDue x = true := by
  subst hch
  unfold State.rowDue
  rcases h with h | h | h
  · rw [h]
    rfl
  · rw [h, Bool.or_true, Bool.true_or]
  · rw [h, Bool.not_false, Bool.or_true]

/-- The registers that a run whose row takes effect moves are no trims. -/
theorem trim_not_applied {n : ChId} {k : Key} (h : k ∈ rowTrimKeys n) :
    k ∉ [Reg.CAL_CNT_ACCEPTED n, Reg.CFG_GEN, Reg.FC_LOG_LOST] := by
  obtain ⟨-, -, hgen, haccepted, hlost⟩ := rowTrimKeys_facts n
  intro hk
  simp only [List.mem_cons, List.not_mem_nil, or_false] at hk
  rcases hk with rfl | rfl | rfl
  · exact haccepted h
  · exact hgen h
  · exact hlost h

/-- Settles O33: the row in effect, its run carried on, and its copy word by word. -/
theorem stagedRowsTakeEffectAndAreCopied : Obligations.StagedRowsTakeEffectAndAreCopied := by
  refine ⟨fun n s c hl hw x hx hch huse => ⟨rowApply_waits c hl hw hx hch huse, fun h => ?_⟩,
    fun n s hl x hx hch huse hlen => ?_⟩
  · subst hch
    obtain ⟨hset, happlied, hplain⟩ := rowApply_cases s x
    obtain ⟨hcal, htrun⟩ := rowRecord_keeps s x
    have hexec := rowApply_exec hl hw hx rfl huse
    rw [rowDue_true rfl h, if_pos rfl] at hexec
    generalize s.rowSet x = u at *
    generalize s.rowApply x = t at *
    have hquiet : t.floor.request = false := by
      by_cases hp : x.source ≤ 1 ∧ s.cal[x.ch].state = .apply
      · exact (happlied hp).quiet (hset.calm c)
      · rw [hplain hp]
        exact (hset.calm c).1
    have hbead : t.bead = { u.bead with writing := t.bead.writing } := by
      by_cases hp : x.source ≤ 1 ∧ s.cal[x.ch].state = .apply
      · exact (happlied hp).bead
      · rw [hplain hp]
    have hsets : t.sets = u.sets := by
      by_cases hp : x.source ≤ 1 ∧ s.cal[x.ch].state = .apply
      · exact (happlied hp).sets
      · rw [hplain hp]
    have hch : t.ch = u.ch := by
      by_cases hp : x.source ≤ 1 ∧ s.cal[x.ch].state = .apply
      · exact (happlied hp).ch
      · rw [hplain hp]
    have hregs : ∀ k ∈ rowTrimKeys x.ch, t.reg k = u.reg k := fun k hk => by
      by_cases hp : x.source ≤ 1 ∧ s.cal[x.ch].state = .apply
      · exact (happlied hp).regs k (trim_not_applied hk)
      · rw [hplain hp]
    refine ⟨t, hexec.trans (done_quiet hquiet), ?_, ?_, by rw [hsets, hset.record, hcal], by rw [hsets, hset.record, htrun],
      fun m k hm => by rw [hsets, hset.channels m k hm], fun h2 hn => ?_, fun h1 ha => ?_, fun tr htr => ?_⟩
    · rw [hbead, hset.bead]
      exact vmod_self s.bead.staging (quadOf x.ch) _
    · rw [hbead, hset.bead]
    · have hp : ¬ (x.source ≤ 1 ∧ s.cal[x.ch].state = .apply) := fun hp => by omega
      obtain ⟨huregs, huch⟩ := hset.plain hn
      refine ⟨?_, ?_, fun k hk => by rw [hsets, hset.others (by omega) k hk]⟩
      · rw [hplain hp, hset.frame, huregs, huch]
      · rw [hsets, hset.record]
        exact if_neg (by omega)
    · obtain ⟨-, -, hgen, haccepted, -⟩ := rowTrimKeys_facts x.ch
      have hrun := happlied ⟨h1, ha⟩
      have hcount : (s.rowRecord x).count = (satInc 32 (Int.ofNat s.sets[setIx x.ch (setNo x.set)].count)).toNat := by
        rw [State.rowRecord, if_pos h1]
      refine ⟨by rw [hrun.run], by rw [hrun.run], by rw [hsets, hset.record, hcount], ?_, ?_⟩
      · rw [hrun.cfgGen, hset.regs _ hgen]
      · rw [hrun.accepted, hset.regs _ haccepted]
    · have hwritten := hset.written tr htr
      have hread : ∀ k v, (k, v) ∈ rowTrimRegs x.ch tr → t.reg k = v := fun k v hk => by
        have hmem : k ∈ (rowTrimRegs x.ch tr).map fun y => y.1 := List.mem_map.2 ⟨(k, v), hk, rfl⟩
        rw [hregs k hmem, hwritten k v hk]
      obtain ⟨hofs, hquad⟩ := hset.trims tr htr
      refine ⟨hread _ _ ?_, hread _ _ ?_, hread _ _ ?_, hread _ _ ?_, hread _ _ ?_, by rw [hch, hofs], by rw [hch, hquad]⟩ <;>
        simp [rowTrimRegs]
  · subst hch
    obtain ⟨t, hexec, hcopied⟩ := rowCopyComplete_copies hl hx rfl huse
    refine ⟨t, hexec, fun j hj => ?_, fun a ha => ?_, hcopied.gens, hcopied.hostRow, hcopied.sets, hcopied.free⟩
    · rw [hcopied.working, beadAddr_row x.ch x.set j]
      exact store_word _ _ _ (by rw [hlen]; exact hj)
    · rw [hcopied.working]
      exact store_outside _ _ _ (by rw [hlen]; exact ha)

end Sys2Proof.Machine
end

section
/-!
PROOFS. The steps of a Tally sample (R185 to R194).
-/

namespace Sys2Proof.Machine

set_option Elab.async false

/-! ### What a step of a sample may change -/

/-- `t` is `s` with input `n` at `x`, with objects of `ks` changed, and with what raised sources and emulators may change. -/
structure TalStep (n : Fin 16) (ks : List Key) (s t : State) (x : Tally) : Prop where
  frame : RaiseFrame { s with regs := t.regs, tal := t.tal } t
  self : t.tal[n] = x
  others : ∀ m, m ≠ n → t.tal[m] = s.tal[m]
  regs : ∀ k, k ∉ ks → k ≠ Reg.FC_LOG_LOST → t.reg k = s.reg k

theorem TalStep.refl (n : Fin 16) (s : State) : TalStep n [] s s s.tal[n] :=
  ⟨.refl s, rfl, fun _ _ => rfl, fun _ _ _ => rfl⟩

theorem TalStep.trans {n : Fin 16} {ks ls : List Key} {s t u : State} {x y : Tally} (h : TalStep n ks s t x)
    (g : TalStep n ls t u y) : TalStep n (ks ++ ls) s u y where
  frame := by
    have hs : RaiseFrame { s with regs := u.regs, tal := u.tal } { t with regs := u.regs, tal := u.tal } :=
      { h.frame with tal := rfl, reg := fun _ _ => rfl, wf := fun w => w }
    exact hs.trans g.frame
  self := g.self
  others := fun m hm => (g.others m hm).trans (h.others m hm)
  regs := fun k hk hl => by
    rw [List.mem_append, not_or] at hk
    rw [g.regs k hk.2 hl, h.regs k hk.1 hl]

theorem TalStep.of_raise {n : Fin 16} {s t : State} (h : RaiseFrame s t) : TalStep n [] s t s.tal[n] where
  frame := { h with tal := rfl, reg := fun _ _ => rfl, wf := fun w => w }
  self := by rw [h.tal]
  others := fun m _ => by rw [h.tal]
  regs := fun k _ hl => h.reg k hl

theorem TalStep.modTal (n : Fin 16) (s : State) (f : Tally → Tally) : TalStep n [] s (s.modTal n f) (f s.tal[n]) :=
  ⟨.refl _, modTal_self s n f, fun _ hm => modTal_ne s f hm, fun _ _ _ => rfl⟩

theorem TalStep.setReg (n : Fin 16) (s : State) (k : Key) (v : Int) : TalStep n [k] s (s.setReg k v) s.tal[n] :=
  ⟨.refl _, rfl, fun _ _ => rfl, fun _ hj _ => State.reg_setReg_ne s v (fun e => hj (by rw [e]; exact List.mem_singleton_self _))⟩

theorem TalStep.talFault (n : Fin 16) (s : State) : TalStep n [] s (s.talFault n) { s.tal[n] with fault := true } := by
  obtain ⟨v, hv⟩ := talFault_faults s n
  have hmod := TalStep.modTal n s fun t => { t with fault := true }
  have hreg : (s.talFault n).reg = s.reg := by rw [hv]; rfl
  have htal : (s.talFault n).tal = (s.modTal n fun t => { t with fault := true }).tal := by rw [hv]
  refine ⟨?_, by rw [htal]; exact hmod.self, fun m hm => by rw [htal]; exact hmod.others m hm, fun k _ _ => by rw [hreg]⟩
  rw [hv]
  constructor <;> first | rfl | exact ⟨rfl, rfl, rfl⟩ | exact ⟨rfl, rfl⟩ | exact fun _ => rfl | exact fun _ _ => rfl | exact fun w => w

/-- An input that a condition takes to FAULT. -/
theorem TalStep.faultIf (n : Fin 16) (s : State) (b : Bool) :
    TalStep n [] s (if b then s.talFault n else s) { s.tal[n] with fault := s.tal[n].fault || b } := by
  cases b with
  | false =>
    rw [Bool.or_false]
    exact TalStep.refl n s
  | true =>
    rw [Bool.or_true]
    exact TalStep.talFault n s

/-! ### The objects of an input -/

/-- The objects that a sample's configuration gives. -/
def talRead (n : Fin 16) : List Key :=
  [Reg.TAL_IDX_MODE n, Reg.TAL_Z_POL n, Reg.TAL_LIM_LO n, Reg.TAL_LIM_HI n, Reg.TAL_PRESET_VAL n, Reg.TAL_LINES n,
    Reg.TAL_IDX_TOL n, Reg.TAL_INVALID_ON n, Reg.TAL_SPD_EDGES n, Reg.TAL_FILT n, Reg.TAL_DIR n]

/-- The objects that decoding moves. -/
def talCounted (n : Fin 16) : List Key := [Reg.TAL_SPEED n, Reg.TAL_EDGE_TIME n, Reg.TAL_ILLEGAL_CNT n]

/-- The objects that an index edge moves. -/
def talIndexed (n : Fin 16) : List Key :=
  [Reg.TAL_IDX_RAW n, Reg.TAL_IDX_ERR n, Reg.TAL_IDX_CNT n, Reg.TAL_MISMATCH_CNT n]

theorem talKeys_nodup (n : Fin 16) : (talRead n ++ talCounted n ++ talIndexed n).Nodup ∧
    Reg.FC_LOG_LOST ∉ talRead n ++ talCounted n ++ talIndexed n ∧
    (∀ k ∈ talRead n ++ talCounted n ++ talIndexed n, faultReg k = false) := by
  decide +revert

/-- A step moves no object that configures its input. -/
theorem TalStep.reads {n : Fin 16} {ks : List Key} {s t : State} {x : Tally} (h : TalStep n ks s t x)
    (hks : ks ⊆ talCounted n ++ talIndexed n) {k : Key} (hk : k ∈ talRead n) : t.reg k = s.reg k := by
  obtain ⟨hnodup, hlost, -⟩ := talKeys_nodup n
  rw [List.append_assoc] at hnodup hlost
  refine h.regs k (fun hmem => ?_) (fun e => hlost (List.mem_append_left _ (e ▸ hk)))
  exact (List.disjoint_of_nodup_append hnodup) hk (hks hmem)

/-! ### An illegal transition (R186) -/

/-- An input after an illegal transition. -/
def Tally.spoilt (t : Tally) (inv : Bool) : Tally := { t with illegal := true, hist := [], fault := t.fault || inv }

theorem talIllegal_eq (s : State) (n : Fin 16) : s.talIllegal n =
    (fun u : State => if u.bit (Reg.TAL_INVALID_ON n) 0 then u.talFault n else u)
      (((s.modTal n fun t => { t with illegal := true, hist := [] }).bump (Reg.TAL_ILLEGAL_CNT n)).pulse (talSrc n 0)) := rfl

theorem talIllegal_step (s : State) (n : Fin 16) :
    TalStep n [Reg.TAL_ILLEGAL_CNT n] s (s.talIllegal n) (s.tal[n].spoilt (s.bit (Reg.TAL_INVALID_ON n) 0)) ∧
    (s.talIllegal n).reg (Reg.TAL_ILLEGAL_CNT n) = satInc 32 (s.reg (Reg.TAL_ILLEGAL_CNT n)) := by
  obtain ⟨-, hlost, -⟩ := talKeys_nodup n
  have hcount : Reg.TAL_ILLEGAL_CNT n ≠ Reg.FC_LOG_LOST := fun e => hlost (by rw [← e]; simp [talCounted])
  have hmod := TalStep.modTal n s fun t => { t with illegal := true, hist := [] }
  have hureg : (s.modTal n fun t => { t with illegal := true, hist := [] }).reg = s.reg := rfl
  rw [talIllegal_eq]
  generalize s.modTal n (fun t => { t with illegal := true, hist := [] }) = u at *
  have hbump := TalStep.setReg n u (Reg.TAL_ILLEGAL_CNT n) (satInc 32 (u.reg (Reg.TAL_ILLEGAL_CNT n)))
  have hbval := State.reg_bump u (Reg.TAL_ILLEGAL_CNT n)
  change TalStep n _ u (u.bump (Reg.TAL_ILLEGAL_CNT n)) _ at hbump
  generalize u.bump (Reg.TAL_ILLEGAL_CNT n) = b at *
  have hpulse := TalStep.of_raise (n := n) (pulse_frame b (talSrc n 0))
  generalize b.pulse (talSrc n 0) = w at *
  have hwself : w.tal[n] = { s.tal[n] with illegal := true, hist := [] } := by rw [hpulse.self, hbump.self, hmod.self]
  have hall : TalStep n [Reg.TAL_ILLEGAL_CNT n] s w w.tal[n] := by
    rw [hwself, ← hmod.self, ← hbump.self]
    exact (hmod.trans hbump).trans hpulse
  have hinv : w.bit (Reg.TAL_INVALID_ON n) 0 = s.bit (Reg.TAL_INVALID_ON n) 0 := by
    unfold State.bit State.regN
    rw [hall.reads (by simp [talCounted]) (by simp [talRead])]
  have hfault := TalStep.faultIf n w (w.bit (Reg.TAL_INVALID_ON n) 0)
  dsimp only
  rw [hinv] at hfault ⊢
  refine ⟨?_, ?_⟩
  · have hjoin := hall.trans hfault
    rw [hwself] at hjoin
    exact hjoin
  · rw [hfault.regs _ List.not_mem_nil hcount, hpulse.regs _ List.not_mem_nil hcount, hbval, hureg]

/-! ### A decoded step (R187, R188) -/

/-- An input after a decoded step. -/
def Tally.stepped (t : Tally) (lo hi d : Int) (h : List Time32) (e : Int) : Tally :=
  { t.countStep lo hi d with
    raw := wrapS 64 (t.raw + d), hist := h, back := some (decide (d < 0)), timedOut := false, edgeExt := e }

/-- The edge time of a step (R190). -/
def State.talEdge (s : State) (n : Fin 16) : Int :=
  Int.ofNat (s.timeNow - BitVec.ofNat 32 ((s.regN (Reg.TAL_FILT n) + 1) * 4)).toNat

theorem talStep_eq (s : State) (n : Fin 16) (d : Int) : ∃ h e v b, s.talStep n d =
    (((s.modTal n fun t => t.stepped (s.reg (Reg.TAL_LIM_LO n)) (s.reg (Reg.TAL_LIM_HI n)) d h e).setReg
      (Reg.TAL_SPEED n) v).setReg (Reg.TAL_EDGE_TIME n) (s.talEdge n)).level (talSrc n 2) b := ⟨_, _, _, _, rfl⟩

theorem talStep_step (s : State) (n : Fin 16) (d : Int) : ∃ h e,
    TalStep n [Reg.TAL_SPEED n, Reg.TAL_EDGE_TIME n] s (s.talStep n d)
      (s.tal[n].stepped (s.reg (Reg.TAL_LIM_LO n)) (s.reg (Reg.TAL_LIM_HI n)) d h e) ∧
    (s.talStep n d).reg (Reg.TAL_EDGE_TIME n) = s.talEdge n := by
  obtain ⟨-, hlost, -⟩ := talKeys_nodup n
  have htime : Reg.TAL_EDGE_TIME n ≠ Reg.FC_LOG_LOST := fun e => hlost (by rw [← e]; simp [talCounted])
  obtain ⟨h, e, v, b, heq⟩ := talStep_eq s n d
  refine ⟨h, e, ?_⟩
  rw [heq]
  have hmod := TalStep.modTal n s fun t => t.stepped (s.reg (Reg.TAL_LIM_LO n)) (s.reg (Reg.TAL_LIM_HI n)) d h e
  generalize s.modTal n (fun t => t.stepped (s.reg (Reg.TAL_LIM_LO n)) (s.reg (Reg.TAL_LIM_HI n)) d h e) = u at *
  have hspeed := TalStep.setReg n u (Reg.TAL_SPEED n) v
  generalize u.setReg (Reg.TAL_SPEED n) v = w at *
  have hedge := TalStep.setReg n w (Reg.TAL_EDGE_TIME n) (s.talEdge n)
  have hval := State.reg_setReg w (Reg.TAL_EDGE_TIME n) (s.talEdge n)
  generalize w.setReg (Reg.TAL_EDGE_TIME n) (s.talEdge n) = x at *
  have hlevel := TalStep.of_raise (n := n) (level_frame x (talSrc n 2) b)
  have hjoin := ((hmod.trans hspeed).trans hedge).trans hlevel
  rw [hedge.self, hspeed.self, hmod.self] at hjoin
  exact ⟨hjoin, (hlevel.regs _ List.not_mem_nil htime).trans hval⟩

/-! ### The decoding of a sample -/

/-- What decoding leaves of an input for its index check. -/
structure TalKept (t u : Tally) : Prop where
  a : u.a = t.a
  b : u.b = t.b
  z : u.z = t.z
  div : u.div = t.div
  xref : u.xref = t.xref
  seen : u.seen = t.seen
  armed : u.armed = t.armed
  preset : u.preset = t.preset
  mismatch : u.mismatch = t.mismatch
  beyond : u.beyond = t.beyond

theorem countStep_kept (t : Tally) (lo hi d : Int) : TalKept t (t.countStep lo hi d) := by
  unfold Tally.countStep
  dsimp only
  split
  · exact ⟨rfl, rfl, rfl, rfl, rfl, rfl, rfl, rfl, rfl, rfl⟩
  · split <;> exact ⟨rfl, rfl, rfl, rfl, rfl, rfl, rfl, rfl, rfl, rfl⟩

/-- The step that a sample decodes. -/
def Decoded.shift : Decoded → Int
  | .step k => k
  | _ => 0

/-- The direction of the last step, after a sample. -/
def Decoded.back (old : Option Bool) : Decoded → Option Bool
  | .step k => some (decide (k < 0))
  | _ => old

/-- The state in which a sample has been decoded. -/
def State.talDecoded (s : State) (n : Fin 16) (d : Decoded) : State :=
  match d with
  | .none => s
  | .step k => s.talStep n k
  | .illegal => s.talIllegal n

/-- An input whose sample has been decoded as `d`. -/
structure TalDecoded (n : Fin 16) (s t : State) (d : Decoded) (y : Tally) : Prop where
  step : TalStep n (talCounted n) s t y
  kept : TalKept s.tal[n] y
  raw : y.raw = if d.shift = 0 then s.tal[n].raw else wrapS 64 (s.tal[n].raw + d.shift)
  back : y.back = d.back s.tal[n].back
  count : y.count = if d.shift = 0 then s.tal[n].count else
    (s.tal[n].countStep (s.reg (Reg.TAL_LIM_LO n)) (s.reg (Reg.TAL_LIM_HI n)) d.shift).count
  none : d = .none → t = s
  edge : ∀ k, d = .step k → t.reg (Reg.TAL_EDGE_TIME n) = s.talEdge n
  illegal : d = .illegal → y.illegal = true ∧ y.hist = [] ∧ (s.bit (Reg.TAL_INVALID_ON n) 0 = true → y.fault = true) ∧
    t.reg (Reg.TAL_ILLEGAL_CNT n) = satInc 32 (s.reg (Reg.TAL_ILLEGAL_CNT n))

theorem TalStep.mono {n : Fin 16} {ks ls : List Key} {s t : State} {x : Tally} (h : TalStep n ks s t x) (hk : ks ⊆ ls) :
    TalStep n ls s t x := { h with regs := fun k hl hlost => h.regs k (fun hmem => hl (hk hmem)) hlost }

theorem talDecoded_decoded (s : State) (n : Fin 16) {d : Decoded} (hd : ∀ k, d = .step k → k ≠ 0) :
    ∃ y, TalDecoded n s (s.talDecoded n d) d y := by
  cases d with
  | none =>
    exact ⟨_, (TalStep.refl n s).mono (List.nil_subset _), ⟨rfl, rfl, rfl, rfl, rfl, rfl, rfl, rfl, rfl, rfl⟩, (if_pos rfl).symm,
      rfl, (if_pos rfl).symm, fun _ => rfl, fun _ h => (nomatch h), fun h => (nomatch h)⟩
  | step k =>
    obtain ⟨h, e, hstep, hedge⟩ := talStep_step s n k
    obtain ⟨ha, hb, hz, hdiv, hxref, hseen, harmed, hpreset, hmismatch, hbeyond⟩ :=
      countStep_kept s.tal[n] (s.reg (Reg.TAL_LIM_LO n)) (s.reg (Reg.TAL_LIM_HI n)) k
    have hk : (Decoded.step k).shift ≠ 0 := hd k rfl
    exact ⟨_, hstep.mono (by simp [talCounted]), ⟨ha, hb, hz, hdiv, hxref, hseen, harmed, hpreset, hmismatch, hbeyond⟩,
      (if_neg hk).symm, rfl, (if_neg hk).symm, fun h => (nomatch h), fun _ _ => hedge, fun h => (nomatch h)⟩
  | illegal =>
    obtain ⟨hstep, hcount⟩ := talIllegal_step s n
    refine ⟨_, hstep.mono (by simp [talCounted]), ⟨rfl, rfl, rfl, rfl, rfl, rfl, rfl, rfl, rfl, rfl⟩, (if_pos rfl).symm,
      rfl, (if_pos rfl).symm, fun h => (nomatch h), fun _ h => (nomatch h), fun _ => ⟨rfl, rfl, fun hi => ?_, hcount⟩⟩
    rw [Tally.spoilt, hi, Bool.or_true]

/-- A decoded step is one count. -/
theorem decodeAb_step {a0 b0 a1 b1 inv : Bool} {k : Int} (h : decodeAb a0 b0 a1 b1 inv = .step k) : k ≠ 0 := by
  unfold decodeAb at h
  dsimp only at h
  split at h
  · cases h
  · split at h
    · cases h
      cases inv <;> decide
    · split at h
      · cases h
        cases inv <;> decide
      · cases h

end Sys2Proof.Machine
end

section
/-!
PROOFS. The index check of a Tally sample, and the sample as a whole (R187, R189, R192 to R195).
-/

namespace Sys2Proof.Machine

set_option Elab.async false

/-! ### The comparison with a reference (R193) -/

/-- An input after the comparison at an index edge with the error `e`. -/
def Tally.compared (t : Tally) (lo hi e : Int) (tol : Nat) (inv follow : Bool) : Tally :=
  if e = 0 then t
  else if tol < e.natAbs then { t with mismatch := true, beyond := true, fault := t.fault || inv }
  else if follow then { t with mismatch := true, count := clampI lo hi (t.count - e) }
  else { t with mismatch := true }

/-- The error of an index edge at `x` against the reference `r`. -/
def State.talErr (s : State) (n : Fin 16) (x r : Int) : Int :=
  x - r - 4 * s.reg (Reg.TAL_LINES n) * bestTurn (x - r) (4 * s.reg (Reg.TAL_LINES n))

/-- An input after the comparison by the visible configuration. -/
def State.talCompared (s : State) (n : Fin 16) (t : Tally) (x r : Int) (preset : Bool) : Tally :=
  t.compared (s.reg (Reg.TAL_LIM_LO n)) (s.reg (Reg.TAL_LIM_HI n)) (s.talErr n x r) (s.regN (Reg.TAL_IDX_TOL n))
    (s.bit (Reg.TAL_INVALID_ON n) 1) (decide (s.reg (Reg.TAL_IDX_MODE n) = 2) && !preset)

/-- What a counted mismatch of `e` leaves, in the state after its pulse. -/
def State.talBeyond (s : State) (n : Fin 16) (e : Int) (preset : Bool) : State :=
  if s.regN (Reg.TAL_IDX_TOL n) < e.natAbs then
    (fun u : State => if u.bit (Reg.TAL_INVALID_ON n) 1 then u.talFault n else u) (s.modTal n fun t => { t with beyond := true })
  else if s.reg (Reg.TAL_IDX_MODE n) = 2 && !preset then
    s.modTal n fun t =>
      { t with count := clampI (s.reg (Reg.TAL_LIM_LO n)) (s.reg (Reg.TAL_LIM_HI n)) (t.count - e) }
  else s

/-- An error found at an index edge. -/
def State.talErred (s : State) (n : Fin 16) (e : Int) : State :=
  (s.setReg (Reg.TAL_IDX_ERR n) (clampI (-(2 ^ 31)) (2 ^ 31 - 1) e)).bump (Reg.TAL_IDX_CNT n)

/-- A mismatch counted and raised. -/
def State.talMismatched (s : State) (n : Fin 16) : State :=
  ((s.modTal n fun t => { t with mismatch := true }).bump (Reg.TAL_MISMATCH_CNT n)).pulse (talSrc n 1)

theorem talCompare_eq (s : State) (n : Fin 16) (x r : Int) (preset : Bool) : s.talCompare n x r preset =
    if s.talErr n x r = 0 then s.talErred n (s.talErr n x r)
    else ((s.talErred n (s.talErr n x r)).talMismatched n).talBeyond n (s.talErr n x r) preset := rfl

theorem talBeyond_step (s : State) (n : Fin 16) (e : Int) (preset : Bool) : TalStep n [] s (s.talBeyond n e preset)
    (if s.regN (Reg.TAL_IDX_TOL n) < e.natAbs then
      { s.tal[n] with beyond := true, fault := s.tal[n].fault || s.bit (Reg.TAL_INVALID_ON n) 1 }
    else if (decide (s.reg (Reg.TAL_IDX_MODE n) = 2) && !preset) = true then
      { s.tal[n] with
        count := clampI (s.reg (Reg.TAL_LIM_LO n)) (s.reg (Reg.TAL_LIM_HI n)) (s.tal[n].count - e) }
    else s.tal[n]) := by
  unfold State.talBeyond
  by_cases ht : s.regN (Reg.TAL_IDX_TOL n) < e.natAbs
  · rw [if_pos ht, if_pos ht]
    have hmod := TalStep.modTal n s fun t => { t with beyond := true }
    have hbit : (s.modTal n fun t => { t with beyond := true }).bit (Reg.TAL_INVALID_ON n) 1 =
      s.bit (Reg.TAL_INVALID_ON n) 1 := rfl
    generalize s.modTal n (fun t => { t with beyond := true }) = u at *
    have hjoin := hmod.trans (TalStep.faultIf n u (u.bit (Reg.TAL_INVALID_ON n) 1))
    rw [hmod.self] at hjoin
    dsimp only
    rw [hbit] at hjoin ⊢
    exact hjoin
  · rw [if_neg ht, if_neg ht]
    by_cases hf : (decide (s.reg (Reg.TAL_IDX_MODE n) = 2) && !preset) = true
    · rw [if_pos hf, if_pos hf]
      exact TalStep.modTal n s _
    · rw [if_neg hf, if_neg hf]
      exact TalStep.refl n s

/-- What a comparison leaves. -/
structure TalCompared (n : Fin 16) (s t : State) (x r : Int) (preset : Bool) : Prop where
  step : TalStep n [Reg.TAL_IDX_ERR n, Reg.TAL_IDX_CNT n, Reg.TAL_MISMATCH_CNT n] s t (s.talCompared n s.tal[n] x r preset)
  err : t.reg (Reg.TAL_IDX_ERR n) = clampI (-(2 ^ 31)) (2 ^ 31 - 1) (s.talErr n x r)
  count : t.reg (Reg.TAL_IDX_CNT n) = satInc 32 (s.reg (Reg.TAL_IDX_CNT n))
  mismatch : t.reg (Reg.TAL_MISMATCH_CNT n) = if s.talErr n x r = 0 then s.reg (Reg.TAL_MISMATCH_CNT n)
    else satInc 32 (s.reg (Reg.TAL_MISMATCH_CNT n))

theorem indexKeys (n : Fin 16) : Reg.TAL_IDX_CNT n ≠ Reg.TAL_IDX_ERR n ∧ Reg.TAL_MISMATCH_CNT n ≠ Reg.TAL_IDX_ERR n ∧
    Reg.TAL_MISMATCH_CNT n ≠ Reg.TAL_IDX_CNT n ∧ Reg.TAL_IDX_ERR n ≠ Reg.FC_LOG_LOST ∧ Reg.TAL_IDX_CNT n ≠ Reg.FC_LOG_LOST ∧
    Reg.TAL_MISMATCH_CNT n ≠ Reg.FC_LOG_LOST ∧ Reg.TAL_IDX_RAW n ≠ Reg.FC_LOG_LOST ∧ Reg.TAL_IDX_RAW n ≠ Reg.TAL_IDX_ERR n ∧
    Reg.TAL_IDX_RAW n ≠ Reg.TAL_IDX_CNT n ∧ Reg.TAL_IDX_RAW n ≠ Reg.TAL_MISMATCH_CNT n := by decide +revert

theorem talErred_step (s : State) (n : Fin 16) (e : Int) :
    TalStep n [Reg.TAL_IDX_ERR n, Reg.TAL_IDX_CNT n] s (s.talErred n e) s.tal[n] ∧
    (s.talErred n e).reg (Reg.TAL_IDX_ERR n) = clampI (-(2 ^ 31)) (2 ^ 31 - 1) e ∧
    (s.talErred n e).reg (Reg.TAL_IDX_CNT n) = satInc 32 (s.reg (Reg.TAL_IDX_CNT n)) := by
  obtain ⟨hce, -⟩ := indexKeys n
  unfold State.talErred
  have herr := TalStep.setReg n s (Reg.TAL_IDX_ERR n) (clampI (-(2 ^ 31)) (2 ^ 31 - 1) e)
  have hval := State.reg_setReg s (Reg.TAL_IDX_ERR n) (clampI (-(2 ^ 31)) (2 ^ 31 - 1) e)
  have hkeep : (s.setReg (Reg.TAL_IDX_ERR n) (clampI (-(2 ^ 31)) (2 ^ 31 - 1) e)).reg (Reg.TAL_IDX_CNT n) =
    s.reg (Reg.TAL_IDX_CNT n) := State.reg_setReg_ne s _ hce.symm
  generalize s.setReg (Reg.TAL_IDX_ERR n) (clampI (-(2 ^ 31)) (2 ^ 31 - 1) e) = u at *
  have hcnt := TalStep.setReg n u (Reg.TAL_IDX_CNT n) (satInc 32 (u.reg (Reg.TAL_IDX_CNT n)))
  have hjoin := herr.trans hcnt
  rw [herr.self] at hjoin
  exact ⟨hjoin, (State.reg_bump_ne u hce).trans hval, (State.reg_bump u _).trans (by rw [hkeep])⟩

theorem talMismatched_step (s : State) (n : Fin 16) :
    TalStep n [Reg.TAL_MISMATCH_CNT n] s (s.talMismatched n) { s.tal[n] with mismatch := true } ∧
    (s.talMismatched n).reg (Reg.TAL_MISMATCH_CNT n) = satInc 32 (s.reg (Reg.TAL_MISMATCH_CNT n)) := by
  obtain ⟨-, -, -, -, -, hlost, -⟩ := indexKeys n
  unfold State.talMismatched
  have hmod := TalStep.modTal n s fun t => { t with mismatch := true }
  have hreg : (s.modTal n fun t => { t with mismatch := true }).reg = s.reg := rfl
  generalize s.modTal n (fun t => { t with mismatch := true }) = u at *
  have hcnt := TalStep.setReg n u (Reg.TAL_MISMATCH_CNT n) (satInc 32 (u.reg (Reg.TAL_MISMATCH_CNT n)))
  have hval := State.reg_bump u (Reg.TAL_MISMATCH_CNT n)
  change TalStep n _ u (u.bump (Reg.TAL_MISMATCH_CNT n)) _ at hcnt
  generalize u.bump (Reg.TAL_MISMATCH_CNT n) = v at *
  have hpulse := TalStep.of_raise (n := n) (pulse_frame v (talSrc n 1))
  have hjoin := (hmod.trans hcnt).trans hpulse
  rw [hcnt.self, hmod.self] at hjoin
  exact ⟨hjoin, (hpulse.regs _ List.not_mem_nil hlost).trans (by rw [hval, hreg])⟩

theorem talCompare_compares (s : State) (n : Fin 16) (x r : Int) (preset : Bool) :
    TalCompared n s (s.talCompare n x r preset) x r preset := by
  obtain ⟨-, hme, hmc, herrlost, hcntlost, hmislost, -⟩ := indexKeys n
  rw [talCompare_eq]
  generalize he : s.talErr n x r = e
  obtain ⟨herred, herr, hcnt⟩ := talErred_step s n e
  generalize s.talErred n e = u at *
  have hmis : u.reg (Reg.TAL_MISMATCH_CNT n) = s.reg (Reg.TAL_MISMATCH_CNT n) :=
    herred.regs _ (by simp [hme, hmc]) hmislost
  by_cases h0 : e = 0
  · rw [if_pos h0]
    refine ⟨?_, by rw [he]; exact herr, hcnt, by rw [he, if_pos h0]; exact hmis⟩
    unfold State.talCompared Tally.compared
    rw [he, if_pos h0]
    exact herred.mono (by simp)
  · rw [if_neg h0]
    obtain ⟨hstep, hcount⟩ := talMismatched_step u n
    generalize u.talMismatched n = v at *
    have hbeyond := talBeyond_step v n e preset
    generalize v.talBeyond n e preset = t at *
    have hvall := herred.trans hstep
    have hread : ∀ k ∈ talRead n, v.reg k = s.reg k := fun k hk => hvall.reads (by simp [talIndexed, talCounted]) hk
    have htol : v.regN (Reg.TAL_IDX_TOL n) = s.regN (Reg.TAL_IDX_TOL n) := by
      unfold State.regN
      rw [hread _ (by simp [talRead])]
    have hinv : v.bit (Reg.TAL_INVALID_ON n) 1 = s.bit (Reg.TAL_INVALID_ON n) 1 := by
      unfold State.bit State.regN
      rw [hread _ (by simp [talRead])]
    have hlo := hread (Reg.TAL_LIM_LO n) (by simp [talRead])
    have hhi := hread (Reg.TAL_LIM_HI n) (by simp [talRead])
    have hmode := hread (Reg.TAL_IDX_MODE n) (by simp [talRead])
    have hjoin := hvall.trans hbeyond
    rw [htol, hinv, hlo, hhi, hmode, hstep.self, herred.self] at hjoin
    refine ⟨?_, ?_, ?_, ?_⟩
    · unfold State.talCompared Tally.compared
      rw [he, if_neg h0]
      refine TalStep.mono ?_ (ks := [Reg.TAL_IDX_ERR n, Reg.TAL_IDX_CNT n] ++ [Reg.TAL_MISMATCH_CNT n] ++ []) (by simp)
      exact hjoin
    · rw [he, hbeyond.regs _ List.not_mem_nil herrlost, hstep.regs _ (by simp [hme.symm]) herrlost, herr]
    · rw [hbeyond.regs _ List.not_mem_nil hcntlost, hstep.regs _ (by simp [hmc.symm]) hcntlost, hcnt]
    · rw [he, if_neg h0, hbeyond.regs _ List.not_mem_nil hmislost, hcount, hmis]

end Sys2Proof.Machine
end

section
/-!
PROOFS. The index edge of a Tally sample (R189, R192, R193).
-/

namespace Sys2Proof.Machine

set_option Elab.async false

/-! ### An index edge -/

/-- The place of an index edge: behind a backward step it lies one count further. -/
def Tally.place (t : Tally) : Int := if t.back = some true then t.raw + 1 else t.raw

/-- An input whose armed preset has been loaded. -/
def Tally.preloaded (t : Tally) (v : Int) : Tally := if t.armed then { t with count := v, armed := false } else t

/-- An input after its index edge. -/
def State.talChecked (s : State) (n : Fin 16) : Tally :=
  { (match s.tal[n].xref with
    | some r => s.talCompared n (s.tal[n].preloaded (s.presetVal n)) s.tal[n].place r s.tal[n].armed
    | none => s.tal[n].preloaded (s.presetVal n)) with
    xref := some s.tal[n].place, seen := true }

/-- What the comparison changes of an input. -/
theorem compared_spec (t : Tally) (lo hi e : Int) (tol : Nat) (inv follow : Bool) : ∃ cnt fl,
    t.compared lo hi e tol inv follow = { t with
      count := cnt, mismatch := t.mismatch || decide (e ≠ 0), beyond := t.beyond || decide (tol < e.natAbs ∧ e ≠ 0), fault := fl } ∧
    (t.fault = true → fl = true) ∧ (tol < e.natAbs → e ≠ 0 → inv = true → fl = true) ∧
    cnt = if e ≠ 0 ∧ e.natAbs ≤ tol ∧ follow = true then clampI lo hi (t.count - e) else t.count := by
  unfold Tally.compared
  by_cases h0 : e = 0
  · refine ⟨t.count, t.fault, ?_, id, fun _ h => absurd h0 h, (if_neg fun h => h.1 h0).symm⟩
    rw [if_pos h0, decide_eq_false (not_not.2 h0), decide_eq_false (fun h => h.2 h0), Bool.or_false, Bool.or_false]
  · rw [if_neg h0, decide_eq_true h0, Bool.or_true]
    by_cases ht : tol < e.natAbs
    · refine ⟨t.count, t.fault || inv, ?_, fun hf => by rw [hf, Bool.true_or], fun _ _ hi => by rw [hi, Bool.or_true],
        (if_neg fun h => absurd ht (Nat.not_lt.2 h.2.1)).symm⟩
      rw [if_pos ht, decide_eq_true ⟨ht, h0⟩, Bool.or_true]
    · rw [if_neg ht, decide_eq_false (fun h => ht h.1), Bool.or_false]
      by_cases hf : follow = true
      · exact ⟨clampI lo hi (t.count - e), t.fault, by rw [if_pos hf], id, fun h => absurd h ht,
          (if_pos ⟨h0, Nat.not_lt.1 ht, hf⟩).symm⟩
      · exact ⟨t.count, t.fault, by rw [if_neg hf], id, fun h => absurd h ht, (if_neg fun h => hf h.2.2).symm⟩

/-- What an index edge makes of an input. -/
structure Checked (s : State) (n : Fin 16) (z : Tally) : Prop where
  eq : ∃ cnt mm bb fl, z = { s.tal[n] with
    count := cnt, armed := false, mismatch := mm, beyond := bb, fault := fl, xref := some s.tal[n].place, seen := true }
  fault : s.tal[n].fault = true → z.fault = true
  preload : s.tal[n].armed = true → z.count = s.presetVal n
  first : s.tal[n].xref = none → z.mismatch = s.tal[n].mismatch ∧ z.beyond = s.tal[n].beyond ∧
    (s.tal[n].armed = false → z.count = s.tal[n].count)
  again : ∀ r, s.tal[n].xref = some r → ∀ e, e = s.talErr n s.tal[n].place r →
    z.mismatch = (s.tal[n].mismatch || decide (e ≠ 0)) ∧
    z.beyond = (s.tal[n].beyond || decide (s.regN (Reg.TAL_IDX_TOL n) < e.natAbs ∧ e ≠ 0)) ∧
    (s.regN (Reg.TAL_IDX_TOL n) < e.natAbs → e ≠ 0 → s.bit (Reg.TAL_INVALID_ON n) 1 = true → z.fault = true) ∧
    (s.tal[n].armed = false → z.count =
      if e ≠ 0 ∧ e.natAbs ≤ s.regN (Reg.TAL_IDX_TOL n) ∧ s.reg (Reg.TAL_IDX_MODE n) = 2 then
        clampI (s.reg (Reg.TAL_LIM_LO n)) (s.reg (Reg.TAL_LIM_HI n)) (s.tal[n].count - e)
      else s.tal[n].count)

theorem preloaded_spec (t : Tally) (v : Int) : ∃ cnt, t.preloaded v = { t with count := cnt, armed := false } ∧
    (t.armed = true → cnt = v) ∧ (t.armed = false → cnt = t.count) := by
  unfold Tally.preloaded
  cases ha : t.armed with
  | true => exact ⟨v, if_pos rfl, fun _ => rfl, fun h => absurd h (by decide)⟩
  | false =>
    refine ⟨t.count, (if_neg (by decide)).trans ?_, fun h => absurd h (by decide), fun _ => rfl⟩
    rw [← ha]

theorem talChecked_checked (s : State) (n : Fin 16) : Checked s n (s.talChecked n) := by
  obtain ⟨cnt, hpre, harmed, hfree⟩ := preloaded_spec s.tal[n] (s.presetVal n)
  unfold State.talChecked
  generalize s.tal[n].preloaded (s.presetVal n) = w at *
  cases hx : s.tal[n].xref with
  | none =>
    exact ⟨⟨cnt, s.tal[n].mismatch, s.tal[n].beyond, s.tal[n].fault, by rw [hpre]⟩, fun h => by rw [hpre]; exact h,
      fun h => by rw [hpre]; exact harmed h, fun _ => by rw [hpre]; exact ⟨rfl, rfl, hfree⟩,
      fun r hr => absurd (hx.symm.trans hr) (fun h => nomatch h)⟩
  | some r =>
    obtain ⟨cnt', fl, heq, hfault, hinv, hcnt⟩ := compared_spec w (s.reg (Reg.TAL_LIM_LO n)) (s.reg (Reg.TAL_LIM_HI n))
      (s.talErr n s.tal[n].place r) (s.regN (Reg.TAL_IDX_TOL n)) (s.bit (Reg.TAL_INVALID_ON n) 1)
      (decide (s.reg (Reg.TAL_IDX_MODE n) = 2) && !s.tal[n].armed)
    have hcompared : s.talCompared n w s.tal[n].place r s.tal[n].armed = _ := heq
    have hwcnt : w.count = cnt := by rw [hpre]
    have hwfault : w.fault = s.tal[n].fault := by rw [hpre]
    have hwmm : w.mismatch = s.tal[n].mismatch := by rw [hpre]
    have hwbb : w.beyond = s.tal[n].beyond := by rw [hpre]
    dsimp only
    rw [hcompared]
    rw [hwcnt] at hcnt
    refine ⟨⟨cnt', _, _, fl, by rw [hpre]⟩, fun h => hfault (hwfault.trans h), fun ha => ?_,
      fun hn => absurd (hx.symm.trans hn) (fun h => nomatch h), fun r' hr e he => ?_⟩
    · refine hcnt.trans ((if_neg fun h => ?_).trans (harmed ha))
      rw [ha] at h
      exact absurd h.2.2 (by rw [Bool.not_true, Bool.and_false]; decide)
    · cases hx.symm.trans hr
      subst he
      refine ⟨by rw [← hwmm], by rw [← hwbb], hinv, fun ha => hcnt.trans ?_⟩
      rw [hfree ha, ha, Bool.not_false, Bool.and_true]
      simp only [decide_eq_true_eq]

/-! ### The state after an index edge -/

theorem presetVal_congr {s t : State} {n : Fin 16} (h : ∀ k ∈ talRead n, t.reg k = s.reg k) :
    t.presetVal n = s.presetVal n := by
  unfold State.presetVal
  rw [h _ (by simp [talRead]), h (Reg.TAL_LIM_HI n) (by simp [talRead]), h (Reg.TAL_PRESET_VAL n) (by simp [talRead])]

theorem talErr_congr {s t : State} {n : Fin 16} (h : ∀ k ∈ talRead n, t.reg k = s.reg k) (x r : Int) :
    t.talErr n x r = s.talErr n x r := by
  unfold State.talErr
  rw [h _ (by simp [talRead])]

theorem talCompared_congr {s t : State} {n : Fin 16} (h : ∀ k ∈ talRead n, t.reg k = s.reg k) (y : Tally) (x r : Int) (b : Bool) :
    t.talCompared n y x r b = s.talCompared n y x r b := by
  unfold State.talCompared State.bit State.regN
  rw [talErr_congr h, h (Reg.TAL_LIM_LO n) (by simp [talRead]), h (Reg.TAL_LIM_HI n) (by simp [talRead]),
    h (Reg.TAL_IDX_TOL n) (by simp [talRead]), h (Reg.TAL_INVALID_ON n) (by simp [talRead]),
    h (Reg.TAL_IDX_MODE n) (by simp [talRead])]

/-- What an index edge leaves. -/
structure TalIndexed (n : Fin 16) (s t : State) : Prop where
  step : TalStep n (talIndexed n) s t (s.talChecked n)
  raw : t.reg (Reg.TAL_IDX_RAW n) = s.tal[n].place
  first : s.tal[n].xref = none → t.reg (Reg.TAL_IDX_CNT n) = s.reg (Reg.TAL_IDX_CNT n)
  again : ∀ r, s.tal[n].xref = some r → t.reg (Reg.TAL_IDX_CNT n) = satInc 32 (s.reg (Reg.TAL_IDX_CNT n)) ∧
    t.reg (Reg.TAL_IDX_ERR n) = clampI (-(2 ^ 31)) (2 ^ 31 - 1) (s.talErr n s.tal[n].place r) ∧
    t.reg (Reg.TAL_MISMATCH_CNT n) = if s.talErr n s.tal[n].place r = 0 then s.reg (Reg.TAL_MISMATCH_CNT n)
      else satInc 32 (s.reg (Reg.TAL_MISMATCH_CNT n))

/-- The armed preset loaded at an index edge. -/
def State.talLoaded (s : State) (n : Fin 16) (v : Int) (armed : Bool) : State :=
  if armed then s.modTal n fun t => { t with count := v, armed := false } else s

theorem talIndex_eq (s : State) (n : Fin 16) : s.talIndex n =
    (match s.tal[n].xref with
    | some r => ((s.setReg (Reg.TAL_IDX_RAW n) s.tal[n].place).talLoaded n
        ((s.setReg (Reg.TAL_IDX_RAW n) s.tal[n].place).presetVal n) s.tal[n].armed).talCompare n s.tal[n].place r s.tal[n].armed
    | none => (s.setReg (Reg.TAL_IDX_RAW n) s.tal[n].place).talLoaded n
        ((s.setReg (Reg.TAL_IDX_RAW n) s.tal[n].place).presetVal n) s.tal[n].armed).modTal n
      fun t => { t with xref := some s.tal[n].place, seen := true } := rfl

theorem talLoaded_step (s : State) (n : Fin 16) (v : Int) :
    TalStep n [] s (s.talLoaded n v s.tal[n].armed) (s.tal[n].preloaded v) ∧ (s.talLoaded n v s.tal[n].armed).reg = s.reg := by
  unfold State.talLoaded Tally.preloaded
  cases s.tal[n].armed with
  | true => exact ⟨TalStep.modTal n s _, rfl⟩
  | false => exact ⟨TalStep.refl n s, rfl⟩

theorem talIndex_indexes (s : State) (n : Fin 16) : TalIndexed n s (s.talIndex n) := by
  obtain ⟨-, -, -, -, -, -, hrawlost, hre, hrc, hrm⟩ := indexKeys n
  rw [talIndex_eq]
  have hset := TalStep.setReg n s (Reg.TAL_IDX_RAW n) s.tal[n].place
  have hval := State.reg_setReg s (Reg.TAL_IDX_RAW n) s.tal[n].place
  have hother : ∀ k, Reg.TAL_IDX_RAW n ≠ k → (s.setReg (Reg.TAL_IDX_RAW n) s.tal[n].place).reg k = s.reg k :=
    fun k hk => State.reg_setReg_ne s _ hk
  generalize s.setReg (Reg.TAL_IDX_RAW n) s.tal[n].place = u at *
  have huread : ∀ k ∈ talRead n, u.reg k = s.reg k := fun k hk => hset.reads (by simp [talIndexed]) hk
  rw [presetVal_congr huread, ← hset.self]
  obtain ⟨hload, hlreg⟩ := talLoaded_step u n (s.presetVal n)
  have hwread : ∀ k ∈ talRead n, (u.talLoaded n (s.presetVal n) u.tal[n].armed).reg k = s.reg k := fun k hk => by
    rw [hlreg]
    exact huread k hk
  generalize u.talLoaded n (s.presetVal n) u.tal[n].armed = w at *
  rw [hset.self] at *
  have hsub : ∀ k ∈ talIndexed n, k ∈ talIndexed n := fun _ h => h
  cases hx : s.tal[n].xref with
  | none =>
    dsimp only
    have hfinal := TalStep.modTal n w fun t => { t with xref := some s.tal[n].place, seen := true }
    have hjoin := (hset.trans hload).trans hfinal
    rw [hload.self] at hjoin
    have hwreg : (w.modTal n fun t => { t with xref := some s.tal[n].place, seen := true }).reg = u.reg := hlreg
    refine ⟨TalStep.mono (ks := [Reg.TAL_IDX_RAW n] ++ [] ++ []) ?_ (by simp [talIndexed]), by rw [hwreg, hval],
      fun _ => by rw [hwreg, hother _ hrc], fun r hr => absurd (hx.symm.trans hr) (fun h => nomatch h)⟩
    unfold State.talChecked
    rw [hx]
    exact hjoin
  | some r =>
    dsimp only
    obtain ⟨hcmp, herr, hcnt, hmis⟩ := talCompare_compares w n s.tal[n].place r s.tal[n].armed
    rw [talErr_congr hwread] at herr hmis
    rw [talCompared_congr hwread, hload.self] at hcmp
    rw [hlreg] at hcnt hmis
    generalize w.talCompare n s.tal[n].place r s.tal[n].armed = v at *
    have hfinal := TalStep.modTal n v fun t => { t with xref := some s.tal[n].place, seen := true }
    have hjoin := ((hset.trans hload).trans hcmp).trans hfinal
    rw [hcmp.self] at hjoin
    have hvreg : (v.modTal n fun t => { t with xref := some s.tal[n].place, seen := true }).reg = v.reg := rfl
    refine ⟨TalStep.mono (ks := [Reg.TAL_IDX_RAW n] ++ [] ++ [Reg.TAL_IDX_ERR n, Reg.TAL_IDX_CNT n, Reg.TAL_MISMATCH_CNT n] ++ [])
      ?_ (by simp [talIndexed]), ?_, fun hn => absurd (hx.symm.trans hn) (fun h => nomatch h), fun r' hr => ?_⟩
    · unfold State.talChecked
      rw [hx]
      exact hjoin
    · rw [hvreg, hcmp.regs _ (by simp [hre, hrc, hrm]) hrawlost, hlreg, hval]
    · cases hx.symm.trans hr
      rw [hother _ hrc] at hcnt
      rw [hother _ hrm] at hmis
      exact ⟨by rw [hvreg, hcnt], by rw [hvreg, herr], by rw [hvreg, hmis]⟩

end Sys2Proof.Machine
end

section
/-!
PROOFS. TAL_SAMPLE (R183 to R195).
-/

namespace Sys2Proof.Machine

set_option Elab.async false

/-! ### The sample as a whole -/

/-- An input whose lines have been clocked. -/
def Tally.clocked (t : Tally) (div : Int) (f : Nat) (a b z : Bool) : Tally :=
  { t with div := div, a := t.a.clock f a, b := t.b.clock f b, z := t.z.clock f z }

/-- The state in which a sample's lines have been clocked. -/
def State.talClocked (s : State) (n : Fin 16) (a b z : Bool) : State :=
  s.modTal n fun t => t.clocked (s.divOut n) (s.regN (Reg.TAL_FILT n)) a b z

/-- What a sample decodes. -/
def State.talCode (s : State) (n : Fin 16) (a b : Bool) : Decoded :=
  decodeAb s.tal[n].a.level s.tal[n].b.level (s.tal[n].a.clock (s.regN (Reg.TAL_FILT n)) a).level
    (s.tal[n].b.clock (s.regN (Reg.TAL_FILT n)) b).level (s.flag (Reg.TAL_DIR n))

/-- Whether the sample is an index edge, with the direction `back`. -/
def State.talEdgeAt (s : State) (n : Fin 16) (z : Bool) (back : Option Bool) : Bool :=
  decide (s.reg (Reg.TAL_IDX_MODE n) ≠ 0) && indexEdge (s.tal[n].z.level ^^ s.flag (Reg.TAL_Z_POL n))
    ((s.tal[n].z.clock (s.regN (Reg.TAL_FILT n)) z).level ^^ s.flag (Reg.TAL_Z_POL n)) back

/-- The index check of a sample, where it is an index edge. -/
def State.talEdged (s : State) (n : Fin 16) (edge : Bool) : State := if edge then s.talIndex n else s

/-- A pending preset takes effect. -/
def State.talPreset (s : State) (n : Fin 16) : State :=
  if s.tal[n].preset.isSome then s.modTal n fun t => { t with count := s.presetVal n, preset := none } else s

/-- An input whose pending preset has taken effect. -/
def Tally.presetTo (t : Tally) (v : Int) : Tally := if t.preset.isSome then { t with count := v, preset := none } else t

theorem talPreset_step (s : State) (n : Fin 16) :
    TalStep n [] s (s.talPreset n) (s.tal[n].presetTo (s.presetVal n)) ∧ (s.talPreset n).reg = s.reg ∧
    (s.tal[n].preset = none → s.talPreset n = s) := by
  unfold State.talPreset Tally.presetTo
  cases s.tal[n].preset with
  | none => exact ⟨TalStep.refl n s, rfl, fun _ => rfl⟩
  | some p => exact ⟨TalStep.modTal n s _, rfl, fun h => nomatch h⟩

theorem presetTo_spec (t : Tally) (v : Int) : (∃ cnt p, t.presetTo v = { t with count := cnt, preset := p }) ∧
    (t.preset.isSome = true → (t.presetTo v).count = v ∧ (t.presetTo v).preset = none) ∧
    (t.preset = none → (t.presetTo v).count = t.count) := by
  unfold Tally.presetTo
  cases h : t.preset with
  | none => exact ⟨⟨t.count, none, (if_neg (by decide)).trans (by rw [← h])⟩, fun h => absurd h (by decide), fun _ => rfl⟩
  | some p => exact ⟨⟨v, none, rfl⟩, fun _ => ⟨rfl, rfl⟩, fun h => nomatch h⟩

/-- An input after the index check of a sample. -/
def State.talEdgedTo (s : State) (n : Fin 16) (edge : Bool) : Tally := if edge then s.talChecked n else s.tal[n]

theorem talEdged_step (s : State) (n : Fin 16) (edge : Bool) :
    TalStep n (talIndexed n) s (s.talEdged n edge) (s.talEdgedTo n edge) := by
  cases edge with
  | true => exact (talIndex_indexes s n).step
  | false => exact (TalStep.refl n s).mono (List.nil_subset _)

theorem talClocked_step (s : State) (n : Fin 16) (a b z : Bool) : TalStep n [] s (s.talClocked n a b z)
    (s.tal[n].clocked (s.divOut n) (s.regN (Reg.TAL_FILT n)) a b z) := TalStep.modTal n s _

theorem talSample_eq (s : State) (n : Fin 16) (a b z : Bool) {s1 : State}
    (h1 : s1 = (s.talClocked n a b z).talDecoded n (s.talCode n a b))
    (hread : ∀ k ∈ talRead n, s1.reg k = s.reg k) :
    s.talSample n a b z = (s1.talEdged n (s.talEdgeAt n z s1.tal[n].back)).talPreset n := by
  have hcode : decodeAb s.tal[n].a.level s.tal[n].b.level (s.talClocked n a b z).tal[n].a.level
      (s.talClocked n a b z).tal[n].b.level ((s.talClocked n a b z).flag (Reg.TAL_DIR n)) = s.talCode n a b := by
    rw [(talClocked_step s n a b z).self]
    rfl
  have hlevel : (s.talClocked n a b z).tal[n].z.level = (s.tal[n].z.clock (s.regN (Reg.TAL_FILT n)) z).level := by
    rw [(talClocked_step s n a b z).self]
    rfl
  have hsample : s.talSample n a b z = ((fun v : State => v.talEdged n (decide (v.reg (Reg.TAL_IDX_MODE n) ≠ 0) &&
      indexEdge (s.tal[n].z.level ^^ v.flag (Reg.TAL_Z_POL n))
        ((s.talClocked n a b z).tal[n].z.level ^^ v.flag (Reg.TAL_Z_POL n)) v.tal[n].back))
      ((s.talClocked n a b z).talDecoded n (decodeAb s.tal[n].a.level s.tal[n].b.level (s.talClocked n a b z).tal[n].a.level
      (s.talClocked n a b z).tal[n].b.level ((s.talClocked n a b z).flag (Reg.TAL_DIR n))))).talPreset n := rfl
  rw [hsample, hcode, hlevel, ← h1]
  dsimp only
  unfold State.talEdgeAt State.flag
  rw [hread (Reg.TAL_IDX_MODE n) (by simp [talRead]), hread (Reg.TAL_Z_POL n) (by simp [talRead])]

end Sys2Proof.Machine
end

section
/-!
PROOFS. What a Tally sample leaves (R183 to R195).
-/

namespace Sys2Proof.Machine

set_option Elab.async false

/-- What a sample that decodes `d` leaves: `s1` is the decoded state, `u` the input after its index check. -/
structure TalSampled (n : Fin 16) (s s1 t : State) (x u : Tally) (d : Decoded) (edge : Bool) : Prop where
  others : ∀ m, m ≠ n → t.tal[m] = s.tal[m]
  parts : t.time = s.time ∧ t.port = s.port ∧ t.kelvin = s.kelvin ∧ t.tq = s.tq
  self : t.tal[n] = u.presetTo (s.presetVal n)
  reads : ∀ k ∈ talRead n, s1.reg k = s.reg k
  kept : TalKept x s1.tal[n]
  raw : s1.tal[n].raw = if d.shift = 0 then s.tal[n].raw else wrapS 64 (s.tal[n].raw + d.shift)
  back : s1.tal[n].back = d.back s.tal[n].back
  count : s1.tal[n].count = if d.shift = 0 then s.tal[n].count else
    (s.tal[n].countStep (s.reg (Reg.TAL_LIM_LO n)) (s.reg (Reg.TAL_LIM_HI n)) d.shift).count
  stood : d = .none → t.reg (Reg.TAL_EDGE_TIME n) = s.reg (Reg.TAL_EDGE_TIME n)
  idle : d = .none → edge = false → s.tal[n].preset = none → s.Calm → t = { s with tal := t.tal }
  stepped : ∀ k, d = .step k → t.reg (Reg.TAL_EDGE_TIME n) = s.talEdge n
  illegal : d = .illegal → s1.tal[n].illegal = true ∧ s1.tal[n].hist = [] ∧
    (s.bit (Reg.TAL_INVALID_ON n) 0 = true → s1.tal[n].fault = true) ∧
    t.reg (Reg.TAL_ILLEGAL_CNT n) = satInc 32 (s.reg (Reg.TAL_ILLEGAL_CNT n))
  unchecked : edge = false → u = s1.tal[n] ∧ t.reg (Reg.TAL_IDX_CNT n) = s.reg (Reg.TAL_IDX_CNT n)
  checked : edge = true → Checked s1 n u ∧ t.reg (Reg.TAL_IDX_RAW n) = s1.tal[n].place ∧
    (s1.tal[n].xref = none → t.reg (Reg.TAL_IDX_CNT n) = s.reg (Reg.TAL_IDX_CNT n)) ∧
    ∀ r, s1.tal[n].xref = some r → t.reg (Reg.TAL_IDX_CNT n) = satInc 32 (s.reg (Reg.TAL_IDX_CNT n)) ∧
      t.reg (Reg.TAL_IDX_ERR n) = clampI (-(2 ^ 31)) (2 ^ 31 - 1) (s1.talErr n s1.tal[n].place r) ∧
      t.reg (Reg.TAL_MISMATCH_CNT n) = if s1.talErr n s1.tal[n].place r = 0 then s.reg (Reg.TAL_MISMATCH_CNT n)
        else satInc 32 (s.reg (Reg.TAL_MISMATCH_CNT n))

theorem sampleKeys (n : Fin 16) : Reg.TAL_EDGE_TIME n ∉ talIndexed n ∧ Reg.TAL_ILLEGAL_CNT n ∉ talIndexed n ∧
    Reg.TAL_IDX_CNT n ∉ talCounted n ∧ Reg.TAL_MISMATCH_CNT n ∉ talCounted n ∧ Reg.TAL_EDGE_TIME n ≠ Reg.FC_LOG_LOST ∧
    Reg.TAL_ILLEGAL_CNT n ≠ Reg.FC_LOG_LOST ∧ Reg.TAL_IDX_CNT n ≠ Reg.FC_LOG_LOST ∧
    Reg.TAL_MISMATCH_CNT n ≠ Reg.FC_LOG_LOST := by decide +revert

/-- The counter after a step depends on the counter alone. -/
theorem countStep_count {t u : Tally} (h : t.count = u.count) (lo hi k : Int) :
    (t.countStep lo hi k).count = (u.countStep lo hi k).count := by
  unfold Tally.countStep
  dsimp only
  rw [h]
  by_cases h1 : hi < u.count + k
  · rw [if_pos h1, if_pos h1]
  · rw [if_neg h1, if_neg h1]
    by_cases h2 : u.count + k < lo
    · rw [if_pos h2, if_pos h2]
    · rw [if_neg h2, if_neg h2]

theorem talSample_sampled {n : Fin 16} {a b z : Bool} {s : State} (ha : s.alive = true)
    (hen : s.flag (Reg.TAL_ENABLE n) = true) : ∃ s1 t u, exec (.talSample n a b z) s = .next t ∧
    TalSampled n s s1 t (s.tal[n].clocked (s.divOut n) (s.regN (Reg.TAL_FILT n)) a b z) u (s.talCode n a b)
      (s.talEdgeAt n z ((s.talCode n a b).back s.tal[n].back)) := by
  obtain ⟨hetime, heill, hccnt, hcmis, htlost, hilost, hclost, hmlost⟩ := sampleKeys n
  have hfault := (talKeys_nodup n).2.2
  have hexec : exec (.talSample n a b z) s = done (s.talSample n a b z) := if_pos (by rw [ha, hen]; rfl)
  have heq := talSample_eq s n a b z rfl
  have hd : ∀ k, s.talCode n a b = .step k → k ≠ 0 := fun k hk => decodeAb_step hk
  generalize s.talCode n a b = d at *
  have hclock := talClocked_step s n a b z
  have hcreg : (s.talClocked n a b z).reg = s.reg := rfl
  have hcedge : (s.talClocked n a b z).talEdge n = s.talEdge n := rfl
  have hcparts : s.talClocked n a b z = { s with tal := (s.talClocked n a b z).tal } := rfl
  obtain ⟨x, hx⟩ : ∃ x, x = s.tal[n].clocked (s.divOut n) (s.regN (Reg.TAL_FILT n)) a b z := ⟨_, rfl⟩
  have hxraw : x.raw = s.tal[n].raw := by rw [hx]; rfl
  have hxback : x.back = s.tal[n].back := by rw [hx]; rfl
  have hxcount : x.count = s.tal[n].count := by rw [hx]; rfl
  have hxpreset : x.preset = s.tal[n].preset := by rw [hx]; rfl
  have hxstep : ∀ lo hi k : Int, (x.countStep lo hi k).count = (s.tal[n].countStep lo hi k).count := fun lo hi k =>
    countStep_count hxcount lo hi k
  rw [← hx] at hclock ⊢
  clear hx
  generalize s.talClocked n a b z = s0 at *
  obtain ⟨y, hy⟩ := talDecoded_decoded s0 n hd
  generalize s0.talDecoded n d = s1 at *
  have hjoin := hclock.trans hy.step
  have hreads : ∀ k ∈ talRead n, s1.reg k = s.reg k := fun k hk =>
    hjoin.reads (by rw [List.nil_append]; exact List.subset_append_left _ _) hk
  rw [heq hreads] at hexec
  obtain ⟨hstep, hkept, hraw, hback, hcount, hnone, hedge, hill⟩ := hy
  have hy1 := hstep.self
  subst hy1
  rw [hclock.self] at hkept hraw hback hcount
  rw [hxraw] at hraw
  rw [hxback] at hback
  rw [hcreg, hxcount, hxstep] at hcount
  rw [hback] at hexec
  generalize s.talEdgeAt n z (d.back s.tal[n].back) = edge at *
  have hedged := talEdged_step s1 n edge
  have hcheck : edge = true → Checked s1 n (s1.talEdgedTo n edge) ∧ TalIndexed n s1 (s1.talEdged n edge) := fun h => by
    subst h
    exact ⟨talChecked_checked s1 n, talIndex_indexes s1 n⟩
  have hplain : edge = false → s1.talEdgedTo n edge = s1.tal[n] ∧ s1.talEdged n edge = s1 := fun h => by
    subst h
    exact ⟨rfl, rfl⟩
  generalize s1.talEdged n edge = s2 at *
  generalize s1.talEdgedTo n edge = u at *
  have h2reads : ∀ k ∈ talRead n, s2.reg k = s.reg k := fun k hk =>
    ((hedged.reads (List.subset_append_right _ _) hk)).trans (hreads k hk)
  obtain ⟨hpre, hpreg, hpnone⟩ := talPreset_step s2 n
  rw [hedged.self, presetVal_congr h2reads] at hpre
  have hu2 : s2.tal[n] = u := hedged.self
  generalize s2.talPreset n = s3 at *
  have hall := (hjoin.trans hedged).trans hpre
  have hsafe := (settled_safe s3).1
  have htreg : ∀ k, faultReg k = false → s3.settled.reg k = s2.reg k := fun k hk => by rw [hsafe.reg k hk, hpreg]
  have hfr : ∀ k ∈ talCounted n ++ talIndexed n, faultReg k = false := fun k hk =>
    hfault k (by rw [List.append_assoc]; exact List.mem_append_right _ hk)
  have hftime := hfr (Reg.TAL_EDGE_TIME n) (by simp [talCounted])
  have hfill := hfr (Reg.TAL_ILLEGAL_CNT n) (by simp [talCounted])
  have hfraw := hfr (Reg.TAL_IDX_RAW n) (by simp [talIndexed])
  have hferr := hfr (Reg.TAL_IDX_ERR n) (by simp [talIndexed])
  have hfcnt := hfr (Reg.TAL_IDX_CNT n) (by simp [talIndexed])
  have hfmis := hfr (Reg.TAL_MISMATCH_CNT n) (by simp [talIndexed])
  have hcnt1 : s1.reg (Reg.TAL_IDX_CNT n) = s.reg (Reg.TAL_IDX_CNT n) := by rw [hstep.regs _ hccnt hclost, hcreg]
  have hmis1 : s1.reg (Reg.TAL_MISMATCH_CNT n) = s.reg (Reg.TAL_MISMATCH_CNT n) := by rw [hstep.regs _ hcmis hmlost, hcreg]
  refine ⟨s1, s3.settled, u, hexec, ?_⟩
  refine ⟨fun m hm => by rw [hsafe.tal]; exact hall.others m hm, ⟨?_, ?_, ?_, ?_⟩, by rw [hsafe.tal]; exact hpre.self, hreads,
    hkept, hraw, hback, hcount, fun hn => ?_, fun hn he hp c => ?_, fun k hk => ?_, fun hi => ?_, fun he => ?_, fun he => ?_⟩
  · exact hsafe.time.trans hall.frame.time
  · exact hsafe.port.trans hall.frame.port
  · exact hsafe.kelvin.trans hall.frame.kelvin
  · exact hsafe.tq.trans hall.frame.tq
  · rw [htreg _ hftime, hedged.regs _ hetime htlost, hnone hn, hcreg]
  · have h10 := hnone hn
    obtain ⟨hu, h21⟩ := hplain he
    have hp2 : s2.tal[n].preset = none := by rw [hu2, hu, hkept.preset, hxpreset, hp]
    have h32 := hpnone hp2
    rw [h32, h21, h10, settled_quiet (by rw [hcparts]; exact c.1)]
    exact hcparts
  · rw [htreg _ hftime, hedged.regs _ hetime htlost, hedge k hk, hcedge]
  · obtain ⟨h1, h2, h3, h4⟩ := hill hi
    refine ⟨h1, h2, fun hb => h3 ?_, by rw [htreg _ hfill, hedged.regs _ heill hilost, h4, hcreg]⟩
    rw [hcparts]
    exact hb
  · obtain ⟨hu, h21⟩ := hplain he
    exact ⟨hu, by rw [htreg _ hfcnt, h21, hcnt1]⟩
  · obtain ⟨hchecked, hindexed⟩ := hcheck he
    refine ⟨hchecked, by rw [htreg _ hfraw, hindexed.raw], fun hr => by rw [htreg _ hfcnt, hindexed.first hr, hcnt1],
      fun r hr => ?_⟩
    obtain ⟨hc, herr, hm⟩ := hindexed.again r hr
    rw [hcnt1] at hc
    rw [hmis1] at hm
    exact ⟨by rw [htreg _ hfcnt, hc], by rw [htreg _ hferr, herr], by rw [htreg _ hfmis, hm]⟩

end Sys2Proof.Machine
end

section
/-!
PROOFS. The statement on Tally samples.
-/

namespace Sys2Proof.Machine

set_option Elab.async false

/-- What an input's index check and preset leave of its decoding. -/
structure TalEnded (x w : Tally) : Prop where
  a : w.a = x.a
  b : w.b = x.b
  z : w.z = x.z
  div : w.div = x.div
  raw : w.raw = x.raw
  back : w.back = x.back
  illegal : w.illegal = x.illegal
  hist : w.hist = x.hist
  preset : w.preset = x.preset
  fault : x.fault = true → w.fault = true

theorem TalSampled.ended {n : Fin 16} {s s1 t : State} {x u : Tally} {d : Decoded} {edge : Bool}
    (h : TalSampled n s s1 t x u d edge) : TalEnded s1.tal[n] u := by
  cases hedge : edge with
  | false =>
    rw [(h.unchecked hedge).1]
    exact ⟨rfl, rfl, rfl, rfl, rfl, rfl, rfl, rfl, rfl, id⟩
  | true =>
    have hchecked := (h.checked hedge).1
    have hfault := hchecked.fault
    obtain ⟨cnt, mm, bb, fl, heq⟩ := hchecked.eq
    subst heq
    exact ⟨rfl, rfl, rfl, rfl, rfl, rfl, rfl, rfl, rfl, hfault⟩

/-- The index check by the mode of R192: none while it is off. -/
theorem talEdgeAt_off {s : State} {n : Fin 16} (h : s.reg (Reg.TAL_IDX_MODE n) = 0) (z : Bool) (back : Option Bool) :
    s.talEdgeAt n z back = false := by
  unfold State.talEdgeAt
  rw [decide_eq_false (not_not.2 h), Bool.false_and]

theorem talEdge_eq (s : State) (n : Fin 16) : s.talEdge n =
    Int.ofNat (s.timeNow - BitVec.ofNat 32 ((s.regN (Reg.TAL_FILT n) + 1) * 4)).toNat := rfl

/-- Settles O38: clocked lines, the decoded step, the index check against the reference, and the pending preset, in the
order of R187. -/
theorem tallySamplesDecodeAndCount : Obligations.TallySamplesDecodeAndCount := by
  intro n a b z s d c ha hen hd
  obtain ⟨s1, t, u, hexec, h⟩ := talSample_sampled (a := a) (b := b) (z := z) ha hen
  have hcode : s.talCode n a b = d := hd.symm
  rw [hcode] at h
  obtain ⟨x, hx⟩ : ∃ x, x = s.tal[n].clocked (s.divOut n) (s.regN (Reg.TAL_FILT n)) a b z := ⟨_, rfl⟩
  rw [← hx] at h
  have hend := h.ended
  have hkept := h.kept
  obtain ⟨⟨wcnt, wp, hw⟩, hpsome, hpnone⟩ := presetTo_spec u (s.presetVal n)
  have hself := h.self
  obtain ⟨htime, hport, hkelvin, htq⟩ := h.parts
  have hupreset : u.preset = s.tal[n].preset := by rw [hend.preset, hkept.preset, hx]; rfl
  have hcountNone : s.tal[n].preset = none → t.tal[n].count = u.count := fun hp => by
    rw [hself]
    exact hpnone (hupreset.trans hp)
  have hmodeCount : s.reg (Reg.TAL_IDX_MODE n) = 0 → s.tal[n].preset = none → t.tal[n].count = s1.tal[n].count :=
    fun hm hp => by rw [hcountNone hp, (h.unchecked (talEdgeAt_off hm _ _)).1]
  have hraw : t.tal[n].raw = s1.tal[n].raw := by rw [hself, hw]; exact hend.raw
  refine ⟨t, hexec, h.others, ?_, ?_, ?_, ?_, htime, hport, hkelvin, htq, fun hp => ?_, fun hn => ⟨?_, h.stood hn⟩,
    fun hn hm hp => ⟨h.idle hn (talEdgeAt_off hm _ _) hp c, ?_⟩, fun k hk => ⟨?_, ?_, ?_, fun hm hp => ?_⟩,
    fun hi => ?_, fun k hk back hback edge hedge raw hrawd y hy cn hcn => ?_⟩
  · rw [hself, hw]
    exact hend.a.trans (hkept.a.trans (by rw [hx]; rfl))
  · rw [hself, hw]
    exact hend.b.trans (hkept.b.trans (by rw [hx]; rfl))
  · rw [hself, hw]
    exact hend.z.trans (hkept.z.trans (by rw [hx]; rfl))
  · rw [hself, hw]
    exact hend.div.trans (hkept.div.trans (by rw [hx]; rfl))
  · rw [hself]
    exact hpsome (by rw [hupreset]; exact hp)
  · rw [hraw, h.raw, hn]
    exact if_pos rfl
  · rw [hmodeCount hm hp, h.count, hn]
    exact if_pos rfl
  · have hk0 : k ≠ 0 := decodeAb_step (hcode.trans hk)
    rw [hraw, h.raw, hk]
    exact if_neg hk0
  · rw [hself, hw]
    refine hend.back.trans ?_
    rw [h.back, hk]
    rfl
  · rw [h.stepped k hk, talEdge_eq]
  · have hk0 : k ≠ 0 := decodeAb_step (hcode.trans hk)
    rw [hmodeCount hm hp, h.count, hk]
    exact if_neg hk0
  · obtain ⟨hill, hhist, hfault, hcount⟩ := h.illegal hi
    refine ⟨?_, ?_, ?_, hcount, fun hb => ?_⟩
    · rw [hraw, h.raw, hi]
      exact if_pos rfl
    · rw [hself, hw]
      exact hend.illegal.trans hill
    · rw [hself, hw]
      exact hend.hist.trans hhist
    · rw [hself, hw]
      exact hend.fault (hfault hb)
  · have hk' : k = d.shift := hk
    have hback' : back = d.back s.tal[n].back := hback
    have hedge' : edge = s.talEdgeAt n z back := hedge
    rw [← hback', ← hedge'] at h
    rw [hk', ← h.raw] at hrawd
    rw [hback', ← h.back, hrawd] at hy
    rw [hk'] at hcn
    have hplace : s1.tal[n].place = y := hy.symm
    have hcn' : s1.tal[n].count = cn := h.count.trans hcn.symm
    have hxref : s1.tal[n].xref = s.tal[n].xref := by rw [hkept.xref, hx]; rfl
    have hseen : s1.tal[n].seen = s.tal[n].seen := by rw [hkept.seen, hx]; rfl
    have harmed : s1.tal[n].armed = s.tal[n].armed := by rw [hkept.armed, hx]; rfl
    have hmm : s1.tal[n].mismatch = s.tal[n].mismatch := by rw [hkept.mismatch, hx]; rfl
    have hbb : s1.tal[n].beyond = s.tal[n].beyond := by rw [hkept.beyond, hx]; rfl
    have hpreset : s1.presetVal n = s.presetVal n := presetVal_congr h.reads
    have htol : s1.regN (Reg.TAL_IDX_TOL n) = s.regN (Reg.TAL_IDX_TOL n) := by
      unfold State.regN
      rw [h.reads _ (by simp [talRead])]
    have hinv : s1.bit (Reg.TAL_INVALID_ON n) 1 = s.bit (Reg.TAL_INVALID_ON n) 1 := by
      unfold State.bit State.regN
      rw [h.reads _ (by simp [talRead])]
    refine ⟨fun he => ?_, fun he => ?_⟩
    · obtain ⟨hu, hcnt⟩ := h.unchecked he
      rw [hself, hw]
      refine ⟨?_, ?_, ?_, hcnt, fun hp => ?_⟩
      · rw [hu]
        exact hxref
      · rw [hu]
        exact hseen
      · rw [hu]
        exact harmed
      · have hcount := hcountNone hp
        rw [hself, hw, hu, hcn'] at hcount
        exact hcount
    · obtain ⟨hchecked, hidx, hfirst, hagain⟩ := h.checked he
      obtain ⟨_, _, _, _, hzeq⟩ := hchecked.eq
      rw [hplace] at hidx
      rw [hxref] at hfirst hagain
      have hcheckFirst := hchecked.first
      have hcheckAgain := hchecked.again
      have hpreload := hchecked.preload
      rw [hxref] at hcheckFirst hcheckAgain
      rw [harmed, hmm, hbb, hcn'] at hcheckFirst
      have hcntP : s.tal[n].armed = true → t.tal[n].count = s.presetVal n := fun hr => by
        cases hp : s.tal[n].preset with
        | none => rw [hcountNone hp, hpreload (harmed.trans hr), hpreset]
        | some p =>
          rw [hself]
          exact (hpsome (by rw [hupreset, hp]; rfl)).1
      have hmmw : t.tal[n].mismatch = u.mismatch := by rw [hself, hw]
      have hbbw : t.tal[n].beyond = u.beyond := by rw [hself, hw]
      have hflw : t.tal[n].fault = u.fault := by rw [hself, hw]
      refine ⟨?_, ?_, ?_, hidx, hcntP, fun hn => ?_, fun r hr e hee => ?_⟩
      · rw [hself, hw, hzeq, hplace]
      · rw [hself, hw, hzeq]
      · rw [hself, hw, hzeq]
      · obtain ⟨h1, h2, h3⟩ := hcheckFirst hn
        exact ⟨by rw [hmmw, h1], by rw [hbbw, h2], hfirst hn, fun hr hp => by rw [hcountNone hp, h3 hr]⟩
      · have herr : s1.talErr n s1.tal[n].place r = e := by rw [talErr_congr h.reads, hplace, hee]; rfl
        obtain ⟨h1, h2, h3⟩ := hagain r hr
        obtain ⟨g1, g2, g3, g4⟩ := hcheckAgain r hr e herr.symm
        rw [herr] at h2 h3
        rw [hmm] at g1
        rw [hbb, htol] at g2
        rw [htol, hinv] at g3
        rw [harmed, htol, hcn', h.reads (Reg.TAL_IDX_MODE n) (by simp [talRead]), h.reads (Reg.TAL_LIM_LO n) (by simp [talRead]),
          h.reads (Reg.TAL_LIM_HI n) (by simp [talRead])] at g4
        exact ⟨h1, h2, by rw [hmmw, g1], by rw [hbbw, g2], h3, fun ht h0 hi => by rw [hflw]; exact g3 ht h0 hi,
          fun hr hp => by rw [hcountNone hp, g4 hr]⟩

end Sys2Proof.Machine
end

section
/-!
PROOFS. What a DEVICE-SAFE entry leaves of the lanes: their seeds and averages, and the samples that a test has injected.
-/

namespace Sys2Proof.Machine

set_option Elab.async false

/-! ### The lanes through an entry (R207) -/

/-- The lanes' seeds and averages, and the samples that each test has injected. -/
def State.laneView (s : State) : Vector Front 16 × Vector Nat 16 := (s.front, s.ch.map fun c => c.inj.n)

theorem injected_get (s : State) (n : ChId) : (s.ch.map fun c => c.inj.n)[n] = s.ch[n].inj.n := Vector.getElem_map _ n.isLt

theorem raise_laneView {s t u : State} (h : RaiseFrame t u) (ht : t.laneView = s.laneView) : u.laneView = s.laneView := by
  rw [← ht]
  unfold State.laneView
  rw [h.front, h.ch]

/-- A test that ends, or is to end, has injected what it has. -/
theorem modInj_laneView (s : State) (n : ChId) {f : Inject → Inject} (hf : ∀ j, (f j).n = j.n) :
    (s.modCh n fun c => { c with inj := f c.inj }).laneView = s.laneView := by
  refine Prod.ext rfl (Vector.ext fun i hi => ?_)
  have h := injected_get (s.modCh n fun c => { c with inj := f c.inj }) ⟨i, hi⟩
  refine h.trans (Eq.trans ?_ (injected_get s ⟨i, hi⟩).symm)
  by_cases hin : (⟨i, hi⟩ : ChId) = n
  · rw [hin, modCh_self]
    exact hf _
  · rw [modCh_ne s _ hin]

theorem each_laneView {α : Type} {f : State → α → State} (h : ∀ s a, (f s a).laneView = s.laneView) (l : List α) (s : State) :
    (s.each l f).laneView = s.laneView := by
  induction l generalizing s with
  | nil => rfl
  | cons a l ih => exact (ih (f s a)).trans (h s a)

theorem ite_laneView {p : Prop} [Decidable p] {s t u : State} (ht : t.laneView = s.laneView) (hu : u.laneView = s.laneView) :
    (if p then t else u).laneView = s.laneView := by
  split <;> assumption

theorem abortTest_laneView (s : State) (n : ChId) (r : Nat) : (s.abortTest n r).laneView = s.laneView := by
  unfold State.abortTest
  split
  · rw [schedWithdraw_chan]
    exact modInj_laneView s n (f := fun j => { j with state := .aborted }) fun _ => rfl
  · exact ite_laneView rfl (modInj_laneView s n (f := fun j => { j with stopping := some (true, r) }) fun _ => rfl)
  · rfl

theorem abortTests_laneView (s : State) (r : Nat) : (s.abortTests r).laneView = s.laneView :=
  each_laneView (fun t n => ite_laneView rfl (abortTest_laneView t n r)) _ s

theorem abortRun_laneView (s : State) (n : ChId) (d : Nat) : (s.abortRun n d).laneView = s.laneView := by
  have hend : (s.endRun n 5 d).laneView = s.laneView := raise_laneView (endRun_ends s n 5 d).frame rfl
  unfold State.abortRun
  split
  · exact hend
  · exact hend
  · exact hend
  · exact hend
  · rfl

theorem abortRuns_laneView (s : State) (b : Bool) : (s.abortRuns b).laneView = s.laneView :=
  each_laneView (fun t n => ite_laneView (abortRun_laneView t n 4) (ite_laneView (abortRun_laneView t n 4) rfl)) _ s

theorem setSeat_laneView (s : State) (x : SeatState) : (s.setSeat x).laneView = s.laneView := by
  unfold State.setSeat
  exact ite_laneView rfl (raise_laneView (logKind_frame _ _ _ _) rfl)

theorem endAttempt_laneView (s : State) (x : SeatState) : (s.endAttempt x).laneView = s.laneView := by
  unfold State.endAttempt
  exact ite_laneView (raise_laneView (pulse_frame _ _) (setSeat_laneView s x)) (setSeat_laneView s x)

theorem sendRelease_laneView (s : State) : s.sendRelease.laneView = s.laneView := by
  refine each_laneView (fun t k => ?_) _ s
  exact ite_laneView rfl rfl

theorem releaseClaim_laneView (s : State) (x : SeatState) : (s.releaseClaim x).laneView = s.laneView := by
  unfold State.releaseClaim
  exact ite_laneView
    (raise_laneView (showOutputs_frame _) ((setSeat_laneView _ x).trans (sendRelease_laneView s)))
    ((endAttempt_laneView _ x).trans (sendRelease_laneView s))

theorem setDebug_laneView (s : State) (v r p : Nat) : (s.setDebug v r p).laneView = s.laneView := by
  unfold State.setDebug
  extract_lets old u w
  have hw : w.laneView = s.laneView :=
    ite_laneView (raise_laneView (raise_frame _ _) rfl) (raise_laneView (gone_frame _ _) rfl)
  exact ite_laneView rfl (raise_laneView (logKind_frame _ _ _ _) hw)

theorem leaveService_laneView (s : State) (r p : Nat) : (s.leaveService r p).laneView = s.laneView := by
  unfold State.leaveService State.dropForces
  refine ite_laneView ((setDebug_laneView _ _ _ _).trans (raise_laneView (releaseScopes_frame _) ?_)) rfl
  refine each_laneView (fun t id => ?_) _ s
  exact ite_laneView (raise_laneView ((setSrc_frame _ _ _).trans (dropSrc_frame _ _)) rfl) rfl

theorem leaveRun_laneView (s : State) (x : SeatState) : (s.leaveRun x).laneView = s.laneView := by
  unfold State.leaveRun
  exact releaseClaim_laneView s x

theorem enterSafe_laneView (s : State) (r p : Nat) : (s.enterDev .safe r p).laneView = s.laneView := by
  unfold State.enterDev
  extract_lets old at_ a b c d e f
  have hb : b.laneView = s.laneView := raise_laneView (t := a) (logKind_frame a _ _ _) rfl
  clear_value b
  have hc : c.laneView = b.laneView := ite_laneView (leaveRun_laneView b _) rfl
  clear_value c
  have hd : d.laneView = c.laneView := abortTests_laneView c 3
  clear_value d
  have he : e.laneView = d.laneView := ite_laneView (leaveService_laneView d _ _) rfl
  clear_value e
  have hf : f.laneView = e.laneView := abortRuns_laneView e _
  have hchanged : f.laneView = s.laneView := hf.trans (he.trans (hd.trans (hc.trans hb)))
  clear_value f
  rw [if_neg (show ¬ DevState.safe = DevState.run by decide)]
  exact ite_laneView rfl hchanged

theorem holdExciters_laneView (s : State) : s.holdExciters.laneView = s.laneView := by
  refine each_laneView (fun t e => ?_) _ s
  exact ite_laneView (raise_laneView (gone_frame _ _) rfl) rfl

theorem safeEntry_laneView (s : State) : s.safeEntry.laneView = s.laneView := by
  unfold State.safeEntry
  refine ite_laneView rfl (ite_laneView rfl ?_)
  exact raise_laneView (showOutputs_frame _) ((holdExciters_laneView _).trans ((setSeat_laneView _ _).trans
    ((enterSafe_laneView _ _ _).trans (releaseClaim_laneView _ _))))

/-- The end of a command leaves the lanes as the command has left them. -/
theorem settled_laneView (s : State) : s.settled.laneView = s.laneView := by
  unfold State.settled
  exact ite_laneView (safeEntry_laneView s) rfl

end Sys2Proof.Machine
end

section
/-!
PROOFS. What follows a sample's output record leaves the sample's channel, the other channels and the rest of the device
as they stand (R19, R25, R58, R91, R125, R165, R173).
-/

namespace Sys2Proof.Machine

set_option Elab.async false

/-! ### A channel that stands -/

/-- The seed and the phase averages of a channel. -/
def Front.seeds (f : Front) : Settle × Int × Int × Nat := (f.settle, f.betaQ, f.betaI, f.betaN)

/-- The runs of a channel's monitors. -/
def Watch.runs (w : Watch) : Nat × Nat × Nat := (w.trkRun, w.velRun, w.accRun)

/-- Between `s` and `t` time, carriers, Tally inputs, ports, and every channel's loop, state and record stand, and channel
`n`'s seed, averages, runs and discards do. -/
structure Rests (n : ChId) (s t : State) : Prop where
  time : t.time = s.time
  kelvin : t.kelvin = s.kelvin
  tal : t.tal = s.tal
  store : t.store = s.store
  port : t.port = s.port
  chan : ∀ m : ChId, t.ch[m].loop = s.ch[m].loop ∧ t.ch[m].state = s.ch[m].state ∧ t.ch[m].out = s.ch[m].out
  injected : t.ch[n].inj.n = s.ch[n].inj.n
  seeds : t.front[n].seeds = s.front[n].seeds
  runs : t.watch[n].runs = s.watch[n].runs
  discards : t.reg (Reg.CH_DISCARD_CNT n) = s.reg (Reg.CH_DISCARD_CNT n)

theorem Rests.refl (n : ChId) (s : State) : Rests n s s := ⟨rfl, rfl, rfl, rfl, rfl, fun _ => ⟨rfl, rfl, rfl⟩, rfl, rfl, rfl, rfl⟩

theorem Rests.trans {n : ChId} {s t u : State} (h : Rests n s t) (g : Rests n t u) : Rests n s u where
  time := g.time.trans h.time
  kelvin := g.kelvin.trans h.kelvin
  tal := g.tal.trans h.tal
  store := g.store.trans h.store
  port := g.port.trans h.port
  chan m := by
    obtain ⟨hl, hs, ho⟩ := h.chan m
    obtain ⟨gl, gs, go⟩ := g.chan m
    exact ⟨gl.trans hl, gs.trans hs, go.trans ho⟩
  injected := g.injected.trans h.injected
  seeds := g.seeds.trans h.seeds
  runs := g.runs.trans h.runs
  discards := g.discards.trans h.discards

/-- The count of discarded samples is moved by no fault and by no output. -/
theorem discardKey (n : ChId) : faultReg (Reg.CH_DISCARD_CNT n) = false ∧ Reg.FC_LOG_LOST ≠ Reg.CH_DISCARD_CNT n := by
  decide +revert

/-- A change of parts that the frame does not speak of. -/
theorem Rests.of_parts {n : ChId} {s t : State} (htime : t.time = s.time := by rfl) (hkelvin : t.kelvin = s.kelvin := by rfl)
    (htal : t.tal = s.tal := by rfl) (hstore : t.store = s.store := by rfl) (hport : t.port = s.port := by rfl)
    (hch : t.ch = s.ch := by rfl) (hfront : t.front[n].seeds = s.front[n].seeds := by rfl)
    (hwatch : t.watch = s.watch := by rfl) (hregs : t.regs = s.regs := by rfl) : Rests n s t where
  time := htime
  kelvin := hkelvin
  tal := htal
  store := hstore
  port := hport
  chan m := by rw [hch]; exact ⟨rfl, rfl, rfl⟩
  injected := by rw [hch]
  seeds := hfront
  runs := by rw [hwatch]
  discards := by unfold State.reg; rw [hregs]

theorem Rests.of_raise {n : ChId} {s t : State} (h : RaiseFrame s t) : Rests n s t where
  time := h.time
  kelvin := h.kelvin
  tal := h.tal
  store := h.store
  port := h.port
  chan m := by rw [h.ch]; exact ⟨rfl, rfl, rfl⟩
  injected := by rw [h.ch]
  seeds := by rw [h.front]
  runs := by rw [h.watch]
  discards := h.reg _ (discardKey n).2.symm

theorem Rests.of_setReg (n : ChId) (s : State) {k : Key} (v : Int) (hk : k ≠ Reg.CH_DISCARD_CNT n) :
    Rests n s (s.setReg k v) :=
  { Rests.refl n s with
    time := rfl, kelvin := rfl, tal := rfl, store := rfl, port := rfl, chan := fun _ => ⟨rfl, rfl, rfl⟩, injected := rfl
    seeds := rfl, runs := rfl, discards := State.reg_setReg_ne s v hk }

/-- A change of the channel `m` beside its loop, its state, its record and its test. -/
theorem Rests.of_modCh (n : ChId) (s : State) (m : ChId) {f : Chan → Chan}
    (hf : ∀ c, (f c).loop = c.loop ∧ (f c).state = c.state ∧ (f c).out = c.out ∧ (f c).inj.n = c.inj.n) :
    Rests n s (s.modCh m f) where
  time := rfl
  kelvin := rfl
  tal := rfl
  store := rfl
  port := rfl
  chan k := by
    by_cases hk : k = m
    · obtain ⟨hl, hs, ho, -⟩ := hf s.ch[m]
      rw [hk, modCh_self]
      exact ⟨hl, hs, ho⟩
    · rw [modCh_ne s f hk]
      exact ⟨rfl, rfl, rfl⟩
  injected := by
    by_cases hk : n = m
    · rw [hk, modCh_self]
      exact (hf _).2.2.2
    · rw [modCh_ne s f hk]
  seeds := rfl
  runs := rfl
  discards := rfl

theorem Rests.of_modFront (n : ChId) (s : State) (m : ChId) {f : Front → Front} (hf : ∀ x, (f x).seeds = x.seeds) :
    Rests n s (s.modFront m f) := by
  refine Rests.of_parts (hfront := ?_)
  by_cases hk : n = m
  · rw [hk, modFront_self]
    exact hf _
  · rw [modFront_ne s f hk]

theorem Rests.of_modWatch (n : ChId) (s : State) (m : ChId) {f : Watch → Watch} (hf : ∀ x, (f x).runs = x.runs) :
    Rests n s (s.modWatch m f) :=
  { Rests.refl n s with
    time := rfl, kelvin := rfl, tal := rfl, store := rfl, port := rfl, chan := fun _ => ⟨rfl, rfl, rfl⟩, injected := rfl
    seeds := rfl, discards := rfl
    runs := by
      by_cases hk : n = m
      · rw [hk, modWatch_self]
        exact hf _
      · rw [modWatch_ne s f hk] }

section
variable {n : ChId} {s t : State} (h : Rests n s t)
include h

theorem Rests.raised {u : State} (g : RaiseFrame t u) : Rests n s u := h.trans (.of_raise g)

theorem Rests.setReg {k : Key} (v : Int) (hk : k ≠ Reg.CH_DISCARD_CNT n) : Rests n s (t.setReg k v) := h.trans (.of_setReg n t v hk)

theorem Rests.bump {k : Key} (hk : k ≠ Reg.CH_DISCARD_CNT n) : Rests n s (t.bump k) := h.setReg _ hk

theorem Rests.ite {c : Prop} [Decidable c] {u : State} (g : Rests n s u) : Rests n s (if c then t else u) := by
  split
  · exact h
  · exact g

theorem Rests.each {α : Type} (l : List α) {f : State → α → State} (hf : ∀ u a, Rests n s u → Rests n s (f u a)) :
    Rests n s (t.each l f) := by
  induction l generalizing t with
  | nil => exact h
  | cons a l ih => exact ih (hf t a h)

end

/-! ### The end of the command -/

theorem chan_of_testless {s t : State} (h : t.testless = s.testless) (m : ChId) :
    t.ch[m].loop = s.ch[m].loop ∧ t.ch[m].state = s.ch[m].state ∧ t.ch[m].out = s.ch[m].out := by
  have hm : t.testless[m] = s.testless[m] := by rw [h]
  rw [testless_get, testless_get] at hm
  generalize t.ch[m] = c at *
  generalize s.ch[m] = d at *
  exact ⟨(congrArg Chan.loop hm :), (congrArg Chan.state hm :), (congrArg Chan.out hm :)⟩

theorem Rests.settled (n : ChId) (s : State) : Rests n s s.settled := by
  obtain ⟨hsafe, -⟩ := settled_safe s
  have hview := settled_laneView s
  have htest : s.settled.testless = s.testless := congrArg Prod.snd ((offView_untouched n).settled (t := s) rfl)
  refine ⟨hsafe.time, hsafe.kelvin, hsafe.tal, hsafe.store, hsafe.port, chan_of_testless htest, ?_, ?_, by rw [hsafe.watch],
    hsafe.reg _ (discardKey n).1⟩
  · have hinj := congrArg (fun v : Vector Front 16 × Vector Nat 16 => v.2[n]) hview
    exact (injected_get s.settled n).symm.trans (hinj.trans (injected_get s n))
  · exact congrArg (fun v : Vector Front 16 × Vector Nat 16 => v.1[n].seeds) hview

end Sys2Proof.Machine
end

section
/-!
PROOFS. The steps of a sample that follow its output record (R19, R25, R58, R80, R91, R100, R125, R165, R173).
-/

namespace Sys2Proof.Machine

set_option Elab.async false

section
variable {n : ChId} {s t : State} (h : Rests n s t)
include h

/-! ### Raised sources -/

theorem Rests.satRaise : Rests n s (t.satRaise n) := by
  unfold State.satRaise
  extract_lets c u v
  have hu : Rests n s u := (h.raised (raise_frame _ _)).ite h
  have hv : Rests n s v := (hu.raised (raise_frame _ _)).ite hu
  exact (hv.raised (raise_frame _ _)).ite hv

theorem Rests.monSources (st : ChState) (m : Vector Bool 13) : Rests n s (t.monSources n st m) := by
  unfold State.monSources
  extract_lets u v w x
  have hu : Rests n s u := h.raised (((level_frame _ _ _).trans (level_frame _ _ _)).trans (level_frame _ _ _))
  have hv : Rests n s v := hu.raised (((level_frame _ _ _).trans (level_frame _ _ _)).trans (level_frame _ _ _))
  have hw : Rests n s w := (hv.raised (gone_frame _ _)).ite hv
  have hx : Rests n s x := hw.ite (hw.raised (gone_frame _ _))
  exact hx.ite (hx.raised (gone_frame _ _))

theorem Rests.sampleSources (st : ChState) (m : Vector Bool 13) (stepped wrapped : Bool) :
    Rests n s (t.sampleSources n st m stepped wrapped) := by
  unfold State.sampleSources
  extract_lets u v
  have hu : Rests n s u := (h.raised (pulse_frame _ _)).ite h
  exact (hu.satRaise.ite hu).monSources st m

/-! ### The SCD codes (R58, R124, R145) -/

theorem Rests.modFront (m : ChId) (f : Front → Front) (hf : ∀ x, (f x).seeds = x.seeds := by exact fun _ => rfl) :
    Rests n s (t.modFront m f) :=
  h.trans (.of_modFront n t m hf)

theorem Rests.modWatch (m : ChId) (f : Watch → Watch) (hf : ∀ x, (f x).runs = x.runs := by exact fun _ => rfl) :
    Rests n s (t.modWatch m f) :=
  h.trans (.of_modWatch n t m hf)

theorem Rests.modCh (m : ChId) (f : Chan → Chan)
    (hf : ∀ c, (f c).loop = c.loop ∧ (f c).state = c.state ∧ (f c).out = c.out ∧ (f c).inj.n = c.inj.n := by
      exact fun _ => ⟨rfl, rfl, rfl, rfl⟩) :
    Rests n s (t.modCh m f) := h.trans (.of_modCh n t m hf)

omit h in
theorem scdKeys (n : ChId) : Reg.CH_SCD_CODE_SIN n ≠ Reg.CH_DISCARD_CNT n ∧ Reg.CH_SCD_CODE_COS n ≠ Reg.CH_DISCARD_CNT n ∧
    Reg.CH_SCD_CLAMP_CNT n ≠ Reg.CH_DISCARD_CNT n ∧ Reg.BT_ECC_UE_CNT ≠ Reg.CH_DISCARD_CNT n := by decide +revert

theorem Rests.beadUe (k : Nat) : Rests n s (t.beadUe n k) := by
  obtain ⟨-, -, -, hkey⟩ := scdKeys n
  unfold State.beadUe
  have hraise := (h.bump hkey).raised (raise_frame _ (chSrc n 18))
  generalize (t.bump Reg.BT_ECC_UE_CNT).raise (chSrc n 18) = u at *
  refine hraise.trans ?_
  rw [(reloadRow_parts u n k).1]
  exact .of_parts

theorem Rests.beadUes {α : Type} (f : α → Nat) (l : List α) : Rests n s (l.foldl (fun s x => s.beadUe n (f x)) t) :=
  h.each l (f := fun s x => s.beadUe n (f x)) fun _ x hu => hu.beadUe (f x)

theorem Rests.scdWrite (th : BitVec 32) : Rests n s (t.scdWrite n th) := by
  obtain ⟨hsin, hcos, hclamp, -⟩ := scdKeys n
  unfold State.scdWrite
  extract_lets fr u bad on cs cc
  have hu : Rests n s u := (h.setReg _ hsin).setReg _ hcos
  clear_value u
  split
  extract_lets w
  have hw : Rests n s w := (hu.setReg _ hclamp).modFront n _
  exact (hw.beadUes _ _).ite hw

/-! ### Observations and the capture (R90 to R92, R125 to R128) -/

theorem Rests.modCal (f : Cal → Cal) (m : ChId) : Rests n s (t.modCal m f) := h.trans .of_parts

theorem Rests.calPause (m : ChId) (r : Nat) : Rests n s (t.calPause m r) := by
  unfold State.calPause
  exact (h.modCal _ m).ite h

/-- A sample of a run that gathers or pauses (R125, R128). -/
theorem Rests.observed (m : ChId) (bad : Option Nat) (used : Bool) (angle : Int) (o : Obs) : Rests n s
    (match bad with
      | some r => t.calPause m r
      | none => (if used && t.noProbe m then t.modCal m fun c => c.observe angle o else t).modCal m fun c =>
          { c with winN := c.winN + 1 }) := by
  split
  · exact h.calPause m _
  · exact ((h.modCal _ m).ite h).modCal _ m

theorem Rests.calSample (m : ChId) (used : Bool) (v a angle : Int) (o : Obs) : Rests n s (t.calSample m used v a angle o) := by
  unfold State.calSample
  dsimp only
  split
  · exact ((h.modCal _ m).observed m _ used angle o).ite (h.modCal _ m)
  · exact ((h.modCal _ m).observed m _ used angle o).ite (h.modCal _ m)
  · exact h

theorem Rests.capSample (m : ChId) (first : Bool) (t0 : Time32) (r : Bytes) : Rests n s (t.capSample m first t0 r) := by
  unfold State.capSample
  extract_lets c hit u k full v
  have hu : Rests n s u := (h.raised (capTrigger_frame t)).ite h
  have hv : Rests n s v := hu.modFront m _
  clear_value v
  exact h.ite ((hv.trans .of_parts).ite hv)

theorem Rests.capRec (first injects : Bool) (inj : Int) : Rests n s (t.capRec n first injects inj) := h.capSample n first _ _

/-! ### The frame, and the outputs that follow the sample (R19, R25, R165 to R175) -/

theorem Rests.frameSample (m : ChId) : Rests n s (t.frameSample m) := by
  unfold State.frameSample
  extract_lets u v
  have hu : Rests n s u := h.modFront m _
  have hv : Rests n s v := hu.trans .of_parts
  clear_value u v
  refine Rests.ite (hv.each _ fun w k hw => ?_) hu
  exact (hw.modCh k _).modFront k _

omit h in
theorem outputKeys (n : ChId) (m : Fin 16) : Reg.EMU_FLAGS m ≠ Reg.CH_DISCARD_CNT n ∧ Reg.EMU_CU_CNT m ≠ Reg.CH_DISCARD_CNT n ∧
    Reg.PSW_TOGGLE_CNT m ≠ Reg.CH_DISCARD_CNT n := by decide +revert

theorem Rests.modEmu (m : Fin 16) (f : Emu → Emu) : Rests n s (t.modEmu m f) := h.raised (modEmu_frame t m f)

theorem Rests.modPsw (m : Fin 16) (f : Psw → Psw) : Rests n s (t.modPsw m f) := h.raised (modPsw_frame t m f)

theorem Rests.emuRun (m : Fin 16) (period : Nat) (was : Int) : Rests n s (t.emuRun m period was) := by
  obtain ⟨hflags, hcnt, -⟩ := outputKeys n m
  unfold State.emuRun
  extract_lets e late u v ct
  have hu : Rests n s u := (h.setReg _ hflags).ite h
  have hv : Rests n s v := hu.raised (level_frame _ _ _)
  clear_value u v
  split
  extract_lets w
  have hw : Rests n s w := (hv.bump hcnt).ite hv
  clear_value w
  exact (hw.modEmu m _).modEmu m _

theorem Rests.emuResume (m : Fin 16) : Rests n s (t.emuResume m) := by
  unfold State.emuResume
  have hmod := h.modEmu m fun e => { e with valid := true }
  exact (((hmod.modEmu m _).ite hmod).modEmu m _).modEmu m _

theorem Rests.emuRelease (m : Fin 16) (period : Nat) : Rests n s (t.emuRelease m period) := by
  unfold State.emuRelease
  extract_lets was u v w
  have hu : Rests n s u := h.modEmu m _
  have hv : Rests n s v := hu.modEmu m _
  have hw : Rests n s w := hv.ite (hv.emuResume m)
  clear_value u v w
  exact hv.ite (((hv.modEmu m _).modEmu m _).ite (hw.ite (((hw.modEmu m _).modEmu m _).ite (hw.emuRun m _ _))))

theorem Rests.emuSample (k : ChId) : Rests n s (t.emuSample k) := by
  unfold State.emuSample
  exact h.each _ fun _ m hu => ((hu.modEmu m _).emuRelease m _).ite hu

theorem Rests.pswEval (m : Fin 16) (p : Int) (valid : Bool) : Rests n s (t.pswEval m p valid) := by
  obtain ⟨-, -, htoggle⟩ := outputKeys n m
  unfold State.pswEval
  exact ((h.modPsw m _).modPsw m _).ite ((((h.bump htoggle).ite h).modPsw m _).modPsw m _)

theorem Rests.pswSample (k : ChId) : Rests n s (t.pswSample k) := by
  unfold State.pswSample
  exact h.each _ fun _ m hu => (hu.pswEval m _ _).ite hu

/-- What follows the sample itself. -/
theorem Rests.release (k : ChId) : Rests n s (((t.frameSample k).emuSample k).pswSample k) :=
  ((h.frameSample k).emuSample k).pswSample k

end

end Sys2Proof.Machine
end

section
/-!
PROOFS. A sample of a channel that is on, taken apart at its lane step, its monitors and its output record (R76, R97 to
R101, R154).
-/

namespace Sys2Proof.Machine

set_option Elab.async false

/-! ### What a sample is told by -/

/-- What a sample's statement says of its channel. -/
structure LaneView where
  loop : Loop
  state : ChState
  out : OutRec
  injected : Nat
  seeds : Settle × Int × Int × Nat
  runs : Nat × Nat × Nat
  discards : Int

/-- What is seen of channel `n`. -/
def State.laneSeen (s : State) (n : ChId) : LaneView where
  loop := s.ch[n].loop
  state := s.ch[n].state
  out := s.ch[n].out
  injected := s.ch[n].inj.n
  seeds := s.front[n].seeds
  runs := s.watch[n].runs
  discards := s.reg (Reg.CH_DISCARD_CNT n)

/-- What a sample of channel `n` leaves beside that channel. -/
structure Beside (n : ChId) (s t : State) : Prop where
  time : t.time = s.time
  kelvin : t.kelvin = s.kelvin
  tal : t.tal = s.tal
  store : t.store = s.store
  port : t.port = s.port
  others : ∀ m : ChId, m ≠ n → t.ch[m].loop = s.ch[m].loop ∧ t.ch[m].state = s.ch[m].state ∧ t.ch[m].out = s.ch[m].out

theorem Beside.refl (n : ChId) (s : State) : Beside n s s := ⟨rfl, rfl, rfl, rfl, rfl, fun _ _ => ⟨rfl, rfl, rfl⟩⟩

theorem Beside.trans {n : ChId} {s t u : State} (h : Beside n s t) (g : Beside n t u) : Beside n s u where
  time := g.time.trans h.time
  kelvin := g.kelvin.trans h.kelvin
  tal := g.tal.trans h.tal
  store := g.store.trans h.store
  port := g.port.trans h.port
  others m hm := by
    obtain ⟨hl, hs, ho⟩ := h.others m hm
    obtain ⟨gl, gs, go⟩ := g.others m hm
    exact ⟨gl.trans hl, gs.trans hs, go.trans ho⟩

theorem Rests.beside {n : ChId} {s t : State} (h : Rests n s t) : Beside n s t :=
  ⟨h.time, h.kelvin, h.tal, h.store, h.port, fun m _ => h.chan m⟩

theorem Rests.laneSeen {n : ChId} {s t : State} (h : Rests n s t) : t.laneSeen n = s.laneSeen n := by
  obtain ⟨hl, hs, ho⟩ := h.chan n
  unfold State.laneSeen
  rw [hl, hs, ho, h.injected, h.seeds, h.runs, h.discards]

/-- The channel's own data, its seeds, its monitors' memory and some registers change, and nothing beside. -/
theorem Beside.of_parts {n : ChId} {s t : State} (hch : ∀ m, m ≠ n → t.ch[m] = s.ch[m] := by exact fun _ _ => rfl)
    (htime : t.time = s.time := by rfl) (hkelvin : t.kelvin = s.kelvin := by rfl) (htal : t.tal = s.tal := by rfl)
    (hstore : t.store = s.store := by rfl) (hport : t.port = s.port := by rfl) : Beside n s t :=
  ⟨htime, hkelvin, htal, hstore, hport, fun m hm => by rw [hch m hm]; exact ⟨rfl, rfl, rfl⟩⟩

/-! ### The parts of a sample -/

/-- The sample boundary's work (R88, R115, R245). -/
def State.boundary (s : State) (n : ChId) : State := ((s.injBoundary n).homeNow n).alignNow n

/-- The sample with its hatband and its activity noted (R100, R101). -/
def State.heard (s : State) (n : ChId) (xs xc : BitVec 16) : State := (s.hbSample n).1.modWatch n fun w => w.activity xs xc

/-- The hatband discards the sample (R101). -/
def State.discards (s : State) (n : ChId) : Bool := (s.hbSample n).2.1

/-- The lane accepts the sample (R97, R101). -/
def State.accepts (s : State) (n : ChId) (discard : Bool) : Bool := s.normalState n && !discard

/-- A loop test injects into the sample (R86). -/
def State.injects (s : State) (n : ChId) (accepted : Bool) : Bool := accepted && s.ch[n].inj.state = .running

/-- The value that a sample injects. -/
def State.injected (s : State) (n : ChId) (accepted : Bool) : Int := if s.injects n accepted then s.ch[n].inj.value else 0

/-- The marks of a lane step: the sticky bits, the loop that it has left, the test's next value (R80, R86, R242). -/
def State.marked (s : State) (n : ChId) (sticky injects : Bool) : State :=
  let s := if sticky then s.satSticky n else s
  let s := s.modCh n fun c => { c with outLoop := c.loop }
  if injects then s.modCh n fun c => { c with inj := c.inj.next } else s

/-- The sample in seed, window and averages (R75, R100, R109). -/
def State.gathered (s : State) (n : ChId) (d : Demod) (discard averages : Bool) : State :=
  let s := s.settleSample n d discard
  let s := if s.stepped n then s.pushWin n d else s
  if averages then s.modFront n fun f => f.betaSample d else s

/-- The carrier checks count the sample (R104). -/
def State.checksCounted (s : State) (n : ChId) : State :=
  s.modWatch n fun w =>
    { w with check1 := w.check1.map fun c => { c with samples := c.samples + 1 }
             check2 := w.check2.map fun c => { c with samples := c.samples + 1 } }

/-- The output record and the coast budget (R106, R154). -/
def State.recorded (s : State) (n : ChId) (discard : Bool) (l : Loop) : State :=
  (s.modCh n fun c => { c with out := s.outRecord n (!s.stepped n) discard l.th l.carry }).budget n

/-- The sample up to its marks, in state `w` with the sample heard and demodulated as `d`, for a channel in state `st`. -/
def State.lanePart (w : State) (n : ChId) (st : ChState) (d : Demod) (discard : Bool) : State :=
  let accepted := w.accepts n discard
  ((w.laneStep n accepted d.e (w.injected n accepted)).1.marked n (w.stepped n && st = .track)
    (w.injects n accepted)).gathered n d discard (accepted && st = .track)

/-- The sample's monitors and the transitions that they bring (R98 to R100). -/
def State.movePart (s : State) (n : ChId) (st : ChState) (hs hc discard accepted : Bool) : State :=
  ((s.monitors n st hs hc discard).checksCounted n).sampleMoves n st discard accepted

/-- The halves of the hatband that trip. -/
def State.trips (s : State) (n : ChId) : Bool × Bool := (s.hbSample n).2.2

/-- A heard sample of a channel in state `st`, up to its transitions. -/
def State.sampleMoved (u w : State) (n : ChId) (st : ChState) (d : Demod) : State :=
  (w.lanePart n st d (u.discards n)).movePart n st (u.trips n).1 (u.trips n).2 (u.discards n) (w.accepts n (u.discards n))

/-- A sample after the work of its boundary, up to its record. -/
def State.laneSample (u : State) (n : ChId) (xs xc : BitVec 16) : State :=
  let w := u.heard n xs xc
  (u.sampleMoved w n u.ch[n].state (w.demod n xs xc)).recorded n (u.discards n) w.ch[n].loop

/-- A sample whose hatband and lane step are known. -/
theorem laneSample_eq {u a w b : State} {n : ChId} {xs xc : BitVec 16} {discard hs hc wrapped : Bool}
    (hh : u.hbSample n = (a, discard, hs, hc)) (hw : w = a.modWatch n fun w => w.activity xs xc)
    (hstep : w.laneStep n (w.accepts n discard) (w.demod n xs xc).e (w.injected n (w.accepts n discard)) = (b, wrapped)) :
    u.laneSample n xs xc =
      ((((b.marked n (w.stepped n && u.ch[n].state = .track) (w.injects n (w.accepts n discard))).gathered n
        (w.demod n xs xc) discard (w.accepts n discard && u.ch[n].state = .track)).movePart n u.ch[n].state hs hc discard
          (w.accepts n discard)).recorded n discard w.ch[n].loop) := by
  unfold State.laneSample State.sampleMoved State.lanePart State.heard State.discards State.trips
  rw [hh]
  dsimp only
  rw [← hw, hstep]

/-- A sample ends as its record has left it: sources, SCD codes, observation and capture follow (R19, R58, R91, R125). -/
theorem sampleOn_rests (s : State) (n : ChId) (xs xc : BitVec 16) :
    Rests n ((s.boundary n).laneSample n ((s.boundary n).codeS n xs) ((s.boundary n).codeC n xc)) (s.sampleOn n xs xc) := by
  unfold State.sampleOn
  extract_lets u ys yc st
  rw [show s.boundary n = u from rfl]
  split
  next a discard hs hc hh =>
    extract_lets w d l obs accepted stepped injects first inj
    split
    next b wrapped hstep =>
      extract_lets _ _ _ _ _ _ _ _ _ _ _ _ recorded
      have hrecorded : u.laneSample n ys yc = recorded := laneSample_eq hh rfl hstep
      rw [hrecorded]
      exact ((((Rests.refl n recorded).sampleSources _ _ _ _).scdWrite _).calSample n _ _ _ _ _).capRec _ _ _

end Sys2Proof.Machine
end

section
/-!
PROOFS. The lane step of a sample, with its marks, its seed and its averages (R75 to R77, R86, R101, R109, R110).
-/

namespace Sys2Proof.Machine

set_option Elab.async false

/-! ### What the parts up to the monitors leave -/

/-- The registers that a sample may have moved before its monitors. -/
def laneMoved (n : ChId) : List Key := [Reg.CH_INJ_ABORT n, Reg.CH_DISCARD_CNT n, Reg.CH_CARRY_WRAP n]

/-- Between `s` and `t` the sample has left what is beside its channel, the exciters, the supplies and the configuration. -/
structure Early (n : ChId) (s t : State) : Prop where
  beside : Beside n s t
  exc : t.exc = s.exc
  sup : t.sup = s.sup
  regs : s.SameRegs t (laneMoved n)

theorem Early.trans {n : ChId} {s t u : State} (h : Early n s t) (g : Early n t u) : Early n s u :=
  ⟨h.beside.trans g.beside, g.exc.trans h.exc, g.sup.trans h.sup, fun k hk => (g.regs k hk).trans (h.regs k hk)⟩

theorem Early.refl (n : ChId) (s : State) : Early n s s := ⟨.refl n s, rfl, rfl, fun _ _ => rfl⟩

theorem Early.modCh (n : ChId) (s : State) (f : Chan → Chan) : Early n s (s.modCh n f) :=
  ⟨.of_parts fun _ hm => modCh_ne s f hm, rfl, rfl, fun _ _ => rfl⟩

theorem Early.modFront (n : ChId) (s : State) (f : Front → Front) : Early n s (s.modFront n f) :=
  ⟨.of_parts, rfl, rfl, fun _ _ => rfl⟩

theorem Early.modWatch (n : ChId) (s : State) (f : Watch → Watch) : Early n s (s.modWatch n f) :=
  ⟨.of_parts, rfl, rfl, fun _ _ => rfl⟩

theorem Early.setReg (n : ChId) (s : State) {k : Key} (v : Int) (hk : k ∈ laneMoved n) : Early n s (s.setReg k v) :=
  ⟨.of_parts, rfl, rfl, fun _ hj => State.reg_setReg_ne s v fun e => hj (e ▸ hk)⟩

theorem Early.ite {n : ChId} {s t u : State} {c : Prop} [Decidable c] (h : Early n s t) (g : Early n s u) :
    Early n s (if c then t else u) := by
  split <;> assumption

/-- The configuration that a sample goes by is not moved before its monitors. -/
theorem laneKeys (n : ChId) : Reg.CH_VEL_FS n ∉ laneMoved n ∧ Reg.CH_ACC_FS n ∉ laneMoved n ∧
    (∀ b : Bool, ∀ i ∈ [1, 2, 3, 4, 5, 6, 7, 8], bankKey b i n ∉ laneMoved n) ∧ Reg.CH_TR n ∉ laneMoved n ∧
    Reg.CH_EXC_SEL n ∉ laneMoved n ∧ Reg.CH_TRK_ERR_LIM n ∉ laneMoved n ∧ Reg.CH_VEL_LIM n ∉ laneMoved n ∧
    Reg.CH_ACC_LIM n ∉ laneMoved n ∧ Reg.CH_TRK_ERR_N n ∉ laneMoved n ∧ Reg.CH_PLAUS_N n ∉ laneMoved n := by
  decide +revert

theorem Early.excIx {n : ChId} {s t : State} (h : Early n s t) : t.excIx n = s.excIx n := by
  obtain ⟨-, -, -, -, hsel, -⟩ := laneKeys n
  unfold State.excIx
  rw [h.regs _ hsel]

theorem Early.coefsOf {n : ChId} {s t : State} (h : Early n s t) (b : Bool) : coefsOf t.reg n b = coefsOf s.reg n b := by
  obtain ⟨-, -, hbank, -⟩ := laneKeys n
  unfold Machine.coefsOf
  have hreg : ∀ i ∈ [1, 2, 3, 4, 5, 6, 7, 8], t.reg (bankKey b i n) = s.reg (bankKey b i n) := fun i hi =>
    h.regs _ (hbank b i hi)
  rw [hreg 1 (by decide), hreg 2 (by decide), hreg 3 (by decide), hreg 4 (by decide), hreg 5 (by decide),
    hreg 6 (by decide), hreg 7 (by decide), hreg 8 (by decide)]

/-- The same loop and trims under the same carrier demodulate a sample alike. -/
theorem Early.demod {n : ChId} {s t : State} (h : Early n s t) (hloop : t.ch[n].loop = s.ch[n].loop)
    (htrims : t.ch[n].trims = s.ch[n].trims) (xs xc : BitVec 16) : t.demod n xs xc = s.demod n xs xc := by
  obtain ⟨-, -, -, htr, -⟩ := laneKeys n
  unfold State.demod State.phiAt
  simp only [h.excIx, hloop, htrims, h.regs _ htr, h.beside.kelvin, h.exc]

/-! ### The hatband (R101) -/

theorem trip_false (x y : Bool) (v : BitVec 8) :
    ((x || decide (v &&& 0x0F#8 ≠ 0)) || (y || decide (v &&& 0xF0#8 ≠ 0))) = false ↔ x = false ∧ y = false ∧ v = 0 := by
  have hv : (v &&& 0x0F#8 = 0#8 ∧ v &&& 0xF0#8 = 0#8) ↔ v = 0#8 := by decide +revert
  cases x <;> cases y <;> simp [hv]

/-- A sample is discarded where its hatband is not clear. -/
theorem discards_false (s : State) (n : ChId) : s.discards n = false ↔ s.ClearHatband n := by
  unfold State.discards State.hbSample State.ClearHatband
  dsimp only
  rw [Bool.or_eq_false_iff, trip_false, decide_eq_false_iff_not, Nat.not_lt, Nat.le_zero]
  exact ⟨fun ⟨⟨hs, hc, hl⟩, hw⟩ => ⟨hs, hc, hl, hw⟩, fun ⟨hs, hc, hl, hw⟩ => ⟨⟨hs, hc, hl⟩, hw⟩⟩

theorem hbSample_eq (s : State) (n : ChId) : ∃ f : Watch → Watch, (∀ w, (f w).runs = w.runs) ∧ (s.hbSample n).1 =
    if s.discards n = true then (s.modWatch n f).bump (Reg.CH_DISCARD_CNT n) else s.modWatch n f := by
  refine ⟨_, ?_, rfl⟩
  exact fun _ => rfl

/-- What a heard sample has moved. -/
theorem heard_parts (s : State) (n : ChId) (xs xc : BitVec 16) :
    Early n s (s.heard n xs xc) ∧ (s.heard n xs xc).ch = s.ch ∧ (s.heard n xs xc).front = s.front ∧
    (s.heard n xs xc).laneSeen n = { s.laneSeen n with
      discards := if s.discards n = true then satInc 32 (s.reg (Reg.CH_DISCARD_CNT n)) else s.reg (Reg.CH_DISCARD_CNT n) } := by
  obtain ⟨f, hf, hsample⟩ := hbSample_eq s n
  have hruns : (s.modWatch n f).watch[n].runs = s.watch[n].runs := by rw [modWatch_self]; exact hf _
  have hmod := Early.modWatch n s f
  have hseen : (s.modWatch n f).laneSeen n = s.laneSeen n := (Rests.of_modWatch n s n hf).laneSeen
  unfold State.heard
  rw [hsample]
  by_cases hd : s.discards n = true
  · rw [if_pos hd, if_pos hd]
    have hset := Early.setReg n (s.modWatch n f) (satInc 32 (s.reg (Reg.CH_DISCARD_CNT n)))
      (show Reg.CH_DISCARD_CNT n ∈ laneMoved n by simp [laneMoved])
    refine ⟨(hmod.trans hset).trans (.modWatch n _ _), rfl, rfl, ?_⟩
    refine ((Rests.refl n _).modWatch n _).laneSeen.trans ?_
    have hreg := State.reg_bump (s.modWatch n f) (Reg.CH_DISCARD_CNT n)
    change LaneView.mk _ _ _ _ _ (s.modWatch n f).watch[n].runs _ = _
    rw [hruns, hreg]
    rfl
  · rw [if_neg hd, if_neg hd]
    refine ⟨hmod.trans (.modWatch n _ _), rfl, rfl, ?_⟩
    exact ((Rests.refl n _).modWatch n _).laneSeen.trans hseen

/-! ### The lane step (R76, R77) -/

/-- The loop that a sample leaves. -/
def State.laneLoop (s : State) (n : ChId) (accepted : Bool) (e inj : Int) : Loop :=
  if accepted then (s.stepOf n e inj).loop
  else if s.stepped n then (holdStep (s.reg (Reg.CH_VEL_FS n)) s.ch[n].loop).1
  else s.ch[n].loop

/-- A lane step changes its channel's loop, saturation bits and the flag of its carry. -/
structure LaneStepped (n : ChId) (s t : State) (l : Loop) : Prop where
  early : Early n s t
  front : t.front = s.front
  inj : t.ch[n].inj = s.ch[n].inj
  seen : t.laneSeen n = { s.laneSeen n with loop := l }

theorem laneStepped_of (s : State) (n : ChId) (f : Chan → Chan) (wrapped : Bool)
    (hf : ∀ c, f c = { c with loop := (f c).loop, satInt := (f c).satInt, satVel := (f c).satVel, satOut := (f c).satOut }) :
    LaneStepped n s ((s.modCh n f).wrapFlag n wrapped) (f s.ch[n]).loop := by
  have hmod : LaneStepped n s (s.modCh n f) (f s.ch[n]).loop := by
    refine ⟨.modCh n s f, rfl, ?_, ?_⟩
    · rw [modCh_self, hf]
    · unfold State.laneSeen
      rw [modCh_self, hf]
      rfl
  unfold State.wrapFlag
  split
  · have hkey : Reg.CH_CARRY_WRAP n ≠ Reg.CH_DISCARD_CNT n := by clear hmod hf; decide +revert
    have hset := Rests.of_setReg n (s.modCh n f) (k := Reg.CH_CARRY_WRAP n) 1 hkey
    exact ⟨hmod.early.trans (.setReg n _ 1 (by simp [laneMoved])), rfl, hmod.inj, hset.laneSeen.trans hmod.seen⟩
  · exact hmod

theorem laneStep_steps (s : State) (n : ChId) (accepted : Bool) (e inj : Int) :
    LaneStepped n s (s.laneStep n accepted e inj).1 (s.laneLoop n accepted e inj) := by
  unfold State.laneStep State.laneLoop
  split
  · exact laneStepped_of s n _ _ fun _ => rfl
  · split
    · exact laneStepped_of s n _ _ fun _ => rfl
    · exact ⟨.refl n s, rfl, rfl, rfl⟩

end Sys2Proof.Machine
end

section
/-!
PROOFS. The marks, the seed and the averages of a sample, its monitors, its transitions and its record (R75, R86, R98 to
R101, R106, R109, R110, R154).
-/

namespace Sys2Proof.Machine

set_option Elab.async false

/-! ### The marks of a step (R80, R86) -/

theorem satSticky_rests (s : State) (n : ChId) : Rests n s (s.satSticky n) := (Rests.refl n s).modCh n _

/-- A step that injects counts one more sample. -/
theorem marked_marks (s : State) (n : ChId) (sticky injects : Bool) (hi : injects = true → s.ch[n].inj.state = .running) :
    Early n s (s.marked n sticky injects) ∧ (s.marked n sticky injects).front = s.front ∧
    (s.marked n sticky injects).laneSeen n = { s.laneSeen n with
      injected := if injects = true then s.ch[n].inj.n + 1 else s.ch[n].inj.n } := by
  unfold State.marked
  extract_lets u v
  have hu : Rests n s u ∧ Early n s u ∧ u.front = s.front ∧ u.ch[n].inj = s.ch[n].inj := by
    by_cases hs : sticky = true
    · rw [show u = s.satSticky n from if_pos hs]
      refine ⟨satSticky_rests s n, .modCh n s _, rfl, ?_⟩
      unfold State.satSticky
      rw [modCh_self]
    · rw [show u = s from if_neg hs]
      exact ⟨.refl n s, .refl n s, rfl, rfl⟩
  have hv : Rests n s v ∧ Early n s v ∧ v.front = s.front ∧ v.ch[n].inj = s.ch[n].inj := by
    obtain ⟨hrests, hearly, hfront, hinj⟩ := hu
    refine ⟨hrests.modCh n _, hearly.trans (.modCh n u _), hfront, Eq.trans ?_ hinj⟩
    rw [modCh_self]
  clear_value v
  obtain ⟨hrests, hearly, hfront, hinj⟩ := hv
  by_cases hx : injects = true
  · rw [if_pos hx, if_pos hx]
    have hnext : v.ch[n].inj.next.n = s.ch[n].inj.n + 1 := by
      rw [hinj]
      unfold Inject.next
      rw [if_neg (not_not_intro (hi hx))]
    refine ⟨hearly.trans (.modCh n v _), hfront, ?_⟩
    have hview : (v.modCh n fun c => { c with inj := c.inj.next }).laneSeen n =
        { v.laneSeen n with injected := v.ch[n].inj.next.n } := by
      unfold State.laneSeen
      rw [modCh_self]
      rfl
    rw [hview, hnext, hrests.laneSeen]
  · rw [if_neg hx, if_neg hx]
    exact ⟨hearly, hfront, hrests.laneSeen⟩

/-! ### Seed, window and averages (R75, R100, R109, R110) -/

/-- The seed of a settling channel after a sample. -/
def Settle.after (x : Settle) (ready discard : Bool) (k : Nat) (sd cd : Int) : Settle :=
  match x with
  | .waiting => if ready && !discard then .seeding 1 sd cd else .waiting
  | .seeding j a b => if discard || k ≤ j then .seeding j a b else .seeding (j + 1) (a + sd) (b + cd)
  | .holding j => .holding (j - 1)
  | .running => .running

/-- Exciter and sense window are there for a seed (R109). -/
def State.seedReady (s : State) (n : ChId) : Bool :=
  s.exc[s.excIx n].state = .run && senseWindow s.exc[s.excIx n].freq ≤ s.kelvin[s.excIx n].n && !s.sup.vanaHold

/-- A channel's seed after a sample. -/
def State.seedAfter (s : State) (n : ChId) (d : Demod) (discard : Bool) : Settle :=
  if s.ch[n].state = .settle then
    s.front[n].settle.after (s.seedReady n) discard (periodSamples s.exc[s.excIx n].freq) d.sd d.cd
  else s.front[n].settle

/-- The seed alone moves. -/
theorem settleFront_eq (x : Front) (ready discard : Bool) (k : Nat) (d : Demod) :
    (match x.settle with
      | .waiting => if ready && !discard then { x with settle := .seeding 1 d.sd d.cd } else x
      | .seeding j a b => if discard || k ≤ j then x else { x with settle := .seeding (j + 1) (a + d.sd) (b + d.cd) }
      | .holding j => { x with settle := .holding (j - 1) }
      | .running => x) = { x with settle := x.settle.after ready discard k d.sd d.cd } := by
  obtain ⟨y, hy⟩ : ∃ y, y = x.settle := ⟨_, rfl⟩
  have hsame : x = { x with settle := y } := by rw [hy]
  rw [← hy]
  unfold Settle.after
  cases y with
  | waiting =>
    dsimp only
    split
    · rfl
    · exact hsame
  | seeding j a b =>
    dsimp only
    split
    · exact hsame
    · rfl
  | holding j => rfl
  | running => exact hsame

theorem settleSample_eq (s : State) (n : ChId) (d : Demod) (discard : Bool) :
    s.settleSample n d discard = if s.ch[n].state = .settle then
      s.modFront n fun x => { x with
        settle := x.settle.after (s.seedReady n) discard (periodSamples s.exc[s.excIx n].freq) d.sd d.cd }
    else s := by
  unfold State.settleSample
  by_cases h : s.ch[n].state = .settle
  · rw [if_pos h]
    dsimp only
    rw [if_neg (not_not_intro h)]
    congr 1
    funext x
    exact settleFront_eq x _ _ _ d
  · rw [if_neg h]
    exact if_pos h

/-- The averages after a sample. -/
def Front.averaged (f : Front) (d : Demod) (averages : Bool) : Int × Int × Nat :=
  if averages then ((f.betaSample d).betaQ, (f.betaSample d).betaI, (f.betaSample d).betaN) else (f.betaQ, f.betaI, f.betaN)

theorem gathered_gathers (s : State) (n : ChId) (d : Demod) (discard averages : Bool) :
    Early n s (s.gathered n d discard averages) ∧
    (s.gathered n d discard averages).laneSeen n = { s.laneSeen n with
      seeds := (s.seedAfter n d discard, s.front[n].averaged d averages) } := by
  unfold State.gathered
  extract_lets u v
  have hu : Early n s u ∧ u.laneSeen n = { s.laneSeen n with
      seeds := (s.seedAfter n d discard, s.front[n].betaQ, s.front[n].betaI, s.front[n].betaN) } ∧
      u.front[n].betaQ = s.front[n].betaQ ∧ u.front[n].betaI = s.front[n].betaI ∧ u.front[n].betaN = s.front[n].betaN := by
    unfold State.seedAfter
    rw [show u = _ from settleSample_eq s n d discard]
    split
    · refine ⟨.modFront n s _, ?_, ?_⟩
      · unfold State.laneSeen
        rw [modFront_self]
        rfl
      · rw [modFront_self]
        exact ⟨rfl, rfl, rfl⟩
    · exact ⟨.refl n s, rfl, rfl, rfl, rfl⟩
  clear_value u
  obtain ⟨hearly, hseen, hq, hi, hn⟩ := hu
  have hv : Early n s v ∧ v.laneSeen n = u.laneSeen n ∧ v.front = u.front := by
    by_cases hs : u.stepped n = true
    · rw [show v = u.pushWin n d from if_pos hs]
      exact ⟨hearly.trans (.modWatch n u _), ((Rests.refl n u).modWatch n _).laneSeen, rfl⟩
    · rw [show v = u from if_neg hs]
      exact ⟨hearly, rfl, rfl⟩
  clear_value v
  obtain ⟨hvearly, hvseen, hvfront⟩ := hv
  unfold Front.averaged
  by_cases ha : averages = true
  · rw [if_pos ha, if_pos ha]
    refine ⟨hvearly.trans (.modFront n v _), ?_⟩
    have hseed : v.front[n].settle = s.seedAfter n d discard :=
      congrArg (fun x : LaneView => x.seeds.1) (hvseen.trans hseen)
    have hbeta : (v.front[n].betaSample d).seeds = (s.seedAfter n d discard, (s.front[n].betaSample d).betaQ,
        (s.front[n].betaSample d).betaI, (s.front[n].betaSample d).betaN) := by
      rw [← hseed]
      unfold Front.seeds Front.betaSample
      dsimp only
      rw [hvfront, hq, hi, hn]
    have hview : (v.modFront n fun f => f.betaSample d).laneSeen n =
        { v.laneSeen n with seeds := (v.front[n].betaSample d).seeds } := by
      unfold State.laneSeen
      rw [modFront_self]
      rfl
    rw [hview, hvseen, hseen, hbeta]
  · rw [if_neg ha, if_neg ha]
    exact ⟨hvearly, hvseen.trans hseen⟩

end Sys2Proof.Machine
end

section
/-!
PROOFS. The monitors of a sample, its transitions and its record (R98 to R101, R106, R111, R154).
-/

namespace Sys2Proof.Machine

set_option Elab.async false

/-! ### The monitors (R100) -/

/-- The runs of the monitors after a sample of a channel in state `st`. -/
def State.runsAfter (s : State) (n : ChId) (st : ChState) (discard : Bool) : Nat × Nat × Nat :=
  if st = .track then
    if discard then s.watch[n].runs
    else (runOver (s.reg (Reg.CH_TRK_ERR_LIM n) < Int.ofNat s.ch[n].loop.u.natAbs) s.watch[n].trkRun,
      runOver (s.reg (Reg.CH_VEL_LIM n) < Int.ofNat (word39 s.ch[n].loop.v).natAbs) s.watch[n].velRun,
      runOver (s.reg (Reg.CH_ACC_LIM n) < Int.ofNat (word39 s.ch[n].loop.a).natAbs) s.watch[n].accRun)
  else (0, 0, 0)

/-- A run of `r` is full. -/
def State.runFull (s : State) (n : ChId) (r : Nat × Nat × Nat) : Prop :=
  s.regN (Reg.CH_TRK_ERR_N n) ≤ r.1 ∨ s.regN (Reg.CH_PLAUS_N n) ≤ r.2.1 ∨ s.regN (Reg.CH_PLAUS_N n) ≤ r.2.2

/-- What the monitors of a sample leave. -/
structure Monitored (n : ChId) (st : ChState) (discard : Bool) (s t : State) : Prop where
  beside : Beside n s t
  seen : t.laneSeen n = { s.laneSeen n with runs := s.runsAfter n st discard }
  full : st = .track → ((t.ch[n].mon[8] = true ∨ t.ch[n].mon[9] = true ∨ t.ch[n].mon[10] = true) ↔
    s.runFull n (s.runsAfter n st discard))

theorem monitors_monitored (s : State) (n : ChId) (st : ChState) (hs hc discard : Bool) :
    Monitored n st discard s (s.monitors n st hs hc discard) := by
  unfold State.monitors
  split
  extract_lets c tr w next abs trk vel acc u tE tV tA on
  have hruns : (trk, vel, acc) = s.runsAfter n st discard := by
    change (next (s.reg (Reg.CH_TRK_ERR_LIM n) < Int.ofNat s.ch[n].loop.u.natAbs) w.trkRun,
      next (s.reg (Reg.CH_VEL_LIM n) < Int.ofNat (word39 s.ch[n].loop.v).natAbs) w.velRun,
      next (s.reg (Reg.CH_ACC_LIM n) < Int.ofNat (word39 s.ch[n].loop.a).natAbs) w.accRun) = _
    unfold State.runsAfter
    by_cases h : st = .track
    · rw [if_pos h]
      have hnext : ∀ far r, next far r = if discard = true then r else runOver far r := fun far r =>
        if_neg (show ¬ (!tr) = true by rw [show tr = true from decide_eq_true h]; exact Bool.noConfusion)
      rw [hnext, hnext, hnext]
      cases discard <;> rfl
    · rw [if_neg h]
      have hnext : ∀ far r, next far r = 0 := fun far r =>
        if_pos (show (!tr) = true by rw [show tr = false from decide_eq_false h]; rfl)
      rw [hnext, hnext, hnext]
  have hview : u.laneSeen n = { s.laneSeen n with runs := s.runsAfter n st discard } := by
    rw [← hruns]
    unfold State.laneSeen
    rw [modWatch_self]
    rfl
  refine ⟨(Early.modWatch n s _).beside.trans (Early.modCh n u _).beside, ((Rests.refl n u).modCh n _).laneSeen.trans hview, ?_⟩
  intro h
  rw [modCh_self, ← hruns]
  have htr : tr = true := decide_eq_true h
  have hE : tE = decide (s.regN (Reg.CH_TRK_ERR_N n) ≤ trk) := (congrArg (· && _) htr).trans (Bool.true_and _)
  have hV : tV = decide (s.regN (Reg.CH_PLAUS_N n) ≤ vel) := (congrArg (· && _) htr).trans (Bool.true_and _)
  have hA : tA = decide (s.regN (Reg.CH_PLAUS_N n) ≤ acc) := (congrArg (· && _) htr).trans (Bool.true_and _)
  change (tE = true ∨ tV = true ∨ tA = true) ↔ s.runFull n (trk, vel, acc)
  rw [hE, hV, hA, decide_eq_true_iff, decide_eq_true_iff, decide_eq_true_iff]
  exact Iff.rfl

/-! ### The transitions (R98, R99, R111) -/

theorem leaveKeys (n : ChId) : Reg.CH_INJ_ABORT n ≠ Reg.CH_DISCARD_CNT n ∧ Reg.CH_COAST_CNT n ≠ Reg.CH_DISCARD_CNT n ∧
    Reg.CH_INVALID_CNT n ≠ Reg.CH_DISCARD_CNT n ∧ Reg.CH_COAST_ELAPSED n ≠ Reg.CH_DISCARD_CNT n := by decide +revert

section
variable {n : ChId} {s t : State} (h : Rests n s t)
include h

theorem Rests.modSched (d : Fin 17) (f : Sched → Sched) : Rests n s (t.modSched d f) := h.trans .of_parts

theorem Rests.abortTest (reason : Nat) : Rests n s (t.abortTest n reason) := by
  obtain ⟨hkey, -⟩ := leaveKeys n
  unfold State.abortTest
  split
  · rw [schedWithdraw_chan]
    exact ((h.modCh n fun c => { c with inj := { c.inj with state := .aborted } }).setReg _ hkey).modSched _ _
  · exact h.ite (h.modCh n _)
  · exact h

theorem Rests.probeRecheck : Rests n s (t.probeRecheck n) := by
  unfold State.probeRecheck
  split
  · rw [schedWithdraw_chan]
    exact (h.modFront n _).modSched _ _
  · rw [schedWithdraw_chan]
    exact (h.modFront n _).modSched _ _
  · exact h

end

/-- A channel that has left TRACK for `x`. -/
structure LeftTrack (n : ChId) (x : ChState) (s t : State) : Prop where
  beside : Beside n s t
  seen : t.laneSeen n = { s.laneSeen n with state := x, runs := (0, 0, 0) }

theorem LeftTrack.rests {n : ChId} {x : ChState} {s t u : State} (h : LeftTrack n x s t) (g : Rests n t u) :
    LeftTrack n x s u := ⟨h.beside.trans g.beside, g.laneSeen.trans h.seen⟩

theorem leaveTrack_leaves (s : State) (n : ChId) (x : ChState) (r : Nat) :
    LeftTrack n x s ((s.shifted n x r).leaveTrack n) := by
  have hshift : (s.shifted n x r).laneSeen n = { s.laneSeen n with state := x } := by
    unfold State.laneSeen State.shifted
    rw [modCh_self]
    rfl
  have hbeside : Beside n s (s.shifted n x r) := (Early.modCh n s _).beside
  unfold State.leaveTrack
  extract_lets u v
  have hv : Rests n (s.shifted n x r) v := (((Rests.refl n _).abortTest 4).calPause n 4).modFront n _
  clear_value v
  refine ⟨(hbeside.trans hv.beside).trans (Early.modWatch n v _).beside, ?_⟩
  have hview : (v.modWatch n fun w => { w with trackRun := 0, trkRun := 0, velRun := 0, accRun := 0 }).laneSeen n =
      { v.laneSeen n with runs := (0, 0, 0) } := by
    unfold State.laneSeen
    rw [modWatch_self]
    rfl
  rw [hview, hv.laneSeen, hshift]

theorem enterCoast_leaves {s : State} {n : ChId} (r : Nat) (hs : s.ch[n].state = .track) :
    LeftTrack n .coast s (s.coastFor n r) := by
  obtain ⟨-, hcoast, -⟩ := leaveKeys n
  unfold State.coastFor State.enterCh
  rw [hs]
  dsimp only
  rw [if_pos (show (decide (ChState.track = .track) && decide (ChState.coast ≠ .track)) = true by decide)]
  have hleft := leaveTrack_leaves s n .coast r
  unfold State.shifted at hleft
  refine LeftTrack.rests (t := State.leaveTrack (s.modCh n fun c => { c with state := .coast, reason := r }) n) hleft ?_
  exact ((((Rests.refl n _).bump hcoast).modWatch n _).probeRecheck).modWatch n _

theorem enterInvalid_leaves {s : State} {n : ChId} (r : Nat) (hs : s.ch[n].state = .track) :
    LeftTrack n .invalid s (s.enterInvalid n r) := by
  obtain ⟨-, -, hinvalid, -⟩ := leaveKeys n
  unfold State.enterInvalid State.enterCh
  rw [hs]
  dsimp only
  rw [if_neg (show ¬ ChState.track = .settle by decide),
    if_pos (show (decide (ChState.track = .track) && decide (ChState.invalid ≠ .track)) = true by decide)]
  have hleft := leaveTrack_leaves s n .invalid r
  unfold State.shifted at hleft
  refine LeftTrack.rests (t := State.leaveTrack (s.modCh n fun c => { c with state := .invalid, reason := r }) n) hleft ?_
  exact (((Rests.refl n _).bump hinvalid).modWatch n _).probeRecheck

/-- Outside TRACK a sample moves its channel nowhere. -/
theorem sampleMoves_rests (s : State) (n : ChId) {st : ChState} (discard accepted : Bool) (h : st ≠ .track) :
    Rests n s (s.sampleMoves n st discard accepted) := by
  have hrefl := Rests.refl n s
  unfold State.sampleMoves
  cases st with
  | track => exact absurd rfl h
  | coast => exact (hrefl.modWatch n _).ite hrefl
  | settle => exact (hrefl.modFront n _).ite hrefl
  | off => exact hrefl
  | invalid => exact hrefl

/-- Out of TRACK a full run leads to INVALID, and a discarded sample or a mean out of its limits to COAST. -/
theorem sampleMoves_track {s : State} {n : ChId} (discard accepted : Bool) (h : s.ch[n].state = .track) :
    ((s.ch[n].mon[8] = true ∨ s.ch[n].mon[9] = true ∨ s.ch[n].mon[10] = true) →
      LeftTrack n .invalid s (s.sampleMoves n .track discard accepted)) ∧
    (¬ (s.ch[n].mon[8] = true ∨ s.ch[n].mon[9] = true ∨ s.ch[n].mon[10] = true) →
      LeftTrack n .coast s (s.sampleMoves n .track discard accepted) ∨
        discard = false ∧ s.sampleMoves n .track discard accepted = s) := by
  unfold State.sampleMoves
  dsimp only
  refine ⟨fun hm => ?_, fun hm => ?_⟩
  · by_cases h8 : s.ch[n].mon[8] = true
    · rw [if_pos h8]
      exact enterInvalid_leaves 10 h
    · rw [if_neg h8]
      by_cases h9 : s.ch[n].mon[9] = true
      · rw [if_pos h9]
        exact enterInvalid_leaves 11 h
      · rw [if_neg h9, if_pos ((hm.resolve_left h8).resolve_left h9)]
        exact enterInvalid_leaves 12 h
  · obtain ⟨h8, hm⟩ := not_or.1 hm
    obtain ⟨h9, h10⟩ := not_or.1 hm
    rw [if_neg h8, if_neg h9, if_neg h10]
    by_cases hd : discard = true
    · rw [if_pos hd]
      exact .inl (enterCoast_leaves 4 h)
    · rw [if_neg hd]
      split
      · exact .inl (enterCoast_leaves 5 h)
      · split
        · exact .inl (enterCoast_leaves 6 h)
        · exact .inr ⟨Bool.eq_false_iff.2 hd, rfl⟩

/-! ### The record (R106, R154) -/

theorem Rests.budget {n : ChId} {s t : State} (h : Rests n s t) : Rests n s (t.budget n) := by
  obtain ⟨-, -, -, hkey⟩ := leaveKeys n
  unfold State.budget
  refine Rests.setReg (h.modWatch n _ fun w => ?_) _ hkey
  split
  · split <;> rfl
  · split <;> rfl
  · rfl

theorem recorded_records (s : State) (n : ChId) (discard : Bool) (l : Loop) :
    Beside n s (s.recorded n discard l) ∧
    (s.recorded n discard l).laneSeen n =
      { s.laneSeen n with out := s.outRecord n (!s.stepped n) discard l.th l.carry } := by
  unfold State.recorded
  have hview : (s.modCh n fun c => { c with out := s.outRecord n (!s.stepped n) discard l.th l.carry }).laneSeen n =
      { s.laneSeen n with out := s.outRecord n (!s.stepped n) discard l.th l.carry } := by
    unfold State.laneSeen
    rw [modCh_self]
    rfl
  have hbudget := (Rests.refl n (s.modCh n fun c =>
    { c with out := s.outRecord n (!s.stepped n) discard l.th l.carry })).budget
  exact ⟨(Early.modCh n s _).beside.trans hbudget.beside, hbudget.laneSeen.trans hview⟩

end Sys2Proof.Machine
end

section
/-!
PROOFS. What a sample leaves of its channel, in terms of the state that its boundary has left (R75 to R77, R86, R97 to R101,
R109, R110, R154).
-/

namespace Sys2Proof.Machine

set_option Elab.async false

/-! ### What a sample goes by stands while it is heard -/

section
variable {n : ChId} {s t : State} (h : Early n s t)
include h

theorem Early.stepOf (hbank : t.ch[n].bankB = s.ch[n].bankB) (hsat : t.ch[n].satVel = s.ch[n].satVel)
    (hloop : t.ch[n].loop = s.ch[n].loop) (e inj : Int) : t.stepOf n e inj = s.stepOf n e inj := by
  obtain ⟨hvel, hacc, -⟩ := laneKeys n
  unfold State.stepOf
  rw [hbank, hsat, hloop, h.coefsOf, h.regs _ hvel, h.regs _ hacc]

omit h in
theorem stepped_congr (hstate : t.ch[n].state = s.ch[n].state) (hsettle : t.front[n].settle = s.front[n].settle) :
    t.stepped n = s.stepped n := by
  unfold State.stepped
  rw [hstate, hsettle]

theorem Early.laneLoop (hch : t.ch = s.ch) (hfront : t.front = s.front) (accepted : Bool) (e inj : Int) :
    t.laneLoop n accepted e inj = s.laneLoop n accepted e inj := by
  obtain ⟨hvel, -⟩ := laneKeys n
  unfold State.laneLoop
  rw [h.stepOf (by rw [hch]) (by rw [hch]) (by rw [hch]), stepped_congr (s := s) (t := t) (by rw [hch]) (by rw [hfront]), h.regs _ hvel,
    hch]

theorem Early.seedAfter (hstate : t.ch[n].state = s.ch[n].state) (hfront : t.front = s.front) (d : Demod) (discard : Bool) :
    t.seedAfter n d discard = s.seedAfter n d discard := by
  unfold State.seedAfter State.seedReady
  simp only [hstate, hfront, h.excIx, h.exc, h.sup, h.beside.kelvin]

end

/-! ### The sample up to its marks -/

/-- What a sample of `u` with the operands `xs` and `xc` makes of its channel before its monitors. -/
def State.gatheredView (u : State) (n : ChId) (d : Demod) : LaneView :=
  let discard := u.discards n
  let accepted := u.accepts n discard
  { u.laneSeen n with
    loop := u.laneLoop n accepted d.e (u.injected n accepted)
    injected := if u.injects n accepted = true then u.ch[n].inj.n + 1 else u.ch[n].inj.n
    seeds := (u.seedAfter n d discard, u.front[n].averaged d (accepted && u.ch[n].state = .track))
    discards := if discard = true then satInc 32 (u.reg (Reg.CH_DISCARD_CNT n)) else u.reg (Reg.CH_DISCARD_CNT n) }

theorem lanePart_gathers (u w : State) (n : ChId) (d : Demod) (hearly : Early n u w) (hch : w.ch = u.ch)
    (hfront : w.front = u.front)
    (hseen : w.laneSeen n = { u.laneSeen n with
      discards := if u.discards n = true then satInc 32 (u.reg (Reg.CH_DISCARD_CNT n)) else u.reg (Reg.CH_DISCARD_CNT n) }) :
    Early n u (w.lanePart n u.ch[n].state d (u.discards n)) ∧
    (w.lanePart n u.ch[n].state d (u.discards n)).laneSeen n = u.gatheredView n d := by
  have haccepts : w.accepts n (u.discards n) = u.accepts n (u.discards n) := by
    unfold State.accepts State.normalState
    rw [hch, hfront]
  have hinjects : ∀ a, w.injects n a = u.injects n a := fun a => by unfold State.injects; rw [hch]
  have hinjected : ∀ a, w.injected n a = u.injected n a := fun a => by unfold State.injected; rw [hinjects, hch]
  unfold State.lanePart State.gatheredView
  dsimp only
  rw [haccepts, hinjects, hinjected]
  generalize u.accepts n (u.discards n) = accepted
  have hstep := laneStep_steps w n accepted d.e (u.injected n accepted)
  rw [hearly.laneLoop hch hfront] at hstep
  generalize (w.laneStep n accepted d.e (u.injected n accepted)).1 = b at *
  have hrun : u.injects n accepted = true → b.ch[n].inj.state = .running := fun hi => by
    unfold State.injects at hi
    rw [Bool.and_eq_true, decide_eq_true_iff] at hi
    rw [hstep.inj, hch, hi.2]
  obtain ⟨hmark, hmfront, hmseen⟩ := marked_marks b n (w.stepped n && u.ch[n].state = .track) (u.injects n accepted) hrun
  generalize b.marked n (w.stepped n && u.ch[n].state = .track) (u.injects n accepted) = c at *
  have hc : Early n u c := (hearly.trans hstep.early).trans hmark
  have hcfront : c.front = u.front := (hmfront.trans hstep.front).trans hfront
  have hcseen := hmseen
  rw [hstep.seen, hseen, hstep.inj, hch] at hcseen
  obtain ⟨hg, hgseen⟩ := gathered_gathers c n d (u.discards n) (accepted && u.ch[n].state = .track)
  refine ⟨hc.trans hg, ?_⟩
  have hstate : c.ch[n].state = u.ch[n].state := congrArg LaneView.state hcseen
  rw [hgseen, hcseen, hc.seedAfter hstate hcfront, hcfront]

/-! ### The runs of the monitors -/

/-- The runs after a sample in TRACK that leaves the loop `l`. -/
def State.runsWith (s : State) (n : ChId) (l : Loop) : Nat × Nat × Nat :=
  (runOver (s.reg (Reg.CH_TRK_ERR_LIM n) < Int.ofNat l.u.natAbs) s.watch[n].trkRun,
    runOver (s.reg (Reg.CH_VEL_LIM n) < Int.ofNat (word39 l.v).natAbs) s.watch[n].velRun,
    runOver (s.reg (Reg.CH_ACC_LIM n) < Int.ofNat (word39 l.a).natAbs) s.watch[n].accRun)

theorem Early.runFull {n : ChId} {s t : State} (h : Early n s t) (r : Nat × Nat × Nat) : t.runFull n r ↔ s.runFull n r := by
  obtain ⟨-, -, -, -, -, -, -, -, hn, hp⟩ := laneKeys n
  unfold State.runFull State.regN
  rw [h.regs _ hn, h.regs _ hp]

theorem Early.runsAfter {n : ChId} {s t : State} (h : Early n s t) (hruns : t.watch[n].runs = s.watch[n].runs) {l : Loop}
    (hloop : t.ch[n].loop = l) : t.runsAfter n .track false = s.runsWith n l := by
  obtain ⟨-, -, -, -, -, htrk, hvel, hacc, -⟩ := laneKeys n
  unfold State.runsAfter State.runsWith
  obtain ⟨hr1, hr23⟩ := Prod.mk.inj hruns
  obtain ⟨hr2, hr3⟩ := Prod.mk.inj hr23
  rw [if_pos rfl, if_neg Bool.false_ne_true, hloop, hr1, hr2, hr3, h.regs _ htrk, h.regs _ hvel, h.regs _ hacc]

/-! ### The sample as a whole -/

/-- The lane steps a channel in this state with this seed. -/
def ChState.steps (st : ChState) (x : Settle) : Bool :=
  match st with
  | .track | .coast => true
  | .settle =>
    match x with
    | .running | .holding _ => true
    | _ => false
  | _ => false

theorem stepped_eq (s : State) (n : ChId) : s.stepped n = s.ch[n].state.steps s.front[n].settle := by
  unfold State.stepped ChState.steps
  cases s.ch[n].state <;> rfl

/-- What a sample makes of its channel `n`, for the state `u` that its boundary has left. -/
structure Sampled (n : ChId) (d : Demod) (u t : State) : Prop where
  beside : Beside n u t
  loop : t.ch[n].loop = (u.gatheredView n d).loop
  injected : t.ch[n].inj.n = (u.gatheredView n d).injected
  seeds : t.front[n].seeds = (u.gatheredView n d).seeds
  discards : t.reg (Reg.CH_DISCARD_CNT n) = (u.gatheredView n d).discards
  stays : u.ch[n].state ≠ .track → t.ch[n].state = u.ch[n].state
  moves : u.ch[n].state = .track → t.ch[n].state = .track ∨ t.ch[n].state = .coast ∨ t.ch[n].state = .invalid
  leaves : u.ch[n].state = .track → u.discards n = true → t.ch[n].state ≠ .track
  invalid : u.ch[n].state = .track → u.discards n = false →
    (t.ch[n].state = .invalid ↔ u.runFull n (u.runsWith n (u.gatheredView n d).loop))
  runs : u.ch[n].state = .track → u.discards n = false → t.ch[n].state = .track →
    t.watch[n].runs = u.runsWith n (u.gatheredView n d).loop
  time : t.ch[n].out.time = u.t0 n
  moved : t.ch[n].state.steps (u.seedAfter n d (u.discards n)) = true →
    t.ch[n].out.pos = pos40 u.ch[n].loop.th u.ch[n].loop.carry
  frozen : t.ch[n].state.steps (u.seedAfter n d (u.discards n)) = false →
    t.ch[n].out.pos = u.ch[n].out.pos ∧ t.ch[n].out.vel = 0 ∧ t.ch[n].out.acc = 0

/-- What follows a sample leaves what it has made. -/
theorem Sampled.rests {n : ChId} {d : Demod} {u t v : State} (h : Sampled n d u t) (g : Rests n t v) : Sampled n d u v := by
  obtain ⟨gl, gs, go⟩ := g.chan n
  exact ⟨h.beside.trans g.beside, gl.trans h.loop, g.injected.trans h.injected, g.seeds.trans h.seeds,
    g.discards.trans h.discards, by rw [gs]; exact h.stays, by rw [gs]; exact h.moves, by rw [gs]; exact h.leaves,
    by rw [gs]; exact h.invalid, by rw [gs, g.runs]; exact h.runs, by rw [go]; exact h.time,
    by rw [gs, go]; exact h.moved, by rw [gs, go]; exact h.frozen⟩

end Sys2Proof.Machine
end

section
/-!
PROOFS. A sample of a channel that is on, from its boundary to its record (R76, R97 to R101, R154).
-/

namespace Sys2Proof.Machine

set_option Elab.async false

/-- The state and the runs that a sample's monitors leave. -/
structure Moved (n : ChId) (d : Demod) (u t : State) (x : ChState) (r : Nat × Nat × Nat) : Prop where
  beside : Beside n u t
  seen : t.laneSeen n = { u.gatheredView n d with state := x, runs := r }
  stays : u.ch[n].state ≠ .track → x = u.ch[n].state
  moves : u.ch[n].state = .track → x = .track ∨ x = .coast ∨ x = .invalid
  leaves : u.ch[n].state = .track → u.discards n = true → x ≠ .track
  invalid : u.ch[n].state = .track → u.discards n = false →
    (x = .invalid ↔ u.runFull n (u.runsWith n (u.gatheredView n d).loop))
  runs : u.ch[n].state = .track → u.discards n = false → x = .track → r = u.runsWith n (u.gatheredView n d).loop

theorem checksCounted_rests (s : State) (n : ChId) : Rests n s (s.checksCounted n) := (Rests.refl n s).modWatch n _

/-- Out of TRACK. -/
theorem movePart_track {u g : State} {n : ChId} {d : Demod} (hearly : Early n u g) (hseen : g.laneSeen n = u.gatheredView n d)
    (hst : u.ch[n].state = .track) (hs hc accepted : Bool) :
    ∃ x r, Moved n d u (g.movePart n .track hs hc (u.discards n) accepted) x r := by
  have hgstate : g.ch[n].state = .track := (congrArg LaneView.state hseen).trans hst
  have hgloop : g.ch[n].loop = (u.gatheredView n d).loop := congrArg LaneView.loop hseen
  have hgruns : g.watch[n].runs = u.watch[n].runs := congrArg LaneView.runs hseen
  have hruns : u.discards n = false → g.runsAfter n .track (u.discards n) = u.runsWith n (u.gatheredView n d).loop :=
    fun hd => by rw [hd]; exact hearly.runsAfter hgruns hgloop
  have hmon := monitors_monitored g n .track hs hc (u.discards n)
  unfold State.movePart
  generalize g.monitors n .track hs hc (u.discards n) = m at *
  have hcount := checksCounted_rests m n
  have hmch : (m.checksCounted n).ch = m.ch := rfl
  generalize m.checksCounted n = c at *
  have hbeside : Beside n u c := (hearly.beside.trans hmon.beside).trans hcount.beside
  have hcseen : c.laneSeen n = { u.gatheredView n d with runs := g.runsAfter n .track (u.discards n) } := by
    rw [hcount.laneSeen, hmon.seen, hseen]
  have hcstate : c.ch[n].state = .track := (congrArg LaneView.state hcseen).trans hst
  obtain ⟨hfull, hfree⟩ := sampleMoves_track (u.discards n) accepted hcstate
  have hiff := hmon.full rfl
  rw [← hmch, hearly.runFull] at hiff
  by_cases hm : c.ch[n].mon[8] = true ∨ c.ch[n].mon[9] = true ∨ c.ch[n].mon[10] = true
  · have hleft := hfull hm
    refine ⟨.invalid, (0, 0, 0), hbeside.trans hleft.beside, hleft.seen.trans (by rw [hcseen]), fun h => absurd hst h,
      fun _ => .inr (.inr rfl), fun _ _ h => (nomatch h), fun _ hd => ?_, fun _ _ h => (nomatch h)⟩
    rw [← hruns hd]
    exact ⟨fun _ => hiff.1 hm, fun _ => rfl⟩
  · have hnot : u.discards n = false → ¬ u.runFull n (u.runsWith n (u.gatheredView n d).loop) := fun hd hr =>
      hm (hiff.2 (by rw [hruns hd]; exact hr))
    rcases hfree hm with hleft | ⟨hd, hsame⟩
    · exact ⟨.coast, (0, 0, 0), hbeside.trans hleft.beside, hleft.seen.trans (by rw [hcseen]), fun h => absurd hst h,
        fun _ => .inr (.inl rfl), fun _ _ h => (nomatch h), fun _ hd => ⟨fun h => (nomatch h), fun h => absurd h (hnot hd)⟩,
        fun _ _ h => (nomatch h)⟩
    · rw [hsame]
      refine ⟨.track, g.runsAfter n .track (u.discards n), hbeside, ?_, fun h => absurd hst h, fun _ => .inl rfl,
        fun _ h => absurd (hd.symm.trans h) Bool.false_ne_true, fun _ hd => ⟨fun h => (nomatch h), fun h => absurd h (hnot hd)⟩,
        fun _ hd _ => hruns hd⟩
      rw [hcseen]
      exact congrArg (fun x => { u.gatheredView n d with state := x, runs := g.runsAfter n .track (u.discards n) }) hst

/-- In any other state the sample leaves the channel there. -/
theorem movePart_other {u g : State} {n : ChId} {d : Demod} (hearly : Early n u g) (hseen : g.laneSeen n = u.gatheredView n d)
    (hst : u.ch[n].state ≠ .track) (hs hc accepted : Bool) :
    ∃ x r, Moved n d u (g.movePart n u.ch[n].state hs hc (u.discards n) accepted) x r := by
  have hmon := monitors_monitored g n u.ch[n].state hs hc (u.discards n)
  unfold State.movePart
  generalize g.monitors n u.ch[n].state hs hc (u.discards n) = m at *
  have hmove := (checksCounted_rests m n).trans
    (sampleMoves_rests (m.checksCounted n) n (u.discards n) accepted hst)
  refine ⟨u.ch[n].state, g.runsAfter n u.ch[n].state (u.discards n),
    (hearly.beside.trans hmon.beside).trans hmove.beside, ?_, fun _ => rfl, fun h => absurd h hst,
    fun h => absurd h hst, fun h => absurd h hst, fun h => absurd h hst⟩
  rw [hmove.laneSeen, hmon.seen, hseen]
  rfl

theorem movePart_moves {u g : State} {n : ChId} {d : Demod} (hearly : Early n u g) (hseen : g.laneSeen n = u.gatheredView n d)
    (hs hc accepted : Bool) : ∃ x r, Moved n d u (g.movePart n u.ch[n].state hs hc (u.discards n) accepted) x r := by
  by_cases hst : u.ch[n].state = .track
  · have h := movePart_track hearly hseen hst hs hc accepted
    rw [← hst] at h
    exact h
  · exact movePart_other hearly hseen hst hs hc accepted

/-- The record of a moved sample. -/
theorem Moved.recorded {u t : State} {n : ChId} {d : Demod} {x : ChState} {r : Nat × Nat × Nat} (h : Moved n d u t x r)
    (discard : Bool) : Sampled n d u (t.recorded n discard u.ch[n].loop) := by
  obtain ⟨hbeside, hseen⟩ := recorded_records t n discard u.ch[n].loop
  have hstate : t.ch[n].state = x := congrArg LaneView.state h.seen
  have hsettle : t.front[n].settle = u.seedAfter n d (u.discards n) := congrArg (fun v : LaneView => v.seeds.1) h.seen
  have hout : t.ch[n].out = u.ch[n].out := congrArg LaneView.out h.seen
  have htime : t.t0 n = u.t0 n := by
    unfold State.t0 State.timeNow
    rw [h.beside.time]
  have hsteps : t.stepped n = x.steps (u.seedAfter n d (u.discards n)) := by rw [stepped_eq, hstate, hsettle]
  generalize t.recorded n discard u.ch[n].loop = v at *
  rw [h.seen] at hseen
  have hvstate : v.ch[n].state = x := congrArg LaneView.state hseen
  have hvout : v.ch[n].out = t.outRecord n (!t.stepped n) discard u.ch[n].loop.th u.ch[n].loop.carry :=
    congrArg LaneView.out hseen
  refine ⟨h.beside.trans hbeside, congrArg LaneView.loop hseen, congrArg LaneView.injected hseen,
    congrArg LaneView.seeds hseen, congrArg LaneView.discards hseen, by rw [hvstate]; exact h.stays,
    by rw [hvstate]; exact h.moves, by rw [hvstate]; exact h.leaves, by rw [hvstate]; exact h.invalid, ?_, ?_, ?_, ?_⟩
  · rw [hvstate]
    exact fun ht hd hx => (congrArg LaneView.runs hseen).trans (h.runs ht hd hx)
  · rw [hvout]
    exact htime
  · rw [hvstate, hvout, ← hsteps]
    intro hs
    rw [hs]
    rfl
  · rw [hvstate, hvout, ← hsteps]
    intro hs
    rw [hs, ← hout]
    exact ⟨rfl, rfl, rfl⟩

/-- A sample, up to its record. -/
theorem laneSample_sampled (u : State) (n : ChId) (xs xc : BitVec 16) :
    Sampled n (u.demod n xs xc) u (u.laneSample n xs xc) := by
  obtain ⟨hearly, hch, hfront, hseen⟩ := heard_parts u n xs xc
  unfold State.laneSample State.sampleMoved
  dsimp only
  generalize u.heard n xs xc = w at *
  rw [hearly.demod (by rw [hch]) (by rw [hch]), hch]
  obtain ⟨hg, hgseen⟩ := lanePart_gathers u w n (u.demod n xs xc) hearly hch hfront hseen
  obtain ⟨x, r, hmoved⟩ := movePart_moves hg hgseen (u.trips n).1 (u.trips n).2 (w.accepts n (u.discards n))
  exact hmoved.recorded (u.discards n)

end Sys2Proof.Machine
end

section
/-!
PROOFS. A sample from its boundary to its release (R19, R88, R97, R115, R245).
-/

namespace Sys2Proof.Machine

set_option Elab.async false

/-! ### The boundary (R88, R115, R245) -/

theorem Rests.schedEnd {n : ChId} {s t : State} (h : Rests n s t) : Rests n s (t.schedEnd (chDomain n)) := by
  rw [schedEnd_chan]
  exact h.modSched _ _

theorem Rests.schedWithdraw {n : ChId} {s t : State} (h : Rests n s t) (a : Activity) :
    Rests n s (t.schedWithdraw (chDomain n) a) := by
  rw [schedWithdraw_chan]
  exact h.modSched _ _

theorem injBoundary_rests (s : State) (n : ChId) : Rests n s (s.injBoundary n) := by
  obtain ⟨hkey, -⟩ := leaveKeys n
  unfold State.injBoundary
  extract_lets u
  have hu : Rests n s u := by
    have hrefl := Rests.refl n s
    exact hrefl.ite (hrefl.abortTest _)
  clear_value u
  split
  · exact hu
  · extract_lets next v w
    have hv : Rests n s v := hu.modCh n _
    have hw : Rests n s w := (hv.setReg _ hkey).ite hv
    exact (hw.schedEnd.ite hw).ite (hw.schedWithdraw _)

theorem turnTo_beside (s : State) (n : ChId) (x : Int) : Beside n s (s.turnTo n x) := (Early.modCh n s _).beside

theorem setReg_beside (n : ChId) (s : State) (k : Key) (v : Int) : Beside n s (s.setReg k v) := .of_parts

theorem homeNow_beside (s : State) (n : ChId) : Beside n s (s.homeNow n) := by
  unfold State.homeNow
  split
  · exact .refl n s
  · extract_lets old u v
    have hu : Beside n s u := turnTo_beside s n _
    have hv : Beside n s v := (hu.trans (setReg_beside n _ _ _)).trans (setReg_beside n _ _ _)
    exact hv.trans (Early.modFront n v _).beside

theorem alignKey (n : ChId) (q : Fin 2) : Reg.PT_ALIGN_CNT q ≠ Reg.CH_DISCARD_CNT n := by decide +revert

theorem alignTo_beside (s : State) (n : ChId) (target homed ofs : Int) (q : Fin 2) :
    Beside n s (s.alignTo n target homed ofs q) := by
  unfold State.alignTo
  extract_lets old u v
  have hu : Beside n s u := turnTo_beside s n _
  have hv : Beside n s v := (hu.trans (setReg_beside n _ _ _)).trans (setReg_beside n _ _ _)
  clear_value v
  split
  · exact hv
  · have hkey := alignKey n q
    refine hv.trans (Rests.beside (n := n) (((Rests.refl n v).bump hkey).each _ fun w m hw => ?_))
    exact (hw.modEmu m _).ite hw

theorem alignNow_beside (s : State) (n : ChId) : Beside n s (s.alignNow n) := by
  unfold State.alignNow
  split
  · exact .refl n s
  · exact (alignTo_beside s n _ _ _ _).trans (Early.modFront n _ _).beside

theorem boundary_beside (s : State) (n : ChId) : Beside n s (s.boundary n) :=
  ((injBoundary_rests s n).beside.trans (homeNow_beside _ n)).trans (alignNow_beside _ n)

/-- The start of a sample at whose boundary nothing waits: at most a pending test has ended. -/
structure PlainStart (n : ChId) (s u : State) : Prop where
  early : Early n s u
  front : u.front = s.front
  watch : u.watch = s.watch
  chan : u.ch[n] = { s.ch[n] with inj := u.ch[n].inj }
  injected : u.ch[n].inj.n = s.ch[n].inj.n
  running : u.ch[n].inj.state = .running ↔ s.ch[n].inj.state = .running
  value : u.ch[n].inj.value = s.ch[n].inj.value
  stopping : u.ch[n].inj.stopping = s.ch[n].inj.stopping
  discards : u.reg (Reg.CH_DISCARD_CNT n) = s.reg (Reg.CH_DISCARD_CNT n)

theorem PlainStart.refl (n : ChId) (s : State) : PlainStart n s s := ⟨.refl n s, rfl, rfl, rfl, rfl, .rfl, rfl, rfl, rfl⟩

/-- A test that is not running injects nothing. -/
theorem Inject.value_idle {j : Inject} (h : j.state ≠ .running) : j.value = 0 := if_pos h

theorem testCheck_plain {s : State} {n : ChId} (h : s.ch[n].inj.state = .running → s.testGoesOn n = true) :
    PlainStart n s (s.testCheck n) := by
  unfold State.testCheck
  by_cases hg : s.testGoesOn n = true
  · rw [if_pos hg]
    exact .refl n s
  · rw [if_neg hg]
    have hrun : s.ch[n].inj.state ≠ .running := fun hr => hg (h hr)
    by_cases hp : s.ch[n].inj.state = .pending
    · rw [abortTest_pending _ hp]
      obtain ⟨f, hf⟩ : ∃ f : Chan → Chan, f = fun c => { c with inj := { c.inj with state := .aborted } } := ⟨_, rfl⟩
      rw [← hf]
      have hself : ((s.modCh n f).setReg (Reg.CH_INJ_ABORT n) (Int.ofNat (s.testReason n))).ch[n] = f s.ch[n] :=
        modCh_self s n f
      have hset := Early.setReg n (s.modCh n f) (Int.ofNat (s.testReason n))
        (show Reg.CH_INJ_ABORT n ∈ laneMoved n by simp [laneMoved])
      have hearly := (Early.modCh n s f).trans hset
      have hfront : ((s.modCh n f).setReg (Reg.CH_INJ_ABORT n) (Int.ofNat (s.testReason n))).front = s.front := rfl
      have hcount : ((s.modCh n f).setReg (Reg.CH_INJ_ABORT n) (Int.ofNat (s.testReason n))).reg (Reg.CH_DISCARD_CNT n) =
        s.reg (Reg.CH_DISCARD_CNT n) := State.reg_setReg_ne (s.modCh n f) _ (leaveKeys n).1
      have hwatch : ((s.modCh n f).setReg (Reg.CH_INJ_ABORT n) (Int.ofNat (s.testReason n))).watch = s.watch := rfl
      generalize (s.modCh n f).setReg (Reg.CH_INJ_ABORT n) (Int.ofNat (s.testReason n)) = v at *
      have hch : ∀ g, (v.modSched (chDomain n) g).ch[n] = f s.ch[n] := fun _ => hself
      have hsched : ∀ g, Early n v (v.modSched (chDomain n) g) := fun _ => ⟨.of_parts, rfl, rfl, fun _ _ => rfl⟩
      subst hf
      refine ⟨hearly.trans (hsched _), hfront, hwatch, ?_, ?_, ?_, ?_, ?_, hcount⟩
      · rw [hch]
      · rw [hch]
      · rw [hch]
        exact ⟨fun h => (nomatch h), fun h => absurd h hrun⟩
      · rw [hch, Inject.value_idle hrun]
        exact Inject.value_idle fun h => (nomatch h)
      · rw [hch]
    · rw [abortTest_none _ hp hrun]
      exact .refl n s

theorem boundary_plain {s : State} {n : ChId} (h : s.PlainSample n) : PlainStart n s (s.boundary n) := by
  obtain ⟨hhome, halign, -, hstop, hrun⟩ := h
  have hcheck := testCheck_plain hrun
  have hinj : s.injBoundary n = s.testCheck n := by
    unfold State.injBoundary
    dsimp only
    rw [hcheck.stopping, hstop]
  unfold State.boundary
  rw [hinj]
  generalize s.testCheck n = u at *
  have hh : u.homeNow n = u := if_pos (by rw [hcheck.front, hhome]; rfl)
  rw [hh]
  unfold State.alignNow
  rw [hcheck.front, halign]
  exact hcheck

/-! ### A channel that is off (R97) -/

/-- A sample of a channel that is off leaves its loop and its angle, and no motion. -/
structure OffSampled (n : ChId) (s t : State) : Prop where
  beside : Beside n s t
  state : t.ch[n].state = s.ch[n].state
  loop : t.ch[n].loop = s.ch[n].loop
  pos : t.ch[n].out.pos = s.ch[n].out.pos
  still : t.ch[n].out.vel = 0 ∧ t.ch[n].out.acc = 0
  time : t.ch[n].out.time = s.t0 n

theorem OffSampled.rests {n : ChId} {s t u : State} (h : OffSampled n s t) (g : Rests n t u) : OffSampled n s u := by
  obtain ⟨gl, gs, go⟩ := g.chan n
  exact ⟨h.beside.trans g.beside, gs.trans h.state, gl.trans h.loop, by rw [go]; exact h.pos, by rw [go]; exact h.still,
    by rw [go]; exact h.time⟩

theorem sampleOff_sampled (s : State) (n : ChId) : OffSampled n s (s.sampleOff n) := by
  unfold State.sampleOff
  extract_lets u v w x y
  have hu : Rests n s u := injBoundary_rests s n
  have hv : Rests n s v := hu.modWatch n _
  have hmon := monitors_monitored v n .off false false false
  have hw : Beside n s w ∧ w.laneSeen n = { s.laneSeen n with runs := v.runsAfter n .off false } :=
    ⟨hv.beside.trans hmon.beside, hmon.seen.trans (by rw [hv.laneSeen])⟩
  clear_value w
  obtain ⟨hbeside, hseen⟩ := hw
  have hx : x.ch[n] = { w.ch[n] with out := w.outRecord n true false 0 0, outLoop := w.ch[n].loop } := modCh_self w n _
  have hxbeside : Beside n s x := hbeside.trans (Early.modCh n w _).beside
  clear_value x
  refine OffSampled.rests (t := x) ?_ ((((Rests.refl n x).monSources .off x.ch[n].mon).scdWrite _).capRec _ _ _)
  refine ⟨hxbeside, ?_, ?_, ?_, ?_, ?_⟩
  · rw [hx]
    exact congrArg LaneView.state hseen
  · rw [hx]
    exact congrArg LaneView.loop hseen
  · rw [hx]
    exact congrArg (fun v : LaneView => v.out.pos) hseen
  · rw [hx]
    exact ⟨rfl, rfl⟩
  · rw [hx]
    change w.t0 n = s.t0 n
    unfold State.t0 State.timeNow
    rw [hbeside.time]

end Sys2Proof.Machine
end

section
/-!
PROOFS. A sample at a boundary where nothing waits, state by state (R76, R77, R97 to R101, R109, R110).
-/

namespace Sys2Proof.Machine

set_option Elab.async false

theorem seedAfter_settle {s : State} {n : ChId} (d : Demod) (discard : Bool) (hs : s.ch[n].state = .settle) :
    s.seedAfter n d discard =
      s.front[n].settle.after (s.seedReady n) discard (periodSamples s.exc[s.excIx n].freq) d.sd d.cd := if_pos hs

section
variable {s u t : State} {n : ChId} {d : Demod} (hp : PlainStart n s u)
include hp

/-! ### What the sample goes by -/

theorem PlainStart.state : u.ch[n].state = s.ch[n].state := (congrArg Chan.state hp.chan :)

theorem PlainStart.loop : u.ch[n].loop = s.ch[n].loop := (congrArg Chan.loop hp.chan :)

theorem PlainStart.out : u.ch[n].out = s.ch[n].out := (congrArg Chan.out hp.chan :)

theorem PlainStart.stepOf (e inj : Int) : u.stepOf n e inj = s.stepOf n e inj :=
  hp.early.stepOf (congrArg Chan.bankB hp.chan :) (congrArg Chan.satVel hp.chan :) hp.loop e inj

theorem PlainStart.demod (xs xc : BitVec 16) : u.demod n xs xc = s.demod n xs xc :=
  hp.early.demod hp.loop (congrArg Chan.trims hp.chan :) xs xc

theorem PlainStart.clear : u.discards n = false ↔ s.ClearHatband n := by
  rw [discards_false]
  unfold State.ClearHatband
  rw [hp.watch]

theorem PlainStart.unclear (h : ¬ s.ClearHatband n) : u.discards n = true := by
  rw [← hp.clear, Bool.not_eq_false] at h
  exact h

theorem PlainStart.stepped : u.stepped n = s.ch[n].state.steps s.front[n].settle := by
  rw [stepped_eq, hp.state, hp.front]

theorem PlainStart.normalState : u.normalState n = s.normalState n := by
  unfold State.normalState
  rw [hp.state, hp.front]

/-- An accepted sample injects what the test gives. -/
theorem PlainStart.injected_accepted : u.injected n true = s.ch[n].inj.value := by
  unfold State.injected State.injects
  rw [hp.value, Bool.true_and]
  split
  · rfl
  · next h => exact (Inject.value_idle fun hr => h (decide_eq_true (hp.running.2 hr))).symm

theorem PlainStart.runsWith (l : Loop) : u.runsWith n l = s.runsWith n l := by
  obtain ⟨-, -, -, -, -, htrk, hvel, hacc, -⟩ := laneKeys n
  unfold State.runsWith
  rw [hp.watch, hp.early.regs _ htrk, hp.early.regs _ hvel, hp.early.regs _ hacc]

/-! ### The loop -/

variable (h : Sampled n d u t)
include h

theorem PlainStart.loop_accepted (hn : s.normalState n = true) (hc : s.ClearHatband n) :
    t.ch[n].loop = (s.stepOf n d.e s.ch[n].inj.value).loop := by
  have ha : u.accepts n (u.discards n) = true := by
    unfold State.accepts
    rw [hp.clear.2 hc, hp.normalState, hn]
    rfl
  refine h.loop.trans ?_
  change u.laneLoop n _ d.e _ = _
  rw [ha, hp.injected_accepted]
  unfold State.laneLoop
  rw [if_pos rfl, hp.stepOf]

theorem PlainStart.loop_refused (ha : s.normalState n = false ∨ ¬ s.ClearHatband n) :
    t.ch[n].loop = if s.ch[n].state.steps s.front[n].settle = true then
      (holdStep (s.reg (Reg.CH_VEL_FS n)) s.ch[n].loop).1 else s.ch[n].loop := by
  obtain ⟨hvel, -⟩ := laneKeys n
  have hno : u.accepts n (u.discards n) = false := by
    unfold State.accepts
    rcases ha with hn | hc
    · rw [hp.normalState, hn]
      rfl
    · rw [hp.unclear hc, Bool.not_true, Bool.and_false]
  refine h.loop.trans ?_
  change u.laneLoop n _ d.e _ = _
  rw [hno]
  unfold State.laneLoop
  rw [if_neg Bool.false_ne_true, hp.stepped, hp.early.regs _ hvel, hp.loop]

/-! ### The seed -/

theorem PlainStart.settle : t.front[n].settle = s.seedAfter n d (u.discards n) :=
  (congrArg Prod.fst h.seeds).trans (hp.early.seedAfter hp.state hp.front d (u.discards n))

theorem PlainStart.frozen (hs : t.ch[n].state.steps (s.seedAfter n d (u.discards n)) = false) :
    t.ch[n].out.pos = s.ch[n].out.pos ∧ t.ch[n].out.vel = 0 ∧ t.ch[n].out.acc = 0 := by
  rw [← hp.out]
  refine h.frozen ?_
  rw [hp.early.seedAfter hp.state hp.front]
  exact hs

theorem PlainStart.moved (hs : t.ch[n].state = .track ∨ t.ch[n].state = .coast) :
    t.ch[n].out.pos = pos40 s.ch[n].loop.th s.ch[n].loop.carry := by
  rw [← hp.loop]
  refine h.moved ?_
  rcases hs with hs | hs <;> rw [hs] <;> rfl

theorem PlainStart.stays (hs : s.ch[n].state ≠ .track) : t.ch[n].state = s.ch[n].state := by
  rw [← hp.state] at hs ⊢
  exact h.stays hs

/-! ### The states -/

theorem PlainStart.of_invalid (hs : s.ch[n].state = .invalid) : t.ch[n].state = .invalid ∧ t.ch[n].loop = s.ch[n].loop ∧
    t.ch[n].out.pos = s.ch[n].out.pos ∧ t.ch[n].out.vel = 0 ∧ t.ch[n].out.acc = 0 := by
  have hstay : t.ch[n].state = .invalid := (hp.stays h (by rw [hs]; decide)).trans hs
  have hloop := hp.loop_refused h (.inl (by unfold State.normalState; rw [hs]))
  rw [hs] at hloop
  exact ⟨hstay, hloop, hp.frozen h (by rw [hstay]; rfl)⟩

theorem PlainStart.of_coast (hs : s.ch[n].state = .coast) :
    t.ch[n].loop = (holdStep (s.reg (Reg.CH_VEL_FS n)) s.ch[n].loop).1 ∧
    t.ch[n].out.pos = pos40 s.ch[n].loop.th s.ch[n].loop.carry := by
  have hstay : t.ch[n].state = .coast := (hp.stays h (by rw [hs]; decide)).trans hs
  have hloop := hp.loop_refused h (.inl (by unfold State.normalState; rw [hs]))
  rw [hs] at hloop
  exact ⟨hloop, hp.moved h (.inr hstay)⟩

/-- A settling channel whose loop runs. -/
theorem PlainStart.of_running (hs : s.ch[n].state = .settle) (hf : s.front[n].settle = .running) (hc : s.ClearHatband n)
    (hr : s.ch[n].inj.state ≠ .running) : t.ch[n].loop = (s.stepOf n d.e 0).loop := by
  have hloop := hp.loop_accepted h (by unfold State.normalState; rw [hs, hf]; rfl) hc
  rw [Inject.value_idle hr] at hloop
  exact hloop

theorem PlainStart.of_holding {k : Nat} (hs : s.ch[n].state = .settle) (hf : s.front[n].settle = .holding k) :
    t.front[n].settle = .holding (k - 1) ∧ t.ch[n].loop = (holdStep (s.reg (Reg.CH_VEL_FS n)) s.ch[n].loop).1 := by
  have hloop := hp.loop_refused h (.inl (by unfold State.normalState; rw [hs, hf]; rfl))
  rw [hs, hf] at hloop
  refine ⟨?_, hloop⟩
  rw [hp.settle h, seedAfter_settle _ _ hs, hf]
  rfl

/-- A cold settle before its seed: the loop stands, and the record with it. -/
theorem PlainStart.of_unseeded (hs : s.ch[n].state = .settle)
    (hf : s.front[n].settle = .waiting ∨ ∃ k a b, s.front[n].settle = .seeding k a b) :
    t.ch[n].loop = s.ch[n].loop ∧ t.ch[n].out.pos = s.ch[n].out.pos ∧ t.ch[n].out.vel = 0 := by
  have hstay : t.ch[n].state = .settle := (hp.stays h (by rw [hs]; decide)).trans hs
  have hstand : s.normalState n = false ∧ s.ch[n].state.steps s.front[n].settle = false ∧
      ChState.steps .settle (s.seedAfter n d (u.discards n)) = false := by
    rw [seedAfter_settle _ _ hs]
    unfold State.normalState Settle.after
    rw [hs]
    rcases hf with hf | ⟨k, a, b, hf⟩
    · rw [hf]
      refine ⟨rfl, rfl, ?_⟩
      dsimp only
      split <;> rfl
    · rw [hf]
      refine ⟨rfl, rfl, ?_⟩
      dsimp only
      split <;> rfl
  obtain ⟨hnormal, hsteps, hseed⟩ := hstand
  have hloop := hp.loop_refused h (.inl hnormal)
  rw [hsteps] at hloop
  obtain ⟨hpos, hvel, -⟩ := hp.frozen h (by rw [hstay]; exact hseed)
  exact ⟨hloop, hpos, hvel⟩

/-- A seed that is not full takes the sample. -/
theorem PlainStart.of_seeding {k : Nat} {a b : Int} (hs : s.ch[n].state = .settle)
    (hf : s.front[n].settle = .seeding k a b) (hc : s.ClearHatband n) (hk : k < periodSamples s.exc[s.excIx n].freq) :
    t.front[n].settle = .seeding (k + 1) (a + d.sd) (b + d.cd) := by
  rw [hp.settle h, seedAfter_settle _ _ hs, hf, hp.clear.2 hc]
  exact if_neg (by simpa using hk)

/-- A seed begins with the first sample under a running exciter with a full sense window. -/
theorem PlainStart.of_waiting (hs : s.ch[n].state = .settle) (hf : s.front[n].settle = .waiting) (hc : s.ClearHatband n)
    (hready : s.seedReady n = true) : t.front[n].settle = .seeding 1 d.sd d.cd := by
  rw [hp.settle h, seedAfter_settle _ _ hs, hf, hp.clear.2 hc, hready]
  rfl

/-- A discarded sample holds the loop, injects nothing and is counted; out of TRACK it coasts or is invalid. -/
theorem PlainStart.of_discarded (hs : s.ch[n].state = .track ∨ (s.ch[n].state = .settle ∧ s.front[n].settle = .running))
    (hc : ¬ s.ClearHatband n) :
    t.ch[n].loop = (holdStep (s.reg (Reg.CH_VEL_FS n)) s.ch[n].loop).1 ∧ t.ch[n].inj.n = s.ch[n].inj.n ∧
    t.reg (Reg.CH_DISCARD_CNT n) = satInc 32 (s.reg (Reg.CH_DISCARD_CNT n)) ∧
    (s.ch[n].state = .track → t.ch[n].state = .coast ∨ t.ch[n].state = .invalid) := by
  have hd := hp.unclear hc
  have hloop := hp.loop_refused h (.inr hc)
  have hsteps : s.ch[n].state.steps s.front[n].settle = true := by
    rcases hs with hs | ⟨hs, hf⟩
    · rw [hs]
      rfl
    · rw [hs, hf]
      rfl
  rw [hsteps] at hloop
  refine ⟨hloop, ?_, h.discards.trans ((if_pos hd).trans (by rw [hp.discards])), fun ht => ?_⟩
  · have hno : u.injects n (u.accepts n (u.discards n)) = false := by
      unfold State.injects State.accepts
      rw [hd, Bool.not_true, Bool.and_false, Bool.false_and]
    refine (h.injected.trans (if_neg (by rw [hno]; exact Bool.false_ne_true))).trans hp.injected
  · rw [← hp.state] at ht
    exact (h.moves ht).resolve_left (h.leaves ht hd)

/-- The normal step of a channel in TRACK. -/
theorem PlainStart.of_track (hs : s.ch[n].state = .track) (hc : s.ClearHatband n) :
    t.ch[n].loop = (s.stepOf n d.e s.ch[n].inj.value).loop ∧
    (s.ch[n].inj.state = .running → t.ch[n].inj.n = s.ch[n].inj.n + 1) ∧
    t.front[n].betaN = s.front[n].betaN + 1 ∧
    t.front[n].betaQ = s.front[n].betaQ + mul31 (2 * d.q) (mul31 d.s d.sin + mul31 d.c d.cos) ∧
    t.front[n].betaI = s.front[n].betaI + mul31 (2 * d.r) (mul31 d.s d.sin + mul31 d.c d.cos) := by
  have hn : s.normalState n = true := by unfold State.normalState; rw [hs]
  have ha : u.accepts n (u.discards n) = true := by
    unfold State.accepts
    rw [hp.clear.2 hc, hp.normalState, hn]
    rfl
  refine ⟨hp.loop_accepted h hn hc, fun hr => ?_, ?_⟩
  · have hi : u.injects n (u.accepts n (u.discards n)) = true := by
      unfold State.injects
      rw [ha, hp.running.2 hr]
      rfl
    exact (h.injected.trans (if_pos hi)).trans (by rw [hp.injected])
  · have hseeds := h.seeds
    have haverages : (u.accepts n (u.discards n) && decide (u.ch[n].state = .track)) = true := by
      rw [ha, hp.state, hs]
      rfl
    unfold State.gatheredView at hseeds
    dsimp only at hseeds
    rw [haverages, hp.front] at hseeds
    exact ⟨congrArg (fun x => x.2.2.2) hseeds, congrArg (fun x => x.2.1) hseeds, congrArg (fun x => x.2.2.1) hseeds⟩

/-- The monitors of a channel in TRACK. -/
theorem PlainStart.monitored (hs : s.ch[n].state = .track) (hc : s.ClearHatband n) {l : Loop} (hl : l = t.ch[n].loop) :
    (t.ch[n].state = .track → t.watch[n].runs = s.runsWith n l) ∧
    (t.ch[n].state = .invalid ↔ s.runFull n (s.runsWith n l)) := by
  have hus := hp.state.trans hs
  have hd := hp.clear.2 hc
  rw [hl, h.loop, ← hp.runsWith]
  exact ⟨h.runs hus hd, (h.invalid hus hd).trans (hp.early.runFull _)⟩

end

end Sys2Proof.Machine
end

section
/-!
PROOFS. SAMPLE_PROCESS steps the loop of its channel by the rule of its state and releases a record (R19, R76, R97, R154).
-/

namespace Sys2Proof.Machine

set_option Elab.async false

/-! ### A probe's windows (R63) -/

/-- A sample in a probe's windows changes those alone. -/
theorem probeSample_parts (s : State) (n : ChId) (xs xc : BitVec 16) :
    s.probeSample n xs xc = { s with front := (s.probeSample n xs xc).front } ∧
    (s.probeSample n xs xc).front[n].homePort = s.front[n].homePort ∧
    (s.probeSample n xs xc).front[n].align = s.front[n].align ∧
    (s.probeSample n xs xc).front[n].seeds = s.front[n].seeds := by
  unfold State.probeSample
  split
  · exact ⟨rfl, rfl, rfl, rfl⟩
  · refine ⟨rfl, ?_⟩
    rw [modFront_self]
    exact ⟨rfl, rfl, rfl⟩

theorem probeSample_rests (s : State) (n : ChId) (xs xc : BitVec 16) : Rests n s (s.probeSample n xs xc) := by
  unfold State.probeSample
  have hrefl := Rests.refl n s
  exact hrefl.ite (hrefl.modFront n _)

/-! ### The command -/

/-- Neither the boundary's conditions nor the demodulation read a seed. -/
theorem plainSample_front {s : State} {n : ChId} (v : Vector Front 16) (hhome : v[n].homePort = s.front[n].homePort)
    (halign : v[n].align = s.front[n].align) (h : s.PlainSample n) : ({ s with front := v } : State).PlainSample n := by
  obtain ⟨h₁, h₂, h₃, h₄, h₅⟩ := h
  refine ⟨hhome.trans h₁, halign.trans h₂, h₃, h₄, ?_⟩
  unfold State.testGoesOn State.testAllowed State.feedsActive State.claiming State.feedsOutput State.isActive at h₅ ⊢
  exact h₅

theorem demod_front (s : State) (n : ChId) (v : Vector Front 16) (xs xc : BitVec 16) :
    ({ s with front := v } : State).demod n xs xc = s.demod n xs xc :=
  Early.demod (n := n) (s := s) ⟨.of_parts, rfl, rfl, fun _ _ => rfl⟩ rfl rfl xs xc

/-- A channel that is on. -/
theorem sampleOn_sampled (s : State) (n : ChId) (xs xc : BitVec 16) :
    ∃ ys yc, ((s.boundary n).sup.vanaHold = false → ys = xs ∧ yc = xc) ∧
      Sampled n ((s.boundary n).demod n ys yc) (s.boundary n) (s.sampleOn n xs xc) := by
  refine ⟨_, _, fun hv => ?_, (laneSample_sampled (s.boundary n) n _ _).rests (sampleOn_rests s n xs xc)⟩
  have hno : ¬ (s.boundary n).sup.vanaHold = true := by
    rw [hv]
    exact Bool.false_ne_true
  unfold State.codeS State.codeC
  rw [if_neg hno, if_neg hno]
  exact ⟨rfl, rfl⟩

/-- A sample's record carries its instant, and what is beside its channel stands. -/
structure Released (n : ChId) (s t : State) : Prop where
  beside : Beside n s t
  time : t.ch[n].out.time = s.t0 n

theorem t0_congr {n : ChId} {s t : State} (h : Beside n s t) : t.t0 n = s.t0 n := by
  unfold State.t0 State.timeNow
  rw [h.time]

/-- What a sample of channel `n` with the operands `xs` and `xc` leaves at the end of its command. -/
structure SampleMade (n : ChId) (xs xc : BitVec 16) (s t : State) : Prop where
  released : Released n s t
  off : s.ch[n].state = .off → OffSampled n s t
  plain : s.ch[n].state ≠ .off → s.PlainSample n → ∃ w u, w = { s with front := w.front } ∧
    w.front[n].seeds = s.front[n].seeds ∧ PlainStart n w u ∧ Sampled n (s.demod n xs xc) u t

theorem sample_made (s : State) (n : ChId) (xs xc : BitVec 16) : SampleMade n xs xc s (s.sample n xs xc).settled := by
  have hprobe := probeSample_rests s n (s.codeS n xs) (s.codeC n xc)
  obtain ⟨hparts, hhome, halign, hseeds⟩ := probeSample_parts s n (s.codeS n xs) (s.codeC n xc)
  unfold State.sample
  dsimp only
  generalize s.probeSample n (s.codeS n xs) (s.codeC n xc) = w at *
  have hstate : w.ch[n].state = s.ch[n].state := (hprobe.chan n).2.1
  have hend : ∀ v : State, Rests n v (((v.frameSample n).emuSample n).pswSample n).settled := fun v =>
    ((Rests.refl n v).release n).trans (.settled n _)
  by_cases hoff : w.ch[n].state = .off
  · rw [if_pos hoff]
    have hmade := (sampleOff_sampled w n).rests (hend _)
    generalize ((((w.sampleOff n).frameSample n).emuSample n).pswSample n).settled = t at *
    obtain ⟨hl, -, ho⟩ := hprobe.chan n
    have htime : w.t0 n = s.t0 n := t0_congr hprobe.beside
    have hmade : OffSampled n s t := ⟨hprobe.beside.trans hmade.beside, hmade.state.trans hstate, hmade.loop.trans hl,
      by rw [← ho]; exact hmade.pos, hmade.still, hmade.time.trans htime⟩
    exact ⟨⟨hmade.beside, hmade.time⟩, fun _ => hmade, fun h => absurd (hstate.symm.trans hoff) h⟩
  · rw [if_neg hoff]
    obtain ⟨ys, yc, hcodes, hsampled⟩ := sampleOn_sampled w n xs xc
    have hmade := hsampled.rests (hend _)
    generalize ((((w.sampleOn n xs xc).frameSample n).emuSample n).pswSample n).settled = t at *
    have hbeside := hprobe.beside.trans (boundary_beside w n)
    have htime : (w.boundary n).t0 n = s.t0 n := t0_congr hbeside
    refine ⟨⟨hbeside.trans hmade.beside, hmade.time.trans htime⟩, fun h => absurd (hstate.trans h) hoff, fun _ hplain => ?_⟩
    have hw : w.PlainSample n := hparts ▸ plainSample_front w.front hhome halign hplain
    have hstart := boundary_plain hw
    have hsup : (w.boundary n).sup.vanaHold = false := by
      rw [hstart.early.sup]
      exact hw.2.2.1
    obtain ⟨hys, hyc⟩ := hcodes hsup
    have hdemod : (w.boundary n).demod n ys yc = s.demod n xs xc := by
      rw [hstart.demod, hys, hyc]
      exact (congrArg (fun x : State => x.demod n xs xc) hparts).trans (demod_front s n w.front xs xc)
    rw [hdemod] at hmade
    exact ⟨w, w.boundary n, hparts, hseeds, hstart, hmade⟩

/-! ### The obligation -/

/-- The plain part of a sample of a channel in SETTLE. -/
theorem settle_claim {s w u t : State} {n : ChId} {d : Demod} (hw : w = { s with front := w.front })
    (hseeds : w.front[n].seeds = s.front[n].seeds) (hp : PlainStart n w u) (h : Sampled n d u t) (hplain : s.PlainSample n)
    (hs : s.ch[n].state = .settle) :
    (s.front[n].settle = .running → s.ClearHatband n → t.ch[n].loop = (s.stepOf n d.e 0).loop) ∧
    (∀ k, s.front[n].settle = .holding k → t.front[n].settle = .holding (k - 1) ∧
      t.ch[n].loop = (holdStep (s.reg (Reg.CH_VEL_FS n)) s.ch[n].loop).1) ∧
    (∀ k a b, s.front[n].settle = .seeding k a b → t.ch[n].loop = s.ch[n].loop ∧
      t.ch[n].out.pos = s.ch[n].out.pos ∧ t.ch[n].out.vel = 0 ∧
      (s.ClearHatband n → k < periodSamples s.exc[s.excIx n].freq →
        t.front[n].settle = .seeding (k + 1) (a + d.sd) (b + d.cd))) ∧
    (s.front[n].settle = .waiting → t.ch[n].loop = s.ch[n].loop ∧ t.ch[n].out.pos = s.ch[n].out.pos ∧
      (s.ClearHatband n → s.exc[s.excIx n].state = .run →
        senseWindow s.exc[s.excIx n].freq ≤ s.kelvin[s.excIx n].n → t.front[n].settle = .seeding 1 d.sd d.cd)) := by
  have hsettle : w.front[n].settle = s.front[n].settle := congrArg Prod.fst hseeds
  generalize w.front = v at *
  subst hw
  obtain ⟨-, -, hvana, -, hrun⟩ := hplain
  have hidle : s.ch[n].inj.state ≠ .running := fun hr => by
    have hgo := hrun hr
    unfold State.testGoesOn State.testAllowed at hgo
    rw [hs] at hgo
    exact Bool.false_ne_true hgo
  refine ⟨fun hf hc => hp.of_running h hs (hsettle.trans hf) hc hidle, fun k hf => hp.of_holding h hs (hsettle.trans hf),
    fun k a b hf => ?_, fun hf => ?_⟩
  · obtain ⟨hl, hpos, hvel⟩ := hp.of_unseeded h hs (.inr ⟨k, a, b, hsettle.trans hf⟩)
    exact ⟨hl, hpos, hvel, fun hc hk => hp.of_seeding h hs (hsettle.trans hf) hc hk⟩
  · obtain ⟨hl, hpos, -⟩ := hp.of_unseeded h hs (.inl (hsettle.trans hf))
    refine ⟨hl, hpos, fun hc hrunning hwindow => hp.of_waiting h hs (hsettle.trans hf) hc ?_⟩
    change (decide (s.exc[s.excIx n].state = .run) && decide (senseWindow s.exc[s.excIx n].freq ≤ s.kelvin[s.excIx n].n) &&
      !s.sup.vanaHold) = true
    rw [decide_eq_true hrunning, decide_eq_true hwindow, hvana]
    rfl

/-- The plain part of a clear sample of a channel in TRACK. -/
theorem track_claim {s w u t : State} {n : ChId} {d : Demod} (hw : w = { s with front := w.front })
    (hseeds : w.front[n].seeds = s.front[n].seeds) (hp : PlainStart n w u) (h : Sampled n d u t)
    (hs : s.ch[n].state = .track) (hc : s.ClearHatband n) :
    t.ch[n].loop = (s.stepOf n d.e s.ch[n].inj.value).loop ∧
    (s.ch[n].inj.state = .running → t.ch[n].inj.n = s.ch[n].inj.n + 1) ∧
    (t.ch[n].state = .track ∨ t.ch[n].state = .coast → t.ch[n].out.pos = pos40 s.ch[n].loop.th s.ch[n].loop.carry) ∧
    t.front[n].betaN = s.front[n].betaN + 1 ∧
    t.front[n].betaQ = s.front[n].betaQ + mul31 (2 * d.q) (mul31 d.s d.sin + mul31 d.c d.cos) ∧
    t.front[n].betaI = s.front[n].betaI + mul31 (2 * d.r) (mul31 d.s d.sin + mul31 d.c d.cos) ∧
    ∀ l : Loop, l = (s.stepOf n d.e s.ch[n].inj.value).loop →
      (t.ch[n].state = .track → t.watch[n].runs = s.runsWith n l) ∧
      (t.ch[n].state = .invalid ↔ s.runFull n (s.runsWith n l)) := by
  have hq : w.front[n].betaQ = s.front[n].betaQ := congrArg (fun x => x.2.1) hseeds
  have hi : w.front[n].betaI = s.front[n].betaI := congrArg (fun x => x.2.2.1) hseeds
  have hn : w.front[n].betaN = s.front[n].betaN := congrArg (fun x => x.2.2.2) hseeds
  generalize w.front = v at *
  subst hw
  obtain ⟨hloop, hinj, hbn, hbq, hbi⟩ := hp.of_track h hs hc
  refine ⟨hloop, hinj, fun hst => hp.moved h hst, hbn.trans (congrArg (· + 1) hn), hbq.trans (congrArg (· + _) hq),
    hbi.trans (congrArg (· + _) hi), fun l hl => hp.monitored h hs hc (hl.trans hloop.symm)⟩

/-- The plain part of a discarded sample. -/
theorem discard_claim {s w u t : State} {n : ChId} {d : Demod} (hw : w = { s with front := w.front })
    (hseeds : w.front[n].seeds = s.front[n].seeds) (hp : PlainStart n w u) (h : Sampled n d u t)
    (hs : s.ch[n].state = .track ∨ (s.ch[n].state = .settle ∧ s.front[n].settle = .running)) (hc : ¬ s.ClearHatband n) :
    t.ch[n].loop = (holdStep (s.reg (Reg.CH_VEL_FS n)) s.ch[n].loop).1 ∧ t.ch[n].inj.n = s.ch[n].inj.n ∧
    t.reg (Reg.CH_DISCARD_CNT n) = satInc 32 (s.reg (Reg.CH_DISCARD_CNT n)) ∧
    (s.ch[n].state = .track → t.ch[n].state = .coast ∨ t.ch[n].state = .invalid) := by
  have hsettle : w.front[n].settle = s.front[n].settle := congrArg Prod.fst hseeds
  rw [← hsettle] at hs
  generalize w.front = v at *
  subst hw
  exact hp.of_discarded h hs hc

/-- Settles O13: a sample is its channel's lane step and record, and what follows the record moves neither. -/
theorem sampleStepsTheLoopAndReleasesItsRecord : Obligations.SampleStepsTheLoopAndReleasesItsRecord := by
  unfold Obligations.SampleStepsTheLoopAndReleasesItsRecord
  intro n xs xc s hlanes
  obtain ⟨hreleased, hoff, hplain⟩ := sample_made s n xs xc
  refine ⟨(s.sample n xs xc).settled, if_pos hlanes, ?_⟩
  generalize (s.sample n xs xc).settled = t at *
  obtain ⟨htime, hkelvin, htal, hstore, hport, hothers⟩ := hreleased.beside
  refine ⟨hreleased.time, htime, hkelvin, htal, hstore, hport, hothers, fun hs => ?_, fun hp => ?_⟩
  · have hmade := hoff hs
    exact ⟨hmade.state.trans hs, hmade.loop, hmade.pos, hmade.still.1, hmade.still.2⟩
  · have hmade : s.ch[n].state ≠ .off → _ := fun hs => hplain hs hp
    refine ⟨fun hs => ?_, fun hs => ?_, fun hs => ?_, fun hs hc => ?_, fun hs hc => ?_⟩
    · obtain ⟨w, u, hw, -, hstart, hsampled⟩ := hmade (by rw [hs]; decide)
      generalize w.front = v at *
      subst hw
      exact hstart.of_invalid hsampled hs
    · obtain ⟨w, u, hw, -, hstart, hsampled⟩ := hmade (by rw [hs]; decide)
      generalize w.front = v at *
      subst hw
      exact hstart.of_coast hsampled hs
    · obtain ⟨w, u, hw, hseeds, hstart, hsampled⟩ := hmade (by rw [hs]; decide)
      exact settle_claim hw hseeds hstart hsampled hp hs
    · have hon : s.ch[n].state ≠ .off := by
        rcases hs with hs | ⟨hs, -⟩ <;> rw [hs] <;> decide
      obtain ⟨w, u, hw, hseeds, hstart, hsampled⟩ := hmade hon
      exact discard_claim hw hseeds hstart hsampled hs hc
    · obtain ⟨w, u, hw, hseeds, hstart, hsampled⟩ := hmade (by rw [hs]; decide)
      obtain ⟨hloop, hinj, hpos, hbn, hbq, hbi, hmon⟩ := track_claim hw hseeds hstart hsampled hs hc
      refine ⟨hloop, hinj, hpos, hbn, hbq, hbi, fun l hl a b c ha hb hcc => ?_⟩
      obtain ⟨hruns, hinvalid⟩ := hmon l hl
      subst ha hb hcc
      refine ⟨fun ht => ?_, hinvalid⟩
      have hall := hruns ht
      exact ⟨congrArg Prod.fst hall, congrArg (fun x => x.2.1) hall, congrArg (fun x => x.2.2) hall⟩

end Sys2Proof.Machine
end
